-- ==== Sys2Proof/Word.lean ====
section
/-! DEFINITION. The word types of the register file and of the memories. -/

namespace Sys2Proof

/-- A register: 32 bits (R6). -/
abbrev Word := BitVec 32

/-- The smallest addressable unit of the memories and of frame contents. -/
abbrev Byte := BitVec 8

end Sys2Proof
end

