-- ==== Sys2Proof/Syntax.lean ====
section
/-! DEFINITION. The commands of the block and the data they carry: one constructor of `Instr` for
every row of the opcode table. Every command's first operand `dt` is the time since the previous
command, in ticks of the 2 ns TIME clock (R203). -/

namespace Sys2Proof.Machine

/-- Boundary types, finest first (R14, R43). -/
inductive Boundary where
  | line | block | page | epoch
deriving DecidableEq, Repr

/-- The masters of R647; `hw` is the device's own hardware, which R590 lists beside them. -/
inductive Master where
  | hw | host | core0 | core1 | core2 | core3 | other | boot
deriving DecidableEq, Repr

/-- Unit types (R32). `mbxBar2` stands for the BAR2 register map of R535. -/
inductive UnitType where
  | device | sys | clk | thm | serdes | lane | camp | time | trig | sense | web | lport | strip | ctx
  | stitch | refs | codec | tango | seg | tag | latgov | axis | dmc | host | dma | mbx | mbxBar2 | ring
  | evt | errlog | cal | lock
deriving DecidableEq, Repr

/-- A unit of the local device: its type and instance (R30). The DEVICE windows 0x3FD, 0x3FE and
0x3FF of the three ring levels (R36) are DEVICE instances 1, 2 and 3. -/
structure UnitId where
  ty : UnitType
  inst : Nat
deriving DecidableEq, Repr

/-- A register read: the master that reads, the byte enables of the word it addresses (R7), the length in words of a host's
request (R483). -/
structure Reader where
  master : Master
  be : Nat
  words : Nat
deriving DecidableEq, Repr

/-- A host read of a word mailbox: mailbox, byte enables and length in words (R7, R483, R507). -/
structure BoxRead where
  box : Nat
  be : Nat
  words : Nat
deriving DecidableEq, Repr

/-- What befalls a word of on-chip memory (R54-R56): which of its 39 stored bits flip, [31:0] data and [38:32] check,
and whether the scrubber reads it then; without, the error waits for the next read. -/
structure Upset where
  flips : Nat
  visit : Bool
deriving DecidableEq, Repr

/-- What the surroundings give a boot (R64, R75, R82): supplies in range at step 1, oscillator
stable, fuse array check, wipe read-back, flash answering in 8D-8D-8D, flash parameter table,
when PORn rises the strap levels, and how long the steps take: microseconds from PORn to the end of step 3, those of
them since the clock monitor was armed, and ticks of 2 ns from there to the end of the boot this command makes; PCI
Express configuration requests that arrive from step 7 to the end of step 9 (log entry 27). -/
structure BootEnv where
  supplies : Bool
  oscStable : Bool
  fuseOk : Bool
  wipeOk : Bool
  flashUp : Bool
  flashTable : Bool
  bootsel : Nat
  boardId : Nat
  preUs : Nat
  armUs : Nat
  ticks : Nat
  cfgReqs : Nat
deriving DecidableEq, Repr

/-- What an encoder input gives an observer update (R251, R253): the bits of its sin and cos modulators
since the last one, 32 to a word with the earliest in bit 0, and whether A or B is in line-break. -/
structure EncIn where
  sin : List Nat
  cos : List Nat
  los : Bool
deriving DecidableEq, Repr

/-- What tells the polarity of an Ethernet lane as it locks (R148): whether its Clause 91 alignment markers are found in
bitwise complement; and of the first 64 blocks after block lock, in order, whether each decodes to a valid block as
received, and once the whole 66-bit block is complemented. -/
structure LaneSeen where
  markersInverted : Bool
  blocks : List (Bool × Bool)
deriving DecidableEq, Repr

/-- A catalogue request as the host delivers it (R514): tag and payload words. -/
structure Msg where
  tag : Nat
  words : List Nat
deriving DecidableEq, Repr

/-- What the port keeps of a leader (R174). -/
structure Leader where
  payloadType : Nat
  format : Nat
  sx : Nat
  sy : Nat
  padx : Nat
deriving DecidableEq, Repr

/-- What an Announce message tells of a master (R206, R216): sender's port identity, grandmaster data
set, steps removed, log interval, UTC offset, flags, time source. -/
structure MasterInfo where
  sender : Nat
  priority1 : Nat
  clockClass : Nat
  accuracy : Nat
  variance : Nat
  priority2 : Nat
  gmId : Nat
  steps : Nat
  logInterval : Int
  utcOffset : Nat
  flags : Nat
  timeSource : Nat
deriving DecidableEq, Repr

/-- A Delay_Resp: the sender's port identity, the requesting port identity and the sequenceId it names (R207, R222). -/
structure DelayResp where
  sender : Nat
  requester : Nat
  seq : Nat
deriving DecidableEq, Repr

/-- What the firmware of control core 2 computes at a Sync: filtered offset before delayAsymmetry (R219), tracker rate,
rate adjustment of the servo (R205). -/
structure TrackerOut where
  ofs : Int
  rate : Int
  adj : Int
deriving DecidableEq, Repr

/-- What CAL_DONE brings that the state does not hold: counts of the slowest stage and of each monitor (TEMPO), shift
and peak of the correlation (SEAM), failed write attempts at the journal (R613). -/
structure CalEnd where
  tempo : List (Nat × Nat)
  dx : Int
  dy : Int
  peak : Int
  badWrites : Nat
deriving DecidableEq, Repr

end Sys2Proof.Machine

namespace Sys2Proof

open Machine

/-- The commands, one constructor for every row of the opcode table. -/
inductive Instr where
  /-- REGISTER_WRITE (R12): master, device address of another device's master, BAR2 instead of BAR0, byte address,
  byte enables, words, data. -/
  | registerWrite (dt : Nat) (m : Master) (dev : Nat) (bar2 : Bool) (addr be n w : Nat)
  /-- STAGED_WRITE (R41): master, unit, offset of the STAGE register, value. -/
  | stagedWrite (dt : Nat) (m : Master) (u : UnitId) (reg w : Nat)
  /-- COMMIT (R42): master, commit unit, BOUNDARY, TAG. -/
  | commit (dt : Nat) (m : Master) (u : UnitId) (bnd : Boundary) (tag : Nat)
  /-- COMMIT_CANCEL (R47): master, commit unit. -/
  | commitCancel (dt : Nat) (m : Master) (u : UnitId)
  /-- COMMIT_APPLY (R44): unit, line counter, page, line of the page, first line of its page. -/
  | commitApply (dt : Nat) (u : UnitId) (line page pageLine : Nat) (first : Bool)
  /-- SEM_READ (R51): reader, device address of another device's master, semaphore. -/
  | semRead (dt : Nat) (m : Reader) (dev n : Nat)
  /-- SEM_RELEASE (R52): master, device address of another device's master, semaphore, value written. -/
  | semRelease (dt : Nat) (m : Master) (dev n w : Nat)
  /-- SRAM_SCRUB (R56): unit of the memory, word, what befalls it and whether the scrubber reads it. -/
  | sramScrub (dt : Nat) (u : UnitId) (a : Nat) (errs : Upset)
  /-- POWER_ON (R75): the surroundings of the boot. -/
  | powerOn (dt : Nat) (env : BootEnv)
  /-- OSC_STABLE_TIMEOUT (R96). -/
  | oscStableTimeout (dt : Nat)
  /-- FLASH_TIMEOUT (R75). -/
  | flashTimeout (dt : Nat)
  /-- ALIVE (R75): the flash is read without error. -/
  | alive (dt : Nat) (flashOk : Bool)
  /-- ALIVE_TIMEOUT (R75). -/
  | aliveTimeout (dt : Nat)
  /-- SEAL (R80). -/
  | seal (dt : Nat)
  /-- SEAL_DEADLINE (R80). -/
  | sealDeadline (dt : Nat)
  /-- DRAM_TRAINING_DONE (R478): every channel trained at all four rates, the narrowest eyes found. -/
  | dramTrainingDone (dt : Nat) (ok : Bool) (eyes : List (Nat × Nat))
  /-- DRAM_WIPE_DONE (R478). -/
  | dramWipeDone (dt : Nat)
  /-- RUNNING (R75). -/
  | running (dt : Nat)
  /-- PERSTN_RISE (R75). -/
  | perstnRise (dt : Nat)
  /-- POR_FALL (R82). -/
  | porFall (dt : Nat)
  /-- SUPPLY_OUT_OF_RANGE (R124). -/
  | supplyOutOfRange (dt : Nat)
  /-- SUPPLY_RESTORED (R124): the surroundings of the boot. -/
  | supplyRestored (dt : Nat) (env : BootEnv)
  /-- DEV_RESET (R84): the surroundings of the boot. -/
  | devReset (dt : Nat) (env : BootEnv)
  /-- CORE_WATCHDOG (R84): control core, the surroundings of the boot. -/
  | coreWatchdog (dt : Nat) (c : Nat) (env : BootEnv)
  /-- CORE_RESET (R84): control core. -/
  | coreReset (dt : Nat) (c : Nat)
  /-- HOST_PORT_RESET (R485): 0 hot reset, 1 function-level reset, 2 DL_Down, 3 PERSTn. -/
  | hostPortReset (dt : Nat) (kind : Nat)
  /-- ITO_FAIL (R98). -/
  | itoFail (dt : Nat)
  /-- WATCH_FAIL (R98). -/
  | watchFail (dt : Nat)
  /-- XTAL_FAIL (R99). -/
  | xtalFail (dt : Nat)
  /-- PLL_FAIL (R97): PLL_DDR instead of PLL_SYS. -/
  | pllFail (dt : Nat) (ddr : Bool)
  /-- REF_FAIL (R100). -/
  | refFail (dt : Nat)
  /-- REF_RECOVERED (R100). -/
  | refRecovered (dt : Nat)
  /-- GATE_CLOSE (R102): node, an access is in progress in its islands. -/
  | gateClose (dt : Nat) (g : Nat) (busy : Bool)
  /-- GATE_CLOSED (R102): node. -/
  | gateClosed (dt : Nat) (g : Nat)
  /-- GATE_TIMEOUT (R106): node. -/
  | gateTimeout (dt : Nat) (g : Nat)
  /-- GATE_OPEN (R104): node. -/
  | gateOpen (dt : Nat) (g : Nat)
  /-- TMON_WINDOW (R110): stages counted by each monitor, slots taken by each strip. -/
  | tmonWindow (dt : Nat) (raw loads : List Nat)
  /-- GOVERNOR_DESCEND (R425). -/
  | governorDescend (dt : Nat)
  /-- CLEAR_MIN (R125). -/
  | clearMin (dt : Nat)
  /-- PSTATE_TARGET (R115): state firmware requests; none: the thermal cap has changed. -/
  | pstateTarget (dt : Nat) (req : Option Nat)
  /-- PSTATE_CHANGE_DONE (R116). -/
  | pstateChangeDone (dt : Nat)
  /-- TEMPO_SHORT (R117). -/
  | tempoShort (dt : Nat)
  /-- AVS_FAIL (R118): command that failed, step of R116 or R117 or 0. -/
  | avsFail (dt : Nat) (cmd step : Nat)
  /-- AVS_ALERT (R119): fault bits of the Status read. -/
  | avsAlert (dt : Nat) (faults : Nat)
  /-- AVS_POLL (R119): voltage in millivolts, current as read. -/
  | avsPoll (dt : Nat) (mv raw : Nat)
  /-- THM_CONVERSION (R127): result of each sensor that completed. -/
  | thmConversion (dt : Nat) (results : List (Option Int))
  /-- SENSOR_TIMEOUT (R128): sensor. -/
  | sensorTimeout (dt : Nat) (k : Nat)
  /-- GRACE_EXPIRED (R133). -/
  | graceExpired (dt : Nat)
  /-- RELAX_STEP (R134). -/
  | relaxStep (dt : Nat)
  /-- CLEAR_PEAK (R139): the strip; none: the sensors. -/
  | clearPeak (dt : Nat) (strip : Option Nat)
  /-- PORT_ENABLE (R145): port. -/
  | portEnable (dt : Nat) (p : Nat)
  /-- SIGNAL_QUALIFIED (R147): port. -/
  | signalQualified (dt : Nat) (p : Nat)
  /-- CDR_LOCKED (R146): port. -/
  | cdrLocked (dt : Nat) (p : Nat)
  /-- TRAINING_FRAME (R152): port, lane of the port, bytes of the frame. -/
  | trainingFrame (dt : Nat) (p l : Nat) (frame : List Nat)
  /-- TRAINING_COMPLETE (R146): port, taps each lane's far transmitter ended with. -/
  | trainingComplete (dt : Nat) (p : Nat) (eq : List (Nat × Nat × Nat × Nat))
  /-- ADAPT_CONVERGED (R146): port, CTLE setting each lane converged to. -/
  | adaptConverged (dt : Nat) (p : Nat) (ctle : List Nat)
  /-- BLOCK_LOCK (R148): port, what tells the polarity of each lane of an Ethernet port. -/
  | blockLock (dt : Nat) (p : Nat) (seen : List LaneSeen)
  /-- ALIGN_DONE (R149): port, lane order found on an Ethernet port, whether the FEC is aligned, deskew in 0.25 ns. -/
  | alignDone (dt : Nat) (p : Nat) (order : List Nat) (fec : Bool) (deskew : Nat)
  /-- CHECK (R154): port, eye height, eye width and loss of each lane. -/
  | check (dt : Nat) (p : Nat) (figs : List (Nat × Nat × Nat))
  /-- BRINGUP_TIMEOUT (R147): port. -/
  | bringupTimeout (dt : Nat) (p : Nat)
  /-- LINK_DOWN (R150): port. -/
  | linkDown (dt : Nat) (p : Nat)
  /-- HOLDOFF_EXPIRED (R150): port. -/
  | holdoffExpired (dt : Nat) (p : Nat)
  /-- BYPASS_OPEN (R161): VBYP in millivolts. -/
  | bypassOpen (dt : Nat) (vbyp : Nat)
  /-- BYPASS_CLOSE (R161): a closing condition of the device instead of a write of 0. -/
  | bypassClose (dt : Nat) (forced : Bool)
  /-- CLEAR_CNT (R598): unit. -/
  | clearCnt (dt : Nat) (u : UnitId)
  /-- CAM_FRAME (R169): camera port, bytes without FCS, the FCS is good, the payload finds no buffer room. -/
  | camFrame (dt : Nat) (k : Nat) (frame : List Nat) (fcsOk overflow : Bool)
  /-- GVSP_LEADER (R179): camera port, block ID, timestamp, leader. -/
  | gvspLeader (dt : Nat) (k id ts : Nat) (ld : Leader)
  /-- GVSP_PAYLOAD (R175): camera port, block ID, packet ID, data, no buffer room. -/
  | gvspPayload (dt : Nat) (k id pid : Nat) (data : List Nat) (overflow : Bool)
  /-- GVSP_TRAILER (R176): camera port, block ID, packet ID, SIZE_Y. -/
  | gvspTrailer (dt : Nat) (k id pid sizeY : Nat)
  /-- ENTRY_TIMEOUT (R182): camera port. -/
  | entryTimeout (dt : Nat) (k : Nat)
  /-- TRIGGER_PULSE (R193). -/
  | triggerPulse (dt : Nat)
  /-- TRIGGER_PULSE_END (R194): trigger output. -/
  | triggerPulseEnd (dt : Nat) (k : Nat)
  /-- LPORT_FRAME (R227): bytes without FCS, the FCS is good, what the tracker computes if it is a Sync. -/
  | lportFrame (dt : Nat) (raw : List Nat) (fcsOk : Bool) (o : TrackerOut)
  /-- PTP_SYNC (R207): domain 0 A or 1 B, sender, sequence number, log interval, two-step, what the tracker
  computes. -/
  | ptpSync (dt : Nat) (d sender seq : Nat) (logInterval : Int) (twoStep : Bool) (o : TrackerOut)
  /-- PTP_FOLLOW_UP (R207): domain, sender, sequence number. -/
  | ptpFollowUp (dt : Nat) (d sender seq : Nat)
  /-- PTP_DELAY_RESP (R207): domain, the message. -/
  | ptpDelayResp (dt : Nat) (d : Nat) (r : DelayResp)
  /-- PTP_ANNOUNCE (R206): domain, what the message tells. -/
  | ptpAnnounce (dt : Nat) (d : Nat) (info : MasterInfo)
  /-- ANNOUNCE_TIMEOUT (R207): domain. -/
  | announceTimeout (dt : Nat) (d : Nat)
  /-- HOLDOVER_EXPIRED (R208). -/
  | holdoverExpired (dt : Nat)
  /-- REVERT_EXPIRED (R210). -/
  | revertExpired (dt : Nat)
  /-- SLEW_DONE (R211). -/
  | slewDone (dt : Nat)
  /-- DELAY_REQ_SEND (R214): domain. -/
  | delayReqSend (dt : Nat) (d : Nat)
  /-- CAM_SYNC_SEND (R215): camera port. -/
  | camSyncSend (dt : Nat) (k : Nat)
  /-- CAM_ANNOUNCE_SEND (R215): camera port. -/
  | camAnnounceSend (dt : Nat) (k : Nat)
  /-- DELAY_REQ (R215): camera port, sequence number, requester, MAC and IPv4 address a unicast one came from. -/
  | delayReq (dt : Nat) (k seq requester : Nat) (back : Option (Nat × Nat))
  /-- STEP_GO (R229). -/
  | stepGo (dt : Nat)
  /-- DOMAIN_FORCE (R210): FORCE. -/
  | domainForce (dt : Nat) (v : Nat)
  /-- NOW_LATCH (R229): reader. -/
  | nowLatch (dt : Nat) (m : Reader)
  /-- TSQ_POP (R221): reader, PTP port. -/
  | tsqPop (dt : Nat) (m : Reader) (p : Nat)
  /-- TIME_ANCHOR (R224). -/
  | timeAnchor (dt : Nat)
  /-- SENSE_OUTPUT (R233): channel, modulator bits since the last output, 32 to a word, the earliest in
  bit 0. -/
  | senseOutput (dt : Nat) (c : Nat) (mods : List Nat)
  /-- SS_GO (R237): channel. -/
  | ssGo (dt : Nat) (c : Nat)
  /-- SS_DONE (R237): channel, modulator bits since the trigger, 32 to a word as in SENSE_OUTPUT. -/
  | ssDone (dt : Nat) (c : Nat) (mods : List Nat)
  /-- MOD_OVERLOAD (R243): channel. -/
  | modOverload (dt : Nat) (c : Nat)
  /-- VIRTUAL_VALUE (R238): channel, statistic offered. -/
  | virtualValue (dt : Nat) (c n : Nat)
  /-- SENSE_STALE (R239): channel. -/
  | senseStale (dt : Nat) (c : Nat)
  /-- BANK_SWAP (R241): bank. -/
  | bankSwap (dt : Nat) (sel : Nat)
  /-- OBSERVER_UPDATE (R255): what the two encoders give. -/
  | observerUpdate (dt : Nat) (e0 e1 : EncIn)
  /-- COAST_TIMEOUT (R260). -/
  | coastTimeout (dt : Nat)
  /-- PAGE_SYNC (R262): nanoseconds since the edge. -/
  | pageSync (dt : Nat) (ago : Nat)
  /-- Z_INDEX (R254): encoder. -/
  | zIndex (dt : Nat) (e : Nat)
  /-- WEB_POS_LATCH (R271): reader. -/
  | webPosLatch (dt : Nat) (m : Reader)
  /-- WEB_HWM_LATCH (R271): reader. -/
  | webHwmLatch (dt : Nat) (m : Reader)
  /-- WEB_LINE_LATCH (R271): reader. -/
  | webLineLatch (dt : Nat) (m : Reader)
  /-- ENC_ZPOS_LATCH (R271): reader, encoder. -/
  | encZposLatch (dt : Nat) (m : Reader) (e : Nat)
  /-- STRIP_LINE (R277): strip. -/
  | stripLine (dt : Nat) (strip : Nat)
  /-- TBL_DATA_WRITE (R286): master, context, word. -/
  | tblDataWrite (dt : Nat) (m : Master) (x w : Nat)
  /-- TBL_DATA_READ (R286): reader, context. -/
  | tblDataRead (dt : Nat) (m : Reader) (x : Nat)
  /-- GEO_DATA_WRITE (R302): master, context, word. -/
  | geoDataWrite (dt : Nat) (m : Master) (x w : Nat)
  /-- GEO_DATA_READ (R302): reader, context. -/
  | geoDataRead (dt : Nat) (m : Reader) (x : Nat)
  /-- STITCH_DELIVER (R313): context. -/
  | stitchDeliver (dt : Nat) (x : Nat)
  /-- STITCH_LINE_OUT (R313). -/
  | stitchLineOut (dt : Nat)
  /-- OVERLAP (R565): link, source, DEST, body. -/
  | overlap (dt : Nat) (l src dest : Nat) (body : List Nat)
  /-- OVERLAP_TIMEOUT (R318). -/
  | overlapTimeout (dt : Nat)
  /-- INGEST_DATA (R336): ingest port, stream bytes. -/
  | ingestData (dt : Nat) (port : Nat) (bytes : List Nat)
  /-- ENCODE_BLOCK (R337). -/
  | encodeBlock (dt : Nat)
  /-- LOAD_COMPLETE (R338): load slot. -/
  | loadComplete (dt : Nat) (i : Nat)
  /-- BAND_FILL (R348). -/
  | bandFill (dt : Nat)
  /-- LOOKAHEAD_ENTER (R359). -/
  | lookaheadEnter (dt : Nat)
  /-- TANGO_FLUSH (R359). -/
  | tangoFlush (dt : Nat)
  /-- ROW_ESTIMATED (R378). -/
  | rowEstimated (dt : Nat)
  /-- TANGO_LINE_OUT (R360). -/
  | tangoLineOut (dt : Nat)
  /-- SEG_LINE (R387). -/
  | segLine (dt : Nat)
  /-- SEG_FLUSH (R390). -/
  | segFlush (dt : Nat)
  /-- TAG_CLASSIFY (R394). -/
  | tagClassify (dt : Nat)
  /-- TAG_SEQUENCE (R400). -/
  | tagSequence (dt : Nat)
  /-- ALERT_PULSE_END (R406). -/
  | alertPulseEnd (dt : Nat)
  /-- LPORT_DATAGRAM (R404). -/
  | lportDatagram (dt : Nat)
  /-- SERVO_PERIOD (R437): axis. -/
  | servoPeriod (dt : Nat) (a : Nat)
  /-- AXIS_STATUS (R439): axis, bytes of the frame. -/
  | axisStatus (dt : Nat) (a : Nat) (bytes : List Nat)
  /-- AXIS_RESP_TIMEOUT (R440): axis. -/
  | axisRespTimeout (dt : Nat) (a : Nat)
  /-- MARK_TAG (R443): axis. -/
  | markTag (dt : Nat) (a : Nat)
  /-- MARK_PULSE (R448): axis. -/
  | markPulse (dt : Nat) (a : Nat)
  /-- MARK_PULSE_END (R448): axis. -/
  | markPulseEnd (dt : Nat) (a : Nat)
  /-- HOME (R452): axis. -/
  | home (dt : Nat) (a : Nat)
  /-- STOP (R453): axis. -/
  | stop (dt : Nat) (a : Nat)
  /-- RESUME (R452): axis. -/
  | resume (dt : Nat) (a : Nat)
  /-- CLEAR_FAULT (R452): axis. -/
  | clearFault (dt : Nat) (a : Nat)
  /-- HOME_TIMEOUT (R452): axis. -/
  | homeTimeout (dt : Nat) (a : Nat)
  /-- DRAM_REQUEST (R468): requester, tier, row hint, usable address, length, data of a write, bits flipped in the
  array, slots until the next request. -/
  | dramRequest (dt : Nat) (q tier : Nat) (hint : Option Bool) (addr len : Nat) (data : Option (List Nat)) (flips slots : Nat)
  /-- REQUEST_URGENT (R468). -/
  | requestUrgent (dt : Nat)
  /-- PAGE_IDLE_CLOSE (R470). -/
  | pageIdleClose (dt : Nat)
  /-- SCRUB_READ (R462): granule, bits flipped in the array. -/
  | scrubRead (dt : Nat) (g flips : Nat)
  /-- REFRESH (R472): channel, bank. -/
  | refresh (dt : Nat) (c bank : Nat)
  /-- MR4_POLL (R472): MR4 of each die, a die reads beyond its range. -/
  | mr4Poll (dt : Nat) (codes : List Nat) (hot : Bool)
  /-- SELF_REFRESH_ENTER (R473). -/
  | selfRefreshEnter (dt : Nat)
  /-- RETRAIN_CHECK (R474): drift of each channel. -/
  | retrainCheck (dt : Nat) (drifts : List Int)
  /-- RETRAIN_DONE (R474): channel, an eye was found. -/
  | retrainDone (dt : Nat) (c : Nat) (eye : Bool)
  /-- CONFIG_REQUEST (R78): a write of Function Mask, MSI-X Enable and Max_Read_Request_Size; none: a read. -/
  | configRequest (dt : Nat) (w : Option (Bool × Bool × Nat))
  /-- LINK_UP (R481): speed and width in the register's codes. -/
  | linkUp (dt : Nat) (speed width : Nat)
  /-- D3HOT_ENTER (R486). -/
  | d3hotEnter (dt : Nat)
  /-- D0_RETURN (R486). -/
  | d0Return (dt : Nat)
  /-- MSIX_UNMASK (R484): vector. -/
  | msixUnmask (dt : Nat) (v : Nat)
  /-- DMA_GO (R491): channel. -/
  | dmaGo (dt : Nat) (n : Nat)
  /-- DMA_STOP (R496): channel. -/
  | dmaStop (dt : Nat) (n : Nat)
  /-- DMA_REARM (R497): channel. -/
  | dmaRearm (dt : Nat) (n : Nat)
  /-- DMA_RESPONSE (R494): access, error, data of a read from host memory. -/
  | dmaResponse (dt : Nat) (id : Nat) (err : Bool) (data : List Nat)
  /-- DESCRIPTOR_COMPLETE (R495): channel. -/
  | descriptorComplete (dt : Nat) (n : Nat)
  /-- DMA_NOACK (R498): access. -/
  | dmaNoack (dt : Nat) (id : Nat)
  /-- DMA_TAG_RETURN (R498): access. -/
  | dmaTagReturn (dt : Nat) (id : Nat)
  /-- PRIV_DMA_GO (R499): master, privileged channel. -/
  | privDmaGo (dt : Nat) (m : Master) (i : Nat)
  /-- STREAM_FLUSH (R502): channel. -/
  | streamFlush (dt : Nat) (n : Nat)
  /-- STREAM_WAITING (R502): stream. -/
  | streamWaiting (dt : Nat) (i : Nat)
  /-- H2F_WRITE (R508): mailbox, word. -/
  | h2fWrite (dt : Nat) (i w : Nat)
  /-- F2H_READ (R507): mailbox and byte enables. -/
  | f2hRead (dt : Nat) (i : BoxRead)
  /-- BLOCK_GO (R509): block 0 or 2, LENGTH and GO as written. -/
  | blockGo (dt : Nat) (k w : Nat)
  /-- BLOCK_RELEASE (R509): block 1 or 3. -/
  | blockRelease (dt : Nat) (k : Nat)
  /-- DOORBELL_RING (R510): word written to DB_RING. -/
  | doorbellRing (dt : Nat) (w : Nat)
  /-- FW_DOORBELL (R512): doorbell. -/
  | fwDoorbell (dt : Nat) (d : Nat)
  /-- TUNNEL_BLOCK_FILL (R529). -/
  | tunnelBlockFill (dt : Nat)
  /-- TUNNEL_BLOCK_SEND (R530). -/
  | tunnelBlockSend (dt : Nat)
  /-- REQUEST_DEFERRED_REPLY (R516): TYPE and TAG of the request. -/
  | requestDeferredReply (dt : Nat) (typ tag : Nat)
  /-- GET_STATUS (R534): the request. -/
  | getStatus (dt : Nat) (m : Msg)
  /-- GET_NONCE (R532): the request. -/
  | getNonce (dt : Nat) (m : Msg)
  /-- RESET (R533): the request, the surroundings of the boot. -/
  | reset (dt : Nat) (m : Msg) (env : BootEnv)
  /-- STAGE_COMMIT (R523): the request. -/
  | stageCommit (dt : Nat) (m : Msg)
  /-- STAGE_ONLY (R523): the request. -/
  | stageOnly (dt : Nat) (m : Msg)
  /-- STAGE_COMMIT_CANCEL (R523): the request. -/
  | stageCommitCancel (dt : Nat) (m : Msg)
  /-- CONTROL (R526): the request. -/
  | control (dt : Nat) (m : Msg)
  /-- EXPOSE (R525): the request. -/
  | expose (dt : Nat) (m : Msg)
  /-- TIME_STEP (R522): the request. -/
  | timeStep (dt : Nat) (m : Msg)
  /-- PAGE_JOB (R339): the request. -/
  | pageJob (dt : Nat) (m : Msg)
  /-- REF_LOAD (R335): the request. -/
  | refLoad (dt : Nat) (m : Msg)
  /-- REF_ABORT (R522): the request. -/
  | refAbort (dt : Nat) (m : Msg)
  /-- REF_RELEASE (R332): the request. -/
  | refRelease (dt : Nat) (m : Msg)
  /-- MAP_LOAD (R382): the request. -/
  | mapLoad (dt : Nat) (m : Msg)
  /-- MAP_ABORT (R383): the request. -/
  | mapAbort (dt : Nat) (m : Msg)
  /-- MAP_RELEASE (R383): the request. -/
  | mapRelease (dt : Nat) (m : Msg)
  /-- MAP_LOAD_COMPLETE (R383). -/
  | mapLoadComplete (dt : Nat)
  /-- TABLE_WRITE (R528): the request, bytes host memory gives, the transfer succeeds. -/
  | tableWrite (dt : Nat) (m : Msg) (data : List Nat) (ok : Bool)
  /-- TABLE_READ (R528): the request, the transfer succeeds. -/
  | tableRead (dt : Nat) (m : Msg) (ok : Bool)
  /-- REF_READBACK (R528): the request, the transfer succeeds. -/
  | refReadback (dt : Nat) (m : Msg) (ok : Bool)
  /-- IMAGE_UPDATE (R531): the request, bytes host memory gives, the transfer succeeds, the flash verifies. -/
  | imageUpdate (dt : Nat) (m : Msg) (data : List Nat) (ok flashOk : Bool)
  /-- SECURE (R88): the request, VFUSE is in range, the surroundings of the boot. -/
  | secure (dt : Nat) (m : Msg) (vfuse : Bool) (env : BootEnv)
  /-- SCRAP (R88): the request, VFUSE is in range, the surroundings of the boot. -/
  | scrap (dt : Nat) (m : Msg) (vfuse : Bool) (env : BootEnv)
  /-- RMA (R88): the request, VFUSE is in range, the surroundings of the boot. -/
  | rma (dt : Nat) (m : Msg) (vfuse : Bool) (env : BootEnv)
  /-- KEY_ADD (R89): the request, VFUSE is in range, the surroundings of the boot. -/
  | keyAdd (dt : Nat) (m : Msg) (vfuse : Bool) (env : BootEnv)
  /-- KEY_REVOKE (R89): the request, VFUSE is in range, the surroundings of the boot. -/
  | keyRevoke (dt : Nat) (m : Msg) (vfuse : Bool) (env : BootEnv)
  /-- ROLLBACK (R89): the request, VFUSE is in range, the surroundings of the boot. -/
  | rollback (dt : Nat) (m : Msg) (vfuse : Bool) (env : BootEnv)
  /-- DEBUG_DISABLE (R92): the request, VFUSE is in range, the surroundings of the boot. -/
  | debugDisable (dt : Nat) (m : Msg) (vfuse : Bool) (env : BootEnv)
  /-- CAL_LANE (R604): the request. -/
  | calLane (dt : Nat) (m : Msg)
  /-- CAL_DRAM (R604): the request. -/
  | calDram (dt : Nat) (m : Msg)
  /-- CAL_SENSE_OFS (R604): the request. -/
  | calSenseOfs (dt : Nat) (m : Msg)
  /-- CAL_SENSE_GAIN (R604): the request. -/
  | calSenseGain (dt : Nat) (m : Msg)
  /-- CAL_ENCODER (R604): the request. -/
  | calEncoder (dt : Nat) (m : Msg)
  /-- CAL_THERMAL (R604): the request. -/
  | calThermal (dt : Nat) (m : Msg)
  /-- CAL_TEMPO (R604): the request. -/
  | calTempo (dt : Nat) (m : Msg)
  /-- CAL_BLACK (R606): the request. -/
  | calBlack (dt : Nat) (m : Msg)
  /-- CAL_FLAT (R607): the request. -/
  | calFlat (dt : Nat) (m : Msg)
  /-- CAL_GEOM (R609): the request. -/
  | calGeom (dt : Nat) (m : Msg)
  /-- CAL_SEAM (R604): the request. -/
  | calSeam (dt : Nat) (m : Msg)
  /-- CAL_DONE (R603): what the procedure measured outside the state. -/
  | calDone (dt : Nat) (e : CalEnd)
  /-- JOURNAL_COMPACT (R616). -/
  | journalCompact (dt : Nat)
  /-- CAL_Q_SELECT (R618): master, word written. -/
  | calQSelect (dt : Nat) (m : Master) (v : Nat)
  /-- FLIT_RECEIVE (R542): link, bytes of the flit. -/
  | flitReceive (dt : Nat) (l : Nat) (raw : List Nat)
  /-- LINK_FAIL (R543): link. -/
  | linkFail (dt : Nat) (l : Nat)
  /-- REEL_START (R547). -/
  | reelStart (dt : Nat)
  /-- REEL (R549): link, source, DEST, body. -/
  | reel (dt : Nat) (l src dest : Nat) (body : List Nat)
  /-- UPL_CREDIT (R549): body received; none: this device's own message. -/
  | uplCredit (dt : Nat) (received : Option (List Nat))
  /-- IDENT (R572): link, source, DEST, body. -/
  | ident (dt : Nat) (l src dest : Nat) (body : List Nat)
  /-- IDENT_RESEND (R572): link. -/
  | identResend (dt : Nat) (l : Nat)
  /-- ENUM (R553): link, source, DEST, body. -/
  | enum (dt : Nat) (l src dest : Nat) (body : List Nat)
  /-- ENUM_CUTOFF (R553). -/
  | enumCutoff (dt : Nat)
  /-- RESULT (R559): link, source, DEST, body. -/
  | result (dt : Nat) (l src dest : Nat) (body : List Nat)
  /-- INSERT_RETRY (R551). -/
  | insertRetry (dt : Nat)
  /-- RING_TIME_EXCHANGE (R569): link. -/
  | ringTimeExchange (dt : Nat) (l : Nat)
  /-- RING_TIME (R569): link, source, DEST, body. -/
  | ringTime (dt : Nat) (l src dest : Nat) (body : List Nat)
  /-- POSITION (R567): link, source, DEST, body. -/
  | position (dt : Nat) (l src dest : Nat) (body : List Nat)
  /-- POSITION_TIMEOUT (R568). -/
  | positionTimeout (dt : Nat)
  /-- SEQ_BEACON_SEND (R564). -/
  | seqBeaconSend (dt : Nat)
  /-- SEQ_BEACON (R564): link, source, DEST, body. -/
  | seqBeacon (dt : Nat) (l src dest : Nat) (body : List Nat)
  /-- RING_MAILBOX (R571): link, source, DEST, body. -/
  | ringMailbox (dt : Nat) (l src dest : Nat) (body : List Nat)
  /-- SYSACC_REQ (R571): link, source, DEST, body. -/
  | sysaccReq (dt : Nat) (l src dest : Nat) (body : List Nat)
  /-- SYSACC_RSP (R571): link, source, DEST, body. -/
  | sysaccRsp (dt : Nat) (l src dest : Nat) (body : List Nat)
  /-- BULK (R572): link, BULK_C instead of BULK_B, source, DEST, body. -/
  | bulk (dt : Nat) (l : Nat) (c : Bool) (src dest : Nat) (body : List Nat)
  /-- COMMIT_GROUP (R570): link, source, DEST, body. -/
  | commitGroup (dt : Nat) (l src dest : Nat) (body : List Nat)
  /-- COMMIT_APPLIED (R570): link, source, DEST, body. -/
  | commitApplied (dt : Nat) (l src dest : Nat) (body : List Nat)
  /-- EVENT_ARRIVAL (R580): producer, source. -/
  | eventArrival (dt : Nat) (p src : Nat)
  /-- EVENT_DELIVERY (R580): channel. -/
  | eventDelivery (dt : Nat) (c : Nat)
  /-- RING_EVENT (R579): link, source, DEST, body. -/
  | ringEvent (dt : Nat) (l src dest : Nat) (body : List Nat)
  /-- EXPORT_DROP (R579): channel. -/
  | exportDrop (dt : Nat) (c : Nat)
  /-- SW_HOST (R575): word written. -/
  | swHost (dt : Nat) (w : Nat)
  /-- SW_FW (R575): word written. -/
  | swFw (dt : Nat) (w : Nat)
  /-- CLR_COAL (R588): channel. -/
  | clrCoal (dt : Nat) (c : Nat)
  /-- GPIO_EDGE (R587): ball, level. -/
  | gpioEdge (dt : Nat) (k : Nat) (high : Bool)
  /-- GPIO_PULSE_END (R587): ball. -/
  | gpioPulseEnd (dt : Nat) (k : Nat)
  /-- ERRLOG_WRITE (R589). -/
  | errlogWrite (dt : Nat)
  /-- ERRLOG_SELECT (R593): master, word written. -/
  | errlogSelect (dt : Nat) (m : Master) (v : Nat)
  /-- SHUTDOWN_LATCH_CLEAR (R138). -/
  | shutdownLatchClear (dt : Nat)
  /-- PERSTN_FALL_BEFORE_RUNNING (R480). -/
  | perstnFallBeforeRunning (dt : Nat)
  /-- QUADRATURE_EDGE (R253): encoder, new levels of A and B. -/
  | quadratureEdge (dt : Nat) (e : Nat) (a z : Bool)
  /-- LANE_EYE_UPDATE (R158): port, lane of the port, eye height and width, loss, symbol errors, corrected and
  uncorrected codewords. -/
  | laneEyeUpdate (dt : Nat) (p l h w loss symerr cor unc : Nat)
  /-- TUNNEL_FRAME_SENT (R530): camera port. -/
  | tunnelFrameSent (dt : Nat) (k : Nat)
  /-- BYPASS_CONNECTED (R161). -/
  | bypassConnected (dt : Nat)
  /-- CAL_TIMEOUT (R602): failed write attempts at the journal. -/
  | calTimeout (dt : Nat) (bad : Nat)
deriving DecidableEq, Repr

end Sys2Proof
end

