-- ==== Sys2Proof/Machine/Bits.lean ====
section
/-! DEFINITION. Bit fields, two's complement, byte order, saturation and list helpers. -/

namespace Sys2Proof.Machine

/-- Bits hi..lo of v. -/
def bits (v hi lo : Nat) : Nat := v / 2 ^ lo % 2 ^ (hi + 1 - lo)

/-- v with bits hi..lo replaced by x. -/
def putBits (v hi lo x : Nat) : Nat :=
  v - bits v hi lo * 2 ^ lo + x % 2 ^ (hi + 1 - lo) * 2 ^ lo

/-- Bit i of v. -/
def bit (v i : Nat) : Bool := v / 2 ^ i % 2 == 1

/-- The bytes of a word that the byte enables name, zero in the others (R7). -/
def bytesOf (be v : Nat) : Nat :=
  ((List.range 4).map fun i => if be / 2 ^ i % 2 = 1 then v / 256 ^ i % 256 * 256 ^ i else 0).foldl (· + ·) 0

/-- 1 for true, 0 for false. -/
def b2n (b : Bool) : Nat := if b then 1 else 0

/-- Signed reading of the low n bits of v, two's complement. -/
def sext (n v : Nat) : Int :=
  let w := v % 2 ^ n
  if w < 2 ^ (n - 1) then (w : Int) else (w : Int) - 2 ^ n

/-- n-bit two's complement of i, wrapping. -/
def wrapN (n : Nat) (i : Int) : Nat := (i % (2 ^ n : Int)).toNat

/-- i limited to lo..hi. -/
def clampI (lo hi i : Int) : Int := if i < lo then lo else if hi < i then hi else i

/-- i limited to the range of an n-bit two's complement number. -/
def clampS (n : Nat) (i : Int) : Int := clampI (-(2 ^ (n - 1))) (2 ^ (n - 1) - 1) i

/-- i limited to the range of an n-bit unsigned number. -/
def clampU (n : Nat) (i : Int) : Nat := (clampI 0 (2 ^ n - 1) i).toNat

/-- Floor division by 2^n with rounding half up: (i + 2^(n-1)) div 2^n. -/
def rshr (i : Int) (n : Nat) : Int := if n = 0 then i else (i + 2 ^ (n - 1)) / (2 ^ n : Int)

/-- Saturating addition to a maximum. -/
def satAdd (max a b : Nat) : Nat := min max (a + b)

/-- The n low bytes of v, least significant first (R11). -/
def le : Nat → Nat → List Nat
  | 0, _ => []
  | n + 1, v => v % 256 :: le n (v / 256)

/-- A number from its bytes, least significant first. -/
def ofLe : List Nat → Nat
  | [] => 0
  | b :: r => b % 256 + 256 * ofLe r

/-- A number from its bytes, most significant first (fields of standard protocol frames, R11). -/
def ofBe (l : List Nat) : Nat := ofLe l.reverse

/-- The n low bytes of v, most significant first. -/
def be (n v : Nat) : List Nat := (le n v).reverse

/-- Bits of v, counted from lo upward, as a list of the positions below n that are 1. -/
def onesBelow (n v : Nat) : List Nat := (List.range n).filter (bit v)

/-- Element i of l, or d beyond its end. -/
def nth {α : Type} (l : List α) (i : Nat) (d : α) : α := l.getD i d

/-- l with element i replaced by f of it; unchanged beyond its end. -/
def upd {α : Type} : List α → Nat → (α → α) → List α
  | [], _, _ => []
  | a :: r, 0, f => f a :: r
  | a :: r, i + 1, f => a :: upd r i f

/-- Value of key k in an association list. -/
def lookupD {α : Type} (k : Nat) (d : α) : List (Nat × α) → α
  | [] => d
  | (j, v) :: r => if j = k then v else lookupD k d r

/-- Association list with key k bound to v. -/
def bindK {α : Type} (k : Nat) (v : α) : List (Nat × α) → List (Nat × α)
  | [] => [(k, v)]
  | (j, w) :: r => if j = k then (k, v) :: r else (j, w) :: bindK k v r

/-- Association list without key k. -/
def dropK {α : Type} (k : Nat) (l : List (Nat × α)) : List (Nat × α) := l.filter fun p => p.1 != k

/-- Value of key k, if any. -/
def findK {α : Type} (k : Nat) : List (Nat × α) → Option α
  | [] => none
  | (j, v) :: r => if j = k then some v else findK k r

/-- Sum of a list of naturals. -/
def sumN (l : List Nat) : Nat := l.foldl (· + ·) 0

/-- Sum of a list of integers. -/
def sumI (l : List Int) : Int := l.foldl (· + ·) 0

/-- Largest element, or d for the empty list. -/
def maxD (d : Nat) (l : List Nat) : Nat := l.foldl Nat.max d

/-- Round to nearest, half up, of a / b for b > 0. -/
def divRound (a : Int) (b : Nat) : Int := (2 * a + b) / (2 * (b : Int))

/-- Largest n with n * n ≤ v, by binary digits from bit k downward. -/
def isqrtFrom (v : Nat) : Nat → Nat → Nat
  | 0, r => if (r + 1) * (r + 1) ≤ v then r + 1 else r
  | k + 1, r =>
    let c := r + 2 ^ (k + 1)
    isqrtFrom v k (if c * c ≤ v then c else r)

/-- Integer square root of a number below 2^128. -/
def isqrt (v : Nat) : Nat := isqrtFrom v 64 0

end Sys2Proof.Machine
end

