-- ==== Sys2Proof/Machine/Angle.lean ====
section
/-! DEFINITION. Angles and square roots as fixed-point numbers (R251, R255, R294). Their precision and
rounding are the model's where the spec gives none (log entry 10). -/

namespace Sys2Proof.Machine

/-- 2π times 10^21. -/
def twoPi21 : Nat := 6283185307179586476925

/-- A vector kept to about 2^120. -/
def trimVec (c s : Int) : Int × Int :=
  let n := Nat.log2 (Nat.max c.natAbs s.natAbs + 1)
  if n ≤ 120 then (c, s) else (c / (2 ^ (n - 120) : Int), s / (2 ^ (n - 120) : Int))

/-- The first n binary digits of the angle of (c, s) in turns, by doubling the angle. -/
def turnBits : Nat → Int → Int → Nat → Nat
  | 0, _, _, acc => acc
  | n + 1, c, s, acc =>
    let b := b2n (decide (s < 0) || (s == 0 && decide (c < 0)))
    let v := trimVec (c * c - s * s) (2 * c * s)
    turnBits n v.1 v.2 (2 * acc + b)

/-- The angle of (c, s) in units of 2^-16 turn, to nearest. -/
def turn16 (c s : Int) : Nat := (turnBits 17 (c * 2 ^ 90) (s * 2 ^ 90) 0 + 1) / 2 % 65536

/-- Σ of a power series term by term in 2^-64 units: `x2` is the squared argument, `k` the index of the
next term's larger divisor. -/
def series64 (x2 : Int) : Nat → Nat → Int → Int → Int
  | 0, _, _, acc => acc
  | n + 1, k, term, acc =>
    let t := -(term * x2) / (2 ^ 64 * ((k - 1) * k : Nat) : Int)
    series64 x2 n (k + 2) t (acc + t)

/-- Sine of x · 2^-64 rad in units of 2^-64, for small angles. -/
def sin64 (x : Int) : Int := series64 (x * x / 2 ^ 64) 14 3 x x

/-- Cosine of x · 2^-64 rad in units of 2^-64. -/
def cos64 (x : Int) : Int := series64 (x * x / 2 ^ 64) 14 2 (2 ^ 64) (2 ^ 64)

/-- Cosine of a phase of n / 2^32 turns in units of 2^-64. -/
def cosTurn32 (n : Nat) : Int :=
  let q := n % 2 ^ 32 / 2 ^ 30
  let x : Int := (n % 2 ^ 30 : Nat) * twoPi21 * 2 ^ 32 / (10 ^ 21 : Int)
  match q with
  | 0 => cos64 x | 1 => -sin64 x | 2 => -cos64 x | _ => sin64 x

/-- Sine of a phase of n / 2^32 turns in units of 2^-64. -/
def sinTurn32 (n : Nat) : Int := cosTurn32 (n + 3 * 2 ^ 30)

end Sys2Proof.Machine
end

