-- ==== Sys2Proof/Machine/TypesCore.lean ====
section
/-! DEFINITION. Data types of the state: commits, error log, event fabric, on-chip memory errors,
values kept per master. -/

namespace Sys2Proof.Machine

/-- One value for each master other than the boot controller (R647). -/
structure PerMaster (α : Type) where
  host : α
  core0 : α
  core1 : α
  core2 : α
  core3 : α
  other : α
deriving DecidableEq, Repr

/-- A pending commit (R42-R47): commit unit, boundary in force, line counter and page counter of
the effective line once known, units it has still to reach, whether that line has entered the commit unit (R47), page a ring-level commit waits for (R48), epoch
number it opened (R197), LT of the write. -/
structure Commit where
  unit : UnitId
  bnd : Boundary
  eff : Option (Nat × Nat)
  todo : List UnitId
  entered : Bool
  page : Option Nat
  epoch : Nat
  at_ : Nat
deriving DecidableEq, Repr

/-- An entry of the error log (R590): LT whose halves are STAMP and LT_HI, unit index. -/
structure ErrEntry where
  seq : Nat
  lt : Nat
  unit : Nat
  code : Nat
  master : Master
  sev : Nat
  rep : Nat
  arg0 : Nat
  arg1 : Nat
  arg2 : Nat
deriving DecidableEq, Repr

/-- An occurrence waiting to be written (R589). -/
structure ErrOcc where
  lt : Nat
  unit : Nat
  code : Nat
  master : Master
  sev : Nat
  arg0 : Nat
  arg1 : Nat
  arg2 : Nat
deriving DecidableEq, Repr

/-- Error log: entries oldest first, occurrences waiting, LT of the newest entry's last merged
occurrence (R591), the entry each master has selected (R593), LT of the last write of an entry (R589). -/
structure ErrlogSt where
  entries : List ErrEntry
  waiting : List ErrOcc
  lastMerge : Nat
  sel : PerMaster Nat
  wrote : Option Nat
deriving DecidableEq, Repr

/-- An open acceptance window of a channel (R580, R584): its arrivals in order, each as LT and producer. -/
structure EvtWindow where
  arrivals : List (Nat × Nat)
deriving DecidableEq, Repr

/-- An export not yet sent (R579): LT of the delivery and deliveries merged into it. -/
structure EvtExport where
  lt : Nat
  coal : Nat
deriving DecidableEq, Repr

/-- Event fabric: open windows and unsent exports by channel, LT of each producer's last assertion
(R581), pending interrupt lines 32q + l of the control cores, GPIO outputs in a pulse. -/
structure EvtSt where
  windows : List (Nat × EvtWindow)
  exports : List (Nat × EvtExport)
  asserted : List (Nat × Nat)
  irqLines : List Nat
  gpioPulse : List Nat
deriving DecidableEq, Repr

/-- The code of on-chip memory (R54): words of 39 stored bits, 32 of data and 7 of check. The stored word is the code of
its data but for the bits that have flipped since; `flips` holds the pattern of every word with one, by unit and word
address, [31:0] data and [38:32] check. A word it does not list holds no error. -/
structure SramSt where
  flips : List ((UnitId × Nat) × Nat)
deriving DecidableEq, Repr

end Sys2Proof.Machine
end

