-- ==== Sys2Proof/Machine/TypesPtp.lean ====
section
/-! DEFINITION. Data types of the PTP messages sent, and of what waits for a camera port's transmitter. -/

namespace Sys2Proof.Machine

/-- How a PTP message goes (R214-R216): MAC addresses from and to; over Annex C the IPv4 addresses and the UDP port, none
over Annex E; version and minor version; the source port identity, clockIdentity and portNumber. -/
structure PtpPath where
  srcMac : Nat
  dstMac : Nat
  udp : Option (Nat × Nat × Nat)
  version : Nat
  minor : Nat
  clock : Nat
  portNo : Nat
deriving DecidableEq, Repr

/-- PTP messages sent (R214-R216): the fields the spec gives. `corr` is the correctionField in
quarters of a nanosecond. -/
inductive PtpOut where
  | sync (domain seq : Nat)
  | followUp (domain seq seconds ns corr : Nat)
  | delayResp (domain seq requester seconds ns corr : Nat)
  | announce (domain seq clockClass accuracy timeSource utcOffset flags steps priority1 priority2 variance gmId : Nat)
  | delayReq (domain seq : Nat)
deriving DecidableEq, Repr

/-- What waits for the end of a tunnel frame on a camera port (R171): a Sync with its sequenceId, whose egress is yet to
come, a PTP general message, an ARP reply. -/
inductive TxJob where
  | sync (seq : Nat)
  | general (path : PtpPath) (m : PtpOut)
  | arp (frame : List Nat)
deriving DecidableEq, Repr

end Sys2Proof.Machine
end

