-- ==== Sys2Proof/Machine/TypesCamp.lean ====
section
/-! DEFINITION. Data types of the state: camera ports and line triggers. -/

namespace Sys2Proof.Machine

/-- CAMP values in force for an entry (R648). -/
structure CampVals where
  width : Nat
  timeout : Nat
  pixfmt : Nat
  byTime : Bool
  pkt : Nat
  tsOff : Int
  tsWin : Nat
  camIp : Nat
  udp : Nat
deriving DecidableEq, Repr

/-- An entry of a trigger queue (R178): number, line counter, LT of the rising edge, epoch, exposure
width applied, EXP_CUT, values in force. -/
structure TrigEntry where
  no : Nat
  line : Nat
  edge : Nat
  epoch : Nat
  width : Nat
  expCut : Bool
  vals : CampVals
deriving DecidableEq, Repr

/-- A block in reassembly (R175, R176): ID, leader values, number of the anchor entry, lines the
block has, bits per pixel, bytes per line and packet, FORMAT cause, last packet ID, last payload
packet ID, next line to close, payload accepted as (offset, bytes) in ascending order, the lines counted as late (true) or
extra (R180). A closed
block is kept after the port leaves UP until its lines run to TIMEOUT (R199). -/
structure CampBlock where
  id : Nat
  leader : Leader
  anchor : Nat
  lines : Nat
  bpp : Nat
  lineBytes : Nat
  pkt : Nat
  badFormat : Bool
  pixfmt : Nat
  lastPid : Nat
  lastPayload : Option Nat
  next : Nat
  chunks : List (Nat × List Nat)
  spilt : List (Nat × Bool)
  ended : Bool
deriving DecidableEq, Repr

/-- A pixel's components, R, G, B or the one of a mono format; none when it is to be filled (R184). -/
abbrev RawPixel := Option (Nat × Nat × Nat)

/-- A line a port has emitted (R188): with close instant t0 (R411, R434). -/
structure CamLine where
  line : Nat
  stamp : Nat
  epoch : Nat
  width : Nat
  expCut : Bool
  short : Bool
  long : Bool
  cause : Nat
  pixfmt : Nat
  pixels : List RawPixel
  t0 : Nat
deriving DecidableEq, Repr

/-- A camera port (R167-R199): open entries oldest first, next entry number, values of the newest
entry, block in reassembly, last leader accepted, ID of the last block opened, entry number after the
last one mapped, whether a leader was accepted and a block opened since ARMED, emitted lines newest
first, a tunnel frame has begun on the wire, what waits for its end (R171). -/
structure CampSt where
  entries : List TrigEntry
  nextNo : Nat
  newest : Option CampVals
  block : Option CampBlock
  leader : Option Leader
  lastId : Option Nat
  nextMap : Nat
  armedLeader : Bool
  armedBlock : Bool
  lines : List CamLine
  tunOn : Bool
  txWait : List TxJob
deriving DecidableEq, Repr

/-- A decided trigger on its way to its instant (R266): line counter, t_L, page counter, page line
index, first line of its page, start position (nm) and pitch (pm) of its page, earliest rising edge
of a late decision (R568). -/
structure Decided where
  line : Nat
  at_ : Nat
  page : Nat
  pageLine : Nat
  first : Bool
  start : Int
  pitch : Nat
  floor : Nat
deriving DecidableEq, Repr

/-- A pulse of output k (R193): line, LT of the rising edge, LT at which it ends, whether it has
ended. -/
structure Pulse where
  k : Nat
  line : Nat
  rise : Nat
  fall : Nat
  done : Bool
deriving DecidableEq, Repr

/-- STAGE words a unit had in force before a commit's effective line, for the lines before it that are still in flight
(R44): unit, effective line, words by offset. -/
structure PastVals where
  unit : UnitId
  line : Nat
  words : List (Nat × Nat)
deriving DecidableEq, Repr

/-- TRIG: decided triggers oldest first, pulses of the outputs newest first (the last of each and those that have not ended), line at which the epoch number last
advanced (R197), lines triggered newest first (the last 2,048), newest line that has entered a unit lines reach after their
trigger (R42), values that lines before a commit keep, the newest commit's first. -/
structure TrigSt where
  decided : List Decided
  pulses : List Pulse
  epochLine : Option Nat
  lines : List Decided
  inside : List (UnitId × Nat)
  past : List PastVals
deriving DecidableEq, Repr

end Sys2Proof.Machine
end

