-- ==== Sys2Proof/Machine/TypesRec.lean ====
section
/-! DEFINITION. The records the device makes for its hosts, its line port and its axes, as data and
as bytes in memory order (R11 and the layout tables of R225, R247, R296, R354, R375, R377, R402,
R403, R407, R454, R503). -/

namespace Sys2Proof.Machine

/-- Time anchor (R225). -/
structure AnchorRec where
  flags : Nat
  device : Nat
  domain : Nat
  lt : Nat
  seconds : Nat
  nanoseconds : Nat
  utcOffset : Nat
  seq : Nat
deriving DecidableEq, Repr

/-- Sense sample (R247). -/
structure SenseRec where
  channel : Nat
  flags : Nat
  stamp : Nat
  value : Int
  epoch : Nat
  seq : Nat
deriving DecidableEq, Repr

/-- Sums of one flicker frequency (R294): Y·cos, Y·sin, cos, sin. -/
structure FlickerSums where
  yc : Int
  ys : Int
  c : Int
  s : Int
deriving DecidableEq, Repr

/-- Level and flicker record (R296). -/
structure LevelRec where
  ctx : Nat
  flags : Nat
  device : Nat
  epoch : Nat
  page : Nat
  stampFirst : Nat
  lineFirst : Nat
  camp : Nat
  nLines : Nat
  nUsed : Nat
  sumC0 : Nat
  sumC1 : Nat
  sumC2 : Nat
  sumY : Nat
  sumSqY : Nat
  f0 : FlickerSums
  f1 : FlickerSums
  minY : Nat
  maxY : Nat
  satLines : Nat
  seq : Nat
deriving DecidableEq, Repr

/-- Page binding (R354). -/
structure BindRec where
  status : Nat
  device : Nat
  page : Nat
  job : Nat
  handle : Nat
  refLines : Nat
  line : Nat
  seq : Nat
deriving DecidableEq, Repr

/-- Page registration (R375). -/
structure PageRec where
  flags : Nat
  device : Nat
  page : Nat
  job : Nat
  handle : Nat
  pageLines : Nat
  refLines : Nat
  sEnd : Int
  tail : Int
  nBlocks : Nat
  nMeasured : Nat
  nFlat : Nat
  nUnref : Nat
  nLockLoss : Nat
  line : Nat
  seq : Nat
deriving DecidableEq, Repr

/-- Mesh row (R377): header and one 8-byte entry per group, as a number. -/
structure MeshRec where
  flags : Nat
  device : Nat
  page : Nat
  row : Nat
  line : Nat
  s : Int
  colBase : Nat
  seq : Nat
  entries : List Nat
deriving DecidableEq, Repr

/-- Snippet (R402): header and one 8-byte entry per pixel, as a number. -/
structure SnipRec where
  flags : Nat
  device : Nat
  rows : Nat
  loc : Nat
  page : Nat
  line : Nat
  cols : Nat
  col : Nat
  pageLine : Nat
  pixels : List Nat
deriving DecidableEq, Repr

/-- Defect tag (R403). -/
structure TagRec where
  cls : Nat
  actions : Nat
  device : Nat
  flags : Nat
  seq : Nat
  loc : Nat
  stamp : Nat
  stampClose : Nat
  line : Nat
  height : Nat
  page : Nat
  job : Nat
  pageLine : Nat
  col : Nat
  width : Nat
  area : Nat
  deMax : Nat
  deMean : Nat
  dlMean : Int
  strong : Nat
  cenCol : Nat
  cenLine : Nat
  peakCol : Nat
  peakLine : Nat
  live : Nat
  ref : Nat
  zone : Nat
  profile : Nat
  confMin : Nat
  folded : Nat
  closeLine : Nat
deriving DecidableEq, Repr

/-- Alarm (R407). -/
structure AlarmRec where
  code : Nat
  state : Nat
  device : Nat
  seq : Nat
  stamp : Nat
  arg0 : Nat
  arg1 : Nat
  line : Nat
  page : Nat
deriving DecidableEq, Repr

/-- Mark outcome (R454). -/
structure MarkRec where
  outcome : Nat
  cause : Nat
  device : Nat
  axis : Nat
  tagSeq : Nat
  stamp : Nat
  x : Int
  err : Int
  margin : Int
  seq : Nat
deriving DecidableEq, Repr

/-- Archive row (R503): header and the slots' bytes. -/
structure ArchRec where
  ratio : Nat
  device : Nat
  present : Nat
  page : Nat
  row : Nat
  line : Nat
  cols : Nat
  seq : Nat
  slots : List Nat
deriving DecidableEq, Repr

/-- Any record. -/
inductive Rec where
  | anchor (r : AnchorRec)
  | sense (r : SenseRec)
  | level (r : LevelRec)
  | bind (r : BindRec)
  | page (r : PageRec)
  | mesh (r : MeshRec)
  | snip (r : SnipRec)
  | tag (r : TagRec)
  | alarm (r : AlarmRec)
  | mark (r : MarkRec)
  | arch (r : ArchRec)
deriving DecidableEq, Repr

/-- n-byte two's complement, little-endian. -/
def leS (n : Nat) (i : Int) : List Nat := le n (wrapN (8 * n) i)

/-- Bytes of a flicker sum group (R296). -/
def FlickerSums.bytes (f : FlickerSums) : List Nat := leS 8 f.yc ++ leS 8 f.ys ++ leS 8 f.c ++ leS 8 f.s

/-- The bytes of a record. -/
def Rec.bytes : Rec → List Nat
  | .anchor r =>
    [0x54, 0x01] ++ le 2 r.flags ++ le 2 r.device ++ [r.domain % 256, 0] ++ le 8 r.lt ++ le 6 r.seconds ++
      le 2 0 ++ le 4 r.nanoseconds ++ le 2 r.utcOffset ++ le 2 r.seq
  | .sense r =>
    [0x53, r.channel % 16] ++ le 2 r.flags ++ le 4 r.stamp ++ leS 4 r.value ++ le 2 r.epoch ++ le 2 r.seq
  | .level r =>
    [0x4C, 0x01, r.ctx % 32, r.flags % 256] ++ le 2 r.device ++ le 2 r.epoch ++ le 4 r.page ++
      le 4 r.stampFirst ++ le 6 r.lineFirst ++ le 2 r.camp ++ le 4 r.nLines ++ le 4 r.nUsed ++
      le 8 r.sumC0 ++ le 8 r.sumC1 ++ le 8 r.sumC2 ++ le 8 r.sumY ++ le 8 r.sumSqY ++ r.f0.bytes ++
      r.f1.bytes ++ le 2 r.minY ++ le 2 r.maxY ++ le 4 r.satLines ++ le 4 r.seq ++ le 4 0
  | .bind r =>
    [0x42, 0x01, r.status % 256, 0] ++ le 2 r.device ++ le 2 0 ++ le 4 r.page ++ le 4 r.job ++
      le 4 r.handle ++ le 4 r.refLines ++ le 6 r.line ++ le 2 r.seq
  | .page r =>
    [0x50, 0x01, r.flags % 256, 0] ++ le 2 r.device ++ le 2 0 ++ le 4 r.page ++ le 4 r.job ++
      le 4 r.handle ++ le 4 r.pageLines ++ le 4 r.refLines ++ leS 2 r.sEnd ++ le 2 0 ++ leS 4 r.tail ++
      le 4 r.nBlocks ++ le 4 r.nMeasured ++ le 4 r.nFlat ++ le 4 r.nUnref ++ le 2 r.nLockLoss ++ le 2 0 ++
      le 6 r.line ++ le 2 r.seq
  | .mesh r =>
    [0x4D, 0x01] ++ le 2 r.flags ++ le 2 r.device ++ le 2 r.entries.length ++ le 4 r.page ++ le 4 r.row ++
      le 6 r.line ++ leS 2 r.s ++ le 4 r.colBase ++ le 4 r.seq ++ r.entries.flatMap (le 8)
  | .snip r =>
    [0x49, 0x01] ++ le 2 r.flags ++ le 2 r.device ++ le 2 r.rows ++ le 4 r.loc ++ le 4 r.page ++
      le 6 r.line ++ le 2 r.cols ++ le 4 r.col ++ le 4 r.pageLine ++ le 32 0 ++ r.pixels.flatMap (le 8)
  | .tag r =>
    [0x44, 0x01, r.cls % 64, r.actions % 256] ++ le 2 r.device ++ le 2 r.flags ++ le 4 r.seq ++ le 4 r.loc ++
      le 4 r.stamp ++ le 4 r.stampClose ++ le 6 r.line ++ le 2 (Nat.min r.height 0xFFFF) ++ le 4 r.page ++
      le 4 r.job ++ le 4 r.pageLine ++ le 4 r.col ++ le 4 r.width ++ le 4 (Nat.min r.area 0xFFFFFFFF) ++
      le 2 r.deMax ++ le 2 r.deMean ++ leS 2 r.dlMean ++ le 2 (Nat.min r.strong 0xFFFF) ++ le 4 r.cenCol ++
      le 4 r.cenLine ++ le 4 r.peakCol ++ le 4 r.peakLine ++ le 4 r.live ++ le 4 r.ref ++
      [r.zone % 16 + r.profile % 8 * 16, r.confMin % 256] ++ le 2 r.folded ++ le 4 r.closeLine
  | .alarm r =>
    [0x41, 0x01, r.code % 256, r.state % 256] ++ le 2 r.device ++ le 2 r.seq ++ le 4 r.stamp ++ le 4 r.arg0 ++
      le 4 r.arg1 ++ le 6 r.line ++ le 2 0 ++ le 4 r.page
  | .mark r =>
    [0x4B, 0x01, r.outcome % 256, r.cause % 256] ++ le 2 r.device ++ [r.axis % 256, 0] ++ le 4 r.tagSeq ++
      le 4 r.stamp ++ leS 4 r.x ++ leS 4 r.err ++ leS 4 r.margin ++ le 2 r.seq ++ le 2 0
  | .arch r =>
    [0x43, 0x01, r.ratio % 8 * 16, 0] ++ le 2 r.device ++ le 2 r.present ++ le 4 r.page ++ le 4 r.row ++
      le 6 r.line ++ le 2 0 ++ le 4 r.cols ++ le 4 r.seq ++ r.slots

/-- Length of a record in bytes. -/
def Rec.size (r : Rec) : Nat := r.bytes.length

end Sys2Proof.Machine
end

