-- ==== Sys2Proof/Machine/TypesPipe.lean ====
section
/-! DEFINITION. Data types of the state: contexts, stitch, and the lines between them. -/

namespace Sys2Proof.Machine

/-- A pixel of the front: components 0-2 in the raw scale (R274), or none when it is FILL. -/
abbrev FrontPx := Option (Int × Int × Int)

/-- A pixel after colour conversion (R306, R310, R312). -/
structure LabPx where
  l : Int
  a : Int
  b : Int
  fill : Bool
  sat : Bool
  seam : Bool
deriving DecidableEq, Repr

/-- A produced column's horizontal output (R304, R306): components, FILL, SAT. -/
structure HPx where
  c0 : Int
  c1 : Int
  c2 : Int
  fill : Bool
  sat : Bool
deriving DecidableEq, Repr

/-- A context's line after colour (R275, R312): COUNT, the produced column of its first kept pixel, its kept columns from
device column `first` upward. -/
structure CtxLine where
  line : Nat
  stamp : Nat
  epoch : Nat
  page : Nat
  pageLine : Nat
  short : Bool
  long : Bool
  lost : Bool
  cause : Nat
  cut : Bool
  adj : Bool
  camp : Nat
  expNs : Nat
  first : Nat
  t0 : Nat
  count : Nat
  col : Nat
  px : List LabPx
deriving DecidableEq, Repr

/-- An open level record (R293-R295): its fields so far, phases, whether a line was used, stamp of the
previous line. -/
structure LevelAcc where
  r : LevelRec
  ph0 : Nat
  ph1 : Nat
  started : Bool
  prevStamp : Nat
deriving DecidableEq, Repr

/-- A context (R272-R296): tables (R285, R302, R307) by word, raw values of the last two lines and spatial
outputs of the last four newest first with their line counters, b of the previous line after
replacement, h of the previous line, CAMP, PAGE and PAGE_LINE of the last line that entered, open level
record, record number, line counter after the last line taken, line from which EN = 0 is in force while older lines
are still to come, lines at the strip's output. -/
structure CtxSt where
  tbl : List (Nat × Nat)
  raw : List (Nat × List FrontPx)
  spat : List (Nat × List FrontPx)
  prevB : List FrontPx
  prevH : List HPx
  prevKey : Option (Nat × Nat × Nat)
  acc : Option LevelAcc
  recSeq : Nat
  nextLine : Nat
  off : Option Nat
  outbox : List CtxLine
deriving DecidableEq, Repr

/-- A stitched line (R316), with COL_BASE in force and the close instant t0 (R411). -/
structure WebLine where
  line : Nat
  stamp : Nat
  epoch : Nat
  page : Nat
  pageLine : Nat
  lostCtx : Nat
  cutCtx : Nat
  seamMiss : Bool
  gap : Bool
  adj : Bool
  colBase : Nat
  t0 : Nat
  px : List LabPx
deriving DecidableEq, Repr

/-- A triggered line that has not left the stitch (R313): t_L, epoch, page, page line index, ports that
made an entry, lines delivered by context, left device's columns, given up, instant at which the own
contexts completed it. -/
structure StitchLine where
  line : Nat
  at_ : Nat
  epoch : Nat
  page : Nat
  pageLine : Nat
  ports : List Nat
  got : List (Nat × CtxLine)
  ovl : Option (List LabPx)
  gaveUp : Bool
  doneAt : Option Nat
deriving DecidableEq, Repr

/-- Sums of a seam over the present block (R317): page, block row, Σ difference, Σ |difference|, columns. -/
structure SeamAcc where
  page : Nat
  row : Nat
  sum : Int
  abs : Nat
  n : Nat
deriving DecidableEq, Repr

/-- STITCH: triggered lines oldest first, seams by left context (32 for the ring seam), line counter after
the last line that left, lines that left and have not entered the look-ahead store, oldest first. -/
structure StitchSt where
  lines : List StitchLine
  seams : List (Nat × SeamAcc)
  nextOut : Nat
  outq : List WebLine
deriving DecidableEq, Repr

end Sys2Proof.Machine
end

