-- ==== Sys2Proof/Machine/Front.lean ====
section
/-! DEFINITION. The front's arithmetic on one line: noise reduction, black, replacement, flat-field and
statistics (R274-R292). -/

namespace Sys2Proof.Machine

/-- Component c of a triple. -/
def tri (t : Int × Int × Int) (c : Nat) : Int := match c with
  | 0 => t.1 | 1 => t.2.1 | _ => t.2.2

/-- Component c of a pixel of a line, if the column lies in it and is not FILL. -/
def pxAt (l : List FrontPx) (p : Int) (c : Nat) : Option Int :=
  if p < 0 then none else (l.getD p.toNat none).map (tri · c)

/-- A correction word's fields (R285). -/
structure CorrWord where
  black : Nat
  gain : Nat
  dpr : Nat

/-- A correction word from its bits. -/
def corrOf (w : Nat) : CorrWord := ⟨bits w 11 0, bits w 27 12, bits w 31 28⟩

/-- The values of a context that a line is filtered with; `wild` gives the free values of reserved modes
(R288, log entry 1). -/
structure FrontCfg where
  comps : Nat
  fill : Nat
  spEn : Bool
  tpEn : Bool
  defExcl : Bool
  tw : List Nat
  thr : Nat → Nat
  black : Int
  gain : Nat → Int
  corr : (col comp : Nat) → CorrWord
  rawBad : (age col comp : Nat) → Bool
  spatBad : (age col comp : Nat) → Bool
  wild : (col comp : Nat) → Int

/-- Weight of the window position (a, b) (R282). -/
def nrWeight (a : Int) (b : Nat) : Int :=
  if b = 0 then (if a = 0 then 4 else 2) else (if a = 0 then 2 else 1)

/-- Weighted mean with halves up, exact (R282, R283). -/
def wMean (l : List (Int × Int)) : Int :=
  let w := sumI (l.map (·.1))
  if w = 0 then 0 else (sumI (l.map fun p => p.1 * p.2) + w / 2) / w

/-- The spatial filter of component c at column p: `lines` are the current line and those before it that are
present; a neighbour lies in the current line's span (R282). -/
def spatial (cfg : FrontCfg) (lines : List (List FrontPx)) (p c : Nat) (x : Int) : Int :=
  let thr : Int := cfg.thr (x / 1024).toNat
  let cand := (List.range 3).flatMap fun b => ([-1, 0, 1] : List Int).filterMap fun a =>
    let q := (p : Int) + a
    match (if q < ((lines.getD 0 []).length : Int) then pxAt (lines.getD b []) q c else none) with
    | none => none
    | some r =>
      let centre := a == 0 && b == 0
      let ok := (!cfg.defExcl || (cfg.corr q.toNat c).dpr == 0) && decide ((r - x).natAbs ≤ thr) &&
        !(decide (0 < b) && cfg.rawBad b q.toNat c)
      if centre || ok then some (nrWeight a b, r) else none
  wMean cand

/-- The temporal filter of component c at column p: `past` are the spatial outputs present, newest first
(R283). -/
def temporal (cfg : FrontCfg) (past : List (List FrontPx)) (p c : Nat) (s0 : Int) : Int :=
  let thr : Int := cfg.thr (s0 / 1024).toNat
  let rest := (List.range 4).filterMap fun k =>
    match pxAt (past.getD k []) p c with
    | some v =>
      if (v - s0).natAbs ≤ thr && !cfg.spatBad (k + 1) p c then some ((cfg.tw.getD (k + 1) 0 : Int), v) else none
    | none => none
  wMean (((cfg.tw.getD 0 1 : Int), s0) :: rest)

/-- A pixel's components mapped, those beyond the format kept zero. -/
def mapComps (n : Nat) (f : Nat → Int → Int) (t : Int × Int × Int) : Int × Int × Int :=
  if n = 1 then (f 0 t.1, 0, 0) else (f 0 t.1, f 1 t.2.1, f 2 t.2.2)

/-- A line's pixels mapped with their columns; FILL pixels stay FILL (R281). -/
def mapLine (n : Nat) (f : Nat → Nat → Int → Int) (l : List FrontPx) : List FrontPx :=
  l.zipIdx.map fun p => p.1.map (mapComps n (f p.2))

/-- Spatial outputs of a line (R282, R284). -/
def spatialLine (cfg : FrontCfg) (lines : List (List FrontPx)) : List FrontPx :=
  mapLine cfg.comps (fun p c x => if cfg.spEn then spatial cfg lines p c x else x) (lines.getD 0 [])

/-- Noise reduction's output (R283, R284). -/
def temporalLine (cfg : FrontCfg) (s : List FrontPx) (past : List (List FrontPx)) : List FrontPx :=
  mapLine cfg.comps (fun p c x => if cfg.tpEn then temporal cfg past p c x else x) s

/-- b of R288 before replacement. -/
def blackLine (cfg : FrontCfg) (t : List FrontPx) : List FrontPx :=
  mapLine cfg.comps (fun p c x => x - (cfg.corr p c).black * 16 - cfg.black) t

/-- A usable source of modes 1-3 (R288). -/
def sideSource (cfg : FrontCfg) (b : List FrontPx) (q : Int) (c : Nat) : Option Int :=
  match pxAt b q c with
  | some v => if (cfg.corr q.toNat c).dpr = 0 then some v else none
  | none => none

/-- Replacement of one component with its fallbacks (R288, R289): the value, and whether a fallback ended
in mode 5. -/
def replace (cfg : FrontCfg) (b prev : List FrontPx) (p c : Nat) (v : Int) : Int × Bool :=
  let left := sideSource cfg b (p - 1) c
  let right := sideSource cfg b (p + 1) c
  let up : Int × Bool := match pxAt prev p c with
    | some w => (w, false)
    | none => (v, true)
  match (cfg.corr p c).dpr with
  | 0 => (v, false)
  | 1 => match left, right with
    | some x, some y => ((x + y + 1) / 2, false)
    | some x, none => (x, false)
    | none, some y => (y, false)
    | none, none => up
  | 2 => match left with
    | some x => (x, false)
    | none => up
  | 3 => match right with
    | some y => (y, false)
    | none => up
  | 4 => up
  | 5 => (v, false)
  | _ => (cfg.wild p c, false)

/-- b after replacement. -/
def replaceLine (cfg : FrontCfg) (b prev : List FrontPx) : List FrontPx :=
  mapLine cfg.comps (fun p c v => (replace cfg b prev p c v).1) b

/-- Number of pixels with a component whose replacement found no source (R289). -/
def noSource (cfg : FrontCfg) (b prev : List FrontPx) : Nat :=
  sumN (b.zipIdx.map fun x => match x.1 with
    | none => 0
    | some t => sumN ((List.range cfg.comps).map fun c => b2n (replace cfg b prev x.2 c (tri t c)).2))

/-- Flat-field of one component before its limits (R290). -/
def flat (cfg : FrontCfg) (p c : Nat) (v : Int) : Int :=
  (v * ((cfg.corr p c).gain : Int) * cfg.gain c + 2 ^ 27) / (2 ^ 28 : Int)

/-- Flat-field's output (R290). -/
def flatLine (cfg : FrontCfg) (b : List FrontPx) : List FrontPx :=
  mapLine cfg.comps (fun p c v => clampI 0 65535 (flat cfg p c v)) b

/-- SAT bits of a line (R290). -/
def satBits (cfg : FrontCfg) (b : List FrontPx) : List Bool :=
  b.zipIdx.map fun x => match x.1 with
    | none => false
    | some t => (List.range cfg.comps).any fun c => decide (65535 < flat cfg x.2 c (tri t c))

/-- DEF bits of a line (R276, R288). -/
def defBits (cfg : FrontCfg) (b : List FrontPx) : List Bool :=
  b.zipIdx.map fun x => x.1.isSome && (List.range cfg.comps).any fun c => (cfg.corr x.2 c).dpr != 0

/-- Y of a pixel (R291). -/
def lumaOf (n : Nat) (t : Int × Int × Int) : Int :=
  if n = 1 then t.1 else (t.1 + 2 * t.2.1 + t.2.2 + 2) / 4

/-- Mean to nearest, halves up; 0 of nothing (R291). -/
def meanOf (l : List Int) : Nat := if l.isEmpty then 0 else (divRound (sumI l) l.length).toNat

/-- The eight statistics of a line over its window (R291). `nr` is noise reduction's output. -/
def lineStats (n first count : Nat) (out nr : List FrontPx) (sat defb : List Bool) : List Nat :=
  let cut {α : Type} (l : List α) : List α := if count = 0 then l else (l.drop first).take count
  let o := (cut out).filterMap id
  let r := (cut nr).filterMap id
  let f := (cut out).map Option.isNone
  let ys := o.map (lumaOf n)
  [meanOf (o.map (·.1)), if n = 1 then 0 else meanOf (o.map (·.2.1)), if n = 1 then 0 else meanOf (o.map (·.2.2)),
   meanOf ys, meanOf (r.map (·.1)), Nat.min 65535 ((cut sat).filter id).length,
   Nat.min 65535 ((f.zip (cut defb)).filter fun p => p.1 || p.2).length,
   (ys.foldl (fun a b => if a < b then b else a) 0).toNat]

/-- Entry k of the 1,024-entry cosine and sine tables (R294). -/
def flkCos (k : Nat) : Int := (32767 * cosTurn32 (k * 2 ^ 22) + 2 ^ 63) / 2 ^ 64
def flkSin (k : Nat) : Int := (32767 * sinTurn32 (k * 2 ^ 22) + 2 ^ 63) / 2 ^ 64

/-- Phase advance between two lines (R294). -/
def flkStep (chz stamp prev : Nat) : Nat :=
  ((2 * ((stamp + 2 ^ 32 - prev) % 2 ^ 32) * chz * 2 ^ 32 + 10 ^ 11) / (2 * 10 ^ 11)) % 2 ^ 32

end Sys2Proof.Machine
end

