-- ==== Sys2Proof/Machine/Geometry.lean ====
section
/-! DEFINITION. Resampling, linearisation, colour conversion and colour difference (R302-R311,
R322-R324). -/

namespace Sys2Proof.Machine

/-- π² times 2^64. -/
def piSq64 : Int := (twoPi21 * twoPi21 * 2 ^ 64 : Nat) / (4 * 10 ^ 42)

/-- Sine of π · m / 64 in units of 2^-64. -/
def sinPi64 (m : Int) : Int := sinTurn32 ((m % 128).toNat * 2 ^ 25)

/-- Sine of π · m / 192 for |m| ≤ 192 in units of 2^-64. -/
def sinPi192 (m : Int) : Int := sin64 (m * twoPi21 * 2 ^ 64 / (2 * 192 * 10 ^ 21 : Int))

/-- round(16,384 × L(m / 64)) (R303). -/
def lanczos (m : Int) : Int :=
  if m = 0 then 16384
  else
    -- sinc(x) · sinc(x/3) = 3 sin(πx) sin(πx/3) / (π² x²), x = m / 64
    let num := 3 * 4096 * 16384 * sinPi64 m * sinPi192 m
    let den := piSq64 * m * m * 2 ^ 64
    (2 * num + den) / (2 * den)

/-- The six weights of KERNEL 0 at a phase, from tap -2 to 3 (R303). -/
def kernel0 (phi : Nat) : List Int :=
  let w := ([-2, -1, 0, 1, 2, 3] : List Int).map fun t => lanczos (64 * t - phi)
  let fix := if phi < 32 then 2 else 3
  upd w fix fun v => v + (16384 - sumI w)

/-- Taps as (offset from n, weight) of a kernel; none of the reserved one (R303). -/
def kernelTaps (kernel phi : Nat) : Option (List (Int × Int)) :=
  match kernel with
  | 0 => some ((([-2, -1, 0, 1, 2, 3] : List Int)).zip (kernel0 phi))
  | 1 => some [(0, 256 * (64 - phi)), (1, 256 * phi)]
  | 2 => some [(if phi < 32 then 0 else 1, 16384)]
  | _ => none

/-- A pixel as the resampler reads it: value, FILL value where the port filled it (R281). -/
def fillOr (fill : Int) (p : FrontPx) : Int × Int × Int := p.getD (fill, fill, fill)

/-- The horizontal output of a produced column (R303, R304, R306). -/
def hPixel (kernel : Nat) (fill : Int) (px : List FrontPx) (sat : List Bool) (u : Nat) (wild : Nat → Int) : HPx :=
  let n : Int := u / 1024
  let last : Int := (px.length : Int) - 1
  match kernelTaps kernel (u / 16 % 64) with
  | none => ⟨clampI 0 65535 (wild 0), clampI 0 65535 (wild 1), clampI 0 65535 (wild 2), false, false⟩
  | some taps =>
    let at_ (o : Int) : Nat := (clampI 0 last (n + o)).toNat
    let sum (c : Nat) : Int :=
      clampI 0 65535 ((sumI (taps.map fun t => t.2 * tri (fillOr fill (px.getD (at_ t.1) none)) c) + 8192) / 16384)
    let live := taps.filter fun t => t.2 != 0
    ⟨sum 0, sum 1, sum 2, live.any fun t => (px.getD (at_ t.1) none).isNone,
     live.any fun t => sat.getD (at_ t.1) false⟩

/-- Vertical interpolation with the previous line's output (R305, R306). -/
def vPixel (h prev : HPx) (v : Nat) : HPx :=
  let mix (x y : Int) : Int := (x * (256 - v) + y * v + 128) / 256
  ⟨mix h.c0 prev.c0, mix h.c1 prev.c1, mix h.c2 prev.c2, h.fill || prev.fill, h.sat || prev.sat⟩

/-- Integer cube root: largest n below 2^(k + 1) with n³ ≤ v, built from r. -/
def cbrtFrom (v : Nat) : Nat → Nat → Nat
  | 0, r => if (r + 1) * (r + 1) * (r + 1) ≤ v then r + 1 else r
  | k + 1, r =>
    let c := r + 2 ^ (k + 1)
    cbrtFrom v k (if c * c * c ≤ v then c else r)

/-- Entry k of the ROM F: round(32,768 × f(k / 1,024)) (R309). -/
def labF (k : Nat) : Int :=
  if 216 * 1024 < k * 24389 then
    -- nearest integer to the cube root of 2^35 k: (floor of twice it + 1) / 2
    ((cbrtFrom (2 ^ 38 * k) 17 0 + 1) / 2 : Nat)
  else divRound (32 * k * 841 * 29 + 131072 * 108) (108 * 29)

/-- F interpolated at t (R309). -/
def labFt (t : Nat) : Int :=
  let g : Int := t % 64
  (labF (t / 64) * (64 - g) + labF (t / 64 + 1) * g + 32) / 64

/-- The colour values of a line: linearisation table, whether it is used, matrix by row and column, mono. -/
structure ColourCfg where
  lin : (comp entry : Nat) → Nat
  linUse : Bool
  m : (row col : Nat) → Int
  mono : Bool

/-- Linearisation of component c (R307). -/
def linear (cfg : ColourCfg) (c : Nat) (r : Int) : Int :=
  if cfg.linUse then
    let n := r.toNat
    ((cfg.lin c (n / 64) : Int) * (64 - (n % 64 : Nat)) + (cfg.lin c (n / 64 + 1) : Int) * (n % 64 : Nat) + 32) / 64
  else r

/-- White-relative tristimulus values (R308, R311). -/
def tristimulus (cfg : ColourCfg) (p : HPx) : Nat × Nat × Nat :=
  let l0 := linear cfg 0 p.c0
  if cfg.mono then
    let y := (clampI 0 131071 ((cfg.m 1 1 * l0 + 4096) / 8192)).toNat
    (y, y, y)
  else
    let l1 := linear cfg 1 p.c1
    let l2 := linear cfg 2 p.c2
    let row (i : Nat) : Nat :=
      (clampI 0 131071 ((cfg.m i 0 * l0 + cfg.m i 1 * l1 + cfg.m i 2 * l2 + 4096) / 8192)).toNat
    (row 0, row 1, row 2)

/-- Colour conversion of a produced column, and whether a limit changed a value of a pixel that is not FILL
(R309). -/
def labOf (cfg : ColourCfg) (p : HPx) : LabPx × Bool :=
  let (x, y, z) := tristimulus cfg p
  let fx := labFt x; let fy := labFt y; let fz := labFt z
  let l := (4640 * fy + 16384) / 32768 - 640
  let a := (2000 * (fx - fy) + 16384) / 32768
  let b := (800 * (fy - fz) + 16384) / 32768
  let l' := clampI 0 4095 l; let a' := clampI (-512) 511 a; let b' := clampI (-512) 511 b
  let lim := !p.fill && (l' != l || a' != a || b' != b)
  (⟨l', a', b', p.fill, p.sat || lim, false⟩, lim)

/-- A pixel as its Lab32 word (R310). -/
def LabPx.word (p : LabPx) : Nat := p.l.toNat + wrapN 10 p.a * 2 ^ 12 + wrapN 10 p.b * 2 ^ 22

/-- A pixel from its Lab32 word. -/
def labOfWord (w : Nat) (fill sat : Bool) : LabPx :=
  ⟨(bits w 11 0 : Nat), sext 10 (bits w 21 12), sext 10 (bits w 31 22), fill, sat, false⟩

/-- Square root to nearest, halves up, of a / b (R323). -/
def sqrtRound (a b : Nat) : Nat := (isqrt (4 * a / b) + 1) / 2

/-- Form 0, CIE ΔE*ab, in units of 1/64 (R323): √(2.56 (dL² + da² + db²)). -/
def deltaE0 (live ref : LabPx) : Nat :=
  let dl := live.l - ref.l; let da := 10 * (live.a - ref.a); let db := 10 * (live.b - ref.b)
  Nat.min 65535 (sqrtRound (256 * (dl * dl + da * da + db * db).toNat) 100)

/-- Form 1, CIE ΔE94 with the reference as standard, in units of 1/64, rounded to nearest (R324, log
entry 11). Lengths are kept in 2^-40. -/
def deltaE1 (live ref : LabPx) : Nat :=
  let k : Nat := 2 ^ 40
  let cr : Int := isqrt ((ref.a * ref.a + ref.b * ref.b).toNat * k * k / 16)
  let cl : Int := isqrt ((live.a * live.a + live.b * live.b).toNat * k * k / 16)
  let sc : Int := k + 45 * cr / 1000
  let sh : Int := k + 15 * cr / 1000
  let dl : Int := (live.l - ref.l) * k / 40
  let da : Int := (live.a - ref.a) * k / 4
  let db : Int := (live.b - ref.b) * k / 4
  let dc := cl - cr
  let dh2 := let v := da * da + db * db - dc * dc; if v < 0 then 0 else v
  let tc := dc * k / sc
  let e2 := dl * dl + tc * tc + dh2 * k * k / (sh * sh)
  Nat.min 65535 ((isqrt (e2.toNat * 4096 * 4) / k + 1) / 2)

end Sys2Proof.Machine
end

