-- ==== Sys2Proof/Machine/Chervil.lean ====
section
/-! DEFINITION. The Chervil codec: formats, slots, encoding and decoding of one block (R327, R341-R347). A
block's planes are lists of its 1,024 samples in tile order. -/

namespace Sys2Proof.Machine

/-- A plane of a format (R327, R343): bits, signed. -/
structure PlaneFmt where
  bits : Nat
  signed : Bool

/-- Planes of FORMAT in the order L, a, b. -/
def planesOf (fmt : Nat) : List PlaneFmt :=
  match fmt with
  | 0 => [⟨8, false⟩]
  | 1 => [⟨8, false⟩, ⟨8, true⟩, ⟨8, true⟩]
  | _ => [⟨12, false⟩, ⟨10, true⟩, ⟨10, true⟩]

/-- Bytes per pixel (R327). -/
def fmtBytes (fmt : Nat) : Nat := match fmt with | 0 => 1 | 1 => 3 | _ => 4

/-- Slot size of FORMAT and RATIO (R341). -/
def slotBytes (fmt ratio : Nat) : Nat :=
  let b := 1024 * fmtBytes fmt
  match ratio with
  | 0 => b | 1 => b * 3 / 4 | 2 => b / 2 | 3 => b * 3 / 8 | _ => b / 4

/-- Smallest and largest value of a plane. -/
def PlaneFmt.lo (p : PlaneFmt) : Int := if p.signed then -(2 ^ (p.bits - 1) : Int) else 0
def PlaneFmt.hi (p : PlaneFmt) : Int := if p.signed then 2 ^ (p.bits - 1) - 1 else 2 ^ p.bits - 1

/-- Bits of an escaped code (R343). -/
def PlaneFmt.esc (p : PlaneFmt) : Nat := if p.bits = 8 then 9 else if p.bits = 12 then 13 else 11

/-- History at the first block of a segment (R344), by plane. -/
def histInit (fmt : Nat) : List (List Int) :=
  (planesOf fmt).map fun p => List.replicate 16 (if p.signed then 0 else 2 ^ (p.bits - 1))

/-- Planes of a delivered tile (R327, R329). -/
def tilePlanes (fmt : Nat) (b : List Nat) : List (List Int) :=
  let idx := List.range 1024
  match fmt with
  | 0 => [idx.map fun i => (b.getD i 0 : Nat)]
  | 1 => [idx.map fun i => (b.getD (3 * i) 0 : Nat), idx.map fun i => sext 8 (b.getD (3 * i + 1) 0),
      idx.map fun i => sext 8 (b.getD (3 * i + 2) 0)]
  | _ =>
    let w (i : Nat) : Nat := ofLe ((b.drop (4 * i)).take 4)
    [idx.map fun i => (bits (w i) 11 0 : Nat), idx.map fun i => sext 10 (bits (w i) 21 12),
      idx.map fun i => sext 10 (bits (w i) 31 22)]

/-- A native pixel as Lab32 components (R327). -/
def nativeLab (fmt : Nat) (c : List Int) : Int × Int × Int :=
  match fmt with
  | 0 => ((c.getD 0 0 * 4016 + 128) / 256, 0, 0)
  | 1 => ((c.getD 0 0 * 4016 + 128) / 256, c.getD 1 0 * 4, c.getD 2 0 * 4)
  | _ => (c.getD 0 0, c.getD 1 0, c.getD 2 0)

/-- The median edge detector (R343). -/
def medPredict (a b c : Int) : Int :=
  if c ≥ max a b then min a b else if c ≤ min a b then max a b else a + b - c

/-- The residual of a code, and the code of a residual (R343, R346). -/
def residualOf (m : Nat) : Int := if m % 2 = 1 then -((m + 1) / 2 : Nat) else (m / 2 : Nat)
def codeOf (e : Int) : Nat := if e < 0 then 2 * e.natAbs - 1 else 2 * e.natAbs

/-- The quantised residual (R346). -/
def quantise (q : Nat) (e : Int) : Int :=
  let v : Int := (e.natAbs + 2 ^ q / 2) / 2 ^ q
  if e < 0 then -v else v

/-- A block line coded: codes and reconstructed samples. `above` is the reconstructed line above, empty for
the first (R343, R346). -/
def encRow (f : PlaneFmt) (q : Nat) (first : Bool) : Int → Int → List Int → List Int → List (Nat × Int)
  | _, _, _, [] => []
  | left, al, above, x :: xs =>
    let b := if first then left else above.headD left
    let c := if first then left else al
    let p := medPredict left b c
    let e := quantise q (x - p)
    let r := clampI f.lo f.hi (p + e * 2 ^ q)
    (codeOf e, r) :: encRow f q first r b (above.drop 1) xs

/-- A block line reconstructed from its codes (R343). -/
def decRow (f : PlaneFmt) (q : Nat) (first : Bool) : Int → Int → List Int → List Nat → List Int
  | _, _, _, [] => []
  | left, al, above, m :: ms =>
    let b := if first then left else above.headD left
    let c := if first then left else al
    let p := medPredict left b c
    let r := clampI f.lo f.hi (p + residualOf m * 2 ^ q)
    r :: decRow f q first r b (above.drop 1) ms

/-- The lines of a plane coded with shift q: codes and reconstruction, sixteen lines of 64. -/
def encPlane (f : PlaneFmt) (q : Nat) (h : List Int) (x : List Int) : List (List (Nat × Int)) :=
  (List.range 16).foldl (fun acc y =>
    let above := (acc.getLastD []).map (·.2)
    acc ++ [encRow f q (y == 0) (h.getD y 0) (h.getD (y - 1) 0) above ((x.drop (64 * y)).take 64)]) []

/-- The lines of a plane reconstructed. -/
def decPlane (f : PlaneFmt) (q : Nat) (h : List Int) (m : List Nat) : List Int :=
  ((List.range 16).foldl (fun acc y =>
    acc ++ [decRow f q (y == 0) (h.getD y 0) (h.getD (y - 1) 0) (acc.getLastD []) ((m.drop (64 * y)).take 64)])
    ([] : List (List Int))).flatten

/-- Bits n-1..0 of v, most significant first. -/
def msbBits (n v : Nat) : List Bool := ((List.range n).map (bit v)).reverse

/-- The code of m with Rice parameter k (R343). -/
def riceCode (f : PlaneFmt) (k m : Nat) : List Bool :=
  let u := m / 2 ^ k
  if u < 16 then List.replicate u true ++ [false] ++ msbBits k m
  else List.replicate 16 true ++ msbBits f.esc m

/-- Length of a group's codes with parameter k. -/
def riceCost (f : PlaneFmt) (k : Nat) (ms : List Nat) : Nat :=
  sumN (ms.map fun m => if m / 2 ^ k < 16 then m / 2 ^ k + 1 + k else 16 + f.esc)

/-- The parameter of fewest bits, the smallest on a tie (R346). -/
def riceBest (f : PlaneFmt) (ms : List Nat) : Nat :=
  ((List.range 8).foldl (fun (b : Nat × Nat) k =>
    let c := riceCost f k ms
    if c < b.2 then (k, c) else b) (0, riceCost f 0 ms)).1

/-- A group's bits: its parameter and codes. -/
def groupBits (f : PlaneFmt) (ms : List Nat) : List Bool :=
  let k := riceBest f ms
  msbBits 3 k ++ ms.flatMap (riceCode f k)

/-- Groups of 16 of a plane's codes. -/
def groupsOf (ms : List Nat) : List (List Nat) := (List.range (ms.length / 16)).map fun g => (ms.drop (16 * g)).take 16

/-- Bits packed into bytes from the most significant bit down, the last byte filled with zeros. -/
def packBits : Nat → List Bool → List Nat
  | 0, _ => []
  | _, [] => []
  | fuel + 1, l =>
    let b := (l.take 8 ++ List.replicate (8 - l.length) false).foldl (fun v b => 2 * v + b2n b) 0
    b :: packBits fuel (l.drop 8)

/-- The bits of bytes, most significant first. -/
def unpackBits (l : List Nat) : List Bool := l.flatMap (msbBits 8)

/-- Means of the 4 × 4 tiles of a plane in tile order (R345). -/
def flatMeans (x : List Int) : List Int :=
  (List.range 64).map fun t =>
    let y0 := t / 16 * 4
    let x0 := t % 16 * 4
    (sumI ((List.range 16).map fun i => x.getD ((y0 + i / 4) * 64 + x0 + i % 4) 0) + 8) / 16

/-- A plane from its tile means. -/
def flatPlane (m : List Int) : List Int := (List.range 1024).map fun i => m.getD (i / 64 / 4 * 16 + i % 64 / 4) 0

/-- History after a block: the last column of each plane (R344). -/
def histOf (planes : List (List Int)) : List (List Int) :=
  planes.map fun p => (List.range 16).map fun y => p.getD (64 * y + 63) 0

/-- A slot's bytes from header values and payload (R342). -/
def slotOf (size mode q nbits : Nat) (payload : List Nat) : List Nat :=
  let b := [mode, q, 0, 0] ++ le 2 nbits ++ [0, 0] ++ payload
  b ++ List.replicate (size - b.length) 0

/-- A block coded with shift q, when it fits: slot and reconstructed planes. -/
def encTry (fmt size q : Nat) (hist : List (List Int)) (planes : List (List Int)) :
    Option (List Nat × List (List Int)) :=
  let rows := ((planesOf fmt).zip (hist.zip planes)).map fun (f, h, x) => (f, (encPlane f q h x).flatten)
  let payload := rows.flatMap fun (f, r) => (groupsOf (r.map (·.1))).flatMap (groupBits f)
  if payload.length ≤ 8 * (size - 8) then
    some (slotOf size 1 q payload.length (packBits (payload.length + 1) payload), rows.map fun p => p.2.map (·.2))
  else none

/-- The first shift from q upward, at most `qmax`, whose payload fits (R346). -/
def encSearch (fmt size qmax : Nat) (hist planes : List (List Int)) :
    Nat → Nat → Option (Nat × List Nat × List (List Int))
  | 0, _ => none
  | fuel + 1, q =>
    if qmax < q then none
    else match encTry fmt size q hist planes with
      | some (b, r) => some (q, b, r)
      | none => encSearch fmt size qmax hist planes fuel (q + 1)

/-- The encoder's answer for a block (R346): slot bytes, the shift or none for FLAT, new history. -/
def encodeBlock (fmt ratio qmax : Nat) (hist : List (List Int)) (tile : List Nat) :
    List Nat × Option Nat × List (List Int) :=
  let planes := tilePlanes fmt tile
  let size := slotBytes fmt ratio
  if ratio = 0 then (tile, some 0, histOf planes)
  else match encSearch fmt size qmax hist planes 8 0 with
    | some (q, b, r) => (b, some q, histOf r)
    | none =>
      let means := planes.map flatMeans
      let payload := ((planesOf fmt).zip means).flatMap fun (f, m) =>
        m.flatMap fun v => if f.bits = 8 then [wrapN 8 v] else le 2 (wrapN 16 v)
      (slotOf size 2 0 (8 * payload.length) payload, none, histOf (means.map flatPlane))

/-- The unary part of a code: number of ones before a zero, up to 16. -/
def readUnary : Nat → Nat → List Bool → Option (Nat × List Bool)
  | 0, n, l => some (n, l)
  | fuel + 1, n, l =>
    match l with
    | [] => none
    | false :: r => some (n, r)
    | true :: r => readUnary fuel (n + 1) r

/-- n bits read, most significant first. -/
def readMsb (n : Nat) (l : List Bool) : Option (Nat × List Bool) :=
  if l.length < n then none else some ((l.take n).foldl (fun v b => 2 * v + b2n b) 0, l.drop n)

/-- A code read (R343). -/
def readCode (f : PlaneFmt) (k : Nat) (l : List Bool) : Option (Nat × List Bool) :=
  (readUnary 16 0 l).bind fun (u, l) =>
    if u = 16 then readMsb f.esc l
    else (readMsb k l).map fun (v, l) => (u * 2 ^ k + v, l)

/-- n codes read. -/
def readCodes (f : PlaneFmt) (k : Nat) : Nat → List Bool → Option (List Nat × List Bool)
  | 0, l => some ([], l)
  | n + 1, l => (readCode f k l).bind fun (m, l) => (readCodes f k n l).map fun (ms, l) => (m :: ms, l)

/-- n groups read. -/
def readGroups (f : PlaneFmt) : Nat → List Bool → Option (List Nat × List Bool)
  | 0, l => some ([], l)
  | n + 1, l =>
    (readMsb 3 l).bind fun (k, l) => (readCodes f k 16 l).bind fun (ms, l) =>
      (readGroups f n l).map fun (r, l) => (ms ++ r, l)

/-- The planes of a DPCM payload. -/
def readPlanes (q : Nat) : List (PlaneFmt × List Int) → List Bool → Option (List (List Int))
  | [], _ => some []
  | (f, h) :: r, l =>
    (readGroups f 64 l).bind fun (ms, l) => (readPlanes q r l).map fun ps => decPlane f q h ms :: ps

/-- A slot decoded (R342-R345): planes and whether FLAT; none for a malformed block (R351). -/
def decodeBlock (fmt ratio : Nat) (hist : List (List Int)) (b : List Nat) : Option (List (List Int) × Bool) :=
  if ratio = 0 then some (tilePlanes fmt b, false)
  else
    let payload := b.drop 8
    let nbits := Nat.min (ofLe ((b.drop 4).take 2)) (8 * payload.length)
    match b.getD 0 0 with
    | 1 => (readPlanes (b.getD 1 0 % 8) ((planesOf fmt).zip hist) ((unpackBits payload).take nbits)).map (·, false)
    | 2 =>
      let w := if fmt = 2 then 2 else 1
      let fs := planesOf fmt
      if nbits < 8 * 64 * w * fs.length then none
      else some (((List.range fs.length).zip fs).map (fun (i, f) =>
        flatPlane ((List.range 64).map fun t =>
          let v := ofLe ((payload.drop ((64 * i + t) * w)).take w)
          if f.signed then sext (8 * w) v else (v : Int))), true)
    | _ => none

end Sys2Proof.Machine
end

