-- ==== Sys2Proof/Machine/TypesAxis.lean ====
section
/-! DEFINITION. Data types of the state: the marker axes (R436-R455). -/

namespace Sys2Proof.Machine

/-- A page as an axis remembers it (R441): page counter, start position in nm, line pitch in pm. -/
structure AxisPage where
  page : Nat
  start : Int
  pitch : Nat
deriving DecidableEq, Repr

/-- A queued mark (R442, R444): order of queueing, fire point and target in nm, SEQ of its tag, PRED_LATE (R451),
fired by the set-point frame already (R449), LT of the plan's end, LIMIT during its plan (R447). -/
structure AxisMark where
  id : Nat
  f : Int
  x : Int
  seq : Nat
  predLate : Bool
  framed : Bool
  planEnd : Option Nat
  limit : Bool
deriving DecidableEq, Repr

/-- A plan (R445, R446): the mark it serves (none for a stop), target, position at its start, whether it starts from
rest, LT of its start and of its end. -/
structure AxisPlan where
  mark : Option Nat
  target : Int
  from_ : Int
  rest : Bool
  begun : Nat
  end_ : Nat
deriving DecidableEq, Repr

/-- An event that replans the motion (R446): its LT, whether it is a stop, the mark and the target of its plan. -/
structure AxisEvent where
  at_ : Nat
  stop : Bool
  mark : Option Nat
  target : Int
deriving DecidableEq, Repr

/-- A decided mark whose pulse has not risen (R448): LT of the rise, its outcome record. -/
structure AxisShot where
  rise : Nat
  rec_ : MarkRec
deriving DecidableEq, Repr

/-- An AXIS unit: number of servo periods begun, LT of the last one, its status due (R440), bad statuses in a row,
good statuses in a row that end HOMING (R452), start of HOMING, FAULT to be cleared by the drive, pages newest first (R441),
queue (R444), next order of queueing, plan, events whose plan no frame carries yet, oldest first (R446), commanded position, the one for the
start of the last period, velocity in µm/s and acceleration in 0.01 m/s² of the last set-point, whether that set-point stands at a
virtual limit its plan passes (R447), MARK tags received and not yet tested, decided marks, end of the pulse, next record number. -/
structure AxisSt where
  k : Nat
  period : Option Nat
  due : Bool
  bad : Nat
  good : Nat
  homeFrom : Nat
  clearing : Bool
  pages : List AxisPage
  queue : List AxisMark
  nextId : Nat
  plan : Option AxisPlan
  replans : List AxisEvent
  cmd : Int
  prev : Int
  vel : Int
  acc : Int
  clamped : Bool
  inbox : List TagRec
  shots : List AxisShot
  pulseEnd : Option Nat
  recSeq : Nat
deriving DecidableEq, Repr

end Sys2Proof.Machine
end

