-- ==== Sys2Proof/Machine/TypesBoot.lean ====
section
/-! DEFINITION. Data types of the state: fuses, boot and holds. -/

namespace Sys2Proof.Machine

/-- An integrator key slot in fuses, two copies (R88, R91): fused, revoked, hash. -/
structure KeySlot where
  fusedA : Bool
  fusedB : Bool
  revokedA : Bool
  revokedB : Bool
  hash : Nat
deriving DecidableEq, Repr

/-- The fuses (R1, R69, R70, R87-R93, R618): lifecycle copies by state code, debug disable, key
slots 0-3, revocation of Aqzia key 0, anti-rollback count, grade, DEVICE_ID, tempo scales. -/
structure Fuses where
  lifeA : Nat
  lifeB : Nat
  debugDisabled : Bool
  keys : List KeySlot
  aqzia0Revoked : Bool
  rollback : Nat
  grade : Nat
  deviceId : Nat
  tmonScale : List Nat
deriving DecidableEq, Repr

/-- Why the device holds in reset: PORn low or a supply out (R82, R124), a BOOTFAIL code (R82), the
latched thermal shutdown (R137). -/
inductive Hold where
  | none | por | supply | bootfail (code : Nat) | shutdown
deriving DecidableEq, Repr

/-- What the device does on the xSPI balls (R60, R61, R64): nothing, so that another can drive them; 1S-1S-1S;
8D-8D-8D. -/
inductive XspiMode where
  | released | single | octal
deriving DecidableEq, Repr

/-- Instructions of the IEEE 1149.1 TAP: boundary scan, and Aqzia's private ones that reach vendor debug (R92). -/
inductive TapInstr where
  | boundary | vendor
deriving DecidableEq, Repr

/-- What an instruction of the TAP puts between its input and its output (R92). -/
inductive TapPath where
  | bypass | boundary | debug
deriving DecidableEq, Repr

/-- Boot: hold, latched shutdown (R137, R138), PORn, PERSTn, supplies, first signature success of
the current boot (step 7), cores released or running, doorbells rung before RUNNING, a device reset due at an LT
with its cause and surroundings (R90, R533), microseconds from PORn to the end of step 3, and those since the clock
monitor was armed, LT at the release of the cores, firmware's phase begun (step 11), vendor debug open (step 3, R87,
R92), the use of the xSPI balls, and what the control cores' SRAM was loaded with (R57, R67): four private areas of
2 MiB from byte 0 upward and the shared area of 4 MiB after them. -/
structure BootSt where
  hold : Hold
  latch : Bool
  porn : Bool
  perstn : Bool
  supplies : Bool
  sigSeen : Bool
  cores : List Bool
  earlyBells : List Nat
  resetDue : Option (Nat × Nat × BootEnv)
  preUs : Nat
  armUs : Nat
  coreLt : Nat
  began : Bool
  debug : Bool
  xspi : XspiMode
  coreMem : List Host.Cell
deriving DecidableEq, Repr

/-- Clocks and P-states: nodes whose accepted close still waits, with the LT of its acceptance (R102, R106), the P-state whose
configuration the latency governor uses (R116, R117), the state being left and entered by the change
in progress, an abandoned target (R117), the sequencer stopped for good (R118), VCORE set point in
mV, the configuration the governor takes at the next block boundary (R116, R117), the P-state whose
data rate the DRAM runs at; LT at which the change was accepted, consecutive monitor windows at the target's floor
(R117 step 6), only the governor's block boundary left of a change (R117 step 8); LT of PLL_DDR's last enable after
boot (R97), PLL_DDR judged failed. -/
structure ClkSt where
  closing : List Nat
  closingAt : List (Nat × Nat)
  govCfg : Nat
  change : Option (Nat × Nat)
  abandoned : Option Nat
  stopped : Bool
  vcore : Nat
  govNext : Option Nat
  dramRate : Nat
  changeAt : Nat
  goodWins : Nat
  finishing : Bool
  ddrAt : Option Nat
  ddrFailed : Bool
deriving DecidableEq, Repr

end Sys2Proof.Machine
end

