-- ==== Sys2Proof/Machine/TypesCal.lean ====
section
/-! DEFINITION. Data types of the state: calibration (R601-R618). -/

namespace Sys2Proof.Machine

/-- A calibration procedure that runs: request (R601), LT of its start, whether a precondition has ceased to hold,
register words and epoch that must not change (R605), readings taken, sums with counts by item, least eye figures by
lane (readings, height, width, sum of losses), encoder samples newest first. -/
structure CalRun where
  proc : Nat
  target : Nat
  store : Bool
  apply : Bool
  args : List Nat
  tag : Nat
  at_ : Nat
  fail : Bool
  snap : List Nat
  epoch : Option Nat
  n : Nat
  sums : List (Int × Nat)
  mins : List (Nat × Nat × Nat × Nat)
  samples : List (Int × Int)
deriving DecidableEq, Repr

/-- The newest valid journal record of a procedure and target (R612, R615), with its quality figure. -/
structure CalRec where
  proc : Nat
  target : Nat
  seq : Nat
  flags : Nat
  grade : Nat
  payload : List Nat
  fig : Int
deriving DecidableEq, Repr

/-- Calibration: the procedure running, the index of R615, records held during compaction (R616), append point
(R613), next SEQ, Q_SEL by master, starting CTLE by lane and whether its port has been OFF since (R604), encoder
values waiting for a page (R610), narrowest read and write eye of each DRAM channel. -/
structure CalSt where
  run : Option CalRun
  index : List CalRec
  held : List (List Nat)
  append : Nat
  seq : Nat
  sel : PerMaster Nat
  ctle : List (Nat × Nat × Bool)
  encNew : List (Nat × Nat × Nat)
  eyes : List (Nat × Nat)
deriving DecidableEq, Repr

end Sys2Proof.Machine
end

