-- ==== Sys2Proof/Machine/TypesDmc.lean ====
section
/-! DEFINITION. Data types of the state: the DRAM controller. -/

namespace Sys2Proof.Machine

/-- A request accepted and not yet served (R466-R468): requester, tier by rank 0 Class A to 5 Class C, page
hint OPEN, write, granule, LT of acceptance, order of acceptance, urgent. -/
structure DramReq where
  q : Nat
  tier : Nat
  open_ : Bool
  write : Bool
  gran : Nat
  at_ : Nat
  order : Nat
  urgent : Bool
deriving DecidableEq, Repr

/-- An open row (R470): channel, rank, bank, row, LT of its last access. -/
structure OpenRow where
  chan : Nat
  rank : Nat
  bank : Nat
  row : Nat
  at_ : Nat
deriving DecidableEq, Repr

/-- The DRAM controller: contents of the usable space by byte, stored symbols in error by granule (R461),
requests waiting, next order of acceptance, open rows, burst slots passed on each channel modulo 64
(R467), channels draining writes (R469), LT of the last request accepted (R473), channel in a retraining
pause, channels whose drift asks for one with the drift in ps, LT of the last pause (R474), drift applied
to each channel's trained values, LT at which `CLK.PSTATE.BUSY` last cleared, FSP in use. -/
structure DmcSt where
  mem : List Host.Cell
  bad : List (Nat × Nat)
  reqs : List DramReq
  order : Nat
  rows : List OpenRow
  slots : List Nat
  drains : List Nat
  lastReq : Nat
  pausing : Option Nat
  wants : List (Nat × Int)
  lastPause : Option Nat
  trained : List Int
  busyEnd : Option Nat
  fsp : Bool
deriving DecidableEq, Repr

end Sys2Proof.Machine
end

