-- ==== Sys2Proof/Machine/TypesGov.lean ====
section
/-! DEFINITION. Data types of the state: the latency governor and the thermal logic. -/

namespace Sys2Proof.Machine

/-- A block row as decided when its first line was triggered (R424, R429): page counter, row index,
line counter of the first line, level in force, kept out, first row to which an escalation applies,
whether the governor was enabled. -/
structure RowInfo where
  page : Nat
  row : Nat
  line : Nat
  level : Nat
  out : Bool
  esc : Bool
  enabled : Bool
deriving DecidableEq, Repr

/-- The latency governor: last trigger instants newest first (R422), since when the next lower level
has fitted (R425), since when the level is above NORMAL (R433), an escalation whose first row is
still to come (R424), the last block rows newest first, the page's rows inspected and kept out and
its highest level (R431), close instants t0 of the last lines newest first (R411), start of the ring
hold (R432). -/
structure GovSt where
  trigTimes : List Nat
  relaxSince : Option Nat
  aboveSince : Nat
  escPending : Bool
  rows : List RowInfo
  pageIn : Nat
  pageOut : Nat
  pageLevel : Nat
  t0 : List (Nat × Nat)
  holdSince : Option Nat
deriving DecidableEq, Repr

/-- The thermal logic: LT of each sensor's last valid conversion, valid conversions in a row of a
broken sensor (R128), conversions in a row of each zone at or beyond CRITICAL and LOW_INHIBIT
(R130), LT of the throttle request (R133), of the last cap step, and since when every zone has
stayed below ENFORCE - HYST (R134). -/
structure ThmSt where
  lastConv : List Nat
  streak : List Nat
  critRun : List Nat
  lowRun : List Nat
  graceFrom : Option Nat
  lastStep : Option Nat
  relaxFrom : Option Nat
deriving DecidableEq, Repr

end Sys2Proof.Machine
end

