-- ==== Sys2Proof/Machine/TypesHost.lean ====
section
/-! DEFINITION. Data types of the state: host port, streams, DMA engine, mailboxes. -/

namespace Sys2Proof.Machine

/-- An entry of the MSI-X table (R482, R484). -/
structure MsixEntry where
  addr : Nat
  data : Nat
  masked : Bool
deriving DecidableEq, Repr

/-- An outbound stream (R501, R502): records held, oldest first, the channel that takes it, LT since when it
holds a record with no channel. -/
structure StreamSt where
  recs : List Rec
  chan : Option Nat
  since : Option Nat
deriving DecidableEq, Repr

/-- The block row being archived (R503): page, row, line counter of its first present line, owned columns, RATIO,
lines present as (index in the row, pixels); whether it is archived. -/
structure ArchAcc where
  page : Nat
  row : Nat
  line : Nat
  cols : Nat
  ratio : Nat
  lines : List (Nat × List LabPx)
  kept : Bool
deriving DecidableEq, Repr

/-- The endpoint (R480-R486): PCI Express function state that is no register of the maps; the streams; the
archive (R503). -/
structure HostSt where
  training : Bool
  msixEnable : Bool
  functionMask : Bool
  msix : List MsixEntry
  pba : List Nat
  maxReadReq : Nat
  streams : List StreamSt
  resync : Option Nat
  archSeq : Nat
  arch : Option ArchAcc
deriving DecidableEq, Repr

/-- A DMA descriptor as fetched (R492). -/
structure DmaDesc where
  ctrl : Nat
  count : Nat
  src : Nat
  dst : Nat
  next : Nat
deriving DecidableEq, Repr

/-- Kinds of DMA access. -/
inductive DmaKind where
  | fetch | read | write
deriving DecidableEq, Repr

/-- An access issued and not yet answered: identity, channel, kind, space, address, length, the LT of its issue
(R498), and what DRAM or a register of this device answers: bytes and error. -/
structure DmaAccess where
  id : Nat
  chan : Nat
  kind : DmaKind
  space : Nat
  addr : Nat
  len : Nat
  at_ : Nat
  data : List Nat
  err : Bool
deriving DecidableEq, Repr

/-- A DMA channel beyond its registers: chain count, LIMIT and tag bound captured at GO, re-point
latched (address, space, limit, tags) and whether its GO came after the STOP request (R496), requests pending, GO held before RUNNING (R481), the
descriptor in execution with its address and space, bytes requested and written, data fetched and
not yet written, next SEQ (R495), first error and its LT (R494), LT of a stream descriptor's first record and whether it takes no
more (R502), master of a privileged transfer (R647). -/
structure DmaChan where
  chain : Nat
  limit : Nat
  tagMax : Nat
  repoint : Option (Nat × Nat × Nat × Nat)
  goInStop : Bool
  stopReq : Bool
  rearm : Bool
  heldGo : Bool
  fetching : Bool
  desc : Option DmaDesc
  descAddr : Nat
  descSpace : Nat
  requested : Nat
  written : Nat
  buffer : List (Nat × List Nat)
  seq : Nat
  error : Option (Nat × Nat)
  streamFirst : Option Nat
  streamEnd : Bool
  master : Master
deriving DecidableEq, Repr

/-- The DMA engine: channels 0-63, accesses in flight, tags out of the pool after NOACK, next access
identity. -/
structure DmaSt where
  chans : List DmaChan
  flight : List DmaAccess
  quarantine : List DmaAccess
  nextId : Nat
deriving DecidableEq, Repr

/-- A request taken from the inbox (R514, R516): type, tag, payload words, and whether its TYPE and LEN are
those of the catalogue. -/
structure Req where
  typ : Nat
  tag : Nat
  words : List Nat
  ok : Bool
deriving DecidableEq, Repr

/-- A request carried out whose reply waits (R516, R517): the commit unit it waits for, if any, the core
serving it, whether its reply is to be discarded (R519), the device whose firmware sent it, if not the host, the
merging device it was passed on to, if any (R48), and RESULT, DETAIL and further words once a long request has
run. -/
structure Deferred where
  req : Req
  unit : Option UnitId
  core : Nat
  silent : Bool
  peer : Option Nat
  via : Option Nat
  done : Option (Nat × Nat × List Nat)
deriving DecidableEq, Repr

/-- A store firmware has to make to its outbox (R508, R514): a word mailbox, or block 1 whole. -/
inductive OutStore where
  | word (m : Nat) (w : Nat)
  | block (ws : List Nat)
deriving DecidableEq, Repr

/-- A tunnel record (R191): port, FLAGS, stamp, sequence number and frame bytes. -/
structure TunnelRec where
  port : Nat
  flags : Nat
  stamp : Nat
  seq : Nat
  frame : List Nat
deriving DecidableEq, Repr

/-- Mailboxes: block buffers as words (an unlisted word reads 0), requests held, deferred replies, outbox stores
waiting, LT of the delivery of a request the word path or block 0 still holds, records of block 2 still to be
taken, receive and transmit queues of the tunnel by port, per-port record numbers, dropped-before marks, port
served last, nonce. -/
structure MbxSt where
  block0 : List (Nat × Nat)
  block1 : List (Nat × Nat)
  block2 : List (Nat × Nat)
  block3 : List (Nat × Nat)
  held : List Req
  deferred : List Deferred
  outbox : List OutStore
  wordWaiting : Option Nat
  blockWaiting : Option Nat
  tunTake : List TunnelRec
  tunRx : List (List TunnelRec)
  tunTx : List (List TunnelRec)
  tunSeq : List Nat
  tunDropped : List Bool
  tunLast : Nat
  nonce : Option Nat
deriving DecidableEq, Repr

end Sys2Proof.Machine
end

