-- ==== Sys2Proof/Machine/TypesLink.lean ====
section
/-! DEFINITION. Data types of the state: serial lanes and bypass. -/

namespace Sys2Proof.Machine

/-- A Sidias lane in training (R148, R149, R152, R153): frames in a row with RX_READY received and sent, a frame found
since the entry into LOCK, the sending port the last frame named. -/
structure SidLane where
  readyIn : Nat
  readyOut : Nat
  found : Bool
  heard : Nat
deriving DecidableEq, Repr

/-- Serial lanes: LT of each port's entry into its state (R147), training of each Sidias lane 4(p - 12) + l, deskew depth of each port in 0.25 ns (R218), an opening of the bypass in progress (R161),
FAULTn held low by a failed SerDes reference (R100). -/
structure SerSt where
  since : List Nat
  sid : List SidLane
  deskew : List Nat
  opening : Bool
  refFault : Bool
deriving DecidableEq, Repr

end Sys2Proof.Machine
end

