-- ==== Sys2Proof/Machine/TypesOut.lean ====
section
/-! DEFINITION. What the block sends out, as data: pins, messages, frames and accesses at its
boundary. State keeps them newest first; no rule reads them back. -/

namespace Sys2Proof.Machine

/-- Output balls. -/
inductive Pin where
  | faultn | alertn | throttleReqn | xspiResetn
  | xspiCk | xspiCsn | xspiDqs | xspiIo (k : Nat)
  | gpio (k : Nat) | trig (k : Nat) | mark (a : Nat) | axisDe (a : Nat)
deriving DecidableEq, Repr

/-- Replies to PCIe configuration requests (R78, R481). -/
inductive CfgReply where
  | retry | done
deriving DecidableEq, Repr

/-- An output of the block. -/
inductive Output where
  /-- Data of a register or mailbox read, for the master that read. -/
  | readData (m : Master) (w : Nat)
  /-- An Unsupported Request completion of a host's read (R483, R486). -/
  | unsupported
  /-- An MSI-X message: vector, address, data (R484). -/
  | msix (v addr data : Nat)
  /-- A ball driven high or low. -/
  | pin (p : Pin) (high : Bool)
  /-- A ball made high-impedance (R64, R76, R137). -/
  | release (p : Pin)
  /-- The flash's volatile configuration is written for 8D-8D-8D (R61). -/
  | flashOctal
  /-- The re-driven A and B of encoder e (R270). -/
  | encoderAB (e : Nat) (a b : Bool)
  /-- The re-driven rising edge of encoder e's Z (R270). -/
  | encoderZ (e : Nat)
  /-- The buffered sin and cos of encoder e, as its own modulators see them (R270): bits, 32 to a word. -/
  | encoderSinCos (e : Nat) (sin cos : List Nat)
  /-- An edge of trigger output k at an LT instant (R193). -/
  | trigEdge (k : Nat) (high : Bool) (instant : Nat)
  /-- A PTP message on PTP port 0-12 (R221), with the tag of IEEE 802.1Q it carries (R228) and how it goes. -/
  | ptp (port : Nat) (tag : Option Nat) (path : PtpPath) (m : PtpOut)
  /-- A UDP datagram on the line port: MAC and IPv4 addresses and ports it goes from and to, tag, payload (R228,
  R230, R404). -/
  | datagram (srcMac srcIp srcPort dstMac dstIp dstPort : Nat) (tag : Option Nat) (payload : List Nat)
  /-- An Ethernet frame sent without its FCS: port 0-11 camera, 12 line port. -/
  | frame (port : Nat) (bytes : List Nat)
  /-- Answer to a configuration request. -/
  | cfg (r : CfgReply)
  /-- A read request to host memory: access identity, address, length (R487). -/
  | hostRead (id addr len : Nat)
  /-- A write to host memory (R487, R495). -/
  | hostWrite (addr : Nat) (bytes : List Nat)
  /-- A set-point frame of an axis (R438). -/
  | axisFrame (a : Nat) (bytes : List Nat)
  /-- A flit sent on a Sidias link, 0 WEST, 1 EAST, 2 UPLINK: ACK and NAK fields, SEQ, class, FIRST, LAST,
  DEST word and payload bytes (R541); class 0 is an idle flit. -/
  | flit (link ack : Nat) (nak : Bool) (seq cls : Nat) (first last : Bool) (dest : Nat) (payload : List Nat)
  /-- An AVSBus command: its code and the value written, none for a read (R116, R118, R119). -/
  | avs (cmd : Nat) (value : Option Nat)
  /-- A set-point the P-state sequencer gives the DRAM: new rate (R116, R476). -/
  | dramRate (r : Nat)
  /-- A DRAM read's answer to its requester: usable address, error mark, bytes (R461). -/
  | dramData (q addr : Nat) (ue : Bool) (bytes : List Nat)
  /-- A DRAM write's response and its error mark (R471). -/
  | dramAck (q addr : Nat) (failed : Bool)
  /-- A training frame sent on a lane of a Sidias port (R152): port, lane, bytes. -/
  | training (port lane : Nat) (frame : List Nat)
deriving DecidableEq, Repr

end Sys2Proof.Machine
end

