-- ==== Sys2Proof/Machine/TypesRefs.lean ====
section
/-! DEFINITION. Data types of the state: reference store, codec, page jobs, maps (R327-R356, R382,
R383). -/

namespace Sys2Proof.Machine

/-- A directory entry that is not FREE (R332): state 1 LOADING, 2 READY, 3 RELEASING; use count; PIN;
format, ratio, width, lines, margin; chunks of the store; last use; number of the load that filled it. -/
structure RefEntry where
  handle : Nat
  state : Nat
  use : Nat
  pin : Bool
  fmt : Nat
  ratio : Nat
  width : Nat
  lines : Nat
  margin : Nat
  chunks : List Nat
  lastUse : Nat
  gen : Nat
deriving DecidableEq, Repr

/-- A load slot (R336, R337): handle of the open load, stream bytes taken, those not yet encoded, blocks
encoded, history of the encoder by plane. -/
structure LoadSlot where
  handle : Option Nat
  fed : Nat
  buf : List Nat
  blocks : Nat
  hist : List (List Int)
deriving DecidableEq, Repr

/-- A page job (R339), and whether it holds a count on its handle and on its map (R383). -/
structure PageJob where
  noref : Bool
  job : Nat
  handle : Nat
  profile : Nat
  map : Nat
  held : Bool
  mheld : Bool
deriving DecidableEq, Repr

/-- The binding of a page (R340): page counter, STATUS, the job taken, the reference bound, the map in
force as (MAP_ID, groups, rows, units), map missing (R381), line counter of the page's first line, page
ended, next band of the reference to decode (R348). -/
structure PageBind where
  page : Nat
  status : Nat
  job : Option PageJob
  ref : Option RefEntry
  map : Option (Nat × Nat × Nat × List Nat)
  missing : Bool
  line : Nat
  ended : Bool
  dec : Nat
deriving DecidableEq, Repr

/-- A band buffer (R348): load number of its reference, page it serves (none for a prefetched band), band,
planes and DEGRADED mark of every block. -/
structure BandBuf where
  gen : Nat
  page : Option Nat
  band : Nat
  blocks : List (List (List Int) × Bool)
deriving DecidableEq, Repr

/-- A map that is not FREE (R383): MAP_ID, state as RefEntry, use count, groups, rows, 64 KiB units of the
map region, stream bytes taken. -/
structure MapEntry where
  id : Nat
  state : Nat
  use : Nat
  groups : Nat
  rows : Nat
  units : List Nat
  fed : Nat
deriving DecidableEq, Repr

/-- REFS and CODEC: directory, load slots, job queue, bindings newest first, band buffers, slot whose history the encoder holds, next binding record number, next load number,
bands found late as (page, band) (R350), maps. -/
structure RefsSt where
  dir : List RefEntry
  slots : List LoadSlot
  jobs : List PageJob
  binds : List PageBind
  bands : List BandBuf
  enc : Option Nat
  seq : Nat
  gen : Nat
  late : List (Nat × Nat)
  maps : List MapEntry
deriving DecidableEq, Repr

end Sys2Proof.Machine
end

