-- ==== Sys2Proof/Machine/TypesRing.lean ====
section
/-! DEFINITION. Data types of the state: the Sidias ring. -/

namespace Sys2Proof.Machine

/-- The data part of a flit (R541); `dest` is the DEST word with SCOPE. -/
structure Flit where
  seq : Nat
  cls : Nat
  first : Bool
  last : Bool
  dest : Nat
  payload : List Nat
deriving DecidableEq, Repr

/-- What an IDENT message says (R572). -/
structure Ident where
  deviceId : Nat
  port : Nat
  pos : Nat
  size : Nat
  pos2 : Nat
  size2 : Nat
  pos3 : Nat
  size3 : Nat
  upl : Nat
  epoch : Nat
  state : Nat
  prio : Nat
deriving DecidableEq, Repr

/-- The two-step exchange of a link (R569): exchange number, SYNC egress, SYNC ingress of the partner's
exchange, RESP ingress, measured link delay, local LT less partner LT, last pair of partner and local
instants and the rate ratio they give; times in 2^-16 ns. -/
structure LinkTime where
  seq : Nat
  t1 : Nat
  t2 : Nat
  t4 : Nat
  delay : Int
  ofs : Int
  last : Option (Nat × Nat)
  ratio : Option (Nat × Nat)
deriving DecidableEq, Repr

/-- A Sidias link: 0 WEST, 1 EAST, 2 UPLINK (R541-R543). Next SEQ to send, last SEQ received in order,
NAK to be sent, flits waiting, flits unacknowledged oldest first, slot of 16 (R544), SEQ of the last
NAKs and their number, LT of recent replays, LT of the last ACK progress, messages in reassembly by
class as (class, DEST word, bytes), partner heard, link used, LT of the last IDENT sent. -/
structure RingLink where
  txSeq : Nat
  rxSeq : Nat
  nak : Bool
  queue : List Flit
  replay : List Flit
  slot : Nat
  nakSeq : Nat
  nakCount : Nat
  replays : List Nat
  progress : Nat
  parts : List (Nat × Nat × List Nat)
  ident : Option Ident
  denied : Bool
  used : Bool
  identAt : Nat
  time : LinkTime
deriving DecidableEq, Repr

/-- An entry of ENUM (R553). -/
structure EnumEntry where
  pos : Nat
  flags : Nat
  prio : Nat
  links : Nat
  deviceId : Nat
deriving DecidableEq, Repr

/-- A RESULT message (R572). -/
structure ResultMsg where
  epoch : Nat
  initiator : Nat
  level : Nat
  flags : Nat
  gwW : Nat
  gwE : Nat
  live : Nat
  usedE : Nat
  possrc : Nat
  dupPos : Nat
  mergeOf : List Nat
deriving DecidableEq, Repr

/-- A message of the ring: class, DEST word, type, source, body. -/
structure RingMsg where
  cls : Nat
  dest : Nat
  typ : Nat
  src : Nat
  body : List Nat
deriving DecidableEq, Repr

/-- A commit group received over the ring (R570): window, boundary, TAG, page, entries as the words of R523,
merging device that sent it, whether it is staged and committed here, whether it came late (R48), whether this device
has applied it, or dropped it under a withdrawal, and so waits for the other members. -/
structure RingGroup where
  window : Nat
  bnd : Boundary
  tag : Nat
  page : Nat
  entries : List (Nat × Nat × Nat)
  src : Nat
  started : Bool
  skew : Bool
  applied : Bool
  dropped : Bool
deriving DecidableEq, Repr

/-- A commit at a ring window by its merging device (R47, R48, R570): window, boundary, TAG, page, entries,
members it was sent to, number of answers from beyond them, devices that have applied it, devices that have
dropped it under a withdrawal, whether a withdrawal waits for its answers, and whether one came too late. -/
structure RingOwn where
  window : Nat
  bnd : Boundary
  tag : Nat
  page : Nat
  entries : List (Nat × Nat × Nat)
  members : List Nat
  beyond : Nat
  applied : List Nat
  dropped : List Nat
  cancelling : Bool
  kept : Bool
deriving DecidableEq, Repr

/-- An inter-device MAILBOX message in the inbox (R521, R571). -/
structure PeerMsg where
  src : Nat
  mseq : Nat
  hdr : Nat
  payload : List Nat
deriving DecidableEq, Repr

/-- An access or transfer this device has outstanding on another (R571, R572): tag, channel, access
identity. -/
structure RemoteAcc where
  tag : Nat
  chan : Nat
  access : Nat
  bulk : Bool
deriving DecidableEq, Repr

/-- Receive credits (R549): units freed and to be returned to the own entry by class, units taken from
each position's device by class, mailbox slots taken from each, own slots granted. -/
structure CreditSt where
  freedB : Nat
  freedC : Nat
  heldB : List (Nat × Nat)
  heldC : List (Nat × Nat)
  mbx : List Nat
  uplB : Nat
  uplC : Nat
  mbxGranted : Nat
deriving DecidableEq, Repr

/-- The RING unit: links; largest epoch seen; start of the hold of an enumeration; links whose change
it saw before ENUM was sent, and after; an inserting device; ENUM sent; halves returned to this
initiator; ENUM entries seen in the present enumeration; no retry of a failed insertion after DUP; LT
of a failed insertion whose retry waits; results adopted by level; Reel: lap, rotation out, next one
due, entries as (CRED_B, CRED_C, MBX_FREE) by position; lap last acted on; credits; messages waiting;
Class A messages held (R563); inter-device inbox; message numbers by receiver; accesses outstanding;
commit groups received and not yet applied; groups this merging device has sent and not yet seen applied; LT from
which the wait for a POSITION message counts; levels above the first whose enumeration this device has seen pass and
not yet its RESULT (R557); service messages that wait for a slot beyond the uplink (R549). -/
structure RingSt where
  links : List RingLink
  epochSeen : Nat
  holdFrom : Option Nat
  changed : List Nat
  again : List Nat
  inserting : Bool
  sent : Bool
  halves : List (Bool × List EnumEntry)
  seen : List EnumEntry
  noRetry : Bool
  retryFrom : Option Nat
  results : List (Nat × ResultMsg)
  lap : Nat
  reelOut : Bool
  reelDue : Bool
  reel : List (Nat × Nat × Nat)
  lapSeen : Option Nat
  credit : CreditSt
  waiting : List RingMsg
  held : List RingMsg
  inbox : List PeerMsg
  mseq : List (Nat × Nat)
  remote : List RemoteAcc
  groups : List RingGroup
  own : List RingOwn
  posAt : Option Nat
  upper : List Nat
  uplq : List RingMsg
deriving DecidableEq, Repr

end Sys2Proof.Machine
end

