-- ==== Sys2Proof/Machine/TypesTango.lean ====
section
/-! DEFINITION. Data types of the state: Tango registration (R357-R379). -/

namespace Sys2Proof.Machine

/-- A block of an estimated row (R364-R369): node, prediction, CONF, REASON, group LOCKED after it, AXIS_X, AXIS_Y. -/
structure TangoNode where
  dx : Int
  dy : Int
  px : Int
  py : Int
  conf : Nat
  reason : Nat
  locked : Bool
  axisX : Bool
  axisY : Bool
deriving DecidableEq, Repr

/-- A block row in the look-ahead store (R359, R360): page, row, line counter of its first line present, lines
held in page-line order, lines that joined after a flush closed it, closed, closed by a flush, row base and
nodes once estimated, COL_BASE in force. -/
structure TangoRow where
  page : Nat
  row : Nat
  first : Nat
  lines : List WebLine
  late : List WebLine
  closed : Bool
  flushed : Bool
  est : Option (Int × List TangoNode)
  colBase : Nat
deriving DecidableEq, Repr

/-- A column group (R362, R368): LOCKED, consecutive blocks counted, dx of its last MEASURED node. -/
structure GroupSt where
  locked : Bool
  count : Nat
  last : Option Int
deriving DecidableEq, Repr

/-- A page from its first line on until its record is made (R374, R375): counter, line counter of its first line, lines (one
more than the largest page line index), ended, TAIL computed with its flags, counts of blocks, row base of its
newest row, none before its first, a flush closed a row, transitions of R368. -/
structure TangoPage where
  page : Nat
  first : Nat
  lines : Nat
  ended : Bool
  tail : Option Int
  flags : Nat
  blocks : Nat
  measured : Nat
  flat : Nat
  unref : Nat
  sEnd : Option Int
  flushed : Bool
  losses : Nat
deriving DecidableEq, Repr

/-- A line that has left Tango (R376): sideband and live pixels, S_b, REASON and CONF by group, warped
reference pixels as Lab32 components, none where UNREF. -/
structure TangoLine where
  w : WebLine
  s : Int
  groups : List (Nat × Nat)
  refs : List (Option (Int × Int × Int))
deriving DecidableEq, Repr

/-- TANGO: rows in the store oldest first, column groups, pages oldest first, last row estimated as (page,
row, nodes), row that last left the store with its nodes and base, base of the next row (R367), LT of
the last line that entered and whether one has since the last flush, lines that left for SEG, record
numbers. -/
structure TangoSt where
  rows : List TangoRow
  groups : List GroupSt
  pages : List TangoPage
  lastEst : Option (Nat × Nat × List TangoNode)
  left : Option (Nat × Nat × Int × List TangoNode)
  sNext : Int
  entered : Nat
  open_ : Bool
  outq : List TangoLine
  pageSeq : Nat
  meshSeq : Nat
deriving DecidableEq, Repr

end Sys2Proof.Machine
end

