-- ==== Sys2Proof/Machine/TypesSeg.lean ====
section
/-! DEFINITION. Data types of the state: segmentation and classification (R380-R402). -/

namespace Sys2Proof.Machine

/-- A labelled pixel (R384, R385): live Lab32, d, ΔL, FILL, SAT, SEAM, UNREF, candidate, strong, zone, REF
Lab32 or the substrate. -/
structure SegPx where
  live : LabPx
  d : Nat
  dl : Int
  unref : Bool
  cand : Bool
  strong : Bool
  zone : Nat
  ref : LabPx
deriving DecidableEq, Repr

/-- A labelled line of the history (R401): line counter, page, page line index, its pixels. -/
structure SegHist where
  line : Nat
  page : Nat
  pageLine : Nat
  px : List SegPx
deriving DecidableEq, Repr

/-- A component (R387-R393): order of opening, page, profile, line counter, page line and stamp of its first
line, first column, leftmost and rightmost column, last page line, lines, area, strong, largest d with its
line, column and zone, sums of d, ΔL, column, page line, live and reference components, lowest CONF,
unreferenced candidates, SEAM, SAT, FILL_ADJ, CONT, merged, a candidate in the last owned column, COL_BASE, columns in the last line, window. -/
structure Comp where
  id : Nat
  page : Nat
  profile : Nat
  line : Nat
  pageLine : Nat
  stamp : Nat
  col0 : Nat
  lo : Nat
  hi : Nat
  last : Nat
  lines : Nat
  area : Nat
  strong : Nat
  dMax : Nat
  pkLine : Nat
  pkCol : Nat
  pkZone : Nat
  dSum : Nat
  dlSum : Int
  colSum : Nat
  lineSum : Nat
  live : Int × Int × Int
  ref : Int × Int × Int
  confMin : Nat
  unref : Nat
  seam : Bool
  sat : Bool
  fillAdj : Bool
  cont : Bool
  merged : Bool
  edgeR : Bool
  base : Nat
  cols : List Nat
  window : Option Nat
deriving DecidableEq, Repr

/-- A capture window (R401, R402): the identity its component had at opening, first device column, columns, COL_BASE,
rows wanted, rows held, CLIPPED, CUT, PRE_SHORT, page, line counter and page line of row 0, complete or
cut, LOCAL of the tag once its component has closed with SNIP. -/
structure SnipWin where
  id : Nat
  col : Nat
  cols : Nat
  base : Nat
  want : Nat
  rows : List (List Nat)
  clipped : Bool
  cut : Bool
  short : Bool
  page : Nat
  line : Nat
  pageLine : Nat
  ended : Bool
  loc : Option Nat
deriving DecidableEq, Repr

/-- What SEG hands to TAG (R399): a closed component with its flags CUT, SPLIT, FORCED, its closing line's
counter, stamp, page, page line and t0; or the end of a block row with its last line's counter, stamp
and t0 (R398). -/
inductive TagItem where
  | comp (c : Comp) (flags closeLine closeStamp closePage closePageLine t0 : Nat)
  | rowEnd (page row line stamp t0 : Nat)
deriving DecidableEq, Repr

/-- SEG: open components oldest first, next order of opening, columns of SPLIT components in the last line,
last three lines newest first, windows, next window, last line's (page, page line, counter, stamp, t0),
LT of the last line, zone codes of the row in force as (page, row, codes), profile of the page in force,
substrate in force, sums of the substrate measurement as (pixels, L, A, B), measurement of the previous
page, items for TAG oldest first. -/
structure SegSt where
  comps : List Comp
  nextId : Nat
  split : List Nat
  hist : List SegHist
  windows : List SnipWin
  nextWin : Nat
  last : Option (Nat × Nat × Nat × Nat × Nat)
  entered : Nat
  zones : Option (Nat × Nat × List Nat)
  profile : Nat
  sub : Nat
  acc : Nat × Int × Int × Int
  meas : Option Nat
  items : List TagItem
deriving DecidableEq, Repr

/-- What a block row has made so far (R398): page, row, tags made, components folded, the overflow tag. -/
structure FoldAcc where
  page : Nat
  row : Nat
  made : Nat
  folded : Nat
  tag : Option TagRec
deriving DecidableEq, Repr

end Sys2Proof.Machine
end

