-- ==== Sys2Proof/Machine/TypesSense.lean ====
section
/-! DEFINITION. Data types of the state: the decimation chains and the SENSE channels. -/

namespace Sys2Proof.Machine

/-- A decimation chain (R233): last four words of 32 modulator bits that entered stage 1, newest first and each with
its earliest bit in bit 0; last inputs of HB1 to HB4 newest first and whether each holds one of a
pair, last inputs of the final stage and their number since its last output. -/
structure Chain where
  mods : List Nat
  hb : List (List Int)
  odd : List Bool
  fin : List Int
  count : Nat
deriving DecidableEq, Repr

/-- A value offered by a context's line (R238, R239, R292): statistic, LOST, epoch, short stamp. -/
structure StatOffer where
  value : Nat
  lost : Bool
  epoch : Nat
  stamp : Nat
deriving DecidableEq, Repr

/-- A SENSE channel: chain, LT until which outputs are SETTLING (R236), outputs since the last record,
record number, last compared output above HI, below LO (R246), single-step conversion in progress
(R237), coefficient bank in force (R241), saturation since the last output; of a virtual channel the
held input, its epoch, LT of the last accepted value, STALE, values offered, held inputs not yet run
through the chain as (input, epoch), epochs of past inputs newest first as (epoch, run). -/
structure SenseChan where
  chain : Chain
  settleUntil : Nat
  sinceRec : Nat
  seq : Nat
  aboveHi : Bool
  belowLo : Bool
  busy : Bool
  bank : Nat
  sat : Bool
  held : Int
  heldEpoch : Nat
  lastAccept : Nat
  stale : Bool
  offers : List StatOffer
  queued : List (Int × Nat)
  epochs : List (Nat × Nat)
deriving DecidableEq, Repr

/-- SENSE: the sixteen channels, and the channels that have still to apply the bank swap (R241). -/
structure SenseSt where
  chans : List SenseChan
  swapLeft : List Nat
deriving DecidableEq, Repr

end Sys2Proof.Machine
end

