-- ==== Sys2Proof/Machine/TypesTag.lean ====
section
/-! DEFINITION. Data types of the state: tags, the line port, the measurement of the bound
(R394-R411, R434). -/

namespace Sys2Proof.Machine

/-- A tag sequenced whose datagram has not left (R414, R434): SEQ, t0 of its closing line, that line's counter, whether
this device segmented it, place among the components of its closing line, Class A records ahead of it. -/
structure TagTimed where
  seq : Nat
  t0 : Nat
  line : Nat
  own : Bool
  k : Nat
  ahead : Nat
deriving DecidableEq, Repr

/-- A tag measured whose bound is not known yet (R411, R434): the tag, and its alert instant. -/
structure TagMeas where
  tag : TagTimed
  alert : Nat
deriving DecidableEq, Repr

/-- Tag unit: Class A records waiting for the line port, sequence number of alarms (R407), tags
received and not yet sequenced, with their t0 (R400, R434), SEQ_RESTART owed to the next datagram
(R400), block rows being classified (R398), LT at which the ALERTn pulse ends (R406), next DGRAM_SEQ,
next SEQ and LOCAL, closing line of the last component with the number handed on with it (R414), places beyond
256 by LOCAL (R414), tags to be timed, tags measured (R434), ARP replies that wait for the line port (R228). -/
structure TagSt where
  lportQ : List Rec
  alarmSeq : Nat
  inbox : List (TagRec × Nat)
  restart : Bool
  folds : List FoldAcc
  alertEnd : Option Nat
  dgram : Nat
  seqNext : Nat
  localNext : Nat
  kline : Nat × Nat
  places : List (Nat × Nat)
  timed : List TagTimed
  meas : List TagMeas
  arpWait : List (List Nat)
deriving DecidableEq, Repr

end Sys2Proof.Machine
end

