-- ==== Sys2Proof/Machine/TypesTime.lean ====
section
/-! DEFINITION. Data types of the state: time base, trackers, transmit timestamp queues. -/

namespace Sys2Proof.Machine

/-- A member of the foreign master data set: its last Announce and the LT of its last two (R206). -/
structure Foreign where
  info : MasterInfo
  last : Nat
  prev : Option Nat
deriving DecidableEq, Repr

/-- The tracker of a domain (R205-R207): foreign masters, selected master, LT of its last Sync and
its log interval, two-step master, Sync whose Follow_Up is due, whether a Follow_Up came for each of
the last 16 Syncs, Delay_Req intervals since the last Delay_Resp, filtered offset, consecutive Syncs
whose offset moved by less than LOCK_NS, consecutive Syncs within LOCK_NS, Sync gap expired, LT since
when the domain is usable, last UTC offset, flags and time source, the last 16 Delay_Req sent without an answer by
sequenceId, with whether the queue entry was lost (R222), ingress timestamp of the last Sync (R218). -/
structure Tracker where
  foreign : List Foreign
  master : Option Nat
  lastSync : Option Nat
  logSync : Int
  due : Option Nat
  followed : List Bool
  reqsSince : Option Nat
  ofs : Int
  steady : Nat
  within : Nat
  gap : Bool
  usableSince : Option Nat
  utcOffset : Nat
  flags : Nat
  timeSource : Nat
  reqs : List (Nat × Bool)
  ingress : Option (Nat × Nat × Nat)
deriving DecidableEq, Repr

/-- An entry of a transmit timestamp queue (R221). -/
structure TsqEntry where
  id : Nat
  msgType : Nat
  seqId : Nat
  domain : Nat
  seconds : Nat
  ns : Nat
deriving DecidableEq, Repr

/-- The TIME unit: trackers A and B, the one step by itself taken (R204, R209), slew in progress as
its start and the disagreement (R211), start of HOLDOVER, values latched by NOW for each master as LT
and device clock, queues and ID counters of the 13 PTP ports (R221), sequenceId counters of Sync and
Announce by camera port and of Delay_Req by domain (R217), LT of each camera port's last Sync and
Announce, Delay_Req accepted by each camera port in the present second and that second, next anchor
number, device clock seconds whose passage made the last anchor (R224). -/
structure TimeSt where
  trackA : Tracker
  trackB : Tracker
  stepped : Bool
  slew : Option (Nat × Int)
  holdFrom : Nat
  now : PerMaster (Option (Nat × Nat))
  tsq : List (List TsqEntry)
  ids : List Nat
  syncSeq : List Nat
  annSeq : List Nat
  reqSeq : List Nat
  syncAt : List (Option Nat)
  annAt : List (Option Nat)
  dreq : List (Nat × Nat)
  anchorNext : Nat
  anchorSec : Option Nat
deriving DecidableEq, Repr

end Sys2Proof.Machine
end

