-- ==== Sys2Proof/Machine/TypesWeb.lean ====
section
/-! DEFINITION. Data types of the state: encoders, tracking observer, pages. Positions are in 2^-16 nm,
speeds in 2^-16 nm/s, accelerations in 2^-16 nm/s². -/

namespace Sys2Proof.Machine

/-- An encoder input (R250-R254): chains of sin and cos, signed count of periods and last phase in 2^-16
of a period, quadrature count and accepted levels of A and B, samples in a row out of the amplitude
window and in it, line-break, updates in a row free of it, last measurements, second observer. -/
structure EncSt where
  sinCh : Chain
  cosCh : Chain
  periods : Int
  theta : Option Nat
  count : Int
  a : Bool
  b : Bool
  bad : Nat
  good : Nat
  los : Bool
  goodD : Nat
  mA : Option Int
  mD : Int
  obs : Option (Int × Int)
deriving DecidableEq, Repr

/-- A page grid (R262): start position, pitch in pm, page counter, boundary number after the last one
decided or passed, last boundary triggered, PAGE_MAX as the page began (R268). -/
structure Grid where
  start : Int
  pitch : Nat
  page : Nat
  next : Nat
  last : Option Nat
  max : Nat
deriving DecidableEq, Repr

/-- What the observer reported at an instant (R262): LT, p_now, v_now, `WEB.STATE.OBS`. -/
structure WebPast where
  at_ : Nat
  p : Int
  v : Int
  obs : Nat
deriving DecidableEq, Repr

/-- Values latched for a master by its reads of LO registers (R271). -/
structure WebLatch where
  posHi : Nat
  speed : Nat
  accel : Nat
  hwmHi : Nat
  lineHi : Nat
  page : Nat
  pageLine : Nat
  zpos0 : Nat
  zpos1 : Nat
deriving DecidableEq, Repr

/-- WEB: encoders, source in force, predictor position and speed (R257), last 16 values of w²e, their mean, present
estimates of position and speed, LT of the last update, end of SETTLING, start of the coast, offset of the source's
measurements (R268), initialisation waiting for 16 good samples (R256), high-water mark (none before the first
initialisation), grid in force, pending starts, next boundary of the first pending grid, last accepted start (R263),
start taken since MODE 1 came into force, t_L of the last decided trigger, next line counter, next page counter,
whether a page of the ring has begun since SRC 4 came into force (R332), the last reports newest first, as far back as a filtered edge of PAGE_SYNCn may lie, latches. -/
structure WebSt where
  encs : List EncSt
  src : Nat
  p : Int
  v : Int
  accs : List Int
  acc : Int
  pNow : Int
  vNow : Int
  updatedAt : Nat
  settleUntil : Nat
  coastFrom : Nat
  ofs : Int
  waitGood : Bool
  hwm : Option Int
  grid : Option Grid
  pend : List Int
  pendNext : Nat
  lastStart : Option Int
  mode1 : Bool
  lastTrig : Option Nat
  line : Nat
  nextPage : Nat
  ringPage : Bool
  past : List WebPast
  latch : PerMaster WebLatch
deriving DecidableEq, Repr

end Sys2Proof.Machine
end

