-- ==== Sys2Proof/Machine/State.lean ====
section
/-! DEFINITION. The state of the block as plain data, and the state after reset. -/

namespace Sys2Proof.Machine

/-- No command faults: everything the spec says the block does with a command is a next state.
The one constructor is raised by nothing. -/
inductive Fault where
  | unused
deriving DecidableEq, Repr

/-- Why a command is refused. -/
inductive Refusal where
  /-- Raised by the arms of `exec` whose command has no meaning yet; safe. -/
  | notModelled (mnemonic : String)
deriving DecidableEq, Repr

/-- Everything the block holds but the queue of waiting commands. -/
structure Block where
  freeCtr : Nat
  lt : Nat
  ltFrac : Nat
  devAddr : Nat
  regs : List (Nat × Word)
  staged : List (Nat × Word)
  commits : List Commit
  sram : SramSt
  errlog : ErrlogSt
  evt : EvtSt
  boot : BootSt
  fuses : Fuses
  clk : ClkSt
  flash : List Host.Cell
  host : HostSt
  dma : DmaSt
  mbx : MbxSt
  tag : TagSt
  gov : GovSt
  thm : ThmSt
  ser : SerSt
  camps : List CampSt
  trig : TrigSt
  time : TimeSt
  ring : RingSt
  sense : SenseSt
  web : WebSt
  ctxs : List CtxSt
  stitch : StitchSt
  dmc : DmcSt
  refs : RefsSt
  tango : TangoSt
  seg : SegSt
  axes : List AxisSt
  cal : CalSt
  out : List Output
deriving DecidableEq, Repr

/-- The state: the commands waiting, first in first out, and the block they act on. -/
structure State where
  pending : List Instr
  blk : Block
deriving DecidableEq, Repr

/-- The block after power-on, before anything has happened: PORn low, every register at its reset value, every
memory, queue and buffer empty. The values the spec gives none for are named in log entry 28. -/
def Block.initial : Block :=
  let chain : Chain := ⟨[], [[], [], [], []], [false, false, false, false], [], 0⟩
  let tracker : Tracker := ⟨[], none, none, 0, none, [], none, 0, 0, 0, false, none, 0, 0, 0, [], none⟩
  let link : RingLink :=
    ⟨0, 0xFFF, false, [], [], 0, 0, 0, [], 0, [], none, false, false, 0, ⟨0, 0, 0, 0, 0, 0, none, none⟩⟩
  let chan : DmaChan :=
    ⟨0, 65535, 256, none, false, false, false, false, false, none, 0, 0, 0, 0, [], 0, none, none, false, .host⟩
  let latch : WebLatch := ⟨0, 0, 0, 0, 0, 0, 0, 0, 0⟩
  let enc : EncSt := ⟨chain, chain, 0, none, 0, false, false, 0, 0, false, 0, none, 0, none⟩
  { freeCtr := 0, lt := 0, ltFrac := 0, devAddr := 0, regs := [], staged := [], commits := []
    sram := ⟨[]⟩
    errlog := ⟨[], [], 0, ⟨0, 0, 0, 0, 0, 0⟩, none⟩
    evt := ⟨[], [], [], [], []⟩
    boot := ⟨.por, false, false, false, true, false, [false, false, false, false], [], none, 0, 0, 0, false, false, .single, []⟩
    fuses := ⟨1, 1, false, List.replicate 4 ⟨false, false, false, false, 0⟩, false, 0, 0, 0, List.replicate 25 0x8000⟩
    clk := ⟨[], [], 1, none, none, false, 800, none, 1, 0, 0, false, none, false⟩
    flash := []
    host := ⟨false, false, false, List.replicate 64 ⟨0, 0, true⟩, [], 512, List.replicate 4 ⟨[], none, none⟩,
      none, 0, none⟩
    dma := ⟨List.replicate 64 chan, [], [], 0⟩
    mbx := ⟨[], [], [], [], [], [], [], none, none, [], List.replicate 12 [], List.replicate 12 [],
      List.replicate 12 0, List.replicate 12 false, 0, none⟩
    tag := ⟨[], 0, [], false, [], none, 0, 0, 0, (0, 0), [], [], [], []⟩
    gov := ⟨[], none, 0, false, [], 0, 0, 0, [], none⟩
    thm := ⟨List.replicate 24 0, List.replicate 24 0, List.replicate 6 0, List.replicate 6 0, none, none, none⟩
    ser := ⟨List.replicate 16 0, List.replicate 12 ⟨0, 0, false, 0⟩, List.replicate 16 0, false, false⟩
    camps := List.replicate 12 ⟨[], 0, none, none, none, none, 0, false, false, [], false, []⟩
    trig := ⟨[], [], none, [], [], []⟩
    time := ⟨tracker, tracker, false, none, 0, ⟨none, none, none, none, none, none⟩, List.replicate 13 [],
      List.replicate 13 0, List.replicate 12 0, List.replicate 12 0, [0, 0], List.replicate 12 none,
      List.replicate 12 none, List.replicate 12 (0, 0), 0, none⟩
    ring := ⟨[link, link, link], 0, none, [], [], false, false, [], [], false, none, [], 0, false, false,
      List.replicate 32 (8192, 8192, 8), none, ⟨0, 0, [], [], [], 0, 0, 0⟩, [], [], [], [], [], [], [], none, [], []⟩
    sense := ⟨List.replicate 16 ⟨chain, 0, 0, 0, false, false, false, 0, false, 0, 0, 0, false, [], [], []⟩, []⟩
    web := ⟨[enc, enc], 0, 0, 0, [], 0, 0, 0, 0, 0, 0, 0, false, none, none, [], 0, none, false, none, 0, 0, false, [],
      ⟨latch, latch, latch, latch, latch, latch⟩⟩
    ctxs := List.replicate 32 ⟨[], [], [], [], [], none, none, 0, 0, none, []⟩
    stitch := ⟨[], [], 0, []⟩
    dmc := ⟨[], [], [], 0, [], List.replicate 16 0, [], 0, none, [], none, List.replicate 16 0, none, false⟩
    refs := ⟨[], List.replicate 4 ⟨none, 0, [], 0, []⟩, [], [], [], none, 0, 0, [], []⟩
    tango := ⟨[], [], [], none, none, 0, 0, false, [], 0, 0⟩
    seg := ⟨[], 0, [], [], [], 0, none, 0, none, 0, 0, (0, 0, 0, 0), none, []⟩
    axes := List.replicate 2
      ⟨0, none, false, 0, 0, 0, false, [], [], 0, none, [], 0, 0, 0, 0, false, [], [], none, 0⟩
    cal := ⟨none, [], [], 0, 0, ⟨0, 0, 0, 0, 0, 0⟩, [], [], List.replicate 16 (0, 0)⟩
    out := [] }

/-- The machine right after reset: no command waits, PORn is low. -/
def State.reset : State := ⟨[], Block.initial⟩

end Sys2Proof.Machine
end

