-- ==== Sys2Proof/Machine/Store.lean ====
section
/-! DEFINITION. Sparse memories as lists of (address, value) in one canonical form: addresses
strictly rising, and no entry equal to what an unlisted address reads as. -/

namespace Sys2Proof.Machine

/-- The value at address a; an unlisted address reads d a. -/
def storeRead {α : Type} (d : Nat → α) : List (Nat × α) → Nat → α
  | [], a => d a
  | (k, v) :: r, a => if a = k then v else storeRead d r a

/-- The memory without the entries whose address satisfies p. -/
def storeDrop {α : Type} (p : Nat → Bool) (m : List (Nat × α)) : List (Nat × α) :=
  m.filter fun e => !p e.1

/-- The memory with v at address a; writing d a removes the entry. -/
def storeWrite {α : Type} [DecidableEq α] (d : Nat → α) : List (Nat × α) → Nat → α → List (Nat × α)
  | [], a, v => if v = d a then [] else [(a, v)]
  | (k, w) :: r, a, v =>
    if k < a then (k, w) :: storeWrite d r a v
    else
      let rest := if a = k then r else (k, w) :: r
      if v = d a then storeDrop (· == a) rest else (a, v) :: rest

/-- Every address is at least n, addresses rise strictly, and no entry is the default. -/
def storeWfFrom {α : Type} [DecidableEq α] (d : Nat → α) : Nat → List (Nat × α) → Bool
  | _, [] => true
  | n, (k, v) :: r => decide (n ≤ k) && decide (v ≠ d k) && storeWfFrom d (k + 1) r

/-- The canonical form. -/
def storeWf {α : Type} [DecidableEq α] (d : Nat → α) (m : List (Nat × α)) : Bool := storeWfFrom d 0 m

/-- n values from address a upward. -/
def storeReadN {α : Type} (d : Nat → α) (m : List (Nat × α)) (a : Nat) : Nat → List α
  | 0 => []
  | n + 1 => storeRead d m a :: storeReadN d m (a + 1) n

/-- A list of values written from address a upward. -/
def storeWriteN {α : Type} [DecidableEq α] (d : Nat → α) (m : List (Nat × α)) (a : Nat) :
    List α → List (Nat × α)
  | [] => m
  | v :: r => storeWriteN d (storeWrite d m a v) (a + 1) r

/-- A list of values written over whatever stands from address a upward, in one pass. -/
def storePut {α : Type} [DecidableEq α] (d : Nat → α) (m : List (Nat × α)) (a : Nat) (l : List α) : List (Nat × α) :=
  m.filter (fun e => decide (e.1 < a)) ++
    (((List.range l.length).map (a + ·)).zip l).filter (fun e => decide (e.2 ≠ d e.1)) ++
    m.filter fun e => decide (a + l.length ≤ e.1)

/-- n bytes of a memory from address a upward; an unlisted byte reads d. -/
def cellsRead (d : Byte) (m : List Host.Cell) (a n : Nat) : List Nat := (storeReadN (fun _ => d) m a n).map BitVec.toNat

/-- Bytes written into a memory from address a upward, one after another. -/
def cellsWrite (d : Byte) (m : List Host.Cell) (a : Nat) (l : List Nat) : List Host.Cell :=
  storeWriteN (fun _ => d) m a (l.map (BitVec.ofNat 8))

/-- Bytes put over whatever stands in a memory from address a upward. -/
def cellsPut (d : Byte) (m : List Host.Cell) (a : Nat) (l : List Nat) : List Host.Cell :=
  storePut (fun _ => d) m a (l.map (BitVec.ofNat 8))

end Sys2Proof.Machine
end

