-- ==== Sys2Proof/Config.lean ====
section
/-! DEFINITION. What the spec leaves to the implementation or leaves open: opaque constants with no
body, so that no proof can see their value. -/

namespace Sys2Proof

open Machine

/-- FREE VALUES. The value at position n of the sequence of values the spec leaves open; the step
reads it at `Block.freeCtr` and advances the counter (R58, R59). Log entry 1. -/
opaque Config.free : Nat → Nat

/-- The firmware version GET_STATUS reports; the spec gives it no form (R534). Log entry 25. -/
opaque Config.firmwareVersion : Nat

/-- portNumber of the line port's PTP port; R216 gives those of the camera ports alone. Log entry 21. -/
opaque Config.linePortNumber : Nat

/-- SHA-384 of a list of bytes, as a number (R66-R69). Log entry 5. -/
opaque Config.sha384 : List Nat → Nat

/-- Whether an ECDSA P-384 signature (second argument, r then s) verifies over a byte list under a
public key (X then Y) (R66, R69, R532). Log entry 5. -/
opaque Config.ecdsaOk : (key : Nat) → (sig : Nat) → (msg : List Nat) → Bool

/-- The two Aqzia ROM keys (R69). Log entry 5. -/
opaque Config.aqziaKey : Nat → Nat

/-- Whether an image header is that of an Aqzia test image, which MANUFACTURE accepts alone (R87). Log entry 5. -/
opaque Config.aqziaTest : List Nat → Bool

/-- Whether an image header is that of an Aqzia diagnostic image, which RMA accepts alone (R87). Log entry 5. -/
opaque Config.aqziaDiagnostic : List Nat → Bool

/-- Tap i of half-band n of the decimation chain, Q1.17; the spec gives no coefficients (R233). Log
entry 9. -/
opaque Config.halfBandTap : (stage tap : Nat) → Int

/-- Tap i of the ROM final filter of a MODE, Q1.17; the spec gives no coefficients (R235). Log entry 9. -/
opaque Config.finalTap : (mode tap : Nat) → Int

end Sys2Proof
end

