-- ==== Sys2Proof/Machine/RegMap.lean ====
section
/-! DEFINITION. The register maps of every unit type, one definition for each named field of the
field tables, with its place, access, reset value and boundary (R12, R14, R34; the tables of R50,
R93, R125, R139, R165, R166, R201, R202, R229, R230, R249, R271, R298, R299, R325, R326, R355,
R356, R379, R409, R410, R435, R455, R479, R504, R505, R535, R536, R573, R588, R596, R618). -/

namespace Sys2Proof.Machine

/-- Access type of a field (R12). -/
inductive Access where
  | ro | rw | rw1c | wo | seal | stage | live
deriving DecidableEq, Repr

/-- A field of a register map: byte offset of its register, distance between instances of the
register and their number, most and least significant bit, access, the reset value of each
instance (the last entry serves every later instance), and the boundary of a STAGE field. -/
structure Field where
  off : Nat
  stride : Nat
  count : Nat
  hi : Nat
  lo : Nat
  acc : Access
  reset : List Nat
  bnd : Option Boundary
deriving DecidableEq, Repr


/-! ## COMMON (R34) -/

def F.COMMON.UNIT_STAT_ATTN : Field := ⟨0x40, 0x0, 1, 0, 0, .ro, [0], none⟩
def F.COMMON.UNIT_STAT_PEND : Field := ⟨0x40, 0x0, 1, 1, 1, .ro, [0], none⟩
def F.COMMON.UNIT_STAT_POWERED : Field := ⟨0x40, 0x0, 1, 2, 2, .ro, [0], none⟩
def F.COMMON.COMMIT_BOUNDARY : Field := ⟨0x44, 0x0, 1, 1, 0, .wo, [0], none⟩
def F.COMMON.COMMIT_CANCEL : Field := ⟨0x44, 0x0, 1, 2, 2, .wo, [0], none⟩
def F.COMMON.COMMIT_TAG : Field := ⟨0x44, 0x0, 1, 15, 8, .wo, [0], none⟩
def F.COMMON.COMMIT_STAT_PENDING : Field := ⟨0x48, 0x0, 1, 0, 0, .ro, [0], none⟩
def F.COMMON.COMMIT_STAT_DONE : Field := ⟨0x48, 0x0, 1, 1, 1, .rw1c, [0], none⟩
def F.COMMON.COMMIT_STAT_REFUSED : Field := ⟨0x48, 0x0, 1, 2, 2, .rw1c, [0], none⟩
def F.COMMON.COMMIT_STAT_SKEW : Field := ⟨0x48, 0x0, 1, 3, 3, .rw1c, [0], none⟩
def F.COMMON.COMMIT_STAT_BOUNDARY : Field := ⟨0x48, 0x0, 1, 5, 4, .ro, [0], none⟩
def F.COMMON.COMMIT_STAT_CANCELLED : Field := ⟨0x48, 0x0, 1, 6, 6, .rw1c, [0], none⟩
def F.COMMON.COMMIT_STAT_TAG : Field := ⟨0x48, 0x0, 1, 15, 8, .ro, [0], none⟩
def F.COMMON.COMMIT_LINE_LO_VALUE : Field := ⟨0x4c, 0x0, 1, 31, 0, .ro, [0], none⟩
def F.COMMON.COMMIT_LINE_HI_VALUE : Field := ⟨0x50, 0x0, 1, 15, 0, .ro, [0], none⟩
def F.COMMON.COMMIT_PAGE_VALUE : Field := ⟨0x54, 0x0, 1, 31, 0, .ro, [0], none⟩
def F.COMMON.STAGE_PEND_COUNT : Field := ⟨0x58, 0x0, 1, 15, 0, .ro, [0], none⟩

/-! ## LOCK (R50) -/

def F.LOCK.SEM_RESULT : Field := ⟨0x100, 0x4, 64, 0, 0, .rw, [0], none⟩
def F.LOCK.SEM_HOLDER : Field := ⟨0x100, 0x4, 64, 7, 4, .ro, [0], none⟩
def F.LOCK.SEM_HOLDER_DEV : Field := ⟨0x100, 0x4, 64, 21, 8, .ro, [0], none⟩
def F.LOCK.HELD_LO_HELD : Field := ⟨0x200, 0x0, 1, 31, 0, .ro, [0], none⟩
def F.LOCK.HELD_HI_HELD : Field := ⟨0x204, 0x0, 1, 31, 0, .ro, [0], none⟩

/-! ## SYS (R93) -/

def F.SYS.BOOT_STAT_PHASE : Field := ⟨0x100, 0x0, 1, 3, 0, .ro, [0], none⟩
def F.SYS.BOOT_STAT_SLOT : Field := ⟨0x100, 0x0, 1, 4, 4, .ro, [0], none⟩
def F.SYS.BOOT_STAT_FALLBACK : Field := ⟨0x100, 0x0, 1, 5, 5, .ro, [0], none⟩
def F.SYS.BOOT_STAT_SEALED : Field := ⟨0x100, 0x0, 1, 6, 6, .ro, [0], none⟩
def F.SYS.BOOT_STAT_DEADLINE : Field := ⟨0x100, 0x0, 1, 7, 7, .ro, [0], none⟩
def F.SYS.BOOT_CTL_ALIVE : Field := ⟨0x104, 0x0, 1, 0, 0, .rw, [0], none⟩
def F.SYS.BOOT_CTL_SEAL : Field := ⟨0x104, 0x0, 1, 1, 1, .wo, [0], none⟩
def F.SYS.BOOT_CTL_DEV_RESET : Field := ⟨0x104, 0x0, 1, 2, 2, .wo, [0], none⟩
def F.SYS.STRAPS_BOOTSEL : Field := ⟨0x108, 0x0, 1, 1, 0, .ro, [0], none⟩
def F.SYS.STRAPS_BOARD_ID : Field := ⟨0x108, 0x0, 1, 7, 4, .ro, [0], none⟩
def F.SYS.LIFECYCLE_STATE : Field := ⟨0x10c, 0x0, 1, 2, 0, .ro, [0], none⟩
def F.SYS.LIFECYCLE_DEBUG_DISABLED : Field := ⟨0x10c, 0x0, 1, 3, 3, .ro, [0], none⟩
def F.SYS.LIFECYCLE_KEY_FUSED : Field := ⟨0x10c, 0x0, 1, 7, 4, .ro, [0], none⟩
def F.SYS.LIFECYCLE_KEY_REVOKED : Field := ⟨0x10c, 0x0, 1, 11, 8, .ro, [0], none⟩
def F.SYS.LIFECYCLE_AQZIA_KEY0_REVOKED : Field := ⟨0x10c, 0x0, 1, 12, 12, .ro, [0], none⟩
def F.SYS.LIFECYCLE_GRADE : Field := ⟨0x10c, 0x0, 1, 13, 13, .ro, [0], none⟩
def F.SYS.LIFECYCLE_ROLLBACK : Field := ⟨0x10c, 0x0, 1, 22, 16, .ro, [0], none⟩
def F.SYS.IMAGE_SEQ_SEQUENCE : Field := ⟨0x110, 0x0, 1, 31, 0, .ro, [0], none⟩
def F.SYS.IMAGE_RB_ROLLBACK : Field := ⟨0x114, 0x0, 1, 15, 0, .ro, [0], none⟩
def F.SYS.DEVICE_ID_LO_ID : Field := ⟨0x118, 0x0, 1, 31, 0, .ro, [0], none⟩
def F.SYS.DEVICE_ID_HI_ID : Field := ⟨0x11c, 0x0, 1, 31, 0, .ro, [0], none⟩
def F.SYS.RST_CAUSE_CAUSE : Field := ⟨0x120, 0x0, 1, 2, 0, .ro, [0], none⟩
def F.SYS.UNIT_FAIL_CORE : Field := ⟨0x124, 0x0, 1, 2, 0, .ro, [0], none⟩
def F.SYS.UNIT_FAIL_DMC : Field := ⟨0x124, 0x0, 1, 3, 3, .ro, [0], none⟩
def F.SYS.UNIT_FAIL_HOST : Field := ⟨0x124, 0x0, 1, 4, 4, .ro, [0], none⟩
def F.SYS.UNIT_FAIL_LPORT : Field := ⟨0x124, 0x0, 1, 5, 5, .ro, [0], none⟩
def F.SYS.UNIT_FAIL_RING : Field := ⟨0x124, 0x0, 1, 6, 6, .ro, [0], none⟩
def F.SYS.UNIT_FAIL_CAL : Field := ⟨0x124, 0x0, 1, 7, 7, .ro, [0], none⟩
def F.SYS.UNIT_FAIL_THM : Field := ⟨0x124, 0x0, 1, 8, 8, .ro, [0], none⟩
def F.SYS.UNIT_FAIL_LANE_TABLE : Field := ⟨0x124, 0x0, 1, 9, 9, .ro, [0], none⟩
def F.SYS.UNIT_FAIL_CAMP : Field := ⟨0x124, 0x0, 1, 27, 16, .ro, [0], none⟩
def F.SYS.SEAL_DEADLINE_MS : Field := ⟨0x128, 0x0, 1, 13, 0, .seal, [2000], none⟩
def F.SYS.BOOT_TIME_US : Field := ⟨0x12c, 0x0, 1, 31, 0, .ro, [0], none⟩

/-! ## CLK (R125) -/

def F.CLK.SRC_STAT_ITO_OK : Field := ⟨0x100, 0x0, 1, 0, 0, .ro, [0], none⟩
def F.CLK.SRC_STAT_WATCH_OK : Field := ⟨0x100, 0x0, 1, 1, 1, .ro, [0], none⟩
def F.CLK.SRC_STAT_XTAL_OK : Field := ⟨0x100, 0x0, 1, 2, 2, .ro, [0], none⟩
def F.CLK.SRC_STAT_REF_OK : Field := ⟨0x100, 0x0, 1, 3, 3, .ro, [0], none⟩
def F.CLK.SRC_STAT_SYS_LOCK : Field := ⟨0x100, 0x0, 1, 4, 4, .ro, [0], none⟩
def F.CLK.SRC_STAT_DDR_LOCK : Field := ⟨0x100, 0x0, 1, 5, 5, .ro, [0], none⟩
def F.CLK.SRC_STAT_ON_ITO : Field := ⟨0x100, 0x0, 1, 6, 6, .ro, [0], none⟩
def F.CLK.SRC_STAT_ARMED : Field := ⟨0x100, 0x0, 1, 7, 7, .ro, [0], none⟩
def F.CLK.MON_STAT_XTAL_FAIL : Field := ⟨0x104, 0x0, 1, 0, 0, .rw1c, [0], none⟩
def F.CLK.MON_STAT_REF_FAIL : Field := ⟨0x104, 0x0, 1, 1, 1, .rw1c, [0], none⟩
def F.CLK.MON_STAT_WATCH_FAIL : Field := ⟨0x104, 0x0, 1, 2, 2, .rw1c, [0], none⟩
def F.CLK.MON_STAT_PLL_FAIL : Field := ⟨0x104, 0x0, 1, 3, 3, .rw1c, [0], none⟩
def F.CLK.MON_STAT_GATE_TIMEOUT : Field := ⟨0x104, 0x0, 1, 4, 4, .rw1c, [0], none⟩
def F.CLK.MON_STAT_AVS_FAIL : Field := ⟨0x104, 0x0, 1, 5, 5, .rw1c, [0], none⟩
def F.CLK.MON_STAT_TEMPO_SHORT : Field := ⟨0x104, 0x0, 1, 6, 6, .rw1c, [0], none⟩
def F.CLK.MON_CFG_XTAL_GRACE_MS : Field := ⟨0x108, 0x0, 1, 7, 0, .seal, [10], none⟩
def F.CLK.PSTATE_CURRENT : Field := ⟨0x110, 0x0, 1, 1, 0, .ro, [1], none⟩
def F.CLK.PSTATE_TARGET : Field := ⟨0x110, 0x0, 1, 3, 2, .ro, [1], none⟩
def F.CLK.PSTATE_CAP : Field := ⟨0x110, 0x0, 1, 5, 4, .ro, [0], none⟩
def F.CLK.PSTATE_BUSY : Field := ⟨0x110, 0x0, 1, 6, 6, .ro, [0], none⟩
def F.CLK.PSTATE_REQ_REQ : Field := ⟨0x114, 0x0, 1, 1, 0, .rw, [1], none⟩
def F.CLK.PSTATE_CFG_BOOT : Field := ⟨0x118, 0x0, 1, 1, 0, .seal, [1], none⟩
def F.CLK.PSTATE_CFG_SLEW : Field := ⟨0x118, 0x0, 1, 15, 8, .seal, [5], none⟩
def F.CLK.PVOLT_MV : Field := ⟨0x120, 0x4, 4, 9, 0, .seal, [850, 820, 720, 620], none⟩
def F.CLK.AVS_VOUT_MV : Field := ⟨0x130, 0x0, 1, 9, 0, .ro, [0], none⟩
def F.CLK.AVS_IOUT_RAW : Field := ⟨0x134, 0x0, 1, 15, 0, .ro, [0], none⟩
def F.CLK.TMON_CTL_CLEAR_MIN : Field := ⟨0x140, 0x0, 1, 0, 0, .wo, [0], none⟩
def F.CLK.TMON_TEMPO : Field := ⟨0x180, 0x4, 25, 11, 0, .ro, [0], none⟩
def F.CLK.TMON_MIN : Field := ⟨0x180, 0x4, 25, 27, 16, .ro, [4095], none⟩
def F.CLK.TMON_GATED : Field := ⟨0x180, 0x4, 25, 28, 28, .ro, [0], none⟩
def F.CLK.GATE_CLOSE : Field := ⟨0x200, 0x4, 42, 0, 0, .rw, [0], none⟩
def F.CLK.GATE_OPEN : Field := ⟨0x200, 0x4, 42, 1, 1, .ro, [1], none⟩
def F.CLK.GATE_IN_USE : Field := ⟨0x200, 0x4, 42, 2, 2, .ro, [0], none⟩
def F.CLK.GATE_REFUSED : Field := ⟨0x200, 0x4, 42, 3, 3, .rw1c, [0], none⟩
def F.CLK.GATE_TIMEOUT : Field := ⟨0x200, 0x4, 42, 4, 4, .rw1c, [0], none⟩

/-! ## THM (R139) -/

def F.THM.STATE_WARN : Field := ⟨0x100, 0x0, 1, 5, 0, .ro, [0], none⟩
def F.THM.STATE_THROTTLE : Field := ⟨0x100, 0x0, 1, 13, 8, .ro, [0], none⟩
def F.THM.STATE_ENFORCE : Field := ⟨0x100, 0x0, 1, 21, 16, .ro, [0], none⟩
def F.THM.STATE_LOW_WARN : Field := ⟨0x100, 0x0, 1, 29, 24, .ro, [0], none⟩
def F.THM.STATE_REQ : Field := ⟨0x100, 0x0, 1, 30, 30, .ro, [0], none⟩
def F.THM.STATE_GRACE_DONE : Field := ⟨0x100, 0x0, 1, 31, 31, .ro, [0], none⟩
def F.THM.FLAGS_WARN : Field := ⟨0x104, 0x0, 1, 0, 0, .rw1c, [0], none⟩
def F.THM.FLAGS_THROTTLE : Field := ⟨0x104, 0x0, 1, 1, 1, .rw1c, [0], none⟩
def F.THM.FLAGS_ENF_STEP : Field := ⟨0x104, 0x0, 1, 2, 2, .rw1c, [0], none⟩
def F.THM.FLAGS_RELAX_STEP : Field := ⟨0x104, 0x0, 1, 3, 3, .rw1c, [0], none⟩
def F.THM.FLAGS_LOW_WARN : Field := ⟨0x104, 0x0, 1, 4, 4, .rw1c, [0], none⟩
def F.THM.FLAGS_SENSOR : Field := ⟨0x104, 0x0, 1, 5, 5, .rw1c, [0], none⟩
def F.THM.FLAGS_STEP_BLOCKED : Field := ⟨0x104, 0x0, 1, 6, 6, .rw1c, [0], none⟩
def F.THM.BROKEN_SENSOR : Field := ⟨0x108, 0x0, 1, 23, 0, .ro, [0], none⟩
def F.THM.HIGH_THR_HIGH_WARN : Field := ⟨0x110, 0x0, 1, 7, 0, .seal, [90], none⟩
def F.THM.HIGH_THR_THROTTLE : Field := ⟨0x110, 0x0, 1, 15, 8, .seal, [95], none⟩
def F.THM.HIGH_THR_ENFORCE : Field := ⟨0x110, 0x0, 1, 23, 16, .seal, [100], none⟩
def F.THM.HIGH_THR_CRITICAL : Field := ⟨0x110, 0x0, 1, 31, 24, .seal, [110], none⟩
def F.THM.LOW_THR_LOW_WARN : Field := ⟨0x114, 0x0, 1, 7, 0, .seal, [0], none⟩
def F.THM.LOW_THR_LOW_INHIBIT : Field := ⟨0x114, 0x0, 1, 15, 8, .seal, [251], none⟩
def F.THM.LOW_THR_HYST : Field := ⟨0x114, 0x0, 1, 19, 16, .seal, [3], none⟩
def F.THM.TIMING_GRACE : Field := ⟨0x118, 0x0, 1, 6, 0, .seal, [20], none⟩
def F.THM.TIMING_STEP_INT : Field := ⟨0x118, 0x0, 1, 15, 8, .seal, [5], none⟩
def F.THM.TIMING_RELAX : Field := ⟨0x118, 0x0, 1, 23, 16, .seal, [10], none⟩
def F.THM.CTL_CLEAR_PEAK : Field := ⟨0x11c, 0x0, 1, 0, 0, .wo, [0], none⟩
def F.THM.ZONE_HIGH : Field := ⟨0x120, 0x4, 6, 11, 0, .ro, [0], none⟩
def F.THM.ZONE_LOW : Field := ⟨0x120, 0x4, 6, 27, 16, .ro, [0], none⟩
def F.THM.SENSOR_TEMP : Field := ⟨0x140, 0x4, 24, 11, 0, .ro, [0], none⟩
def F.THM.SENSOR_BROKEN : Field := ⟨0x140, 0x4, 24, 12, 12, .ro, [0], none⟩
def F.THM.SENSOR_PEAK : Field := ⟨0x140, 0x4, 24, 27, 16, .ro, [2048], none⟩

/-! ## SERDES (R165) -/

def F.SERDES.PORT_CFG_MODE : Field := ⟨0x100, 0x4, 16, 1, 0, .seal, [0, 0, 0, 0, 0, 0, 0, 0, 0, 0, 0, 0, 3, 3, 3, 2], none⟩
def F.SERDES.PORT_CFG_MEDIA : Field := ⟨0x100, 0x4, 16, 2, 2, .seal, [0], none⟩
def F.SERDES.PORT_CFG_TRAIN : Field := ⟨0x100, 0x4, 16, 3, 3, .seal, [1], none⟩
def F.SERDES.PORT_CFG_FEC : Field := ⟨0x100, 0x4, 16, 5, 4, .seal, [2], none⟩
def F.SERDES.PORT_STAT_STATE : Field := ⟨0x140, 0x4, 16, 3, 0, .ro, [0], none⟩
def F.SERDES.PORT_STAT_LANES_UP : Field := ⟨0x140, 0x4, 16, 7, 4, .ro, [0], none⟩
def F.SERDES.PORT_STAT_RX_INV : Field := ⟨0x140, 0x4, 16, 11, 8, .ro, [0], none⟩
def F.SERDES.PORT_STAT_RX_ORDER : Field := ⟨0x140, 0x4, 16, 19, 12, .ro, [0], none⟩
def F.SERDES.PORT_STAT_FEC_LOCK : Field := ⟨0x140, 0x4, 16, 20, 20, .ro, [0], none⟩
def F.SERDES.PORT_STAT_MISWIRE : Field := ⟨0x140, 0x4, 16, 21, 21, .ro, [0], none⟩
def F.SERDES.PORT_STAT_NO_TABLE : Field := ⟨0x140, 0x4, 16, 22, 22, .ro, [0], none⟩
def F.SERDES.PORT_STAT_LOSS_HIGH : Field := ⟨0x140, 0x4, 16, 23, 23, .ro, [0], none⟩
def F.SERDES.PORT_STAT_DOWN_COUNT : Field := ⟨0x140, 0x4, 16, 31, 24, .ro, [0], none⟩
def F.SERDES.FEC_COR_COUNT : Field := ⟨0x180, 0x4, 16, 31, 0, .ro, [0], none⟩
def F.SERDES.FEC_UNC_COUNT : Field := ⟨0x1c0, 0x4, 16, 31, 0, .ro, [0], none⟩
def F.SERDES.TABLE_STAT_BOARD_ID : Field := ⟨0x200, 0x0, 1, 3, 0, .ro, [0], none⟩
def F.SERDES.TABLE_STAT_MATCH : Field := ⟨0x200, 0x0, 1, 4, 4, .ro, [0], none⟩
def F.SERDES.TABLE_STAT_ENTRIES : Field := ⟨0x200, 0x0, 1, 15, 8, .ro, [0], none⟩
def F.SERDES.LINK_CFG_HOLDOFF_MS : Field := ⟨0x204, 0x0, 1, 7, 0, .seal, [10], none⟩
def F.SERDES.LINK_CFG_SID_EYE_MIN : Field := ⟨0x204, 0x0, 1, 15, 8, .seal, [20], none⟩
def F.SERDES.LINK_CFG_SID_LOSS_MAX : Field := ⟨0x204, 0x0, 1, 23, 16, .seal, [64], none⟩
def F.SERDES.LINK_EVT_CHANGED : Field := ⟨0x208, 0x0, 1, 15, 0, .rw1c, [0], none⟩
def F.SERDES.BYPASS_CTL_OPEN : Field := ⟨0x210, 0x0, 1, 0, 0, .rw, [0], none⟩
def F.SERDES.BYPASS_STAT_OPEN : Field := ⟨0x214, 0x0, 1, 0, 0, .ro, [0], none⟩
def F.SERDES.BYPASS_STAT_VBYP_OK : Field := ⟨0x214, 0x0, 1, 1, 1, .ro, [0], none⟩
def F.SERDES.BYPASS_STAT_FORCED : Field := ⟨0x214, 0x0, 1, 2, 2, .rw1c, [0], none⟩
def F.SERDES.CTL_CLEAR_CNT : Field := ⟨0x218, 0x0, 1, 0, 0, .wo, [0], none⟩

/-! ## LANE (R166) -/

def F.LANE.STAT_SIG_DET : Field := ⟨0x100, 0x0, 1, 0, 0, .ro, [0], none⟩
def F.LANE.STAT_CDR_LOCK : Field := ⟨0x100, 0x0, 1, 1, 1, .ro, [0], none⟩
def F.LANE.STAT_RX_INV : Field := ⟨0x100, 0x0, 1, 2, 2, .ro, [0], none⟩
def F.LANE.STAT_TX_INV : Field := ⟨0x100, 0x0, 1, 3, 3, .ro, [0], none⟩
def F.LANE.STAT_TX_LOGICAL : Field := ⟨0x100, 0x0, 1, 5, 4, .ro, [0], none⟩
def F.LANE.STAT_RX_LOGICAL : Field := ⟨0x100, 0x0, 1, 7, 6, .ro, [0], none⟩
def F.LANE.STAT_EYE_VALID : Field := ⟨0x100, 0x0, 1, 8, 8, .ro, [0], none⟩
def F.LANE.STAT_USED : Field := ⟨0x100, 0x0, 1, 9, 9, .ro, [0], none⟩
def F.LANE.EQ_PRE : Field := ⟨0x104, 0x0, 1, 3, 0, .ro, [0], none⟩
def F.LANE.EQ_MAIN : Field := ⟨0x104, 0x0, 1, 9, 4, .ro, [0], none⟩
def F.LANE.EQ_POST : Field := ⟨0x104, 0x0, 1, 14, 10, .ro, [0], none⟩
def F.LANE.EQ_CTLE : Field := ⟨0x104, 0x0, 1, 19, 15, .ro, [0], none⟩
def F.LANE.EYE_HEIGHT : Field := ⟨0x108, 0x0, 1, 7, 0, .ro, [0], none⟩
def F.LANE.EYE_WIDTH : Field := ⟨0x108, 0x0, 1, 13, 8, .ro, [0], none⟩
def F.LANE.LOSS_EST : Field := ⟨0x10c, 0x0, 1, 7, 0, .ro, [0], none⟩
def F.LANE.SYMERR_COUNT : Field := ⟨0x110, 0x0, 1, 31, 0, .ro, [0], none⟩

/-! ## CAMP (R201) -/

def F.CAMP.MAC_LO_OCTETS : Field := ⟨0x100, 0x0, 1, 31, 0, .seal, [0], none⟩
def F.CAMP.MAC_HI_OCTETS : Field := ⟨0x104, 0x0, 1, 15, 0, .seal, [0], none⟩
def F.CAMP.IPV4_ADDR : Field := ⟨0x108, 0x0, 1, 31, 0, .seal, [0], none⟩
def F.CAMP.CAM_IPV4_ADDR : Field := ⟨0x10c, 0x0, 1, 31, 0, .stage, [0], (some .page)⟩
def F.CAMP.STREAM_CFG_STREAM_EN : Field := ⟨0x110, 0x0, 1, 0, 0, .stage, [0], (some .page)⟩
def F.CAMP.STREAM_CFG_PIXFMT : Field := ⟨0x110, 0x0, 1, 3, 1, .stage, [0], (some .page)⟩
def F.CAMP.STREAM_CFG_ANCHOR : Field := ⟨0x110, 0x0, 1, 4, 4, .stage, [1], (some .page)⟩
def F.CAMP.STREAM_PORT_UDP : Field := ⟨0x114, 0x0, 1, 15, 0, .stage, [50000], (some .page)⟩
def F.CAMP.GEOM_WIDTH : Field := ⟨0x118, 0x0, 1, 14, 0, .stage, [16384], (some .page)⟩
def F.CAMP.GEOM_PKT_BYTES : Field := ⟨0x118, 0x0, 1, 29, 16, .stage, [8192], (some .page)⟩
def F.CAMP.TIMING_TIMEOUT_US : Field := ⟨0x11c, 0x0, 1, 11, 0, .stage, [100], (some .page)⟩
def F.CAMP.TIMING_TS_WINDOW_NS : Field := ⟨0x11c, 0x0, 1, 27, 16, .stage, [1000], (some .page)⟩
def F.CAMP.TS_OFFSET : Field := ⟨0x120, 0x0, 1, 15, 0, .stage, [0], (some .page)⟩
def F.CAMP.TUNNEL_CFG_RX_EN : Field := ⟨0x124, 0x0, 1, 0, 0, .seal, [1], none⟩
def F.CAMP.STAT_STATE : Field := ⟨0x130, 0x0, 1, 1, 0, .ro, [0], none⟩
def F.CAMP.STAT_OPEN : Field := ⟨0x130, 0x0, 1, 12, 2, .ro, [0], none⟩
def F.CAMP.FLAGS_STATE_CHANGE : Field := ⟨0x134, 0x0, 1, 0, 0, .rw1c, [0], none⟩
def F.CAMP.FLAGS_FORMAT_MISMATCH : Field := ⟨0x134, 0x0, 1, 1, 1, .rw1c, [0], none⟩
def F.CAMP.FLAGS_TS_MISMATCH : Field := ⟨0x134, 0x0, 1, 2, 2, .rw1c, [0], none⟩
def F.CAMP.FLAGS_QUEUE_FULL : Field := ⟨0x134, 0x0, 1, 3, 3, .rw1c, [0], none⟩
def F.CAMP.FLAGS_LOST : Field := ⟨0x134, 0x0, 1, 4, 4, .rw1c, [0], none⟩
def F.CAMP.LAST_BLOCK_LO_ID : Field := ⟨0x138, 0x0, 1, 31, 0, .ro, [0], none⟩
def F.CAMP.LAST_BLOCK_HI_ID : Field := ⟨0x13c, 0x0, 1, 31, 0, .ro, [0], none⟩
def F.CAMP.CTL_CLEAR_CNT : Field := ⟨0x140, 0x0, 1, 0, 0, .wo, [0], none⟩
def F.CAMP.CNT_LINES_COUNT : Field := ⟨0x150, 0x0, 1, 31, 0, .ro, [0], none⟩
def F.CAMP.CNT_SHORT_COUNT : Field := ⟨0x154, 0x0, 1, 31, 0, .ro, [0], none⟩
def F.CAMP.CNT_LONG_COUNT : Field := ⟨0x158, 0x0, 1, 31, 0, .ro, [0], none⟩
def F.CAMP.CNT_LOST_COUNT : Field := ⟨0x15c, 0x0, 1, 31, 0, .ro, [0], none⟩
def F.CAMP.CNT_LATE_COUNT : Field := ⟨0x160, 0x0, 1, 31, 0, .ro, [0], none⟩
def F.CAMP.CNT_EXTRA_COUNT : Field := ⟨0x164, 0x0, 1, 31, 0, .ro, [0], none⟩
def F.CAMP.CNT_PKT_ERR_COUNT : Field := ⟨0x168, 0x0, 1, 31, 0, .ro, [0], none⟩
def F.CAMP.CNT_GVSP_DROP_COUNT : Field := ⟨0x16c, 0x0, 1, 31, 0, .ro, [0], none⟩
def F.CAMP.CNT_BLOCK_GAP_COUNT : Field := ⟨0x170, 0x0, 1, 31, 0, .ro, [0], none⟩
def F.CAMP.CNT_LEADER_LOST_COUNT : Field := ⟨0x174, 0x0, 1, 31, 0, .ro, [0], none⟩
def F.CAMP.CNT_TS_MISS_COUNT : Field := ⟨0x178, 0x0, 1, 31, 0, .ro, [0], none⟩
def F.CAMP.CNT_TUNNEL_DROP_COUNT : Field := ⟨0x17c, 0x0, 1, 31, 0, .ro, [0], none⟩

/-! ## TRIG (R202) -/

def F.TRIG.CFG_LOW_MIN_NS : Field := ⟨0x100, 0x0, 1, 11, 0, .seal, [100], none⟩
def F.TRIG.CFG_INVERT : Field := ⟨0x100, 0x0, 1, 27, 16, .seal, [0], none⟩
def F.TRIG.EPOCH_NUMBER : Field := ⟨0x104, 0x0, 1, 15, 0, .ro, [0], none⟩
def F.TRIG.FLAGS_CUT : Field := ⟨0x108, 0x0, 1, 0, 0, .rw1c, [0], none⟩
def F.TRIG.FLAGS_EPOCH : Field := ⟨0x108, 0x0, 1, 1, 1, .rw1c, [0], none⟩
def F.TRIG.FLAGS_LOW_SHORT : Field := ⟨0x108, 0x0, 1, 2, 2, .rw1c, [0], none⟩
def F.TRIG.CTL_CLEAR_CNT : Field := ⟨0x10c, 0x0, 1, 0, 0, .wo, [0], none⟩
def F.TRIG.OUT_EN : Field := ⟨0x140, 0x4, 12, 0, 0, .stage, [0], (some .page)⟩
def F.TRIG.OUT_DELAY_NS : Field := ⟨0x140, 0x4, 12, 31, 16, .stage, [0], (some .page)⟩
def F.TRIG.EXPOSE_WIDTH_NS : Field := ⟨0x180, 0x4, 12, 19, 0, .stage, [1000], (some .epoch)⟩
def F.TRIG.CUT_COUNT : Field := ⟨0x1c0, 0x4, 12, 31, 0, .ro, [0], none⟩

/-! ## TIME (R229) -/

def F.TIME.STATE_STATE : Field := ⟨0x100, 0x0, 1, 2, 0, .ro, [0], none⟩
def F.TIME.STATE_SEL : Field := ⟨0x100, 0x0, 1, 3, 3, .ro, [0], none⟩
def F.TIME.STATE_SLEWING : Field := ⟨0x100, 0x0, 1, 4, 4, .ro, [0], none⟩
def F.TIME.STATE_ON_ITO : Field := ⟨0x100, 0x0, 1, 5, 5, .ro, [0], none⟩
def F.TIME.STATE_USABLE_A : Field := ⟨0x100, 0x0, 1, 6, 6, .ro, [0], none⟩
def F.TIME.STATE_USABLE_B : Field := ⟨0x100, 0x0, 1, 7, 7, .ro, [0], none⟩
def F.TIME.FLAGS_STEP : Field := ⟨0x104, 0x0, 1, 0, 0, .rw1c, [0], none⟩
def F.TIME.FLAGS_SWITCH : Field := ⟨0x104, 0x0, 1, 1, 1, .rw1c, [0], none⟩
def F.TIME.FLAGS_DISAGREE : Field := ⟨0x104, 0x0, 1, 2, 2, .rw1c, [0], none⟩
def F.TIME.FLAGS_HOLDOVER : Field := ⟨0x104, 0x0, 1, 3, 3, .rw1c, [0], none⟩
def F.TIME.FLAGS_FREE : Field := ⟨0x104, 0x0, 1, 4, 4, .rw1c, [0], none⟩
def F.TIME.FLAGS_TSQ_OVF : Field := ⟨0x104, 0x0, 1, 5, 5, .rw1c, [0], none⟩
def F.TIME.DOMAIN_CFG_DOMAIN_A : Field := ⟨0x108, 0x0, 1, 7, 0, .seal, [0], none⟩
def F.TIME.DOMAIN_CFG_DOMAIN_B : Field := ⟨0x108, 0x0, 1, 15, 8, .seal, [1], none⟩
def F.TIME.DOMAIN_CFG_PRIMARY : Field := ⟨0x108, 0x0, 1, 16, 16, .seal, [0], none⟩
def F.TIME.DOMAIN_CFG_REVERT : Field := ⟨0x108, 0x0, 1, 17, 17, .seal, [1], none⟩
def F.TIME.DOMAIN_CFG_CAM_DOMAIN : Field := ⟨0x108, 0x0, 1, 31, 24, .seal, [0], none⟩
def F.TIME.DOMAIN_CTL_FORCE : Field := ⟨0x10c, 0x0, 1, 1, 0, .rw, [0], none⟩
def F.TIME.SERVO_CFG_STEP_THR_US : Field := ⟨0x110, 0x0, 1, 7, 0, .seal, [1], none⟩
def F.TIME.SERVO_CFG_LOCK_NS : Field := ⟨0x110, 0x0, 1, 15, 8, .seal, [25], none⟩
def F.TIME.SERVO_CFG_SLEW : Field := ⟨0x110, 0x0, 1, 23, 16, .seal, [50], none⟩
def F.TIME.SERVO_CFG_SWITCH_MAX_US : Field := ⟨0x110, 0x0, 1, 31, 24, .seal, [100], none⟩
def F.TIME.HOLD_CFG_HOLDOVER_S : Field := ⟨0x114, 0x0, 1, 15, 0, .seal, [300], none⟩
def F.TIME.HOLD_CFG_REVERT_S : Field := ⟨0x114, 0x0, 1, 31, 16, .seal, [60], none⟩
def F.TIME.CAM_MSG_LOG_SYNC : Field := ⟨0x118, 0x0, 1, 3, 0, .seal, [13], none⟩
def F.TIME.CAM_MSG_LOG_ANNOUNCE : Field := ⟨0x118, 0x0, 1, 7, 4, .seal, [0], none⟩
def F.TIME.CAM_MSG_DREQ_LIMIT : Field := ⟨0x118, 0x0, 1, 31, 16, .seal, [256], none⟩
def F.TIME.RATE_ADJ : Field := ⟨0x11c, 0x0, 1, 31, 0, .rw, [0], none⟩
def F.TIME.STEP_SEC_LO_SEC : Field := ⟨0x120, 0x0, 1, 31, 0, .rw, [0], none⟩
def F.TIME.STEP_SEC_HI_SEC : Field := ⟨0x124, 0x0, 1, 15, 0, .rw, [0], none⟩
def F.TIME.STEP_NS_NS : Field := ⟨0x128, 0x0, 1, 29, 0, .rw, [0], none⟩
def F.TIME.STEP_NS_NEG : Field := ⟨0x128, 0x0, 1, 31, 31, .rw, [0], none⟩
def F.TIME.STEP_CTL_GO : Field := ⟨0x12c, 0x0, 1, 0, 0, .wo, [0], none⟩
def F.TIME.NOW_LT_LO_VALUE : Field := ⟨0x130, 0x0, 1, 31, 0, .ro, [0], none⟩
def F.TIME.NOW_LT_HI_VALUE : Field := ⟨0x134, 0x0, 1, 31, 0, .ro, [0], none⟩
def F.TIME.NOW_SEC_LO_VALUE : Field := ⟨0x138, 0x0, 1, 31, 0, .ro, [0], none⟩
def F.TIME.NOW_SEC_HI_VALUE : Field := ⟨0x13c, 0x0, 1, 15, 0, .ro, [0], none⟩
def F.TIME.NOW_NS_VALUE : Field := ⟨0x140, 0x0, 1, 29, 0, .ro, [0], none⟩
def F.TIME.OFFSET_LO_VALUE : Field := ⟨0x144, 0x0, 1, 31, 0, .ro, [0], none⟩
def F.TIME.OFFSET_HI_VALUE : Field := ⟨0x148, 0x0, 1, 31, 0, .ro, [0], none⟩
def F.TIME.PORTLAT_TX : Field := ⟨0x150, 0x4, 13, 15, 0, .seal, [0], none⟩
def F.TIME.PORTLAT_RX : Field := ⟨0x150, 0x4, 13, 31, 16, .seal, [0], none⟩
def F.TIME.DREQ_DROP_COUNT : Field := ⟨0x190, 0x4, 13, 31, 0, .ro, [0], none⟩
def F.TIME.TSQ_OVF_PORT : Field := ⟨0x1d0, 0x0, 1, 12, 0, .rw1c, [0], none⟩
def F.TIME.ANCHOR_SEQ : Field := ⟨0x1d4, 0x0, 1, 15, 0, .ro, [0], none⟩
def F.TIME.TRACK_OFS_NS : Field := ⟨0x1e0, 0x4, 2, 31, 0, .ro, [0], none⟩
def F.TIME.TRACK_RATE_ADJ : Field := ⟨0x1e8, 0x4, 2, 31, 0, .ro, [0], none⟩
def F.TIME.TSQ_W0_ID : Field := ⟨0x200, 0x10, 13, 7, 0, .ro, [0], none⟩
def F.TIME.TSQ_W0_MSG_TYPE : Field := ⟨0x200, 0x10, 13, 11, 8, .ro, [0], none⟩
def F.TIME.TSQ_W0_SEQ_ID : Field := ⟨0x200, 0x10, 13, 31, 16, .ro, [0], none⟩
def F.TIME.TSQ_W1_NS : Field := ⟨0x204, 0x10, 13, 29, 0, .ro, [0], none⟩
def F.TIME.TSQ_W2_SEC : Field := ⟨0x208, 0x10, 13, 31, 0, .ro, [0], none⟩
def F.TIME.TSQ_W3_SEC : Field := ⟨0x20c, 0x10, 13, 15, 0, .ro, [0], none⟩
def F.TIME.TSQ_W3_DOMAIN : Field := ⟨0x20c, 0x10, 13, 23, 16, .ro, [0], none⟩
def F.TIME.TSQ_W3_VALID : Field := ⟨0x20c, 0x10, 13, 31, 31, .ro, [0], none⟩

/-! ## LPORT (R230) -/

def F.LPORT.MAC_LO_OCTETS : Field := ⟨0x100, 0x0, 1, 31, 0, .seal, [0], none⟩
def F.LPORT.DST_MAC_LO_OCTETS : Field := ⟨0x114, 0x0, 1, 31, 0, .seal, [0], none⟩
def F.LPORT.MAC_HI_OCTETS : Field := ⟨0x104, 0x0, 1, 15, 0, .seal, [0], none⟩
def F.LPORT.DST_MAC_HI_OCTETS : Field := ⟨0x118, 0x0, 1, 15, 0, .seal, [0], none⟩
def F.LPORT.IPV4_ADDR : Field := ⟨0x108, 0x0, 1, 31, 0, .seal, [0], none⟩
def F.LPORT.DST_IPV4_ADDR : Field := ⟨0x11c, 0x0, 1, 31, 0, .seal, [0], none⟩
def F.LPORT.PTP_CFG_TRANSPORT : Field := ⟨0x10c, 0x0, 1, 0, 0, .seal, [1], none⟩
def F.LPORT.PTP_CFG_ASYM_NS : Field := ⟨0x10c, 0x0, 1, 31, 16, .seal, [0], none⟩
def F.LPORT.TX_CFG_VLAN_EN : Field := ⟨0x110, 0x0, 1, 0, 0, .seal, [0], none⟩
def F.LPORT.TX_CFG_PCP_A : Field := ⟨0x110, 0x0, 1, 3, 1, .seal, [6], none⟩
def F.LPORT.TX_CFG_VID : Field := ⟨0x110, 0x0, 1, 15, 4, .seal, [0], none⟩
def F.LPORT.DST_UDP_DST : Field := ⟨0x120, 0x0, 1, 15, 0, .seal, [50001], none⟩
def F.LPORT.DST_UDP_SRC : Field := ⟨0x120, 0x0, 1, 31, 16, .seal, [50001], none⟩
def F.LPORT.CNT_DROP_COUNT : Field := ⟨0x130, 0x0, 1, 31, 0, .ro, [0], none⟩

/-! ## SENSE (R249) -/

def F.SENSE.STAT_RUN : Field := ⟨0x100, 0x0, 1, 15, 0, .ro, [0], none⟩
def F.SENSE.STAT_SETTLING : Field := ⟨0x100, 0x0, 1, 31, 16, .ro, [0], none⟩
def F.SENSE.BANK_CTL_SEL : Field := ⟨0x104, 0x0, 1, 0, 0, .rw, [0], none⟩
def F.SENSE.BANK_STAT_ACT : Field := ⟨0x108, 0x0, 1, 0, 0, .ro, [0], none⟩
def F.SENSE.BANK_STAT_PENDING : Field := ⟨0x108, 0x0, 1, 1, 1, .ro, [0], none⟩
def F.SENSE.SS_GO_GO : Field := ⟨0x10c, 0x0, 1, 15, 0, .wo, [0], none⟩
def F.SENSE.CH_CFG_MODE : Field := ⟨0x200, 0x40, 16, 2, 0, .stage, [0], (some .page)⟩
def F.SENSE.CH_CFG_USER : Field := ⟨0x200, 0x40, 16, 3, 3, .stage, [0], (some .page)⟩
def F.SENSE.CH_CFG_COMPAT : Field := ⟨0x200, 0x40, 16, 4, 4, .stage, [0], (some .page)⟩
def F.SENSE.CH_CFG_SS_N : Field := ⟨0x200, 0x40, 16, 12, 5, .stage, [64], (some .page)⟩
def F.SENSE.CH_CFG_RECORD_DIV : Field := ⟨0x200, 0x40, 16, 31, 16, .stage, [0], (some .page)⟩
def F.SENSE.CH_VIRT_SRC_CTX : Field := ⟨0x204, 0x40, 16, 4, 0, .stage, [0], (some .page)⟩
def F.SENSE.CH_VIRT_SRC_STAT : Field := ⟨0x204, 0x40, 16, 7, 5, .stage, [0], (some .page)⟩
def F.SENSE.CH_VIRT_SKIP_FLAGGED : Field := ⟨0x204, 0x40, 16, 8, 8, .stage, [1], (some .page)⟩
def F.SENSE.CH_SHIFT_SHIFT1 : Field := ⟨0x208, 0x40, 16, 3, 0, .stage, [0], (some .page)⟩
def F.SENSE.CH_SHIFT_SHIFT_HB : Field := ⟨0x208, 0x40, 16, 7, 4, .stage, [0], (some .page)⟩
def F.SENSE.CH_SHIFT_SHIFT_FIN : Field := ⟨0x208, 0x40, 16, 11, 8, .stage, [0], (some .page)⟩
def F.SENSE.CH_LIM_HI_VALUE : Field := ⟨0x20c, 0x40, 16, 23, 0, .stage, [8388607], (some .page)⟩
def F.SENSE.CH_LIM_HI_EN : Field := ⟨0x20c, 0x40, 16, 24, 24, .stage, [0], (some .page)⟩
def F.SENSE.CH_LIM_LO_VALUE : Field := ⟨0x210, 0x40, 16, 23, 0, .stage, [8388608], (some .page)⟩
def F.SENSE.CH_LIM_LO_EN : Field := ⟨0x210, 0x40, 16, 24, 24, .stage, [0], (some .page)⟩
def F.SENSE.CH_CAL_OFS_OFS : Field := ⟨0x214, 0x40, 16, 23, 0, .rw, [0], none⟩
def F.SENSE.CH_CAL_GAIN_GAIN : Field := ⟨0x218, 0x40, 16, 15, 0, .rw, [32768], none⟩
def F.SENSE.CH_VALUE_Z : Field := ⟨0x21c, 0x40, 16, 23, 0, .ro, [0], none⟩
def F.SENSE.CH_VALUE_VALID : Field := ⟨0x21c, 0x40, 16, 24, 24, .ro, [0], none⟩
def F.SENSE.CH_VALUE_SETTLING : Field := ⟨0x21c, 0x40, 16, 25, 25, .ro, [0], none⟩
def F.SENSE.CH_FLAGS_MOD_OVLD : Field := ⟨0x220, 0x40, 16, 0, 0, .rw1c, [0], none⟩
def F.SENSE.CH_FLAGS_SAT1 : Field := ⟨0x220, 0x40, 16, 1, 1, .rw1c, [0], none⟩
def F.SENSE.CH_FLAGS_SAT_HB : Field := ⟨0x220, 0x40, 16, 2, 2, .rw1c, [0], none⟩
def F.SENSE.CH_FLAGS_SAT_FIN : Field := ⟨0x220, 0x40, 16, 3, 3, .rw1c, [0], none⟩
def F.SENSE.CH_FLAGS_SAT_CAL : Field := ⟨0x220, 0x40, 16, 4, 4, .rw1c, [0], none⟩
def F.SENSE.CH_FLAGS_HI : Field := ⟨0x220, 0x40, 16, 5, 5, .rw1c, [0], none⟩
def F.SENSE.CH_FLAGS_LO : Field := ⟨0x220, 0x40, 16, 6, 6, .rw1c, [0], none⟩
def F.SENSE.CH_FLAGS_STALE : Field := ⟨0x220, 0x40, 16, 7, 7, .rw1c, [0], none⟩
def F.SENSE.CH_FLAGS_SS_OVERRUN : Field := ⟨0x220, 0x40, 16, 8, 8, .rw1c, [0], none⟩
def F.SENSE.CH_FLAGS_SS_DONE : Field := ⟨0x220, 0x40, 16, 9, 9, .rw1c, [0], none⟩
def F.SENSE.CH_SSOVR_COUNT : Field := ⟨0x224, 0x40, 16, 15, 0, .ro, [0], none⟩
def F.SENSE.BANK0_COEF : Field := ⟨0x800, 0x4, 256, 17, 0, .rw, [0], none⟩
def F.SENSE.BANK1_COEF : Field := ⟨0xc00, 0x4, 256, 17, 0, .rw, [0], none⟩

/-! ## WEB (R271) -/

def F.WEB.CFG_SRC : Field := ⟨0x100, 0x0, 1, 2, 0, .stage, [0], (some .page)⟩
def F.WEB.OBS_CFG_BW_HZ : Field := ⟨0x104, 0x0, 1, 10, 0, .stage, [200], (some .page)⟩
def F.WEB.OBS_CFG_CREEP_UM_S : Field := ⟨0x104, 0x0, 1, 31, 16, .stage, [1000], (some .page)⟩
def F.WEB.LINE_PITCH_PM : Field := ⟨0x108, 0x0, 1, 31, 0, .stage, [21166667], (some .page)⟩
def F.WEB.TRIG_CFG_MIN_PERIOD_NS : Field := ⟨0x10c, 0x0, 1, 15, 0, .seal, [5000], none⟩
def F.WEB.PAGE_CFG_MODE : Field := ⟨0x110, 0x0, 1, 0, 0, .stage, [0], (some .page)⟩
def F.WEB.PAGE_CFG_SYNC_FILT : Field := ⟨0x110, 0x0, 1, 15, 8, .stage, [10], (some .page)⟩
def F.WEB.PAGE_OFFSET_UM : Field := ⟨0x114, 0x0, 1, 31, 0, .stage, [0], (some .page)⟩
def F.WEB.PAGE_MIN_LINES : Field := ⟨0x118, 0x0, 1, 23, 0, .stage, [1024], (some .page)⟩
def F.WEB.PAGE_MAX_LINES : Field := ⟨0x11c, 0x0, 1, 23, 0, .stage, [16777215], (some .page)⟩
def F.WEB.CTL_CLEAR_CNT : Field := ⟨0x120, 0x0, 1, 0, 0, .wo, [0], none⟩
def F.WEB.STATE_OBS : Field := ⟨0x130, 0x0, 1, 2, 0, .ro, [0], none⟩
def F.WEB.STATE_DIR : Field := ⟨0x130, 0x0, 1, 5, 4, .ro, [0], none⟩
def F.WEB.STATE_TRIG_OK : Field := ⟨0x130, 0x0, 1, 6, 6, .ro, [0], none⟩
def F.WEB.STATE_POS_SUSPECT : Field := ⟨0x130, 0x0, 1, 7, 7, .ro, [0], none⟩
def F.WEB.STATE_PEND : Field := ⟨0x130, 0x0, 1, 11, 8, .ro, [0], none⟩
def F.WEB.FLAGS_COAST : Field := ⟨0x134, 0x0, 1, 0, 0, .rw1c, [0], none⟩
def F.WEB.FLAGS_FAULT : Field := ⟨0x134, 0x0, 1, 1, 1, .rw1c, [0], none⟩
def F.WEB.FLAGS_OVERSPEED : Field := ⟨0x134, 0x0, 1, 2, 2, .rw1c, [0], none⟩
def F.WEB.FLAGS_SKIP : Field := ⟨0x134, 0x0, 1, 3, 3, .rw1c, [0], none⟩
def F.WEB.FLAGS_SYNC_SHORT : Field := ⟨0x134, 0x0, 1, 4, 4, .rw1c, [0], none⟩
def F.WEB.FLAGS_SYNC_MISSING : Field := ⟨0x134, 0x0, 1, 5, 5, .rw1c, [0], none⟩
def F.WEB.FLAGS_SYNC_OVF : Field := ⟨0x134, 0x0, 1, 6, 6, .rw1c, [0], none⟩
def F.WEB.FLAGS_QUAD_ERR : Field := ⟨0x134, 0x0, 1, 7, 7, .rw1c, [0], none⟩
def F.WEB.FLAGS_POS_SUSPECT : Field := ⟨0x134, 0x0, 1, 8, 8, .rw1c, [0], none⟩
def F.WEB.POS_LO_VALUE : Field := ⟨0x138, 0x0, 1, 31, 0, .ro, [0], none⟩
def F.WEB.POS_HI_VALUE : Field := ⟨0x13c, 0x0, 1, 31, 0, .ro, [0], none⟩
def F.WEB.HWM_LO_VALUE : Field := ⟨0x148, 0x0, 1, 31, 0, .ro, [0], none⟩
def F.WEB.HWM_HI_VALUE : Field := ⟨0x14c, 0x0, 1, 31, 0, .ro, [0], none⟩
def F.WEB.SPEED_UM_S : Field := ⟨0x140, 0x0, 1, 31, 0, .ro, [0], none⟩
def F.WEB.ACCEL_MM_S2 : Field := ⟨0x144, 0x0, 1, 31, 0, .ro, [0], none⟩
def F.WEB.LINE_LO_VALUE : Field := ⟨0x150, 0x0, 1, 31, 0, .ro, [0], none⟩
def F.WEB.LINE_HI_VALUE : Field := ⟨0x154, 0x0, 1, 15, 0, .ro, [0], none⟩
def F.WEB.PAGE_VALUE : Field := ⟨0x158, 0x0, 1, 31, 0, .ro, [0], none⟩
def F.WEB.PAGE_LINE_VALUE : Field := ⟨0x15c, 0x0, 1, 23, 0, .ro, [0], none⟩
def F.WEB.CNT_SKIP_COUNT : Field := ⟨0x160, 0x0, 1, 31, 0, .ro, [0], none⟩
def F.WEB.CNT_SYNC_IGN_COUNT : Field := ⟨0x164, 0x0, 1, 31, 0, .ro, [0], none⟩
def F.WEB.CNT_OVERSPEED_COUNT : Field := ⟨0x168, 0x0, 1, 31, 0, .ro, [0], none⟩
def F.WEB.ENC_CFG_INVERT : Field := ⟨0x200, 0x40, 2, 0, 0, .seal, [0], none⟩
def F.WEB.ENC_CFG_AMP_LO : Field := ⟨0x200, 0x40, 2, 15, 8, .seal, [16], none⟩
def F.WEB.ENC_CFG_AMP_HI : Field := ⟨0x200, 0x40, 2, 23, 16, .seal, [144], none⟩
def F.WEB.ENC_PITCH_PM : Field := ⟨0x204, 0x40, 2, 31, 0, .seal, [100000000], none⟩
def F.WEB.ENC_CAL0_SIN_OFS : Field := ⟨0x208, 0x40, 2, 15, 0, .rw, [0], none⟩
def F.WEB.ENC_CAL0_COS_OFS : Field := ⟨0x208, 0x40, 2, 31, 16, .rw, [0], none⟩
def F.WEB.ENC_CAL1_COS_GAIN : Field := ⟨0x20c, 0x40, 2, 15, 0, .rw, [32768], none⟩
def F.WEB.ENC_CAL1_PHASE : Field := ⟨0x20c, 0x40, 2, 31, 16, .rw, [0], none⟩
def F.WEB.ENC_STAT_AMP : Field := ⟨0x210, 0x40, 2, 7, 0, .ro, [0], none⟩
def F.WEB.ENC_STAT_LOS : Field := ⟨0x210, 0x40, 2, 8, 8, .ro, [0], none⟩
def F.WEB.ENC_STAT_FAULT : Field := ⟨0x210, 0x40, 2, 9, 9, .ro, [0], none⟩
def F.WEB.ENC_STAT_Z_COUNT : Field := ⟨0x210, 0x40, 2, 31, 16, .ro, [0], none⟩
def F.WEB.ENC_SPEED_UM_S : Field := ⟨0x214, 0x40, 2, 31, 0, .ro, [0], none⟩
def F.WEB.ENC_ZPOS_LO_VALUE : Field := ⟨0x218, 0x40, 2, 31, 0, .ro, [0], none⟩
def F.WEB.ENC_ZPOS_HI_VALUE : Field := ⟨0x21c, 0x40, 2, 31, 0, .ro, [0], none⟩
def F.WEB.ENC_QERR_COUNT : Field := ⟨0x220, 0x40, 2, 31, 0, .ro, [0], none⟩

/-! ## STRIP (R298) -/

def F.STRIP.STAT_ACTIVE : Field := ⟨0x100, 0x0, 1, 3, 0, .ro, [0], none⟩
def F.STRIP.STAT_QUEUED : Field := ⟨0x100, 0x0, 1, 7, 4, .ro, [0], none⟩
def F.STRIP.LOAD_LOAD : Field := ⟨0x104, 0x0, 1, 9, 0, .ro, [0], none⟩
def F.STRIP.LOAD_PEAK : Field := ⟨0x104, 0x0, 1, 25, 16, .ro, [0], none⟩
def F.STRIP.WAIT_MAX_NS : Field := ⟨0x108, 0x0, 1, 15, 0, .ro, [0], none⟩
def F.STRIP.CTL_CLEAR_PEAK : Field := ⟨0x10c, 0x0, 1, 0, 0, .wo, [0], none⟩

/-! ## CTX (R299) -/

def F.CTX.SRC_EN : Field := ⟨0x100, 0x0, 1, 0, 0, .stage, [0], (some .page)⟩
def F.CTX.SRC_CAMP : Field := ⟨0x100, 0x0, 1, 4, 1, .stage, [0], (some .page)⟩
def F.CTX.SRC_HALO_L : Field := ⟨0x100, 0x0, 1, 13, 8, .stage, [0], (some .page)⟩
def F.CTX.SRC_HALO_R : Field := ⟨0x100, 0x0, 1, 21, 16, .stage, [0], (some .page)⟩
def F.CTX.SPAN_COL_FIRST : Field := ⟨0x104, 0x0, 1, 14, 0, .stage, [0], (some .page)⟩
def F.CTX.SPAN_COL_COUNT : Field := ⟨0x104, 0x0, 1, 30, 16, .stage, [16384], (some .page)⟩
def F.CTX.FMT_PIXFMT : Field := ⟨0x108, 0x0, 1, 2, 0, .stage, [0], (some .page)⟩
def F.CTX.FMT_WIDTH : Field := ⟨0x108, 0x0, 1, 18, 4, .stage, [16384], (some .page)⟩
def F.CTX.FILL_VALUE : Field := ⟨0x10c, 0x0, 1, 15, 0, .stage, [0], (some .page)⟩
def F.CTX.NR_CFG_SP_EN : Field := ⟨0x110, 0x0, 1, 0, 0, .stage, [1], (some .block)⟩
def F.CTX.NR_CFG_TP_EN : Field := ⟨0x110, 0x0, 1, 1, 1, .stage, [1], (some .block)⟩
def F.CTX.NR_CFG_DEF_EXCL : Field := ⟨0x110, 0x0, 1, 2, 2, .stage, [1], (some .block)⟩
def F.CTX.NR_CFG_TW0 : Field := ⟨0x110, 0x0, 1, 7, 4, .stage, [8], (some .block)⟩
def F.CTX.NR_CFG_TW1 : Field := ⟨0x110, 0x0, 1, 11, 8, .stage, [4], (some .block)⟩
def F.CTX.NR_CFG_TW2 : Field := ⟨0x110, 0x0, 1, 15, 12, .stage, [2], (some .block)⟩
def F.CTX.NR_CFG_TW3 : Field := ⟨0x110, 0x0, 1, 19, 16, .stage, [1], (some .block)⟩
def F.CTX.NR_CFG_TW4 : Field := ⟨0x110, 0x0, 1, 23, 20, .stage, [1], (some .block)⟩
def F.CTX.NR_THR_THR_LO : Field := ⟨0x120, 0x4, 32, 15, 0, .stage, [256], (some .block)⟩
def F.CTX.NR_THR_THR_HI : Field := ⟨0x120, 0x4, 32, 31, 16, .stage, [256], (some .block)⟩
def F.CTX.BLACK_OFS : Field := ⟨0x1a0, 0x0, 1, 15, 0, .stage, [0], (some .page)⟩
def F.CTX.FF_GAIN_01_G0 : Field := ⟨0x1a4, 0x0, 1, 15, 0, .stage, [16384], (some .page)⟩
def F.CTX.FF_GAIN_01_G1 : Field := ⟨0x1a4, 0x0, 1, 31, 16, .stage, [16384], (some .page)⟩
def F.CTX.FF_GAIN_2_G2 : Field := ⟨0x1a8, 0x0, 1, 15, 0, .stage, [16384], (some .page)⟩
def F.CTX.TABLE_BANK : Field := ⟨0x1ac, 0x0, 1, 0, 0, .stage, [0], (some .page)⟩
def F.CTX.TABLE_USE : Field := ⟨0x1ac, 0x0, 1, 1, 1, .stage, [0], (some .page)⟩
def F.CTX.TBL_ADDR_WORD : Field := ⟨0x1b0, 0x0, 1, 15, 0, .rw, [0], none⟩
def F.CTX.TBL_ADDR_BANK : Field := ⟨0x1b0, 0x0, 1, 16, 16, .rw, [0], none⟩
def F.CTX.TBL_ADDR_AUTO_INC : Field := ⟨0x1b0, 0x0, 1, 31, 31, .rw, [1], none⟩
def F.CTX.TBL_DATA_WORD : Field := ⟨0x1b4, 0x0, 1, 31, 0, .rw, [0], none⟩
def F.CTX.STAT_WIN_FIRST : Field := ⟨0x1c0, 0x0, 1, 14, 0, .stage, [0], (some .page)⟩
def F.CTX.STAT_WIN_COUNT : Field := ⟨0x1c0, 0x0, 1, 30, 16, .stage, [0], (some .page)⟩
def F.CTX.STAT_CFG_SKIP_CUT : Field := ⟨0x1c4, 0x0, 1, 0, 0, .stage, [1], (some .page)⟩
def F.CTX.STAT_CFG_REC_EN : Field := ⟨0x1c4, 0x0, 1, 1, 1, .stage, [1], (some .page)⟩
def F.CTX.STAT_CFG_F0_EN : Field := ⟨0x1c4, 0x0, 1, 2, 2, .stage, [0], (some .page)⟩
def F.CTX.STAT_CFG_F1_EN : Field := ⟨0x1c4, 0x0, 1, 3, 3, .stage, [0], (some .page)⟩
def F.CTX.FLK_F0_CHZ : Field := ⟨0x1c8, 0x0, 1, 23, 0, .stage, [10000], (some .page)⟩
def F.CTX.FLK_F1_CHZ : Field := ⟨0x1cc, 0x0, 1, 23, 0, .stage, [12000], (some .page)⟩
def F.CTX.STAT_ACTIVE : Field := ⟨0x1e0, 0x0, 1, 0, 0, .ro, [0], none⟩
def F.CTX.STAT_BANK_ACT : Field := ⟨0x1e0, 0x0, 1, 1, 1, .ro, [0], none⟩
def F.CTX.STAT_BANK_PEND : Field := ⟨0x1e0, 0x0, 1, 2, 2, .ro, [0], none⟩
def F.CTX.FLAGS_SAT : Field := ⟨0x1e4, 0x0, 1, 0, 0, .rw1c, [0], none⟩
def F.CTX.FLAGS_DEF_NOSRC : Field := ⟨0x1e4, 0x0, 1, 1, 1, .rw1c, [0], none⟩
def F.CTX.FLAGS_NONADJ : Field := ⟨0x1e4, 0x0, 1, 2, 2, .rw1c, [0], none⟩
def F.CTX.FLAGS_TBL_REFUSED : Field := ⟨0x1e4, 0x0, 1, 3, 3, .rw1c, [0], none⟩
def F.CTX.FLAGS_EPOCH_SPLIT : Field := ⟨0x1e4, 0x0, 1, 4, 4, .rw1c, [0], none⟩
def F.CTX.LSTAT_01_EVEN : Field := ⟨0x1f0, 0x0, 1, 15, 0, .ro, [0], none⟩
def F.CTX.LSTAT_23_EVEN : Field := ⟨0x1f4, 0x0, 1, 15, 0, .ro, [0], none⟩
def F.CTX.LSTAT_45_EVEN : Field := ⟨0x1f8, 0x0, 1, 15, 0, .ro, [0], none⟩
def F.CTX.LSTAT_67_EVEN : Field := ⟨0x1fc, 0x0, 1, 15, 0, .ro, [0], none⟩
def F.CTX.LSTAT_01_ODD : Field := ⟨0x1f0, 0x0, 1, 31, 16, .ro, [0], none⟩
def F.CTX.LSTAT_23_ODD : Field := ⟨0x1f4, 0x0, 1, 31, 16, .ro, [0], none⟩
def F.CTX.LSTAT_45_ODD : Field := ⟨0x1f8, 0x0, 1, 31, 16, .ro, [0], none⟩
def F.CTX.LSTAT_67_ODD : Field := ⟨0x1fc, 0x0, 1, 31, 16, .ro, [0], none⟩
def F.CTX.CNT_LINES_COUNT : Field := ⟨0x200, 0x0, 1, 31, 0, .ro, [0], none⟩
def F.CTX.CNT_SAT_PIX_COUNT : Field := ⟨0x204, 0x0, 1, 31, 0, .ro, [0], none⟩
def F.CTX.CNT_NOSRC_COUNT : Field := ⟨0x208, 0x0, 1, 31, 0, .ro, [0], none⟩
def F.CTX.CNT_NONADJ_COUNT : Field := ⟨0x20c, 0x0, 1, 31, 0, .ro, [0], none⟩
def F.CTX.CNT_REC_COUNT : Field := ⟨0x210, 0x0, 1, 31, 0, .ro, [0], none⟩
def F.CTX.CTL_CLEAR_CNT : Field := ⟨0x214, 0x0, 1, 0, 0, .wo, [0], none⟩

/-! ## CTX (R325) -/

def F.CTX.GEO_CFG_KERNEL : Field := ⟨0x800, 0x0, 1, 1, 0, .stage, [0], (some .page)⟩
def F.CTX.GEO_CFG_VINT : Field := ⟨0x800, 0x0, 1, 2, 2, .stage, [0], (some .page)⟩
def F.CTX.GEO_CFG_GEO_BANK : Field := ⟨0x800, 0x0, 1, 3, 3, .stage, [0], (some .page)⟩
def F.CTX.GEO_CFG_GEO_IDENT : Field := ⟨0x800, 0x0, 1, 4, 4, .stage, [1], (some .page)⟩
def F.CTX.GEO_CFG_LIN_BANK : Field := ⟨0x800, 0x0, 1, 5, 5, .stage, [0], (some .page)⟩
def F.CTX.GEO_CFG_LIN_USE : Field := ⟨0x800, 0x0, 1, 6, 6, .stage, [0], (some .page)⟩
def F.CTX.GEO_PROD_COUNT : Field := ⟨0x804, 0x0, 1, 14, 0, .stage, [16384], (some .page)⟩
def F.CTX.GEO_KEEP_FIRST : Field := ⟨0x808, 0x0, 1, 14, 0, .stage, [0], (some .page)⟩
def F.CTX.GEO_KEEP_COUNT : Field := ⟨0x808, 0x0, 1, 30, 16, .stage, [16384], (some .page)⟩
def F.CTX.GEO_OUT_FIRST : Field := ⟨0x80c, 0x0, 1, 17, 0, .stage, [0], (some .page)⟩
def F.CTX.GEO_ADDR_WORD : Field := ⟨0x810, 0x0, 1, 14, 0, .rw, [0], none⟩
def F.CTX.GEO_ADDR_TABLE : Field := ⟨0x810, 0x0, 1, 16, 16, .rw, [0], none⟩
def F.CTX.GEO_ADDR_BANK : Field := ⟨0x810, 0x0, 1, 17, 17, .rw, [0], none⟩
def F.CTX.GEO_ADDR_AUTO_INC : Field := ⟨0x810, 0x0, 1, 31, 31, .rw, [1], none⟩
def F.CTX.GEO_DATA_WORD : Field := ⟨0x814, 0x0, 1, 31, 0, .rw, [0], none⟩
def F.CTX.COL_M0_M00 : Field := ⟨0x820, 0x0, 1, 15, 0, .stage, [8192], (some .page)⟩
def F.CTX.COL_M0_M01 : Field := ⟨0x820, 0x0, 1, 31, 16, .stage, [0], (some .page)⟩
def F.CTX.COL_M1_M02 : Field := ⟨0x824, 0x0, 1, 15, 0, .stage, [0], (some .page)⟩
def F.CTX.COL_M1_M10 : Field := ⟨0x824, 0x0, 1, 31, 16, .stage, [0], (some .page)⟩
def F.CTX.COL_M2_M11 : Field := ⟨0x828, 0x0, 1, 15, 0, .stage, [8192], (some .page)⟩
def F.CTX.COL_M2_M12 : Field := ⟨0x828, 0x0, 1, 31, 16, .stage, [0], (some .page)⟩
def F.CTX.COL_M3_M20 : Field := ⟨0x82c, 0x0, 1, 15, 0, .stage, [0], (some .page)⟩
def F.CTX.COL_M3_M21 : Field := ⟨0x82c, 0x0, 1, 31, 16, .stage, [0], (some .page)⟩
def F.CTX.COL_M4_M22 : Field := ⟨0x830, 0x0, 1, 15, 0, .stage, [8192], (some .page)⟩
def F.CTX.GC_STAT_GEO_BANK_ACT : Field := ⟨0x840, 0x0, 1, 0, 0, .ro, [0], none⟩
def F.CTX.GC_STAT_LIN_BANK_ACT : Field := ⟨0x840, 0x0, 1, 1, 1, .ro, [0], none⟩
def F.CTX.GC_STAT_BANK_PEND : Field := ⟨0x840, 0x0, 1, 2, 2, .ro, [0], none⟩
def F.CTX.GC_FLAGS_LAB_SAT : Field := ⟨0x844, 0x0, 1, 0, 0, .rw1c, [0], none⟩
def F.CTX.GC_FLAGS_REFUSED : Field := ⟨0x844, 0x0, 1, 1, 1, .rw1c, [0], none⟩
def F.CTX.CNT_LAB_SAT_COUNT : Field := ⟨0x848, 0x0, 1, 31, 0, .ro, [0], none⟩

/-! ## STITCH (R326) -/

def F.STITCH.CFG_WIDTH : Field := ⟨0x100, 0x0, 1, 17, 0, .stage, [196608], (some .page)⟩
def F.STITCH.CFG_MODE : Field := ⟨0x100, 0x0, 1, 19, 18, .stage, [0], (some .page)⟩
def F.STITCH.RING_CFG_LEFT_PORT : Field := ⟨0x104, 0x0, 1, 1, 0, .stage, [0], (some .page)⟩
def F.STITCH.RING_CFG_RIGHT_PORT : Field := ⟨0x104, 0x0, 1, 3, 2, .stage, [0], (some .page)⟩
def F.STITCH.RING_CFG_MODE_L : Field := ⟨0x104, 0x0, 1, 5, 4, .stage, [0], (some .page)⟩
def F.STITCH.RING_CFG_OVL_L : Field := ⟨0x104, 0x0, 1, 15, 6, .stage, [0], (some .page)⟩
def F.STITCH.RING_CFG_OVL_R : Field := ⟨0x104, 0x0, 1, 25, 16, .stage, [0], (some .page)⟩
def F.STITCH.COL_BASE_BASE : Field := ⟨0x108, 0x0, 1, 31, 0, .stage, [0], (some .page)⟩
def F.STITCH.RING_WAIT_WAIT_US : Field := ⟨0x10c, 0x0, 1, 7, 0, .seal, [8], none⟩
def F.STITCH.STAT_OPEN : Field := ⟨0x110, 0x0, 1, 3, 0, .ro, [0], none⟩
def F.STITCH.STAT_OVL_WAIT : Field := ⟨0x110, 0x0, 1, 4, 4, .ro, [0], none⟩
def F.STITCH.FLAGS_SEAM_MISS : Field := ⟨0x114, 0x0, 1, 0, 0, .rw1c, [0], none⟩
def F.STITCH.FLAGS_GAP : Field := ⟨0x114, 0x0, 1, 1, 1, .rw1c, [0], none⟩
def F.STITCH.FLAGS_LATE_OVL : Field := ⟨0x114, 0x0, 1, 2, 2, .rw1c, [0], none⟩
def F.STITCH.FLAGS_STRAY : Field := ⟨0x114, 0x0, 1, 3, 3, .rw1c, [0], none⟩
def F.STITCH.CTL_CLEAR_CNT : Field := ⟨0x118, 0x0, 1, 0, 0, .wo, [0], none⟩
def F.STITCH.CNT_LINES_COUNT : Field := ⟨0x120, 0x0, 1, 31, 0, .ro, [0], none⟩
def F.STITCH.CNT_SEAM_MISS_COUNT : Field := ⟨0x124, 0x0, 1, 31, 0, .ro, [0], none⟩
def F.STITCH.CNT_GAP_COUNT : Field := ⟨0x128, 0x0, 1, 31, 0, .ro, [0], none⟩
def F.STITCH.CNT_LATE_OVL_COUNT : Field := ⟨0x12c, 0x0, 1, 31, 0, .ro, [0], none⟩
def F.STITCH.CNT_STRAY_COUNT : Field := ⟨0x130, 0x0, 1, 31, 0, .ro, [0], none⟩
def F.STITCH.SEAM_MEAN_DL : Field := ⟨0x180, 0x4, 32, 15, 0, .ro, [0], none⟩
def F.STITCH.SEAM_RING_MEAN_DL : Field := ⟨0x200, 0x0, 1, 15, 0, .ro, [0], none⟩
def F.STITCH.SEAM_MEAN_ABS : Field := ⟨0x180, 0x4, 32, 31, 16, .ro, [0], none⟩
def F.STITCH.SEAM_RING_MEAN_ABS : Field := ⟨0x200, 0x0, 1, 31, 16, .ro, [0], none⟩

/-! ## REFS (R355) -/

def F.REFS.REGION_BASE_CHUNK : Field := ⟨0x100, 0x0, 1, 12, 0, .seal, [0], none⟩
def F.REFS.REGION_SIZE_CHUNKS : Field := ⟨0x104, 0x0, 1, 13, 0, .seal, [0], none⟩
def F.REFS.CFG_EN : Field := ⟨0x108, 0x0, 1, 0, 0, .stage, [1], (some .page)⟩
def F.REFS.STAT_ENTRIES : Field := ⟨0x110, 0x0, 1, 12, 0, .ro, [0], none⟩
def F.REFS.STAT_FREE_CHUNKS : Field := ⟨0x110, 0x0, 1, 27, 14, .ro, [0], none⟩
def F.REFS.FLAGS_NO_JOB : Field := ⟨0x114, 0x0, 1, 0, 0, .rw1c, [0], none⟩
def F.REFS.FLAGS_UNKNOWN : Field := ⟨0x114, 0x0, 1, 1, 1, .rw1c, [0], none⟩
def F.REFS.FLAGS_NOT_READY : Field := ⟨0x114, 0x0, 1, 2, 2, .rw1c, [0], none⟩
def F.REFS.FLAGS_LATE : Field := ⟨0x114, 0x0, 1, 3, 3, .rw1c, [0], none⟩
def F.REFS.FLAGS_EVICT : Field := ⟨0x114, 0x0, 1, 4, 4, .rw1c, [0], none⟩
def F.REFS.FLAGS_OVERRUN : Field := ⟨0x114, 0x0, 1, 5, 5, .rw1c, [0], none⟩
def F.REFS.CUR_PAGE_VALUE : Field := ⟨0x118, 0x0, 1, 31, 0, .ro, [0], none⟩
def F.REFS.CUR_JOB_VALUE : Field := ⟨0x11c, 0x0, 1, 31, 0, .ro, [0], none⟩
def F.REFS.CUR_HANDLE_VALUE : Field := ⟨0x120, 0x0, 1, 31, 0, .ro, [0], none⟩
def F.REFS.CTL_CLEAR_CNT : Field := ⟨0x124, 0x0, 1, 0, 0, .wo, [0], none⟩
def F.REFS.CNT_BOUND_COUNT : Field := ⟨0x130, 0x0, 1, 31, 0, .ro, [0], none⟩
def F.REFS.CNT_NO_JOB_COUNT : Field := ⟨0x134, 0x0, 1, 31, 0, .ro, [0], none⟩
def F.REFS.CNT_UNKNOWN_COUNT : Field := ⟨0x138, 0x0, 1, 31, 0, .ro, [0], none⟩
def F.REFS.CNT_NOT_READY_COUNT : Field := ⟨0x13c, 0x0, 1, 31, 0, .ro, [0], none⟩
def F.REFS.CNT_LATE_COUNT : Field := ⟨0x140, 0x0, 1, 31, 0, .ro, [0], none⟩
def F.REFS.CNT_EVICT_COUNT : Field := ⟨0x144, 0x0, 1, 31, 0, .ro, [0], none⟩
def F.REFS.CNT_OVERRUN_COUNT : Field := ⟨0x148, 0x0, 1, 31, 0, .ro, [0], none⟩
def F.REFS.LOAD_STAT_OPEN : Field := ⟨0x180, 0x8, 4, 0, 0, .ro, [0], none⟩
def F.REFS.LOAD_STAT_ENC : Field := ⟨0x180, 0x8, 4, 1, 1, .ro, [0], none⟩
def F.REFS.LOAD_BYTES_COUNT : Field := ⟨0x184, 0x8, 4, 31, 0, .ro, [0], none⟩

/-! ## CODEC (R356) -/

def F.CODEC.CFG_Q_MAX : Field := ⟨0x100, 0x0, 1, 2, 0, .seal, [7], none⟩
def F.CODEC.STAT_ENC_SLOT : Field := ⟨0x104, 0x0, 1, 1, 0, .ro, [0], none⟩
def F.CODEC.STAT_ENC_BUSY : Field := ⟨0x104, 0x0, 1, 2, 2, .ro, [0], none⟩
def F.CODEC.STAT_BANDS : Field := ⟨0x104, 0x0, 1, 5, 3, .ro, [0], none⟩
def F.CODEC.FLAGS_FLAT : Field := ⟨0x108, 0x0, 1, 0, 0, .rw1c, [0], none⟩
def F.CODEC.FLAGS_DEGRADED : Field := ⟨0x108, 0x0, 1, 1, 1, .rw1c, [0], none⟩
def F.CODEC.FLAGS_MALFORMED : Field := ⟨0x108, 0x0, 1, 2, 2, .rw1c, [0], none⟩
def F.CODEC.CTL_CLEAR_CNT : Field := ⟨0x10c, 0x0, 1, 0, 0, .wo, [0], none⟩
def F.CODEC.CNT_ENC_COUNT : Field := ⟨0x110, 0x0, 1, 31, 0, .ro, [0], none⟩
def F.CODEC.CNT_DEC_COUNT : Field := ⟨0x114, 0x0, 1, 31, 0, .ro, [0], none⟩
def F.CODEC.CNT_FLAT_COUNT : Field := ⟨0x118, 0x0, 1, 31, 0, .ro, [0], none⟩
def F.CODEC.CNT_DEGRADED_COUNT : Field := ⟨0x11c, 0x0, 1, 31, 0, .ro, [0], none⟩
def F.CODEC.CNT_MALFORMED_COUNT : Field := ⟨0x120, 0x0, 1, 31, 0, .ro, [0], none⟩
def F.CODEC.SWITCH_COUNT : Field := ⟨0x124, 0x0, 1, 31, 0, .ro, [0], none⟩
def F.CODEC.QHIST_COUNT : Field := ⟨0x140, 0x4, 8, 31, 0, .ro, [0], none⟩

/-! ## TANGO (R379) -/

def F.TANGO.CFG_EN : Field := ⟨0x100, 0x0, 1, 0, 0, .stage, [1], (some .page)⟩
def F.TANGO.CFG_SX : Field := ⟨0x100, 0x0, 1, 5, 1, .stage, [8], (some .block)⟩
def F.TANGO.CFG_SY : Field := ⟨0x100, 0x0, 1, 7, 6, .stage, [2], (some .block)⟩
def F.TANGO.CFG_SX_ACQ : Field := ⟨0x100, 0x0, 1, 12, 8, .stage, [16], (some .block)⟩
def F.TANGO.CONF_CONF_MIN : Field := ⟨0x104, 0x0, 1, 7, 0, .stage, [64], (some .block)⟩
def F.TANGO.CONF_CONF_ACQ : Field := ⟨0x104, 0x0, 1, 15, 8, .stage, [96], (some .block)⟩
def F.TANGO.CONF_ACQ_N : Field := ⟨0x104, 0x0, 1, 19, 16, .stage, [2], (some .block)⟩
def F.TANGO.CONF_LOSS_N : Field := ⟨0x104, 0x0, 1, 23, 20, .stage, [3], (some .block)⟩
def F.TANGO.CONF_KAPPA_MIN : Field := ⟨0x104, 0x0, 1, 31, 24, .stage, [8], (some .block)⟩
def F.TANGO.FLAT_FLAT_L : Field := ⟨0x108, 0x0, 1, 11, 0, .stage, [80], (some .block)⟩
def F.TANGO.FLAT_FLAT_AB : Field := ⟨0x108, 0x0, 1, 25, 16, .stage, [8], (some .block)⟩
def F.TANGO.ROW_CFG_S0 : Field := ⟨0x10c, 0x0, 1, 15, 0, .stage, [0], (some .page)⟩
def F.TANGO.ROW_CFG_MED_MIN : Field := ⟨0x10c, 0x0, 1, 27, 16, .stage, [8], (some .page)⟩
def F.TANGO.PAGE_CFG_LEN_TOL : Field := ⟨0x110, 0x0, 1, 11, 0, .stage, [8], (some .page)⟩
def F.TANGO.PAGE_CFG_PAGE_REC : Field := ⟨0x110, 0x0, 1, 12, 12, .stage, [1], (some .page)⟩
def F.TANGO.PAGE_CFG_ROW_DIV : Field := ⟨0x110, 0x0, 1, 31, 16, .stage, [0], (some .page)⟩
def F.TANGO.TIMING_FLUSH_US : Field := ⟨0x114, 0x0, 1, 15, 0, .seal, [200], none⟩
def F.TANGO.STAT_LOCKED : Field := ⟨0x120, 0x0, 1, 11, 0, .ro, [0], none⟩
def F.TANGO.STAT_HELD : Field := ⟨0x120, 0x0, 1, 17, 12, .ro, [0], none⟩
def F.TANGO.FLAGS_SHORT_PAGE : Field := ⟨0x124, 0x0, 1, 0, 0, .rw1c, [0], none⟩
def F.TANGO.FLAGS_LONG_PAGE : Field := ⟨0x124, 0x0, 1, 1, 1, .rw1c, [0], none⟩
def F.TANGO.FLAGS_LOCK_LOSS : Field := ⟨0x124, 0x0, 1, 2, 2, .rw1c, [0], none⟩
def F.TANGO.FLAGS_FLUSH : Field := ⟨0x124, 0x0, 1, 3, 3, .rw1c, [0], none⟩
def F.TANGO.FLAGS_LATE_LINE : Field := ⟨0x124, 0x0, 1, 4, 4, .rw1c, [0], none⟩
def F.TANGO.FLAGS_STORE_FULL : Field := ⟨0x124, 0x0, 1, 5, 5, .rw1c, [0], none⟩
def F.TANGO.ROW_S : Field := ⟨0x128, 0x0, 1, 15, 0, .ro, [0], none⟩
def F.TANGO.LAST_TAIL_TAIL : Field := ⟨0x12c, 0x0, 1, 31, 0, .ro, [0], none⟩
def F.TANGO.CTL_CLEAR_CNT : Field := ⟨0x130, 0x0, 1, 0, 0, .wo, [0], none⟩
def F.TANGO.CNT_BLOCKS_COUNT : Field := ⟨0x140, 0x0, 1, 31, 0, .ro, [0], none⟩
def F.TANGO.CNT_MEASURED_COUNT : Field := ⟨0x144, 0x0, 1, 31, 0, .ro, [0], none⟩
def F.TANGO.CNT_FLAT_COUNT : Field := ⟨0x148, 0x0, 1, 31, 0, .ro, [0], none⟩
def F.TANGO.CNT_UNREF_COUNT : Field := ⟨0x14c, 0x0, 1, 31, 0, .ro, [0], none⟩
def F.TANGO.CNT_LOCK_LOSS_COUNT : Field := ⟨0x150, 0x0, 1, 31, 0, .ro, [0], none⟩
def F.TANGO.CNT_FLUSH_COUNT : Field := ⟨0x154, 0x0, 1, 31, 0, .ro, [0], none⟩
def F.TANGO.CNT_LATE_LINE_COUNT : Field := ⟨0x158, 0x0, 1, 31, 0, .ro, [0], none⟩
def F.TANGO.CNT_MISMATCH_COUNT : Field := ⟨0x15c, 0x0, 1, 31, 0, .ro, [0], none⟩

/-! ## SEG (R409) -/

def F.SEG.CFG_EN : Field := ⟨0x100, 0x0, 1, 0, 0, .stage, [1], (some .line)⟩
def F.SEG.CFG_DEF_PROFILE : Field := ⟨0x100, 0x0, 1, 3, 1, .stage, [0], (some .page)⟩
def F.SEG.SNIP_CFG_W64 : Field := ⟨0x104, 0x0, 1, 3, 0, .stage, [2], (some .page)⟩
def F.SEG.SNIP_CFG_H : Field := ⟨0x104, 0x0, 1, 12, 4, .stage, [32], (some .page)⟩
def F.SEG.SNIP_CFG_PRE : Field := ⟨0x104, 0x0, 1, 17, 16, .stage, [2], (some .page)⟩
def F.SEG.SNIP_CFG_MAX_OPEN : Field := ⟨0x104, 0x0, 1, 30, 24, .stage, [16], (some .page)⟩
def F.SEG.MAP_BASE_CHUNK : Field := ⟨0x108, 0x0, 1, 12, 0, .seal, [0], none⟩
def F.SEG.MAP_SIZE_CHUNKS : Field := ⟨0x10c, 0x0, 1, 7, 0, .seal, [0], none⟩
def F.SEG.SUB_MEAS_LAB : Field := ⟨0x110, 0x0, 1, 31, 0, .ro, [0], none⟩
def F.SEG.SUB_USED_LAB : Field := ⟨0x114, 0x0, 1, 31, 0, .ro, [0], none⟩
def F.SEG.STAT_OPEN : Field := ⟨0x118, 0x0, 1, 12, 0, .ro, [0], none⟩
def F.SEG.STAT_WINDOWS : Field := ⟨0x118, 0x0, 1, 19, 13, .ro, [0], none⟩
def F.SEG.STAT_MAPS : Field := ⟨0x118, 0x0, 1, 28, 20, .ro, [0], none⟩
def F.SEG.FLAGS_FORCED : Field := ⟨0x11c, 0x0, 1, 0, 0, .rw1c, [0], none⟩
def F.SEG.FLAGS_MAP_MISSING : Field := ⟨0x11c, 0x0, 1, 1, 1, .rw1c, [0], none⟩
def F.SEG.FLAGS_NOSNIP : Field := ⟨0x11c, 0x0, 1, 2, 2, .rw1c, [0], none⟩
def F.SEG.CUR_MAP_MAP_ID : Field := ⟨0x120, 0x0, 1, 15, 0, .ro, [0], none⟩
def F.SEG.CTL_CLEAR_CNT : Field := ⟨0x124, 0x0, 1, 0, 0, .wo, [0], none⟩
def F.SEG.CNT_COMP_COUNT : Field := ⟨0x130, 0x0, 1, 31, 0, .ro, [0], none⟩
def F.SEG.CNT_DISCARD_COUNT : Field := ⟨0x134, 0x0, 1, 31, 0, .ro, [0], none⟩
def F.SEG.CNT_FORCED_COUNT : Field := ⟨0x138, 0x0, 1, 31, 0, .ro, [0], none⟩
def F.SEG.CNT_SPLIT_COUNT : Field := ⟨0x13c, 0x0, 1, 31, 0, .ro, [0], none⟩
def F.SEG.CNT_CUT_COUNT : Field := ⟨0x140, 0x0, 1, 31, 0, .ro, [0], none⟩
def F.SEG.CNT_NOSNIP_COUNT : Field := ⟨0x144, 0x0, 1, 31, 0, .ro, [0], none⟩
def F.SEG.CNT_MAP_MISSING_COUNT : Field := ⟨0x148, 0x0, 1, 31, 0, .ro, [0], none⟩
def F.SEG.CNT_UNREF_COMP_COUNT : Field := ⟨0x14c, 0x0, 1, 31, 0, .ro, [0], none⟩
def F.SEG.PROF_CFG_FORM : Field := ⟨0x180, 0x10, 8, 0, 0, .stage, [0], (some .page)⟩
def F.SEG.PROF_CFG_SUB_AUTO : Field := ⟨0x180, 0x10, 8, 1, 1, .stage, [0], (some .page)⟩
def F.SEG.PROF_CFG_DEF_ZONE : Field := ⟨0x180, 0x10, 8, 7, 4, .stage, [0], (some .page)⟩
def F.SEG.PROF_CFG_MIN_AREA : Field := ⟨0x180, 0x10, 8, 23, 8, .stage, [4], (some .page)⟩
def F.SEG.PROF_SUB_LAB : Field := ⟨0x184, 0x10, 8, 31, 0, .stage, [4000], (some .page)⟩
def F.SEG.PROF_LIM_MAX_LINES : Field := ⟨0x188, 0x10, 8, 15, 0, .stage, [4096], (some .page)⟩
def F.SEG.PROF_LIM_SUB_TOL : Field := ⟨0x188, 0x10, 8, 31, 16, .stage, [192], (some .page)⟩
def F.SEG.ZONE_REF_T_LO : Field := ⟨0x400, 0x8, 128, 15, 0, .stage, [192], (some .block)⟩
def F.SEG.ZONE_REF_T_HI : Field := ⟨0x400, 0x8, 128, 31, 16, .stage, [320], (some .block)⟩
def F.SEG.ZONE_UNREF_TU_LO : Field := ⟨0x404, 0x8, 128, 15, 0, .stage, [65535], (some .block)⟩
def F.SEG.ZONE_UNREF_TU_HI : Field := ⟨0x404, 0x8, 128, 31, 16, .stage, [65535], (some .block)⟩

/-! ## TAG (R410) -/

def F.TAG.CFG_MAX_PER_BLOCK : Field := ⟨0x100, 0x0, 1, 7, 0, .stage, [64], (some .page)⟩
def F.TAG.CFG_OVF_CLASS : Field := ⟨0x100, 0x0, 1, 13, 8, .stage, [62], (some .page)⟩
def F.TAG.DEFAULT_CLASS : Field := ⟨0x104, 0x0, 1, 5, 0, .stage, [63], (some .page)⟩
def F.TAG.DEFAULT_ACTIONS : Field := ⟨0x104, 0x0, 1, 13, 8, .stage, [7], (some .page)⟩
def F.TAG.ALERT_CFG_PULSE_US : Field := ⟨0x108, 0x0, 1, 15, 0, .seal, [1000], none⟩
def F.TAG.STAT_MERGING : Field := ⟨0x10c, 0x0, 1, 0, 0, .ro, [0], none⟩
def F.TAG.FLAGS_OVERFLOW : Field := ⟨0x110, 0x0, 1, 0, 0, .rw1c, [0], none⟩
def F.TAG.FLAGS_LPORT_DROP : Field := ⟨0x110, 0x0, 1, 1, 1, .rw1c, [0], none⟩
def F.TAG.FLAGS_SEQ_RESTART : Field := ⟨0x110, 0x0, 1, 2, 2, .rw1c, [0], none⟩
def F.TAG.SEQ_VALUE : Field := ⟨0x114, 0x0, 1, 31, 0, .ro, [0], none⟩
def F.TAG.LOCAL_VALUE : Field := ⟨0x118, 0x0, 1, 31, 0, .ro, [0], none⟩
def F.TAG.CTL_CLEAR_CNT : Field := ⟨0x11c, 0x0, 1, 0, 0, .wo, [0], none⟩
def F.TAG.CNT_TAGS_COUNT : Field := ⟨0x120, 0x0, 1, 31, 0, .ro, [0], none⟩
def F.TAG.CNT_FOLDED_COUNT : Field := ⟨0x124, 0x0, 1, 31, 0, .ro, [0], none⟩
def F.TAG.CNT_LPORT_COUNT : Field := ⟨0x128, 0x0, 1, 31, 0, .ro, [0], none⟩
def F.TAG.CNT_LPORT_DROP_COUNT : Field := ⟨0x12c, 0x0, 1, 31, 0, .ro, [0], none⟩
def F.TAG.CNT_DEFAULT_COUNT : Field := ⟨0x130, 0x0, 1, 31, 0, .ro, [0], none⟩
def F.TAG.RULE_W0_AREA_MIN : Field := ⟨0x200, 0x20, 32, 31, 0, .stage, [0], (some .page)⟩
def F.TAG.RULE_W1_AREA_MAX : Field := ⟨0x204, 0x20, 32, 31, 0, .stage, [4294967295], (some .page)⟩
def F.TAG.RULE_W2_DE_MAX_MIN : Field := ⟨0x208, 0x20, 32, 15, 0, .stage, [0], (some .page)⟩
def F.TAG.RULE_W2_DE_MEAN_MIN : Field := ⟨0x208, 0x20, 32, 31, 16, .stage, [0], (some .page)⟩
def F.TAG.RULE_W3_WIDTH_MIN : Field := ⟨0x20c, 0x20, 32, 15, 0, .stage, [0], (some .page)⟩
def F.TAG.RULE_W3_WIDTH_MAX : Field := ⟨0x20c, 0x20, 32, 31, 16, .stage, [65535], (some .page)⟩
def F.TAG.RULE_W4_HEIGHT_MIN : Field := ⟨0x210, 0x20, 32, 15, 0, .stage, [0], (some .page)⟩
def F.TAG.RULE_W4_HEIGHT_MAX : Field := ⟨0x210, 0x20, 32, 31, 16, .stage, [65535], (some .page)⟩
def F.TAG.RULE_W5_FLAG_MASK : Field := ⟨0x214, 0x20, 32, 15, 0, .stage, [0], (some .page)⟩
def F.TAG.RULE_W5_FLAG_VAL : Field := ⟨0x214, 0x20, 32, 31, 16, .stage, [0], (some .page)⟩
def F.TAG.RULE_W6_ZONES : Field := ⟨0x218, 0x20, 32, 15, 0, .stage, [65535], (some .page)⟩
def F.TAG.RULE_W6_POLARITY : Field := ⟨0x218, 0x20, 32, 17, 16, .stage, [0], (some .page)⟩
def F.TAG.RULE_W6_CLASS : Field := ⟨0x218, 0x20, 32, 29, 24, .stage, [0], (some .page)⟩
def F.TAG.RULE_W7_ACTIONS : Field := ⟨0x21c, 0x20, 32, 5, 0, .stage, [0], (some .page)⟩
def F.TAG.RULE_W7_EN : Field := ⟨0x21c, 0x20, 32, 31, 31, .stage, [0], (some .page)⟩
def F.TAG.CLASS_COUNT : Field := ⟨0x600, 0x4, 64, 31, 0, .ro, [0], none⟩

/-! ## LATGOV (R435) -/

def F.LATGOV.CFG_EN : Field := ⟨0x100, 0x0, 1, 0, 0, .seal, [1], none⟩
def F.LATGOV.CFG_RELAX_MS : Field := ⟨0x100, 0x0, 1, 15, 8, .seal, [10], none⟩
def F.LATGOV.STAT_LEVEL : Field := ⟨0x104, 0x0, 1, 2, 0, .ro, [0], none⟩
def F.LATGOV.STAT_AREA : Field := ⟨0x104, 0x0, 1, 7, 3, .ro, [0], none⟩
def F.LATGOV.STAT_TEMPO_LOW : Field := ⟨0x104, 0x0, 1, 8, 8, .ro, [0], none⟩
def F.LATGOV.STAT_PREDICT : Field := ⟨0x104, 0x0, 1, 9, 9, .ro, [0], none⟩
def F.LATGOV.STAT_RING_HOLD : Field := ⟨0x104, 0x0, 1, 10, 10, .ro, [0], none⟩
def F.LATGOV.STAT_CFG_FLOOR : Field := ⟨0x104, 0x0, 1, 27, 16, .ro, [0], none⟩
def F.LATGOV.FLAGS_TEMPO_LOW : Field := ⟨0x108, 0x0, 1, 0, 0, .rw1c, [0], none⟩
def F.LATGOV.FLAGS_SHED_C : Field := ⟨0x108, 0x0, 1, 1, 1, .rw1c, [0], none⟩
def F.LATGOV.FLAGS_SHED_B : Field := ⟨0x108, 0x0, 1, 2, 2, .rw1c, [0], none⟩
def F.LATGOV.FLAGS_SPARSE : Field := ⟨0x108, 0x0, 1, 3, 3, .rw1c, [0], none⟩
def F.LATGOV.FLAGS_SHORT : Field := ⟨0x108, 0x0, 1, 4, 4, .rw1c, [0], none⟩
def F.LATGOV.FLAGS_OVER : Field := ⟨0x108, 0x0, 1, 5, 5, .rw1c, [0], none⟩
def F.LATGOV.FLAGS_RING_HOLD : Field := ⟨0x108, 0x0, 1, 6, 6, .rw1c, [0], none⟩
def F.LATGOV.CTL_CLEAR_CNT : Field := ⟨0x10c, 0x0, 1, 0, 0, .wo, [0], none⟩
def F.LATGOV.LP_MIN_NS : Field := ⟨0x110, 0x0, 1, 31, 0, .ro, [4294967295], none⟩
def F.LATGOV.LAT_LAST_NS : Field := ⟨0x114, 0x0, 1, 31, 0, .ro, [0], none⟩
def F.LATGOV.LAT_MAX_NS : Field := ⟨0x118, 0x0, 1, 31, 0, .ro, [0], none⟩
def F.LATGOV.LAT_LIM_NS : Field := ⟨0x120, 0x0, 1, 31, 0, .ro, [0], none⟩
def F.LATGOV.LAT_MAX_SEQ_SEQ : Field := ⟨0x11c, 0x0, 1, 31, 0, .ro, [0], none⟩
def F.LATGOV.CNT_LOW_WIN_COUNT : Field := ⟨0x130, 0x0, 1, 31, 0, .ro, [0], none⟩
def F.LATGOV.CNT_ROWS_IN_COUNT : Field := ⟨0x134, 0x0, 1, 31, 0, .ro, [0], none⟩
def F.LATGOV.CNT_ROWS_OUT_COUNT : Field := ⟨0x138, 0x0, 1, 31, 0, .ro, [0], none⟩
def F.LATGOV.CNT_SHED_B_COUNT : Field := ⟨0x13c, 0x0, 1, 31, 0, .ro, [0], none⟩
def F.LATGOV.CNT_SHED_C_COUNT : Field := ⟨0x140, 0x0, 1, 31, 0, .ro, [0], none⟩
def F.LATGOV.CNT_OVER_COUNT : Field := ⟨0x144, 0x0, 1, 31, 0, .ro, [0], none⟩
def F.LATGOV.CNT_UNCOVERED_COUNT : Field := ⟨0x148, 0x0, 1, 31, 0, .ro, [0], none⟩
def F.LATGOV.PCFG_FLOOR : Field := ⟨0x150, 0x4, 4, 11, 0, .ro, [1850, 1700, 1200, 700], none⟩
def F.LATGOV.PCFG_RATE_STRIP : Field := ⟨0x150, 0x4, 4, 23, 12, .ro, [1500, 1500, 1000, 625], none⟩
def F.LATGOV.PCFG_C_OFF : Field := ⟨0x150, 0x4, 4, 24, 24, .seal, [0], none⟩
def F.LATGOV.PCFG_B_OFF : Field := ⟨0x150, 0x4, 4, 25, 25, .seal, [0], none⟩
def F.LATGOV.W_WORK : Field := ⟨0x200, 0x10, 25, 23, 0, .stage, [0], (some .page)⟩
def F.LATGOV.B_WORK : Field := ⟨0x204, 0x10, 25, 23, 0, .stage, [0], (some .page)⟩
def F.LATGOV.C_WORK : Field := ⟨0x208, 0x10, 25, 23, 0, .stage, [0], (some .page)⟩
def F.LATGOV.OVH_NS : Field := ⟨0x20c, 0x10, 25, 15, 0, .stage, [0], (some .page)⟩
def F.LATGOV.OVH_ROW : Field := ⟨0x20c, 0x10, 25, 16, 16, .ro, [1, 1, 1, 1, 1, 1, 1, 1, 1, 1, 1, 1, 1, 1, 1, 1, 1, 1, 1, 0], none⟩

/-! ## AXIS (R455) -/

def F.AXIS.CFG_EN : Field := ⟨0x100, 0x0, 1, 0, 0, .seal, [0], none⟩
def F.AXIS.CFG_PERIOD_US : Field := ⟨0x100, 0x0, 1, 13, 4, .seal, [100], none⟩
def F.AXIS.CFG_RESP_US : Field := ⟨0x100, 0x0, 1, 23, 16, .seal, [60], none⟩
def F.AXIS.CFG_LINK_LOSS_N : Field := ⟨0x100, 0x0, 1, 27, 24, .seal, [3], none⟩
def F.AXIS.CFG_DRIVE_ADDR : Field := ⟨0x100, 0x0, 1, 31, 28, .seal, [0], none⟩
def F.AXIS.SEL_MARK_EN : Field := ⟨0x104, 0x0, 1, 0, 0, .stage, [0], (some .page)⟩
def F.AXIS.SEL_LATE_MODE : Field := ⟨0x104, 0x0, 1, 1, 1, .stage, [0], (some .page)⟩
def F.AXIS.SEL_FIRE_SRC : Field := ⟨0x104, 0x0, 1, 3, 2, .stage, [0], (some .page)⟩
def F.AXIS.CLASS_LO_MASK : Field := ⟨0x108, 0x0, 1, 31, 0, .stage, [0], (some .page)⟩
def F.AXIS.CLASS_HI_MASK : Field := ⟨0x10c, 0x0, 1, 31, 0, .stage, [0], (some .page)⟩
def F.AXIS.XMAP_ORG_NM : Field := ⟨0x110, 0x0, 1, 31, 0, .stage, [0], (some .page)⟩
def F.AXIS.XMAP_PITCH_PM : Field := ⟨0x114, 0x0, 1, 31, 0, .stage, [21166667], (some .page)⟩
def F.AXIS.XMAP_COL0_COL : Field := ⟨0x118, 0x0, 1, 31, 0, .stage, [0], (some .page)⟩
def F.AXIS.STATION_DIST_UM : Field := ⟨0x11c, 0x0, 1, 31, 0, .stage, [0], (some .page)⟩
def F.AXIS.VLIM_MIN_NM : Field := ⟨0x120, 0x0, 1, 31, 0, .stage, [0], (some .page)⟩
def F.AXIS.VLIM_MAX_NM : Field := ⟨0x124, 0x0, 1, 31, 0, .stage, [0], (some .page)⟩
def F.AXIS.LIM_V_UM_S : Field := ⟨0x128, 0x0, 1, 23, 0, .stage, [500000], (some .page)⟩
def F.AXIS.LIM_A_MM_S2 : Field := ⟨0x12c, 0x0, 1, 23, 0, .stage, [10000], (some .page)⟩
def F.AXIS.LIM_J_M_S3 : Field := ⟨0x130, 0x0, 1, 23, 0, .stage, [500], (some .page)⟩
def F.AXIS.LIM_STOP_MM_S2 : Field := ⟨0x134, 0x0, 1, 23, 0, .stage, [10000], (some .page)⟩
def F.AXIS.MARK_CFG_WIDTH_US : Field := ⟨0x138, 0x0, 1, 15, 0, .stage, [100], (some .page)⟩
def F.AXIS.MARK_DELAY_NS : Field := ⟨0x13c, 0x0, 1, 23, 0, .stage, [0], (some .page)⟩
def F.AXIS.MERGE_DOWN_UM : Field := ⟨0x140, 0x0, 1, 15, 0, .stage, [0], (some .page)⟩
def F.AXIS.MERGE_CROSS_UM : Field := ⟨0x140, 0x0, 1, 31, 16, .stage, [0], (some .page)⟩
def F.AXIS.TOL_IN_POS_UM : Field := ⟨0x144, 0x0, 1, 11, 0, .stage, [100], (some .page)⟩
def F.AXIS.TOL_FE_MAX_UM : Field := ⟨0x144, 0x0, 1, 23, 12, .stage, [2000], (some .page)⟩
def F.AXIS.TOL_HOME_S : Field := ⟨0x144, 0x0, 1, 31, 24, .stage, [30], (some .page)⟩
def F.AXIS.CTL_HOME : Field := ⟨0x150, 0x0, 1, 0, 0, .wo, [0], none⟩
def F.AXIS.CTL_STOP : Field := ⟨0x150, 0x0, 1, 1, 1, .wo, [0], none⟩
def F.AXIS.CTL_RESUME : Field := ⟨0x150, 0x0, 1, 2, 2, .wo, [0], none⟩
def F.AXIS.CTL_CLEAR_FAULT : Field := ⟨0x150, 0x0, 1, 3, 3, .wo, [0], none⟩
def F.AXIS.CTL_CLEAR_CNT : Field := ⟨0x150, 0x0, 1, 4, 4, .wo, [0], none⟩
def F.AXIS.STAT_STATE : Field := ⟨0x160, 0x0, 1, 2, 0, .ro, [0], none⟩
def F.AXIS.STAT_QUEUED : Field := ⟨0x160, 0x0, 1, 10, 4, .ro, [0], none⟩
def F.AXIS.STAT_PLANNING : Field := ⟨0x160, 0x0, 1, 11, 11, .ro, [0], none⟩
def F.AXIS.STAT_CAUSE : Field := ⟨0x160, 0x0, 1, 15, 12, .ro, [0], none⟩
def F.AXIS.FLAGS_FAULT : Field := ⟨0x164, 0x0, 1, 0, 0, .rw1c, [0], none⟩
def F.AXIS.FLAGS_LIMIT : Field := ⟨0x164, 0x0, 1, 1, 1, .rw1c, [0], none⟩
def F.AXIS.FLAGS_LATE : Field := ⟨0x164, 0x0, 1, 2, 2, .rw1c, [0], none⟩
def F.AXIS.FLAGS_PRED_LATE : Field := ⟨0x164, 0x0, 1, 3, 3, .rw1c, [0], none⟩
def F.AXIS.FLAGS_POS_LOST : Field := ⟨0x164, 0x0, 1, 4, 4, .rw1c, [0], none⟩
def F.AXIS.CMD_POS_NM : Field := ⟨0x168, 0x0, 1, 31, 0, .ro, [0], none⟩
def F.AXIS.ACT_POS_NM : Field := ⟨0x16c, 0x0, 1, 31, 0, .ro, [0], none⟩
def F.AXIS.HEAD_X_NM : Field := ⟨0x170, 0x0, 1, 31, 0, .ro, [0], none⟩
def F.AXIS.DRIVE_STATUS : Field := ⟨0x174, 0x0, 1, 7, 0, .ro, [0], none⟩
def F.AXIS.DRIVE_CODE : Field := ⟨0x174, 0x0, 1, 31, 16, .ro, [0], none⟩
def F.AXIS.CNT_FIRED_COUNT : Field := ⟨0x180, 0x0, 1, 31, 0, .ro, [0], none⟩
def F.AXIS.CNT_LATE_COUNT : Field := ⟨0x184, 0x0, 1, 31, 0, .ro, [0], none⟩
def F.AXIS.CNT_REFUSED_COUNT : Field := ⟨0x188, 0x0, 1, 31, 0, .ro, [0], none⟩
def F.AXIS.CNT_MERGED_COUNT : Field := ⟨0x18c, 0x0, 1, 31, 0, .ro, [0], none⟩
def F.AXIS.CNT_CANCEL_COUNT : Field := ⟨0x190, 0x0, 1, 31, 0, .ro, [0], none⟩
def F.AXIS.CNT_OUTSIDE_COUNT : Field := ⟨0x194, 0x0, 1, 31, 0, .ro, [0], none⟩
def F.AXIS.CNT_LINK_ERR_COUNT : Field := ⟨0x198, 0x0, 1, 31, 0, .ro, [0], none⟩

/-! ## DMC (R479) -/

def F.DMC.CFG_ECC_EN : Field := ⟨0x100, 0x0, 1, 0, 0, .seal, [1], none⟩
def F.DMC.CFG_RANKS : Field := ⟨0x100, 0x0, 1, 1, 1, .seal, [1], none⟩
def F.DMC.CFG_DENSITY : Field := ⟨0x100, 0x0, 1, 4, 2, .seal, [4], none⟩
def F.DMC.CAP_CHUNKS : Field := ⟨0x104, 0x0, 1, 13, 0, .ro, [0], none⟩
def F.DMC.RSV_SNIP : Field := ⟨0x108, 0x0, 1, 7, 0, .seal, [4], none⟩
def F.DMC.RSV_STAT : Field := ⟨0x108, 0x0, 1, 15, 8, .seal, [2], none⟩
def F.DMC.RSV_ARCH : Field := ⟨0x108, 0x0, 1, 28, 16, .seal, [0], none⟩
def F.DMC.RSV_BASE0_SNIP_BASE : Field := ⟨0x10c, 0x0, 1, 12, 0, .ro, [0], none⟩
def F.DMC.RSV_BASE0_STAT_BASE : Field := ⟨0x10c, 0x0, 1, 28, 16, .ro, [0], none⟩
def F.DMC.RSV_BASE1_ARCH_BASE : Field := ⟨0x110, 0x0, 1, 12, 0, .ro, [0], none⟩
def F.DMC.CH_XOR_MASK : Field := ⟨0x120, 0x4, 4, 17, 0, .seal, [4369, 8738, 17476, 34952], none⟩
def F.DMC.BK_XOR_MASK : Field := ⟨0x130, 0x4, 4, 17, 0, .seal, [1040, 2080, 4160, 8320], none⟩
def F.DMC.PAGE_OPEN : Field := ⟨0x140, 0x0, 1, 9, 0, .seal, [470], none⟩
def F.DMC.PAGE_IDLE_CLOSE_NS : Field := ⟨0x140, 0x0, 1, 31, 16, .seal, [200], none⟩
def F.DMC.WQ_HIGH : Field := ⟨0x144, 0x0, 1, 5, 0, .seal, [48], none⟩
def F.DMC.WQ_LOW : Field := ⟨0x144, 0x0, 1, 13, 8, .seal, [16], none⟩
def F.DMC.PWR_SR_IDLE_US : Field := ⟨0x148, 0x0, 1, 15, 0, .seal, [1000], none⟩
def F.DMC.RETRAIN_CHECK_MS : Field := ⟨0x14c, 0x0, 1, 7, 0, .seal, [100], none⟩
def F.DMC.RETRAIN_DRIFT_PS : Field := ⟨0x14c, 0x0, 1, 15, 8, .seal, [20], none⟩
def F.DMC.SCRUB_HOURS : Field := ⟨0x150, 0x0, 1, 7, 0, .seal, [24], none⟩
def F.DMC.TARGET_NS : Field := ⟨0x160, 0x4, 10, 19, 0, .seal, [500, 2000, 20000, 10000, 10000, 5000, 50000, 50000, 200000, 0], none⟩
def F.DMC.STAT_STATE : Field := ⟨0x190, 0x0, 1, 2, 0, .ro, [0], none⟩
def F.DMC.STAT_RATE : Field := ⟨0x190, 0x0, 1, 5, 4, .ro, [1], none⟩
def F.DMC.STAT_FSP : Field := ⟨0x190, 0x0, 1, 6, 6, .ro, [0], none⟩
def F.DMC.FLAGS_UE : Field := ⟨0x194, 0x0, 1, 0, 0, .rw1c, [0], none⟩
def F.DMC.FLAGS_CE : Field := ⟨0x194, 0x0, 1, 1, 1, .rw1c, [0], none⟩
def F.DMC.FLAGS_RETRAIN_FAIL : Field := ⟨0x194, 0x0, 1, 2, 2, .rw1c, [0], none⟩
def F.DMC.FLAGS_TRAIN_FAIL : Field := ⟨0x194, 0x0, 1, 3, 3, .rw1c, [0], none⟩
def F.DMC.FLAGS_HOT : Field := ⟨0x194, 0x0, 1, 4, 4, .rw1c, [0], none⟩
def F.DMC.CTL_CLEAR_CNT : Field := ⟨0x198, 0x0, 1, 0, 0, .wo, [0], none⟩
def F.DMC.WIPE_GIB : Field := ⟨0x19c, 0x0, 1, 7, 0, .ro, [0], none⟩
def F.DMC.WIPE_DONE : Field := ⟨0x19c, 0x0, 1, 8, 8, .ro, [0], none⟩
def F.DMC.UE_ADDR_LO_ADDR : Field := ⟨0x1a0, 0x0, 1, 31, 0, .ro, [0], none⟩
def F.DMC.UE_ADDR_HI_ADDR : Field := ⟨0x1a4, 0x0, 1, 4, 0, .ro, [0], none⟩
def F.DMC.CNT_CE_COUNT : Field := ⟨0x1b0, 0x0, 1, 31, 0, .ro, [0], none⟩
def F.DMC.CNT_UE_COUNT : Field := ⟨0x1b4, 0x0, 1, 31, 0, .ro, [0], none⟩
def F.DMC.CNT_RETRAIN_COUNT : Field := ⟨0x1b8, 0x0, 1, 31, 0, .ro, [0], none⟩
def F.DMC.CNT_RETRAIN_FAIL_COUNT : Field := ⟨0x1bc, 0x0, 1, 31, 0, .ro, [0], none⟩
def F.DMC.CNT_DRAIN_COUNT : Field := ⟨0x1c0, 0x0, 1, 31, 0, .ro, [0], none⟩
def F.DMC.CNT_SR_COUNT : Field := ⟨0x1c4, 0x0, 1, 31, 0, .ro, [0], none⟩
def F.DMC.CH_STAT_STATE : Field := ⟨0x200, 0x4, 16, 1, 0, .ro, [0], none⟩
def F.DMC.CH_STAT_MR4 : Field := ⟨0x200, 0x4, 16, 4, 2, .ro, [0], none⟩
def F.DMC.CH_STAT_RETRAINS : Field := ⟨0x200, 0x4, 16, 15, 8, .ro, [0], none⟩
def F.DMC.REQ_LAT_MAX_NS : Field := ⟨0x240, 0x4, 10, 19, 0, .ro, [0], none⟩

/-! ## HOST (R504) -/

def F.HOST.LINK_SPEED : Field := ⟨0x100, 0x0, 1, 3, 0, .ro, [0], none⟩
def F.HOST.LINK_WIDTH : Field := ⟨0x100, 0x0, 1, 8, 4, .ro, [0], none⟩
def F.HOST.LINK_UP : Field := ⟨0x100, 0x0, 1, 9, 9, .ro, [0], none⟩
def F.HOST.LINK_D3 : Field := ⟨0x100, 0x0, 1, 10, 10, .ro, [0], none⟩
def F.HOST.SUBSYS_VID : Field := ⟨0x104, 0x0, 1, 15, 0, .seal, [8115], none⟩
def F.HOST.SUBSYS_DID : Field := ⟨0x104, 0x0, 1, 31, 16, .seal, [18450], none⟩
def F.HOST.IRQ_STAT_RUNNING : Field := ⟨0x108, 0x0, 1, 0, 0, .rw1c, [0], none⟩
def F.HOST.IRQ_STAT_UNIT_FAIL : Field := ⟨0x108, 0x0, 1, 1, 1, .rw1c, [0], none⟩
def F.HOST.IRQ_STAT_ARCH_FULL : Field := ⟨0x108, 0x0, 1, 2, 2, .rw1c, [0], none⟩
def F.HOST.IRQ_STAT_DROP : Field := ⟨0x108, 0x0, 1, 3, 3, .rw1c, [0], none⟩
def F.HOST.IRQ_MASK_MASK : Field := ⟨0x10c, 0x0, 1, 3, 0, .live, [0], none⟩
def F.HOST.STR_CFG_FLUSH_US : Field := ⟨0x110, 0x0, 1, 15, 0, .seal, [100], none⟩
def F.HOST.STR_STAT_WAITING : Field := ⟨0x114, 0x0, 1, 3, 0, .ro, [0], none⟩
def F.HOST.STR_STAT_SERVED : Field := ⟨0x114, 0x0, 1, 7, 4, .ro, [0], none⟩
def F.HOST.ARCH_CFG_EN : Field := ⟨0x118, 0x0, 1, 0, 0, .stage, [0], (some .page)⟩
def F.HOST.ARCH_CFG_RATIO : Field := ⟨0x118, 0x0, 1, 3, 1, .stage, [2], (some .page)⟩
def F.HOST.ARCH_CFG_DIV : Field := ⟨0x118, 0x0, 1, 15, 8, .stage, [16], (some .page)⟩
def F.HOST.TAGS_IN_USE : Field := ⟨0x11c, 0x0, 1, 14, 0, .ro, [0], none⟩
def F.HOST.TAGS_PEAK : Field := ⟨0x11c, 0x0, 1, 30, 16, .ro, [0], none⟩
def F.HOST.CTL_CLEAR_CNT : Field := ⟨0x120, 0x0, 1, 0, 0, .wo, [0], none⟩
def F.HOST.STR_DROP_COUNT : Field := ⟨0x130, 0x4, 4, 31, 0, .ro, [0], none⟩
def F.HOST.CNT_LINK_DOWN_COUNT : Field := ⟨0x140, 0x0, 1, 31, 0, .ro, [0], none⟩
def F.HOST.CNT_ARCH_COUNT : Field := ⟨0x144, 0x0, 1, 31, 0, .ro, [0], none⟩

/-! ## DMA (R505) -/

def F.DMA.CFG_NOACK_MS : Field := ⟨0x100, 0x0, 1, 7, 0, .seal, [10], none⟩
def F.DMA.FLAGS_FAILED : Field := ⟨0x104, 0x0, 1, 0, 0, .rw1c, [0], none⟩
def F.DMA.FLAGS_CHAIN_LIMIT : Field := ⟨0x104, 0x0, 1, 1, 1, .rw1c, [0], none⟩
def F.DMA.FLAGS_NOACK : Field := ⟨0x104, 0x0, 1, 2, 2, .rw1c, [0], none⟩
def F.DMA.FLAGS_LATE_RSP : Field := ⟨0x104, 0x0, 1, 3, 3, .rw1c, [0], none⟩
def F.DMA.ABORT_LO_CH : Field := ⟨0x108, 0x0, 1, 31, 0, .rw1c, [0], none⟩
def F.DMA.ABORT_HI_CH : Field := ⟨0x10c, 0x0, 1, 23, 0, .rw1c, [0], none⟩
def F.DMA.CTL_CLEAR_CNT : Field := ⟨0x110, 0x0, 1, 0, 0, .wo, [0], none⟩
def F.DMA.CNT_LATE_RSP_COUNT : Field := ⟨0x114, 0x0, 1, 31, 0, .ro, [0], none⟩
def F.DMA.CNT_FAILED_COUNT : Field := ⟨0x118, 0x0, 1, 31, 0, .ro, [0], none⟩
def F.DMA.CH_CTL_GO : Field := ⟨0x400, 0x20, 56, 0, 0, .live, [0], none⟩
def F.DMA.CH_CTL_STOP : Field := ⟨0x400, 0x20, 56, 1, 1, .live, [0], none⟩
def F.DMA.CH_CTL_REARM : Field := ⟨0x400, 0x20, 56, 2, 2, .live, [0], none⟩
def F.DMA.CH_SH_LO_ADDR : Field := ⟨0x404, 0x20, 56, 31, 4, .live, [0], none⟩
def F.DMA.CH_SH_HI_ADDR : Field := ⟨0x408, 0x20, 56, 31, 0, .live, [0], none⟩
def F.DMA.CH_CFG_CHAIN_LIMIT : Field := ⟨0x40c, 0x20, 56, 15, 0, .live, [65535], none⟩
def F.DMA.CH_CFG_DESC_SPACE : Field := ⟨0x40c, 0x20, 56, 17, 16, .live, [0], none⟩
def F.DMA.CH_CFG_TAG_MAX : Field := ⟨0x40c, 0x20, 56, 29, 20, .live, [256], none⟩
def F.DMA.PCH_CTL_GO : Field := ⟨0xb00, 0x20, 8, 0, 0, .rw, [0], none⟩
def F.DMA.PCH_CTL_SRC_SPACE : Field := ⟨0xb00, 0x20, 8, 2, 1, .rw, [0], none⟩
def F.DMA.PCH_CTL_DST_SPACE : Field := ⟨0xb00, 0x20, 8, 4, 3, .rw, [0], none⟩
def F.DMA.PCH_CTL_HINT_OVR : Field := ⟨0xb00, 0x20, 8, 5, 5, .rw, [0], none⟩
def F.DMA.PCH_CTL_HINT : Field := ⟨0xb00, 0x20, 8, 6, 6, .rw, [0], none⟩
def F.DMA.PCH_SRC_LO_ADDR : Field := ⟨0xb04, 0x20, 8, 31, 0, .rw, [0], none⟩
def F.DMA.PCH_SRC_HI_ADDR : Field := ⟨0xb08, 0x20, 8, 31, 0, .rw, [0], none⟩
def F.DMA.PCH_DST_LO_ADDR : Field := ⟨0xb0c, 0x20, 8, 31, 0, .rw, [0], none⟩
def F.DMA.PCH_DST_HI_ADDR : Field := ⟨0xb14, 0x20, 8, 31, 0, .rw, [0], none⟩
def F.DMA.CH_STAT_STATE : Field := ⟨0x410, 0x20, 64, 2, 0, .ro, [0], none⟩
def F.DMA.CH_STAT_STATUS : Field := ⟨0x410, 0x20, 64, 6, 3, .ro, [0], none⟩
def F.DMA.CH_STAT_STOP_CAUSE : Field := ⟨0x410, 0x20, 64, 9, 7, .ro, [0], none⟩
def F.DMA.CH_STAT_PEND : Field := ⟨0x410, 0x20, 64, 10, 10, .ro, [0], none⟩
def F.DMA.CH_STAT_SEQ : Field := ⟨0x410, 0x20, 64, 31, 16, .ro, [0], none⟩
def F.DMA.CH_CUR_LO_ADDR : Field := ⟨0x414, 0x20, 56, 31, 0, .ro, [0], none⟩
def F.DMA.CH_CUR_HI_ADDR : Field := ⟨0x418, 0x20, 56, 31, 0, .ro, [0], none⟩
def F.DMA.CH_COUNT_COUNT : Field := ⟨0x41c, 0x20, 56, 31, 0, .ro, [0], none⟩
def F.DMA.PCH_COUNT_COUNT : Field := ⟨0xb1c, 0x20, 8, 31, 0, .rw, [0], none⟩

/-! ## MBXB (R535) -/

def F.MBXB.H2F_DATA : Field := ⟨0x0, 0x4, 16, 31, 0, .live, [0], none⟩
def F.MBXB.F2H_DATA : Field := ⟨0x40, 0x4, 16, 31, 0, .ro, [0], none⟩
def F.MBXB.WSTAT_H2F_FULL : Field := ⟨0x80, 0x0, 1, 15, 0, .ro, [0], none⟩
def F.MBXB.WSTAT_F2H_FULL : Field := ⟨0x80, 0x0, 1, 31, 16, .ro, [0], none⟩
def F.MBXB.MFLAGS_OVERRUN : Field := ⟨0x84, 0x0, 1, 0, 0, .rw1c, [0], none⟩
def F.MBXB.MFLAGS_ABORTED : Field := ⟨0x84, 0x0, 1, 1, 1, .rw1c, [0], none⟩
def F.MBXB.CNT_OVERRUN_COUNT : Field := ⟨0x88, 0x0, 1, 31, 0, .ro, [0], none⟩
def F.MBXB.DB_RING_RING : Field := ⟨0x90, 0x0, 1, 31, 0, .wo, [0], none⟩
def F.MBXB.DB_PEND_PEND : Field := ⟨0x94, 0x0, 1, 31, 0, .rw1c, [0], none⟩
def F.MBXB.BLK_CTL_LENGTH : Field := ⟨0xa0, 0x4, 4, 13, 0, .live, [0], none⟩
def F.MBXB.BLK_CTL_GO : Field := ⟨0xa0, 0x4, 4, 31, 31, .live, [0], none⟩

/-! ## MBX (R536) -/

def F.MBX.FW_STAT_H2F_FULL : Field := ⟨0x100, 0x0, 1, 15, 0, .ro, [0], none⟩
def F.MBX.FW_STAT_F2H_FULL : Field := ⟨0x100, 0x0, 1, 31, 16, .ro, [0], none⟩
def F.MBX.FW_FLAGS_HOST_RESET : Field := ⟨0x104, 0x0, 1, 0, 0, .rw1c, [0], none⟩
def F.MBX.FW_FLAGS_RING_ABORTED : Field := ⟨0x104, 0x0, 1, 1, 1, .rw1c, [0], none⟩
def F.MBX.QUEUE_HELD : Field := ⟨0x108, 0x0, 1, 5, 0, .ro, [0], none⟩
def F.MBX.QUEUE_LONG : Field := ⟨0x108, 0x0, 1, 6, 6, .ro, [0], none⟩
def F.MBX.CTL_CLEAR_CNT : Field := ⟨0x10c, 0x0, 1, 0, 0, .wo, [0], none⟩
def F.MBX.CNT_REQ_COUNT : Field := ⟨0x110, 0x0, 1, 31, 0, .ro, [0], none⟩
def F.MBX.CNT_NOT_OK_COUNT : Field := ⟨0x114, 0x0, 1, 31, 0, .ro, [0], none⟩
def F.MBX.CNT_ABORTED_COUNT : Field := ⟨0x118, 0x0, 1, 31, 0, .ro, [0], none⟩
def F.MBX.DB_CFG_NODE : Field := ⟨0x140, 0x4, 32, 5, 0, .seal, [0], none⟩

/-! ## RING (R573) -/

def F.RING.CFG_EN : Field := ⟨0x100, 0x0, 1, 0, 0, .seal, [0], none⟩
def F.RING.CFG_POS : Field := ⟨0x100, 0x0, 1, 5, 1, .seal, [0], none⟩
def F.RING.CFG_SIZE : Field := ⟨0x100, 0x0, 1, 11, 6, .seal, [1], none⟩
def F.RING.CFG_MERGE_PRIO : Field := ⟨0x100, 0x0, 1, 15, 12, .seal, [0], none⟩
def F.RING.CFG_POS_SRC : Field := ⟨0x100, 0x0, 1, 16, 16, .seal, [0], none⟩
def F.RING.NEST_POS2 : Field := ⟨0x104, 0x0, 1, 4, 0, .seal, [0], none⟩
def F.RING.NEST_SIZE2 : Field := ⟨0x104, 0x0, 1, 10, 5, .seal, [0], none⟩
def F.RING.NEST_POS3 : Field := ⟨0x104, 0x0, 1, 14, 11, .seal, [0], none⟩
def F.RING.NEST_SIZE3 : Field := ⟨0x104, 0x0, 1, 19, 15, .seal, [0], none⟩
def F.RING.UPL_CFG_LEVEL : Field := ⟨0x108, 0x0, 1, 1, 0, .seal, [0], none⟩
def F.RING.UPL_CFG_SIDE : Field := ⟨0x108, 0x0, 1, 2, 2, .seal, [0], none⟩
def F.RING.TIMING_REEL_US : Field := ⟨0x10c, 0x0, 1, 7, 0, .seal, [32], none⟩
def F.RING.TIMING_RETRY_S : Field := ⟨0x10c, 0x0, 1, 15, 8, .seal, [10], none⟩
def F.RING.STAT_STATE : Field := ⟨0x110, 0x0, 1, 1, 0, .ro, [0], none⟩
def F.RING.STAT_SEGMENTED : Field := ⟨0x110, 0x0, 1, 2, 2, .ro, [0], none⟩
def F.RING.STAT_POS_OK : Field := ⟨0x110, 0x0, 1, 3, 3, .ro, [0], none⟩
def F.RING.STAT_LIVE : Field := ⟨0x110, 0x0, 1, 9, 4, .ro, [0], none⟩
def F.RING.STAT_HOPS_MERGE : Field := ⟨0x110, 0x0, 1, 17, 10, .ro, [0], none⟩
def F.RING.FLAGS_ENUM : Field := ⟨0x114, 0x0, 1, 0, 0, .rw1c, [0], none⟩
def F.RING.FLAGS_INSERT_FAIL : Field := ⟨0x114, 0x0, 1, 1, 1, .rw1c, [0], none⟩
def F.RING.FLAGS_DUP : Field := ⟨0x114, 0x0, 1, 2, 2, .rw1c, [0], none⟩
def F.RING.FLAGS_SPLIT : Field := ⟨0x114, 0x0, 1, 3, 3, .rw1c, [0], none⟩
def F.RING.FLAGS_CFG_MISMATCH : Field := ⟨0x114, 0x0, 1, 4, 4, .rw1c, [0], none⟩
def F.RING.FLAGS_LINK_FAIL : Field := ⟨0x114, 0x0, 1, 5, 5, .rw1c, [0], none⟩
def F.RING.FLAGS_POS_LOST : Field := ⟨0x114, 0x0, 1, 6, 6, .rw1c, [0], none⟩
def F.RING.FLAGS_TRIG_LATE : Field := ⟨0x114, 0x0, 1, 7, 7, .rw1c, [0], none⟩
def F.RING.FLAGS_POS_CONFLICT : Field := ⟨0x114, 0x0, 1, 8, 8, .rw1c, [0], none⟩
def F.RING.ENUM_EPOCH : Field := ⟨0x118, 0x0, 1, 15, 0, .ro, [0], none⟩
def F.RING.ENUM_INITIATOR : Field := ⟨0x118, 0x0, 1, 29, 16, .ro, [0], none⟩
def F.RING.LINKS_WEST_USED : Field := ⟨0x11c, 0x0, 1, 0, 0, .ro, [0], none⟩
def F.RING.LINKS_EAST_USED : Field := ⟨0x11c, 0x0, 1, 1, 1, .ro, [0], none⟩
def F.RING.LINKS_UPL_USED : Field := ⟨0x11c, 0x0, 1, 2, 2, .ro, [0], none⟩
def F.RING.LINKS_DARK_W : Field := ⟨0x11c, 0x0, 1, 5, 3, .ro, [0], none⟩
def F.RING.LINKS_DARK_E : Field := ⟨0x11c, 0x0, 1, 8, 6, .ro, [0], none⟩
def F.RING.MEMBERS_LIVE : Field := ⟨0x120, 0x0, 1, 31, 0, .ro, [0], none⟩
def F.RING.NEIGH_WEST : Field := ⟨0x124, 0x0, 1, 13, 0, .ro, [0], none⟩
def F.RING.NEIGH_W_VALID : Field := ⟨0x124, 0x0, 1, 14, 14, .ro, [0], none⟩
def F.RING.NEIGH_EAST : Field := ⟨0x124, 0x0, 1, 29, 16, .ro, [0], none⟩
def F.RING.NEIGH_E_VALID : Field := ⟨0x124, 0x0, 1, 30, 30, .ro, [0], none⟩
def F.RING.MERGE_1_ADDR : Field := ⟨0x128, 0x0, 1, 13, 0, .ro, [0], none⟩
def F.RING.MERGE_2_ADDR : Field := ⟨0x12c, 0x0, 1, 13, 0, .ro, [0], none⟩
def F.RING.MERGE_3_ADDR : Field := ⟨0x130, 0x0, 1, 13, 0, .ro, [0], none⟩
def F.RING.MERGE_1_VALID : Field := ⟨0x128, 0x0, 1, 14, 14, .ro, [0], none⟩
def F.RING.MERGE_2_VALID : Field := ⟨0x12c, 0x0, 1, 14, 14, .ro, [0], none⟩
def F.RING.MERGE_3_VALID : Field := ⟨0x130, 0x0, 1, 14, 14, .ro, [0], none⟩
def F.RING.POSSRC_ADDR : Field := ⟨0x134, 0x0, 1, 13, 0, .ro, [0], none⟩
def F.RING.POSSRC_VALID : Field := ⟨0x134, 0x0, 1, 14, 14, .ro, [0], none⟩
def F.RING.POSSRC_HOPS : Field := ⟨0x134, 0x0, 1, 23, 16, .ro, [0], none⟩
def F.RING.POS_OFS_LO_NS : Field := ⟨0x138, 0x0, 1, 31, 0, .ro, [0], none⟩
def F.RING.POS_OFS_HI_NS : Field := ⟨0x13c, 0x0, 1, 31, 0, .ro, [0], none⟩
def F.RING.SEQ_SEEN_SEQ : Field := ⟨0x140, 0x0, 1, 31, 0, .ro, [0], none⟩
def F.RING.CTL_CLEAR_CNT : Field := ⟨0x144, 0x0, 1, 0, 0, .wo, [0], none⟩
def F.RING.CNT_ENUM_COUNT : Field := ⟨0x150, 0x0, 1, 31, 0, .ro, [0], none⟩
def F.RING.CNT_RETRY_COUNT : Field := ⟨0x154, 0x0, 1, 31, 0, .ro, [0], none⟩
def F.RING.CNT_LINK_FAIL_COUNT : Field := ⟨0x158, 0x0, 1, 31, 0, .ro, [0], none⟩
def F.RING.CNT_HOLD_COUNT : Field := ⟨0x15c, 0x0, 1, 31, 0, .ro, [0], none⟩
def F.RING.CNT_TRIG_LATE_COUNT : Field := ⟨0x160, 0x0, 1, 31, 0, .ro, [0], none⟩
def F.RING.CNT_MISROUTE_COUNT : Field := ⟨0x164, 0x0, 1, 31, 0, .ro, [0], none⟩

/-! ## EVT (R588) -/

def F.EVT.FLAGS_COAL : Field := ⟨0x100, 0x0, 1, 0, 0, .rw1c, [0], none⟩
def F.EVT.FLAGS_OVERRUN : Field := ⟨0x100, 0x0, 1, 1, 1, .rw1c, [0], none⟩
def F.EVT.FLAGS_EXPORT_DROP : Field := ⟨0x100, 0x0, 1, 2, 2, .rw1c, [0], none⟩
def F.EVT.FLAGS_IMPORT_REFUSED : Field := ⟨0x100, 0x0, 1, 3, 3, .rw1c, [0], none⟩
def F.EVT.CTL_CLEAR_CNT : Field := ⟨0x104, 0x0, 1, 0, 0, .wo, [0], none⟩
def F.EVT.SW_HOST_RAISE : Field := ⟨0x108, 0x0, 1, 15, 0, .wo, [0], none⟩
def F.EVT.SW_FW_RAISE : Field := ⟨0x10c, 0x0, 1, 15, 0, .wo, [0], none⟩
def F.EVT.HOST_PEND_PEND : Field := ⟨0x110, 0x4, 4, 31, 0, .ro, [0], none⟩
def F.EVT.TASK_OVR_FLAG_OVR : Field := ⟨0x120, 0x4, 8, 31, 0, .rw1c, [0], none⟩
def F.EVT.PROD_CH_A : Field := ⟨0x200, 0x4, 256, 6, 0, .seal, [0], none⟩
def F.EVT.PROD_EN_A : Field := ⟨0x200, 0x4, 256, 7, 7, .seal, [0], none⟩
def F.EVT.PROD_CH_B : Field := ⟨0x200, 0x4, 256, 14, 8, .seal, [0], none⟩
def F.EVT.PROD_EN_B : Field := ⟨0x200, 0x4, 256, 15, 15, .seal, [0], none⟩
def F.EVT.PROD_CH_A1 : Field := ⟨0x200, 0x4, 256, 22, 16, .seal, [0], none⟩
def F.EVT.PROD_EN_A1 : Field := ⟨0x200, 0x4, 256, 23, 23, .seal, [0], none⟩
def F.EVT.PROD_CH_B1 : Field := ⟨0x200, 0x4, 256, 30, 24, .seal, [0], none⟩
def F.EVT.PROD_EN_B1 : Field := ⟨0x200, 0x4, 256, 31, 31, .seal, [0], none⟩
def F.EVT.TASK_CH : Field := ⟨0xf00, 0x4, 64, 6, 0, .seal, [0], none⟩
def F.EVT.TASK_EN : Field := ⟨0xf00, 0x4, 64, 7, 7, .seal, [0], none⟩
def F.EVT.TASK_CH1 : Field := ⟨0xf00, 0x4, 64, 14, 8, .seal, [0], none⟩
def F.EVT.TASK_EN1 : Field := ⟨0xf00, 0x4, 64, 15, 15, .seal, [0], none⟩
def F.EVT.TASK_CH2 : Field := ⟨0xf00, 0x4, 64, 22, 16, .seal, [0], none⟩
def F.EVT.TASK_EN2 : Field := ⟨0xf00, 0x4, 64, 23, 23, .seal, [0], none⟩
def F.EVT.TASK_CH3 : Field := ⟨0xf00, 0x4, 64, 30, 24, .seal, [0], none⟩
def F.EVT.TASK_EN3 : Field := ⟨0xf00, 0x4, 64, 31, 31, .seal, [0], none⟩
def F.EVT.TASK_OVR_CNT_COUNT_LO : Field := ⟨0x600, 0x4, 128, 15, 0, .ro, [0], none⟩
def F.EVT.TASK_OVR_CNT_COUNT_HI : Field := ⟨0x600, 0x4, 128, 31, 16, .ro, [0], none⟩
def F.EVT.CH_CFG_OWNER : Field := ⟨0x800, 0x8, 128, 0, 0, .seal, [1], none⟩
def F.EVT.CH_CFG_SEC : Field := ⟨0x800, 0x8, 128, 1, 1, .seal, [0], none⟩
def F.EVT.CH_CFG_EXPORT : Field := ⟨0x800, 0x8, 128, 4, 2, .seal, [0], none⟩
def F.EVT.CH_CFG_EXPORT_DEV : Field := ⟨0x800, 0x8, 128, 18, 5, .seal, [0], none⟩
def F.EVT.CH_CFG_EXPORT_CH : Field := ⟨0x800, 0x8, 128, 25, 19, .seal, [0], none⟩
def F.EVT.CH_STAT_PEND : Field := ⟨0x804, 0x8, 128, 0, 0, .rw1c, [0], none⟩
def F.EVT.CH_STAT_LAST_SRC : Field := ⟨0x804, 0x8, 128, 9, 1, .ro, [0], none⟩
def F.EVT.CH_STAT_COAL : Field := ⟨0x804, 0x8, 128, 31, 16, .ro, [0], none⟩
def F.EVT.CH_CTL_IRQ_EN : Field := ⟨0xc00, 0x4, 128, 0, 0, .live, [0], none⟩
def F.EVT.CH_CTL_CLR_COAL : Field := ⟨0xc00, 0x4, 128, 1, 1, .wo, [0], none⟩
def F.EVT.GPIO_OUT : Field := ⟨0xe00, 0x4, 16, 0, 0, .seal, [0], none⟩
def F.EVT.GPIO_EDGE : Field := ⟨0xe00, 0x4, 16, 2, 1, .seal, [0], none⟩
def F.EVT.GPIO_POL : Field := ⟨0xe00, 0x4, 16, 3, 3, .seal, [0], none⟩
def F.EVT.GPIO_WIDTH : Field := ⟨0xe00, 0x4, 16, 19, 4, .seal, [1], none⟩
def F.EVT.GPIO_IN_LEVEL : Field := ⟨0xe40, 0x0, 1, 15, 0, .ro, [0], none⟩

/-! ## ERRLOG (R596) -/

def F.ERRLOG.STAT_HELD : Field := ⟨0x100, 0x0, 1, 10, 0, .ro, [0], none⟩
def F.ERRLOG.FLAGS_LOST : Field := ⟨0x104, 0x0, 1, 0, 0, .rw1c, [0], none⟩
def F.ERRLOG.FLAGS_DROP : Field := ⟨0x104, 0x0, 1, 1, 1, .rw1c, [0], none⟩
def F.ERRLOG.CTL_CLEAR_CNT : Field := ⟨0x108, 0x0, 1, 0, 0, .wo, [0], none⟩
def F.ERRLOG.WR_SEQ_SEQ : Field := ⟨0x10c, 0x0, 1, 31, 0, .ro, [0], none⟩
def F.ERRLOG.OLDEST_SEQ_SEQ : Field := ⟨0x110, 0x0, 1, 31, 0, .ro, [0], none⟩
def F.ERRLOG.SEL_SEQ : Field := ⟨0x114, 0x0, 1, 31, 0, .rw, [0], none⟩
def F.ERRLOG.HOST_ACK_SEQ : Field := ⟨0x118, 0x0, 1, 31, 0, .rw, [4294967295], none⟩
def F.ERRLOG.HOST_CFG_IRQ_EN : Field := ⟨0x11c, 0x0, 1, 0, 0, .live, [1], none⟩
def F.ERRLOG.E_WORD : Field := ⟨0x120, 0x4, 8, 31, 0, .ro, [0], none⟩
def F.ERRLOG.SEL_STAT_VALID : Field := ⟨0x140, 0x0, 1, 0, 0, .ro, [0], none⟩
def F.ERRLOG.CNT_LOST_COUNT : Field := ⟨0x150, 0x0, 1, 31, 0, .ro, [0], none⟩
def F.ERRLOG.CNT_DROP_COUNT : Field := ⟨0x154, 0x0, 1, 31, 0, .ro, [0], none⟩
def F.ERRLOG.CNT_SRAM_CE_COUNT : Field := ⟨0x158, 0x0, 1, 31, 0, .ro, [0], none⟩
def F.ERRLOG.CNT_SRAM_UE_COUNT : Field := ⟨0x15c, 0x0, 1, 31, 0, .ro, [0], none⟩

/-! ## CAL (R618) -/

def F.CAL.STAT_JSTATE : Field := ⟨0x100, 0x0, 1, 1, 0, .ro, [0], none⟩
def F.CAL.STAT_BANK : Field := ⟨0x100, 0x0, 1, 2, 2, .ro, [0], none⟩
def F.CAL.STAT_RUN : Field := ⟨0x100, 0x0, 1, 3, 3, .ro, [0], none⟩
def F.CAL.STAT_PROC : Field := ⟨0x100, 0x0, 1, 11, 4, .ro, [0], none⟩
def F.CAL.FLAGS_FULL : Field := ⟨0x104, 0x0, 1, 0, 0, .rw1c, [0], none⟩
def F.CAL.FLAGS_DAMAGED : Field := ⟨0x104, 0x0, 1, 1, 1, .rw1c, [0], none⟩
def F.CAL.FLAGS_COMPACTED : Field := ⟨0x104, 0x0, 1, 2, 2, .rw1c, [0], none⟩
def F.CAL.FLAGS_FAIL : Field := ⟨0x104, 0x0, 1, 3, 3, .rw1c, [0], none⟩
def F.CAL.CFG_COMPACT_PCT : Field := ⟨0x108, 0x0, 1, 6, 0, .seal, [75], none⟩
def F.CAL.JOURNAL_USED : Field := ⟨0x10c, 0x0, 1, 13, 0, .ro, [0], none⟩
def F.CAL.JOURNAL_DAMAGED : Field := ⟨0x10c, 0x0, 1, 29, 16, .ro, [0], none⟩
def F.CAL.GEN_GEN : Field := ⟨0x110, 0x0, 1, 31, 0, .ro, [0], none⟩
def F.CAL.LAST_PROC : Field := ⟨0x114, 0x0, 1, 7, 0, .ro, [0], none⟩
def F.CAL.LAST_TARGET : Field := ⟨0x114, 0x0, 1, 15, 8, .ro, [0], none⟩
def F.CAL.LAST_RESULT : Field := ⟨0x114, 0x0, 1, 23, 16, .ro, [0], none⟩
def F.CAL.LAST_GRADE : Field := ⟨0x114, 0x0, 1, 25, 24, .ro, [0], none⟩
def F.CAL.Q_SEL_PROC : Field := ⟨0x118, 0x0, 1, 7, 0, .rw, [0], none⟩
def F.CAL.Q_SEL_TARGET : Field := ⟨0x118, 0x0, 1, 15, 8, .rw, [0], none⟩
def F.CAL.Q_STAT_VALID : Field := ⟨0x11c, 0x0, 1, 0, 0, .ro, [0], none⟩
def F.CAL.Q_STAT_PASS : Field := ⟨0x11c, 0x0, 1, 1, 1, .ro, [0], none⟩
def F.CAL.Q_STAT_APPLIED : Field := ⟨0x11c, 0x0, 1, 2, 2, .ro, [0], none⟩
def F.CAL.Q_STAT_GRADE : Field := ⟨0x11c, 0x0, 1, 4, 3, .ro, [0], none⟩
def F.CAL.Q_SEQ_SEQ : Field := ⟨0x120, 0x0, 1, 31, 0, .ro, [0], none⟩
def F.CAL.Q_FIG_FIG : Field := ⟨0x124, 0x0, 1, 31, 0, .ro, [0], none⟩
def F.CAL.THM_OFS_OFS : Field := ⟨0x140, 0x4, 24, 7, 0, .rw, [0], none⟩
def F.CAL.TMON_SCALE_SCALE : Field := ⟨0x1a0, 0x4, 25, 15, 0, .rw, [32768], none⟩

/-- The fields of the COMMON register map. -/
def F.COMMON.all : List Field :=
  [F.COMMON.UNIT_STAT_ATTN, F.COMMON.UNIT_STAT_PEND, F.COMMON.UNIT_STAT_POWERED, F.COMMON.COMMIT_BOUNDARY, F.COMMON.COMMIT_CANCEL, F.COMMON.COMMIT_TAG, F.COMMON.COMMIT_STAT_PENDING, F.COMMON.COMMIT_STAT_DONE, F.COMMON.COMMIT_STAT_REFUSED, F.COMMON.COMMIT_STAT_SKEW, F.COMMON.COMMIT_STAT_BOUNDARY, F.COMMON.COMMIT_STAT_CANCELLED, F.COMMON.COMMIT_STAT_TAG, F.COMMON.COMMIT_LINE_LO_VALUE, F.COMMON.COMMIT_LINE_HI_VALUE, F.COMMON.COMMIT_PAGE_VALUE, F.COMMON.STAGE_PEND_COUNT]

/-- The fields of the LOCK register map. -/
def F.LOCK.all : List Field :=
  [F.LOCK.SEM_RESULT, F.LOCK.SEM_HOLDER, F.LOCK.SEM_HOLDER_DEV, F.LOCK.HELD_LO_HELD, F.LOCK.HELD_HI_HELD]

/-- The fields of the SYS register map. -/
def F.SYS.all : List Field :=
  [F.SYS.BOOT_STAT_PHASE, F.SYS.BOOT_STAT_SLOT, F.SYS.BOOT_STAT_FALLBACK, F.SYS.BOOT_STAT_SEALED, F.SYS.BOOT_STAT_DEADLINE, F.SYS.BOOT_CTL_ALIVE, F.SYS.BOOT_CTL_SEAL, F.SYS.BOOT_CTL_DEV_RESET, F.SYS.STRAPS_BOOTSEL, F.SYS.STRAPS_BOARD_ID, F.SYS.LIFECYCLE_STATE, F.SYS.LIFECYCLE_DEBUG_DISABLED, F.SYS.LIFECYCLE_KEY_FUSED, F.SYS.LIFECYCLE_KEY_REVOKED, F.SYS.LIFECYCLE_AQZIA_KEY0_REVOKED, F.SYS.LIFECYCLE_GRADE, F.SYS.LIFECYCLE_ROLLBACK, F.SYS.IMAGE_SEQ_SEQUENCE, F.SYS.IMAGE_RB_ROLLBACK, F.SYS.DEVICE_ID_LO_ID] ++
  [F.SYS.DEVICE_ID_HI_ID, F.SYS.RST_CAUSE_CAUSE, F.SYS.UNIT_FAIL_CORE, F.SYS.UNIT_FAIL_DMC, F.SYS.UNIT_FAIL_HOST, F.SYS.UNIT_FAIL_LPORT, F.SYS.UNIT_FAIL_RING, F.SYS.UNIT_FAIL_CAL, F.SYS.UNIT_FAIL_THM, F.SYS.UNIT_FAIL_LANE_TABLE, F.SYS.UNIT_FAIL_CAMP, F.SYS.SEAL_DEADLINE_MS, F.SYS.BOOT_TIME_US]

/-- The fields of the CLK register map. -/
def F.CLK.all : List Field :=
  [F.CLK.SRC_STAT_ITO_OK, F.CLK.SRC_STAT_WATCH_OK, F.CLK.SRC_STAT_XTAL_OK, F.CLK.SRC_STAT_REF_OK, F.CLK.SRC_STAT_SYS_LOCK, F.CLK.SRC_STAT_DDR_LOCK, F.CLK.SRC_STAT_ON_ITO, F.CLK.SRC_STAT_ARMED, F.CLK.MON_STAT_XTAL_FAIL, F.CLK.MON_STAT_REF_FAIL, F.CLK.MON_STAT_WATCH_FAIL, F.CLK.MON_STAT_PLL_FAIL, F.CLK.MON_STAT_GATE_TIMEOUT, F.CLK.MON_STAT_AVS_FAIL, F.CLK.MON_STAT_TEMPO_SHORT, F.CLK.MON_CFG_XTAL_GRACE_MS, F.CLK.PSTATE_CURRENT, F.CLK.PSTATE_TARGET, F.CLK.PSTATE_CAP, F.CLK.PSTATE_BUSY] ++
  [F.CLK.PSTATE_REQ_REQ, F.CLK.PSTATE_CFG_BOOT, F.CLK.PSTATE_CFG_SLEW, F.CLK.PVOLT_MV, F.CLK.AVS_VOUT_MV, F.CLK.AVS_IOUT_RAW, F.CLK.TMON_CTL_CLEAR_MIN, F.CLK.TMON_TEMPO, F.CLK.TMON_MIN, F.CLK.TMON_GATED, F.CLK.GATE_CLOSE, F.CLK.GATE_OPEN, F.CLK.GATE_IN_USE, F.CLK.GATE_REFUSED, F.CLK.GATE_TIMEOUT]

/-- The fields of the THM register map. -/
def F.THM.all : List Field :=
  [F.THM.STATE_WARN, F.THM.STATE_THROTTLE, F.THM.STATE_ENFORCE, F.THM.STATE_LOW_WARN, F.THM.STATE_REQ, F.THM.STATE_GRACE_DONE, F.THM.FLAGS_WARN, F.THM.FLAGS_THROTTLE, F.THM.FLAGS_ENF_STEP, F.THM.FLAGS_RELAX_STEP, F.THM.FLAGS_LOW_WARN, F.THM.FLAGS_SENSOR, F.THM.FLAGS_STEP_BLOCKED, F.THM.BROKEN_SENSOR, F.THM.HIGH_THR_HIGH_WARN, F.THM.HIGH_THR_THROTTLE, F.THM.HIGH_THR_ENFORCE, F.THM.HIGH_THR_CRITICAL, F.THM.LOW_THR_LOW_WARN, F.THM.LOW_THR_LOW_INHIBIT] ++
  [F.THM.LOW_THR_HYST, F.THM.TIMING_GRACE, F.THM.TIMING_STEP_INT, F.THM.TIMING_RELAX, F.THM.CTL_CLEAR_PEAK, F.THM.ZONE_HIGH, F.THM.ZONE_LOW, F.THM.SENSOR_TEMP, F.THM.SENSOR_BROKEN, F.THM.SENSOR_PEAK]

/-- The fields of the SERDES register map. -/
def F.SERDES.all : List Field :=
  [F.SERDES.PORT_CFG_MODE, F.SERDES.PORT_CFG_MEDIA, F.SERDES.PORT_CFG_TRAIN, F.SERDES.PORT_CFG_FEC, F.SERDES.PORT_STAT_STATE, F.SERDES.PORT_STAT_LANES_UP, F.SERDES.PORT_STAT_RX_INV, F.SERDES.PORT_STAT_RX_ORDER, F.SERDES.PORT_STAT_FEC_LOCK, F.SERDES.PORT_STAT_MISWIRE, F.SERDES.PORT_STAT_NO_TABLE, F.SERDES.PORT_STAT_LOSS_HIGH, F.SERDES.PORT_STAT_DOWN_COUNT, F.SERDES.FEC_COR_COUNT, F.SERDES.FEC_UNC_COUNT, F.SERDES.TABLE_STAT_BOARD_ID, F.SERDES.TABLE_STAT_MATCH, F.SERDES.TABLE_STAT_ENTRIES, F.SERDES.LINK_CFG_HOLDOFF_MS, F.SERDES.LINK_CFG_SID_EYE_MIN] ++
  [F.SERDES.LINK_CFG_SID_LOSS_MAX, F.SERDES.LINK_EVT_CHANGED, F.SERDES.BYPASS_CTL_OPEN, F.SERDES.BYPASS_STAT_OPEN, F.SERDES.BYPASS_STAT_VBYP_OK, F.SERDES.BYPASS_STAT_FORCED, F.SERDES.CTL_CLEAR_CNT]

/-- The fields of the LANE register map. -/
def F.LANE.all : List Field :=
  [F.LANE.STAT_SIG_DET, F.LANE.STAT_CDR_LOCK, F.LANE.STAT_RX_INV, F.LANE.STAT_TX_INV, F.LANE.STAT_TX_LOGICAL, F.LANE.STAT_RX_LOGICAL, F.LANE.STAT_EYE_VALID, F.LANE.STAT_USED, F.LANE.EQ_PRE, F.LANE.EQ_MAIN, F.LANE.EQ_POST, F.LANE.EQ_CTLE, F.LANE.EYE_HEIGHT, F.LANE.EYE_WIDTH, F.LANE.LOSS_EST, F.LANE.SYMERR_COUNT]

/-- The fields of the CAMP register map. -/
def F.CAMP.all : List Field :=
  [F.CAMP.MAC_LO_OCTETS, F.CAMP.MAC_HI_OCTETS, F.CAMP.IPV4_ADDR, F.CAMP.CAM_IPV4_ADDR, F.CAMP.STREAM_CFG_STREAM_EN, F.CAMP.STREAM_CFG_PIXFMT, F.CAMP.STREAM_CFG_ANCHOR, F.CAMP.STREAM_PORT_UDP, F.CAMP.GEOM_WIDTH, F.CAMP.GEOM_PKT_BYTES, F.CAMP.TIMING_TIMEOUT_US, F.CAMP.TIMING_TS_WINDOW_NS, F.CAMP.TS_OFFSET, F.CAMP.TUNNEL_CFG_RX_EN, F.CAMP.STAT_STATE, F.CAMP.STAT_OPEN, F.CAMP.FLAGS_STATE_CHANGE, F.CAMP.FLAGS_FORMAT_MISMATCH, F.CAMP.FLAGS_TS_MISMATCH, F.CAMP.FLAGS_QUEUE_FULL] ++
  [F.CAMP.FLAGS_LOST, F.CAMP.LAST_BLOCK_LO_ID, F.CAMP.LAST_BLOCK_HI_ID, F.CAMP.CTL_CLEAR_CNT, F.CAMP.CNT_LINES_COUNT, F.CAMP.CNT_SHORT_COUNT, F.CAMP.CNT_LONG_COUNT, F.CAMP.CNT_LOST_COUNT, F.CAMP.CNT_LATE_COUNT, F.CAMP.CNT_EXTRA_COUNT, F.CAMP.CNT_PKT_ERR_COUNT, F.CAMP.CNT_GVSP_DROP_COUNT, F.CAMP.CNT_BLOCK_GAP_COUNT, F.CAMP.CNT_LEADER_LOST_COUNT, F.CAMP.CNT_TS_MISS_COUNT, F.CAMP.CNT_TUNNEL_DROP_COUNT]

/-- The fields of the TRIG register map. -/
def F.TRIG.all : List Field :=
  [F.TRIG.CFG_LOW_MIN_NS, F.TRIG.CFG_INVERT, F.TRIG.EPOCH_NUMBER, F.TRIG.FLAGS_CUT, F.TRIG.FLAGS_EPOCH, F.TRIG.FLAGS_LOW_SHORT, F.TRIG.CTL_CLEAR_CNT, F.TRIG.OUT_EN, F.TRIG.OUT_DELAY_NS, F.TRIG.EXPOSE_WIDTH_NS, F.TRIG.CUT_COUNT]

/-- The fields of the TIME register map. -/
def F.TIME.all : List Field :=
  [F.TIME.STATE_STATE, F.TIME.STATE_SEL, F.TIME.STATE_SLEWING, F.TIME.STATE_ON_ITO, F.TIME.STATE_USABLE_A, F.TIME.STATE_USABLE_B, F.TIME.FLAGS_STEP, F.TIME.FLAGS_SWITCH, F.TIME.FLAGS_DISAGREE, F.TIME.FLAGS_HOLDOVER, F.TIME.FLAGS_FREE, F.TIME.FLAGS_TSQ_OVF, F.TIME.DOMAIN_CFG_DOMAIN_A, F.TIME.DOMAIN_CFG_DOMAIN_B, F.TIME.DOMAIN_CFG_PRIMARY, F.TIME.DOMAIN_CFG_REVERT, F.TIME.DOMAIN_CFG_CAM_DOMAIN, F.TIME.DOMAIN_CTL_FORCE, F.TIME.SERVO_CFG_STEP_THR_US, F.TIME.SERVO_CFG_LOCK_NS] ++
  [F.TIME.SERVO_CFG_SLEW, F.TIME.SERVO_CFG_SWITCH_MAX_US, F.TIME.HOLD_CFG_HOLDOVER_S, F.TIME.HOLD_CFG_REVERT_S, F.TIME.CAM_MSG_LOG_SYNC, F.TIME.CAM_MSG_LOG_ANNOUNCE, F.TIME.CAM_MSG_DREQ_LIMIT, F.TIME.RATE_ADJ, F.TIME.STEP_SEC_LO_SEC, F.TIME.STEP_SEC_HI_SEC, F.TIME.STEP_NS_NS, F.TIME.STEP_NS_NEG, F.TIME.STEP_CTL_GO, F.TIME.NOW_LT_LO_VALUE, F.TIME.NOW_LT_HI_VALUE, F.TIME.NOW_SEC_LO_VALUE, F.TIME.NOW_SEC_HI_VALUE, F.TIME.NOW_NS_VALUE, F.TIME.OFFSET_LO_VALUE, F.TIME.OFFSET_HI_VALUE] ++
  [F.TIME.PORTLAT_TX, F.TIME.PORTLAT_RX, F.TIME.DREQ_DROP_COUNT, F.TIME.TSQ_OVF_PORT, F.TIME.ANCHOR_SEQ, F.TIME.TRACK_OFS_NS, F.TIME.TRACK_RATE_ADJ, F.TIME.TSQ_W0_ID, F.TIME.TSQ_W0_MSG_TYPE, F.TIME.TSQ_W0_SEQ_ID, F.TIME.TSQ_W1_NS, F.TIME.TSQ_W2_SEC, F.TIME.TSQ_W3_SEC, F.TIME.TSQ_W3_DOMAIN, F.TIME.TSQ_W3_VALID]

/-- The fields of the LPORT register map. -/
def F.LPORT.all : List Field :=
  [F.LPORT.MAC_LO_OCTETS, F.LPORT.DST_MAC_LO_OCTETS, F.LPORT.MAC_HI_OCTETS, F.LPORT.DST_MAC_HI_OCTETS, F.LPORT.IPV4_ADDR, F.LPORT.DST_IPV4_ADDR, F.LPORT.PTP_CFG_TRANSPORT, F.LPORT.PTP_CFG_ASYM_NS, F.LPORT.TX_CFG_VLAN_EN, F.LPORT.TX_CFG_PCP_A, F.LPORT.TX_CFG_VID, F.LPORT.DST_UDP_DST, F.LPORT.DST_UDP_SRC, F.LPORT.CNT_DROP_COUNT]

/-- The fields of the SENSE register map. -/
def F.SENSE.all : List Field :=
  [F.SENSE.STAT_RUN, F.SENSE.STAT_SETTLING, F.SENSE.BANK_CTL_SEL, F.SENSE.BANK_STAT_ACT, F.SENSE.BANK_STAT_PENDING, F.SENSE.SS_GO_GO, F.SENSE.CH_CFG_MODE, F.SENSE.CH_CFG_USER, F.SENSE.CH_CFG_COMPAT, F.SENSE.CH_CFG_SS_N, F.SENSE.CH_CFG_RECORD_DIV, F.SENSE.CH_VIRT_SRC_CTX, F.SENSE.CH_VIRT_SRC_STAT, F.SENSE.CH_VIRT_SKIP_FLAGGED, F.SENSE.CH_SHIFT_SHIFT1, F.SENSE.CH_SHIFT_SHIFT_HB, F.SENSE.CH_SHIFT_SHIFT_FIN, F.SENSE.CH_LIM_HI_VALUE, F.SENSE.CH_LIM_HI_EN, F.SENSE.CH_LIM_LO_VALUE] ++
  [F.SENSE.CH_LIM_LO_EN, F.SENSE.CH_CAL_OFS_OFS, F.SENSE.CH_CAL_GAIN_GAIN, F.SENSE.CH_VALUE_Z, F.SENSE.CH_VALUE_VALID, F.SENSE.CH_VALUE_SETTLING, F.SENSE.CH_FLAGS_MOD_OVLD, F.SENSE.CH_FLAGS_SAT1, F.SENSE.CH_FLAGS_SAT_HB, F.SENSE.CH_FLAGS_SAT_FIN, F.SENSE.CH_FLAGS_SAT_CAL, F.SENSE.CH_FLAGS_HI, F.SENSE.CH_FLAGS_LO, F.SENSE.CH_FLAGS_STALE, F.SENSE.CH_FLAGS_SS_OVERRUN, F.SENSE.CH_FLAGS_SS_DONE, F.SENSE.CH_SSOVR_COUNT, F.SENSE.BANK0_COEF, F.SENSE.BANK1_COEF]

/-- The fields of the WEB register map. -/
def F.WEB.all : List Field :=
  [F.WEB.CFG_SRC, F.WEB.OBS_CFG_BW_HZ, F.WEB.OBS_CFG_CREEP_UM_S, F.WEB.LINE_PITCH_PM, F.WEB.TRIG_CFG_MIN_PERIOD_NS, F.WEB.PAGE_CFG_MODE, F.WEB.PAGE_CFG_SYNC_FILT, F.WEB.PAGE_OFFSET_UM, F.WEB.PAGE_MIN_LINES, F.WEB.PAGE_MAX_LINES, F.WEB.CTL_CLEAR_CNT, F.WEB.STATE_OBS, F.WEB.STATE_DIR, F.WEB.STATE_TRIG_OK, F.WEB.STATE_POS_SUSPECT, F.WEB.STATE_PEND, F.WEB.FLAGS_COAST, F.WEB.FLAGS_FAULT, F.WEB.FLAGS_OVERSPEED, F.WEB.FLAGS_SKIP] ++
  [F.WEB.FLAGS_SYNC_SHORT, F.WEB.FLAGS_SYNC_MISSING, F.WEB.FLAGS_SYNC_OVF, F.WEB.FLAGS_QUAD_ERR, F.WEB.FLAGS_POS_SUSPECT, F.WEB.POS_LO_VALUE, F.WEB.POS_HI_VALUE, F.WEB.HWM_LO_VALUE, F.WEB.HWM_HI_VALUE, F.WEB.SPEED_UM_S, F.WEB.ACCEL_MM_S2, F.WEB.LINE_LO_VALUE, F.WEB.LINE_HI_VALUE, F.WEB.PAGE_VALUE, F.WEB.PAGE_LINE_VALUE, F.WEB.CNT_SKIP_COUNT, F.WEB.CNT_SYNC_IGN_COUNT, F.WEB.CNT_OVERSPEED_COUNT, F.WEB.ENC_CFG_INVERT, F.WEB.ENC_CFG_AMP_LO] ++
  [F.WEB.ENC_CFG_AMP_HI, F.WEB.ENC_PITCH_PM, F.WEB.ENC_CAL0_SIN_OFS, F.WEB.ENC_CAL0_COS_OFS, F.WEB.ENC_CAL1_COS_GAIN, F.WEB.ENC_CAL1_PHASE, F.WEB.ENC_STAT_AMP, F.WEB.ENC_STAT_LOS, F.WEB.ENC_STAT_FAULT, F.WEB.ENC_STAT_Z_COUNT, F.WEB.ENC_SPEED_UM_S, F.WEB.ENC_ZPOS_LO_VALUE, F.WEB.ENC_ZPOS_HI_VALUE, F.WEB.ENC_QERR_COUNT]

/-- The fields of the STRIP register map. -/
def F.STRIP.all : List Field :=
  [F.STRIP.STAT_ACTIVE, F.STRIP.STAT_QUEUED, F.STRIP.LOAD_LOAD, F.STRIP.LOAD_PEAK, F.STRIP.WAIT_MAX_NS, F.STRIP.CTL_CLEAR_PEAK]

/-- The fields of the CTX register map. -/
def F.CTX.all : List Field :=
  [F.CTX.SRC_EN, F.CTX.SRC_CAMP, F.CTX.SRC_HALO_L, F.CTX.SRC_HALO_R, F.CTX.SPAN_COL_FIRST, F.CTX.SPAN_COL_COUNT, F.CTX.FMT_PIXFMT, F.CTX.FMT_WIDTH, F.CTX.FILL_VALUE, F.CTX.NR_CFG_SP_EN, F.CTX.NR_CFG_TP_EN, F.CTX.NR_CFG_DEF_EXCL, F.CTX.NR_CFG_TW0, F.CTX.NR_CFG_TW1, F.CTX.NR_CFG_TW2, F.CTX.NR_CFG_TW3, F.CTX.NR_CFG_TW4, F.CTX.NR_THR_THR_LO, F.CTX.NR_THR_THR_HI, F.CTX.BLACK_OFS] ++
  [F.CTX.FF_GAIN_01_G0, F.CTX.FF_GAIN_01_G1, F.CTX.FF_GAIN_2_G2, F.CTX.TABLE_BANK, F.CTX.TABLE_USE, F.CTX.TBL_ADDR_WORD, F.CTX.TBL_ADDR_BANK, F.CTX.TBL_ADDR_AUTO_INC, F.CTX.TBL_DATA_WORD, F.CTX.STAT_WIN_FIRST, F.CTX.STAT_WIN_COUNT, F.CTX.STAT_CFG_SKIP_CUT, F.CTX.STAT_CFG_REC_EN, F.CTX.STAT_CFG_F0_EN, F.CTX.STAT_CFG_F1_EN, F.CTX.FLK_F0_CHZ, F.CTX.FLK_F1_CHZ, F.CTX.STAT_ACTIVE, F.CTX.STAT_BANK_ACT, F.CTX.STAT_BANK_PEND] ++
  [F.CTX.FLAGS_SAT, F.CTX.FLAGS_DEF_NOSRC, F.CTX.FLAGS_NONADJ, F.CTX.FLAGS_TBL_REFUSED, F.CTX.FLAGS_EPOCH_SPLIT, F.CTX.LSTAT_01_EVEN, F.CTX.LSTAT_23_EVEN, F.CTX.LSTAT_45_EVEN, F.CTX.LSTAT_67_EVEN, F.CTX.LSTAT_01_ODD, F.CTX.LSTAT_23_ODD, F.CTX.LSTAT_45_ODD, F.CTX.LSTAT_67_ODD, F.CTX.CNT_LINES_COUNT, F.CTX.CNT_SAT_PIX_COUNT, F.CTX.CNT_NOSRC_COUNT, F.CTX.CNT_NONADJ_COUNT, F.CTX.CNT_REC_COUNT, F.CTX.CTL_CLEAR_CNT, F.CTX.GEO_CFG_KERNEL] ++
  [F.CTX.GEO_CFG_VINT, F.CTX.GEO_CFG_GEO_BANK, F.CTX.GEO_CFG_GEO_IDENT, F.CTX.GEO_CFG_LIN_BANK, F.CTX.GEO_CFG_LIN_USE, F.CTX.GEO_PROD_COUNT, F.CTX.GEO_KEEP_FIRST, F.CTX.GEO_KEEP_COUNT, F.CTX.GEO_OUT_FIRST, F.CTX.GEO_ADDR_WORD, F.CTX.GEO_ADDR_TABLE, F.CTX.GEO_ADDR_BANK, F.CTX.GEO_ADDR_AUTO_INC, F.CTX.GEO_DATA_WORD, F.CTX.COL_M0_M00, F.CTX.COL_M0_M01, F.CTX.COL_M1_M02, F.CTX.COL_M1_M10, F.CTX.COL_M2_M11, F.CTX.COL_M2_M12] ++
  [F.CTX.COL_M3_M20, F.CTX.COL_M3_M21, F.CTX.COL_M4_M22, F.CTX.GC_STAT_GEO_BANK_ACT, F.CTX.GC_STAT_LIN_BANK_ACT, F.CTX.GC_STAT_BANK_PEND, F.CTX.GC_FLAGS_LAB_SAT, F.CTX.GC_FLAGS_REFUSED, F.CTX.CNT_LAB_SAT_COUNT]

/-- The fields of the STITCH register map. -/
def F.STITCH.all : List Field :=
  [F.STITCH.CFG_WIDTH, F.STITCH.CFG_MODE, F.STITCH.RING_CFG_LEFT_PORT, F.STITCH.RING_CFG_RIGHT_PORT, F.STITCH.RING_CFG_MODE_L, F.STITCH.RING_CFG_OVL_L, F.STITCH.RING_CFG_OVL_R, F.STITCH.COL_BASE_BASE, F.STITCH.RING_WAIT_WAIT_US, F.STITCH.STAT_OPEN, F.STITCH.STAT_OVL_WAIT, F.STITCH.FLAGS_SEAM_MISS, F.STITCH.FLAGS_GAP, F.STITCH.FLAGS_LATE_OVL, F.STITCH.FLAGS_STRAY, F.STITCH.CTL_CLEAR_CNT, F.STITCH.CNT_LINES_COUNT, F.STITCH.CNT_SEAM_MISS_COUNT, F.STITCH.CNT_GAP_COUNT, F.STITCH.CNT_LATE_OVL_COUNT] ++
  [F.STITCH.CNT_STRAY_COUNT, F.STITCH.SEAM_MEAN_DL, F.STITCH.SEAM_RING_MEAN_DL, F.STITCH.SEAM_MEAN_ABS, F.STITCH.SEAM_RING_MEAN_ABS]

/-- The fields of the REFS register map. -/
def F.REFS.all : List Field :=
  [F.REFS.REGION_BASE_CHUNK, F.REFS.REGION_SIZE_CHUNKS, F.REFS.CFG_EN, F.REFS.STAT_ENTRIES, F.REFS.STAT_FREE_CHUNKS, F.REFS.FLAGS_NO_JOB, F.REFS.FLAGS_UNKNOWN, F.REFS.FLAGS_NOT_READY, F.REFS.FLAGS_LATE, F.REFS.FLAGS_EVICT, F.REFS.FLAGS_OVERRUN, F.REFS.CUR_PAGE_VALUE, F.REFS.CUR_JOB_VALUE, F.REFS.CUR_HANDLE_VALUE, F.REFS.CTL_CLEAR_CNT, F.REFS.CNT_BOUND_COUNT, F.REFS.CNT_NO_JOB_COUNT, F.REFS.CNT_UNKNOWN_COUNT, F.REFS.CNT_NOT_READY_COUNT, F.REFS.CNT_LATE_COUNT] ++
  [F.REFS.CNT_EVICT_COUNT, F.REFS.CNT_OVERRUN_COUNT, F.REFS.LOAD_STAT_OPEN, F.REFS.LOAD_STAT_ENC, F.REFS.LOAD_BYTES_COUNT]

/-- The fields of the CODEC register map. -/
def F.CODEC.all : List Field :=
  [F.CODEC.CFG_Q_MAX, F.CODEC.STAT_ENC_SLOT, F.CODEC.STAT_ENC_BUSY, F.CODEC.STAT_BANDS, F.CODEC.FLAGS_FLAT, F.CODEC.FLAGS_DEGRADED, F.CODEC.FLAGS_MALFORMED, F.CODEC.CTL_CLEAR_CNT, F.CODEC.CNT_ENC_COUNT, F.CODEC.CNT_DEC_COUNT, F.CODEC.CNT_FLAT_COUNT, F.CODEC.CNT_DEGRADED_COUNT, F.CODEC.CNT_MALFORMED_COUNT, F.CODEC.SWITCH_COUNT, F.CODEC.QHIST_COUNT]

/-- The fields of the TANGO register map. -/
def F.TANGO.all : List Field :=
  [F.TANGO.CFG_EN, F.TANGO.CFG_SX, F.TANGO.CFG_SY, F.TANGO.CFG_SX_ACQ, F.TANGO.CONF_CONF_MIN, F.TANGO.CONF_CONF_ACQ, F.TANGO.CONF_ACQ_N, F.TANGO.CONF_LOSS_N, F.TANGO.CONF_KAPPA_MIN, F.TANGO.FLAT_FLAT_L, F.TANGO.FLAT_FLAT_AB, F.TANGO.ROW_CFG_S0, F.TANGO.ROW_CFG_MED_MIN, F.TANGO.PAGE_CFG_LEN_TOL, F.TANGO.PAGE_CFG_PAGE_REC, F.TANGO.PAGE_CFG_ROW_DIV, F.TANGO.TIMING_FLUSH_US, F.TANGO.STAT_LOCKED, F.TANGO.STAT_HELD, F.TANGO.FLAGS_SHORT_PAGE] ++
  [F.TANGO.FLAGS_LONG_PAGE, F.TANGO.FLAGS_LOCK_LOSS, F.TANGO.FLAGS_FLUSH, F.TANGO.FLAGS_LATE_LINE, F.TANGO.FLAGS_STORE_FULL, F.TANGO.ROW_S, F.TANGO.LAST_TAIL_TAIL, F.TANGO.CTL_CLEAR_CNT, F.TANGO.CNT_BLOCKS_COUNT, F.TANGO.CNT_MEASURED_COUNT, F.TANGO.CNT_FLAT_COUNT, F.TANGO.CNT_UNREF_COUNT, F.TANGO.CNT_LOCK_LOSS_COUNT, F.TANGO.CNT_FLUSH_COUNT, F.TANGO.CNT_LATE_LINE_COUNT, F.TANGO.CNT_MISMATCH_COUNT]

/-- The fields of the SEG register map. -/
def F.SEG.all : List Field :=
  [F.SEG.CFG_EN, F.SEG.CFG_DEF_PROFILE, F.SEG.SNIP_CFG_W64, F.SEG.SNIP_CFG_H, F.SEG.SNIP_CFG_PRE, F.SEG.SNIP_CFG_MAX_OPEN, F.SEG.MAP_BASE_CHUNK, F.SEG.MAP_SIZE_CHUNKS, F.SEG.SUB_MEAS_LAB, F.SEG.SUB_USED_LAB, F.SEG.STAT_OPEN, F.SEG.STAT_WINDOWS, F.SEG.STAT_MAPS, F.SEG.FLAGS_FORCED, F.SEG.FLAGS_MAP_MISSING, F.SEG.FLAGS_NOSNIP, F.SEG.CUR_MAP_MAP_ID, F.SEG.CTL_CLEAR_CNT, F.SEG.CNT_COMP_COUNT, F.SEG.CNT_DISCARD_COUNT] ++
  [F.SEG.CNT_FORCED_COUNT, F.SEG.CNT_SPLIT_COUNT, F.SEG.CNT_CUT_COUNT, F.SEG.CNT_NOSNIP_COUNT, F.SEG.CNT_MAP_MISSING_COUNT, F.SEG.CNT_UNREF_COMP_COUNT, F.SEG.PROF_CFG_FORM, F.SEG.PROF_CFG_SUB_AUTO, F.SEG.PROF_CFG_DEF_ZONE, F.SEG.PROF_CFG_MIN_AREA, F.SEG.PROF_SUB_LAB, F.SEG.PROF_LIM_MAX_LINES, F.SEG.PROF_LIM_SUB_TOL, F.SEG.ZONE_REF_T_LO, F.SEG.ZONE_REF_T_HI, F.SEG.ZONE_UNREF_TU_LO, F.SEG.ZONE_UNREF_TU_HI]

/-- The fields of the TAG register map. -/
def F.TAG.all : List Field :=
  [F.TAG.CFG_MAX_PER_BLOCK, F.TAG.CFG_OVF_CLASS, F.TAG.DEFAULT_CLASS, F.TAG.DEFAULT_ACTIONS, F.TAG.ALERT_CFG_PULSE_US, F.TAG.STAT_MERGING, F.TAG.FLAGS_OVERFLOW, F.TAG.FLAGS_LPORT_DROP, F.TAG.FLAGS_SEQ_RESTART, F.TAG.SEQ_VALUE, F.TAG.LOCAL_VALUE, F.TAG.CTL_CLEAR_CNT, F.TAG.CNT_TAGS_COUNT, F.TAG.CNT_FOLDED_COUNT, F.TAG.CNT_LPORT_COUNT, F.TAG.CNT_LPORT_DROP_COUNT, F.TAG.CNT_DEFAULT_COUNT, F.TAG.RULE_W0_AREA_MIN, F.TAG.RULE_W1_AREA_MAX, F.TAG.RULE_W2_DE_MAX_MIN] ++
  [F.TAG.RULE_W2_DE_MEAN_MIN, F.TAG.RULE_W3_WIDTH_MIN, F.TAG.RULE_W3_WIDTH_MAX, F.TAG.RULE_W4_HEIGHT_MIN, F.TAG.RULE_W4_HEIGHT_MAX, F.TAG.RULE_W5_FLAG_MASK, F.TAG.RULE_W5_FLAG_VAL, F.TAG.RULE_W6_ZONES, F.TAG.RULE_W6_POLARITY, F.TAG.RULE_W6_CLASS, F.TAG.RULE_W7_ACTIONS, F.TAG.RULE_W7_EN, F.TAG.CLASS_COUNT]

/-- The fields of the LATGOV register map. -/
def F.LATGOV.all : List Field :=
  [F.LATGOV.CFG_EN, F.LATGOV.CFG_RELAX_MS, F.LATGOV.STAT_LEVEL, F.LATGOV.STAT_AREA, F.LATGOV.STAT_TEMPO_LOW, F.LATGOV.STAT_PREDICT, F.LATGOV.STAT_RING_HOLD, F.LATGOV.STAT_CFG_FLOOR, F.LATGOV.FLAGS_TEMPO_LOW, F.LATGOV.FLAGS_SHED_C, F.LATGOV.FLAGS_SHED_B, F.LATGOV.FLAGS_SPARSE, F.LATGOV.FLAGS_SHORT, F.LATGOV.FLAGS_OVER, F.LATGOV.FLAGS_RING_HOLD, F.LATGOV.CTL_CLEAR_CNT, F.LATGOV.LP_MIN_NS, F.LATGOV.LAT_LAST_NS, F.LATGOV.LAT_MAX_NS, F.LATGOV.LAT_LIM_NS] ++
  [F.LATGOV.LAT_MAX_SEQ_SEQ, F.LATGOV.CNT_LOW_WIN_COUNT, F.LATGOV.CNT_ROWS_IN_COUNT, F.LATGOV.CNT_ROWS_OUT_COUNT, F.LATGOV.CNT_SHED_B_COUNT, F.LATGOV.CNT_SHED_C_COUNT, F.LATGOV.CNT_OVER_COUNT, F.LATGOV.CNT_UNCOVERED_COUNT, F.LATGOV.PCFG_FLOOR, F.LATGOV.PCFG_RATE_STRIP, F.LATGOV.PCFG_C_OFF, F.LATGOV.PCFG_B_OFF, F.LATGOV.W_WORK, F.LATGOV.B_WORK, F.LATGOV.C_WORK, F.LATGOV.OVH_NS, F.LATGOV.OVH_ROW]

/-- The fields of the AXIS register map. -/
def F.AXIS.all : List Field :=
  [F.AXIS.CFG_EN, F.AXIS.CFG_PERIOD_US, F.AXIS.CFG_RESP_US, F.AXIS.CFG_LINK_LOSS_N, F.AXIS.CFG_DRIVE_ADDR, F.AXIS.SEL_MARK_EN, F.AXIS.SEL_LATE_MODE, F.AXIS.SEL_FIRE_SRC, F.AXIS.CLASS_LO_MASK, F.AXIS.CLASS_HI_MASK, F.AXIS.XMAP_ORG_NM, F.AXIS.XMAP_PITCH_PM, F.AXIS.XMAP_COL0_COL, F.AXIS.STATION_DIST_UM, F.AXIS.VLIM_MIN_NM, F.AXIS.VLIM_MAX_NM, F.AXIS.LIM_V_UM_S, F.AXIS.LIM_A_MM_S2, F.AXIS.LIM_J_M_S3, F.AXIS.LIM_STOP_MM_S2] ++
  [F.AXIS.MARK_CFG_WIDTH_US, F.AXIS.MARK_DELAY_NS, F.AXIS.MERGE_DOWN_UM, F.AXIS.MERGE_CROSS_UM, F.AXIS.TOL_IN_POS_UM, F.AXIS.TOL_FE_MAX_UM, F.AXIS.TOL_HOME_S, F.AXIS.CTL_HOME, F.AXIS.CTL_STOP, F.AXIS.CTL_RESUME, F.AXIS.CTL_CLEAR_FAULT, F.AXIS.CTL_CLEAR_CNT, F.AXIS.STAT_STATE, F.AXIS.STAT_QUEUED, F.AXIS.STAT_PLANNING, F.AXIS.STAT_CAUSE, F.AXIS.FLAGS_FAULT, F.AXIS.FLAGS_LIMIT, F.AXIS.FLAGS_LATE, F.AXIS.FLAGS_PRED_LATE] ++
  [F.AXIS.FLAGS_POS_LOST, F.AXIS.CMD_POS_NM, F.AXIS.ACT_POS_NM, F.AXIS.HEAD_X_NM, F.AXIS.DRIVE_STATUS, F.AXIS.DRIVE_CODE, F.AXIS.CNT_FIRED_COUNT, F.AXIS.CNT_LATE_COUNT, F.AXIS.CNT_REFUSED_COUNT, F.AXIS.CNT_MERGED_COUNT, F.AXIS.CNT_CANCEL_COUNT, F.AXIS.CNT_OUTSIDE_COUNT, F.AXIS.CNT_LINK_ERR_COUNT]

/-- The fields of the DMC register map. -/
def F.DMC.all : List Field :=
  [F.DMC.CFG_ECC_EN, F.DMC.CFG_RANKS, F.DMC.CFG_DENSITY, F.DMC.CAP_CHUNKS, F.DMC.RSV_SNIP, F.DMC.RSV_STAT, F.DMC.RSV_ARCH, F.DMC.RSV_BASE0_SNIP_BASE, F.DMC.RSV_BASE0_STAT_BASE, F.DMC.RSV_BASE1_ARCH_BASE, F.DMC.CH_XOR_MASK, F.DMC.BK_XOR_MASK, F.DMC.PAGE_OPEN, F.DMC.PAGE_IDLE_CLOSE_NS, F.DMC.WQ_HIGH, F.DMC.WQ_LOW, F.DMC.PWR_SR_IDLE_US, F.DMC.RETRAIN_CHECK_MS, F.DMC.RETRAIN_DRIFT_PS, F.DMC.SCRUB_HOURS] ++
  [F.DMC.TARGET_NS, F.DMC.STAT_STATE, F.DMC.STAT_RATE, F.DMC.STAT_FSP, F.DMC.FLAGS_UE, F.DMC.FLAGS_CE, F.DMC.FLAGS_RETRAIN_FAIL, F.DMC.FLAGS_TRAIN_FAIL, F.DMC.FLAGS_HOT, F.DMC.CTL_CLEAR_CNT, F.DMC.WIPE_GIB, F.DMC.WIPE_DONE, F.DMC.UE_ADDR_LO_ADDR, F.DMC.UE_ADDR_HI_ADDR, F.DMC.CNT_CE_COUNT, F.DMC.CNT_UE_COUNT, F.DMC.CNT_RETRAIN_COUNT, F.DMC.CNT_RETRAIN_FAIL_COUNT, F.DMC.CNT_DRAIN_COUNT, F.DMC.CNT_SR_COUNT] ++
  [F.DMC.CH_STAT_STATE, F.DMC.CH_STAT_MR4, F.DMC.CH_STAT_RETRAINS, F.DMC.REQ_LAT_MAX_NS]

/-- The fields of the HOST register map. -/
def F.HOST.all : List Field :=
  [F.HOST.LINK_SPEED, F.HOST.LINK_WIDTH, F.HOST.LINK_UP, F.HOST.LINK_D3, F.HOST.SUBSYS_VID, F.HOST.SUBSYS_DID, F.HOST.IRQ_STAT_RUNNING, F.HOST.IRQ_STAT_UNIT_FAIL, F.HOST.IRQ_STAT_ARCH_FULL, F.HOST.IRQ_STAT_DROP, F.HOST.IRQ_MASK_MASK, F.HOST.STR_CFG_FLUSH_US, F.HOST.STR_STAT_WAITING, F.HOST.STR_STAT_SERVED, F.HOST.ARCH_CFG_EN, F.HOST.ARCH_CFG_RATIO, F.HOST.ARCH_CFG_DIV, F.HOST.TAGS_IN_USE, F.HOST.TAGS_PEAK, F.HOST.CTL_CLEAR_CNT] ++
  [F.HOST.STR_DROP_COUNT, F.HOST.CNT_LINK_DOWN_COUNT, F.HOST.CNT_ARCH_COUNT]

/-- The fields of the MBXB register map. -/
def F.MBXB.all : List Field :=
  [F.MBXB.H2F_DATA, F.MBXB.F2H_DATA, F.MBXB.WSTAT_H2F_FULL, F.MBXB.WSTAT_F2H_FULL, F.MBXB.MFLAGS_OVERRUN, F.MBXB.MFLAGS_ABORTED, F.MBXB.CNT_OVERRUN_COUNT, F.MBXB.DB_RING_RING, F.MBXB.DB_PEND_PEND, F.MBXB.BLK_CTL_LENGTH, F.MBXB.BLK_CTL_GO]

/-- The fields of the MBX register map. -/
def F.MBX.all : List Field :=
  [F.MBX.FW_STAT_H2F_FULL, F.MBX.FW_STAT_F2H_FULL, F.MBX.FW_FLAGS_HOST_RESET, F.MBX.FW_FLAGS_RING_ABORTED, F.MBX.QUEUE_HELD, F.MBX.QUEUE_LONG, F.MBX.CTL_CLEAR_CNT, F.MBX.CNT_REQ_COUNT, F.MBX.CNT_NOT_OK_COUNT, F.MBX.CNT_ABORTED_COUNT, F.MBX.DB_CFG_NODE]

/-- The fields of the RING register map. -/
def F.RING.all : List Field :=
  [F.RING.CFG_EN, F.RING.CFG_POS, F.RING.CFG_SIZE, F.RING.CFG_MERGE_PRIO, F.RING.CFG_POS_SRC, F.RING.NEST_POS2, F.RING.NEST_SIZE2, F.RING.NEST_POS3, F.RING.NEST_SIZE3, F.RING.UPL_CFG_LEVEL, F.RING.UPL_CFG_SIDE, F.RING.TIMING_REEL_US, F.RING.TIMING_RETRY_S, F.RING.STAT_STATE, F.RING.STAT_SEGMENTED, F.RING.STAT_POS_OK, F.RING.STAT_LIVE, F.RING.STAT_HOPS_MERGE, F.RING.FLAGS_ENUM, F.RING.FLAGS_INSERT_FAIL] ++
  [F.RING.FLAGS_DUP, F.RING.FLAGS_SPLIT, F.RING.FLAGS_CFG_MISMATCH, F.RING.FLAGS_LINK_FAIL, F.RING.FLAGS_POS_LOST, F.RING.FLAGS_TRIG_LATE, F.RING.FLAGS_POS_CONFLICT, F.RING.ENUM_EPOCH, F.RING.ENUM_INITIATOR, F.RING.LINKS_WEST_USED, F.RING.LINKS_EAST_USED, F.RING.LINKS_UPL_USED, F.RING.LINKS_DARK_W, F.RING.LINKS_DARK_E, F.RING.MEMBERS_LIVE, F.RING.NEIGH_WEST, F.RING.NEIGH_W_VALID, F.RING.NEIGH_EAST, F.RING.NEIGH_E_VALID, F.RING.MERGE_1_ADDR] ++
  [F.RING.MERGE_2_ADDR, F.RING.MERGE_3_ADDR, F.RING.MERGE_1_VALID, F.RING.MERGE_2_VALID, F.RING.MERGE_3_VALID, F.RING.POSSRC_ADDR, F.RING.POSSRC_VALID, F.RING.POSSRC_HOPS, F.RING.POS_OFS_LO_NS, F.RING.POS_OFS_HI_NS, F.RING.SEQ_SEEN_SEQ, F.RING.CTL_CLEAR_CNT, F.RING.CNT_ENUM_COUNT, F.RING.CNT_RETRY_COUNT, F.RING.CNT_LINK_FAIL_COUNT, F.RING.CNT_HOLD_COUNT, F.RING.CNT_TRIG_LATE_COUNT, F.RING.CNT_MISROUTE_COUNT]

/-- The fields of the EVT register map. -/
def F.EVT.all : List Field :=
  [F.EVT.FLAGS_COAL, F.EVT.FLAGS_OVERRUN, F.EVT.FLAGS_EXPORT_DROP, F.EVT.FLAGS_IMPORT_REFUSED, F.EVT.CTL_CLEAR_CNT, F.EVT.SW_HOST_RAISE, F.EVT.SW_FW_RAISE, F.EVT.HOST_PEND_PEND, F.EVT.TASK_OVR_FLAG_OVR, F.EVT.PROD_CH_A, F.EVT.PROD_EN_A, F.EVT.PROD_CH_B, F.EVT.PROD_EN_B, F.EVT.PROD_CH_A1, F.EVT.PROD_EN_A1, F.EVT.PROD_CH_B1, F.EVT.PROD_EN_B1, F.EVT.TASK_CH, F.EVT.TASK_EN, F.EVT.TASK_CH1] ++
  [F.EVT.TASK_EN1, F.EVT.TASK_CH2, F.EVT.TASK_EN2, F.EVT.TASK_CH3, F.EVT.TASK_EN3, F.EVT.TASK_OVR_CNT_COUNT_LO, F.EVT.TASK_OVR_CNT_COUNT_HI, F.EVT.CH_CFG_OWNER, F.EVT.CH_CFG_SEC, F.EVT.CH_CFG_EXPORT, F.EVT.CH_CFG_EXPORT_DEV, F.EVT.CH_CFG_EXPORT_CH, F.EVT.CH_STAT_PEND, F.EVT.CH_STAT_LAST_SRC, F.EVT.CH_STAT_COAL, F.EVT.CH_CTL_IRQ_EN, F.EVT.CH_CTL_CLR_COAL, F.EVT.GPIO_OUT, F.EVT.GPIO_EDGE, F.EVT.GPIO_POL] ++
  [F.EVT.GPIO_WIDTH, F.EVT.GPIO_IN_LEVEL]

/-- The fields of the ERRLOG register map. -/
def F.ERRLOG.all : List Field :=
  [F.ERRLOG.STAT_HELD, F.ERRLOG.FLAGS_LOST, F.ERRLOG.FLAGS_DROP, F.ERRLOG.CTL_CLEAR_CNT, F.ERRLOG.WR_SEQ_SEQ, F.ERRLOG.OLDEST_SEQ_SEQ, F.ERRLOG.SEL_SEQ, F.ERRLOG.HOST_ACK_SEQ, F.ERRLOG.HOST_CFG_IRQ_EN, F.ERRLOG.E_WORD, F.ERRLOG.SEL_STAT_VALID, F.ERRLOG.CNT_LOST_COUNT, F.ERRLOG.CNT_DROP_COUNT, F.ERRLOG.CNT_SRAM_CE_COUNT, F.ERRLOG.CNT_SRAM_UE_COUNT]

/-- The fields of the CAL register map. -/
def F.CAL.all : List Field :=
  [F.CAL.STAT_JSTATE, F.CAL.STAT_BANK, F.CAL.STAT_RUN, F.CAL.STAT_PROC, F.CAL.FLAGS_FULL, F.CAL.FLAGS_DAMAGED, F.CAL.FLAGS_COMPACTED, F.CAL.FLAGS_FAIL, F.CAL.CFG_COMPACT_PCT, F.CAL.JOURNAL_USED, F.CAL.JOURNAL_DAMAGED, F.CAL.GEN_GEN, F.CAL.LAST_PROC, F.CAL.LAST_TARGET, F.CAL.LAST_RESULT, F.CAL.LAST_GRADE, F.CAL.Q_SEL_PROC, F.CAL.Q_SEL_TARGET, F.CAL.Q_STAT_VALID, F.CAL.Q_STAT_PASS] ++
  [F.CAL.Q_STAT_APPLIED, F.CAL.Q_STAT_GRADE, F.CAL.Q_SEQ_SEQ, F.CAL.Q_FIG_FIG, F.CAL.THM_OFS_OFS, F.CAL.TMON_SCALE_SCALE]

/-- The fields of the DMA register map. -/
def F.DMA.all : List Field :=
  [F.DMA.CFG_NOACK_MS, F.DMA.FLAGS_FAILED, F.DMA.FLAGS_CHAIN_LIMIT, F.DMA.FLAGS_NOACK, F.DMA.FLAGS_LATE_RSP, F.DMA.ABORT_LO_CH, F.DMA.ABORT_HI_CH, F.DMA.CTL_CLEAR_CNT, F.DMA.CNT_LATE_RSP_COUNT, F.DMA.CNT_FAILED_COUNT, F.DMA.CH_CTL_GO, F.DMA.CH_CTL_STOP, F.DMA.CH_CTL_REARM, F.DMA.CH_SH_LO_ADDR, F.DMA.CH_SH_HI_ADDR, F.DMA.CH_CFG_CHAIN_LIMIT, F.DMA.CH_CFG_DESC_SPACE, F.DMA.CH_CFG_TAG_MAX, F.DMA.PCH_CTL_GO, F.DMA.PCH_CTL_SRC_SPACE] ++
  [F.DMA.PCH_CTL_DST_SPACE, F.DMA.PCH_CTL_HINT_OVR, F.DMA.PCH_CTL_HINT, F.DMA.PCH_SRC_LO_ADDR, F.DMA.PCH_SRC_HI_ADDR, F.DMA.PCH_DST_LO_ADDR, F.DMA.PCH_DST_HI_ADDR, F.DMA.CH_STAT_STATE, F.DMA.CH_STAT_STATUS, F.DMA.CH_STAT_STOP_CAUSE, F.DMA.CH_STAT_PEND, F.DMA.CH_STAT_SEQ, F.DMA.CH_CUR_LO_ADDR, F.DMA.CH_CUR_HI_ADDR, F.DMA.CH_COUNT_COUNT, F.DMA.PCH_COUNT_COUNT]

/-- The register map of a unit type beyond the common registers. -/
def UnitType.map : UnitType → List Field
  | .device => []
  | .sys => F.SYS.all
  | .clk => F.CLK.all
  | .thm => F.THM.all
  | .serdes => F.SERDES.all
  | .lane => F.LANE.all
  | .camp => F.CAMP.all
  | .time => F.TIME.all
  | .trig => F.TRIG.all
  | .sense => F.SENSE.all
  | .web => F.WEB.all
  | .lport => F.LPORT.all
  | .strip => F.STRIP.all
  | .ctx => F.CTX.all
  | .stitch => F.STITCH.all
  | .refs => F.REFS.all
  | .codec => F.CODEC.all
  | .tango => F.TANGO.all
  | .seg => F.SEG.all
  | .tag => F.TAG.all
  | .latgov => F.LATGOV.all
  | .axis => F.AXIS.all
  | .dmc => F.DMC.all
  | .host => F.HOST.all
  | .dma => F.DMA.all
  | .mbx => F.MBX.all
  | .mbxBar2 => F.MBXB.all
  | .ring => F.RING.all
  | .evt => F.EVT.all
  | .errlog => F.ERRLOG.all
  | .cal => F.CAL.all
  | .lock => F.LOCK.all

/-- FIELDS of a unit type's descriptor (R649): named rows of the field tables, each counted once;
the BAR2 registers count in MBX. -/
def UnitType.fieldCount : UnitType → Nat
  | .device => 0
  | .sys => 33
  | .clk => 35
  | .thm => 30
  | .serdes => 27
  | .lane => 16
  | .camp => 25
  | .time => 52
  | .trig => 11
  | .sense => 38
  | .web => 48
  | .lport => 11
  | .strip => 6
  | .ctx => 79
  | .stitch => 19
  | .refs => 17
  | .codec => 9
  | .tango => 29
  | .seg => 30
  | .tag => 28
  | .latgov => 27
  | .axis => 44
  | .dmc => 39
  | .host => 21
  | .dma => 30
  | .mbx => 20
  | .mbxBar2 => 11
  | .ring => 48
  | .evt => 31
  | .errlog => 11
  | .cal => 26
  | .lock => 5

end Sys2Proof.Machine
end

