-- ==== Sys2Proof/Machine/Units.lean ====
section
/-! DEFINITION. Units of the device: type codes, instances, owners, tree, addresses and descriptors
(R9, R28-R38, R649). -/

namespace Sys2Proof.Machine

/-- Type code of R32. The BAR2 map has no window of its own; 0x63 is the model's key for it. -/
def UnitType.code : UnitType → Nat
  | .device => 0x01 | .sys => 0x02 | .clk => 0x03 | .thm => 0x04 | .serdes => 0x05 | .lane => 0x06
  | .camp => 0x10 | .time => 0x11 | .trig => 0x12 | .sense => 0x13 | .web => 0x14 | .lport => 0x15
  | .strip => 0x20 | .ctx => 0x21 | .stitch => 0x22 | .refs => 0x30 | .codec => 0x31 | .tango => 0x32
  | .seg => 0x33 | .tag => 0x34 | .latgov => 0x35 | .axis => 0x40 | .dmc => 0x50 | .host => 0x60
  | .dma => 0x61 | .mbx => 0x62 | .mbxBar2 => 0x63 | .ring => 0x70 | .evt => 0x71 | .errlog => 0x72
  | .cal => 0x73 | .lock => 0x74

/-- Every unit type. -/
def UnitType.list : List UnitType :=
  [.device, .sys, .clk, .thm, .serdes, .lane, .camp, .time, .trig, .sense, .web, .lport, .strip, .ctx,
   .stitch, .refs, .codec, .tango, .seg, .tag, .latgov, .axis, .dmc, .host, .dma, .mbx, .mbxBar2, .ring,
   .evt, .errlog, .cal, .lock]

/-- The unit type of a code. -/
def UnitType.ofCode (c : Nat) : Option UnitType := UnitType.list.find? fun t => t.code == c

/-- Number of instances in one device (R5, R29, R36; the chapters of the units). -/
def UnitType.instances : UnitType → Nat
  | .device => 4 | .lane => 61 | .camp => 12 | .strip => 8 | .ctx => 32 | .axis => 2
  | _ => 1

/-- OWNER of the descriptor (R30): 1 firmware, 2 shared. -/
def UnitType.owner : UnitType → Nat
  | .host | .dma | .mbx | .mbxBar2 | .evt | .errlog | .cal | .lock => 2
  | _ => 1

/-- Named units. -/
abbrev uDevice : UnitId := ⟨.device, 0⟩
abbrev uSys : UnitId := ⟨.sys, 0⟩
abbrev uClk : UnitId := ⟨.clk, 0⟩
abbrev uThm : UnitId := ⟨.thm, 0⟩
abbrev uSerdes : UnitId := ⟨.serdes, 0⟩
abbrev uTime : UnitId := ⟨.time, 0⟩
abbrev uTrig : UnitId := ⟨.trig, 0⟩
abbrev uSense : UnitId := ⟨.sense, 0⟩
abbrev uWeb : UnitId := ⟨.web, 0⟩
abbrev uLport : UnitId := ⟨.lport, 0⟩
abbrev uStitch : UnitId := ⟨.stitch, 0⟩
abbrev uRefs : UnitId := ⟨.refs, 0⟩
abbrev uCodec : UnitId := ⟨.codec, 0⟩
abbrev uTango : UnitId := ⟨.tango, 0⟩
abbrev uSeg : UnitId := ⟨.seg, 0⟩
abbrev uTag : UnitId := ⟨.tag, 0⟩
abbrev uLatgov : UnitId := ⟨.latgov, 0⟩
abbrev uDmc : UnitId := ⟨.dmc, 0⟩
abbrev uHost : UnitId := ⟨.host, 0⟩
abbrev uDma : UnitId := ⟨.dma, 0⟩
abbrev uMbx : UnitId := ⟨.mbx, 0⟩
abbrev uBar2 : UnitId := ⟨.mbxBar2, 0⟩
abbrev uRing : UnitId := ⟨.ring, 0⟩
abbrev uEvt : UnitId := ⟨.evt, 0⟩
abbrev uErrlog : UnitId := ⟨.errlog, 0⟩
abbrev uCal : UnitId := ⟨.cal, 0⟩
abbrev uLock : UnitId := ⟨.lock, 0⟩
abbrev uCamp (k : Nat) : UnitId := ⟨.camp, k⟩
abbrev uLane (k : Nat) : UnitId := ⟨.lane, k⟩
abbrev uStrip (k : Nat) : UnitId := ⟨.strip, k⟩
abbrev uCtx (k : Nat) : UnitId := ⟨.ctx, k⟩
abbrev uAxis (k : Nat) : UnitId := ⟨.axis, k⟩

/-- Whether the unit names a window of the device (R31, R36). -/
def UnitId.exists? (u : UnitId) : Bool := decide (u.inst < u.ty.instances)

/-- The parent inside the device (R28, R29): lanes are children of SERDES, contexts 4j to 4j + 3 of
strip j, every other unit of the DEVICE. -/
def UnitId.parent (u : UnitId) : Option UnitId :=
  match u.ty with
  | .device => none
  | .lane => some uSerdes
  | .ctx => some (uStrip (u.inst / 4))
  | _ => some uDevice

/-- Whether `u` lies in the subtree of `a`: `a` itself or below it (R42). A ring-level DEVICE
window covers every unit of the device (R48). -/
def UnitId.under (u a : UnitId) : Bool :=
  u == a ||
  match a.ty with
  | .device => u.ty != .device || (a.inst != 0 && (u.inst == 0 || u.inst < a.inst))
  | .serdes => u.ty == .lane
  | .strip => u.ty == .ctx && u.inst / 4 == a.inst
  | _ => false

/-- Whether two units are the same or one is above the other (R46). -/
def UnitId.related (u v : UnitId) : Bool := u.under v || v.under u

/-- Every unit of the device but the ring windows and the BAR2 map. -/
def UnitId.all : List UnitId :=
  (UnitType.list.filter fun t => t != .device && t != .mbxBar2).flatMap
      (fun t => (List.range t.instances).map (UnitId.mk t)) ++ [uDevice]

/-- The units of the subtree of `a` that this device serves: below a ring window its own units and the windows of the
rings below that one (R29, R36). -/
def UnitId.subtree (a : UnitId) : List UnitId :=
  if a.ty == .device && a.inst != 0 then UnitId.all ++ (List.range a.inst).map (fun i => ⟨.device, i + 1⟩)
  else UnitId.all.filter (·.under a)

/-- First index of a unit type's windows: DEVICE is 0 and SYS 1 (R36); the spec fixes no other, and
the model numbers the rest consecutively by type code, then instance (DESIGN CHOICE, log entry 2). -/
def UnitType.firstIndex : UnitType → Nat
  | .device => 0 | .sys => 1 | .clk => 2 | .thm => 3 | .serdes => 4 | .lane => 5 | .camp => 66
  | .time => 78 | .trig => 79 | .sense => 80 | .web => 81 | .lport => 82 | .strip => 83 | .ctx => 91
  | .stitch => 123 | .refs => 124 | .codec => 125 | .tango => 126 | .seg => 127 | .tag => 128
  | .latgov => 129 | .axis => 130 | .dmc => 132 | .host => 133 | .dma => 134 | .mbx => 135
  | .mbxBar2 => 135 | .ring => 136 | .evt => 137 | .errlog => 138 | .cal => 139 | .lock => 140

/-- The unit index of a window (R36): fixed for DEVICE, SYS and the ring windows. -/
def UnitId.index (u : UnitId) : Nat :=
  if u.ty = .device ∧ u.inst ≠ 0 then 0x3FC + u.inst else u.ty.firstIndex + u.inst

/-- The unit whose window has an index, if any. -/
def unitOfIndex (n : Nat) : Option UnitId :=
  if 0x3FD ≤ n ∧ n ≤ 0x3FF then some ⟨.device, n - 0x3FC⟩
  else (UnitType.list.find? fun t =>
      t != .mbxBar2 && t.firstIndex ≤ n && n < t.firstIndex + (if t == .device then 1 else t.instances)).map
    fun t => ⟨t, n - t.firstIndex⟩

/-- Byte address of a register inside one device (R9). -/
def regAddress (u : UnitId) (off : Nat) : Nat := u.index * 0x4000 + off

/-- Key of a register in the register file: the unit by type code and instance, and the offset. -/
def regKey (u : UnitId) (off : Nat) : Nat := (u.ty.code * 256 + u.inst) * 0x4000 + off

/-- The unit of a key. -/
def keyUnit (k : Nat) : Option UnitId :=
  (UnitType.ofCode (k / 0x4000 / 256)).map fun t => ⟨t, k / 0x4000 % 256⟩

/-- The instance of the field's register at an offset, if any. -/
def Field.instanceAt (f : Field) (off : Nat) : Option Nat :=
  if off < f.off then none
  else if f.stride = 0 then (if off = f.off then some 0 else none)
  else if (off - f.off) % f.stride = 0 ∧ (off - f.off) / f.stride < f.count then
    some ((off - f.off) / f.stride)
  else none

/-- Offset of instance i of the field's register. -/
def Field.at (f : Field) (i : Nat) : Nat := f.off + f.stride * i

/-- Width of the field in bits. -/
def Field.width (f : Field) : Nat := f.hi + 1 - f.lo

/-- Largest value of the field. -/
def Field.max (f : Field) : Nat := 2 ^ f.width - 1

/-- Reset value of instance i. -/
def Field.resetAt (f : Field) (i : Nat) : Nat := f.reset.getD i (f.reset.getLastD 0)

/-- The fields of the register at an offset of a unit type. -/
def UnitType.fieldsAt (t : UnitType) (off : Nat) : List Field :=
  (if off < 0x100 ∧ t ≠ .mbxBar2 then F.COMMON.all else t.map).filter
    fun f => (f.instanceAt off).isSome

/-- The reset value of a register: its fields' values in their places. `LANE.STAT.TX_LOGICAL` resets
to the physical lane number (R166). -/
def resetWordOf (u : UnitId) (off : Nat) : Nat :=
  let w := (u.ty.fieldsAt off).foldl
    (fun acc f => acc + f.resetAt ((f.instanceAt off).getD 0) * 2 ^ f.lo) 0
  if u.ty = .lane ∧ off = F.LANE.STAT_TX_LOGICAL.off then w + u.inst % 4 * 16 else w

/-- What an unlisted register reads: its reset value; zero at reserved offsets (R8). -/
def resetOfKey (k : Nat) : Word :=
  match keyUnit k with
  | some u => BitVec.ofNat 32 (resetWordOf u (k % 0x4000))
  | none => 0

/-- Whether the type holds a STAGE field. -/
def UnitType.hasStage (t : UnitType) : Bool := t.map.any fun f => f.acc == .stage

/-- FLAGS of the descriptor: BOUQUET for DEVICE, SERDES and STRIP (R29), PRESENT. -/
def UnitType.bouquet (t : UnitType) : Bool := t == .device || t == .serdes || t == .strip

/-- BOUNDARIES of the descriptor: a ring-level DEVICE accepts page and epoch commits (R48); the
spec gives no byte for the other units, which list all four (DESIGN CHOICE, log entry 4). -/
def UnitId.boundaries (u : UnitId) : List Boundary :=
  if u.ty = .device ∧ u.inst ≠ 0 then [.page, .epoch] else [.line, .block, .page, .epoch]

/-- Order of boundary types, finest 0 (R43). -/
def Boundary.rank : Boundary → Nat
  | .line => 0 | .block => 1 | .page => 2 | .epoch => 3

/-- The boundary type of a code. -/
def Boundary.ofCode (n : Nat) : Boundary :=
  match n % 4 with
  | 0 => .line | 1 => .block | 2 => .page | _ => .epoch

/-- The coarser of two boundary types. -/
def Boundary.coarser (a b : Boundary) : Boundary := if a.rank < b.rank then b else a

/-- The finest type the unit lists that is not finer than b (R43). -/
def UnitId.acceptBoundary (u : UnitId) (b : Boundary) : Boundary :=
  (u.boundaries.find? fun c => b.rank ≤ c.rank).getD .epoch

/-- Master code of R590. -/
def Master.code : Master → Nat
  | .hw => 0 | .host => 1 | .core0 => 2 | .core1 => 3 | .core2 => 4 | .core3 => 5 | .other => 6 | .boot => 7

/-- Firmware masters: the control cores and the firmware of other devices (R38, R647). -/
def Master.isFirmware : Master → Bool
  | .core0 | .core1 | .core2 | .core3 | .other => true
  | _ => false

/-- The control core of number k. -/
def Master.core (k : Nat) : Master :=
  match k with
  | 0 => .core0 | 1 => .core1 | 2 => .core2 | _ => .core3

end Sys2Proof.Machine
end

