-- ==== Sys2Proof/Machine/Ops.lean ====
section
/-! DEFINITION. The named operations over the state that every chapter uses: registers and fields,
time, free values, outputs, error log, events, MSI-X vectors. -/

namespace Sys2Proof.Machine

namespace PerMaster

/-- The same value for every master. -/
def all {α : Type} (v : α) : PerMaster α := ⟨v, v, v, v, v, v⟩

/-- The value kept for a master; the boot controller and the hardware share the host's (R647 keeps
none for them, and neither reads a latched register). -/
def get {α : Type} (p : PerMaster α) : Master → α
  | .core0 => p.core0 | .core1 => p.core1 | .core2 => p.core2 | .core3 => p.core3
  | .other => p.other | .host | .hw | .boot => p.host

/-- The values with a master's replaced. -/
def set {α : Type} (p : PerMaster α) (m : Master) (v : α) : PerMaster α :=
  match m with
  | .core0 => { p with core0 := v } | .core1 => { p with core1 := v }
  | .core2 => { p with core2 := v } | .core3 => { p with core3 := v }
  | .other => { p with other := v } | .host => { p with host := v }
  | .hw | .boot => p

end PerMaster

namespace Block

/-- A register of the register file. -/
def rd (s : Block) (u : UnitId) (off : Nat) : Nat := (storeRead resetOfKey s.regs (regKey u off)).toNat

/-- The state with a register of the register file written whole. -/
def wr (s : Block) (u : UnitId) (off v : Nat) : Block :=
  { s with regs := storeWrite resetOfKey s.regs (regKey u off) (BitVec.ofNat 32 v) }

/-- A field of instance i of its register. -/
def getI (s : Block) (u : UnitId) (f : Field) (i : Nat) : Nat := bits (s.rd u (f.at i)) f.hi f.lo

/-- A field. -/
def get (s : Block) (u : UnitId) (f : Field) : Nat := s.getI u f 0

/-- A one-bit field of instance i. -/
def onI (s : Block) (u : UnitId) (f : Field) (i : Nat) : Bool := s.getI u f i != 0

/-- A one-bit field. -/
def on (s : Block) (u : UnitId) (f : Field) : Bool := s.getI u f 0 != 0

/-- Signed reading of a field. -/
def getS (s : Block) (u : UnitId) (f : Field) : Int := sext f.width (s.get u f)

/-- Signed reading of a field of instance i. -/
def getSI (s : Block) (u : UnitId) (f : Field) (i : Nat) : Int := sext f.width (s.getI u f i)

/-- The state with a field of instance i set, wrapping at its width. -/
def setI (s : Block) (u : UnitId) (f : Field) (i v : Nat) : Block :=
  s.wr u (f.at i) (putBits (s.rd u (f.at i)) f.hi f.lo v)

/-- The state with a field set. -/
def set (s : Block) (u : UnitId) (f : Field) (v : Nat) : Block := s.setI u f 0 v

/-- The state with a field of instance i set to a signed value, wrapping. -/
def putSI (s : Block) (u : UnitId) (f : Field) (i : Nat) (v : Int) : Block :=
  s.setI u f i (wrapN f.width v)

/-- The state with a field set to a signed value, wrapping. -/
def putS (s : Block) (u : UnitId) (f : Field) (v : Int) : Block := s.putSI u f 0 v

/-- The state with bit b of a field set. -/
def setBitI (s : Block) (u : UnitId) (f : Field) (i b : Nat) : Block :=
  if bit (s.getI u f i) b then s else s.setI u f i (s.getI u f i + 2 ^ b)

/-- The state with bit b of a field cleared. -/
def clrBitI (s : Block) (u : UnitId) (f : Field) (i b : Nat) : Block :=
  if bit (s.getI u f i) b then s.setI u f i (s.getI u f i - 2 ^ b) else s

/-- A saturating counter raised by n (R598). -/
def addI (s : Block) (u : UnitId) (f : Field) (i n : Nat) : Block :=
  s.setI u f i (satAdd f.max (s.getI u f i) n)

/-- A saturating counter raised by one. -/
def inc (s : Block) (u : UnitId) (f : Field) : Block := s.addI u f 0 1

/-- A saturating counter of instance i raised by one. -/
def incI (s : Block) (u : UnitId) (f : Field) (i : Nat) : Block := s.addI u f i 1

/-- Fields set to zero in every instance of their registers. -/
def clearAll (s : Block) (u : UnitId) (fs : List Field) : Block :=
  fs.foldl (fun s f => (List.range f.count).foldl (fun s i => s.setI u f i 0) s) s

/-- Fields set to their reset value in every instance of their registers. -/
def resetAll (s : Block) (u : UnitId) (fs : List Field) : Block :=
  fs.foldl (fun s f => (List.range f.count).foldl (fun s i => s.setI u f i (f.resetAt i)) s) s

/-- INC in units of 2^-40 ns (R203). -/
def ltInc (s : Block) : Nat := (2 ^ 41 + 32 * s.getS uTime F.TIME.RATE_ADJ).toNat

/-- `ticks` ticks of the TIME clock pass: LT with its fraction advances by INC at each, from the end of
boot step 3 on (R203). -/
def advance (s : Block) (ticks : Nat) : Block :=
  if s.get uSys F.SYS.BOOT_STAT_PHASE < 3 then s
  else
    let f := s.ltFrac + ticks * s.ltInc
    { s with lt := (s.lt + f / 2 ^ 40) % 2 ^ 64, ltFrac := f % 2 ^ 40 }

/-- The short stamp of the instant: LT [31:0] (R205). -/
def stamp (s : Block) : Nat := s.lt % 2 ^ 32

/-- Whether an axis has a plan in progress, or one to come (`AXIS.STAT.PLANNING`, R446). -/
def axisPlanning (s : Block) (x : AxisSt) : Bool :=
  !x.replans.isEmpty || ((x.plan.map fun p => decide (s.lt < p.end_)).getD false)

/-- The next free value. -/
def fresh (s : Block) : Nat := Sys2Proof.Config.free s.freeCtr

/-- The state once the next free value has been taken. -/
def took (s : Block) : Block := { s with freeCtr := s.freeCtr + 1 }

/-- An output leaves the block. -/
def emit (s : Block) (o : Output) : Block := { s with out := o :: s.out }

/-- Several outputs leave in order. -/
def emits (s : Block) (os : List Output) : Block := os.foldl emit s

/-- Nanoseconds from LT value a to the present. -/
def since (s : Block) (a : Nat) : Nat := (s.lt + 2 ^ 64 - a) % 2 ^ 64

/-- RUNNING reached (R75). -/
def isRunning (s : Block) : Bool := s.get uSys F.SYS.BOOT_STAT_PHASE == 10

/-- Firmware runs: the cores are released and the device does not hold (R75 step 10). -/
def cored (s : Block) : Bool := s.boot.hold == .none && decide (8 ≤ s.get uSys F.SYS.BOOT_STAT_PHASE)

/-- Order of occurrences at one instant: ascending unit index, then code (R589). -/
def occBefore (a b : ErrOcc) : Bool :=
  a.lt != b.lt || a.unit < b.unit || (a.unit == b.unit && a.code ≤ b.code)

/-- An occurrence put among those waiting. -/
def insertOcc (o : ErrOcc) : List ErrOcc → List ErrOcc
  | [] => [o]
  | a :: r => if occBefore a o then a :: insertOcc o r else o :: a :: r

/-- An occurrence at a unit index for the error log: it waits, or is dropped when 16 wait (R589). -/
def logAt (s : Block) (m : Master) (idx code sev a0 a1 a2 : Nat) : Block :=
  if s.errlog.waiting.length < 16 then
    { s with errlog := { s.errlog with
        waiting := insertOcc ⟨s.lt, idx, code, m, sev, a0 % 2 ^ 32, a1 % 2 ^ 32, a2 % 2 ^ 32⟩
          s.errlog.waiting } }
  else (s.inc uErrlog F.ERRLOG.CNT_DROP_COUNT).set uErrlog F.ERRLOG.FLAGS_DROP 1

/-- An occurrence at a unit, of a master's access. -/
def logBy (s : Block) (m : Master) (u : UnitId) (code sev a0 a1 a2 : Nat) : Block :=
  s.logAt m u.index code sev a0 a1 a2

/-- An occurrence the device's hardware records. -/
def log (s : Block) (u : UnitId) (code sev a0 a1 a2 : Nat) : Block := s.logBy .hw u code sev a0 a1 a2

/-- A cause of an MSI-X vector (R484): the message is sent, or its pending bit set while the
vector, the function or MSI-X itself is masked or the function is in D3hot (R486). -/
def msix (s : Block) (v : Nat) : Block :=
  let e := nth s.host.msix v ⟨0, 0, true⟩
  if e.masked || s.host.functionMask || !s.host.msixEnable || s.on uHost F.HOST.LINK_D3 then
    if s.host.pba.contains v then s else { s with host := { s.host with pba := s.host.pba ++ [v] } }
  else s.emit (.msix v e.addr e.data)

/-- The enabled routes of a producer, each channel once (R577, R584). -/
def routes (s : Block) (p : Nat) : List Nat :=
  let i := p / 2
  let (ca, ea, cb, eb) :=
    if p % 2 = 0 then (F.EVT.PROD_CH_A, F.EVT.PROD_EN_A, F.EVT.PROD_CH_B, F.EVT.PROD_EN_B)
    else (F.EVT.PROD_CH_A1, F.EVT.PROD_EN_A1, F.EVT.PROD_CH_B1, F.EVT.PROD_EN_B1)
  let a := if s.onI uEvt ea i then [s.getI uEvt ca i] else []
  let b := if s.onI uEvt eb i && !(a.contains (s.getI uEvt cb i)) then [s.getI uEvt cb i] else []
  a ++ b

/-- A channel's coalesce count and flag for one more arrival (R580). -/
def coalesce (s : Block) (c : Nat) : Block :=
  (s.incI uEvt F.EVT.CH_STAT_COAL c).set uEvt F.EVT.FLAGS_COAL 1

/-- A window of channel c an arrival now belongs to: its first arrival is at most 20 ns old, the edge that opens it and 10 ns
(R580; log entry 32). -/
def windowOpen (s : Block) (c : Nat) (e : Nat × EvtWindow) : Bool :=
  e.1 == c && (e.2.arrivals.head?.map fun a => decide (s.since a.1 ≤ 20)).getD false

/-- An arrival of producer p on channel c (R578, R580, R584). `src` is the sending device of a
RING_IN arrival. -/
def arrive (s : Block) (p src c : Nat) : Block :=
  let sec := s.onI uEvt F.EVT.CH_CFG_SEC c
  if sec && 212 ≤ p && p ≤ 227 then s
  else if sec && 384 ≤ p then
    (s.set uEvt F.EVT.FLAGS_IMPORT_REFUSED 1).log uEvt 0x000C 2 c src 0
  else if s.evt.windows.any (s.windowOpen c) then
    let ws := s.evt.windows.map fun e =>
      if s.windowOpen c e then (c, ⟨e.2.arrivals ++ [(s.lt, p)]⟩) else e
    ({ s with evt := { s.evt with windows := ws } } : Block).coalesce c
  else { s with evt := { s.evt with windows := s.evt.windows ++ [(c, ⟨[(s.lt, p)]⟩)] } }

/-- Producer p asserts (R575, R577, R581): within 10 ns of its last assertion it only counts in the
channels it routes to. -/
def raiseFrom (s : Block) (p src : Nat) : Block :=
  match findK p s.evt.asserted with
  | some t =>
    if s.since t < 10 then (s.routes p).foldl coalesce s
    else (s.routes p).foldl (fun s c => s.arrive p src c)
      { s with evt := { s.evt with asserted := bindK p s.lt s.evt.asserted } }
  | none => (s.routes p).foldl (fun s c => s.arrive p src c)
      { s with evt := { s.evt with asserted := bindK p s.lt s.evt.asserted } }

/-- A producer the fabric has (R575). -/
def producer (p : Nat) : Bool := decide (p < 29) || (decide (32 ≤ p) && decide (p < 244)) || (decide (384 ≤ p) && decide (p < 512))

/-- Producer p of this device asserts. -/
def raise (s : Block) (p : Nat) : Block := s.raiseFrom p 0

/-- The producer a FLAGS bit of a unit raises when it sets, if any (R202, R271, R299, R326, R355,
R356, R379, R409, R410, R435, R455, R479, R505, R536, R573, R575, R588, R618). TRIG_EPOCH, the TIME
and SENSE producers and the thermal and clock ones are raised by the rules that set those flags. -/
def flagProducer (u : UnitId) (f : Field) : Option Nat :=
  match u.ty with
  | .web => some (if f == F.WEB.FLAGS_OVERSPEED || f == F.WEB.FLAGS_SKIP then 8 else 7)
  | .trig => if f == F.TRIG.FLAGS_EPOCH then some 10 else none
  | .camp => some (if f == F.CAMP.FLAGS_STATE_CHANGE then 48 + u.inst else 60 + u.inst)
  | .ctx => some (72 + u.inst)
  | .stitch => some 14
  | .refs | .codec => some 15
  | .tango => some (if f == F.TANGO.FLAGS_SHORT_PAGE || f == F.TANGO.FLAGS_LONG_PAGE then 17 else 16)
  | .seg => some 18
  | .tag => some 19
  | .latgov => some 20
  | .dmc => if f == F.DMC.FLAGS_CE then none else some 21
  | .dma => some 22
  | .mbx => some 24
  | .ring => some (if f == F.RING.FLAGS_ENUM then 27 else 26)
  | .axis =>
    some (if f == F.AXIS.FLAGS_LATE || f == F.AXIS.FLAGS_PRED_LATE then 154 + u.inst else 152 + u.inst)
  | _ => none

/-- A FLAGS bit set; its setting raises its producer when it was clear. -/
def flag (s : Block) (u : UnitId) (f : Field) : Block :=
  if s.on u f then s
  else match flagProducer u f with
    | some p => (s.set u f 1).raise p
    | none => s.set u f 1

/-- A FLAGS bit set by a rule that raises its producer at every occurrence. -/
def flagRaise (s : Block) (u : UnitId) (f : Field) : Block :=
  match flagProducer u f with
  | some p => (s.set u f 1).raise p
  | none => s.set u f 1

/-- Bit b of `HOST.IRQ_STAT` set; vector 0 is signalled when the bit is not masked (R484). -/
def hostIrq (s : Block) (f : Field) : Block :=
  let s := s.set uHost f 1
  if bit (s.get uHost F.HOST.IRQ_MASK_MASK) f.lo then s else s.msix 0

/-- A bit of `SYS.UNIT_FAIL` set and recorded (R83); after RUNNING a change signals vector 0. -/
def unitFail (s : Block) (f : Field) (b : Nat) : Block :=
  if bit (s.get uSys f) b then s
  else
    let s := (s.setBitI uSys f 0 b).log uSys 0x0040 2 (f.lo + b) 0 0
    if s.isRunning then s.hostIrq F.HOST.IRQ_STAT_UNIT_FAIL else s

/-- A bit of `SYS.UNIT_FAIL` cleared. -/
def unitWorks (s : Block) (f : Field) (b : Nat) : Block :=
  if bit (s.get uSys f) b then
    let s := s.clrBitI uSys f 0 b
    if s.isRunning then s.hostIrq F.HOST.IRQ_STAT_UNIT_FAIL else s
  else s

end Block
end Sys2Proof.Machine
end

