-- ==== Sys2Proof/Machine/Records.lean ====
section
/-! DEFINITION. Where records go: the outbound streams to the host (R501, R502), the line port's
Class A queue (R404), alarms (R407), shedding of their classes (R427, R428). -/

namespace Sys2Proof.Machine

/-- Blocks of 2 KiB a channel holds: bytes requested and not yet written (R487). -/
def DmaChan.blocks (c : DmaChan) : Nat := (c.requested - c.written + 2047) / 2048

namespace Block

/-- Class B is being shed: the governor's level is SHED_B or above, or the P-state in force sheds
it (R424, R428). -/
def shedB (s : Block) : Bool :=
  2 ≤ s.get uLatgov F.LATGOV.STAT_LEVEL ||
    s.onI uLatgov F.LATGOV.PCFG_B_OFF (s.get uClk F.CLK.PSTATE_CURRENT)

/-- Class C is being shed (R424, R428). -/
def shedC (s : Block) : Bool :=
  1 ≤ s.get uLatgov F.LATGOV.STAT_LEVEL ||
    s.onI uLatgov F.LATGOV.PCFG_C_OFF (s.get uClk F.CLK.PSTATE_CURRENT)

/-- A channel at rest. -/
def idleChan : DmaChan :=
  ⟨0, 65535, 256, none, false, false, false, false, false, none, 0, 0, 0, 0, [], 0, none, none, false, .host⟩

/-- A channel of the DMA engine. -/
def chan (s : Block) (n : Nat) : DmaChan := nth s.dma.chans n idleChan

/-- The state with a channel replaced. -/
def setChan (s : Block) (n : Nat) (c : DmaChan) : Block :=
  { s with dma := { s.dma with chans := upd s.dma.chans n fun _ => c } }

/-- Tags out of the pool: accesses of the engine, tags kept back after NOACK, DRAM requests (R498, R500). -/
def tagsHeld (s : Block) : Nat := s.dma.flight.length + s.dma.quarantine.length + s.dmc.reqs.length

/-- An access of channel n finds a tag (R500): 1,024 are Class A's, host-memory reads hold at most 768, a host channel as
many as its TAG_MAX. -/
def tagFree (s : Block) (n : Nat) (k : DmaKind) (space : Nat) : Bool :=
  let held := s.dma.flight ++ s.dma.quarantine
  decide (s.tagsHeld < 15360) && (decide (56 ≤ n) || decide ((held.filter fun a => a.chan == n).length < (s.chan n).tagMax)) &&
    (space != 0 || k == .write || decide ((held.filter fun a => a.space == 0 && a.kind != .write).length < 768))

/-- `HOST.TAGS` after a change of the tags in use (R500). -/
def tagsUpdate (s : Block) : Block :=
  let n := Nat.min 16384 s.tagsHeld
  let s := s.set uHost F.HOST.TAGS_IN_USE n
  if s.get uHost F.HOST.TAGS_PEAK < n then s.set uHost F.HOST.TAGS_PEAK n else s

/-- An access goes out for channel n: it takes a tag and is timed from now (R498, R500). `data` and `err` are the
answer of DRAM or of a register of this device. -/
def access (s : Block) (n : Nat) (k : DmaKind) (space addr len : Nat) (data : List Nat) (err : Bool) : Block :=
  ({ s with dma := { s.dma with
      flight := s.dma.flight ++ [⟨s.dma.nextId, n, k, space, addr, len, s.lt, data, err⟩],
      nextId := s.dma.nextId + 1 } } : Block).tagsUpdate

/-- COUNT of a channel: bytes not yet issued as writes (R494). -/
def setCount (s : Block) (n v : Nat) : Block :=
  if n < 56 then s.setI uDma F.DMA.CH_COUNT_COUNT n v else s.setI uDma F.DMA.PCH_COUNT_COUNT (n - 56) v

/-- The data of a channel's buffer that is next in destination order goes out to host memory (R487). -/
def issueHost (s : Block) (n : Nat) : Nat → Block
  | 0 => s
  | fuel + 1 =>
    let c := s.chan n
    match c.desc, c.error with
    | some d, none =>
      if bits d.ctrl 3 2 ≠ 0 ∨ s.tagFree n .write 0 = false then s
      else match c.buffer.find? (fun p => p.1 == c.written) with
        | none => s
        | some (o, l) =>
          let s := s.setChan n { c with buffer := c.buffer.filter (·.1 != o), written := c.written + l.length }
          let s := (s.setCount n (d.count - (c.written + l.length))).emit (.hostWrite (d.dst + o) l)
          ((s.access n .write 0 (d.dst + o) l.length [] false)).issueHost n fuel
    | _, _ => s

/-- Records of stream i move to the channel that takes it, until the descriptor is full, the next
record does not fit, or the stream is empty (R502). Nothing moves while the class is shed. -/
def streamFeed (s : Block) (i : Nat) : Nat → Block
  | 0 => s
  | fuel + 1 =>
    let st := nth s.host.streams i ⟨[], none, none⟩
    match st.chan, st.recs with
    | some n, r :: rest =>
      let c := s.chan n
      if c.streamEnd || 64 ≤ c.blocks || (i < 3 && s.shedB) || (i == 3 && s.shedC) then s
      else match c.desc, c.error with
        | some d, none =>
          let z := r.size
          let drop := { s with host := { s.host with
            streams := upd s.host.streams i fun x => { x with recs := rest } } }
          if d.count < z then (drop.incI uHost F.HOST.STR_DROP_COUNT i).streamFeed i fuel
          else if d.count < c.requested + z then s.setChan n { c with streamEnd := true }
          else
            let c' := { c with buffer := c.buffer ++ [(c.requested, r.bytes)],
                               requested := c.requested + z,
                               streamFirst := some (c.streamFirst.getD s.lt),
                               streamEnd := decide (d.count ≤ c.requested + z) }
            ((drop.setChan n c').issueHost n 2).streamFeed i fuel
        | _, _ => s
    | _, _ => s

/-- Bytes of the DRAM region that holds a stream's records (R465, R501); none while DRAM is not
available (R83). -/
def regionBytes (s : Block) (i : Nat) : Nat :=
  if bit (s.get uSys F.SYS.UNIT_FAIL_DMC) 0 then 0
  else match i with
    | 0 | 1 => s.get uDmc F.DMC.RSV_STAT * 0x1000000 / 2
    | 2 => s.get uDmc F.DMC.RSV_SNIP * 0x1000000
    | _ => s.get uDmc F.DMC.RSV_ARCH * 0x1000000

/-- A record reaches stream i: it waits in its region or finds it full (R502). -/
def pushStream (s : Block) (i : Nat) (r : Rec) : Block :=
  let st := nth s.host.streams i ⟨[], none, none⟩
  if s.regionBytes i < sumN (st.recs.map Rec.size) + r.size then
    (s.incI uHost F.HOST.STR_DROP_COUNT i).hostIrq F.HOST.IRQ_STAT_DROP
  else
    let s := { s with host := { s.host with
      streams := upd s.host.streams i fun x => { x with
        recs := x.recs ++ [r], since := if x.recs.isEmpty then (if x.chan.isNone then some s.lt else none) else x.since } } }
    s.streamFeed i (st.recs.length + 1)

/-- A Class B record that is not made while Class B is shed (R427). -/
def classB (s : Block) (i : Nat) (r : Rec) : Block :=
  if s.shedB then s.inc uLatgov F.LATGOV.CNT_SHED_B_COUNT else s.pushStream i r

/-- The line port is UP (R404). -/
def lportUp (s : Block) : Bool := s.getI uSerdes F.SERDES.PORT_STAT_STATE 15 == 8

/-- A Class A record for this device's line port (R404). -/
def classA (s : Block) (r : Rec) : Block :=
  if s.lportUp then { s with tag := { s.tag with lportQ := s.tag.lportQ ++ [r] } }
  else (s.inc uTag F.TAG.CNT_LPORT_DROP_COUNT).flag uTag F.TAG.FLAGS_LPORT_DROP

/-- Line counter of the last line triggered (R271). -/
def lastLine (s : Block) : Nat :=
  s.get uWeb F.WEB.LINE_LO_VALUE + s.get uWeb F.WEB.LINE_HI_VALUE * 2 ^ 32

/-- An alarm record: it leaves the line port, and a copy goes to the host as Class B (R407). -/
def alarm (s : Block) (code state a0 a1 : Nat) : Block :=
  let r : Rec := .alarm ⟨code, state, s.devAddr, s.tag.alarmSeq, s.stamp, a0 % 2 ^ 32, a1 % 2 ^ 32,
    s.lastLine, s.get uWeb F.WEB.PAGE_VALUE⟩
  let s := { s with tag := { s.tag with alarmSeq := (s.tag.alarmSeq + 1) % 0x10000 } }
  (s.classA r).classB 0 r

end Block
end Sys2Proof.Machine
end

