-- ==== Sys2Proof/Machine/Latgov.lean ====
section
/-! DEFINITION. The latency governor: loads, levels, escalation and descent, rows kept out
(R421-R433). -/

namespace Sys2Proof.Machine
namespace Block

/-- FLOOR of P-state p, MT/s (R422). -/
def govFloor (s : Block) (p : Nat) : Nat := s.getI uLatgov F.LATGOV.PCFG_FLOOR p

/-- RATE of P-state p for area m, transfers per microsecond (R422). -/
def govRate (s : Block) (p m : Nat) : Nat :=
  if m < 16 then s.getI uLatgov F.LATGOV.PCFG_RATE_STRIP p else nth [1734, 1593, 1125, 656] p 656

/-- Load of area m at a level (R422, R428), transfers per block. -/
def govLoad (s : Block) (m level : Nat) : Nat :=
  let cur := s.get uClk F.CLK.PSTATE_CURRENT
  let b := if level < 2 ∧ s.onI uLatgov F.LATGOV.PCFG_B_OFF cur = false then
    s.getI uLatgov F.LATGOV.B_WORK m else 0
  let c := if level = 0 ∧ s.onI uLatgov F.LATGOV.PCFG_C_OFF cur = false then
    s.getI uLatgov F.LATGOV.C_WORK m else 0
  s.getI uLatgov F.LATGOV.W_WORK m + b + c

/-- Nanoseconds area m has for one accounting interval at a level (R422). -/
def govTime (s : Block) (m level : Nat) : Int :=
  let n : Nat := if 3 ≤ level ∧ m < 19 then 32 else 16
  (n * s.get uLatgov F.LATGOV.LP_MIN_NS : Nat) - (s.getI uLatgov F.LATGOV.OVH_NS m : Int)

/-- Whether area m fits a level: load ≤ avail_m of R422, both sides times 1000 times FLOOR. -/
def govFits (s : Block) (m level : Nat) : Bool :=
  let p := s.clk.govCfg
  let fl := s.govFloor p
  let r := Nat.min fl (s.getI uClk F.CLK.TMON_TEMPO m)
  decide ((s.govLoad m level * 1000 * fl : Nat) ≤ (s.govRate p m * r : Nat) * s.govTime m level)

/-- Whether a level fits in every area (R423). -/
def govFitsAll (s : Block) (level : Nat) : Bool := (List.range 25).all fun m => s.govFits m level

/-- The level needed in the window (R423). -/
def govNeeded (s : Block) : Nat :=
  if s.govFitsAll 0 then 0 else if s.govFitsAll 1 then 1 else if s.govFitsAll 2 then 2
  else if s.govFitsAll 3 then 3 else 4

/-- Configuration floor of area m: the tempo at which NORMAL would just fit, rounded up to 1 MT/s and
limited to the field (R423). -/
def govCfgFloor (s : Block) (m : Nat) : Nat :=
  let p := s.clk.govCfg
  let d : Int := (s.govRate p m : Nat) * s.govTime m 0
  let n : Int := (s.govLoad m 0 * 1000 * s.govFloor p : Nat)
  if d ≤ 0 then 4095 else clampU 12 ((n + d - 1) / d)

/-- Line counter of the first line of the next block row, by the lines of the page in force. -/
def nextRowLine (s : Block) : Nat :=
  s.lastLine + (16 - s.get uWeb F.WEB.PAGE_LINE_VALUE % 16)

/-- The flags of an escalation to a level (R424, R435): TEMPO_LOW, which raises LATGOV_LEVEL at every escalation, and those
of the levels up to the new one. -/
def govFlags (s : Block) (new : Nat) : Block :=
  let s := s.flagRaise uLatgov F.LATGOV.FLAGS_TEMPO_LOW
  let s := if 1 ≤ new then s.flag uLatgov F.LATGOV.FLAGS_SHED_C else s
  let s := if 2 ≤ new then s.flag uLatgov F.LATGOV.FLAGS_SHED_B else s
  let s := if 3 ≤ new then s.flag uLatgov F.LATGOV.FLAGS_SPARSE else s
  if 4 ≤ new then s.flag uLatgov F.LATGOV.FLAGS_SHORT else s

/-- Escalation to a level (R424). -/
def govEscalate (s : Block) (new : Nat) : Block :=
  let old := s.get uLatgov F.LATGOV.STAT_LEVEL
  let m := ((List.range 25).find? fun m => !s.govFits m old).getD 0
  let fl := s.govCfgFloor m
  let s := (((s.set uLatgov F.LATGOV.STAT_LEVEL new).set uLatgov F.LATGOV.STAT_AREA m).set
    uLatgov F.LATGOV.STAT_CFG_FLOOR fl).set uLatgov F.LATGOV.STAT_TEMPO_LOW 1
  let s := { s with gov := { s.gov with
    relaxSince := none
    aboveSince := if old = 0 then s.lt else s.gov.aboveSince
    escPending := true
    pageLevel := Nat.max s.gov.pageLevel new } }
  let s := s.govFlags new
  let s := if old = 0 then s.alarm 0x20 new m (s.getI uClk F.CLK.TMON_TEMPO m + fl * 65536) else s
  s.alarm 0x21 new (b2n (3 ≤ new)) s.nextRowLine

/-- Descent by one level (R425). -/
def govDescend (s : Block) : Block :=
  let new := s.get uLatgov F.LATGOV.STAT_LEVEL - 1
  let s := s.set uLatgov F.LATGOV.STAT_LEVEL new
  let s := { s with gov := { s.gov with relaxSince := none } }
  let s := s.alarm 0x21 new (b2n (3 ≤ new)) s.nextRowLine
  if new = 0 then
    (s.set uLatgov F.LATGOV.STAT_TEMPO_LOW 0).alarm 0x22 0
      (Nat.min 0xFFFFFFFF (s.since s.gov.aboveSince / 1000)) 0
  else s

/-- The shortest of the last 16 intervals between trigger instants, if 16 lie within 4.29 s (R422, LP_MIN). -/
def lpUpdate (s : Block) : Block :=
  let l := s.gov.trigTimes
  let gaps := (l.zip (l.drop 1)).map fun p => (p.1 + 2 ^ 64 - p.2) % 2 ^ 64
  let v := if gaps.length < 16 ∨ 0xFFFFFFFF < s.since (l.getD 16 0) then 0xFFFFFFFF else gaps.foldl Nat.min 0xFFFFFFFF
  s.set uLatgov F.LATGOV.LP_MIN_NS v

/-- The evaluation at the end of a monitor window (R422-R425). -/
def govWindow (s : Block) : Block :=
  let s := s.lpUpdate
  if s.on uLatgov F.LATGOV.CFG_EN then
    let cur := s.get uLatgov F.LATGOV.STAT_LEVEL
    let need := s.govNeeded
    let s := if 0 < cur then s.inc uLatgov F.LATGOV.CNT_LOW_WIN_COUNT else s
    if cur < need then s.govEscalate need
    else if 0 < cur ∧ s.govFitsAll (cur - 1) then
      { s with gov := { s.gov with relaxSince := some (s.gov.relaxSince.getD (s.lt - 1000)) } }
    else { s with gov := { s.gov with relaxSince := none } }
  else s

/-- A trigger instant (R422). -/
def noteTrigger (s : Block) (t : Nat) : Block :=
  ({ s with gov := { s.gov with trigTimes := (t :: s.gov.trigTimes).take 17 } } : Block).lpUpdate

/-- The decision for block row b of a page when its first line is triggered (R429). -/
def rowStart (s : Block) (page b line : Nat) : Block :=
  let level := s.get uLatgov F.LATGOV.STAT_LEVEL
  let out := decide (3 ≤ level) && b % 2 == 1
  let r : RowInfo := ⟨page, b, line, level, out, s.gov.escPending, s.on uLatgov F.LATGOV.CFG_EN⟩
  let s := { s with gov := { s.gov with
    rows := (r :: s.gov.rows).take 64
    escPending := false
    pageIn := s.gov.pageIn + b2n (!out)
    pageOut := s.gov.pageOut + b2n out
    pageLevel := Nat.max s.gov.pageLevel level } }
  if out then s.inc uLatgov F.LATGOV.CNT_ROWS_OUT_COUNT else s.inc uLatgov F.LATGOV.CNT_ROWS_IN_COUNT

/-- The block row a line counter value lies in. -/
def rowOf (s : Block) (line : Nat) : Option RowInfo := s.gov.rows.find? fun r => r.line ≤ line

/-- Whether the governor keeps a line out (R429). -/
def keptOut (s : Block) (line : Nat) : Bool :=
  match s.rowOf line with
  | some r => r.out
  | none => false

/-- The end of a page (R431). -/
def govPageEnd (s : Block) : Block :=
  let s' := if 0 < s.gov.pageOut then s.alarm 0x23 s.gov.pageLevel s.gov.pageIn s.gov.pageOut else s
  { s' with gov := { s'.gov with
    pageIn := 0, pageOut := 0, pageLevel := s'.get uLatgov F.LATGOV.STAT_LEVEL } }

/-- The ring pause begins: Class A records that cross a link are held (R432). -/
def ringHoldStart (s : Block) : Block :=
  if s.gov.holdSince.isSome then s
  else
    let s := { s with gov := { s.gov with holdSince := some s.lt } }
    ((s.set uLatgov F.LATGOV.STAT_RING_HOLD 1).flag uLatgov F.LATGOV.FLAGS_RING_HOLD).alarm 0x24 0 0 0

/-- The ring pause ends (R432). -/
def ringHoldEnd (s : Block) : Block :=
  match s.gov.holdSince with
  | none => s
  | some t =>
    let s := { s with gov := { s.gov with holdSince := none } }
    (s.set uLatgov F.LATGOV.STAT_RING_HOLD 0).alarm 0x24 1 (s.since t / 1000) 0

/-- Streams go on once their class is no longer shed (R427, R502). -/
def feedAll (s : Block) : Block :=
  (List.range 4).foldl
    (fun s i => s.streamFeed i ((nth s.host.streams i ⟨[], none, none⟩).recs.length + 1)) s

end Block
end Sys2Proof.Machine
end

