-- ==== Sys2Proof/Machine/TimeClock.lean ====
section
/-! DEFINITION. The device clock, the reference plane of timestamps, steps and time anchors
(R203-R205, R209, R218, R223-R225). -/

namespace Sys2Proof.Machine
namespace Block

/-- MAC address of the line port. -/
def lportMac (s : Block) : Nat :=
  s.get uLport F.LPORT.MAC_HI_OCTETS * 2 ^ 32 + s.get uLport F.LPORT.MAC_LO_OCTETS

/-- IPv4 address of the line port. -/
def lportIp (s : Block) : Nat := s.get uLport F.LPORT.IPV4_ADDR

/-- The tag of IEEE 802.1Q a frame of the line port carries, with its PCP (R228). -/
def lportTag (s : Block) (pcp : Nat) : Option Nat :=
  if s.on uLport F.LPORT.TX_CFG_VLAN_EN then some (pcp * 8192 + s.get uLport F.LPORT.TX_CFG_VID) else none

/-- `TIME.OFFSET`, 64-bit two's complement (R229). -/
def offset (s : Block) : Int :=
  sext 64 (s.get uTime F.TIME.OFFSET_LO_VALUE + s.get uTime F.TIME.OFFSET_HI_VALUE * 2 ^ 32)

/-- The device clock in nanoseconds: 48-bit seconds times 10^9 plus nanoseconds (R204). -/
def devClock (s : Block) : Nat := (((s.lt : Int) + s.offset) % (2 ^ 48 * 10 ^ 9 : Int)).toNat

/-- A camera timestamp on the short stamp scale (R223). -/
def shortOfClock (s : Block) (ts : Nat) : Nat := wrapN 32 ((ts : Int) - s.devClock + s.lt)

/-- PORTLAT of PTP port p, quarters of a nanosecond. -/
def portLat (s : Block) (f : Field) (p : Nat) : Int := s.getSI uTime f p

/-- Serial port of a PTP port: 12 is the line port (R221). -/
def ptpSerial (p : Nat) : Nat := if p = 12 then 15 else p

/-- TX_LAT of PTP port p, quarters of a nanosecond (R218). -/
def txLat (s : Block) (p : Nat) : Nat :=
  let q := ptpSerial p
  if s.getI uSerdes F.SERDES.PORT_CFG_MODE q = 1 then 394
  else nth [171, 332, 420] (s.getI uSerdes F.SERDES.PORT_CFG_FEC q) 420

/-- RX_LAT of PTP port p, quarters of a nanosecond, with the deskew depth (R218). -/
def rxLat (s : Block) (p : Nat) : Nat :=
  let q := ptpSerial p
  if s.getI uSerdes F.SERDES.PORT_CFG_MODE q = 1 then 859 + nth s.ser.deskew q 0
  else nth [233, 550, 945] (s.getI uSerdes F.SERDES.PORT_CFG_FEC q) 945

/-- Quarters of a nanosecond from the capture to the balls at egress (R218). -/
def egressShift (s : Block) (p : Nat) : Int := s.txLat p + s.portLat F.TIME.PORTLAT_TX p

/-- Quarters of a nanosecond in the fraction of LT, to which captures are resolved (R203, R218). -/
def quarters (s : Block) : Nat := s.ltFrac / 2 ^ 38 % 4

/-- The LT instant at which a frame captured now crosses the balls of PTP port p, egress. -/
def egressLt (s : Block) (p : Nat) : Nat := wrapN 64 ((4 * (s.lt : Int) + s.quarters + s.egressShift p) / 4)

/-- The LT instant at which a frame captured now crossed the balls of PTP port p, ingress. -/
def ingressLt (s : Block) (p : Nat) : Nat :=
  wrapN 64 ((4 * (s.lt : Int) + s.quarters - s.rxLat p - s.portLat F.TIME.PORTLAT_RX p) / 4)

/-- Egress timestamp on the device clock: seconds, nanoseconds, quarters of a nanosecond. -/
def egressStamp (s : Block) (p : Nat) : Nat × Nat × Nat :=
  let q := ((4 * (s.devClock : Int) + s.quarters + s.egressShift p) % (4 * (2 ^ 48 * 10 ^ 9) : Int)).toNat
  (q / 4 / 10 ^ 9, q / 4 % 10 ^ 9, q % 4)

/-- Ingress timestamp on the device clock. -/
def ingressStamp (s : Block) (p : Nat) : Nat × Nat × Nat :=
  let q := ((4 * (s.devClock : Int) + s.quarters - s.rxLat p - s.portLat F.TIME.PORTLAT_RX p) %
    (4 * (2 ^ 48 * 10 ^ 9) : Int)).toNat
  (q / 4 / 10 ^ 9, q / 4 % 10 ^ 9, q % 4)

/-- Selected domain's tracker. -/
def selTracker (s : Block) : Tracker :=
  if s.on uTime F.TIME.STATE_SEL then s.time.trackB else s.time.trackA

/-- domainNumber of the selected domain. -/
def selDomain (s : Block) : Nat :=
  if s.on uTime F.TIME.STATE_SEL then s.get uTime F.TIME.DOMAIN_CFG_DOMAIN_B
  else s.get uTime F.TIME.DOMAIN_CFG_DOMAIN_A

/-- A time anchor: none before RUNNING; Class A on the line port, its copy held for the host
(R224, R225, R427). -/
def anchor (s : Block) (step switch : Bool) : Block :=
  if s.isRunning then
    let st := s.get uTime F.TIME.STATE_STATE
    let fl := b2n step + 2 * b2n switch + 4 * s.get uTime F.TIME.STATE_SLEWING +
      8 * s.get uClk F.CLK.SRC_STAT_ON_ITO + 16 * st + 128 * s.get uTime F.TIME.STATE_SEL
    let n := s.time.anchorNext
    let r : Rec := .anchor ⟨fl, s.devAddr, s.selDomain, s.lt, s.devClock / 10 ^ 9, s.devClock % 10 ^ 9,
      if st = 0 then 37 else s.selTracker.utcOffset, n⟩
    let s := { s with time := { s.time with anchorNext := (n + 1) % 0x10000 } }
    ((s.set uTime F.TIME.ANCHOR_SEQ n).classA r).pushStream 0 r
  else s

/-- The device clock stepped by d ns: flag, event, STEP anchor (R209, R229). -/
def stepClock (s : Block) (d : Int) : Block :=
  let o := wrapN 64 (s.offset + d)
  let s := (s.set uTime F.TIME.OFFSET_LO_VALUE (o % 2 ^ 32)).set uTime F.TIME.OFFSET_HI_VALUE (o / 2 ^ 32)
  ((s.set uTime F.TIME.FLAGS_STEP 1).raise 11).anchor true false

end Block
end Sys2Proof.Machine
end

