-- ==== Sys2Proof/Machine/CampPort.lean ====
section
/-! DEFINITION. Camera ports from the GVSP packet to the emitted line (R173-R188, R199, R648). -/

namespace Sys2Proof.Machine
namespace Block

/-- A camera port's state. -/
def camp (s : Block) (k : Nat) : CampSt :=
  nth s.camps k ⟨[], 0, none, none, none, none, 0, false, false, [], false, []⟩

/-- The state with a camera port's replaced. -/
def setCamp (s : Block) (k : Nat) (c : CampSt) : Block := { s with camps := upd s.camps k fun _ => c }

/-- CAMP values in force. -/
def campVals (s : Block) (k : Nat) : CampVals :=
  let u := uCamp k
  { width := s.get u F.CAMP.GEOM_WIDTH
    timeout := s.get u F.CAMP.TIMING_TIMEOUT_US
    pixfmt := s.get u F.CAMP.STREAM_CFG_PIXFMT
    byTime := s.on u F.CAMP.STREAM_CFG_ANCHOR
    pkt := s.get u F.CAMP.GEOM_PKT_BYTES
    tsOff := s.getS u F.CAMP.TS_OFFSET
    tsWin := s.get u F.CAMP.TIMING_TS_WINDOW_NS
    camIp := s.get u F.CAMP.CAM_IPV4_ADDR
    udp := s.get u F.CAMP.STREAM_PORT_UDP }

/-- Values for a whole block: those of the oldest open entry, else of the newest entry made (R648). -/
def blockVals (s : Block) (k : Nat) : CampVals :=
  match (s.camp k).entries with
  | e :: _ => e.vals
  | [] => (s.camp k).newest.getD (s.campVals k)

/-- STATE of the stream (R201): 0 OFF, 1 WAIT_LINK, 2 ARMED, 3 STREAMING. -/
def campState (s : Block) (k : Nat) : Nat := s.get (uCamp k) F.CAMP.STAT_STATE

/-- A GVSP packet discarded (R172, R173, R175). -/
def gvspDrop (s : Block) (k : Nat) : Block := s.inc (uCamp k) F.CAMP.CNT_GVSP_DROP_COUNT

/-- PFNC code of a PIXFMT (R177). -/
def pfnc (f : Nat) : Nat :=
  nth [0x01080001, 0x010A0046, 0x010C0047, 0x02180014, 0x02180015, 0x0220001D] f 0

/-- PIXFMT of a PFNC code (R177). -/
def pfncIndex (c : Nat) : Option Nat := (List.range 6).find? fun f => pfnc f == c

/-- Bits per pixel of a PIXFMT (R177). -/
def pfncBits (f : Nat) : Nat := nth [8, 10, 12, 24, 24, 32] f 0

/-- Bits per pixel for a block (R174); a reserved PIXFMT gives a value the spec leaves open (R59). -/
def blockBits (s : Block) (format pixfmt : Nat) : Nat :=
  match pfncIndex format with
  | some f => pfncBits f
  | none => if pixfmt < 6 then pfncBits pixfmt else s.fresh % 64

/-- Byte at an offset of the block payload, if received. -/
def chunkByte (cs : List (Nat × List Nat)) (o : Nat) : Option Nat :=
  match cs.find? fun c => c.1 ≤ o && o < c.1 + c.2.length with
  | some c => c.2[o - c.1]?
  | none => none

/-- Every byte from offset a, n of them, if all are received. -/
def chunkBytes (cs : List (Nat × List Nat)) (a n : Nat) : Option (List Nat) :=
  ((List.range n).map fun i => chunkByte cs (a + i)).mapM id

/-- Pixel p of a line whose bytes start at offset a (R177). -/
def unpackPixel (cs : List (Nat × List Nat)) (a bpp f p : Nat) : RawPixel :=
  let b0 := bpp * p / 8
  let b1 := (bpp * (p + 1) + 7) / 8
  match chunkBytes cs (a + b0) (b1 - b0) with
  | none => none
  | some l =>
    let v := ofLe l / 2 ^ (bpp * p % 8) % 2 ^ bpp
    match f with
    | 3 => some (v % 256, v / 256 % 256, v / 65536 % 256)
    | 4 => some (v / 65536 % 256, v / 256 % 256, v % 256)
    | 5 => some (v % 1024, v / 1024 % 1024, v / 1048576 % 1024)
    | _ => some (v, 0, 0)

/-- Close instant of a line closed by a packet: the capture brought back to the balls (R411, R434). -/
def campT0 (s : Block) (k : Nat) : Nat := s.ingressLt k

/-- The oldest open entry's line emitted (R183, R188). -/
def emitHead (s : Block) (k : Nat) (short long : Bool) (cause pixfmt : Nat) (px : List RawPixel)
    (t0 : Nat) : Block :=
  let c := s.camp k
  match c.entries with
  | [] => s
  | e :: rest =>
    let l : CamLine := ⟨e.line, e.edge % 2 ^ 32, e.epoch, e.width, e.expCut, short, long, cause, pixfmt, px, t0⟩
    let s := s.setCamp k { c with entries := rest, lines := (l :: c.lines).take 4096 }
    let u := uCamp k
    let s := (s.set u F.CAMP.STAT_OPEN rest.length).inc u F.CAMP.CNT_LINES_COUNT
    let s := if short then s.inc u F.CAMP.CNT_SHORT_COUNT else s
    let s := if long then s.inc u F.CAMP.CNT_LONG_COUNT else s
    if cause = 0 then s else (s.inc u F.CAMP.CNT_LOST_COUNT).flag u F.CAMP.FLAGS_LOST

/-- The oldest open entry emitted with every pixel filled, LOST with a cause. -/
def emitFilled (s : Block) (k cause : Nat) : Block :=
  match (s.camp k).entries with
  | [] => s
  | e :: _ => s.emitHead k false false cause e.vals.pixfmt (List.replicate e.vals.width none) s.lt

/-- Every open entry older than number n emitted, LOST with cause MISSING (R179, R181). -/
def emitOlder (s : Block) (k n : Nat) : Nat → Block
  | 0 => s
  | fuel + 1 =>
    match (s.camp k).entries with
    | e :: _ => if e.no < n then (s.emitFilled k 2).emitOlder k n fuel else s
    | [] => s

/-- The oldest open entry emitted as line i of the block (R184-R187). `upTo` is the number of the
line's bytes that count as due at its close, `tail` says that the block closed by its trailer with
no gap in packet IDs, `late` that the entry ran to TIMEOUT. -/
def emitBlockLine (s : Block) (k : Nat) (b : CampBlock) (e : TrigEntry) (i : Nat) (tail late : Bool) :
    Block :=
  let w := e.vals.width
  let a := i * b.lineBytes
  let got := (List.range b.lineBytes).map fun j => (chunkByte b.chunks (a + j)).isSome
  let last := (((List.range b.lineBytes).filter fun j => got.getD j false).getLast?.map (· + 1)).getD 0
  let n := Nat.min b.leader.sx w
  let px := (List.range w).map fun p =>
    if p < n && !b.badFormat then unpackPixel b.chunks a b.bpp b.pixfmt p else none
  let early := tail && decide (last < (b.bpp * w + 7) / 8)
  let short := decide (b.leader.sx < w) || early
  let long := decide (w < b.leader.sx) && !short
  let due := if tail || late then last else b.lineBytes
  let gap := (List.range due).any fun j => !got.getD j false
  let cut := late && decide (last < b.lineBytes)
  let cause := if gap then 1 else if cut then 3 else if b.badFormat then 4 else 0
  s.emitHead k short long cause b.pixfmt px (if cause = 0 then s.campT0 k else s.lt)

/-- Line i of the block in reassembly closes when its entry is open (R180, R184). -/
def closeLine (s : Block) (k : Nat) (tail : Bool) : Block :=
  let c := s.camp k
  match c.block with
  | none => s
  | some b =>
    let i := b.next
    let no := b.anchor + i
    let s := s.setCamp k { c with block := some { b with next := i + 1 } }
    match c.entries with
    | e :: _ =>
      if no < e.no ∨ c.nextNo ≤ no then s
      else (s.emitOlder k no (c.entries.length + 1)).emitBlockLine k b
        ((c.entries.find? fun x => x.no == no).getD e) i tail false
    | [] => s

/-- Lines of the block close up to line n. -/
def closeLines (s : Block) (k n : Nat) (tail : Bool) : Nat → Block
  | 0 => s
  | fuel + 1 =>
    match (s.camp k).block with
    | some b => if b.next < Nat.min n b.lines then (s.closeLine k tail).closeLines k n tail fuel else s
    | none => s

/-- The block closes (R176): its open lines close at once; the next block by order follows the last entry it mapped,
also where a trailer names fewer lines than were mapped (R179). -/
def closeBlock (s : Block) (k : Nat) (tail : Bool) : Block :=
  match (s.camp k).block with
  | none => s
  | some b =>
    let s := if b.ended then s else s.closeLines k b.lines tail (b.lines + 1)
    let c := s.camp k
    s.setCamp k { c with block := none, nextMap := b.anchor + Nat.max b.lines b.next }

/-- Changes of the stream's state, each of which raises CAMP_STREAM (R199). -/
def campGo (s : Block) (k st : Nat) : Block :=
  if s.campState k = st then s
  else (s.set (uCamp k) F.CAMP.STAT_STATE st).flagRaise (uCamp k) F.CAMP.FLAGS_STATE_CHANGE

/-- The port enters ARMED. -/
def campArm (s : Block) (k : Nat) : Block :=
  let c := s.camp k
  (s.setCamp k { c with armedLeader := false, armedBlock := false }).campGo k 2

/-- A block in progress when the stream leaves STREAMING: it takes no more packets, and its open
lines run to TIMEOUT (R199). -/
def campLeave (s : Block) (k : Nat) : Block :=
  let c := s.camp k
  match c.block with
  | some b => s.setCamp k { c with
      block := some { b with ended := true }, nextMap := b.anchor + b.lines }
  | none => s

/-- A tunnel frame begins once the transmitter is free: the port is UP and the device RUNNING (R145, R171). -/
def tunBegin (s : Block) (k : Nat) : Block :=
  let c := s.camp k
  if s.isRunning && s.getI uSerdes F.SERDES.PORT_STAT_STATE k == 8 && !(nth s.mbx.tunTx k []).isEmpty then
    s.setCamp k { c with tunOn := true }
  else s

/-- The camera port's link comes UP (R199). -/
def campLinkUp (s : Block) (k : Nat) : Block :=
  let s := s.tunBegin k
  if s.campState k = 1 then s.campArm k else s

/-- The camera port's link leaves UP (R199). -/
def campLinkDown (s : Block) (k : Nat) : Block :=
  let s := s.setCamp k { s.camp k with tunOn := false, txWait := [] }
  if 2 ≤ s.campState k then (s.campLeave k).campGo k 1 else s

/-- STREAM_EN in force changes or is re-evaluated (R199). -/
def campEnable (s : Block) (k : Nat) : Block :=
  if s.on (uCamp k) F.CAMP.STREAM_CFG_STREAM_EN then
    if s.campState k = 0 then
      let s := s.campGo k 1
      if s.getI uSerdes F.SERDES.PORT_STAT_STATE k = 8 then s.campArm k else s
    else s
  else if s.campState k = 0 then s else (s.campLeave k).campGo k 0

/-- The anchor by order (R179, R181): `missing` blocks are passed over. -/
def anchorByOrder (s : Block) (k missing : Nat) : Nat :=
  let c := s.camp k
  if c.armedBlock then c.nextMap + missing * (c.leader.map (·.sy)).getD 0
  else match c.entries with
    | e :: _ => e.no
    | [] => c.nextNo

/-- The anchor by time, if an open entry qualifies (R179). -/
def anchorByTime (s : Block) (k : Nat) (v : CampVals) (ts : Nat) : Option Nat :=
  let conv := s.shortOfClock ts
  let diff (e : TrigEntry) : Nat :=
    (sext 32 (wrapN 32 ((conv : Int) - v.tsOff - (e.edge : Int)))).natAbs
  let cand := (s.camp k).entries.filter fun e => diff e ≤ v.tsWin
  (cand.foldl (fun best e =>
    match best with
    | none => some e
    | some b => if diff e < diff b then some e else some b) none).map (·.no)

/-- Blocks skipped before a block with an ID (R181). -/
def blocksMissing (c : CampSt) (id : Nat) : Nat :=
  match c.lastId with
  | some l => id - (l + 1)
  | none => 0

/-- A block is opened at an anchor: gap count, older entries emitted, LAST_BLOCK (R179, R181). -/
def openBlock (s : Block) (k id : Nat) (ld : Leader) (v : CampVals) (anchor : Nat) (bad : Bool) : Block :=
  let u := uCamp k
  let s := s.addI u F.CAMP.CNT_BLOCK_GAP_COUNT 0 (blocksMissing (s.camp k) id)
  let s := s.emitOlder k anchor ((s.camp k).entries.length + 1)
  let bpp := s.blockBits ld.format v.pixfmt
  let s := if (pfncIndex ld.format).isSome || v.pixfmt < 6 then s else s.took
  let b : CampBlock := {
    id := id, leader := ld, anchor := anchor, lines := ld.sy, bpp := bpp
    lineBytes := ld.sx * bpp / 8 + ld.padx, pkt := v.pkt, badFormat := bad
    pixfmt := v.pixfmt, lastPid := 0, lastPayload := none, next := 0, chunks := [], spilt := [], ended := false }
  let c := s.camp k
  let s := s.setCamp k { c with block := some b, lastId := some id, armedBlock := true }
  (s.set u F.CAMP.LAST_BLOCK_LO_ID (id % 2 ^ 32)).set u F.CAMP.LAST_BLOCK_HI_ID (id / 2 ^ 32)

/-- Whether a leader disagrees with PIXFMT or is no image leader (R187). -/
def leaderBad (ld : Leader) (pixfmt : Nat) : Bool :=
  ld.payloadType != 1 || pfncIndex ld.format != some pixfmt

/-- A block ID not later than the last block opened (R176). -/
def blockOld (c : CampSt) (id : Nat) : Bool :=
  match c.lastId with
  | some l => decide (id ≤ l)
  | none => false

/-- A leader reaches reassembly (R176, R179, R181, R187, R199). -/
def gvspLeader (s : Block) (k id ts : Nat) (ld : Leader) : Block :=
  if s.campState k < 2 || blockOld (s.camp k) id then s.gvspDrop k
  else
    let s := s.closeBlock k false
    let v := s.blockVals k
    let u := uCamp k
    let bad := leaderBad ld v.pixfmt
    let s := if bad then s.flag u F.CAMP.FLAGS_FORMAT_MISMATCH else s
    let missing := blocksMissing (s.camp k) id
    let missing := if (s.camp k).armedBlock then missing else 0
    let order := s.anchorByOrder k missing
    let (anchor, s) :=
      if v.byTime then
        match s.anchorByTime k v ts with
        | some n => (n, s)
        | none => (order, (s.flag u F.CAMP.FLAGS_TS_MISMATCH).inc u F.CAMP.CNT_TS_MISS_COUNT)
      else (order, s)
    let s := s.openBlock k id ld v anchor bad
    let c := s.camp k
    (s.setCamp k { c with leader := some ld, armedLeader := true }).campGo k 3

/-- Length of payload packet n of a block of B bytes in packets of P, if it may exist (R175). -/
def packetLength (total p n : Nat) : Option Nat :=
  if n = 0 ∨ p = 0 then none
  else
    let last := (total + p - 1) / p
    if last < n then none else if n = last then some (total - (last - 1) * p) else some p

/-- Bytes of line i discarded (R180): counted once for the line as late, its entry emitted, or as extra, its entry not
yet issued. -/
def spill (s : Block) (k i : Nat) (late : Bool) : Block :=
  let c := s.camp k
  match c.block with
  | none => s
  | some b =>
    if b.spilt.contains (i, late) then s
    else (s.setCamp k { c with block := some { b with spilt := (i, late) :: b.spilt } }).inc (uCamp k)
      (if late then F.CAMP.CNT_LATE_COUNT else F.CAMP.CNT_EXTRA_COUNT)

/-- The bytes of a packet at offset o that belong to line i: assembled while its entry is open, else discarded; the line
closes with its last byte (R180). -/
def takeLine (s : Block) (k o : Nat) (data : List Nat) (i : Nat) : Block :=
  let c := s.camp k
  match c.block with
  | none => s
  | some b =>
    let from_ := Nat.max o (i * b.lineBytes)
    let to_ := Nat.min (o + data.length) ((i + 1) * b.lineBytes)
    let no := b.anchor + i
    let s :=
      if c.nextNo ≤ no then s.spill k i false
      else if c.entries.any fun e => e.no == no then
        s.setCamp k { c with block := some { b with
          chunks := b.chunks ++ [(from_, (data.drop (from_ - o)).take (to_ - from_))] } }
      else s.spill k i true
    if to_ = (i + 1) * b.lineBytes then s.closeLines k (i + 1) false (b.lines + 1) else s

/-- A payload packet accepted into the open block, line by line (R175, R180). -/
def takePayload (s : Block) (k pid : Nat) (data : List Nat) : Block :=
  let c := s.camp k
  match c.block with
  | none => s
  | some b =>
    let o := (pid - 1) * b.pkt
    let s := s.setCamp k { c with block := some { b with lastPid := pid, lastPayload := some pid } }
    if b.lineBytes = 0 ∨ data.length = 0 then s
    else
      let i := o / b.lineBytes
      (List.range ((o + data.length - 1) / b.lineBytes + 1 - i)).foldl (fun s j => s.takeLine k o data (i + j)) s

/-- The first payload packet of a block whose leader was lost (R181). -/
def lostLeader (s : Block) (k id pid : Nat) (data : List Nat) : Block :=
  match (s.camp k).leader with
  | none => s.gvspDrop k
  | some ld =>
    let v := s.blockVals k
    let bpp := s.blockBits ld.format v.pixfmt
    if packetLength (ld.sy * (ld.sx * bpp / 8 + ld.padx)) v.pkt pid = some data.length then
      let s := s.closeBlock k false
      let missing := if (s.camp k).armedBlock then blocksMissing (s.camp k) id else 0
      let s := s.inc (uCamp k) F.CAMP.CNT_LEADER_LOST_COUNT
      (s.openBlock k id ld v (s.anchorByOrder k missing) (leaderBad ld v.pixfmt)).takePayload k pid data
    else s.gvspDrop k

/-- A payload packet (R175, R176, R181). `overflow`: the reassembly buffer has no room, and the
packet is lost (R168). -/
def gvspPayload (s : Block) (k id pid : Nat) (data : List Nat) (overflow : Bool) : Block :=
  let c := s.camp k
  if overflow then s
  else if s.campState k < 2 || !c.armedLeader then s.gvspDrop k
  else match c.block with
    | some b =>
      if b.id = id ∧ b.ended = false then
        if b.lastPid < pid ∧ packetLength (b.lines * b.lineBytes) b.pkt pid = some data.length then
          s.takePayload k pid data
        else s.gvspDrop k
      else if blockOld c id then s.gvspDrop k
      else s.lostLeader k id pid data
    | none => if blockOld c id then s.gvspDrop k else s.lostLeader k id pid data

/-- A trailer (R176, R184). -/
def gvspTrailer (s : Block) (k id pid sizeY : Nat) : Block :=
  let c := s.camp k
  match c.block with
  | some b =>
    if 2 ≤ s.campState k ∧ b.id = id ∧ b.ended = false ∧ b.lastPid < pid then
      let s := s.setCamp k { c with block := some { b with lines := Nat.min b.lines sizeY, lastPid := pid } }
      s.closeBlock k (b.lastPayload == some (pid - 1))
    else s.gvspDrop k
  | none => s.gvspDrop k

/-- The oldest open entry emitted with what its line has received, LOST with cause TIMEOUT or an
earlier one (R182, R178). -/
def emitTimedOut (s : Block) (k : Nat) : Block :=
  let c := s.camp k
  match c.entries, c.block with
  | e :: _, some b =>
    if b.anchor + b.next = e.no ∧ b.next < b.lines then s.emitBlockLine k b e b.next false true
    else s.emitFilled k 3
  | _, _ => s.emitFilled k 3

/-- An entry still open TIMEOUT_US after its rising edge (R182). -/
def entryTimeout (s : Block) (k : Nat) : Block :=
  match (s.camp k).entries with
  | e :: _ => if e.edge + e.vals.timeout * 1000 ≤ s.lt then s.emitTimedOut k else s
  | [] => s

/-- An entry appended for a trigger pulse while the stream is not OFF (R178). -/
def appendEntry (s : Block) (k line edge epoch width : Nat) (cut : Bool) : Block :=
  if s.campState k = 0 then s
  else
    let s := if 1024 ≤ (s.camp k).entries.length then
      (s.flag (uCamp k) F.CAMP.FLAGS_QUEUE_FULL).emitTimedOut k else s
    let c := s.camp k
    let v := s.campVals k
    let es := c.entries ++ [⟨c.nextNo, line, edge, epoch, width, cut, v⟩]
    (s.setCamp k { c with entries := es, nextNo := c.nextNo + 1, newest := some v }).set
      (uCamp k) F.CAMP.STAT_OPEN es.length

end Block
end Sys2Proof.Machine
end

