-- ==== Sys2Proof/Machine/Mail.lean ====
section
/-! DEFINITION. Mailbox traffic between host and firmware: the outbox of stores, replies and
notices, and the taking of requests (R507-R518, R534). -/

namespace Sys2Proof.Machine
namespace Block

/-- FULL of word mailbox F2H_m. -/
def f2hFull (s : Block) (m : Nat) : Bool := bit (s.get uBar2 F.MBXB.WSTAT_F2H_FULL) m

/-- FULL of word mailbox H2F_m. -/
def h2fFull (s : Block) (m : Nat) : Bool := bit (s.get uBar2 F.MBXB.WSTAT_H2F_FULL) m

/-- Stores of the outbox carried out in order until one meets a full mailbox or an unreleased
block (R508, R509, R513). -/
def pumpOut (s : Block) : Nat → Block
  | 0 => s
  | fuel + 1 =>
    match s.mbx.outbox with
    | [] => s
    | .word m w :: rest =>
      if s.f2hFull m then s
      else
        let s : Block := { s with mbx := { s.mbx with outbox := rest } }
        let s := (s.setI uBar2 F.MBXB.F2H_DATA m w).setBitI uBar2 F.MBXB.WSTAT_F2H_FULL 0 m
        (if m = 0 then s.msix 57 else s).pumpOut fuel
    | .block ws :: rest =>
      if s.onI uBar2 F.MBXB.BLK_CTL_GO 1 then s
      else
        let s : Block := { s with mbx := { s.mbx with outbox := rest, block1 := storeWriteN (fun _ => 0) s.mbx.block1 0 ws } }
        let s := (s.setI uBar2 F.MBXB.BLK_CTL_LENGTH 1 (4 * ws.length)).setI uBar2 F.MBXB.BLK_CTL_GO 1 1
        (s.msix 58).pumpOut fuel

/-- Stores put at the end of the outbox, and carried out as far as they go. -/
def post (s : Block) (l : List OutStore) : Block :=
  let s : Block := { s with mbx := { s.mbx with outbox := s.mbx.outbox ++ l } }
  s.pumpOut (s.mbx.outbox.length + 1)

/-- The stores of a message: payload words first, then the header, when it fits the word path;
otherwise block 1 (R514). -/
def messageStores (typ tag : Nat) (payload : List Nat) : List OutStore :=
  let hdr := typ % 256 + tag % 256 * 256 + 4 * payload.length * 65536
  if payload.length ≤ 15 then
    ((List.range payload.length).map fun i => OutStore.word (i + 1) (payload.getD i 0)) ++ [.word 0 hdr]
  else [.block (hdr :: payload)]

/-- A message from firmware to the host. -/
def send (s : Block) (typ tag : Nat) (payload : List Nat) : Block :=
  s.post (messageStores typ tag payload)

/-- A notice (R534). -/
def notice (s : Block) (typ : Nat) (payload : List Nat) : Block := s.send typ 0 payload

/-- First payload word of a reply (R514). -/
def replyWord (result second detail : Nat) : Nat :=
  result % 256 + second % 256 * 256 + detail % 65536 * 65536

/-- The reply to a request: RESULT, the second byte, DETAIL, further words (R514, R516). -/
def replyFull (s : Block) (typ tag result second detail : Nat) (extra : List Nat) : Block :=
  let s : Block := if result = 0 then s else s.inc uMbx F.MBX.CNT_NOT_OK_COUNT
  s.send (typ + 0x80) tag (replyWord result second detail :: extra)

/-- The reply to a request with RESULT and DETAIL. -/
def reply (s : Block) (typ tag result detail : Nat) (extra : List Nat) : Block :=
  s.replyFull typ tag result 0 detail extra

/-- A message of this firmware for that of another device (R521, R572); it waits for an inbox slot (R549). -/
def peerSend (s : Block) (dest hdr : Nat) (payload : List Nat) : Block :=
  let q := lookupD dest 0 s.ring.mseq
  { s with ring := { s.ring with
      mseq := bindK dest ((q + 1) % 65536) s.ring.mseq
      waiting := s.ring.waiting ++ [⟨4, dest, 0x20, s.devAddr, le 2 q ++ [0, 0] ++ le 4 hdr ++ payload.flatMap (le 4)⟩] } }

/-- The reply to a request of the host, or of another device's firmware (R514, R521). -/
def answer (s : Block) (peer : Option Nat) (typ tag result second detail : Nat) (extra : List Nat) : Block :=
  match peer with
  | none => s.replyFull typ tag result second detail extra
  | some a => s.peerSend a (typ + 0x80 + tag * 256 + (4 + 4 * extra.length) * 65536) (replyWord result second detail :: extra)

/-- Catalogue codes (R522). -/
def catalogue : List Nat :=
  [0x01, 0x02, 0x03, 0x10, 0x11, 0x12, 0x13, 0x20, 0x21, 0x22, 0x23, 0x24, 0x25, 0x26, 0x30, 0x31, 0x32,
   0x33, 0x40, 0x50, 0x51, 0x52, 0x53, 0x54, 0x55, 0x56]

/-- LEN is that of the TYPE (R522, R523, R526): the entries of STAGE_COMMIT and CONTROL are COUNT, at most
169. -/
def lenOk (typ len : Nat) (ws : List Nat) : Bool :=
  let w := ws.getD 0 0
  let n := if typ = 0x10 then bits w 31 24 else bits w 7 0
  if [0x01, 0x02, 0x03].contains typ then len == 0
  else if typ = 0x10 ∧ bit w 13 = true then len == 4 && n == 0
  else if typ = 0x10 ∨ typ = 0x11 then len == 4 + 12 * n && n ≤ 169
  else if typ = 0x12 then len == 8
  else if typ = 0x13 then len == 12
  else if typ = 0x20 ∨ typ = 0x21 then len == 32
  else if [0x22, 0x23, 0x25, 0x26].contains typ then len == 4
  else if [0x24, 0x32, 0x40].contains typ then len == 16
  else if typ = 0x30 ∨ typ = 0x31 then len == 24
  else if typ = 0x33 then 4 ≤ len && len ≤ 60 && len % 4 == 0
  else len == 264

/-- Whether a request's TYPE and LEN are those of the catalogue (R514, R515). -/
def reqOk (typ len : Nat) (ws : List Nat) : Bool := catalogue.contains typ && lenOk typ len ws

/-- Requests at the front that are none of the catalogue are answered BAD_MESSAGE in their turn (R514, R516). -/
def answerBad (s : Block) : Nat → Block
  | 0 => s
  | fuel + 1 =>
    match s.mbx.held with
    | r :: rest =>
      if r.ok then s
      else (({ s with mbx := { s.mbx with held := rest } } : Block).reply r.typ r.tag 6 0 []).answerBad fuel
    | [] => s

/-- A request joins those held (R516, R518). `fits`: LEN is that of the message its path carried. -/
def holdReq (s : Block) (hdr : Nat) (fits : Bool) (ws : List Nat) : Block :=
  let typ := hdr % 256
  let tag := hdr / 256 % 256
  let s := s.inc uMbx F.MBX.CNT_REQ_COUNT
  let s : Block := { s with mbx := { s.mbx with
    held := s.mbx.held ++ [⟨typ, tag, ws, fits && reqOk typ (hdr / 65536) ws⟩] } }
  s.answerBad (s.mbx.held.length)

/-- Firmware may take a request from its inbox (R79, R507, R518). -/
def mayTake (s : Block) : Bool := s.isRunning && decide (s.mbx.held.length < 32)

/-- Firmware reads a request delivered on the word path (R507, R514). -/
def takeWord (s : Block) : Block :=
  if s.mbx.wordWaiting.isSome && s.mayTake then
    let hdr := s.getI uBar2 F.MBXB.H2F_DATA 0
    let n := Nat.min (hdr / 65536 / 4) 15
    let ws := (List.range n).map fun i => s.getI uBar2 F.MBXB.H2F_DATA (i + 1)
    let s := (List.range (n + 1)).foldl (fun s i => s.clrBitI uBar2 F.MBXB.WSTAT_H2F_FULL 0 i) s
    { s with mbx := { s.mbx with wordWaiting := none } }.holdReq hdr (decide (hdr / 65536 ≤ 60)) ws
  else s

/-- Words of a block buffer of `size` words as LENGTH gives them; what lies beyond the buffer is no part of it,
and the spec gives no value there. -/
def blockWords (s : Block) (m : List (Nat × Nat)) (size len : Nat) : List Nat :=
  (List.range (len / 4)).map fun i =>
    if i < size then storeRead (fun _ => 0) m i else Config.free s.freeCtr / 2 ^ (32 * i) % 2 ^ 32

/-- Firmware reads a request delivered in block 0 and releases the block (R509, R514). -/
def takeBlock (s : Block) : Block :=
  if s.mbx.blockWaiting.isSome && s.mayTake then
    let len := s.getI uBar2 F.MBXB.BLK_CTL_LENGTH 0
    let ws := s.blockWords s.mbx.block0 512 len
    let hdr := ws.getD 0 0
    let s := s.took.setI uBar2 F.MBXB.BLK_CTL_GO 0 0
    { s with mbx := { s.mbx with blockWaiting := none } }.holdReq hdr (decide (len = 4 + hdr / 65536)) (ws.drop 1)
  else s

/-- Firmware reads its inbox in order of arrival, the word path first of two that came together (R516). -/
def takeInbox (s : Block) : Block :=
  match s.mbx.wordWaiting, s.mbx.blockWaiting with
  | some w, some b => if s.since b ≤ s.since w then s.takeWord.takeBlock else s.takeBlock.takeWord
  | _, _ => s.takeWord.takeBlock

/-- The first held request of a type and tag removed. -/
def dropReq (typ tag : Nat) : List Req → List Req
  | [] => []
  | r :: l => if r.typ = typ ∧ r.tag = tag then l else r :: dropReq typ tag l

/-- Firmware starts a request: it leaves those held, which makes room in the inbox (R516, R518). -/
def serve (s : Block) (typ tag : Nat) : Block :=
  let s : Block := { s with mbx := { s.mbx with held := dropReq typ tag s.mbx.held } }
  (s.answerBad s.mbx.held.length).takeInbox

/-- A reply that waits for an event or a long run (R516, R517). -/
def defer (s : Block) (typ : Nat) (m : Msg) (u : Option UnitId) (core : Nat) : Block :=
  { s with mbx := { s.mbx with deferred := s.mbx.deferred ++ [⟨⟨typ, m.tag, m.words, true⟩, u, core, false, none, none, none⟩] } }

/-- The first deferred reply of a type and tag. -/
def findDeferred (s : Block) (typ tag : Nat) : Option Deferred :=
  s.mbx.deferred.find? fun d => d.req.typ == typ && d.req.tag == tag

/-- The state without a deferred reply. -/
def dropDeferred (s : Block) (d : Deferred) : Block :=
  { s with mbx := { s.mbx with deferred := s.mbx.deferred.erase d } }

/-- A deferred request answered; its reply is discarded when a host-port reset came between
(R519). -/
def replyDeferred (s : Block) (d : Deferred) (result second detail : Nat) (extra : List Nat) : Block :=
  let s := s.dropDeferred d
  if d.silent then s else s.answer d.peer d.req.typ d.req.tag result second detail extra

/-- Long requests (R517). -/
def isLong (typ : Nat) : Bool := [0x30, 0x31, 0x32, 0x33, 0x40].contains typ || (0x50 ≤ typ && typ ≤ 0x56)

/-- A long request is running (R517). -/
def longRunning (s : Block) : Bool := s.mbx.deferred.any fun d => isLong d.req.typ

end Block
end Sys2Proof.Machine
end

