-- ==== Sys2Proof/Machine/Commit.lean ====
section
/-! DEFINITION. Staged values and commits (R41-R49). -/

namespace Sys2Proof.Machine
namespace Block

/-- The staged value of a register: as written, else the value in force (R41). -/
def stagedVal (s : Block) (u : UnitId) (off : Nat) : Nat :=
  match findK (regKey u off) s.staged with
  | some w => w.toNat
  | none => s.rd u off

/-- A word's STAGE fields over the other bits of another. -/
def stageMerge (t : UnitType) (off old new : Nat) : Nat :=
  (t.fieldsAt off).foldl (fun w f => if f.acc == .stage then putBits w f.hi f.lo (bits new f.hi f.lo) else w) old

/-- A staged write (R41). -/
def stagePut (s : Block) (u : UnitId) (off v : Nat) : Block :=
  { s with staged := bindK (regKey u off) (BitVec.ofNat 32 (stageMerge u.ty off (s.stagedVal u off) v)) s.staged }

/-- The unit and offset of a register's key. -/
def keyParts (k : Nat) : Option (UnitId × Nat) := (keyUnit k).map fun u => (u, k % 0x4000)

/-- Staged registers of a subtree that differ from the value in force. -/
def stagedDiffs (s : Block) (a : UnitId) : List (UnitId × Nat × Nat) :=
  s.staged.filterMap fun p =>
    (keyParts p.1).bind fun q =>
      if q.1.under a && p.2.toNat != s.rd q.1 q.2 then some (q.1, q.2, p.2.toNat) else none

/-- The boundary a staged register asks for: the coarsest of its fields that differ (R43). -/
def regBoundary (s : Block) (d : UnitId × Nat × Nat) : Boundary :=
  (d.1.ty.fieldsAt d.2.1).foldl (fun b f =>
    match f.bnd with
    | some c => if bits d.2.2 f.hi f.lo ≠ bits (s.rd d.1 d.2.1) f.hi f.lo then b.coarser c else b
    | none => b) .line

/-- The boundary type in force for a commit at a unit (R43). -/
def commitBoundary (s : Block) (u : UnitId) (b : Boundary) : Boundary :=
  u.acceptBoundary ((s.stagedDiffs u).foldl (fun b d => b.coarser (s.regBoundary d)) b)

/-- The pending commit at a unit or at one above or below it (R46). -/
def relatedCommit (s : Block) (u : UnitId) : Option Commit := s.commits.find? fun c => c.unit.related u

/-- A pending commit whose subtree holds the unit: staged writes there are refused (R46). -/
def coveringCommit (s : Block) (u : UnitId) : Option Commit := s.commits.find? fun c => u.under c.unit

/-- A commit or staged write refused (R46, R47). -/
def refuseCommit (s : Block) (m : Master) (u : UnitId) (off : Nat) (pending : UnitId) (how : Nat) : Block :=
  (s.set u F.COMMON.COMMIT_STAT_REFUSED 1).logBy m u 5 2 (regAddress u off) pending.index how

/-- Units of a subtree a commit has to reach: those that hold staged fields, or the commit unit alone. -/
def commitUnits (u : UnitId) : List UnitId :=
  match u.subtree.filter fun x => x.ty.hasStage with
  | [] => [u]
  | l => l

/-! ## Lines and units (R42, R44) -/

/-- Line counter a comes before b, modulo 2^48. -/
def lineBefore (a b : Nat) : Bool := a != b && decide ((b + 2 ^ 48 - a) % 2 ^ 48 < 2 ^ 47)

/-- Line b equals or follows line a. -/
def lineFrom (a b : Nat) : Bool := a == b || lineBefore a b

/-- Whether every line enters the unit when it is triggered: TRIG and WEB, a port, whose entry takes the values in force
there (R648), the units that work on triggers and page starts, and those that carry no line (R42). Lines reach a context,
the stitch, Tango, SEG, TAG and the archive of HOST after that (log entry 90). -/
def atTrigger (u : UnitId) : Bool :=
  match u.ty with
  | .ctx | .stitch | .tango | .seg | .tag | .host => false
  | _ => true

/-- Whether a line can be the effective line of a commit (R42, R43): `pageLine` its page line index, `first`
whether it is the first of its page. -/
def onBoundary (b : Boundary) (pageLine : Nat) (first : Bool) : Bool :=
  match b with
  | .line => true
  | .block => first || pageLine % 16 == 0
  | .page | .epoch => first

/-- Page counter a has come to page b, modulo 2^32. -/
def pageCame (a b : Nat) : Bool := decide ((a + 2 ^ 32 - b) % 2 ^ 32 < 2 ^ 31)

/-- Whether a line can be the effective line of a commit: a ring-level one waits for its page (R48). -/
def mayBeEff (c : Commit) (page pageLine : Nat) (first : Bool) : Bool :=
  onBoundary c.bnd pageLine first && (match c.page with
    | some p => pageCame page p
    | none => true)

/-- Whether a line triggered now is the effective line of a commit: it has none yet, and the line enters after the write
(R42). -/
def takesTrigger (c : Commit) (d : Decided) : Bool :=
  c.eff.isNone && decide (c.at_ < d.at_) && mayBeEff c d.page d.pageLine d.first

/-- Staged values of a unit come into force (R42, R44). While fields that must agree differ for want of one commit the
unit works from the two values as they stand (log entry 82). -/
def applyStaged (s : Block) (u : UnitId) : Block :=
  let mine := s.staged.filter fun p => (keyUnit p.1) == some u
  let s := { s with staged := s.staged.filter fun p => (keyUnit p.1) != some u }
  mine.foldl (fun s p => s.wr u (p.1 % 0x4000) (stageMerge u.ty (p.1 % 0x4000) (s.rd u (p.1 % 0x4000)) p.2.toNat)) s

/-- A commit that brings a line new values at a unit it has still to reach: the line equals or follows its effective
line. -/
def brings (c : Commit) (u : UnitId) (line : Nat) : Bool :=
  c.todo.contains u && (c.eff.map fun e => lineFrom e.1 line).getD false

/-- Values kept for a line of a unit that comes before the effective line of a commit, the newest commit's first. -/
def pastOf (s : Block) (u : UnitId) (line : Nat) : List PastVals :=
  s.trig.past.filter fun p => p.unit == u && lineBefore line p.line

/-- The state with the values of a unit in force for a line (R44). -/
def valsAt (s : Block) (u : UnitId) (line : Nat) : Block :=
  if s.commits.any fun c => brings c u line then s.applyStaged u
  else (s.pastOf u line).foldl (fun s p => p.words.foldl (fun s w => s.wr u w.1 w.2) s) s

/-- A unit's work on a line, done with the values in force for that line (R44). -/
def atLine (s : Block) (u : UnitId) (line : Nat) (f : Block → Block) : Block :=
  match s.pastOf u line with
  | [] => f s
  | l => (l.flatMap fun p => p.words).foldl (fun t w => t.wr u w.1 (s.rd u w.1)) (f (s.valsAt u line))

/-- A context takes port k's line, by the values in force for it (R273, R278, R279). -/
def takesLine (s : Block) (x k line : Nat) : Bool :=
  let t := s.valsAt (uCtx x) line
  t.on (uCtx x) F.CTX.SRC_EN && t.get (uCtx x) F.CTX.SRC_CAMP == k

/-- Whether a triggered line reaches a unit after its trigger, or is still to do so (R42): not a row kept out; a context
takes it from the port that made an entry for it. -/
def carries (s : Block) (u : UnitId) (line : Nat) : Bool :=
  !atTrigger u && !s.keptOut line && (u.ty != .ctx || (List.range 12).any fun k =>
    ((s.camp k).entries.any (·.line == line) || (s.camp k).lines.any (·.line == line)) && s.takesLine u.inst k line)

/-- The newest line that has entered a unit. -/
def lastIn (s : Block) (u : UnitId) : Option Nat := (s.trig.inside.find? fun p => p.1 == u).map (·.2)

/-- A line has entered a unit. -/
def noteIn (s : Block) (u : UnitId) (line : Nat) : Block :=
  let newer := match s.lastIn u with
    | some l => lineBefore l line
    | none => true
  if newer then { s with trig := { s.trig with inside := (u, line) :: s.trig.inside.filter fun p => p.1 != u } } else s

/-- A triggered line that has not entered a commit unit yet, and will (R42). -/
def notYetIn (s : Block) (u : UnitId) (line : Nat) : Bool :=
  let us := commitUnits u
  (us.all fun x => !atTrigger x && match s.lastIn x with
    | some l => lineBefore l line
    | none => true) && us.any fun x => s.carries x line

/-- The line in flight that is the effective line of a commit written now, if one is (R42): the oldest one on a boundary
that has still to enter the commit unit. An epoch commit waits for the next page start. -/
def effInFlight (s : Block) (c : Commit) : Option Decided :=
  if c.bnd = .epoch then none
  else s.trig.lines.reverse.find? fun d => mayBeEff c d.page d.pageLine d.first && s.notYetIn c.unit d.line

/-- The effective line fixed: COMMIT_LINE and COMMIT_PAGE (R43). -/
def commitFix (s : Block) (u : UnitId) (line page : Nat) : Block :=
  let s := (s.wr u 0x4C (line % 2 ^ 32)).wr u 0x50 (line / 2 ^ 32 % 2 ^ 16)
  s.wr u 0x54 page

/-- An accepted commit (R42, R45). -/
def commitStart (s : Block) (u : UnitId) (b : Boundary) (tag : Nat) : Block :=
  let b := s.commitBoundary u b
  let s := ((s.set u F.COMMON.COMMIT_STAT_PENDING 1).set u F.COMMON.COMMIT_STAT_BOUNDARY b.rank).set
    u F.COMMON.COMMIT_STAT_TAG tag
  let c : Commit := ⟨u, b, none, commitUnits u, false, none, 0, s.lt⟩
  match s.effInFlight c with
  | none => { s with commits := s.commits ++ [c] }
  | some d => { s.commitFix u d.line d.page with commits := s.commits ++ [{ c with eff := some (d.line, d.page) }] }

/-- A write to COMMIT by the owner (R42, R46). -/
def commitWrite (s : Block) (m : Master) (u : UnitId) (b : Boundary) (tag : Nat) : Block :=
  match s.relatedCommit u with
  | some c => s.refuseCommit m u 0x44 c.unit 0
  | none => s.commitStart u b tag

/-- Replies of R524 that wait for `PENDING` of a unit: the commit done, with its epoch number (R525), or
withdrawn. -/
def commitReply (s : Block) (u : UnitId) (done skew : Bool) (epoch : Nat) : Block :=
  (s.mbx.deferred.filter fun d => d.unit == some u && !(d.req.typ == 0x10 && bit (d.req.words.getD 0 0) 13)).foldl
    (fun s d =>
      if done then
        s.replyDeferred d 0 (s.get u F.COMMON.COMMIT_STAT_BOUNDARY + 4 * b2n skew) (if d.req.typ = 0x12 then epoch else 0)
          [s.rd u 0x4C, s.rd u 0x50, s.rd u 0x54]
      else s.replyDeferred d 9 0 0 [0, 0, 0]) s

/-- Whether a commit's effective line has yet to enter its commit unit (R47). -/
def notEntered (c : Commit) : Bool := !c.entered

/-- A pending commit withdrawn (R47). -/
def commitDrop (s : Block) (c : Commit) : Block :=
  let s := { s with commits := s.commits.erase c }
  ((s.set c.unit F.COMMON.COMMIT_STAT_PENDING 0).set c.unit F.COMMON.COMMIT_STAT_CANCELLED 1).commitReply
    c.unit false false 0

/-- A withdrawal (R47). -/
def commitCancel (s : Block) (m : Master) (u : UnitId) : Block :=
  match s.commits.find? fun c => c.unit == u && notEntered c with
  | some c => s.commitDrop c
  | none => s.refuseCommit m u 0x44 (((s.relatedCommit u).map Commit.unit).getD u) 1

/-- The effective line has entered every unit of the subtree (R42, R45). -/
def commitDone (s : Block) (c : Commit) (skew : Bool) : Block :=
  let s := { s with commits := s.commits.erase c }
  ((s.set c.unit F.COMMON.COMMIT_STAT_PENDING 0).set c.unit F.COMMON.COMMIT_STAT_DONE 1).commitReply
    c.unit true skew c.epoch

/-- A new exposure epoch at the line an epoch commit takes effect (R197). -/
def epochAdvance (s : Block) (line : Nat) : Block :=
  if s.trig.epochLine = some line then s
  else
    let s := { s with trig := { s.trig with epochLine := some line } }
    (s.set uTrig F.TRIG.EPOCH_NUMBER (s.get uTrig F.TRIG.EPOCH_NUMBER + 1)).set
      uTrig F.TRIG.FLAGS_EPOCH 1 |>.raise 10

/-- A commit replaced by its later self. -/
def commitSet (s : Block) (c c' : Commit) : Block :=
  { s with commits := s.commits.map fun x => if x = c then c' else x }

/-- The line about to be triggered is the first at or after another. A line decided and never triggered leaves its part to
the next (R568). -/
def firstFrom (s : Block) (e line : Nat) : Bool :=
  lineFrom e line && match s.trig.lines.head? with
    | some d => lineBefore d.line e
    | none => true

/-- A line is triggered: it is the effective line of every commit that waits for one and may take it (R42, R43). The
effective line of an epoch commit opens an epoch (R197). -/
def commitTrigger (s : Block) (d : Decided) : Block :=
  s.commits.foldl (fun s c =>
    let (c1, s) : Commit × Block := if takesTrigger c d then
        let c' := { c with eff := some (d.line, d.page) }
        (c', (s.commitFix c.unit d.line d.page).commitSet c c')
      else (c, s)
    if c1.bnd = .epoch && (c1.eff.map fun e => s.firstFrom e.1 d.line).getD false then
      let s := s.epochAdvance d.line
      s.commitSet c1 { c1 with epoch := s.get uTrig F.TRIG.EPOCH_NUMBER }
    else s) s

/-- Whether a line brings a unit the values of a commit. -/
def enters (s : Block) (u : UnitId) (line : Nat) : Bool := s.commits.any fun c => brings c u line

/-- One commit takes effect at a unit with a line (R42, R44): lines before its effective line keep the values they have.
At a ring window `PENDING` falls only by the members' answers (R48), and the commit stays with no unit to reach. -/
def commitReach (s : Block) (c : Commit) (u : UnitId) : Block :=
  let old := (s.staged.filter fun p => (keyUnit p.1) == some u).map fun p => (p.1 % 0x4000, s.rd u (p.1 % 0x4000))
  let c' := { c with todo := c.todo.erase u, entered := true }
  let s := (s.applyStaged u).commitSet c c'
  let s : Block := match atTrigger u, c.eff with
    | false, some (l, _) => { s with trig := { s.trig with past := (⟨u, l, old⟩ :: s.trig.past).take 256 } }
    | _, _ => s
  if c'.todo.isEmpty && c'.page.isNone then s.commitDone c' false else s

/-- A line enters a unit: every commit whose effective line it equals or follows takes effect there (R42, R279). -/
def enterUnit (s : Block) (u : UnitId) (line : Nat) : Block :=
  s.commits.foldl (fun s c => if brings c u line then s.commitReach c u else s) s

/-- A line enters a unit that lines reach after their trigger. -/
def lineInto (s : Block) (u : UnitId) (line : Nat) : Block := (s.enterUnit u line).noteIn u line

end Block
end Sys2Proof.Machine
end

