-- ==== Sys2Proof/Machine/Datagram.lean ====
section
/-! DEFINITION. Datagrams of the line port (R404). -/

namespace Sys2Proof.Machine
namespace Block

/-- The records of the next datagram: at most 45 and 1,456 bytes, in order (R404). -/
def dgramTake : List Rec → Nat → Nat → List Rec
  | [], _, _ => []
  | r :: rest, n, room =>
    if n = 0 ∨ room < r.size then [] else r :: dgramTake rest (n - 1) (room - r.size)

/-- An ARP reply leaves the line port; tagged, its priority is not stated (R228). -/
def arpOut (s : Block) (f : List Nat) : Block :=
  match s.lportTag (s.fresh % 8) with
  | some t => s.took.emit (.frame 12 (f.take 12 ++ [0x81, 0x00] ++ be 2 t ++ f.drop 12))
  | none => s.emit (.frame 12 f)

/-- The ARP replies that wait leave once no Class A record waits (R228). -/
def arpFlush (s : Block) : Block :=
  if s.tag.lportQ.isEmpty then s.tag.arpWait.foldl arpOut { s with tag := { s.tag with arpWait := [] } } else s

/-- The next datagram leaves the line port; its tags wait for their bound (R404, R434). -/
def datagramOut (s : Block) : Block :=
  let rs := dgramTake s.tag.lportQ 45 1456
  if rs.isEmpty || !s.lportUp then s
  else
    let at_ := s.egressLt 12
    let env := [0x4B, 0x41, 0x01, rs.length] ++ le 2 s.devAddr ++ le 2 (b2n s.tag.restart) ++ le 4 s.tag.dgram ++
      le 4 (at_ % 2 ^ 32)
    let seqs := rs.filterMap fun r => match r with | .tag t => some t.seq | _ => none
    let (now, later) := s.tag.timed.partition fun t => seqs.contains t.seq
    let s := s.emit (.datagram s.lportMac s.lportIp (s.get uLport F.LPORT.DST_UDP_SRC)
      (s.get uLport F.LPORT.DST_MAC_HI_OCTETS * 2 ^ 32 + s.get uLport F.LPORT.DST_MAC_LO_OCTETS)
      (s.get uLport F.LPORT.DST_IPV4_ADDR) (s.get uLport F.LPORT.DST_UDP_DST)
      (s.lportTag (s.get uLport F.LPORT.TX_CFG_PCP_A)) (env ++ rs.flatMap Rec.bytes))
    let s : Block := { s with tag := { s.tag with
      lportQ := s.tag.lportQ.drop rs.length, restart := false, dgram := (s.tag.dgram + 1) % 2 ^ 32, timed := later
      meas := s.tag.meas ++ now.map fun t => ⟨t, at_⟩ } }
    (s.addI uTag F.TAG.CNT_LPORT_COUNT 0 seqs.length).arpFlush

/-- At most n datagrams. -/
def datagramsOut (s : Block) : Nat → Block
  | 0 => s
  | n + 1 => s.datagramOut.datagramsOut n

end Block
end Sys2Proof.Machine
end

