-- ==== Sys2Proof/Machine/Errlog.lean ====
section
/-! DEFINITION. The writing of the error log (R589-R591, R594). -/

namespace Sys2Proof.Machine
namespace Block

/-- a − b as a signed 32-bit difference is positive (R597). -/
def seqAfter (a b : Nat) : Bool := let d := (a + 2 ^ 32 - b % 2 ^ 32) % 2 ^ 32; 0 < d && d < 2 ^ 31

/-- An occurrence joins the newest entry in place of being written (R591). -/
def errlogMerges (s : Block) (o : ErrOcc) : Bool :=
  match s.errlog.entries.getLast? with
  | some e => e.unit == o.unit && e.code == o.code && e.master == o.master && e.arg0 == o.arg0 &&
      (decide ((o.lt + 2 ^ 64 - s.errlog.lastMerge) % 2 ^ 64 ≤ 1000000) ||
       decide ((o.lt + 2 ^ 64 - e.lt) % 2 ^ 64 ≤ 1000000))
  | none => false

/-- The oldest waiting occurrence is written, or merged into the newest entry (R589-R591, R594). -/
def errlogPut (s : Block) : Block :=
  match s.errlog.waiting with
  | [] => s
  | o :: rest =>
    let s : Block := { s with errlog := { s.errlog with waiting := rest } }
    if s.errlogMerges o then
      { s with errlog := { s.errlog with
          entries := upd s.errlog.entries (s.errlog.entries.length - 1)
            fun (e : ErrEntry) => { e with rep := Nat.min 0xFFFF (e.rep + 1) }
          lastMerge := o.lt } }
    else
      let q := s.get uErrlog F.ERRLOG.WR_SEQ_SEQ
      let e : ErrEntry := ⟨q, o.lt, o.unit, o.code, o.master, o.sev, 0, o.arg0, o.arg1, o.arg2⟩
      let ack := s.get uErrlog F.ERRLOG.HOST_ACK_SEQ
      let full := decide (1024 ≤ s.errlog.entries.length)
      let lost := full && (match s.errlog.entries with | a :: _ => seqAfter a.seq ack | [] => false)
      let s : Block := if lost then (s.inc uErrlog F.ERRLOG.CNT_LOST_COUNT).set uErrlog F.ERRLOG.FLAGS_LOST 1 else s
      let l := (if full then s.errlog.entries.drop 1 else s.errlog.entries) ++ [e]
      let s : Block := { s with errlog := { s.errlog with entries := l, lastMerge := o.lt, wrote := some s.lt } }
      let s := (s.set uErrlog F.ERRLOG.WR_SEQ_SEQ ((q + 1) % 2 ^ 32)).set uErrlog F.ERRLOG.STAT_HELD l.length
      let s := s.set uErrlog F.ERRLOG.OLDEST_SEQ_SEQ (match l with | a :: _ => a.seq | [] => q)
      let s := s.raise 28
      if seqAfter q ack && s.on uErrlog F.ERRLOG.HOST_CFG_IRQ_EN then s.msix 62 else s

/-- ERRLOG_WRITE: an entry is written at most every 20 ns (R589). -/
def errlogWrite (s : Block) : Block :=
  match s.errlog.waiting with
  | [] => s
  | o :: _ =>
    if !(s.errlogMerges o) && (s.errlog.wrote.map fun t => decide (s.since t < 20)).getD false then s else s.errlogPut

/-- Every occurrence that waits is written (R137). -/
def errlogFlush (s : Block) : Block := (List.range s.errlog.waiting.length).foldl (fun s _ => s.errlogPut) s

end Block
end Sys2Proof.Machine
end

