-- ==== Sys2Proof/Machine/Gates.lean ====
section
/-! DEFINITION. The gate tree and closed islands (R101-R106, R511). -/

namespace Sys2Proof.Machine

/-- Parent of a gate node (R101). -/
def gateParent (g : Nat) : Option Nat :=
  if g = 3 ∨ g = 4 ∨ g = 5 ∨ g = 6 then some 1
  else if 7 ≤ g ∧ g ≤ 22 then some 6
  else if g = 23 ∨ g = 36 ∨ g = 40 ∨ g = 41 then some 2
  else if 24 ≤ g ∧ g ≤ 35 then some 23
  else if 37 ≤ g ∧ g ≤ 39 then some 36
  else none

/-- Gateable nodes (R101). -/
def gateable (g : Nat) : Bool := g == 4 || (6 ≤ g && g ≤ 40)

/-- Children of a node. -/
def gateChildren (g : Nat) : List Nat := (List.range 42).filter fun c => gateParent c == some g

/-- Ancestors of a node, the root first (R104). -/
def gateAncestors (g : Nat) : List Nat :=
  match gateParent g with
  | none => []
  | some p => match gateParent p with
    | none => [p]
    | some q => match gateParent q with
      | none => [q, p]
      | some r => [r, q, p]

/-- The node of a serial port p, 0-15 (R142): cameras 24-35, WEST, EAST, uplink 37-39, line port 40. -/
def portNode (p : Nat) : Nat := if p < 12 then 24 + p else if p < 15 then 25 + p else 40

/-- The node whose island holds a unit's registers, if any (R105). The lanes lie in the island of
their port; log entry 6. -/
def unitNode (u : UnitId) : Option Nat :=
  if u.ty = .lane then some (portNode (u.inst / 4)) else none

namespace Block

/-- The node's clock runs. -/
def nodeOpen (s : Block) (g : Nat) : Bool := s.onI uClk F.CLK.GATE_OPEN g

/-- The node and every ancestor run and the node takes new accesses (R102). -/
def islandOpen (s : Block) (g : Nat) : Bool :=
  s.nodeOpen g && !(s.clk.closing.contains g) && (gateAncestors g).all fun a => s.nodeOpen a

/-- A unit's registers at 0x0100 and above answer (R105). -/
def unitOpen (s : Block) (u : UnitId) : Bool :=
  match unitNode u with
  | some g => s.islandOpen g
  | none => true

/-- A node opened: its clock runs and its close request is gone. PLL_DDR is enabled with node 6 (R101). -/
def openNode (s : Block) (g : Nat) : Block :=
  let s := (s.setI uClk F.CLK.GATE_OPEN g 1).setI uClk F.CLK.GATE_CLOSE g 0
  if g = 6 then
    { s.set uClk F.CLK.SRC_STAT_DDR_LOCK (b2n (!s.clk.ddrFailed)) with clk := { s.clk with ddrAt := some s.lt } }
  else s

/-- GATE_g with IN_USE (R102): 0 of a closed node, 1 while its accepted close waits. Whether an access in its islands is
in progress otherwise, `wild` says (log entry 84). -/
def gateWord (s : Block) (g w wild : Nat) : Nat :=
  putBits w F.CLK.GATE_IN_USE.hi F.CLK.GATE_IN_USE.lo
    (if s.clk.closing.contains g then 1 else b2n (s.nodeOpen g && bit wild 0))

/-- An accepted close that still waits is abandoned (R104, R511). -/
def abandonClose (s : Block) (g : Nat) : Block :=
  { s with clk := { s.clk with closing := s.clk.closing.filter (· != g) } }.setI uClk F.CLK.GATE_CLOSE g 0

/-- An open request: every closed ancestor from the root downward, then the node (R104). A node on that path whose
accepted close still waits is open and takes accesses again: its close is abandoned, with neither REFUSED nor TIMEOUT
set (log entry 84). -/
def openPath (s : Block) (g : Nat) : Block :=
  (gateAncestors g ++ [g]).foldl
    (fun s n =>
      let s := if s.clk.closing.contains n then s.abandonClose n else s
      if s.nodeOpen n then s else s.openNode n) s

end Block
end Sys2Proof.Machine
end

