-- ==== Sys2Proof/Machine/CalTap.lean ====
section
/-! DEFINITION. What a running calibration procedure takes from the units it measures (R604, R605). -/

namespace Sys2Proof.Machine
namespace Block

/-- The state with the running procedure changed. -/
def calUpd (s : Block) (f : CalRun → CalRun) : Block := { s with cal := { s.cal with run := s.cal.run.map f } }

/-- A value added to item i of a sum list. -/
def addSum (l : List (Int × Nat)) (i : Nat) (v : Int) : List (Int × Nat) := upd l i fun p => (p.1 + v, p.2 + 1)

/-- SENSE_OFS and SENSE_GAIN take the outputs of their channel before calibration, until ARG0 are used. -/
def calSense (s : Block) (c : Nat) (y : Int) : Block :=
  match s.cal.run with
  | some r =>
    if (r.proc = 3 ∨ r.proc = 4) ∧ r.target = c ∧ r.n < r.args.getD 0 0 then
      s.calUpd fun r => { r with n := r.n + 1, sums := addSum r.sums 0 y }
    else s
  | none => s

/-- THERMAL takes 256 conversions of every working sensor. -/
def calThermal (s : Block) (k : Nat) (raw : Int) : Block :=
  match s.cal.run with
  | some r =>
    if r.proc = 6 ∧ (r.sums.getD k (0, 0)).2 < 256 then s.calUpd fun r => { r with sums := addSum r.sums k raw }
    else s
  | none => s

/-- LANE takes 64 readings of every lane of its port. -/
def calLane (s : Block) (p l h w loss : Nat) : Block :=
  match s.cal.run with
  | some r =>
    if r.proc = 1 ∧ r.target = p ∧ (r.mins.getD l (0, 0, 0, 0)).1 < 64 then
      s.calUpd fun r => { r with mins := upd r.mins l fun (n, mh, mw, sl) =>
        (n + 1, Nat.min mh h, Nat.min mw w, sl + loss) }
    else s
  | none => s

/-- ENCODER takes the samples of its encoder. -/
def calEncoder (s : Block) (e : Nat) (y x : Int) : Block :=
  match s.cal.run with
  | some r => if r.proc = 5 ∧ r.target = e then
      s.calUpd fun r => { r with n := r.n + 1, samples := (y, x) :: r.samples } else s
  | none => s

/-- The registers of context x whose change ends BLACK, FLAT and SEAM (R605). -/
def calSnap (s : Block) (x : Nat) : List Nat :=
  [F.CTX.SRC_EN, F.CTX.SPAN_COL_FIRST, F.CTX.FMT_PIXFMT, F.CTX.NR_CFG_SP_EN, F.CTX.TABLE_BANK,
    F.CTX.GEO_CFG_GEO_BANK].map fun f => s.rd (uCtx x) f.off

/-- BLACK and FLAT take a line of their context: its noise-reduced values by pixel and component, none where FILL
(R605). `use`: neither LOST nor EXP_CUT. -/
def calLine (s : Block) (x epoch : Nat) (use : Bool) (px : List (Option (Int × Int × Int))) : Block :=
  match s.cal.run with
  | some r =>
    if (r.proc = 8 ∨ r.proc = 9) ∧ r.target = x ∧ r.n < r.args.getD 0 0 then
      if (s.calSnap x).take 5 ≠ r.snap.take 5 ∨ r.epoch.getD epoch ≠ epoch then s.calUpd fun r => { r with fail := true }
      else if !use then s.calUpd fun r => { r with epoch := some epoch }
      else
        s.calUpd fun r => { r with
          epoch := some epoch
          n := r.n + 1
          sums := ((List.range px.length).zip px).foldl (fun l p =>
            match p.2 with
            | some (a, b, c) => addSum (addSum (addSum l (3 * p.1) a) (3 * p.1 + 1) b) (3 * p.1 + 2) c
            | none => l) r.sums }
    else s
  | none => s

/-- Right context of the seam of left context k, and of the ring seam for k = 32 (R314, R604). -/
def seamRight (s : Block) (k : Nat) : Option Nat :=
  let first (x : Nat) : Nat := s.get (uCtx x) F.CTX.GEO_OUT_FIRST
  let l := (List.range 32).filter fun x => s.on (uCtx x) F.CTX.SRC_EN && s.get (uCtx x) F.CTX.GEO_KEEP_COUNT != 0 &&
    (k == 32 || (x != k && first k ≤ first x && first x < first k + s.get (uCtx k) F.CTX.GEO_KEEP_COUNT))
  l.foldl (fun m x => match m with
    | none => some x
    | some y => if first x < first y then some x else some y) none

/-- The registers of both sides of a seam that must not change. -/
def seamSnap (s : Block) (k : Nat) : List Nat :=
  (if k < 32 then s.calSnap k else []) ++ ((s.seamRight k).map s.calSnap).getD []

/-- SEAM takes a line of its seam: sums of the difference and of its absolute value, and the columns where neither
side is FILL (R317, R604). -/
def calSeam (s : Block) (k epoch : Nat) (use : Bool) (d : Int) (a n : Nat) : Block :=
  match s.cal.run with
  | some r =>
    if r.proc = 11 ∧ r.target = k ∧ r.n < r.args.getD 0 0 then
      if s.seamSnap k ≠ r.snap ∨ r.epoch.getD epoch ≠ epoch then s.calUpd fun r => { r with fail := true }
      else if !use then s.calUpd fun r => { r with epoch := some epoch }
      else s.calUpd fun r => { r with
        epoch := some epoch
        n := r.n + 1
        sums := [((r.sums.getD 0 (0, 0)).1 + d, (r.sums.getD 0 (0, 0)).2 + n),
          ((r.sums.getD 1 (0, 0)).1 + (a : Int), (r.sums.getD 1 (0, 0)).2 + n)] }
    else s
  | none => s

/-- Starting CTLE values of the LANE procedure: a port that enters OFF takes those measured for its lanes (R604). -/
def ctleArm (s : Block) (p : Nat) : Block :=
  { s with cal := { s.cal with ctle := s.cal.ctle.map fun (i, v, on) => (i, v, on || i / 4 == p) } }

/-- The starting CTLE of the lanes of a port as bring-up begins. -/
def ctleStart (s : Block) (p : Nat) : Block :=
  s.cal.ctle.foldl (fun s e => if e.2.2 && e.1 / 4 == p then s.set (uLane e.1) F.LANE.EQ_CTLE e.2.1 else s) s

end Block
end Sys2Proof.Machine
end

