-- ==== Sys2Proof/Machine/RingLink.lean ====
section
/-! DEFINITION. The Sidias links: flits and their acknowledgement, messages, routes, the start of an
enumeration (R541-R553, R562, R563). Links: 0 WEST, 1 EAST, 2 UPLINK. -/

namespace Sys2Proof.Machine

/-- Distance from position a eastward to b in a ring of n positions. -/
def eastOf (n a b : Nat) : Nat := if n = 0 then 0 else (b + n - a % n) % n

/-- Positions passed going east from a to b that are in a mask, b included and a not. -/
def stepsEast (n mask a b : Nat) : Nat :=
  ((List.range (eastOf n a b)).filter fun i => bit mask ((a + i + 1) % n)).length

/-- Whether every live position passed going east from a up to but not including b has its eastward
link used. -/
def openEast (n live used a b : Nat) : Bool :=
  (List.range (eastOf n a b)).all fun i => !bit live ((a + i) % n) || bit used ((a + i) % n)

/-- Number of ones among the 32 low bits. -/
def pop32 (v : Nat) : Nat := (onesBelow 32 v).length

/-- Class of a message type (R546), if it is one. -/
def ringClass (typ : Nat) : Option Nat :=
  if 1 ≤ typ ∧ typ ≤ 8 then some 1
  else if typ = 0x10 then some 2
  else if typ = 0x11 then some 3
  else if 0x20 ≤ typ ∧ typ ≤ 0x25 then some 4
  else if typ = 0x30 then some 5
  else if typ = 0x31 then some 6
  else none

/-- The link at rest, as at every entry of its port into UP. -/
def RingLink.fresh : RingLink :=
  { txSeq := 0, rxSeq := 0xFFF, nak := false, queue := [], replay := [], slot := 0, nakSeq := 0,
    nakCount := 0, replays := [], progress := 0, parts := [], ident := none, denied := false,
    used := false, identAt := 0, time := ⟨0, 0, 0, 0, 0, 0, none, none⟩ }

/-- n bytes of a list from offset o as a number, little-endian. -/
def leAt (b : List Nat) (o n : Nat) : Nat := ofLe ((b.drop o).take n)

/-- A tag record from its 96 bytes (R403). -/
def tagOfBytes (b : List Nat) : TagRec :=
  { cls := leAt b 2 1, actions := leAt b 3 1, device := leAt b 4 2, flags := leAt b 6 2, seq := leAt b 8 4,
    loc := leAt b 12 4, stamp := leAt b 16 4, stampClose := leAt b 20 4, line := leAt b 24 6,
    height := leAt b 30 2, page := leAt b 32 4, job := leAt b 36 4, pageLine := leAt b 40 4,
    col := leAt b 44 4, width := leAt b 48 4, area := leAt b 52 4, deMax := leAt b 56 2,
    deMean := leAt b 58 2, dlMean := sext 16 (leAt b 60 2), strong := leAt b 62 2, cenCol := leAt b 64 4,
    cenLine := leAt b 68 4, peakCol := leAt b 72 4, peakLine := leAt b 76 4, live := leAt b 80 4,
    ref := leAt b 84 4, zone := leAt b 88 1 % 16, profile := leAt b 88 1 / 16, confMin := leAt b 89 1,
    folded := leAt b 90 2, closeLine := leAt b 92 4 }

namespace Block

/-- A link. -/
def link (s : Block) (l : Nat) : RingLink := nth s.ring.links l RingLink.fresh

/-- The state with a link changed. -/
def setLink (s : Block) (l : Nat) (f : RingLink → RingLink) : Block :=
  { s with ring := { s.ring with links := upd s.ring.links l f } }

/-- The Sidias port of a link is UP. -/
def linkUp (s : Block) (l : Nat) : Bool := s.getI uSerdes F.SERDES.PORT_STAT_STATE (12 + l) == 8

/-- A flit goes out on a link with the ACK and NAK of that moment (R541, R542). -/
def flitOut (s : Block) (l : Nat) (f : Flit) : Block :=
  let k := s.link l
  (s.emit (.flit l k.rxSeq k.nak f.seq f.cls f.first f.last f.dest f.payload)).setLink l
    fun k => { k with nak := false }

/-- An idle flit, which carries only ACK and NAK. -/
def idleOut (s : Block) (l : Nat) : Block := s.flitOut l ⟨0, 0, false, false, 0, []⟩

/-- The class a slot of 16 is reserved for (R544): slot 0 control, 1 Class A, 2 and 3 overlap; the
places of the reserved slots are a DESIGN CHOICE (log entry 7). -/
def slotClass (n : Nat) : Nat :=
  match n % 16 with
  | 0 => 1 | 1 => 2 | 2 => 3 | 3 => 3 | _ => 0

/-- The class served in a slot: the reserved one if it waits, else the first in the order of R544. -/
def slotServes (q : List Flit) (slot : Nat) : Option Nat :=
  if q.any (fun f => f.cls == slotClass slot) then some (slotClass slot)
  else [1, 2, 3, 4, 5, 6].find? fun c => q.any fun f => f.cls == c

/-- The first flit of a class taken out of the queue. -/
def takeClass (c : Nat) : List Flit → Option (Flit × List Flit)
  | [] => none
  | f :: r =>
    if f.cls = c then some (f, r)
    else (takeClass c r).map fun p => (p.1, f :: p.2)

/-- Flits leave until the queue is empty or the replay buffer full (R542, R544). -/
def pumpLink (s : Block) (l : Nat) : Nat → Block
  | 0 => s
  | fuel + 1 =>
    let k := s.link l
    if 64 ≤ k.replay.length || !s.linkUp l then s
    else
      match (slotServes k.queue k.slot).bind fun c => takeClass c k.queue with
      | none => s
      | some (f, rest) =>
        let f := { f with seq := k.txSeq }
        let s := s.setLink l fun k => { k with
          queue := rest, replay := k.replay ++ [f], txSeq := (k.txSeq + 1) % 4096, slot := (k.slot + 1) % 16
          progress := if k.replay.isEmpty then s.lt else k.progress }
        (s.flitOut l f).pumpLink l fuel

/-- The flits of a message (R541, R546). -/
def flitsOf (cls dest : Nat) (first : Bool) : Nat → List Nat → List Flit
  | 0, _ => []
  | fuel + 1, b =>
    let rest := b.drop 244
    ⟨0, cls, first, rest.isEmpty, dest, b.take 244⟩ ::
      (if rest.isEmpty then [] else flitsOf cls dest false fuel rest)

/-- Bytes of a message: header and body (R546). -/
def messageBytes (typ src : Nat) (body : List Nat) : List Nat :=
  [typ, 0] ++ le 2 body.length ++ le 2 src ++ le 2 0 ++ body

/-- A message put on a link. -/
def linkPut (s : Block) (l : Nat) (m : RingMsg) : Block :=
  if s.linkUp l then
    let b := messageBytes m.typ m.src m.body
    let s := s.setLink l fun k => { k with queue := k.queue ++ flitsOf m.cls m.dest true (b.length + 1) b }
    s.pumpLink l ((s.link l).queue.length + 1)
  else s

/-- A message sent on a link: a service message other than a MAILBOX one waits at the uplink for a slot of the gateway
beyond (R549, R572). -/
def linkSend (s : Block) (l : Nat) (m : RingMsg) : Block :=
  if l = 2 ∧ m.cls = 4 ∧ m.typ ≠ 0x20 ∧ s.linkUp 2 then { s with ring := { s.ring with uplq := s.ring.uplq ++ [m] } }
  else s.linkPut l m

/-- Service messages leave on the uplink, one for each slot (R549). -/
def uplRelease (s : Block) (slots : Nat) : Block :=
  (s.ring.uplq.take slots).foldl (fun s m => s.linkPut 2 m)
    { s with ring := { s.ring with uplq := s.ring.uplq.drop slots } }

/-- `RING.CFG.SIZE`. -/
def ringSize (s : Block) : Nat := s.get uRing F.RING.CFG_SIZE

/-- `RING.CFG.POS`. -/
def ringPos (s : Block) : Nat := s.get uRing F.RING.CFG_POS

/-- `RING.STAT.STATE`: 0 ALONE, 1 INSERT, 2 ENUM, 3 RUN. -/
def ringState (s : Block) : Nat := s.get uRing F.RING.STAT_STATE

/-- Live positions of the first-level ring or segment. -/
def ringLive (s : Block) : Nat := s.get uRing F.RING.MEMBERS_LIVE

/-- The RESULT in force at a level. -/
def ringResult (s : Block) (level : Nat) : Option ResultMsg := findK level s.ring.results

/-- Whether a link is used (R552). -/
def usedLink (s : Block) (l : Nat) : Bool := s.linkUp l && (s.link l).used

/-- Direction inside the ring of this device toward a member's position: fewest used links, east on
a tie (R562). -/
def routeIn (s : Block) (pos : Nat) : Option Nat :=
  let n := s.ringSize
  let live := s.ringLive
  let used := ((s.ringResult 1).map ResultMsg.usedE).getD 0
  if !bit live pos then none
  else
    let e := openEast n live used s.ringPos pos
    let w := openEast n live used pos s.ringPos
    let de := stepsEast n live s.ringPos pos
    let dw := stepsEast n live pos s.ringPos
    if e && (!w || de ≤ dw) && s.usedLink 1 then some 1
    else if w && s.usedLink 0 then some 0
    else none

/-- Links from this device to a member of its ring, by the route (R562). -/
def hopsIn (s : Block) (pos : Nat) : Option Nat :=
  if pos = s.ringPos then some 0
  else match s.routeIn pos with
    | some 1 => some (stepsEast s.ringSize s.ringLive s.ringPos pos)
    | some _ => some (stepsEast s.ringSize s.ringLive pos s.ringPos)
    | none => none

/-- The level at which an address differs from this device's: 1 same ring, 2 same second-level
ring, 3 otherwise. -/
def levelOf (s : Block) (addr : Nat) : Nat :=
  if addr / 32 = s.devAddr / 32 then 1 else if addr / 1024 = s.devAddr / 1024 then 2 else 3

/-- The position of the west (false) or east gateway of the ring. -/
def gateway (s : Block) (east : Bool) : Option Nat :=
  (s.ringResult 1).bind fun r =>
    let g := if east then r.gwE else r.gwW
    if g = 0xFF then none else some g

/-- Direction toward a gateway; UPLINK at the gateway itself. -/
def routeGate (s : Block) (east : Bool) : Option Nat :=
  (s.gateway east).bind fun g =>
    if g = s.ringPos then (if s.usedLink 2 then some 2 else none) else s.routeIn g

/-- Which way a unicast to another ring leaves this one (R562): the path of fewest rings, east on a tie (log
entry 7). -/
def eastFirst (s : Block) (addr : Nat) : Bool :=
  if s.levelOf addr = 2 then
    let n := s.get uRing F.RING.NEST_SIZE2
    decide (2 * eastOf n (s.get uRing F.RING.NEST_POS2) (addr / 32 % 32) ≤ n)
  else
    let n := s.get uRing F.RING.NEST_SIZE3
    decide (2 * eastOf n (s.get uRing F.RING.NEST_POS3) (addr / 1024) ≤ n)

/-- The link on which a unicast leaves (R562). -/
def routeTo (s : Block) (addr : Nat) : Option Nat :=
  if s.levelOf addr = 1 then s.routeIn (addr % 32)
  else s.routeGate (s.eastFirst addr) <|> s.routeGate (!s.eastFirst addr)

/-- The position in this ring whose receive space a unicast needs: the destination's, or that of the gateway it
leaves by (R549). -/
def spaceAt (s : Block) (addr : Nat) : Option Nat :=
  if s.levelOf addr = 1 then some (addr % 32)
  else
    let e := s.eastFirst addr
    if (s.routeGate e).isSome then s.gateway e else if (s.routeGate (!e)).isSome then s.gateway (!e) else none

/-- A message with no route (R562). -/
def misroute (s : Block) : Block := s.inc uRing F.RING.CNT_MISROUTE_COUNT

/-- A unicast leaves this device, or is discarded for want of a route. -/
def unicast (s : Block) (addr typ : Nat) (body : List Nat) : Block :=
  match ringClass typ, s.routeTo addr with
  | some c, some l => s.linkSend l ⟨c, addr, typ, s.devAddr, body⟩
  | _, _ => s.misroute

/-- Where a broadcast entered this ring: the sender itself, or the gateway it came in by. -/
def entryPos (s : Block) (src : Nat) : Nat :=
  match s.levelOf src with
  | 1 => src % 32
  | 2 =>
    let n := s.get uRing F.RING.NEST_SIZE2
    let east := 2 * eastOf n (src / 32 % 32) (s.get uRing F.RING.NEST_POS2) ≤ n
    (s.gateway (!east)).getD s.ringPos
  | _ =>
    let n := s.get uRing F.RING.NEST_SIZE3
    let east := 2 * eastOf n (src / 1024) (s.get uRing F.RING.NEST_POS3) ≤ n
    (s.gateway (!east)).getD s.ringPos

/-- The links on which a broadcast goes on from this device (R562): both ways, east for half of the
members and west for the rest; in a segment to both ends; on the uplink when its scope passes it.
`from_` is the link it came in on. -/
def spread (s : Block) (src scope : Nat) (from_ : Option Nat) : List Nat :=
  let n := pop32 s.ringLive
  let p0 := s.entryPos src
  let whole := !s.on uRing F.RING.STAT_SEGMENTED
  let de := stepsEast s.ringSize s.ringLive p0 s.ringPos
  let dw := stepsEast s.ringSize s.ringLive s.ringPos p0
  let east := from_ != some 1 && s.usedLink 1 && (!whole || decide (de < n / 2))
  let west := from_ != some 0 && s.usedLink 0 && (!whole || decide (dw < (n - 1) / 2))
  let up := from_ != some 2 && s.usedLink 2 && decide (s.get uRing F.RING.UPL_CFG_LEVEL ≤ scope)
  (if east then [1] else []) ++ (if west then [0] else []) ++ (if up then [2] else [])

/-- A broadcast leaves this device. `scope` is 1, 2 or 3 (R541). -/
def broadcast (s : Block) (scope typ : Nat) (body : List Nat) : Block :=
  match ringClass typ with
  | some c => (s.spread s.devAddr scope none).foldl
      (fun s l => s.linkSend l ⟨c, s.devAddr + scope * 0x4000, typ, s.devAddr, body⟩) s
  | none => s

/-- Level of the topmost ring whose links a DEST word crosses: by the addresses, or by its SCOPE. -/
def destLevel (s : Block) (dest : Nat) : Nat := if dest < 0x4000 then s.levelOf dest else dest / 0x4000

/-- Class A messages to a DEST word are held: the ring is in ENUM, or they cross a link of a ring above that is being
enumerated (R432, R557). -/
def holdsA (s : Block) (dest : Nat) : Bool :=
  s.ringState == 2 || s.ring.upper.any fun k => decide (k ≤ s.destLevel dest)

/-- A Class A message held (R432, R563). The first 64 KiB stand in the hold buffer and the rest in the core, in their
order; nothing tells the two apart. -/
def holdA (s : Block) (m : RingMsg) : Block :=
  let s := if s.gov.holdSince.isSome then s else s.ringHoldStart.inc uRing F.RING.CNT_HOLD_COUNT
  { s with ring := { s.ring with held := s.ring.held ++ [m] } }

/-- A Class A message for another device; during a hold it is kept (R432, R563). -/
def sendClassA (s : Block) (addr : Nat) (body : List Nat) : Block :=
  if s.holdsA addr then s.holdA ⟨2, addr, 0x10, s.devAddr, body⟩ else s.unicast addr 0x10 body

/-- A service message for another device; it waits while the ring is in ENUM (R549). -/
def sendService (s : Block) (addr typ : Nat) (body : List Nat) : Block :=
  if s.ringState = 2 then
    { s with ring := { s.ring with waiting := s.ring.waiting ++ [⟨4, addr, typ, s.devAddr, body⟩] } }
  else s.unicast addr typ body

/-- Channel c's unsent export leaves as an EVENT message (R572, R579): to one device, or to every other member of
its scope. Reserved EXPORT values have no stated meaning and act as one of the others. -/
def exportSend (s : Block) (c : Nat) : Block :=
  match findK c s.evt.exports with
  | none => s
  | some e =>
    if s.ringState = 2 then s
    else
      let ex := s.getI uEvt F.EVT.CH_CFG_EXPORT c
      let (way, s) := if ex < 5 then (ex, s) else (s.fresh % 5, s.took)
      let body := [s.getI uEvt F.EVT.CH_CFG_EXPORT_CH c, ex] ++ le 2 (Nat.min e.coal 0xFFFF) ++ le 4 (e.lt % 2 ^ 32)
      let s : Block := { s with evt := { s.evt with exports := dropK c s.evt.exports } }
      if way = 0 then s
      else if way = 1 then s.unicast (s.getI uEvt F.EVT.CH_CFG_EXPORT_DEV c) 0x21 body
      else if s.ringState = 3 then s.broadcast (way - 1) 0x21 body
      else s

/-- Every unsent export leaves, as the ring runs again. -/
def exportsFlush (s : Block) : Block := (s.evt.exports.map (·.1)).foldl exportSend s

/-- The body of IDENT (R572). -/
def identBody (s : Block) (l : Nat) : List Nat :=
  le 8 s.fuses.deviceId ++ [l, s.ringPos, s.ringSize, s.get uRing F.RING.NEST_POS2,
    s.get uRing F.RING.NEST_SIZE2, s.get uRing F.RING.NEST_POS3, s.get uRing F.RING.NEST_SIZE3,
    s.get uRing F.RING.UPL_CFG_LEVEL + 4 * s.get uRing F.RING.UPL_CFG_SIDE] ++
    le 2 (s.get uRing F.RING.ENUM_EPOCH) ++ [s.ringState, s.get uRing F.RING.CFG_MERGE_PRIO, 0, 0, 0, 0]

/-- IDENT sent on a link (R572). -/
def identSend (s : Block) (l : Nat) : Block :=
  (s.linkSend l ⟨1, s.devAddr, 8, s.devAddr, s.identBody l⟩).setLink l
    fun k => { k with identAt := s.lt }

/-- The ENUM entry of this device (R553). Used links: [0] WEST, [1] EAST, [2] UPLINK (log entry 7). -/
def ownEntry (s : Block) : EnumEntry :=
  let up := s.usedLink 2
  let side := s.get uRing F.RING.UPL_CFG_SIDE
  ⟨s.ringPos,
   b2n s.lportUp + 2 * s.get uRing F.RING.CFG_POS_SRC + 4 * b2n (up && side == 0) + 8 * b2n (up && side == 1),
   s.get uRing F.RING.CFG_MERGE_PRIO,
   b2n (s.usedLink 0) + 2 * b2n (s.usedLink 1) + 4 * b2n up, s.fuses.deviceId⟩

/-- Bytes of an ENUM entry. -/
def entryBytes (e : EnumEntry) : List Nat :=
  [e.pos, e.flags, e.prio, e.links, 0, 0, 0, 0] ++ le 8 e.deviceId

/-- The body of ENUM (R572). -/
def enumBody (epoch initiator flags : Nat) (es : List EnumEntry) : List Nat :=
  le 2 epoch ++ le 2 initiator ++ [flags, es.length] ++ le 2 0 ++ es.flatMap entryBytes

/-- ENUM messages leave in both directions (R553); a half with no used link has already returned. -/
def enumSend (s : Block) : Block :=
  let epoch := (s.ring.epochSeen + 1) % 0x10000
  let own := s.ownEntry
  let half (s : Block) (l : Nat) (west : Bool) : Block :=
    if s.usedLink l then
      s.linkSend l ⟨1, s.devAddr + 0x4000, 2, s.devAddr, enumBody epoch s.devAddr (b2n west + 4) [own]⟩
    else { s with ring := { s.ring with halves := (west, [own]) :: s.ring.halves } }
  let s := { s with ring := { s.ring with sent := true, epochSeen := epoch, halves := [] } }
  half (half s 1 false) 0 true

/-- The member enters ENUM (R550): Reel pauses, Class A records that cross a link are held (R432). -/
def enumEnter (s : Block) (changed : List Nat) : Block :=
  let s := s.set uRing F.RING.STAT_STATE 2
  { s with ring := { s.ring with
      holdFrom := some s.lt, changed := changed, sent := false, halves := [], seen := [], again := [] } }

/-- A change that starts an enumeration (R550, R553): it joins the one waiting, follows the one sent, or
starts one. -/
def enumStart (s : Block) (l : Nat) : Block :=
  match s.ringState with
  | 3 => s.enumEnter [l]
  | 2 =>
    if s.ring.sent then { s with ring := { s.ring with again := s.ring.again ++ [l] } }
    else { s with ring := { s.ring with
      changed := if s.ring.changed.contains l then s.ring.changed else s.ring.changed ++ [l] } }
  | _ => s

/-- Partner registers of a link cleared. -/
def neighClear (s : Block) (l : Nat) : Block :=
  match l with
  | 0 => ((s.set uRing F.RING.NEIGH_W_VALID 0).set uRing F.RING.LINKS_WEST_USED 0)
  | 1 => ((s.set uRing F.RING.NEIGH_E_VALID 0).set uRing F.RING.LINKS_EAST_USED 0)
  | _ => s.set uRing F.RING.LINKS_UPL_USED 0

/-- A Sidias port enters UP: the link starts afresh and its ends exchange IDENT (R553). -/
def ringLinkUp (s : Block) (l : Nat) : Block :=
  ((s.setLink l fun _ => { RingLink.fresh with progress := s.lt }).neighClear l).identSend l

/-- What waited at the uplink has no route there any more (R562). -/
def uplinkLost (s : Block) : Block :=
  s.ring.uplq.foldl (fun s _ => s.misroute) { s with ring := { s.ring with uplq := [] } }

/-- A Sidias port leaves UP (R550). -/
def ringLinkDown (s : Block) (l : Nat) : Block :=
  let k := s.link l
  let s := (s.setLink l fun _ => RingLink.fresh).neighClear l
  let s := if l = 2 then s.uplinkLost else s
  if l < 2 && !k.denied then s.enumStart l else s

/-- A tag reaches this device's TAG unit to be sequenced (R400), with its t0 (R434). -/
def tagIn (s : Block) (r : TagRec) (t0 : Nat) : Block :=
  { s with tag := { s.tag with inbox := s.tag.inbox ++ [(r, t0)] } }

/-- The device leaves its ring: it is a device in no ring, its own merging device (R400, R551). -/
def ringAlone (s : Block) : Block :=
  let s := (((s.set uRing F.RING.STAT_STATE 0).set uRing F.RING.STAT_SEGMENTED 0).set
    uRing F.RING.STAT_LIVE 0).set uRing F.RING.MEMBERS_LIVE 0
  let s := (((s.set uRing F.RING.MERGE_1_VALID 0).set uRing F.RING.MERGE_2_VALID 0).set
    uRing F.RING.MERGE_3_VALID 0).set uRing F.RING.POSSRC_VALID 0
  let s := s.set uRing F.RING.STAT_HOPS_MERGE 0
  let s := s.ring.held.foldl (fun s m => s.tagIn (tagOfBytes m.body) (leAt m.body 96 8)) s.ringHoldEnd
  let s := (s.commits.filter fun c => c.page.isSome).foldl commitDrop s
  { s with devAddr := 0, ring := { s.ring with
      holdFrom := none, changed := [], again := [], sent := false, inserting := false, halves := [],
      results := [], waiting := [], held := [], reelOut := false, inbox := [], groups := [], own := [], upper := [], uplq := [] } }

/-- The bypass has closed: the device is dark to its ring (R151, R551, R561). -/
def ringBypassClosed (s : Block) : Block := if s.ringState = 0 then s else s.ringAlone

/-- The device address in the ring hierarchy (R35). -/
def ringAddress (s : Block) : Nat :=
  s.get uRing F.RING.CFG_POS + 32 * s.get uRing F.RING.NEST_POS2 + 1024 * s.get uRing F.RING.NEST_POS3

/-- The bypass is open on an inserting device (R551, R560), which takes its place in the ring (R35). -/
def ringInserted (s : Block) : Block :=
  if s.ringState = 1 then
    let s := { s with devAddr := s.ringAddress }.enumEnter [0, 1]
    { s with ring := { s.ring with inserting := true } }
  else s

/-- ALONE to INSERT (R551). -/
def ringTryInsert (s : Block) : Block :=
  if s.ringState = 0 && s.isRunning && s.on uRing F.RING.CFG_EN && nth s.boot.cores 2 false &&
      s.ring.retryFrom.isNone && !s.ring.noRetry then
    s.set uRing F.RING.STAT_STATE 1
  else s

end Block
end Sys2Proof.Machine
end

