-- ==== Sys2Proof/Machine/Serdes.lean ====
section
/-! DEFINITION. Serial lanes and the ring bypass: the port state machine, training frames, the lane
table, lane figures, the bypass switches (R140-R166). Ports by port code (R140). -/

namespace Sys2Proof.Machine
namespace Block

/-- STATE of a port (R165): 0 OFF, 1 SIGNAL, 2 CDR, 3 TRAIN, 4 ADAPT, 5 LOCK, 6 ALIGN, 7 CHECK,
8 UP, 9 HOLDOFF. -/
def portState (s : Block) (p : Nat) : Nat := s.getI uSerdes F.SERDES.PORT_STAT_STATE p

/-- MODE of a port. -/
def portMode (s : Block) (p : Nat) : Nat := s.getI uSerdes F.SERDES.PORT_CFG_MODE p

/-- A Sidias port (R140). -/
def sidias (p : Nat) : Bool := 12 ≤ p && p ≤ 14

/-- The lanes a port's MODE uses (R142). -/
def portLanes (s : Block) (p : Nat) : List Nat :=
  if p = 15 ∨ s.portMode p = 2 then [0] else [0, 1, 2, 3]

/-- Copper with training (R146). -/
def copperTrain (s : Block) (p : Nat) : Bool :=
  !sidias p && s.onI uSerdes F.SERDES.PORT_CFG_MEDIA p && s.onI uSerdes F.SERDES.PORT_CFG_TRAIN p

/-- The LANE unit of a port's lane (R140). -/
def laneOf (p l : Nat) : UnitId := uLane (4 * p + l)

/-- A field set on every used lane of a port. -/
def setLanes (s : Block) (p : Nat) (f : Field) (v : Nat) : Block :=
  (s.portLanes p).foldl (fun s l => s.set (laneOf p l) f v) s

/-- A fields' values set lane by lane. -/
def setLanesBy (s : Block) (p : Nat) (f : Field) (vs : List Nat) : Block :=
  (s.portLanes p).foldl (fun s l => s.set (laneOf p l) f (vs.getD l 0)) s

/-- The port's bit of `SERDES.LINK_EVT` and its event (R146). -/
def linkChanged (s : Block) (p : Nat) : Block :=
  (s.setBitI uSerdes F.SERDES.LINK_EVT_CHANGED 0 p).raise (32 + p)

/-- FAULTn released when host port and line port are up again after a reference failure (R100). -/
def refFaultRelease (s : Block) : Block :=
  if s.ser.refFault && s.on uHost F.HOST.LINK_UP && s.lportUp then
    let s : Block := { s with ser := { s.ser with refFault := false } }
    if s.isRunning then s.emit (.pin .faultn true) else s
  else s

/-- What a port's entry into UP means to its traffic (R83, R199, R404, R550). -/
def portTrafficUp (s : Block) (p : Nat) : Block :=
  if p < 12 then
    let s := s.unitWorks F.SYS.UNIT_FAIL_CAMP p
    s.campLinkUp p
  else if p = 15 then (s.unitWorks F.SYS.UNIT_FAIL_LPORT 0).refFaultRelease
  else s.ringLinkUp (p - 12)

/-- Class A records waiting for a line port that is no longer UP are discarded and counted (R404). -/
def lportDrop (s : Block) : Block :=
  let s : Block := { s with tag := { s.tag with arpWait := [] } }
  match s.tag.lportQ.length with
  | 0 => s
  | n =>
    let s := { s with tag := { s.tag with lportQ := [], timed := [] } }
    (s.addI uTag F.TAG.CNT_LPORT_DROP_COUNT 0 n).flag uTag F.TAG.FLAGS_LPORT_DROP

/-- What a port's departure from UP means to its traffic. -/
def portTrafficDown (s : Block) (p : Nat) : Block :=
  if p < 12 then
    let s := if s.isRunning then s.unitFail F.SYS.UNIT_FAIL_CAMP p else s
    s.campLinkDown p
  else if p = 15 then if s.isRunning then s.lportDrop.unitFail F.SYS.UNIT_FAIL_LPORT 0 else s.lportDrop
  else s.ringLinkDown (p - 12)

/-- The training of every lane of a Sidias port changed. -/
def sidLanes (s : Block) (p : Nat) (f : SidLane → SidLane) : Block :=
  if sidias p then
    { s with ser := { s.ser with sid := (List.range 4).foldl (fun l i => upd l (4 * (p - 12) + i) f) s.ser.sid } }
  else s

/-- The training of lane l of a Sidias port. -/
def sidLane (s : Block) (p l : Nat) : SidLane := nth s.ser.sid (4 * (p - 12) + l) ⟨0, 0, false, 0⟩

/-- Clears of a bring-up that ends: lane indications and FEC lock. -/
def portClear (s : Block) (p : Nat) : Block :=
  let s := (s.setI uSerdes F.SERDES.PORT_STAT_LANES_UP p 0).setI uSerdes F.SERDES.PORT_STAT_FEC_LOCK p 0
  let s := ((s.setLanes p F.LANE.STAT_SIG_DET 0).setLanes p F.LANE.STAT_CDR_LOCK 0).setLanes
    p F.LANE.STAT_EYE_VALID 0
  s.sidLanes p fun _ => ⟨0, 0, false, 0⟩

/-- Three taps on every used lane of a port. -/
def setTaps (s : Block) (p pre main post : Nat) : Block :=
  ((s.setLanes p F.LANE.EQ_PRE pre).setLanes p F.LANE.EQ_MAIN main).setLanes p F.LANE.EQ_POST post

/-- Copper training starts from Clause 72's "initialize" values (R155), which the spec does not give: free values. -/
def clause72Init (s : Block) (p : Nat) : Block :=
  (s.setTaps p (s.fresh % 16) (s.fresh / 16 % 64) (s.fresh / 1024 % 32)).took

/-- What the entry into a state means to the taps and the lanes of a port: Sidias taps restart at 4, 48, 11 with every
bring-up (R152), copper training at its initialize values (R155), and frame lock is found afresh in LOCK (R148). -/
def portEnter (s : Block) (p st : Nat) : Block :=
  let s := if st = 0 ∨ st = 9 then s.portClear p else s
  let s := if st = 1 ∧ sidias p = true then s.setTaps p 4 48 11 else s
  let s := if st = 3 ∧ s.copperTrain p = true then s.clause72Init p else s
  if st = 5 then
    (s.setI uSerdes F.SERDES.PORT_STAT_LANES_UP p (sumN ((s.portLanes p).map fun l => 2 ^ l))).sidLanes p
      fun (x : SidLane) => { x with found := false }
  else s

/-- The port passes to a state; entry into UP and departure from it are reported (R146). -/
def portGo (s : Block) (p st : Nat) : Block :=
  let old := s.portState p
  let s := s.setI uSerdes F.SERDES.PORT_STAT_STATE p st
  let s := { s with ser := { s.ser with since := upd s.ser.since p fun _ => s.lt } }
  let s := s.portEnter p st
  let s := if st = 0 then s.ctleArm p else if st = 1 then s.ctleStart p else s
  if old ≠ 8 ∧ st = 8 then
    let s := s.setI uSerdes F.SERDES.PORT_STAT_MISWIRE p 0
    (s.linkChanged p).portTrafficUp p
  else if old = 8 ∧ st ≠ 8 then
    let s := s.addI uSerdes F.SERDES.PORT_STAT_DOWN_COUNT p 1
    (s.linkChanged p).portTrafficDown p
  else s

/-- The conditions of R145 and R146 to leave OFF. -/
def portMayStart (s : Block) (p : Nat) : Bool :=
  s.portMode p != 0 && s.islandOpen (portNode p) && s.on uClk F.CLK.SRC_STAT_REF_OK &&
    (if sidias p then
      (if p = 14 then s.isRunning else s.on uSerdes F.SERDES.BYPASS_STAT_OPEN)
    else s.on uSerdes F.SERDES.TABLE_STAT_MATCH)

/-- A port in OFF starts bring-up when its conditions hold (R145). -/
def portEnable (s : Block) (p : Nat) : Block :=
  if s.portState p = 0 ∧ s.portMayStart p = true then s.portGo p 1 else s

/-- Every port whose conditions hold starts (R145, R100). -/
def portsEnable (s : Block) : Block := (List.range 16).foldl portEnable s

/-- A port enters OFF (R146, R151). -/
def portOff (s : Block) (p : Nat) : Block :=
  if s.portState p = 0 then s else s.portGo p 0

/-- Nanoseconds since a port entered its state. -/
def portAge (s : Block) (p : Nat) : Nat := s.since (nth s.ser.since p 0)

/-- Timeout of a bring-up state in ns, if it has one (R147). That of copper training starts at RUNNING, before which the
training cannot begin (R145). -/
def portTimeout (s : Block) (p : Nat) : Option Nat :=
  match s.portState p with
  | 2 => some (if sidias p then 100000 else 5000000)
  | 3 => if sidias p then some 400000 else if s.isRunning then some 500000000 else none
  | 4 => some 20000000
  | 5 => some (if sidias p then 50000 else 10000000)
  | 6 => some (if sidias p then 50000 else 10000000)
  | _ => none

/-- A step is past its timeout (R147). -/
def portLate (s : Block) (p : Nat) : Bool :=
  match s.portTimeout p with
  | some t => decide (t < s.portAge p)
  | none => false

/-- A step's event moves the port on when it is in the state it belongs to; past the timeout of that state the port is
bound for HOLDOFF (R147). -/
def portStep (s : Block) (p st : Nat) (k : Block → Block) : Block :=
  if p < 16 ∧ s.portState p = st then (if s.portLate p then s.portGo p 9 else k s) else s

/-- Copper training that waited for RUNNING begins: its time runs from here (R145, R147). -/
def copperStart (s : Block) : Block :=
  (List.range 16).foldl (fun s p =>
    if s.portState p = 3 ∧ sidias p = false then
      { s with ser := { s.ser with since := upd s.ser.since p fun _ => s.lt } }
    else s) s

/-- Signal qualified on every used lane, no sooner than the qualification time of R147. -/
def signalQualified (s : Block) (p : Nat) : Block :=
  s.portStep p 1 fun s =>
    if s.portAge p < (if sidias p then 10000 else 100000) then s
    else (s.setLanes p F.LANE.STAT_SIG_DET 1).portGo p 2

/-- Clock recovery locked on every used lane. -/
def cdrLocked (s : Block) (p : Nat) : Block :=
  s.portStep p 2 fun s =>
    (s.setLanes p F.LANE.STAT_CDR_LOCK 1).portGo p (if sidias p || s.copperTrain p then 3 else 4)

/-- Receiver equaliser settings and, on copper trained by Clause 72, transmitter taps, as training
left them: (PRE, MAIN, POST, CTLE) by lane. -/
def lanesTrained (s : Block) (p : Nat) (eq : List (Nat × Nat × Nat × Nat)) : Block :=
  let s := if sidias p then s else
    ((s.setLanesBy p F.LANE.EQ_PRE (eq.map (·.1))).setLanesBy p F.LANE.EQ_MAIN
      (eq.map (·.2.1))).setLanesBy p F.LANE.EQ_POST (eq.map (·.2.2.1))
  s.setLanesBy p F.LANE.EQ_CTLE (eq.map (·.2.2.2))

/-- Training completes: on Sidias once both ends have sent RX_READY in 16 frames in a row on every lane (R152), on copper
not before RUNNING (R145). -/
def trainingComplete (s : Block) (p : Nat) (eq : List (Nat × Nat × Nat × Nat)) : Block :=
  s.portStep p 3 fun s =>
    let ok := if sidias p then
      (List.range 4).all fun l => decide (16 ≤ (s.sidLane p l).readyIn ∧ 16 ≤ (s.sidLane p l).readyOut)
      else s.isRunning
    if ok then (s.lanesTrained p eq).portGo p 5 else s

/-- Receiver adaptation converged, with the receiver equaliser settings by lane. -/
def adaptConverged (s : Block) (p : Nat) (ctle : List Nat) : Block :=
  s.portStep p 4 fun s => (s.setLanesBy p F.LANE.EQ_CTLE ctle).portGo p 5

/-- CRC-16 of R152 over bytes, polynomial 0x1021, one bit step. -/
def crc16Bit (c : Nat) : Nat := if 0x8000 ≤ c then Nat.xor (c * 2 % 0x10000) 0x1021 else c * 2

/-- CRC-16 of R152 with a starting value. -/
def crc16 : Nat → List Nat → Nat
  | c, [] => c
  | c, b :: r =>
    let c0 := Nat.xor c (b % 256 * 256)
    crc16 (crc16Bit (crc16Bit (crc16Bit (crc16Bit (crc16Bit (crc16Bit (crc16Bit (crc16Bit c0)))))))) r

/-- A tap after a request of two bits; the reserved request leaves a value the spec does not give. -/
def tapStep (s : Block) (req max v : Nat) : Nat :=
  match req with
  | 0 => v
  | 1 => Nat.min max (v + 1)
  | 2 => v - 1
  | _ => s.fresh % (max + 1)

/-- COEF_STAT of one tap after a request (R152). -/
def tapStat (req max v : Nat) : Nat :=
  if req = 0 then 0 else if v = 0 then 2 else if v = max then 3 else 1

/-- The training frame lane l of a Sidias port sends (R152), its two CRC bytes little-endian (R11). -/
def sentFrame (p l req stat : Nat) : List Nat :=
  let f := [0x7E, 0x3C, 0xA5, 0x0F, l + 4 * (p - 12), req, stat] ++ List.replicate 7 0
  f ++ le 2 (crc16 0xFFFF f)

/-- The COEF_REQ a receiver sends: what it asks of each tap, and whether it is ready, the spec leaves to it (log
entry 87). -/
def coefReq (wild : Nat) : Nat := wild % 3 + 4 * (wild / 3 % 3) + 16 * (wild / 9 % 3) + 64 * (wild / 27 % 2)

/-- Lane l of a Sidias port sends its frame of the 1,024 UI in which it received one (R152). -/
def trainingSend (s : Block) (p l stat : Nat) : Block :=
  let req := coefReq s.fresh
  let s := s.took.emit (.training p l (sentFrame p l req stat))
  { s with ser := { s.ser with sid := upd s.ser.sid (4 * (p - 12) + l) fun (x : SidLane) =>
      { x with readyOut := if bit req 6 then x.readyOut + 1 else 0 } } }

/-- What a frame on lane l of a Sidias port tells, and the frame it is answered with: polarity, logical lane, sending
port, coefficient update, readiness (R148, R149, R152, R153). -/
def trainingTake (s : Block) (p l : Nat) (inv : Bool) (fr : List Nat) : Block :=
  let u := laneOf p l
  let req := fr.getD 5 0
  let pre := bits req 1 0; let main := bits req 3 2; let post := bits req 5 4
  let v0 := s.tapStep pre 15 (s.get u F.LANE.EQ_PRE)
  let v1 := s.tapStep main 63 (s.get u F.LANE.EQ_MAIN)
  let v2 := s.tapStep post 31 (s.get u F.LANE.EQ_POST)
  let s := if pre = 3 ∨ main = 3 ∨ post = 3 then s.took else s
  let s := ((s.set u F.LANE.EQ_PRE v0).set u F.LANE.EQ_MAIN v1).set u F.LANE.EQ_POST v2
  let s := (s.set u F.LANE.STAT_RX_INV (b2n inv)).set u F.LANE.STAT_RX_LOGICAL (bits (fr.getD 4 0) 1 0)
  let lock := s.portState p == 5
  let s : Block := { s with ser := { s.ser with sid := upd s.ser.sid (4 * (p - 12) + l) fun (x : SidLane) =>
    { x with readyIn := if bit req 6 then x.readyIn + 1 else 0, found := x.found || lock, heard := bits (fr.getD 4 0) 3 2 } } }
  s.trainingSend p l (tapStat pre 15 v0 + 4 * tapStat main 63 v1 + 16 * tapStat post 31 v2)

/-- A training frame on lane l of a Sidias port in step 4 or 5. A frame with a CRC error or without a MARKER is
ignored. -/
def trainingFrame (s : Block) (p l : Nat) (frame : List Nat) : Block :=
  let inv := frame.take 4 == [0x81, 0xC3, 0x5A, 0xF0]
  let fr := if inv then frame.map (fun b => 255 - b % 256) else frame
  if sidias p && l < 4 && (s.portState p == 3 || s.portState p == 5) &&
      fr.take 4 == [0x7E, 0x3C, 0xA5, 0x0F] && fr.length == 16 &&
      crc16 0xFFFF (fr.take 14) == ofLe (fr.drop 14) then s.trainingTake p l inv fr
  else s

/-- An Ethernet lane is inverted (R148): on 100GBASE-R4 by its alignment markers; on 25GBASE-R when of the first 64
blocks at least 60 decode to valid blocks only once complemented. -/
def laneInverted (mode : Nat) (x : LaneSeen) : Bool :=
  if mode = 1 then x.markersInverted else decide (60 ≤ ((x.blocks.take 64).filter fun b => !b.1 && b.2).length)

/-- Block lock, or frame lock by a training frame on every lane, with polarity resolved (R148). -/
def blockLock (s : Block) (p : Nat) (seen : List LaneSeen) : Block :=
  s.portStep p 5 fun s =>
    if sidias p then
      if (List.range 4).all fun l => (s.sidLane p l).found then
        (s.setI uSerdes F.SERDES.PORT_STAT_RX_INV p
          (sumN ((List.range 4).map fun l => s.get (laneOf p l) F.LANE.STAT_RX_INV * 2 ^ l))).portGo p 6
      else s
    else
      let inv := (s.portLanes p).map fun l => b2n (laneInverted (s.portMode p) (seen.getD l ⟨false, []⟩))
      ((s.setI uSerdes F.SERDES.PORT_STAT_RX_INV p (sumN ((s.portLanes p).zip inv |>.map fun x => x.2 * 2 ^ x.1))).setLanesBy
        p F.LANE.STAT_RX_INV inv).portGo p 6

/-- The sending port a Sidias port must hear: 0 WEST, 1 EAST, 2 UPLINK (R153). -/
def expectedPeer (p : Nat) : Nat := if p = 12 then 1 else if p = 13 then 0 else 2

/-- FEC is on: always on 100GBASE-R4 and on Sidias, by PORT_CFG.FEC on 25GBASE-R (R144, R541). -/
def fecOn (s : Block) (p : Nat) : Bool :=
  sidias p || s.portMode p == 1 || s.getI uSerdes F.SERDES.PORT_CFG_FEC p != 0

/-- Logical lanes by physical lane, the lane order and the deskew depth reported (R149, R218). -/
def alignReport (s : Block) (p : Nat) (order : List Nat) (deskew : Nat) : Block :=
  let s := { s with ser := { s.ser with deskew := upd s.ser.deskew p fun _ => deskew } }
  let s := s.setI uSerdes F.SERDES.PORT_STAT_RX_ORDER p
    (sumN ((s.portLanes p).map fun l => order.getD l 0 % 4 * 4 ^ l))
  (s.setLanesBy p F.LANE.STAT_RX_LOGICAL order).setI uSerdes F.SERDES.PORT_STAT_FEC_LOCK p (b2n (s.fecOn p))

/-- Alignment (R149, R153): on Sidias the order and the sending port are those the training frames named, and the lanes
are deskewed up to 320 UI, 11.4 ns; on Ethernet the order comes from the alignment markers. Nothing is aligned before
the FEC is, where it is on. -/
def alignDone (s : Block) (p : Nat) (order : List Nat) (fec : Bool) (deskew : Nat) : Block :=
  s.portStep p 6 fun s =>
    if sidias p then
      let order := (List.range 4).map fun l => s.get (laneOf p l) F.LANE.STAT_RX_LOGICAL
      if (List.range 4).any fun l => (s.sidLane p l).heard != expectedPeer p then
        (s.setI uSerdes F.SERDES.PORT_STAT_MISWIRE p 1).portGo p 9
      else if fec && order.eraseDups.length == 4 && decide (deskew ≤ 45) then (s.alignReport p order deskew).portGo p 7
      else s
    else if s.fecOn p && !fec then s
    else (s.alignReport p order deskew).portGo p 8

/-- A lane's figures: eye height, eye width, loss (R158). -/
def laneFigures (s : Block) (u : UnitId) (h w loss : Nat) : Block :=
  (((s.set u F.LANE.EYE_HEIGHT h).set u F.LANE.EYE_WIDTH w).set u F.LANE.LOSS_EST (Nat.min 255 loss)).set
    u F.LANE.STAT_EYE_VALID 1

/-- The acceptance check of a Sidias port with the figures of its fast eye scan by lane (R154). -/
def linkCheck (s : Block) (p : Nat) (figs : List (Nat × Nat × Nat)) : Block :=
  s.portStep p 7 fun s =>
    if s.portAge p < 20000 then s else
    let s := (List.range 4).foldl (fun s l =>
      let f := figs.getD l (0, 0, 255)
      s.laneFigures (laneOf p l) f.1 f.2.1 f.2.2) s
    let ok := (List.range 4).all fun l =>
      decide (s.get uSerdes F.SERDES.LINK_CFG_SID_EYE_MIN ≤ s.get (laneOf p l) F.LANE.EYE_HEIGHT) &&
        decide (s.get (laneOf p l) F.LANE.LOSS_EST ≤ s.get uSerdes F.SERDES.LINK_CFG_SID_LOSS_MAX)
    if ok then (s.setI uSerdes F.SERDES.PORT_STAT_LOSS_HIGH p 0).portGo p 8
    else (s.setI uSerdes F.SERDES.PORT_STAT_LOSS_HIGH p 1).portGo p 9

/-- A bring-up step exceeds its timeout (R147). -/
def bringupTimeout (s : Block) (p : Nat) : Block :=
  match s.portTimeout p with
  | some t => if p < 16 ∧ t ≤ s.portAge p then s.portGo p 9 else s
  | none => s

/-- A down condition of R150. -/
def linkDown (s : Block) (p : Nat) : Block := s.portStep p 8 fun s => s.portGo p 9

/-- The holdoff ends (R150). -/
def holdoffExpired (s : Block) (p : Nat) : Block :=
  let t := if sidias p then 50000 else s.get uSerdes F.SERDES.LINK_CFG_HOLDOFF_MS * 1000000
  s.portStep p 9 fun s => if t ≤ s.portAge p then s.portGo p 1 else s

/-- Figures of a lane at LOCK or beyond, with the symbol errors and FEC codewords counted since the
last update (R158, R165). -/
def laneEye (s : Block) (p l h w loss symerr cor unc : Nat) : Block :=
  if p < 16 ∧ 5 ≤ s.portState p ∧ s.portState p ≤ 8 ∧ (s.portLanes p).contains l then
    let s := (s.laneFigures (laneOf p l) h w loss).addI (laneOf p l) F.LANE.SYMERR_COUNT 0 symerr
    ((s.addI uSerdes F.SERDES.FEC_COR_COUNT p cor).addI uSerdes F.SERDES.FEC_UNC_COUNT p unc).calLane p l h w loss
  else s

/-- The bypass closes: WEST and EAST go OFF; `forced` when the cause is other than a write of OPEN = 0
(R151, R161). -/
def bypassClose (s : Block) (forced : Bool) : Block :=
  let was := s.ser.opening || s.on uSerdes F.SERDES.BYPASS_STAT_OPEN
  let s := { s with ser := { s.ser with opening := false } }
  let s := (s.set uSerdes F.SERDES.BYPASS_CTL_OPEN 0).set uSerdes F.SERDES.BYPASS_STAT_OPEN 0
  let s := if forced && was then s.set uSerdes F.SERDES.BYPASS_STAT_FORCED 1 else s
  let s := (s.portOff 12).portOff 13
  if was then s.ringBypassClosed else s

/-- A write of OPEN = 1 (R161). `vbyp` is VBYP in mV. -/
def bypassOpen (s : Block) (vbyp : Nat) : Block :=
  if s.isRunning && 2900 ≤ vbyp && s.on uClk F.CLK.SRC_STAT_REF_OK &&
      !s.on uSerdes F.SERDES.BYPASS_STAT_OPEN then
    { s.set uSerdes F.SERDES.BYPASS_CTL_OPEN 1 with ser := { s.ser with opening := true } }
  else s

/-- BYPASS_STAT with VBYP_OK: 1 while the bypass opens or is open, which VBYP below 2.9 V would end (R161); else the
level of VBYP, which `wild` says. -/
def bypassWord (s : Block) (w wild : Nat) : Nat :=
  putBits w F.SERDES.BYPASS_STAT_VBYP_OK.hi F.SERDES.BYPASS_STAT_VBYP_OK.lo
    (b2n (s.ser.opening || s.on uSerdes F.SERDES.BYPASS_STAT_OPEN || bit wild 0))

/-- The main-die path is connected (R161). -/
def bypassConnected (s : Block) : Block :=
  if s.ser.opening then
    let s := { s with ser := { s.ser with opening := false } }
    let s := ((s.set uSerdes F.SERDES.BYPASS_STAT_OPEN 1).portEnable 12).portEnable 13
    s.ringInserted
  else s

/-- An entry names a lane of a CAM or LINE port (R157). -/
def entryUsed (e : List Nat) : Bool :=
  let p := e.getD 0 0; let l := e.getD 1 0
  decide (p < 12 ∧ l < 4 ∨ p = 15 ∧ l = 0)

/-- One entry of the lane table applied, the later superseding (R156, R157). DESIGN CHOICE (log entry 87): a port with a
repeated TX_LOGICAL or taps summing above 63 "behaves unpredictably"; its registers take the table like any other, and
what comes over its lanes are operands of the commands in every case. -/
def laneEntry (s : Block) (e : List Nat) : Block :=
  let p := e.getD 0 0; let l := e.getD 1 0; let fl := e.getD 2 0
  if entryUsed e then
    let u := laneOf p l
    let s := (s.set u F.LANE.STAT_TX_INV (fl % 2)).set u F.LANE.STAT_TX_LOGICAL (bits fl 2 1)
    let s := s.set u F.LANE.EQ_CTLE (e.getD 6 0)
    if s.copperTrain p then s
    else ((s.set u F.LANE.EQ_PRE (e.getD 3 0)).set u F.LANE.EQ_MAIN (e.getD 4 0)).set
      u F.LANE.EQ_POST (e.getD 5 0)
  else s

/-- The values of a lane with no entry (R157). -/
def laneDefaults (s : Block) (u : UnitId) : Block :=
  let s := (s.set u F.LANE.STAT_TX_INV 0).set u F.LANE.STAT_TX_LOGICAL (u.inst % 4)
  (((s.set u F.LANE.EQ_PRE 4).set u F.LANE.EQ_MAIN 48).set u F.LANE.EQ_POST 11).set u F.LANE.EQ_CTLE 8

/-- The 8-byte entries of a byte list. -/
def laneEntries : Nat → List Nat → List (List Nat)
  | 0, _ => []
  | n + 1, l => l.take 8 :: laneEntries n (l.drop 8)

/-- The first table whose BOARD_ID matches, read in section order up to the first table that would
extend beyond the section (R157). -/
def findLaneTable (board : Nat) : Nat → List Nat → Option (List (List Nat))
  | 0, _ => none
  | fuel + 1, l =>
    let n := ofLe ((l.drop 2).take 2)
    if l.length < 8 + 8 * n then none
    else if l.getD 0 256 = board then some (laneEntries n (l.drop 8))
    else findLaneTable board fuel (l.drop (8 + 8 * n))

/-- Entries applied, after supersession and without those ignored. -/
def laneApplied (es : List (List Nat)) : Nat := ((es.filter entryUsed).map fun e => e.take 2).eraseDups.length

/-- Control core 0 applies the lane table (R155-R157). -/
def applyLaneTable (s : Block) (board : Nat) (bytes : List Nat) : Block :=
  match findLaneTable board (bytes.length + 1) bytes with
  | none => ((List.range 12) ++ [15]).foldl (fun s p => s.setI uSerdes F.SERDES.PORT_STAT_NO_TABLE p 1) s
  | some es =>
    let s := (List.range 61).foldl (fun s i =>
      if 48 ≤ i ∧ i < 60 then s else s.laneDefaults (uLane i)) s
    let s := es.foldl laneEntry s
    let s := ((List.range 12) ++ [15]).foldl (fun (s : Block) p => if s.copperTrain p then s.clause72Init p else s) s
    ((s.set uSerdes F.SERDES.TABLE_STAT_BOARD_ID board).set uSerdes F.SERDES.TABLE_STAT_MATCH 1).set
      uSerdes F.SERDES.TABLE_STAT_ENTRIES (laneApplied es)

/-- `SERDES.CTL.CLEAR_CNT` (R165). -/
def serdesClear (s : Block) : Block :=
  let s := s.clearAll uSerdes [F.SERDES.FEC_COR_COUNT, F.SERDES.FEC_UNC_COUNT,
    F.SERDES.PORT_STAT_DOWN_COUNT]
  (List.range 61).foldl (fun s i => s.set (uLane i) F.LANE.SYMERR_COUNT 0) s

end Block
end Sys2Proof.Machine
end

