-- ==== Sys2Proof/Machine/Hold.lean ====
section
/-! DEFINITION. The hold of a latched shutdown and what a device out of operation drives
(R76, R82, R137). -/

namespace Sys2Proof.Machine
namespace Block

/-- The bypass closed and every serial port OFF: no transmitter on, no port up (R76, R82, R137, R146, R161). -/
def portsOff (s : Block) : Block := (List.range 16).foldl portOff (s.bypassClose true)

/-- Trigger outputs low and axis port DE low (R76, R137). -/
def outputsLow (s : Block) : Block :=
  s.emits ((List.range 12).map (fun k => .pin (.trig k) false) ++
    [.pin (.axisDe 0) false, .pin (.axisDe 1) false])

/-- GPIO outputs from one upward released (R76, R137). -/
def gpioRelease (s : Block) (from_ : Nat) : Block :=
  s.emits ((List.range (16 - from_)).map fun k => .release (.gpio (from_ + k)))

/-- The latched shutdown: error log entry, alarm, 600 mV, hold with the host link down (R137, R138). `kind` is the STATE of
alarm 0x05. The records queued leave the line port before the hold (log entry 31). -/
def shutdown (s : Block) (kind zone temp : Nat) : Block :=
  let s := s.log uThm 0x0032 3 kind zone 0
  let s := s.errlogFlush.alarm 5 kind zone temp
  let s := s.datagramsOut s.tag.lportQ.length
  let s := ((s.emit (.avs 0 (some 600))).outputsLow).gpioRelease 4
  let s := (List.range 42).foldl
    (fun s g => if gateable g then s.setI uClk F.CLK.GATE_OPEN g 0 else s) s
  let s := s.portsOff.set uHost F.HOST.LINK_UP 0
  let s := s.emits [.pin .faultn false, .pin .alertn false, .pin .throttleReqn (kind == 1)]
  { s with
    boot := { s.boot with hold := .shutdown, latch := true }
    host := { s.host with training := false }
    clk := { s.clk with vcore := 600, change := none } }

end Block
end Sys2Proof.Machine
end

