-- ==== Sys2Proof/Machine/Pstate.lean ====
section
/-! DEFINITION. The P-state sequencer (R112-R119). -/

namespace Sys2Proof.Machine
namespace Block

/-- The governor takes the configuration of P-state p at the next block boundary, or at once when no
line is in flight (R116, R117); lines are in flight while triggering is enabled. -/
def govSwitch (s : Block) (p : Nat) : Block :=
  if s.on uWeb F.WEB.STATE_TRIG_OK then { s with clk := { s.clk with govNext := some p } }
  else { s with clk := { s.clk with govNext := none, govCfg := p } }

/-- The target of R115: the slower of the request and the cap. -/
def pstateWanted (s : Block) : Nat :=
  Nat.max (s.get uClk F.CLK.PSTATE_REQ_REQ) (s.get uClk F.CLK.PSTATE_CAP)

/-- A P-state target accepted abandons the retraining pause in progress (R474). -/
def pauseAbandon (s : Block) : Block :=
  match s.dmc.pausing with
  | some c => { s.setI uDmc F.DMC.CH_STAT_STATE c 0 with dmc := { s.dmc with pausing := none } }
  | none => s

/-- The DRAM goes to the data rate of a P-state, and its other FSP is in use (R476). -/
def dramSwitch (s : Block) (p : Nat) : Block :=
  if s.clk.dramRate = p then s
  else ({ s with clk := { s.clk with dramRate := p }, dmc := { s.dmc with fsp := !s.dmc.fsp } } : Block).emit (.dramRate p)

/-- `CLK.PSTATE.BUSY` clears. -/
def busyClear (s : Block) : Block :=
  { s.set uClk F.CLK.PSTATE_BUSY 0 with dmc := { s.dmc with busyEnd := some s.lt } }

/-- A Voltage read: AVS_VOUT takes the regulator's answer, of which nothing else says a value: a free value (R119; log
entry 68). -/
def voltageRead (s : Block) : Block :=
  ((s.emit (.avs 0 none)).set uClk F.CLK.AVS_VOUT_MV (s.fresh % 1024)).took

/-- A change starts when none runs, the sequencer has not stopped, and the target differs from the
state in force and from an abandoned one (R115-R118). None starts before firmware's phase: no AVSBus command is sent
before boot step 12 (R119). -/
def pstateStart (s : Block) : Block :=
  let t := s.get uClk F.CLK.PSTATE_TARGET
  let c := s.get uClk F.CLK.PSTATE_CURRENT
  if !s.boot.began || s.clk.stopped || s.on uClk F.CLK.PSTATE_BUSY || t == c || s.clk.abandoned == some t then s
  else
    let s := { s with clk := { s.clk with change := some (c, t), abandoned := none, changeAt := s.lt, goodWins := 0 } }
    let s := s.pauseAbandon.set uClk F.CLK.PSTATE_BUSY 1
    if c < t then (s.set uLatgov F.LATGOV.STAT_PREDICT 1).govSwitch t
    else (s.emit (.avs 0 (some (s.getI uClk F.CLK.PVOLT_MV t))))

/-- A change ends: BUSY and PREDICT clear, CLK_PSTATE is raised, and a target that came meanwhile counts (R115, R116
step 7, R117 step 8). -/
def pstateEnd (s : Block) : Block :=
  let s : Block := { s with clk := { s.clk with finishing := false } }
  ((s.busyClear.set uLatgov F.LATGOV.STAT_PREDICT 0).raise 1).pstateStart.feedAll

/-- A block boundary, or no line left in flight: a pending configuration of the governor takes effect, and with it an
upward change ends (R117 step 8). -/
def govBoundary (s : Block) : Block :=
  match s.clk.govNext with
  | none => s
  | some p =>
    let s : Block := { s with clk := { s.clk with govNext := none, govCfg := p } }
    if s.clk.finishing then s.pstateEnd else s

/-- A configuration still pending once no line is in flight takes effect. -/
def govIdle (s : Block) : Block := if s.on uWeb F.WEB.STATE_TRIG_OK then s else s.govBoundary

/-- A new request or cap: the target follows; a changed target ends the refusal to retry (R117). -/
def retarget (s : Block) : Block :=
  let t := s.pstateWanted
  let s := if t = s.get uClk F.CLK.PSTATE_TARGET then s
    else { s.set uClk F.CLK.PSTATE_TARGET t with clk := { s.clk with abandoned := none } }
  s.pstateStart

/-- Nanoseconds from the acceptance of an upward change to the end of its step 5 at the earliest (R117). -/
def settledAfter (s : Block) (t : Nat) : Nat :=
  1600 + (s.getI uClk F.CLK.PVOLT_MV t - s.clk.vcore) * 1000 / Nat.max 1 (s.get uClk F.CLK.PSTATE_CFG_SLEW) + 5000

/-- Every ungated monitor reads at or above the floor of P-state t (R114, R117 step 6). -/
def floorsMet (s : Block) (t : Nat) : Bool :=
  (List.range 25).all fun m =>
    s.onI uClk F.CLK.TMON_GATED m || decide (s.govFloor t ≤ s.getI uClk F.CLK.TMON_TEMPO m)

/-- The windows of R117 step 6 counted: those in a row at the floor that began after step 5. -/
def tempoCheck (s : Block) : Block :=
  match s.clk.change with
  | none => s
  | some (c, t) =>
    if c ≤ t ∨ s.since s.clk.changeAt < s.settledAfter t + 1000 then s
    else { s with clk := { s.clk with goodWins := if s.floorsMet t then s.clk.goodWins + 1 else 0 } }

/-- The downward change completes (R116 steps 3 to 7), once LATGOV has taken the target's configuration. -/
def pstateDown (s : Block) (t : Nat) : Block :=
  let mv := s.getI uClk F.CLK.PVOLT_MV t
  let s := (s.dramSwitch t).emits [.avs 0 (some mv), .avs 14 none]
  let s : Block := { s with clk := { s.clk with change := none, vcore := mv } }
  (s.voltageRead.set uClk F.CLK.PSTATE_CURRENT t).pstateEnd

/-- The upward change completes (R117 steps 4 to 8): BUSY clears at LATGOV's block boundary. -/
def pstateUp (s : Block) (t : Nat) : Block :=
  let s := (s.emit (.avs 14 none)).dramSwitch t
  let s : Block := { s with clk := { s.clk with change := none, vcore := s.getI uClk F.CLK.PVOLT_MV t } }
  let s := (s.voltageRead.set uClk F.CLK.PSTATE_CURRENT t).govSwitch t
  if s.clk.govNext.isNone then s.pstateEnd
  else { s with clk := { s.clk with finishing := true } }

/-- The change in progress completes. A downward one cannot before LATGOV's configuration is in force (R116 step 2), nor
an upward one before two windows in a row met the floor (R117 step 6). -/
def pstateDone (s : Block) : Block :=
  let s := s.govIdle
  match s.clk.change with
  | none => s
  | some (c, t) =>
    if c < t then (if s.clk.govNext.isNone then s.pstateDown t else s)
    else if 2 ≤ s.clk.goodWins then s.pstateUp t else s

/-- The upward change is abandoned, the floor not met within 100 µs of step 5: VCORE stays at the target's set point,
CURRENT and the DRAM rate at the old state (R117). -/
def tempoShort (s : Block) : Block :=
  match s.clk.change with
  | none => s
  | some (c, t) =>
    if c ≤ t ∨ 2 ≤ s.clk.goodWins ∨ s.since s.clk.changeAt < s.settledAfter t + 100000 then s
    else
      let s := s.emit (.avs 14 none)
      let s := { s with clk := { s.clk with
        change := none, abandoned := some t, vcore := s.getI uClk F.CLK.PVOLT_MV t } }
      (s.voltageRead.busyClear.set uClk F.CLK.MON_STAT_TEMPO_SHORT 1).pstateStart

/-- What a change has reached when it stops at an AVSBus step (R118): downward at the Voltage write (4), which fails four
times, or at the Status read (6); upward at the Voltage write (2) or the Status read (4). -/
def changeReached (s : Block) (step : Nat) : Block :=
  match s.clk.change with
  | none => s
  | some (c, t) =>
    let mv := s.getI uClk F.CLK.PVOLT_MV t
    let ramped (s : Block) : Block := { s.emit (.avs 14 none) with clk := { s.clk with vcore := mv } }
    if c < t then
      if s.clk.govNext.isSome || step < 4 then s
      else if step < 6 then (s.dramSwitch t).emits (List.replicate 4 (.avs 0 (some mv)))
      else ramped ((s.dramSwitch t).emit (.avs 0 (some mv)))
    else if 4 ≤ step then ramped s
    else if step = 2 then s.emits (List.replicate 3 (.avs 0 (some mv)))
    else s

/-- The sequencer stops for good at a step of R116 or R117, or at no step (0) when a read outside a
change fails (R118). CURRENT keeps the old state; what the change has reached stays, LATGOV's configuration with it. -/
def avsFail (s : Block) (cmd step : Nat) : Block :=
  let s := s.govIdle.changeReached step
  let s := if s.clk.finishing then { s with clk := { s.clk with stopped := true } }
    else { s.busyClear.set uLatgov F.LATGOV.STAT_PREDICT 0 with clk := { s.clk with
      change := none, stopped := true, govNext := none } }
  ((s.set uClk F.CLK.MON_STAT_AVS_FAIL 1).log uClk 0x0022 2 cmd step 0).raise 2

end Block
end Sys2Proof.Machine
end

