-- ==== Sys2Proof/Machine/Dmc.lean ====
section
/-! DEFINITION. The DRAM controller: usable space, address mapping, inline ECC, requests, refresh,
self-refresh, retraining (R456-R478). -/

namespace Sys2Proof.Machine

/-- Rows of a bank by DENSITY (R457). -/
def dramRows (density : Nat) : Nat := nth [32768, 49152, 65536, 98304, 131072] density 0

/-- Even parity of the 18 bits of v. -/
def parity18 (v : Nat) : Nat := (onesBelow 18 v).length % 2

/-- A place in the DRAM (R463, R464). -/
structure DramPlace where
  chan : Nat
  rank : Nat
  bank : Nat
  row : Nat
  col : Nat
deriving DecidableEq, Repr

/-- Tiers by rank (R468): Class A, pipeline, host, firmware, Class B, Class C; of a requester without a DMA
channel's class (R466). -/
def dramTier (q : Nat) : Nat := nth [0, 1, 2, 2, 2, 3, 4, 4, 5, 5] q 5

namespace Block

/-- Usable rows of a bank (R458). -/
def usableRows (s : Block) : Nat :=
  let r := dramRows (s.get uDmc F.DMC.CFG_DENSITY)
  if s.on uDmc F.DMC.CFG_ECC_EN then 4 * (r / 5) else r

/-- Usable capacity in bytes (R459). -/
def usableBytes (s : Block) : Nat := 16 * (s.get uDmc F.DMC.CFG_RANKS + 1) * 16 * s.usableRows * 2048

/-- Where a granule lies (R463, R464). -/
def dramPlace (s : Block) (g : Nat) : DramPlace :=
  let m := bits g 30 13
  let two := s.on uDmc F.DMC.CFG_RANKS
  let x (f : Field) (lo : Nat) : Nat := sumN ((List.range 4).map fun i =>
    (bits g (lo + i) (lo + i) + parity18 (Nat.land m (s.getI uDmc f i))) % 2 * 2 ^ i)
  let ru := if two then bits g 30 14 else bits g 30 13
  ⟨x F.DMC.CH_XOR_MASK 2, if two then bits g 13 13 else 0, x F.DMC.BK_XOR_MASK 9,
    if s.on uDmc F.DMC.CFG_ECC_EN then 5 * (ru / 4) + ru % 4 else ru, bits g 1 0 + 4 * bits g 8 6⟩

/-- The controller takes requests: trained, wiped and not failed (R478). -/
def dramUp (s : Block) : Bool :=
  let t := s.get uDmc F.DMC.STAT_STATE
  t == 3 || t == 4

/-- Channel states set together. -/
def chanStates (s : Block) (v : Nat) : Block :=
  (List.range 16).foldl (fun s c => s.setI uDmc F.DMC.CH_STAT_STATE c v) s

/-- Self-refresh ends (R473). -/
def dramWake (s : Block) : Block :=
  let s := { s with dmc := { s.dmc with lastReq := s.lt } }
  if s.get uDmc F.DMC.STAT_STATE = 4 then (s.set uDmc F.DMC.STAT_STATE 3).chanStates 0 else s

/-- Symbols in error of a granule. -/
def badOf (s : Block) (g : Nat) : Nat := lookupD g 0 s.dmc.bad

/-- The 64 bytes that stand in a granule. -/
def granule (s : Block) (g : Nat) : List Nat := cellsRead 0 s.dmc.mem (64 * g) 64

/-- An uncorrectable read (R461). -/
def dramUe (s : Block) (g : Nat) : Block :=
  let p := s.dramPlace g
  let a := 64 * g
  let s := s.inc uDmc F.DMC.CNT_UE_COUNT
  let s := (s.set uDmc F.DMC.UE_ADDR_LO_ADDR (a % 2 ^ 32)).set uDmc F.DMC.UE_ADDR_HI_ADDR (a / 2 ^ 32)
  (s.flagRaise uDmc F.DMC.FLAGS_UE).log uDmc 0x11 2 (a % 2 ^ 32) (a / 2 ^ 32)
    (p.chan + 16 * p.rank + 32 * p.bank + 512 * p.row)

/-- A granule read under R460 and R461: its bytes, whether it carries the error mark, the state. `flips` is
the number of stored symbols that have gone wrong since the last access, those of the address (R460) among them. From 3
to 14 are always reported (the code's distance is 17); of 15 or more the spec does not say whether they are seen, and
of bytes that cannot be corrected, or are in error without ECC, what is read: free values (log entry 1). -/
def granRead (s : Block) (g flips : Nat) : List Nat × Bool × Block :=
  let n := s.badOf g + flips
  let wild := (List.range 64).map fun i => Config.free (s.freeCtr + 1 + i) % 256
  let keep (s : Block) (n : Nat) : Block := { s with dmc := { s.dmc with
    bad := if n = 0 then dropK g s.dmc.bad else bindK g n s.dmc.bad } }
  if n = 0 then (s.granule g, false, s)
  else if !s.on uDmc F.DMC.CFG_ECC_EN then (wild, false, { keep s n with freeCtr := s.freeCtr + 65 })
  else if n ≤ 2 then
    (s.granule g, false, (keep s 0).inc uDmc F.DMC.CNT_CE_COUNT |>.set uDmc F.DMC.FLAGS_CE 1)
  else if n ≤ 14 ∨ s.fresh % 2 = 0 then
    (wild, true, { (keep s n).dramUe g with freeCtr := s.freeCtr + 65 })
  else (wild, false, { keep s n with freeCtr := s.freeCtr + 65 })

/-- Bytes from usable address a upward as a device engine reads them, each granule under R461, with zero in place of one
that carries the error mark; and those granules. -/
def dramRead (s : Block) (a n : Nat) : List Nat × List Nat × Block :=
  let first := a / 64
  let last := (a + n - 1) / 64
  let hit := (s.dmc.bad.map (·.1)).filter fun g => first ≤ g && g ≤ last
  if n = 0 then ([], [], s)
  else if hit.isEmpty then (cellsRead 0 s.dmc.mem a n, [], s.dramWake)
  else
    let step (acc : List Nat × List Nat × Block) (g : Nat) :=
      let (b, ue, s) := acc.2.2.granRead g 0
      let b := if ue then List.replicate 64 0 else b
      let lo := Nat.max a (64 * g)
      let hi := Nat.min (a + n) (64 * g + 64)
      (acc.1 ++ (b.drop (lo - 64 * g)).take (hi - lo), if ue then acc.2.1 ++ [g] else acc.2.1, s)
    ((List.range (last + 1 - first)).map (first + ·)).foldl step ([], [], s.dramWake)

/-- Bytes written from usable address a upward by a device engine. A granule written whole is sound; one
written in part is read and merged, and the write to it fails on an uncorrectable read (R471). Answers
whether any part failed. -/
def dramWrite (s : Block) (a : Nat) (l : List Nat) : Bool × Block :=
  let n := l.length
  let first := a / 64
  let last := (a + n - 1) / 64
  let hit := (s.dmc.bad.map (·.1)).filter fun g => first ≤ g && g ≤ last
  if n = 0 then (false, s)
  else if hit.isEmpty then
    (false, { s.dramWake with dmc := { s.dramWake.dmc with mem := cellsWrite 0 s.dmc.mem a l } })
  else
    let step (acc : Bool × Block) (g : Nat) :=
      let s := acc.2
      let lo := Nat.max a (64 * g)
      let hi := Nat.min (a + n) (64 * g + 64)
      let part := (l.drop (lo - a)).take (hi - lo)
      let put (s : Block) (whole : Bool) : Block := { s with dmc := { s.dmc with
        mem := cellsWrite 0 s.dmc.mem lo part
        bad := if whole then dropK g s.dmc.bad else s.dmc.bad } }
      if hi - lo = 64 then (acc.1, put s true)
      else
        let (_, ue, s) := s.granRead g 0
        if ue then (true, s) else (acc.1, put s false)
    ((List.range (last + 1 - first)).map (first + ·)).foldl step (false, s.dramWake)

/-- The row a request needs stands open (R470). -/
def rowHit (s : Block) (p : DramPlace) : Bool :=
  s.dmc.rows.any fun r => r.chan == p.chan && r.rank == p.rank && r.bank == p.bank && r.row == p.row

/-- Requests waiting on a channel, reads or writes. -/
def chanReqs (s : Block) (c : Nat) (write : Bool) : List DramReq :=
  s.dmc.reqs.filter fun r => r.write == write && (s.dramPlace r.gran).chan == c

/-- The check granule of a granule (R458): the fifth row of its group in the bank across, 8 granules for each data row and
four of them beside one another; and the byte at which the granule's 16 check bytes start. -/
def checkPlace (s : Block) (g : Nat) : DramPlace × Nat :=
  let p := s.dramPlace g
  (⟨p.chan, p.rank, Nat.xor p.bank 8, 5 * (p.row / 5) + 4, 8 * (p.row % 5) + p.col / 4⟩, 16 * (p.col % 4))

/-- Order of service (R468): Class A, urgent, the rest; tier; page hits; acceptance; requester. -/
def reqKey (s : Block) (r : DramReq) : List Nat :=
  [if r.tier = 0 then 0 else if r.urgent then 1 else 2, r.tier, b2n (!s.rowHit (s.dramPlace r.gran)), r.order, r.q]

/-- Lexicographic order. -/
def keyLt : List Nat → List Nat → Bool
  | a :: l, b :: r => decide (a < b) || (a == b && keyLt l r)
  | _, _ => false

/-- The request served first of a list. -/
def firstReq (s : Block) (l : List DramReq) : Option DramReq :=
  l.foldl (fun b r => match b with
    | none => some r
    | some x => if keyLt (s.reqKey r) (s.reqKey x) then some r else b) none

/-- A channel begins and ends its drains (R469). -/
def drainUpdate (s : Block) (c : Nat) : Block :=
  let n := (s.chanReqs c true).length
  if s.dmc.drains.contains c then
    if n ≤ s.get uDmc F.DMC.WQ_LOW then { s with dmc := { s.dmc with drains := s.dmc.drains.filter (· != c) } } else s
  else if s.get uDmc F.DMC.WQ_HIGH ≤ n then
    { s with dmc := { s.dmc with drains := s.dmc.drains ++ [c] } }.inc uDmc F.DMC.CNT_DRAIN_COUNT
  else s

/-- The rows a request needs: its own, and with ECC that of its check bytes (R458). -/
def reqPlaces (s : Block) (r : DramReq) : List DramPlace :=
  if s.on uDmc F.DMC.CFG_ECC_EN then [s.dramPlace r.gran, (s.checkPlace r.gran).1] else [s.dramPlace r.gran]

/-- One row accessed for a request, and left open or closed by its hint: auto-precharge is for a row no queued request
hits (R470). -/
def rowAccess (s : Block) (keep : Bool) (p : DramPlace) : Block :=
  let same (x : DramPlace) : Bool := x.chan == p.chan && x.rank == p.rank && x.bank == p.bank
  let others := s.dmc.rows.filter fun x => !(x.chan == p.chan && x.rank == p.rank && x.bank == p.bank)
  let hit := s.dmc.reqs.any fun x => (s.reqPlaces x).any fun y => same y && y.row == p.row
  { s with dmc := { s.dmc with
      rows := if keep || hit then ⟨p.chan, p.rank, p.bank, p.row, s.lt⟩ :: others else others } }

/-- A request served: its rows are opened, and left open or closed (R470); its latency counts. -/
def serveReq (s : Block) (r : DramReq) : Block :=
  let s := ({ s with dmc := { s.dmc with reqs := s.dmc.reqs.erase r } } : Block).tagsUpdate
  let s := (s.reqPlaces r).foldl (fun s p => s.rowAccess r.open_ p) s
  let ns := Nat.min (s.since r.at_) F.DMC.REQ_LAT_MAX_NS.max
  if s.getI uDmc F.DMC.REQ_LAT_MAX_NS r.q < ns then s.setI uDmc F.DMC.REQ_LAT_MAX_NS r.q ns else s

/-- The requests one burst slot of a channel chooses from (R467-R469): no Class C one while a Class B one waits; in the
reserved slot Class A alone; in a drain writes, else reads and urgent writes, else what there is. -/
def slotPool (s : Block) (c : Nat) (reserved : Bool) : List DramReq :=
  let all := s.chanReqs c false ++ s.chanReqs c true
  let all := if all.any (·.tier == 4) then all.filter (·.tier != 5) else all
  let reads := all.filter fun r => !r.write
  let writes := all.filter (·.write)
  if reserved then all.filter (·.tier == 0)
  else if s.dmc.drains.contains c then (if writes.isEmpty then reads else writes)
  else if reads.isEmpty then writes
  else reads ++ writes.filter (·.urgent)

/-- One burst slot of a channel (R467-R469). DESIGN CHOICE (log entry 60): the spec reserves one slot of every 64 for
Class A and does not say which; the model takes the one where its count of the channel's slots, which starts at 0 at
reset, is a multiple of 64. -/
def dramSlot (s : Block) (c : Nat) : Block :=
  let n := s.dmc.slots.getD c 0
  let s := { s with dmc := { s.dmc with slots := upd s.dmc.slots c fun n => (n + 1) % 64 } }.drainUpdate c
  let pool := s.slotPool c (n == 0)
  match s.firstReq pool with
  | some r => s.serveReq r
  | none => s

/-- Several burst slots of a channel. -/
def dramSlots (s : Block) (c : Nat) : Nat → Block
  | 0 => s
  | n + 1 => (s.dramSlot c).dramSlots c n

/-- A channel carries no data: self-refresh, a pause, a hold (R473, R474, R476). -/
def chanHeld (s : Block) (c : Nat) : Bool := s.getI uDmc F.DMC.CH_STAT_STATE c != 0

/-- The queue a request joins has room (R469). -/
def queueRoom (s : Block) (g : Nat) (write : Bool) : Bool :=
  decide ((s.chanReqs (s.dramPlace g).chan write).length < (if write then 64 else 128))

/-- A request joins its channel's queue (R466, R469). -/
def reqQueue (s : Block) (q tier : Nat) (hint : Option Bool) (write : Bool) (g : Nat) : Block :=
  let r : DramReq := ⟨q, if q = 3 ∨ q = 4 then tier % 6 else dramTier q,
    hint.getD (bit (s.get uDmc F.DMC.PAGE_OPEN) q), write, g, s.lt, s.dmc.order, false⟩
  ({ s with dmc := { s.dmc with reqs := s.dmc.reqs ++ [r], order := s.dmc.order + 1 } } : Block).tagsUpdate

/-- A write to the granule stands in a write queue. -/
def writeQueued (s : Block) (g : Nat) : Bool := s.dmc.reqs.any fun r => r.write && r.gran == g

/-- DRAM_REQUEST (R461, R466-R471): a request of at most 64 bytes within one granule is accepted; its data
effect stands from then on (R471), and its channel passes `slots` burst slots. `data` none is a read, which is answered
at once from a write to its granule that is queued (R469). -/
def dramRequest (s : Block) (q tier : Nat) (hint : Option Bool) (addr len : Nat) (data : Option (List Nat))
    (flips slots : Nat) : Block :=
  let g := addr / 64
  let c := (s.dramPlace g).chan
  let len := Nat.min len (64 - addr % 64)
  if !s.dramUp || !s.queueRoom g data.isSome || 9 < q || s.usableBytes ≤ addr then s
  else
    let s := s.dramWake
    let queued := data.isNone && s.writeQueued g
    let s := if queued then s else s.reqQueue q tier hint data.isSome g
    let s := match data with
      | none =>
        let (b, ue, s) := if queued then (s.granule g, false, s) else s.granRead g flips
        s.emit (.dramData q addr ue ((b.drop (addr % 64)).take len))
      | some l =>
        let s := { s with dmc := { s.dmc with
          bad := if flips = 0 then s.dmc.bad else bindK g (s.badOf g + flips) s.dmc.bad } }
        let (failed, s) := s.dramWrite addr (l.take len)
        s.emit (.dramAck q addr failed)
    if s.chanHeld c then s else s.dramSlots c slots

/-- REQUEST_URGENT (R468): the oldest request whose age exceeds its requester's target. -/
def requestUrgent (s : Block) : Block :=
  match s.dmc.reqs.find? fun r =>
      let t := s.getI uDmc F.DMC.TARGET_NS r.q
      !r.urgent && t != 0 && decide (t < s.since r.at_) with
  | none => s
  | some r => { s with dmc := { s.dmc with reqs := s.dmc.reqs.map fun x => if x = r then { x with urgent := true } else x } }

/-- PAGE_IDLE_CLOSE (R470). -/
def pageIdleClose (s : Block) : Block :=
  let t := s.get uDmc F.DMC.PAGE_IDLE_CLOSE_NS
  { s with dmc := { s.dmc with rows := s.dmc.rows.filter fun r => decide (s.since r.at_ < t) } }

/-- SCRUB_READ (R462): requester 9 reads a granule. -/
def scrubRead (s : Block) (g flips : Nat) : Block :=
  if s.dramUp && s.on uDmc F.DMC.CFG_ECC_EN && s.get uDmc F.DMC.SCRUB_HOURS != 0 && decide (64 * g < s.usableBytes) &&
      s.queueRoom g false then
    if s.writeQueued g then s.dramWake else ((s.dramWake.reqQueue 9 5 none false g).granRead g flips).2.2
  else s

/-- REFRESH (R472): the bank's row closes for its per-bank refresh. -/
def dramRefresh (s : Block) (c bank : Nat) : Block :=
  { s with dmc := { s.dmc with rows := s.dmc.rows.filter fun r => !(r.chan == c && r.bank == bank) } }

/-- MR4_POLL (R472): refresh rate codes of the hottest die of each channel, and whether one reports a
temperature above its operating range. -/
def mr4Poll (s : Block) (codes : List Nat) (hot : Bool) : Block :=
  if s.dramUp then
    let s := (List.range 16).foldl (fun s c => match codes[c]? with
      | some v => s.setI uDmc F.DMC.CH_STAT_MR4 c v
      | none => s) s
    if hot then s.flagRaise uDmc F.DMC.FLAGS_HOT else s
  else s

/-- SELF_REFRESH_ENTER (R473). -/
def selfRefresh (s : Block) : Block :=
  let t := 1000 * s.get uDmc F.DMC.PWR_SR_IDLE_US
  let quiet := match s.gov.trigTimes with
    | a :: _ => decide (t ≤ s.since a)
    | [] => true
  if s.get uDmc F.DMC.STAT_STATE = 3 && t != 0 && s.dmc.reqs.isEmpty && decide (t ≤ s.since s.dmc.lastReq) && quiet
      && s.dmc.pausing.isNone then
    { (s.set uDmc F.DMC.STAT_STATE 4).chanStates 1 with dmc := { s.dmc with rows := [] } }.inc uDmc F.DMC.CNT_SR_COUNT
  else s

/-- A retraining pause may begin (R474). -/
def pauseAllowed (s : Block) : Bool :=
  s.get uDmc F.DMC.STAT_STATE == 3 && s.dmc.pausing.isNone && !s.on uClk F.CLK.PSTATE_BUSY &&
  (match s.dmc.busyEnd with | some t => decide (100000 ≤ s.since t) | none => true) &&
  (match s.dmc.lastPause with | some t => decide (1000000 ≤ s.since t) | none => true)

/-- A channel's pause begins. -/
def pauseBegin (s : Block) (c : Nat) : Block :=
  { s.setI uDmc F.DMC.CH_STAT_STATE c 2 with dmc := { s.dmc with pausing := some c, lastPause := some s.lt } }

/-- RETRAIN_CHECK (R474): the drift read on each channel, in ps; the lowest channel that asks for a pause
begins it when one may begin. -/
def retrainCheck (s : Block) (drifts : List Int) : Block :=
  if s.dramUp then
    let lim := s.get uDmc F.DMC.RETRAIN_DRIFT_PS
    let ds := (List.range 16).zip drifts
    let wants := ds.filter fun p => decide (lim < p.2.natAbs)
    let s := { s with dmc := { s.dmc with wants := wants } }
    match wants with
    | (c, _) :: _ => if s.pauseAllowed then s.pauseBegin c else s
    | [] => s
  else s

/-- RETRAIN_DONE (R474) of channel c: new values, or none for want of an eye. A pause of a channel that asks
for one may begin and end here. A pause that finds no eye has been completed too (DEDUCED, log entry 60). -/
def retrainDone (s : Block) (c : Nat) (eye : Bool) : Block :=
  match findK c s.dmc.wants with
  | none => s
  | some d =>
    let s := if s.dmc.pausing.isNone && s.pauseAllowed then s.pauseBegin c else s
    if s.dmc.pausing ≠ some c then s
    else
      let s := { s.setI uDmc F.DMC.CH_STAT_STATE c 0 with dmc := { s.dmc with
        pausing := none, wants := dropK c s.dmc.wants
        trained := if eye then upd s.dmc.trained c (· + d) else s.dmc.trained } }
      let s := (s.inc uDmc F.DMC.CNT_RETRAIN_COUNT).incI uDmc F.DMC.CH_STAT_RETRAINS c
      if eye then s else (s.flagRaise uDmc F.DMC.FLAGS_RETRAIN_FAIL).inc uDmc F.DMC.CNT_RETRAIN_FAIL_COUNT

/-- DRAM_TRAINING_DONE (R478): trained at every rate, or unavailable. -/
def trainingDone (s : Block) (ok : Bool) : Block :=
  if s.get uSys F.SYS.BOOT_STAT_PHASE < 3 ∨ s.get uDmc F.DMC.STAT_STATE > 1 then s
  else if ok then s.set uDmc F.DMC.STAT_STATE 2
  else ((s.set uDmc F.DMC.STAT_STATE 5).flag uDmc F.DMC.FLAGS_TRAIN_FAIL).unitFail F.SYS.UNIT_FAIL_DMC 0

/-- Attached capacity in GiB (R457). -/
def attachedGib (s : Block) : Nat :=
  16 * (s.get uDmc F.DMC.CFG_RANKS + 1) * 16 * dramRows (s.get uDmc F.DMC.CFG_DENSITY) * 2048 / 2 ^ 30

/-- DRAM_WIPE_DONE (R478): every granule holds zero. -/
def wipeDone (s : Block) : Block :=
  if s.get uDmc F.DMC.STAT_STATE = 2 then
    let s := ((s.set uDmc F.DMC.WIPE_GIB s.attachedGib).set uDmc F.DMC.WIPE_DONE 1).set uDmc F.DMC.STAT_STATE 3
    { s with dmc := { s.dmc with mem := [], bad := [], lastReq := s.lt } }
  else s

end Block
end Sys2Proof.Machine
end

