-- ==== Sys2Proof/Machine/Refs.lean ====
section
/-! DEFINITION. The reference store, ingest, the encoder, page jobs and bindings, band buffers, and the
sensitivity map store (R327-R351, R382, R383). -/

namespace Sys2Proof.Machine

/-- Bands of a reference (R328). -/
def RefEntry.bandCount (e : RefEntry) : Nat := (e.lines + 15) / 16

/-- Blocks of a band (R328). -/
def RefEntry.blocksPer (e : RefEntry) : Nat := e.width / 64

/-- Stream bytes of a load (R329). -/
def RefEntry.streamBytes (e : RefEntry) : Nat := e.bandCount * e.blocksPer * 1024 * fmtBytes e.fmt

/-- Slots in a chunk: none spans two (R341). -/
def slotsPerChunk (fmt ratio : Nat) : Nat := 2 ^ 24 / slotBytes fmt ratio

/-- Chunks of a reference (R330). -/
def chunksFor (fmt ratio width lines : Nat) : Nat :=
  let n := (lines + 15) / 16 * (width / 64)
  (n + slotsPerChunk fmt ratio - 1) / slotsPerChunk fmt ratio

/-- A load descriptor (R335). -/
structure LoadDesc where
  slot : Nat
  fmt : Nat
  ratio : Nat
  handle : Nat
  width : Nat
  lines : Nat
  margin : Nat
  pin : Bool

/-- The descriptor of eight payload words. -/
def loadDesc (w : List Nat) : LoadDesc :=
  { slot := bits (w.getD 0 0) 17 16, fmt := bits (w.getD 0 0) 25 24, ratio := bits (w.getD 0 0) 30 28
    handle := w.getD 1 0, width := bits (w.getD 2 0) 17 0, lines := bits (w.getD 3 0) 23 0
    margin := bits (w.getD 4 0) 15 0, pin := bit (w.getD 4 0) 16 }

namespace Block

/-- A directory entry. -/
def refOf (s : Block) (h : Nat) : Option RefEntry := s.refs.dir.find? fun e => e.handle == h

/-- The directory with an entry changed. -/
def setRef (s : Block) (h : Nat) (f : RefEntry → RefEntry) : Block :=
  { s with refs := { s.refs with dir := s.refs.dir.map fun e => if e.handle = h then f e else e } }

/-- Chunks of the store no entry holds, ascending (R330). -/
def freeChunks (s : Block) : List Nat :=
  let used := s.refs.dir.flatMap (·.chunks)
  (List.range (s.get uRefs F.REFS.REGION_SIZE_CHUNKS)).filter fun c => !used.contains c

/-- Usable address of slot n of a reference (R330, R341). -/
def slotAddr (s : Block) (e : RefEntry) (n : Nat) : Nat :=
  let per := slotsPerChunk e.fmt e.ratio
  (s.get uRefs F.REFS.REGION_BASE_CHUNK + e.chunks.getD (n / per) 0) * 2 ^ 24 + n % per * slotBytes e.fmt e.ratio

/-- A load slot. -/
def slot (s : Block) (i : Nat) : LoadSlot := nth s.refs.slots i ⟨none, 0, [], 0, []⟩

/-- The state with a load slot replaced. -/
def setSlot (s : Block) (i : Nat) (x : LoadSlot) : Block :=
  { s with refs := { s.refs with slots := upd s.refs.slots i fun _ => x } }

/-- The load slot of a handle closed. -/
def closeSlot (s : Block) (h : Nat) : Block :=
  let shut (x : LoadSlot) : LoadSlot := if x.handle == some h then ⟨none, 0, [], 0, []⟩ else x
  { s with refs := { s.refs with slots := s.refs.slots.map shut } }

/-- An entry returns to FREE: its count is 0, and no job holds one (R332, R339). -/
def refFree (s : Block) (h : Nat) : Block :=
  let drop (j : PageJob) : PageJob := if j.handle = h then { j with held := false } else j
  { s with refs := { s.refs with
      dir := s.refs.dir.filter fun e => e.handle != h
      jobs := s.refs.jobs.map drop
      binds := s.refs.binds.map fun b => { b with job := b.job.map drop } } }

/-- A load left LOADING without success: its notice carries ABORTED (R519, R534). -/
def loadAborted (s : Block) (h : Nat) : Block := ((s.refFree h).closeSlot h).notice 0xF2 [h, 9]

/-- Order of eviction (R334): last use, then handle. -/
def insertOldest (e : RefEntry) : List RefEntry → List RefEntry
  | [] => [e]
  | x :: r => if e.lastUse < x.lastUse ∨ (e.lastUse = x.lastUse ∧ e.handle < x.handle) then e :: x :: r
    else x :: insertOldest e r

/-- Entries eligible for eviction in order (R334). -/
def evictable (s : Block) (except_ : Nat) : List RefEntry :=
  (s.refs.dir.filter fun e => e.state == 2 && e.use == 0 && !e.pin && e.handle != except_).foldl
    (fun l e => insertOldest e l) []

/-- The entries evicted so that `need` chunks fit into `free` (R334); none when they cannot. -/
def evictPlan (need : Nat) : Nat → List RefEntry → Option (List RefEntry)
  | free, l =>
    if need ≤ free then some []
    else match l with
      | [] => none
      | e :: r => (evictPlan need (free + e.chunks.length) r).map fun p => e :: p

/-- A reference evicted (R334). -/
def evict (s : Block) (h : Nat) : Block :=
  ((s.refFree h).flag uRefs F.REFS.FLAGS_EVICT).inc uRefs F.REFS.CNT_EVICT_COUNT

/-- A load request (R332, R334, R335): result, handles evicted, state. Reserved FORMAT and RATIO give
unpredictable results: free values (log entry 1). -/
def refLoad (s : Block) (d : LoadDesc) : Nat × List Nat × Block :=
  let old := s.refOf d.handle
  let busy := (s.slot d.slot).handle.isSome || match old with
    | some e => e.state != 2 || e.use != 0 || e.pin
    | none => false
  if busy then (1, [], s)
  else if bit (s.get uSys F.SYS.UNIT_FAIL_DMC) 0 then (2, [], s)
  else
    let wild := 3 ≤ d.fmt ∨ 5 ≤ d.ratio
    let fmt := if 3 ≤ d.fmt then s.fresh % 3 else d.fmt
    let ratio := if 5 ≤ d.ratio then s.fresh / 3 % 5 else d.ratio
    let s := if wild then s.took else s
    let need := chunksFor fmt ratio d.width d.lines
    let free := s.freeChunks.length + (match old with | some e => e.chunks.length | none => 0)
    let l := s.evictable d.handle
    match evictPlan need free l with
    | none => (2, [], s)
    | some p =>
      let full := old.isNone && decide (4096 ≤ s.refs.dir.length) && p.isEmpty
      match (if full then l.head? else none), full with
      | none, true => (2, [], s)
      | extra, _ =>
        let out := (p ++ extra.toList).map (·.handle)
        let s := out.foldl evict s
        let s := if old.isSome then s.refFree d.handle else s
        let e : RefEntry := ⟨d.handle, 1, (s.refs.jobs.filter fun j => j.held && j.handle == d.handle).length, d.pin,
          fmt, ratio, d.width, d.lines, d.margin, s.freeChunks.take need, s.lt, s.refs.gen⟩
        let s := { s with refs := { s.refs with dir := s.refs.dir ++ [e], gen := s.refs.gen + 1 } }
        (0, out, s.setSlot d.slot ⟨some d.handle, 0, [], 0, histInit fmt⟩)

/-- REF_ABORT (R332, R522): result. -/
def refAbort (s : Block) (h : Nat) : Nat × Block :=
  match s.refOf h with
  | none => (4, s)
  | some e => if e.state = 1 then (0, s.loadAborted h) else (1, s)

/-- REF_RELEASE (R332, R522): result and state afterwards. -/
def refRelease (s : Block) (h : Nat) : Nat × Nat × Block :=
  match s.refOf h with
  | none => (4, 0, s)
  | some e =>
    if e.state = 1 then (0, 0, s.loadAborted h)
    else if e.use = 0 then (0, 0, s.refFree h)
    else (0, 1, s.setRef h fun e => { e with state := 3 })

/-- Bytes discarded at an ingest port (R336, R382): counted, and beyond a load's length flagged. -/
def overrun (s : Block) (n : Nat) (beyond : Bool) : Block :=
  if n = 0 then s
  else
    let s := s.addI uRefs F.REFS.CNT_OVERRUN_COUNT 0 n
    if beyond then s.flag uRefs F.REFS.FLAGS_OVERRUN else s

/-- Bytes at reference ingest port i (R336). -/
def ingestRef (s : Block) (i : Nat) (b : List Nat) : Block :=
  let x := s.slot i
  match x.handle.bind s.refOf with
  | none => s.overrun b.length false
  | some e =>
    let room := e.streamBytes - x.fed
    let now := b.take room
    (s.setSlot i { x with fed := x.fed + now.length, buf := x.buf ++ now }).overrun (b.length - now.length) true

/-- A map (R383). -/
def mapOf (s : Block) (id : Nat) : Option MapEntry := s.refs.maps.find? fun m => m.id == id

/-- The map directory with an entry changed. -/
def setMap (s : Block) (id : Nat) (f : MapEntry → MapEntry) : Block :=
  { s with refs := { s.refs with maps := s.refs.maps.map fun m => if m.id = id then f m else m } }

/-- Stream bytes of a map (R382). -/
def mapBytes (m : MapEntry) : Nat := m.rows * ((m.groups + 1) / 2)

/-- Usable address of byte n of a map (R383). -/
def mapAddr (s : Block) (units : List Nat) (n : Nat) : Nat :=
  s.get uSeg F.SEG.MAP_BASE_CHUNK * 2 ^ 24 + units.getD (n / 65536) 0 * 65536 + n % 65536

/-- Map bytes from byte n on written, unit by unit. -/
def mapWrite (s : Block) (units : List Nat) (n : Nat) (b : List Nat) : Nat → Block
  | 0 => s
  | fuel + 1 =>
    match b with
    | [] => s
    | _ =>
      let k := 65536 - n % 65536
      ((s.dramWrite (s.mapAddr units n) (b.take k)).2).mapWrite units (n + k) (b.drop k) fuel

/-- Bytes at the map ingest port (R382). -/
def ingestMap (s : Block) (b : List Nat) : Block :=
  match s.refs.maps.find? fun m => m.state == 1 with
  | none => s.overrun b.length false
  | some m =>
    let now := b.take (mapBytes m - m.fed)
    ((s.mapWrite m.units m.fed now (now.length / 65536 + 2)).setMap m.id fun m => { m with fed := m.fed + now.length }).overrun
      (b.length - now.length) true

/-- INGEST_DATA (R336, R382, R489): ports 0 to 3 take references, 4 the map. -/
def ingest (s : Block) (port : Nat) (b : List Nat) : Block :=
  if port < 4 then s.ingestRef port b else if port = 4 then s.ingestMap b else s

/-- A map entry returns to FREE (R332, R383). -/
def mapFree (s : Block) (id : Nat) : Block :=
  let drop (j : PageJob) : PageJob := if j.map = id then { j with mheld := false } else j
  { s with refs := { s.refs with
      maps := s.refs.maps.filter fun m => m.id != id
      jobs := s.refs.jobs.map drop
      binds := s.refs.binds.map fun b => { b with job := b.job.map drop } } }

/-- A map load request (R382, R383, R522): result. -/
def mapLoad (s : Block) (w : List Nat) : Nat × Block :=
  let id := bits (w.getD 0 0) 31 16
  let groups := bits (w.getD 1 0) 15 0
  let rows := bits (w.getD 2 0) 19 0
  let old := s.mapOf id
  let busy := (s.refs.maps.any fun m => m.state == 1) || match old with
    | some m => m.state != 2 || m.use != 0
    | none => false
  if busy then (1, s)
  else
    let used := (s.refs.maps.filter fun m => m.id != id).flatMap (·.units)
    let free := (List.range (256 * s.get uSeg F.SEG.MAP_SIZE_CHUNKS)).filter fun u => !used.contains u
    let need := (rows * ((groups + 1) / 2) + 65535) / 65536
    if free.length < need ∨ (old.isNone ∧ 256 ≤ s.refs.maps.length) ∨ bit (s.get uSys F.SYS.UNIT_FAIL_DMC) 0 then (2, s)
    else
      let s := if old.isSome then s.mapFree id else s
      let m : MapEntry := ⟨id, 1, (s.refs.jobs.filter fun j => j.mheld && j.map == id).length, groups, rows,
        free.take need, 0⟩
      (0, { s with refs := { s.refs with maps := s.refs.maps ++ [m] } })

/-- A map load left LOADING without success (R534). -/
def mapAborted (s : Block) (id : Nat) : Block := (s.mapFree id).notice 0xF3 [id + 9 * 65536]

/-- MAP_ABORT (R383, R522): result. -/
def mapAbort (s : Block) (id : Nat) : Nat × Block :=
  match s.mapOf id with
  | none => (4, s)
  | some m => if m.state = 1 then (0, s.mapAborted id) else (1, s)

/-- MAP_RELEASE (R383, R522): result and state afterwards. -/
def mapRelease (s : Block) (id : Nat) : Nat × Nat × Block :=
  match s.mapOf id with
  | none => (4, 0, s)
  | some m =>
    if m.state = 1 then (0, 0, s.mapAborted id)
    else if m.use = 0 then (0, 0, s.mapFree id)
    else (0, 1, s.setMap id fun m => { m with state := 3 })

/-- MAP_LOAD_COMPLETE (R383): the last byte has arrived. -/
def mapDone (s : Block) : Block :=
  match s.refs.maps.find? fun m => m.state == 1 && m.fed == mapBytes m with
  | none => s
  | some m => (s.setMap m.id fun m => { m with state := 2 }).notice 0xF3 [m.id]

/-- Slots that hold a complete block, in rotation after the one the encoder holds (R337). -/
def encReady (s : Block) : Option (Nat × RefEntry) :=
  let from_ := match s.refs.enc with | some i => i + 1 | none => 0
  ((List.range 4).map fun k => (from_ + k) % 4).findSome? fun i =>
    ((s.slot i).handle.bind s.refOf).bind fun e =>
      if 1024 * fmtBytes e.fmt ≤ (s.slot i).buf.length then some (i, e) else none

/-- ENCODE_BLOCK (R337, R338, R346). -/
def encodeNext (s : Block) : Block :=
  match s.encReady with
  | none => s
  | some (i, e) =>
    let x := s.slot i
    let n := 1024 * fmtBytes e.fmt
    let s := if s.refs.enc.isSome && s.refs.enc != some i then s.inc uCodec F.CODEC.SWITCH_COUNT else s
    let s := { s with refs := { s.refs with enc := some i } }
    let hist := if x.blocks % e.blocksPer % 16 = 0 then histInit e.fmt else x.hist
    let (b, q, h) := encodeBlock e.fmt e.ratio (s.get uCodec F.CODEC.CFG_Q_MAX) hist (x.buf.take n)
    let s := s.setSlot i { x with buf := x.buf.drop n, blocks := x.blocks + 1, hist := h }
    let s := (s.dramWrite (s.slotAddr e x.blocks) b).2
    let s := s.inc uCodec F.CODEC.CNT_ENC_COUNT
    match q with
    | some q => s.incI uCodec F.CODEC.QHIST_COUNT q
    | none => (s.inc uCodec F.CODEC.CNT_FLAT_COUNT).flag uCodec F.CODEC.FLAGS_FLAT

/-- LOAD_COMPLETE (R332, R338): the last block of a load is written. -/
def loadComplete (s : Block) (i : Nat) : Block :=
  let x := s.slot i
  match x.handle.bind s.refOf with
  | none => s
  | some e =>
    if x.blocks = e.bandCount * e.blocksPer then
      ((s.setRef e.handle fun e => { e with state := 2, lastUse := s.lt }).closeSlot e.handle).notice 0xF2 [e.handle, 0]
    else s

/-- A page job of eight payload words (R339). -/
def pageJob (s : Block) (w : List Nat) : Nat × Nat × Block :=
  if 64 ≤ s.refs.jobs.length then (7, 64, s)
  else
    let noref := bit (w.getD 0 0) 16
    let h := w.getD 2 0
    let map := bits (w.getD 3 0) 31 16
    let held := !noref && (s.refOf h).isSome
    let mheld := map != 0 && (s.mapOf map).isSome
    let s := if held then s.setRef h fun e => { e with use := e.use + 1 } else s
    let s := if mheld then s.setMap map fun m => { m with use := m.use + 1 } else s
    let j : PageJob := ⟨noref, w.getD 1 0, h, bits (w.getD 3 0) 15 0, map, held, mheld⟩
    let s := { s with refs := { s.refs with jobs := s.refs.jobs ++ [j] } }
    (0, s.refs.jobs.length, s)

/-- A count given back on a reference (R332). -/
def refDrop (s : Block) (h : Nat) : Block :=
  match s.refOf h with
  | none => s
  | some e =>
    if e.state = 3 ∧ e.use ≤ 1 then s.refFree h else s.setRef h fun e => { e with use := e.use - 1 }

/-- A count given back on a map (R383). -/
def mapDrop (s : Block) (id : Nat) : Block :=
  match s.mapOf id with
  | none => s
  | some m =>
    if m.state = 3 ∧ m.use ≤ 1 then s.mapFree id else s.setMap id fun m => { m with use := m.use - 1 }

/-- The page in progress ends (R332): its job gives back its counts. -/
def bindEnd (s : Block) : Block :=
  match s.refs.binds with
  | b :: rest =>
    if b.ended then s
    else
      let job := b.job.map fun j => { j with held := false, mheld := false }
      let s := { s with refs := { s.refs with binds := { b with ended := true, job := job } :: rest } }
      match b.job with
      | none => s
      | some j =>
        let s := if j.held then s.refDrop j.handle else s
        if j.mheld then s.mapDrop j.map else s
  | [] => s

/-- STATUS of a page whose head job is `j` (R340). -/
def bindStatus (s : Block) (j : Option PageJob) : Nat :=
  if !s.on uRefs F.REFS.CFG_EN then 5
  else match j with
    | none => 1
    | some j =>
      if j.noref then 4
      else match s.refOf j.handle with
        | none => 3
        | some e => if e.state = 1 then 2 else 0

/-- Flag and counter of a STATUS (R340). -/
def bindCount (s : Block) (st : Nat) : Block :=
  match st with
  | 0 => s.inc uRefs F.REFS.CNT_BOUND_COUNT
  | 1 => (s.inc uRefs F.REFS.CNT_NO_JOB_COUNT).flag uRefs F.REFS.FLAGS_NO_JOB
  | 2 => (s.inc uRefs F.REFS.CNT_NOT_READY_COUNT).flag uRefs F.REFS.FLAGS_NOT_READY
  | 3 => (s.inc uRefs F.REFS.CNT_UNKNOWN_COUNT).flag uRefs F.REFS.FLAGS_UNKNOWN
  | _ => s

/-- Prefetched bands of a load. -/
def prefetched (s : Block) (gen : Option Nat) : Nat :=
  (s.refs.bands.filter fun b => b.page.isNone && some b.gen == gen).length

/-- Prefetched bands become those of the page that binds their reference (R348). -/
def bindBands (s : Block) (page : Nat) (gen : Option Nat) : Block :=
  { s with refs := { s.refs with
      bands := s.refs.bands.map fun b => if b.page.isNone && some b.gen == gen then { b with page := some page } else b } }

/-- The map a job brings to its page (R381, R383): MAP_ID, groups, rows and units; and whether it is
missing. -/
def bindMap (s : Block) (j : Option PageJob) : Option (Nat × Nat × Nat × List Nat) × Bool :=
  match j with
  | none => (none, false)
  | some j =>
    if j.map = 0 then (none, false)
    else match s.mapOf j.map with
      | some m => if m.state = 2 then (some (m.id, m.groups, m.rows, m.units), false) else (none, true)
      | none => (none, true)

/-- PAGE_BIND (R333, R339, R340, R354): the page's first line. -/
def pageBind (s : Block) (page line : Nat) : Block :=
  let s := s.bindEnd
  let st := s.bindStatus s.refs.jobs.head?
  let j := if st = 5 then none else s.refs.jobs.head?
  let s := if st = 5 then s else { s with refs := { s.refs with jobs := s.refs.jobs.drop 1 } }
  let take := st == 0 && (j.map fun j => !j.held).getD false
  let (map, missing) := s.bindMap j
  let mtake := map.isSome && (j.map fun j => !j.mheld).getD false
  let h := (j.map PageJob.handle).getD 0
  let s := if take then s.setRef h fun e => { e with use := e.use + 1 } else s
  let s := if mtake then s.setMap ((j.map PageJob.map).getD 0) fun m => { m with use := m.use + 1 } else s
  let j := j.map fun j => { j with held := j.held || take, mheld := j.mheld || mtake }
  let s := if st = 0 then s.setRef h fun e => { e with lastUse := s.lt } else s
  let ref := if st = 0 then s.refOf h else none
  let dec := s.prefetched (ref.map RefEntry.gen)
  let s := s.bindBands page (ref.map RefEntry.gen)
  let s := s.bindCount st
  let s := if missing then (s.inc uSeg F.SEG.CNT_MAP_MISSING_COUNT).flag uSeg F.SEG.FLAGS_MAP_MISSING else s
  let s : Block := { s with refs := { s.refs with
    binds := (⟨page, st, j, ref, map, missing, line, false, dec⟩ :: s.refs.binds).take 64
    seq := (s.refs.seq + 1) % 0x10000 } }
  let job := (j.map PageJob.job).getD 0
  let s := ((s.set uRefs F.REFS.CUR_PAGE_VALUE page).set uRefs F.REFS.CUR_JOB_VALUE job).set uRefs F.REFS.CUR_HANDLE_VALUE h
  let s := s.set uSeg F.SEG.CUR_MAP_MAP_ID ((map.map (·.1)).getD 0)
  s.pushStream 0 (.bind ⟨st, s.devAddr, page, job, h, (ref.map RefEntry.lines).getD 0, line,
    (s.refs.seq + 0xFFFF) % 0x10000⟩)

/-- The binding of a page. -/
def bindOf (s : Block) (page : Nat) : Option PageBind := s.refs.binds.find? fun b => b.page == page

/-- Planes for a block that cannot be decoded; the spec gives its pixels no value (log entry 1). -/
def wildPlanes (s : Block) (fmt : Nat) : List (List Int) :=
  (List.range (planesOf fmt).length).map fun p => (List.range 1024).map fun i =>
    let v := Config.free (s.freeCtr + 1024 * p + i)
    match (planesOf fmt)[p]? with
    | some f => if f.signed then sext f.bits v else (v % 2 ^ f.bits : Nat)
    | none => 0

/-- A block of a segment decoded (R342-R345, R351): history, whether the segment is sound, the blocks so
far, the state. -/
def decodeStep (e : RefEntry) (band : Nat)
    (acc : List (List Int) × Bool × List (List (List Int) × Bool) × Block) (j : Nat) :
    List (List Int) × Bool × List (List (List Int) × Bool) × Block :=
  let (h, sound, out, s) := acc
  let h := if j % 16 = 0 then histInit e.fmt else h
  let sound := sound || j % 16 == 0
  let bad (s : Block) : List (List Int) × Bool × List (List (List Int) × Bool) × Block :=
    (h, false, out ++ [(s.wildPlanes e.fmt, true)],
      { (s.inc uCodec F.CODEC.CNT_DEGRADED_COUNT).flag uCodec F.CODEC.FLAGS_DEGRADED with freeCtr := s.freeCtr + 3072 })
  let s := s.inc uCodec F.CODEC.CNT_DEC_COUNT
  let (b, ue, s) := s.dramRead (s.slotAddr e (band * e.blocksPer + j)) (slotBytes e.fmt e.ratio)
  if !sound || !ue.isEmpty then bad s
  else match decodeBlock e.fmt e.ratio h b with
    | none => bad ((s.inc uCodec F.CODEC.CNT_MALFORMED_COUNT).flag uCodec F.CODEC.FLAGS_MALFORMED)
    | some (p, flat) =>
      let s := if flat then (s.inc uCodec F.CODEC.CNT_DEGRADED_COUNT).flag uCodec F.CODEC.FLAGS_DEGRADED else s
      (histOf p, true, out ++ [(p, flat)], s)

/-- A band decoded (R348, R351). -/
def decodeBand (s : Block) (e : RefEntry) (band : Nat) : List (List (List Int) × Bool) × Block :=
  let (_, _, out, s) := (List.range e.blocksPer).foldl (decodeStep e band) (histInit e.fmt, true, [], s)
  (out, s)

/-- No line of a page can enter the look-ahead store any more, and none stands in it. -/
def pageGone (s : Block) (page : Nat) : Bool :=
  ((s.bindOf page).map PageBind.ended).getD true && !(s.stitch.lines.any fun e => e.page == page) &&
    !(s.stitch.outq.any fun w => w.page == page) && !s.tango.rows.any fun r => r.page == page

/-- S of the row of a page that follows the last one estimated (R367): S_0 for its first row, by the values in force for
the line counter given. -/
def nextBase (s : Block) (page line : Nat) : Int :=
  if (s.tango.lastEst.map (·.1)) = some page then s.tango.sNext else (s.valsAt uTango line).getS uTango F.TANGO.ROW_CFG_S0

/-- S_b of a row in the store (R367). -/
def rowBase (s : Block) (r : TangoRow) : Int := (r.est.map (·.1)).getD (s.nextBase r.page r.first)

/-- First reference line of the reach of a page (R372), until the page has ended and its last row has left the look-ahead
store. -/
def reach (s : Block) (page : Nat) : Option Int :=
  if s.pageGone page then none
  else
    let s0 := s.nextBase page (((s.bindOf page).map PageBind.line).getD 0)
    some (match s.tango.rows.find? fun r => r.page == page with
      | some r => 16 * r.row + s.rowBase r - 6
      | none => match s.tango.left with
        | some (p, r, _, _) => if p = page then 16 * (r + 1) + s0 - 6 else s0 - 6
        | none => s0 - 6)

/-- A band buffer is free (R348, R372): every line of its band lies before the reach of its page, or it holds a band of a
reference that is no longer the head job's. -/
def bandFree (s : Block) (b : BandBuf) : Bool :=
  match b.page with
  | none => match (s.refs.jobs.head?.bind fun j => if j.noref then none else s.refOf j.handle) with
    | some e => e.gen != b.gen
    | none => true
  | some p => match s.reach p with
    | none => true
    | some r => decide (((16 * b.band + 15 : Nat) : Int) < r)

/-- The leading bands of the head job's reference (R348). -/
def prefetch (s : Block) : Option (RefEntry × Nat × Option Nat) :=
  (s.refs.jobs.head?.bind fun j => if j.noref then none else s.refOf j.handle).bind fun e =>
    let n := s.prefetched (some e.gen)
    if e.state = 2 ∧ n < Nat.min 2 e.bandCount then some (e, n, none) else none

/-- The next band of a bound page that is still to be decoded (R348): of a page that has ended only what its last row
reaches (R372, R374). -/
def bandDue (s : Block) (b : PageBind) : Option (RefEntry × Nat × Option Nat) :=
  b.ref.bind fun e =>
    let needed := !b.ended || match s.trig.lines.find? fun d => d.page == b.page with
      | some d => decide (((16 * b.dec : Nat) : Int) ≤ 16 * (d.pageLine / 16 : Nat) + s.nextBase b.page b.line + 36)
      | none => false
    if needed && !s.pageGone b.page && decide (b.dec < e.bandCount) then some (e, b.dec, some b.page) else none

/-- What a free buffer is filled with next (R348): reference, band, page. -/
def bandNext (s : Block) : Option (RefEntry × Nat × Option Nat) :=
  match s.refs.binds.reverse.findSome? s.bandDue with
  | some x => some x
  | none => s.prefetch

/-- BAND_FILL (R348-R351): a free buffer takes the next band. -/
def bandFill (s : Block) : Block :=
  let s := { s with refs := { s.refs with bands := s.refs.bands.filter fun b => !s.bandFree b } }
  if 4 ≤ s.refs.bands.length then s
  else match s.bandNext with
    | none => s
    | some (e, n, p) =>
      let (bl, s) := s.decodeBand e n
      { s with refs := { s.refs with
          bands := s.refs.bands ++ [⟨e.gen, p, n, bl⟩]
          binds := s.refs.binds.map fun b => if some b.page = p then { b with dec := n + 1 } else b } }

/-- A reference pixel (R348, R350, R351, R361). -/
inductive RefPx where
  | ok (l a b : Int)
  | absent
  | late (band : Nat)
  | degraded
deriving DecidableEq, Repr

/-- The reference pixel of a page at reference column x and line y. -/
def refSample (s : Block) (b : PageBind) (x y : Int) : RefPx :=
  match b.ref with
  | none => .absent
  | some e =>
    if x < 0 ∨ y < 0 ∨ (e.width : Int) ≤ x ∨ (e.lines : Int) ≤ y then .absent
    else
      let xn := x.toNat
      let yn := y.toNat
      match s.refs.bands.find? fun q => q.page == some b.page && q.gen == e.gen && q.band == yn / 16 with
      | none => .late (yn / 16)
      | some q => match q.blocks[xn / 64]? with
        | none => .late (yn / 16)
        | some (pl, deg) =>
          if deg then .degraded
          else
            let (l, a, c) := nativeLab e.fmt (pl.map fun p => p.getD (yn % 16 * 64 + xn % 64) 0)
            .ok l a c

/-- A band found not complete (R350): counted once. -/
def noteLate (s : Block) (page band : Nat) : Block :=
  if s.refs.late.contains (page, band) then s
  else
    let s := { s with refs := { s.refs with late := ((page, band) :: s.refs.late).take 64 } }
    (s.inc uRefs F.REFS.CNT_LATE_COUNT).flag uRefs F.REFS.FLAGS_LATE

end Block
end Sys2Proof.Machine
end

