-- ==== Sys2Proof/Machine/Ring.lean ====
section
/-! DEFINITION. The Sidias ring: identification, enumeration, Reel and credits, time, beacons, link
failure, acceptance and forwarding of messages (R542-R573). -/

namespace Sys2Proof.Machine

/-- The 16-byte entries of an ENUM body. -/
def enumEntries : Nat → List Nat → List EnumEntry
  | 0, _ => []
  | n + 1, b =>
    ⟨leAt b 0 1, leAt b 1 1, leAt b 2 1, leAt b 3 1, leAt b 8 8⟩ :: enumEntries n (b.drop 16)

/-- A RESULT from its body (R572). -/
def resultOf (b : List Nat) : ResultMsg :=
  ⟨leAt b 0 2, leAt b 2 2 % 0x4000, leAt b 4 1, leAt b 5 1, leAt b 6 1, leAt b 7 1, leAt b 8 4, leAt b 12 4,
    leAt b 16 2, leAt b 18 1, (List.range 32).map fun i => leAt b (24 + 2 * i) 2⟩

/-- The body of a RESULT. -/
def resultBody (r : ResultMsg) : List Nat :=
  le 2 r.epoch ++ le 2 r.initiator ++ [r.level, r.flags, r.gwW, r.gwE] ++ le 4 r.live ++ le 4 r.usedE ++
    le 2 r.possrc ++ [r.dupPos, 0, 0, 0, 0, 0] ++ r.mergeOf.flatMap (le 2)

/-- Whether ENUM entry a is a better merging candidate than b at the same address base (R558). -/
def betterCand (a b : EnumEntry) : Bool :=
  let el (e : EnumEntry) : Bool := bit e.flags 0 && e.prio != 0
  if el a != el b then el a
  else if a.prio ≠ b.prio then b.prio < a.prio
  else a.pos < b.pos

/-- The best candidate of a list. -/
def bestCand : List EnumEntry → Option EnumEntry
  | [] => none
  | e :: r => some (r.foldl (fun b x => if betterCand x b then x else b) e)

/-- Entries with one per position, the first seen. -/
def byPos (es : List EnumEntry) : List EnumEntry :=
  es.foldl (fun l e => if l.any (fun x => x.pos == e.pos) then l else l ++ [e]) []

/-- A position two different devices hold, if any (R555). -/
def dupPosOf (es : List EnumEntry) : Option Nat :=
  (es.find? fun e => es.any fun x => x.pos == e.pos && x.deviceId != e.deviceId).map EnumEntry.pos

/-- The RESULT an initiator builds from the entries returned (R553, R558). `base` is the part of the
device address above the positions. -/
def buildResult (level epoch initiator base : Nat) (es : List EnumEntry) : ResultMsg :=
  let ms := byPos es
  let live := sumN (ms.map fun e => 2 ^ e.pos)
  let usedE := sumN ((ms.filter fun e => bit e.links 1).map fun e => 2 ^ e.pos)
  let whole := 1 < ms.length && ms.all fun e => bit e.links 0 && bit e.links 1
  let seg := 1 < ms.length && !whole
  let gw (b : Nat) : Nat := ((ms.find? fun e => bit e.flags b).map EnumEntry.pos).getD 0xFF
  let m := ((bestCand ms).map fun e => base + e.pos).getD initiator
  let srcs := (ms.filter fun e => bit e.flags 1).map EnumEntry.pos
  let src := match srcs with
    | [] => 0
    | p :: r => base + r.foldl Nat.min p + 0x4000
  ⟨epoch, initiator, level, b2n seg + 2 * b2n (dupPosOf es).isSome, gw 2, gw 3, live, usedE, src,
    (dupPosOf es).getD 0xFF,
    (List.range 32).map fun i => if bit live i then m + 0x4000 else 0⟩

namespace Block

/-- This device is the merging device of its first-level ring or segment (R558). -/
def isMerge1 (s : Block) : Bool :=
  s.on uRing F.RING.MERGE_1_VALID && s.get uRing F.RING.MERGE_1_ADDR == s.devAddr

/-- The system merging device of this device (R558): that of the topmost ring that contains it. -/
def systemMerge (s : Block) : Nat :=
  if s.on uRing F.RING.MERGE_3_VALID then s.get uRing F.RING.MERGE_3_ADDR
  else if s.on uRing F.RING.MERGE_2_VALID then s.get uRing F.RING.MERGE_2_ADDR
  else if s.on uRing F.RING.MERGE_1_VALID then s.get uRing F.RING.MERGE_1_ADDR
  else s.devAddr

/-- Links from here to a device: exact inside the ring, else a value the spec does not give a member
(log entry 7). -/
def hopsTo (s : Block) (addr : Nat) : Nat × Block :=
  if addr = s.devAddr then (0, s)
  else if s.levelOf addr = 1 then ((s.hopsIn (addr % 32)).getD 0, s)
  else (s.fresh % 256, s.took)

/-- The merging role and H after an election (R400, R558). -/
def mergeUpdate (s : Block) : Block :=
  let a := s.systemMerge
  let (h, s) := s.hopsTo a
  let s := s.set uRing F.RING.STAT_HOPS_MERGE (Nat.min h 255)
  if a = s.devAddr then
    let seen := s.get uRing F.RING.SEQ_SEEN_SEQ
    let own := s.get uTag F.TAG.SEQ_VALUE
    let last := if (own + 2 ^ 32 - seen) % 2 ^ 32 < 2 ^ 31 then own else seen
    let s := s.set uTag F.TAG.STAT_MERGING 1
    { s.flag uTag F.TAG.FLAGS_SEQ_RESTART with tag := { s.tag with
        restart := true, seqNext := (last + 65536) % 2 ^ 32 } }
  else s.set uTag F.TAG.STAT_MERGING 0

/-- The position source after a RESULT (R566): the first level that names one. -/
def possrcUpdate (s : Block) : Block :=
  let src := [1, 2, 3].findSome? fun l => (s.ringResult l).bind fun r =>
    if bit r.possrc 14 then some (r.possrc % 0x4000) else none
  match src with
  | none => s.set uRing F.RING.POSSRC_VALID 0
  | some a =>
    let s := (s.set uRing F.RING.POSSRC_ADDR a).set uRing F.RING.POSSRC_VALID 1
    let (h, s) := s.hopsTo a
    let s := s.set uRing F.RING.POSSRC_HOPS h
    if s.on uRing F.RING.CFG_POS_SRC && a != s.devAddr then s.flag uRing F.RING.FLAGS_POS_CONFLICT else s

/-- Semaphores of firmware of departed devices (R53, R559). -/
def releaseDeparted (s : Block) (gone : Nat → Bool) : Block :=
  (List.range 64).foldl (fun s n =>
    let d := s.getI uLock F.LOCK.SEM_HOLDER_DEV n
    if s.getI uLock F.LOCK.SEM_HOLDER n = 6 ∧ gone d then
      (s.setI uLock F.LOCK.SEM_HOLDER n 0).setI uLock F.LOCK.SEM_HOLDER_DEV n 0 else s) s

/-- A device that a re-enumeration of the ring at a level leaves out: one that hangs on a node of that ring which is not
among the live ones. -/
def goneFrom (s : Block) (level live addr : Nat) : Bool :=
  s.levelOf addr == level && !bit live (match level with
    | 1 => addr % 32
    | 2 => addr / 32 % 32
    | _ => addr / 1024)

/-- Messages of this device whose receiver has left the ring are aborted (R521): those that wait, and requests
passed on to it that it has not answered. -/
def abortPeers (s : Block) (gone : Nat → Bool) : Block :=
  let lost := (s.ring.waiting.filter fun m => m.typ == 0x20 && gone m.dest).map RingMsg.dest
  let asked := s.mbx.deferred.filter fun d => (d.via.map gone).getD false
  match lost ++ asked.filterMap Deferred.via with
  | [] => s
  | a :: _ =>
    let s := { s with ring := { s.ring with waiting := s.ring.waiting.filter fun m =>
      !(m.typ == 0x20 && gone m.dest) } }
    let s := s.log uMbx 0x0053 2 a 0 0
    let s := (s.flag uMbx F.MBX.FW_FLAGS_RING_ABORTED).raise 25
    asked.foldl (fun s d => s.replyDeferred d 9 0 0 (if bit (d.req.words.getD 0 0) 13 then [] else [0, 0, 0])) s

/-- Credits afresh at an election (log entry 7). -/
def creditsFresh (s : Block) : Block :=
  { s with ring := { s.ring with
    reelOut := false, reelDue := false, lapSeen := none
    reel := List.replicate 32 (8192, 8192, 8)
    credit := ⟨0, 0, [], [], [], 0, 0, 0⟩ } }

/-- A unicast of this device or another goes by its route, or is discarded for want of one. -/
def sendOn (s : Block) (m : RingMsg) : Block :=
  match s.routeTo m.dest with
  | some l => s.linkSend l m
  | none => s.misroute

/-- A Class A message held leaves by the new routes, to the merging device there now is, unless another ring on its way
is still being enumerated (R563). -/
def releaseOne (s : Block) (m : RingMsg) : Block :=
  let own := m.src = s.devAddr && m.dest < 0x4000
  let m := if own then { m with dest := s.systemMerge } else m
  if own && m.dest == s.devAddr then s.tagIn (tagOfBytes m.body) (leAt m.body 96 8)
  else if s.holdsA m.dest then s.holdA m
  else if 0x4000 ≤ m.dest then (s.spread m.src (m.dest / 0x4000) none).foldl (fun s l => s.linkSend l m) s
  else s.sendOn m

/-- Class A messages held leave in their order; the hold is over when none is left (R432, R563). -/
def releaseClassA (s : Block) : Block :=
  let s := s.ring.held.foldl releaseOne { s with ring := { s.ring with held := [] } }
  if s.ring.held.isEmpty then s.ringHoldEnd else s

/-- Class A messages held, and service messages that waited for the enumeration, leave by the new routes in their order
(R559, R563). -/
def releaseHeld (s : Block) : Block :=
  let svc := s.ring.waiting.filter fun m => m.cls == 4 && m.typ != 0x20
  let s : Block := { s with ring := { s.ring with
    waiting := s.ring.waiting.filter fun m => !(m.cls == 4 && m.typ != 0x20) } }
  let s := s.releaseClassA
  let s : Block := svc.foldl (fun s m =>
    if m.dest < 0x4000 then s.sendOn m
    else (s.spread m.src (m.dest / 0x4000) none).foldl (fun s l => s.linkSend l m) s) s
  let lost := s.ring.waiting.filter fun m => decide (5 ≤ m.cls) && (s.routeTo m.dest).isNone
  let s : Block := { s with ring := { s.ring with
    waiting := s.ring.waiting.filter fun m => !(decide (5 ≤ m.cls) && (s.routeTo m.dest).isNone) } }
  (lost.foldl (fun s _ => s.misroute) s).exportsFlush

/-- An enumeration entered again for changes seen after ENUM was sent (R553). -/
def enumAgain (s : Block) : Block :=
  match s.ring.again with
  | [] => s
  | l => s.enumEnter l

/-- Whether a RESULT supersedes the one in force (R554). -/
def resultNewer (r : ResultMsg) (old : Option ResultMsg) : Bool :=
  match old with
  | none => true
  | some o =>
    let d := (r.epoch + 0x10000 - o.epoch) % 0x10000
    (d != 0 && decide (d < 0x8000)) || (d == 0 && decide (r.initiator < o.initiator))

/-- A RESULT counts, and tells firmware (R559). -/
def enumCounted (s : Block) : Block := (s.inc uRing F.RING.CNT_ENUM_COUNT).flagRaise uRing F.RING.FLAGS_ENUM

/-- The members of a level's second or third ring adopt its RESULT (R557, R559). -/
def adoptUpper (s : Block) (r : ResultMsg) : Block :=
  let pos := if r.level = 2 then s.get uRing F.RING.NEST_POS2 else s.get uRing F.RING.NEST_POS3
  let m := nth r.mergeOf pos 0
  let s := { s with ring := { s.ring with
    results := bindK r.level r s.ring.results, upper := s.ring.upper.erase r.level } }
  let s := if r.level = 2 then
      (s.set uRing F.RING.MERGE_2_ADDR m).set uRing F.RING.MERGE_2_VALID (b2n (bit m 14))
    else (s.set uRing F.RING.MERGE_3_ADDR m).set uRing F.RING.MERGE_3_VALID (b2n (bit m 14))
  let gone := s.goneFrom r.level r.live
  (((s.possrcUpdate.releaseDeparted gone).abortPeers gone).enumCounted.mergeUpdate).releaseClassA

/-- The enumeration of a ring above the first level is under way (R557). -/
def upperSeen (s : Block) (level : Nat) : Block :=
  if s.ring.upper.contains level then s else { s with ring := { s.ring with upper := level :: s.ring.upper } }

/-- An enumeration of a higher level started by the merging device below it (R557): one ENUM leaves
through each gateway. -/
def enumUpper (s : Block) (level : Nat) : Block :=
  let size := if level = 2 then s.get uRing F.RING.NEST_SIZE2 else s.get uRing F.RING.NEST_SIZE3
  if size = 0 then s
  else
    let pos := if level = 2 then s.get uRing F.RING.NEST_POS2 else s.get uRing F.RING.NEST_POS3
    let own := s.ownEntry
    let e : EnumEntry := ⟨pos, own.flags % 2 + 2 * b2n (((s.ringResult 1).map ResultMsg.possrc).getD 0 / 0x4000 == 1),
      own.prio, b2n (s.gateway false).isSome + 2 * b2n (s.gateway true).isSome, own.deviceId⟩
    let epoch := (s.ring.epochSeen + 1) % 0x10000
    let s := ({ s with ring := { s.ring with epochSeen := epoch } } : Block).upperSeen level
    [true, false].foldl (fun s east =>
      match s.routeGate east with
      | some l => s.linkSend l ⟨1, s.devAddr, 2, s.devAddr, enumBody epoch s.devAddr (b2n (!east) + 4 * level) [e]⟩
      | none => s) s

/-- The actions on adopting a first-level RESULT (R559). -/
def adopt (s : Block) (r : ResultMsg) : Block :=
  let old := s.ringResult 1
  let dup := bit r.flags 1 && r.dupPos == s.ringPos &&
    s.ring.seen.any fun e => e.pos == s.ringPos && decide (e.deviceId < s.fuses.deviceId)
  if dup then
    let s := (s.flagRaise uRing F.RING.FLAGS_DUP).bypassClose true
    { s.ringAlone with ring := { s.ringAlone.ring with noRetry := true } }
  else
    let s := { s with ring := { s.ring with
      results := bindK 1 r s.ring.results, holdFrom := none, changed := [], inserting := false
      sent := false, halves := []
      epochSeen := if (r.epoch + 0x10000 - s.ring.epochSeen) % 0x10000 < 0x8000 then r.epoch
        else s.ring.epochSeen } }
    let m := nth r.mergeOf s.ringPos 0
    let s := (s.set uRing F.RING.ENUM_EPOCH r.epoch).set uRing F.RING.ENUM_INITIATOR r.initiator
    let s := ((s.set uRing F.RING.STAT_SEGMENTED (r.flags % 2)).set uRing F.RING.MEMBERS_LIVE r.live).set
      uRing F.RING.STAT_LIVE (pop32 r.live)
    let s := (s.set uRing F.RING.MERGE_1_ADDR m).set uRing F.RING.MERGE_1_VALID (b2n (bit m 14))
    let noParent := r.flags % 2 == 1 && r.gwW == 0xFF && r.gwE == 0xFF
    let s := if noParent then
      { (s.set uRing F.RING.MERGE_2_VALID 0).set uRing F.RING.MERGE_3_VALID 0 with
          ring := { s.ring with results := [(1, r)], upper := [] } } else s
    let s := s.set uRing F.RING.STAT_STATE 3
    let gone (a : Nat) : Bool := s.goneFrom 1 r.live a || (noParent && s.levelOf a != 1)
    let s := ((s.possrcUpdate.releaseDeparted gone).abortPeers gone).enumCounted
    let s := ((s.creditsFresh.mergeUpdate).releaseHeld)
    let s := if s.isMerge1 && !noParent && (match old with
        | some o => o.mergeOf.getD s.ringPos 0 != m || o.gwW != r.gwW || o.gwE != r.gwE
        | none => true) then s.enumUpper 2 else s
    s.enumAgain

/-- The initiator's RESULT once both halves have returned (R553). -/
def enumFinish (s : Block) : Block :=
  if 2 ≤ s.ring.halves.length then
    let es := s.ring.halves.flatMap (·.2)
    let r := buildResult 1 s.ring.epochSeen s.devAddr (s.devAddr - s.devAddr % 32) es
    let s := { s with ring := { s.ring with seen := s.ring.seen ++ es } }
    let sends := (if s.usedLink 1 then [1] else []) ++ (if s.usedLink 0 then [0] else [])
    let s := sends.foldl (fun s l =>
      s.linkSend l ⟨1, s.devAddr + 0x4000, 3, s.devAddr, resultBody r⟩) s
    s.adopt r
  else s

/-- ENUM sent, and finished at once where no link is used. -/
def enumGo (s : Block) : Block := s.enumSend.enumFinish

/-- Every link whose change the member saw is UP and identified (R553). -/
def enumReady (s : Block) : Bool :=
  s.ring.changed.all fun l => s.linkUp l && (s.link l).ident.isSome

/-- 1.2 ms after the hold began (R551, R553). -/
def enumCutoff (s : Block) : Block :=
  match s.ring.holdFrom with
  | none => s
  | some t =>
    if s.ringState ≠ 2 || s.ring.sent || s.since t < 1200000 then s
    else if s.ring.inserting && !(s.linkUp 0 && s.linkUp 1) then
      let s := (s.flag uRing F.RING.FLAGS_INSERT_FAIL).bypassClose true
      let s := s.ringAlone
      { s with ring := { s.ring with retryFrom := some s.lt } }
    else s.enumGo

/-- RETRY_S after a failed insertion (R551). -/
def insertRetry (s : Block) : Block :=
  match s.ring.retryFrom with
  | none => s
  | some t =>
    if s.get uRing F.RING.TIMING_RETRY_S * 1000000000 ≤ s.since t then
      { s with ring := { s.ring with retryFrom := none } }.ringTryInsert
    else s

/-- Whether an identified WEST or EAST link is denied, and its flags and dark count (R552). -/
def identCheck (s : Block) (l : Nat) (i : Ident) : Bool × Block :=
  let same := i.size == s.ringSize && i.pos2 == s.get uRing F.RING.NEST_POS2 &&
    i.size2 == s.get uRing F.RING.NEST_SIZE2 && i.pos3 == s.get uRing F.RING.NEST_POS3 &&
    i.size3 == s.get uRing F.RING.NEST_SIZE3
  let n := s.ringSize
  let dark := if l = 1 then eastOf n (s.ringPos + 1) i.pos else eastOf n (i.pos + 1) s.ringPos
  let s := s.set uRing (if l = 1 then F.RING.LINKS_DARK_E else F.RING.LINKS_DARK_W) (Nat.min 7 dark)
  if !same then (true, s.flag uRing F.RING.FLAGS_CFG_MISMATCH)
  else if 2 < dark then (true, s.flag uRing F.RING.FLAGS_SPLIT)
  else (false, s)

/-- Whether an uplink may be used with its partner (R552). -/
def uplinkOk (s : Block) (i : Ident) : Bool :=
  let lv := s.get uRing F.RING.UPL_CFG_LEVEL
  let sd := s.get uRing F.RING.UPL_CFG_SIDE
  let (n, own, oth) := if lv = 2 then
      (s.get uRing F.RING.NEST_SIZE2, s.get uRing F.RING.NEST_POS2, i.pos2)
    else (s.get uRing F.RING.NEST_SIZE3, s.get uRing F.RING.NEST_POS3, i.pos3)
  (lv == 2 || lv == 3) && i.upl % 4 == lv && bit i.upl 2 != (sd == 1) &&
    (if sd = 1 then eastOf n own oth == 1 else eastOf n oth own == 1)

/-- IDENT arrives: the link is identified and its use decided (R550, R552, R553, R572). -/
def identIn (s : Block) (l : Nat) (b : List Nat) : Block :=
  let i : Ident := ⟨leAt b 0 8, leAt b 8 1 % 4, leAt b 9 1, leAt b 10 1, leAt b 11 1, leAt b 12 1, leAt b 13 1,
    leAt b 14 1, leAt b 15 1, leAt b 16 2, leAt b 18 1, leAt b 19 1⟩
  let first := (s.link l).ident.isNone
  let addr := i.pos3 * 1024 + i.pos2 * 32 + i.pos
  if l = 2 then
    let ok := s.uplinkOk i
    let s := s.setLink 2 fun k => { k with ident := some i, denied := !ok, used := ok }
    s.set uRing F.RING.LINKS_UPL_USED (b2n ok)
  else
    let s := if l = 0 then (s.set uRing F.RING.NEIGH_WEST addr).set uRing F.RING.NEIGH_W_VALID 1
      else (s.set uRing F.RING.NEIGH_EAST addr).set uRing F.RING.NEIGH_E_VALID 1
    let (no, s) := s.identCheck l i
    let s := s.setLink l fun k => { k with ident := some i, denied := no, used := !no }
    let s := s.set uRing (if l = 0 then F.RING.LINKS_WEST_USED else F.RING.LINKS_EAST_USED) (b2n (!no))
    if !first then s
    else
      let s := if no then s else if s.ringState = 3 then s.enumStart l else s
      if s.ringState = 2 && !s.ring.sent && s.enumReady then s.enumGo else s

/-- IDENT again every 100 µs until the partner's has come, or as long as the link is denied (R572). -/
def identResend (s : Block) (l : Nat) : Block :=
  let k := s.link l
  if l < 3 ∧ s.linkUp l ∧ (k.ident.isNone ∨ k.denied) ∧ 100000 ≤ s.since k.identAt then s.identSend l else s

/-- ENUM of a higher level passes through this ring (R557): on its way in at a gateway it takes the ring's
entry, and it goes on by the other gateway or wraps. -/
def enumUpperIn (s : Block) (l : Nat) (m : RingMsg) : Block :=
  let fl := leAt m.body 4 1
  let level := bits fl 3 2
  let epoch := leAt m.body 0 2
  let ini := leAt m.body 2 2 % 0x4000
  let es := enumEntries (leAt m.body 5 1) (m.body.drop 8)
  if ini = s.devAddr then
    let s := { s with ring := { s.ring with halves := (bit fl 0, es) :: s.ring.halves } }
    if 2 ≤ s.ring.halves.length then
      let all := s.ring.halves.flatMap (·.2)
      let base := if level = 2 then s.devAddr - s.devAddr % 1024 else 0
      let r0 := buildResult level epoch s.devAddr base all
      let m0 := (bestCand (byPos all)).map EnumEntry.deviceId
      let addr := if m0 = some s.fuses.deviceId then s.devAddr else s.fresh % 0x4000
      let r := { r0 with mergeOf := r0.mergeOf.map fun w => if bit w 14 then addr + 0x4000 else 0 }
      let s := { s.took with ring := { s.took.ring with halves := [] } }
      let s := (s.spread s.devAddr level none).foldl (fun s l =>
        s.linkSend l ⟨1, s.devAddr + level * 0x4000, 3, s.devAddr, resultBody r⟩) s
      s.adoptUpper r
    else s
  else
    let s := s.upperSeen level
    let east := !bit fl 0
    let pos := if level = 2 then s.get uRing F.RING.NEST_POS2 else s.get uRing F.RING.NEST_POS3
    let es := if l = 2 then es ++ [⟨pos, s.ownEntry.flags % 2, s.ownEntry.prio,
      b2n (s.gateway false).isSome + 2 * b2n (s.gateway true).isSome, s.ownEntry.deviceId⟩] else es
    let next := if s.levelOf ini = 1 then s.routeIn (ini % 32) else s.routeGate east
    match next with
    | some k => if k = l then s.misroute else s.linkSend k { m with body := enumBody epoch ini fl es }
    | none => s.linkSend l { m with body := enumBody epoch ini (putBits fl 1 1 1) es }

/-- ENUM arrives (R550, R553, R554). -/
def enumIn (s : Block) (l : Nat) (m : RingMsg) : Block :=
  let epoch := leAt m.body 0 2
  let ini := leAt m.body 2 2 % 0x4000
  let fl := leAt m.body 4 1
  let es := enumEntries (leAt m.body 5 1) (m.body.drop 8)
  if bits fl 3 2 ≠ 1 then s.enumUpperIn l m
  else
    let newer := decide ((epoch + 0x10000 - s.ring.epochSeen) % 0x10000 < 0x8000)
    let s := { s with ring := { s.ring with
      epochSeen := if newer then epoch else s.ring.epochSeen, seen := s.ring.seen ++ es } }
    if ini = s.devAddr then
      if s.ringState = 2 && s.ring.sent then
        { s with ring := { s.ring with halves := (bit fl 0, es) :: s.ring.halves } }.enumFinish
      else s
    else
      let s := if s.ringState = 3 then
          let seen := s.ring.seen
          let s := s.enumEnter []
          { s with ring := { s.ring with sent := true, seen := seen } }
        else s
      if s.ringState ≠ 2 then s
      else
        let back := bit fl 1
        let es := if back then es else es ++ [s.ownEntry]
        let k := if l = 0 then 1 else 0
        if s.usedLink k then s.linkSend k { m with body := enumBody epoch ini fl es }
        else s.linkSend l { m with body := enumBody epoch ini (putBits fl 1 1 1) es }

/-- RESULT arrives: it goes on round the ring, and the member adopts the newest (R553, R554, R559). -/
def resultIn (s : Block) (l : Nat) (m : RingMsg) : Block :=
  let r := resultOf m.body
  if r.level ≠ 1 then
    if resultNewer r (s.ringResult r.level) then
      let s := (s.spread m.src r.level (some l)).foldl (fun s k => s.linkSend k m) s
      s.adoptUpper r
    else s
  else if (s.ringState = 2 || s.ringState = 3) && bit r.live s.ringPos && resultNewer r (s.ringResult 1) &&
      m.src != s.devAddr then
    let k := if l = 0 then 1 else 0
    let s := if s.usedLink k then s.linkSend k m else s
    s.adopt r
  else s

/-- REEL entry of a position: CRED_B, CRED_C, MBX_FREE. -/
def reelEntry (live : Nat) (i : Nat) (e : Nat × Nat × Nat) : List Nat :=
  le 2 e.1 ++ le 2 e.2.1 ++ [e.2.2, b2n (bit live i), 0, 0]

/-- The REEL body (R548). -/
def reelBody (s : Block) (lap : Nat) (es : List (Nat × Nat × Nat)) : List Nat :=
  le 2 lap ++ le 2 (s.get uRing F.RING.ENUM_EPOCH) ++ le 12 0 ++
    (List.range s.ringSize).flatMap fun i => reelEntry s.ringLive i (es.getD i (0, 0, 0))

/-- 256-byte units of a message. -/
def units (m : RingMsg) : Nat := (m.body.length + 8 + 255) / 256

/-- Waiting messages that leave on credits for a position: units of Class B and C, and at most one inbox slot.
Messages to one destination in one class keep their order. Answers what is left, what goes and what stays. -/
def spend (s : Block) (pos b c x : Nat) : (Nat × Nat × Nat) × List RingMsg × List RingMsg :=
  let step (acc : (Nat × Nat × Nat) × List RingMsg × List RingMsg) (m : RingMsg) :=
    let ((b, c, x), go, stay) := acc
    let here := s.spaceAt m.dest == some pos && stay.all fun y => y.cls != m.cls || y.dest != m.dest
    if here && m.cls == 5 && decide (units m ≤ b) then ((b - units m, c, x), go ++ [m], stay)
    else if here && m.cls == 6 && decide (units m ≤ c) then ((b, c - units m, x), go ++ [m], stay)
    else if here && m.typ == 0x20 && decide (0 < x) && !(go.any fun g => g.typ == 0x20) then
      ((b, c, x - 1), go ++ [m], stay)
    else ((b, c, x), go, stay ++ [m])
  s.ring.waiting.foldl step ((b, c, x), [], [])

/-- A message that held this device's receive space on its way between a ring and the uplink frees it (R549). -/
def freeSpace (s : Block) (m : RingMsg) : Block :=
  let up := s.routeTo m.dest == some 2
  let c := s.ring.credit
  let n := units m
  if m.src = s.devAddr ∨ m.cls < 5 then s
  else { s with ring := { s.ring with credit :=
    (match m.cls == 5, up with
    | true, true => { c with freedB := c.freedB + n }
    | true, false => { c with uplB := c.uplB + n }
    | false, true => { c with freedC := c.freedC + n }
    | false, false => { c with uplC := c.uplC + n }) } }

/-- Messages leave on credits taken. -/
def goOut (s : Block) (go : List RingMsg) : Block := go.foldl (fun s m => (s.freeSpace m).sendOn m) s

/-- What the member takes from one destination's entry before the next lap, after giving back what the
last lap left over, and the messages that may now leave (R549). -/
def reelTake (s : Block) (i : Nat) (e : Nat × Nat × Nat) : (Nat × Nat × Nat) × Block :=
  let (left, go, stay) := s.spend i (e.1 + lookupD i 0 s.ring.credit.heldB) (e.2.1 + lookupD i 0 s.ring.credit.heldC) e.2.2
  let s := { s with ring := { s.ring with
    waiting := stay
    credit := { s.ring.credit with
      heldB := dropK i s.ring.credit.heldB, heldC := dropK i s.ring.credit.heldC } } }
  (left, s.goOut go)

/-- What a member does as the REEL message passes (R549): entries taken from, its own returned to. -/
def reelAct (s : Block) (es : List (Nat × Nat × Nat)) : List (Nat × Nat × Nat) × Block :=
  let p := s.ringPos
  let (es, s) := (List.range es.length).foldl (fun (acc : List (Nat × Nat × Nat) × Block) i =>
    if i = p then acc
    else
      let (e, s) := acc.2.reelTake i (acc.1.getD i (0, 0, 0))
      (upd acc.1 i (fun _ => e), s)) (es, s)
  let es := upd es p fun e => (e.1 + s.ring.credit.freedB, e.2.1 + s.ring.credit.freedC,
    Nat.min 8 (e.2.2 + s.ring.credit.mbxGranted))
  (es, { s with ring := { s.ring with
    credit := { s.ring.credit with freedB := 0, freedC := 0, mbxGranted := 0 } } })

/-- The REEL message on its way from here: east, or west at the east end (R547). -/
def reelOn (s : Block) (west : Bool) (lap : Nat) (es : List (Nat × Nat × Nat)) : Block :=
  let first := if west then 0 else 1
  let l := if s.usedLink first then first else 1 - first
  if s.usedLink l then s.linkSend l ⟨1, s.devAddr + 0x4000, 1, s.devAddr, s.reelBody lap es⟩ else s

/-- The merging device starts a rotation (R547). -/
def reelStart (s : Block) : Block :=
  if s.ringState = 3 && s.isMerge1 then
    if s.ring.reelOut then { s with ring := { s.ring with reelDue := true } }
    else
      let lap := s.ring.lap
      let s := { s with ring := { s.ring with
        lap := (lap + 1) % 0x10000, reelOut := decide (1 < pop32 s.ringLive), reelDue := false
        lapSeen := some lap } }
      let (es, s) := s.reelAct s.ring.reel
      let s := { s with ring := { s.ring with reel := es } }
      s.reelOn false lap es
  else s

/-- Entries of a REEL body. -/
def reelEntries (b : List Nat) (n : Nat) : List (Nat × Nat × Nat) :=
  (List.range n).map fun i =>
    let e := b.drop (16 + 8 * i)
    (leAt e 0 2, leAt e 2 2, leAt e 4 1)

/-- A REEL message arrives (R547-R549). -/
def reelIn (s : Block) (l : Nat) (m : RingMsg) : Block :=
  if s.ringState ≠ 3 ∨ l = 2 ∨ leAt m.body 2 2 ≠ s.get uRing F.RING.ENUM_EPOCH then s
  else
    let lap := leAt m.body 0 2
    let es := reelEntries m.body s.ringSize
    let west := l == 1
    let home := s.isMerge1 && (!west || !s.usedLink 0)
    if home then
      let s := { s with ring := { s.ring with reel := es, reelOut := false } }
      if s.ring.reelDue then s.reelStart else s
    else if s.ring.lapSeen = some lap then s.reelOn west lap es
    else
      let s := { s with ring := { s.ring with lapSeen := some lap } }
      let (es, s) := s.reelAct es
      s.reelOn west lap es

/-- The gateway's end of an uplink sends what it has freed (R549, R572). -/
def uplCreditSend (s : Block) : Block :=
  if s.usedLink 2 then
    let c := s.ring.credit
    let s := s.linkSend 2 ⟨1, s.devAddr, 7, s.devAddr,
      le 2 c.uplB ++ le 2 c.uplC ++ [8 - Nat.min 8 s.ring.inbox.length, 8 - Nat.min 8 s.ring.inbox.length, 0, 0]⟩
    { s with ring := { s.ring with credit := { s.ring.credit with uplB := 0, uplC := 0 } } }
  else s

/-- UPL_CREDIT arrives: the credits of the far side of the uplink, kept under position 32, and the messages that
may now leave on it (R549). -/
def uplCreditIn (s : Block) (b : List Nat) : Block :=
  let c := s.ring.credit
  let ((nb, nc, _), go, stay) := s.spend s.ringPos (lookupD 32 0 c.heldB + leAt b 0 2) (lookupD 32 0 c.heldC + leAt b 2 2)
    (leAt b 5 1)
  (({ s with ring := { s.ring with waiting := stay, credit := { c with
      heldB := bindK 32 nb c.heldB, heldC := bindK 32 nc c.heldC } } } : Block).goOut go).uplRelease (leAt b 4 1)

/-- LT in 2^-16 ns. -/
def lt16 (s : Block) : Nat := s.lt * 65536 + s.ltFrac / 2 ^ 24

/-- Egress and ingress instants at the balls of a Sidias port (R569). -/
def txStamp16 (s : Block) : Nat := s.lt16 + 36 * 65536
def rxStamp16 (s : Block) : Nat := s.lt16 + 2 ^ 80 - 143 * 32768

/-- A TIME body (R572), times in 2^-16 ns. -/
def timeBody (kind seq t0 t1 : Nat) : List Nat :=
  [kind, seq % 256, 0, 0] ++ le 8 (t0 / 65536) ++ le 2 (t0 % 65536) ++ [0, 0] ++ le 8 (t1 / 65536) ++
    le 2 (t1 % 65536) ++ [0, 0]

/-- A TIME message on a link. -/
def timeSend (s : Block) (l : Nat) (body : List Nat) : Block := s.linkSend l ⟨1, s.devAddr, 4, s.devAddr, body⟩

/-- A used link starts a TIME exchange (R569). -/
def timeExchange (s : Block) (l : Nat) : Block :=
  if l < 3 ∧ s.usedLink l then
    let q := ((s.link l).time.seq + 1) % 256
    let t1 := s.txStamp16
    let s := s.setLink l fun k => { k with time := { k.time with seq := q, t1 := t1, t4 := 0 } }
    (s.timeSend l (timeBody 0 q 0 0)).timeSend l (timeBody 1 q t1 0)
  else s

/-- `RING.POS_OFS` toward the position source: the link's offset when the source is its partner, zero at
the source itself; further away a value composed by devices the model does not hold (log entry 7). -/
def posOfsUpdate (s : Block) (l : Nat) : Block :=
  if s.on uRing F.RING.POSSRC_VALID then
    let a := s.get uRing F.RING.POSSRC_ADDR
    let near := ((s.link l).ident.map fun i => i.pos3 * 1024 + i.pos2 * 32 + i.pos) == some a
    let v := if a = s.devAddr then 0 else if near then wrapN 64 ((s.link l).time.ofs / 65536)
      else if s.routeTo a = some l then s.fresh % 2 ^ 64
      else s.get uRing F.RING.POS_OFS_LO_NS + s.get uRing F.RING.POS_OFS_HI_NS * 2 ^ 32
    let s := if a ≠ s.devAddr ∧ !near ∧ s.routeTo a = some l then s.took else s
    (s.set uRing F.RING.POS_OFS_LO_NS (v % 2 ^ 32)).set uRing F.RING.POS_OFS_HI_NS (v / 2 ^ 32)
  else s

/-- A TIME message arrives (R569, R572). -/
def timeIn (s : Block) (l : Nat) (b : List Nat) : Block :=
  let seq := leAt b 1 1
  let t0 := leAt b 4 8 * 65536 + leAt b 12 2
  let t1 := leAt b 16 8 * 65536 + leAt b 24 2
  let k := (s.link l).time
  match leAt b 0 1 with
  | 0 =>
    let t2 := s.rxStamp16 % 2 ^ 80
    let t3 := s.txStamp16
    (s.timeSend l (timeBody 2 seq 0 0)).timeSend l (timeBody 3 seq t2 t3)
  | 2 => if seq = k.seq then s.setLink l fun x => { x with time := { x.time with t4 := s.rxStamp16 % 2 ^ 80 } } else s
  | 3 =>
    if seq = k.seq ∧ k.t4 ≠ 0 then
      let a : Int := k.t4 - k.t1
      let c : Int := t1 - t0
      let ofs : Int := ((k.t1 : Int) - t0 + ((k.t4 : Int) - t1)) / 2
      let ratio := k.last.map fun p => (k.t4 - p.2, t1 - p.1)
      (s.setLink l fun x => { x with time := { x.time with
        delay := (a - c) / 2, ofs := ofs, t2 := t0, last := some (t1, k.t4), ratio := ratio } }).posOfsUpdate l
    else s
  | _ => s

/-- The scope of the topmost ring of this device. -/
def topScope (s : Block) : Nat :=
  if s.on uRing F.RING.MERGE_3_VALID then 3 else if s.on uRing F.RING.MERGE_2_VALID then 2 else 1

/-- The system merging device sends its last SEQ (R564). -/
def beaconSend (s : Block) : Block :=
  if s.on uRing F.RING.MERGE_1_VALID && s.systemMerge == s.devAddr then
    s.broadcast s.topScope 6 (le 4 (s.get uTag F.TAG.SEQ_VALUE) ++ le 2 (s.get uRing F.RING.ENUM_EPOCH) ++ [0, 0])
  else s

/-- SEQ_BEACON arrives (R564). -/
def beaconIn (s : Block) (b : List Nat) : Block :=
  let q := leAt b 0 4
  let old := s.get uRing F.RING.SEQ_SEEN_SEQ
  if (q + 2 ^ 32 - old) % 2 ^ 32 < 2 ^ 31 then s.set uRing F.RING.SEQ_SEEN_SEQ q else s

/-- A link fails (R543). -/
def linkFailed (s : Block) (l : Nat) : Block :=
  let s := (s.inc uRing F.RING.CNT_LINK_FAIL_COUNT).flag uRing F.RING.FLAGS_LINK_FAIL
  s.portGo (12 + l) 9

/-- Replays of a link within the last millisecond. -/
def recentReplays (s : Block) (l : Nat) : List Nat := (s.link l).replays.filter fun t => s.since t < 1000000

/-- A failing condition of R543 holds. -/
def linkFailing (s : Block) (l : Nat) : Bool :=
  let k := s.link l
  decide (3 ≤ k.nakCount) || decide (256 ≤ (s.recentReplays l).length) ||
    (!k.replay.isEmpty && decide (10000 ≤ s.since k.progress))

/-- LINK_FAIL (R543). -/
def linkFail (s : Block) (l : Nat) : Block :=
  if l < 3 ∧ s.linkUp l ∧ s.linkFailing l then s.linkFailed l else s

/-- What a message's arrival does beyond this unit: nothing, delivery here, forwarding on links. -/
structure Passage where
  deliver : Bool
  next : List Nat
  lost : Bool

/-- Where an accepted message goes (R546, R562, R572). IDENT, ENUM, RESULT, TIME, UPL_CREDIT and REEL go
from device to device and are taken by each. -/
def passage (s : Block) (l : Nat) (m : RingMsg) : Passage :=
  if [1, 2, 3, 4, 7, 8].contains m.typ then ⟨true, [], false⟩
  else if m.typ = 0x11 then ⟨true, [], false⟩
  else match m.dest / 0x4000 with
    | 0 =>
      if m.dest % 0x4000 = s.devAddr then ⟨true, [], false⟩
      else match s.routeTo (m.dest % 0x4000) with
        | some k => if k = l then ⟨false, [], true⟩ else ⟨false, [k], false⟩
        | none => ⟨false, [], true⟩
    | sc => ⟨m.src != s.devAddr, s.spread m.src sc (some l), false⟩

/-- Whether a link takes a message at all: its port is UP, and a denied or unidentified link carries only
IDENT (R552, R553). -/
def linkTakes (s : Block) (l : Nat) (typ : Nat) : Bool :=
  decide (l < 3) && s.linkUp l && (typ == 8 || (s.link l).used)

/-- A message that came in on link l goes on by link k: in ENUM Class A is held (R432), service, B and C wait;
credited traffic between ring and uplink waits for its credits (R549). -/
def forward (s : Block) (m : RingMsg) (l k : Nat) : Block :=
  if m.cls == 2 && s.holdsA m.dest then s.holdA m
  else if (s.ringState = 2 && decide (4 ≤ m.cls)) || ((l = 2 || k = 2) && (decide (5 ≤ m.cls) || m.typ == 0x20)) then
    { s with ring := { s.ring with waiting := s.ring.waiting ++ [m] } }
  else s.linkSend k m

end Block
end Sys2Proof.Machine
end

