-- ==== Sys2Proof/Machine/Lock.lean ====
section
/-! DEFINITION. Semaphores and on-chip memory errors (R50-R56). -/

namespace Sys2Proof.Machine

/-- A master in the encoding of `LOCK.SEM_n.HOLDER`; masters that hold no semaphore have none. -/
def holderCode : Master → Option Nat
  | .host => some 1 | .core0 => some 2 | .core1 => some 3 | .core2 => some 4 | .core3 => some 5 | .other => some 6
  | .hw => none | .boot => none

namespace Block

/-- Master m, of device `dev` when it is the firmware of another, holds semaphore n. -/
def semHeld (s : Block) (m : Master) (dev n : Nat) : Bool :=
  match holderCode m with
  | some h => s.getI uLock F.LOCK.SEM_HOLDER n == h && (h != 6 || s.getI uLock F.LOCK.SEM_HOLDER_DEV n == dev)
  | none => false

/-- A read of semaphore n (R51, R52). -/
def semRead (s : Block) (m : Master) (dev n : Nat) : Nat × Block :=
  match holderCode m with
  | none => (0, s)
  | some h =>
    if 64 ≤ n then (0, s)
    else
      let s := if s.getI uLock F.LOCK.SEM_HOLDER n = 0 then
          (s.setI uLock F.LOCK.SEM_HOLDER n h).setI uLock F.LOCK.SEM_HOLDER_DEV n (if h = 6 then dev else 0)
        else s
      (b2n (s.semHeld m dev n) + s.getI uLock F.LOCK.SEM_HOLDER n * 16 +
        s.getI uLock F.LOCK.SEM_HOLDER_DEV n * 256, s)

/-- Semaphore n is free. -/
def semFree (s : Block) (n : Nat) : Block := (s.setI uLock F.LOCK.SEM_HOLDER n 0).setI uLock F.LOCK.SEM_HOLDER_DEV n 0

/-- A write of w to semaphore n (R52). -/
def semWrite (s : Block) (m : Master) (dev n w : Nat) : Block :=
  match holderCode m with
  | none => s
  | some h =>
    if 64 ≤ n then s
    else if s.semHeld m dev n then (if w % 2 = 0 then s.semFree n else s)
    else s.logBy m uLock 0x0008 2 n h 0

/-- The semaphores of a master that goes away are released (R53). -/
def semRelease (s : Block) (h : Nat) : Block :=
  (List.range 64).foldl (fun s n => if s.getI uLock F.LOCK.SEM_HOLDER n = h then s.semFree n else s) s

/-- `HELD_LO` and `HELD_HI`. -/
def semHeldBits (s : Block) (w : Nat) : Nat :=
  sumN ((List.range 32).map fun i => if s.getI uLock F.LOCK.SEM_HOLDER (32 * w + i) = 0 then 0 else 2 ^ i)

/-- The stored bits of a word that have flipped (R54). -/
def sramFlips (s : Block) (u : UnitId) (a : Nat) : Nat :=
  ((s.sram.flips.find? fun e => e.1 == (u, a)).map (·.2)).getD 0

/-- The state with the flipped bits of a word replaced. -/
def sramPut (s : Block) (u : UnitId) (a p : Nat) : Block :=
  let rest := s.sram.flips.filter fun e => e.1 != (u, a)
  { s with sram := { s.sram with flips := if p % 2 ^ 39 = 0 then rest else rest ++ [((u, a), p % 2 ^ 39)] } }

/-- How many of a word's 39 bits have flipped. -/
def sramWeight (s : Block) (u : UnitId) (a : Nat) : Nat := (onesBelow 39 (s.sramFlips u a)).length

/-- A word holds an error the code detects and cannot correct (R54, R55); a pattern of more than two bits, which the
code does not promise to see, counts as one (log entry 67). -/
def sramBad (s : Block) (u : UnitId) (a : Nat) : Bool := decide (2 ≤ s.sramWeight u a)

/-- A word is read (R55): one flipped bit is corrected in the data and in the array and counted; two are counted and
recorded with the unit index and the word address, and stay. -/
def sramRead (s : Block) (u : UnitId) (a : Nat) : Block :=
  match s.sramWeight u a with
  | 0 => s
  | 1 => (s.sramPut u a 0).inc uErrlog F.ERRLOG.CNT_SRAM_CE_COUNT
  | _ => (s.inc uErrlog F.ERRLOG.CNT_SRAM_UE_COUNT).log u 0x0010 2 a 0 0

/-- The words of a unit's memory that p holds of are read. -/
def sramSeen (s : Block) (u : UnitId) (p : Nat → Bool) : Block :=
  (s.sram.flips.filter fun e => e.1.1 == u && p e.1.2).foldl (fun s e => s.sramRead e.1.1 e.1.2) s

/-- Words that p holds of are written whole: they hold no error any more. -/
def sramFresh (s : Block) (p : UnitId × Nat → Bool) : Block :=
  { s with sram := { s.sram with flips := s.sram.flips.filter fun e => !p e.1 } }

/-- Fewer than 32 bits of a word are written (R54, R55): the word is read, changed and written back; one with a
double-bit error stays marked uncorrectable. -/
def sramModify (s : Block) (u : UnitId) (a : Nat) : Block := s.sramRead u a

/-- SRAM_SCRUB (R54-R56, R595): bits of a word flip, and the scrubber reads it. -/
def sramScrub (s : Block) (u : UnitId) (a : Nat) (e : Upset) : Block :=
  let s : Block := if e.flips % 2 ^ 39 = 0 then s else s.sramPut u a (Nat.xor (s.sramFlips u a) (e.flips % 2 ^ 39))
  if e.visit then s.sramRead u a else s

end Block
end Sys2Proof.Machine
end

