-- ==== Sys2Proof/Machine/Chain.lean ====
section
/-! DEFINITION. The decimation chain's arithmetic (R233-R245). -/

namespace Sys2Proof.Machine

/-- The chain with its history empty (R236); an empty place counts as zero. -/
def Chain.empty : Chain := ⟨[], [[], [], [], []], [false, false, false, false], [], 0⟩

/-- How a chain is set: half-bands, final decimation and taps, arithmetic and shifts, coefficients. -/
structure ChainCfg where
  halfBands : Nat
  decim : Nat
  taps : Nat
  compat : Bool
  shiftHb : Nat
  shiftFin : Nat
  coef : Nat → Int

/-- Half-bands, final decimation and taps of a MODE (R235). -/
def modePreset (mode : Nat) : Nat × Nat × Nat :=
  match mode with
  | 1 => (4, 16, 255) | 2 => (3, 8, 127) | 3 => (2, 4, 63) | _ => (1, 2, 23)

/-- SETTLING time of a MODE in ns (R236). -/
def settleTime (mode : Nat) : Nat :=
  match mode with
  | 1 => 5958960 | 2 => 1576240 | 3 => 429360 | 4 => 96560 | _ => 0

/-- Inputs of HB1 between the one an output represents and the output's last one (R239). -/
def delayInputs (mode : Nat) : Nat :=
  match mode with
  | 1 => 2197 | 2 => 581 | 3 => 157 | _ => 33

/-- Saturation to 24 bits, with whether it changed the value (R244). -/
def sat24 (v : Int) : Int × Bool := let w := clampS 24 v; (w, w != v)

/-- n (n - 1) (n - 2) / 6, zero below 3. -/
def choose3 (n : Nat) : Int := ((n * (n - 1) * (n - 2) / 6 : Nat) : Int)

/-- Weight of the bit `j` MOD_CLK cycles before the newest one in the sinc⁴ sum: the number of ways to write j as a sum
of four delays of 0 to 31 cycles (R233). It is 0 from j = 125 on, and the weights sum to 2^20 (R244). -/
def sincTap (j : Nat) : Int :=
  choose3 (j + 3) - 4 * choose3 (j + 3 - 32) + 6 * choose3 (j + 3 - 64) - 4 * choose3 (j + 3 - 96) +
    choose3 (j + 3 - 128)

/-- The sinc⁴ sum of one word of modulator bits that lies `k` words before the newest: bit 1 counts as +1 and bit 0 as
-1 (R233). -/
def sincWord (k w : Nat) : Int :=
  sumI ((List.range 32).map fun i => if bit w (31 - i) then sincTap (32 * k + i) else - sincTap (32 * k + i))

/-- The exact sinc⁴ sum over the words in stage 1, newest first (R233, R244). -/
def sincSum (mods : List Nat) : Int := sumI (mods.zipIdx.map fun p => sincWord p.2 p.1)

/-- A word of modulator bits enters stage 1. -/
def pushMod (w : Nat) (mods : List Nat) : List Nat := (w :: mods).take 4

/-- The sinc⁴ sums of words that enter a stage 1 one after another. -/
def sincRun : List Nat → List Nat → List Int
  | _, [] => []
  | mods, w :: r => sincSum (pushMod w mods) :: sincRun (pushMod w mods) r

/-- The y1 of stage 1 (R244, R245). -/
def stage1 (compat : Bool) (shift : Nat) (cic : Int) : Int × Bool :=
  sat24 (if compat then cic * 8 / (2 ^ shift : Int) else cic * 8)

/-- Σ c_i x_i over a history, newest first; coefficient 0 multiplies the newest input (log entry 9). -/
def firSum (coef : Nat → Int) : Nat → List Int → Int
  | _, [] => 0
  | i, x :: r => coef i * x + firSum coef (i + 1) r

/-- A FIR stage's output (R244, R245). -/
def firOut (compat : Bool) (shift : Nat) (coef : Nat → Int) (h : List Int) : Int × Bool :=
  let a := firSum coef 0 h
  sat24 (if compat then a / (2 ^ (17 + shift) : Int) else (a + 65536) / (2 ^ 17 : Int))

/-- One input through the half-bands from stage k on: chain, the value that leaves the last one if any,
saturation. -/
def pushHb (cfg : ChainCfg) (ch : Chain) (k : Nat) (x : Int) (sat : Bool) : Nat → Chain × Option Int × Bool
  | 0 => (ch, some x, sat)
  | n + 1 =>
    let h := (x :: nth ch.hb k []).take 23
    let second := nth ch.odd k false
    let ch := { ch with hb := upd ch.hb k fun _ => h, odd := upd ch.odd k fun _ => !second }
    if second then
      let (y, o) := firOut cfg.compat cfg.shiftHb (Config.halfBandTap k) h
      pushHb cfg ch (k + 1) y (sat || o) n
    else (ch, none, sat)

/-- What an input does to the chain: the final stage's output if one leaves, saturation in the half-bands
and in the final stage. -/
structure ChainStep where
  chain : Chain
  out : Option Int
  satHb : Bool
  satFin : Bool

/-- One input through the chain. -/
def Chain.push (cfg : ChainCfg) (ch : Chain) (x : Int) : ChainStep :=
  let (ch, v, sh) := pushHb cfg ch 0 x false cfg.halfBands
  match v with
  | none => ⟨ch, none, sh, false⟩
  | some v =>
    let h := (v :: ch.fin).take cfg.taps
    if ch.count + 1 < cfg.decim then ⟨{ ch with fin := h, count := ch.count + 1 }, none, sh, false⟩
    else
      let (y, o) := firOut cfg.compat cfg.shiftFin cfg.coef h
      ⟨{ ch with fin := h, count := 0 }, some y, sh, o⟩

/-- The chain of an encoder input: Galop, ROM coefficients, native arithmetic (R232). -/
def encoderChain : ChainCfg := ⟨1, 2, 23, false, 0, 0, Config.finalTap 4⟩

/-- Words of modulator bits of an encoder input through its chain (R232): the chain and its last output, if any. -/
def encoderPush (ch : Chain) : List Nat → Option Int → Chain × Option Int
  | [], y => (ch, y)
  | w :: r, y =>
    let ch : Chain := { ch with mods := pushMod w ch.mods }
    let st := ch.push encoderChain (stage1 false 0 (sincSum ch.mods)).1
    encoderPush st.chain r (st.out <|> y)

end Sys2Proof.Machine
end

