-- ==== Sys2Proof/Machine/Sense.lean ====
section
/-! DEFINITION. The SENSE channels (R231-R249). -/

namespace Sys2Proof.Machine
namespace Block

/-- A channel's data beyond its registers. -/
def sch (s : Block) (c : Nat) : SenseChan :=
  nth s.sense.chans c
    ⟨Chain.empty, 0, 0, 0, false, false, false, 0, false, 0, 0, 0, false, [], [], []⟩

/-- The state with a channel changed. -/
def setSch (s : Block) (c : Nat) (f : SenseChan → SenseChan) : Block :=
  { s with sense := { s.sense with chans := upd s.sense.chans c f } }

/-- A field of channel c. -/
def sget (s : Block) (f : Field) (c : Nat) : Nat := s.getI uSense f c

/-- MODE of channel c. -/
def smode (s : Block) (c : Nat) : Nat := s.sget F.SENSE.CH_CFG_MODE c

/-- The channel's modulator or source runs: physical channels while gate node 4 and those above it are open (R248); an
accepted close that waits leaves the clock running (R106). -/
def senseFed (s : Block) (c : Nat) : Bool :=
  c ≥ 8 || (s.nodeOpen 4 && (gateAncestors 4).all fun a => s.nodeOpen a)

/-- A swap applied by channel c; when it was the last one the new bank is in force, and a request that
waited starts (R241). -/
def swapApply (s : Block) (c : Nat) : Block :=
  let sel := s.get uSense F.SENSE.BANK_CTL_SEL
  let next := 1 - s.get uSense F.SENSE.BANK_STAT_ACT
  let s := s.setSch c fun x => { x with bank := next }
  let left := s.sense.swapLeft.filter (· != c)
  let s : Block := { s with sense := { s.sense with swapLeft := left } }
  if left.isEmpty && s.on uSense F.SENSE.BANK_STAT_PENDING then
    let s := (s.set uSense F.SENSE.BANK_STAT_PENDING 0).set uSense F.SENSE.BANK_STAT_ACT next
    if sel = next then s
    else
      let wait := (List.range 16).filter fun (c : Nat) =>
        s.sget F.SENSE.CH_CFG_USER c == 1 && decide (1 ≤ s.smode c) && decide (s.smode c ≤ 4)
      if wait.isEmpty then
        { (s.set uSense F.SENSE.BANK_STAT_ACT sel) with sense := { s.sense with
            chans := s.sense.chans.map fun x => { x with bank := sel } } }
      else
        let s := s.set uSense F.SENSE.BANK_STAT_PENDING 1
        { s with sense := { s.sense with swapLeft := wait
                                         chans := (List.range 16).map fun k =>
                                           let x := s.sch k
                                           if wait.contains k then x else { x with bank := sel } } }
  else s

/-- A write of `SENSE.BANK_CTL.SEL` (R241). -/
def bankSwap (s : Block) (sel : Nat) : Block :=
  let sel := sel % 2
  let s := s.set uSense F.SENSE.BANK_CTL_SEL sel
  if s.on uSense F.SENSE.BANK_STAT_PENDING || s.get uSense F.SENSE.BANK_STAT_ACT == sel then s
  else
    let s : Block := { s.set uSense F.SENSE.BANK_STAT_PENDING 1 with
      sense := { s.sense with swapLeft := List.range 16 } }
    let now := (List.range 16).filter fun (c : Nat) =>
      !(s.sget F.SENSE.CH_CFG_USER c == 1 && decide (1 ≤ s.smode c) && decide (s.smode c ≤ 4))
    now.foldl swapApply s

/-- A channel starts: history empty, SETTLING, record division from the beginning (R236). -/
def senseRestart (s : Block) (c : Nat) : Block :=
  let m := s.smode c
  let s := s.setSch c fun x => { x with
    chain := Chain.empty, settleUntil := s.lt + settleTime m, sinceRec := 0, aboveHi := false
    belowLo := false, busy := false, sat := false, queued := [], epochs := [] }
  let s := s.setI uSense F.SENSE.CH_VALUE_VALID c 0
  if m = 0 then s.clrBitI uSense F.SENSE.STAT_RUN 0 c else s.setBitI uSense F.SENSE.STAT_RUN 0 c

/-- A committed change of a channel's MODE or USER (R236, R242). `pending`: a swap was pending at the commit. The
channel then restarts, has applied the swap, and takes the bank requested by SEL from its first output on. -/
def senseCommitted (s : Block) (pending : Bool) (c oldMode oldUser : Nat) : Block :=
  let moved := oldMode ≠ s.smode c
  let changed := moved ∨ oldUser ≠ s.sget F.SENSE.CH_CFG_USER c
  if pending && decide changed then
    let s := s.senseRestart c
    let s : Block := if s.sense.swapLeft.contains c then s.swapApply c else s
    s.setSch c fun x => { x with bank := s.get uSense F.SENSE.BANK_CTL_SEL }
  else
    let s : Block := if moved then s.senseRestart c else s
    if changed then s.setSch c fun x => { x with bank := s.get uSense F.SENSE.BANK_STAT_ACT } else s

/-- Gate node 4 reopens (R236, R248). -/
def senseReopen (s : Block) : Block :=
  (List.range 8).foldl (fun s c => if 1 ≤ s.smode c ∧ s.smode c ≤ 5 then s.senseRestart c else s) s

/-- How channel c's chain is set. -/
def chainCfg (s : Block) (c : Nat) : ChainCfg :=
  let m := s.smode c
  let (n, d, t) := modePreset m
  let user := s.sget F.SENSE.CH_CFG_USER c == 1
  let bank := if (s.sch c).bank = 0 then F.SENSE.BANK0_COEF else F.SENSE.BANK1_COEF
  ⟨n, d, t, s.sget F.SENSE.CH_CFG_COMPAT c == 1, s.sget F.SENSE.CH_SHIFT_SHIFT_HB c,
    s.sget F.SENSE.CH_SHIFT_SHIFT_FIN c, fun i => if user then s.getSI uSense bank i else Config.finalTap m i⟩

/-- A saturation flag of a channel. -/
def satFlag (s : Block) (c : Nat) (f : Field) (o : Bool) : Block :=
  if o then (s.setI uSense f c 1).setSch c fun x => { x with sat := true } else s

/-- The limit comparators of an output (R246). -/
def senseLimits (s : Block) (c : Nat) (z : Int) : Block :=
  let x := s.sch c
  let hi := s.onI uSense F.SENSE.CH_LIM_HI_EN c && decide (s.getSI uSense F.SENSE.CH_LIM_HI_VALUE c < z)
  let lo := s.onI uSense F.SENSE.CH_LIM_LO_EN c && decide (z < s.getSI uSense F.SENSE.CH_LIM_LO_VALUE c)
  let s := s.setSch c fun x => { x with aboveHi := hi, belowLo := lo }
  let s : Block := if hi && !x.aboveHi then (s.setI uSense F.SENSE.CH_FLAGS_HI c 1).raise (136 + c) else s
  if lo && !x.belowLo then (s.setI uSense F.SENSE.CH_FLAGS_LO c 1).raise (136 + c) else s

/-- The epoch of the input an output represents (R239): the one `n` inputs before the newest. -/
def epochAt : Nat → List (Nat × Nat) → Nat
  | _, [] => 0
  | n, (e, k) :: r => if n < k then e else epochAt (n - k) r

/-- Past epochs with one more input. -/
def pushEpoch (e : Nat) : List (Nat × Nat) → List (Nat × Nat)
  | (f, k) :: r => if e = f then (f, k + 1) :: r else (e, 1) :: (f, k) :: r
  | [] => [(e, 1)]

/-- A sample is delivered: calibration, VALUE, limits, record (R244, R246, R247). -/
def senseDeliver (s : Block) (c : Nat) (y : Int) (single : Bool) : Block :=
  let a := (y - s.getSI uSense F.SENSE.CH_CAL_OFS_OFS c) * (s.sget F.SENSE.CH_CAL_GAIN_GAIN c : Int)
  let (z, o) := sat24 ((a + 16384) / (2 ^ 15 : Int))
  let s : Block := if single then s else s.calSense c y
  let s := s.satFlag c F.SENSE.CH_FLAGS_SAT_CAL o
  let x := s.sch c
  let settling := !single && decide (s.lt < x.settleUntil)
  let s := ((s.putSI uSense F.SENSE.CH_VALUE_Z c z).setI uSense F.SENSE.CH_VALUE_VALID c 1).setI
    uSense F.SENSE.CH_VALUE_SETTLING c (b2n settling)
  let s : Block := if settling then s else s.senseLimits c z
  let user := s.sget F.SENSE.CH_CFG_USER c
  let div := s.sget F.SENSE.CH_CFG_RECORD_DIV c
  let virt := 8 ≤ c
  let fl := b2n x.sat + 2 * b2n settling + 4 * b2n (virt && x.stale) + 8 * (user * x.bank) + 16 * user +
    32 * b2n single + 64 * s.get uClk F.CLK.SRC_STAT_ON_ITO + 128 * s.sget F.SENSE.CH_CFG_COMPAT c
  let ep := if virt then epochAt (delayInputs (s.smode c)) x.epochs else 0
  let s := s.setSch c fun x => { x with sat := false, sinceRec := x.sinceRec + 1 }
  if div ≠ 0 ∧ div ≤ (s.sch c).sinceRec then
    let r : Rec := .sense ⟨c, fl, s.stamp, z, ep, x.seq⟩
    (s.setSch c fun x => { x with sinceRec := 0, seq := (x.seq + 1) % 0x10000 }).classB 1 r
  else s

/-- One input through channel c's chain; an output that leaves is delivered. A channel that has still to apply a bank
swap applies it before the sum of that output is formed, so that the sum and its flags are the new bank's (R241). -/
def senseInput (s : Block) (c : Nat) (x : Int) (epoch : Nat) : Block :=
  let s : Block := if s.sense.swapLeft.contains c && ((s.sch c).chain.push (s.chainCfg c) x).out.isSome
    then s.swapApply c else s
  let st := (s.sch c).chain.push (s.chainCfg c) x
  let s := s.setSch c fun k => { k with chain := st.chain, epochs := (pushEpoch epoch k.epochs).take 2300 }
  let s := (s.satFlag c F.SENSE.CH_FLAGS_SAT_HB st.satHb).satFlag c F.SENSE.CH_FLAGS_SAT_FIN st.satFin
  match st.out with
  | none => s
  | some y => s.senseDeliver c y false

/-- A word of modulator bits through a physical channel: its stage 1, then the rest of its chain (R233). -/
def senseWord (s : Block) (c w : Nat) : Block :=
  let s := s.setSch c fun k => { k with chain := { k.chain with mods := pushMod w k.chain.mods } }
  let (y, o) := stage1 (s.sget F.SENSE.CH_CFG_COMPAT c == 1) (s.sget F.SENSE.CH_SHIFT_SHIFT1 c)
    (sincSum (s.sch c).chain.mods)
  (s.satFlag c F.SENSE.CH_FLAGS_SAT1 o).senseInput c y 0

/-- Modulator bits, or held inputs, that reach a channel up to an output (R233, R238). For a virtual channel
only their number counts: one held input to a word. -/
def senseOutput (s : Block) (c : Nat) (mods : List Nat) : Block :=
  if c < 16 ∧ 1 ≤ s.smode c ∧ s.smode c ≤ 4 ∧ s.senseFed c then
    if c < 8 then mods.foldl (fun s w => s.senseWord c w) s
    else
      let k := s.sch c
      let l := k.queued ++ mods.map fun _ => (k.held, k.heldEpoch)
      let s := s.setSch c fun k => { k with queued := [] }
      l.foldl (fun s p => s.senseInput c p.1 p.2) s
  else s

/-- A single-step trigger (R237). -/
def ssTrigger (s : Block) (c : Nat) : Block :=
  if c < 8 ∧ s.smode c = 5 ∧ s.senseFed c then
    if (s.sch c).busy then
      (s.setI uSense F.SENSE.CH_FLAGS_SS_OVERRUN c 1).addI uSense F.SENSE.CH_SSOVR_COUNT c 1
    else s.setSch c fun x => { x with busy := true, sat := false }
  else s

/-- A single-step average completes: SS_N outputs of a stage 1 cleared at the trigger, after the first three (R237). The
average of no output (SS_N = 0, outside 1-255) is a free value. -/
def ssDone (s : Block) (c : Nat) (mods : List Nat) : Block :=
  let n := s.sget F.SENSE.CH_CFG_SS_N c
  if c < 8 ∧ (s.sch c).busy ∧ s.smode c = 5 ∧ s.senseFed c ∧ 3 + n ≤ mods.length then
    let ys := (((sincRun [] mods).drop 3).take n).map
      (stage1 (s.sget F.SENSE.CH_CFG_COMPAT c == 1) (s.sget F.SENSE.CH_SHIFT_SHIFT1 c))
    let s := s.satFlag c F.SENSE.CH_FLAGS_SAT1 (ys.any (·.2))
    let y := if n = 0 then sext 24 s.fresh else (sat24 (divRound (sumI (ys.map (·.1))) n)).1
    let s : Block := if n = 0 then s.took else s
    let s := (s.setSch c fun x => { x with busy := false }).senseDeliver c y true
    (s.setI uSense F.SENSE.CH_FLAGS_SS_DONE c 1).raise (104 + c)
  else s

/-- A modulator overload (R243). -/
def modOverload (s : Block) (c : Nat) : Block :=
  if c < 8 ∧ s.smode c ≠ 0 ∧ s.senseFed c then
    ((s.setI uSense F.SENSE.CH_FLAGS_MOD_OVLD c 1).raise (120 + c)).senseRestart c
  else s

/-- A context's line offers its statistics to the virtual channels that take them (R238, R292): `stats`
by statistic number, `stamp` the line's short stamp. -/
def offerStats (s : Block) (ctx : Nat) (stats : List Nat) (lost : Bool) (epoch stamp : Nat) : Block :=
  ((List.range 8).map (· + 8)).foldl (fun s c =>
    if s.smode c ≠ 0 ∧ s.sget F.SENSE.CH_VIRT_SRC_CTX c = ctx then
      s.setSch c fun x => { x with
        offers := x.offers ++ [⟨nth stats (s.sget F.SENSE.CH_VIRT_SRC_STAT c) 0, lost, epoch, stamp⟩] }
    else s) s

/-- A virtual channel accepts the next value offered, `n` inputs of HB1 after the last one (R238,
R239). -/
def virtualValue (s : Block) (c n : Nat) : Block :=
  let k := s.sch c
  match k.offers with
  | [] => s
  | o :: rest =>
    if c < 8 ∨ 16 ≤ c then s
    else
      let s := s.setSch c fun x => { x with offers := rest }
      if o.lost && s.onI uSense F.SENSE.CH_VIRT_SKIP_FLAGGED c then s
      else (s.setI uSense F.SENSE.CH_FLAGS_STALE c 0).setSch c fun x => { x with
        queued := x.queued ++ List.replicate n (x.held, x.heldEpoch)
        held := ((o.value : Int) - 32768) * 256, heldEpoch := o.epoch, lastAccept := s.lt, stale := false }

/-- No value for 1 ms (R239). -/
def senseStale (s : Block) (c : Nat) : Block :=
  if 8 ≤ c ∧ c < 16 ∧ s.smode c ≠ 0 ∧ 1000000 ≤ s.since (s.sch c).lastAccept then
    (s.setSch c fun x => { x with stale := true }).setI uSense F.SENSE.CH_FLAGS_STALE c 1
  else s

/-- SETTLING bits of `SENSE.STAT` at the present instant. -/
def senseSettling (s : Block) : Nat :=
  sumN (((List.range 16).filter fun (c : Nat) =>
    decide (1 ≤ s.smode c) && decide (s.smode c ≤ 4) && decide (s.lt < (s.sch c).settleUntil)).map fun c => 2 ^ c)

end Block
end Sys2Proof.Machine
end

