-- ==== Sys2Proof/Machine/Strip.lean ====
section
/-! DEFINITION. Strips and contexts: sharing, line history, tables, level records, the line's way to the
stitch (R272-R296, R301-R312). -/

namespace Sys2Proof.Machine
namespace Block

/-- A context beyond its registers. -/
def ctx (s : Block) (x : Nat) : CtxSt := nth s.ctxs x ⟨[], [], [], [], [], none, none, 0, 0, none, []⟩

/-- The state with a context changed. -/
def setCtx (s : Block) (x : Nat) (f : CtxSt → CtxSt) : Block := { s with ctxs := upd s.ctxs x f }

/-- Word addresses in a context's memories (R57): the two correction banks, the geometry banks, the
linearisation banks, and the history, two values of 16 bits to a word, by line slot: value i of a line. The order of the
shares is the model's (log entry 12). -/
def corrAddr (bank w : Nat) : Nat := bank * 49152 + w
def geoAddr (bank w : Nat) : Nat := 0x20000 + bank * 24576 + w
def linAddr (bank w : Nat) : Nat := 0x40000 + bank * 3075 + w
def rawAddr (line i : Nat) : Nat := 0x80000 + (line % 2) * 24576 + i / 2
def spatAddr (line i : Nat) : Nat := 0x90000 + (line % 4) * 24576 + i / 2

/-- A table word of a context. -/
def tblWord (s : Block) (x a : Nat) : Nat := storeRead (fun _ => 0) (s.ctx x).tbl a

/-- The state with a table word of a context written; whole-word writes leave no error. -/
def setTbl (s : Block) (x a v : Nat) : Block :=
  (s.setCtx x fun c => { c with tbl := storeWrite (fun _ => 0) c.tbl a v }).sramFresh (· == (uCtx x, a))

/-- Components of the context's format: 1 for Mono8, Mono10p and Mono12p (R274, R285). -/
def ctxComps (s : Block) (x : Nat) : Nat := if s.get (uCtx x) F.CTX.FMT_PIXFMT < 3 then 1 else 3

/-- Whether a line of context x reads a word of its memory: tables in force, as far as its span and produced count
reach, and the stored lines. -/
def lineReads (s : Block) (x a : Nat) : Bool :=
  let u := uCtx x
  let c := corrAddr (s.get u F.CTX.TABLE_BANK) 0
  let g := geoAddr (s.get u F.CTX.GEO_CFG_GEO_BANK) 0
  let l := linAddr (s.get u F.CTX.GEO_CFG_LIN_BANK) 0
  let n := s.get u F.CTX.SPAN_COL_COUNT * s.ctxComps x
  let within (b k : Nat) : Bool := decide (b ≤ a) && decide (a < b + k)
  (s.on u F.CTX.TABLE_USE && within c n) ||
    (!(s.on u F.CTX.GEO_CFG_GEO_IDENT) && within g (s.get u F.CTX.GEO_PROD_COUNT)) ||
    (s.on u F.CTX.GEO_CFG_LIN_USE && within l (1025 * s.ctxComps x)) ||
    (s.on u F.CTX.NR_CFG_SP_EN && (s.ctx x).raw.any fun e => within (rawAddr e.1 0) ((n + 1) / 2)) ||
    (s.on u F.CTX.NR_CFG_TP_EN && (s.ctx x).spat.any fun e => within (spatAddr e.1 0) ((n + 1) / 2))

/-- The correction word of a column and component in force (R285, R287). -/
def corrWord (s : Block) (x col c : Nat) : CorrWord :=
  let u := uCtx x
  if !s.on u F.CTX.TABLE_USE then ⟨0, 0x4000, 0⟩
  else
    let a := corrAddr (s.get u F.CTX.TABLE_BANK) (col * s.ctxComps x + c)
    if s.sramBad u a then ⟨0, 0x4000, 5⟩ else corrOf (s.tblWord x a)

/-- The values a line of context x is filtered with. -/
def frontCfg (s : Block) (x : Nat) : FrontCfg :=
  let u := uCtx x
  let k := s.ctx x
  { comps := s.ctxComps x
    fill := s.get u F.CTX.FILL_VALUE
    spEn := s.on u F.CTX.NR_CFG_SP_EN
    tpEn := s.on u F.CTX.NR_CFG_TP_EN
    defExcl := s.on u F.CTX.NR_CFG_DEF_EXCL
    tw := [F.CTX.NR_CFG_TW0, F.CTX.NR_CFG_TW1, F.CTX.NR_CFG_TW2, F.CTX.NR_CFG_TW3, F.CTX.NR_CFG_TW4].map (s.get u)
    thr := fun i => if i % 2 = 0 then s.getI u F.CTX.NR_THR_THR_LO (i / 2) else s.getI u F.CTX.NR_THR_THR_HI (i / 2)
    black := s.getS u F.CTX.BLACK_OFS
    gain := fun c => (s.get u (match c with
      | 0 => F.CTX.FF_GAIN_01_G0 | 1 => F.CTX.FF_GAIN_01_G1 | _ => F.CTX.FF_GAIN_2_G2) : Nat)
    corr := s.corrWord x
    rawBad := fun age col c => s.sramBad u (rawAddr ((k.raw.getD (age - 1) (0, [])).1) (col * s.ctxComps x + c))
    spatBad := fun age col c => s.sramBad u (spatAddr ((k.spat.getD (age - 1) (0, [])).1) (col * s.ctxComps x + c))
    wild := fun col c => (Config.free (s.freeCtr + 3 * col + c) : Int) }

/-- Bits of a component of a pixel format (R172); those of the reserved codes are a free value (log
entry 1). -/
def compDepth (s : Block) (pixfmt : Nat) : Nat :=
  match pixfmt with
  | 0 | 3 | 4 => 8 | 1 | 5 => 10 | 2 => 12
  | _ => s.fresh % 17

/-- A port's pixel as a raw value (R274). -/
def rawPixel (d : Nat) (p : RawPixel) : FrontPx :=
  p.map fun t => ((t.1 * 2 ^ (16 - d) : Nat), (t.2.1 * 2 ^ (16 - d) : Nat), (t.2.2 * 2 ^ (16 - d) : Nat))

/-- What was triggered for a line counter. -/
def lineInfo (s : Block) (line : Nat) : Option Decided := s.trig.lines.find? fun d => d.line == line

/-- The level record emitted (R295). -/
def levelEmit (s : Block) (x : Nat) (r : LevelRec) : Block :=
  if s.on (uCtx x) F.CTX.STAT_CFG_REC_EN then
    let q := (s.ctx x).recSeq
    let s := s.setCtx x fun c => { c with recSeq := (q + 1) % 2 ^ 32 }
    (s.inc (uCtx x) F.CTX.CNT_REC_COUNT).classB 1 (.level { r with seq := q })
  else s

/-- The open record closed with a flag set: 1 PARTIAL, 32 EPOCH_SPLIT, 0 none (R295). -/
def levelClose (s : Block) (x flag : Nat) : Block :=
  match (s.ctx x).acc with
  | none => s
  | some a =>
    let s := s.setCtx x fun c => { c with acc := none }
    s.levelEmit x { a.r with flags := Nat.lor a.r.flags flag }

/-- A new record opened by a line (R295). -/
def levelOpen (s : Block) (x : Nat) (l : CamLine) (d : Decided) (split : Bool) : LevelAcc :=
  let u := uCtx x
  let z : FlickerSums := ⟨0, 0, 0, 0⟩
  ⟨{ ctx := x
     flags := b2n (d.pageLine != 0) + 8 * s.get u F.CTX.STAT_CFG_F0_EN + 16 * s.get u F.CTX.STAT_CFG_F1_EN +
       32 * b2n split
     device := s.devAddr, epoch := l.epoch, page := d.page, stampFirst := l.stamp, lineFirst := l.line
     camp := s.get u F.CTX.SRC_CAMP, nLines := 0, nUsed := 0, sumC0 := 0, sumC1 := 0, sumC2 := 0, sumY := 0
     sumSqY := 0, f0 := z, f1 := z, minY := 0xFFFF, maxY := 0, satLines := 0, seq := 0 }, 0, 0, false, l.stamp⟩

/-- Flicker sums of a used line (R294). -/
def flkAdd (f : FlickerSums) (on : Bool) (ph : Nat) (y : Int) : FlickerSums :=
  if on then
    let c := flkCos (ph / 2 ^ 22)
    let t := flkSin (ph / 2 ^ 22)
    ⟨f.yc + y * c, f.ys + y * t, f.c + c, f.s + t⟩
  else f

/-- A line added to the record of its page (R293, R294). -/
def levelAdd (s : Block) (x : Nat) (a : LevelAcc) (l : CamLine) (adj anyPx : Bool) (st : List Nat) : LevelAcc :=
  let u := uCtx x
  let lost := l.cause != 0
  let used := !lost && (!l.expCut || !s.on u F.CTX.STAT_CFG_SKIP_CUT) && anyPx
  let f0 := s.on u F.CTX.STAT_CFG_F0_EN
  let f1 := s.on u F.CTX.STAT_CFG_F1_EN
  let p0 := if a.started then (a.ph0 + flkStep (s.get u F.CTX.FLK_F0_CHZ) l.stamp a.prevStamp) % 2 ^ 32 else 0
  let p1 := if a.started then (a.ph1 + flkStep (s.get u F.CTX.FLK_F1_CHZ) l.stamp a.prevStamp) % 2 ^ 32 else 0
  let fl := Nat.lor a.r.flags (2 * b2n (!adj) + 4 * b2n l.expCut)
  let r := { a.r with flags := fl, nLines := a.r.nLines + 1 }
  let y := st.getD 3 0
  let r := if used then
    { r with
      nUsed := r.nUsed + 1
      sumC0 := r.sumC0 + st.getD 0 0, sumC1 := r.sumC1 + st.getD 1 0, sumC2 := r.sumC2 + st.getD 2 0
      sumY := r.sumY + y, sumSqY := r.sumSqY + y * y
      f0 := flkAdd r.f0 f0 p0 y, f1 := flkAdd r.f1 f1 p1 y
      minY := Nat.min r.minY y, maxY := Nat.max r.maxY y
      satLines := r.satLines + b2n (st.getD 5 0 != 0) } else r
  ⟨r, p0, p1, a.started || used, l.stamp⟩

/-- The line's part in the level records (R293-R295). -/
def levelLine (s : Block) (x : Nat) (l : CamLine) (d : Decided) (adj anyPx : Bool) (st : List Nat) : Block :=
  let open_ := (s.ctx x).acc
  let pageSame := match open_ with | some a => a.r.page == d.page | none => true
  let epochSame := match open_ with | some a => a.r.epoch == l.epoch | none => true
  let split := pageSame && !epochSame
  let s : Block := if !pageSame then s.levelClose x 0
    else if split then (s.levelClose x 32).flag (uCtx x) F.CTX.FLAGS_EPOCH_SPLIT else s
  let a := ((s.ctx x).acc).getD (s.levelOpen x l d split)
  s.setCtx x fun c => { c with acc := some (s.levelAdd x a l adj anyPx st) }

/-- The geometry word of a produced column in force, none for a double-bit error (R302, R306). -/
def geoWord (s : Block) (x q : Nat) : Option (Nat × Nat) :=
  let u := uCtx x
  if s.on u F.CTX.GEO_CFG_GEO_IDENT then some (q * 1024, 0)
  else
    let a := geoAddr (s.get u F.CTX.GEO_CFG_GEO_BANK) q
    if s.sramBad u a then none
    else some (bits (s.tblWord x a) 23 0, bits (s.tblWord x a) 31 24)

/-- The colour values in force (R307-R311). -/
def colourCfg (s : Block) (x : Nat) : ColourCfg :=
  let u := uCtx x
  let bank := s.get u F.CTX.GEO_CFG_LIN_BANK
  { lin := fun c i =>
      let a := linAddr bank (c * 1025 + i)
      if s.sramBad u a then i * 64 else s.tblWord x a % 65536
    linUse := s.on u F.CTX.GEO_CFG_LIN_USE
    m := fun i j => s.getS u (match i * 3 + j with
      | 0 => F.CTX.COL_M0_M00 | 1 => F.CTX.COL_M0_M01 | 2 => F.CTX.COL_M1_M02 | 3 => F.CTX.COL_M1_M10
      | 4 => F.CTX.COL_M2_M11 | 5 => F.CTX.COL_M2_M12 | 6 => F.CTX.COL_M3_M20 | 7 => F.CTX.COL_M3_M21
      | _ => F.CTX.COL_M4_M22)
    mono := s.ctxComps x == 1 }

/-- Resampling and colour of a line (R301-R311): the h line, the produced pixels, and the pixels a limit
changed. -/
def resample (s : Block) (x : Nat) (out : List FrontPx) (sat : List Bool) (prev : List HPx) :
    List HPx × List LabPx × Nat :=
  let u := uCtx x
  let n := s.get u F.CTX.GEO_PROD_COUNT
  let kernel := s.get u F.CTX.GEO_CFG_KERNEL
  let fill : Int := s.get u F.CTX.FILL_VALUE
  let vint := s.on u F.CTX.GEO_CFG_VINT
  let cc := s.colourCfg x
  let cols := (List.range n).map fun q =>
    match s.geoWord x q with
    | none =>
      -- the word of a double-bit error reads as zero (R55), and its column is FILL
      let h := hPixel kernel fill out sat 0 fun c => (Config.free (s.freeCtr + 3 * q + c) : Int)
      (h, { h with fill := true })
    | some (p, v) =>
      let h := hPixel kernel fill out sat p fun c => (Config.free (s.freeCtr + 3 * q + c) : Int)
      (h, if vint && v != 0 then match prev[q]? with
        | some b => vPixel h b v
        | none => h
        else h)
  let labs := cols.map fun p => labOf cc p.2
  (cols.map (·.1), labs.map (·.1), (labs.filter (·.2)).length)

/-- Whether a line is adjacent to the one before it (R280). -/
def adjacent (key : Option (Nat × Nat × Nat)) (camp page pageLine : Nat) : Bool :=
  match key with
  | none => false
  | some (c, p, l) => c == camp && (p == page && l + 1 == pageLine || (p + 1) % 2 ^ 32 == page && pageLine == 0)

/-- A line of n values enters the history of its context (R280): whole words, and for an odd last value half of one, which is
a read-modify-write (R54). -/
def historyWrite (s : Block) (u : UnitId) (line n : Nat) : Block :=
  let whole (a : Nat) : Bool :=
    decide (rawAddr line 0 ≤ a ∧ a < rawAddr line 0 + n / 2) || decide (spatAddr line 0 ≤ a ∧ a < spatAddr line 0 + n / 2)
  let s := s.sramFresh fun a => a.1 == u && whole a.2
  if n % 2 = 0 then s else (s.sramModify u (rawAddr line n)).sramModify u (spatAddr line n)

/-- A line of a context through its strip (R277-R312). A context that keeps no column is awaited for no line, and hands the
stitch none (R313). -/
def frontLine (s : Block) (x : Nat) (l : CamLine) (d : Decided) : Block :=
  let u := uCtx x
  let camp := s.get u F.CTX.SRC_CAMP
  let depth := s.compDepth l.pixfmt
  let count := s.get u F.CTX.SPAN_COL_COUNT
  let src := (l.pixels.drop (s.get u F.CTX.SPAN_COL_FIRST)).take count
  let raw := src.map (rawPixel depth) ++ List.replicate (count - src.length) none
  let adj := adjacent (s.ctx x).prevKey camp d.page d.pageLine
  let s : Block := if adj then s
    else (s.setCtx x fun c => { c with raw := [], spat := [], prevB := [], prevH := [] }).flag u
      F.CTX.FLAGS_NONADJ |>.inc u F.CTX.CNT_NONADJ_COUNT
  let s := s.sramSeen u (s.lineReads x)
  let cfg := s.frontCfg x
  let k := s.ctx x
  let sp := spatialLine cfg (raw :: k.raw.map (·.2))
  let nr := temporalLine cfg sp (k.spat.map (·.2))
  let b0 := blackLine cfg nr
  let b1 := replaceLine cfg b0 k.prevB
  let lost := noSource cfg b0 k.prevB
  let out := flatLine cfg b1
  let sat := satBits cfg b1
  let nsat := (sat.filter id).length
  let first := s.get u F.CTX.STAT_WIN_FIRST
  let cnt := s.get u F.CTX.STAT_WIN_COUNT
  let st := lineStats cfg.comps first cnt out nr sat (defBits cfg b1)
  let anyPx := (if cnt = 0 then out else (out.drop first).take cnt).any Option.isSome
  let (h, labs, nlim) := s.resample x out sat k.prevH
  let wildUsed := s.get u F.CTX.GEO_CFG_KERNEL = 3 ∨ 6 ≤ l.pixfmt ∨
    (List.range count).any fun p => (List.range cfg.comps).any fun c => decide (6 ≤ (cfg.corr p c).dpr)
  let s : Block := if wildUsed then { s with freeCtr := s.freeCtr + 3 * Nat.max count (s.get u F.CTX.GEO_PROD_COUNT) + 3 }
    else s
  let s := s.setCtx x fun c => { c with
    raw := ((l.line, raw) :: c.raw).take 2, spat := ((l.line, sp) :: c.spat).take 4
    prevB := b1, prevH := h, prevKey := some (camp, d.page, d.pageLine) }
  let s := s.historyWrite u l.line (count * cfg.comps)
  let s : Block := if lost = 0 then s else (s.flag u F.CTX.FLAGS_DEF_NOSRC).addI u F.CTX.CNT_NOSRC_COUNT 0 lost
  let s : Block := if nsat = 0 then s else (s.flag u F.CTX.FLAGS_SAT).addI u F.CTX.CNT_SAT_PIX_COUNT 0 nsat
  let s : Block := if nlim = 0 then s else (s.flag u F.CTX.GC_FLAGS_LAB_SAT).addI u F.CTX.CNT_LAB_SAT_COUNT 0 nlim
  let s := (s.inc u F.CTX.CNT_LINES_COUNT).calLine x l.epoch (l.cause == 0 && !l.expCut) nr
  let s := (List.range 4).foldl (fun s i =>
    s.wr u (0x1F0 + 4 * i) (st.getD (2 * i) 0 + st.getD (2 * i + 1) 0 * 65536)) s
  let s := s.offerStats x st (l.cause != 0) l.epoch l.stamp
  let s := s.levelLine x l d adj anyPx st
  let keep := (labs.drop (s.get u F.CTX.GEO_KEEP_FIRST)).take (s.get u F.CTX.GEO_KEEP_COUNT)
  let tok : CtxLine := ⟨l.line, l.stamp, l.epoch, d.page, d.pageLine, l.short, l.long, l.cause != 0, l.cause,
    l.expCut, adj, camp, l.width, s.get u F.CTX.GEO_OUT_FIRST, l.t0, s.get u F.CTX.GEO_PROD_COUNT,
    s.get u F.CTX.GEO_KEEP_FIRST, keep⟩
  if s.get u F.CTX.GEO_KEEP_COUNT = 0 then s else s.setCtx x fun c => { c with outbox := c.outbox ++ [tok] }

/-- The oldest line a context has ready, if any: emitted by the port the context takes it from, not taken before, and
with no older one of the context still open at its port, since its lines keep their order (R277, R279). -/
def readyLine (s : Block) (x : Nat) : Option CamLine :=
  let n := (s.ctx x).nextLine
  let ready := (List.range 12).flatMap fun k => (s.camp k).lines.filter fun l => decide (n ≤ l.line) && s.takesLine x k l.line
  match ready with
  | [] => none
  | l :: r =>
    let o := r.foldl (fun a b => if b.line < a.line then b else a) l
    if (List.range 12).any fun k => (s.camp k).entries.any fun e =>
        decide (n ≤ e.line) && decide (e.line < o.line) && s.takesLine x k e.line then none
    else some o

/-- The line the strip takes next: the one ready longest, the lower context first (R277). -/
def nextReady (s : Block) (strip : Nat) : Option (Nat × CamLine) :=
  ((List.range 4).filterMap fun j => (s.readyLine (4 * strip + j)).map fun l => (4 * strip + j, l)).foldl
    (fun b p => match b with
      | none => some p
      | some q => if p.2.t0 < q.2.t0 then some p else b) none

/-- A line of the context before line `line` is still in flight at a port. -/
def olderLine (s : Block) (x line : Nat) : Bool :=
  let n := (s.ctx x).nextLine
  (List.range 12).any fun k =>
    ((s.camp k).entries.any fun e => decide (n ≤ e.line) && lineBefore e.line line && s.takesLine x k e.line) ||
      (s.camp k).lines.any fun l => decide (n ≤ l.line) && lineBefore l.line line && s.takesLine x k l.line

/-- EN = 0 comes into force from line `off` on: the open record closes once no older line of the context is in flight
(R295). -/
def ctxOff (s : Block) (x : Nat) : Block :=
  match (s.ctx x).off with
  | none => s
  | some l => if s.olderLine x l then s else (s.levelClose x 1).setCtx x fun c => { c with off := none }

/-- What a commit starts in a context (R280, R295): its values were those of `old`, its new ones hold from `line` on. -/
def ctxCommitted (old s : Block) (x line : Nat) : Block :=
  let was := old.on (uCtx x) F.CTX.SRC_EN
  let now := s.on (uCtx x) F.CTX.SRC_EN
  let s : Block := if was && !now then (s.setCtx x fun c => { c with off := some line }).ctxOff x else s
  if !was && now then s.setCtx x fun c => { c with prevKey := none } else s

/-- The effective line of a commit, or one after it, enters a context (R279). -/
def enterCtx (s : Block) (x line : Nat) : Block :=
  if s.enters (uCtx x) line then ctxCommitted s (s.enterUnit (uCtx x) line) x line else s

/-- STRIP_LINE (R277): a line is taken with the values in force for it (R279); lines of rows kept out are discarded at
the strip input (R429). -/
def stripLine (s : Block) (strip : Nat) : Block :=
  match s.nextReady strip with
  | none => s
  | some (x, l) =>
    let s := (s.enterCtx x l.line).noteIn (uCtx x) l.line
    let s := (s.setCtx x fun c => { c with nextLine := l.line + 1 }).ctxOff x
    let w := Nat.min 65535 (s.since l.t0)
    match s.lineInfo l.line with
    | none => s
    | some d =>
      if s.keptOut l.line then s
      else
        let s : Block := if s.get (uStrip strip) F.STRIP.WAIT_MAX_NS < w then
          s.set (uStrip strip) F.STRIP.WAIT_MAX_NS w else s
        s.atLine (uCtx x) l.line fun s => s.frontLine x l d

/-- Whether a commit that changes a bank field is pending (R286, R302), be it already in force in this context. -/
def bankPending (s : Block) (x : Nat) (f : Field) : Bool :=
  match s.coveringCommit (uCtx x) with
  | none => false
  | some c => bits (s.stagedVal (uCtx x) f.off) f.hi f.lo != s.get (uCtx x) f ||
    s.trig.past.any fun p => p.unit == uCtx x && some p.line == c.eff.map (·.1) && p.words.any fun w =>
      w.1 == f.off && bits w.2 f.hi f.lo != s.get (uCtx x) f

/-- TBL_ADDR or GEO_ADDR moves on after an access (R299, R325). -/
def autoInc (s : Block) (x : Nat) (word inc : Field) : Block :=
  if s.on (uCtx x) inc then s.set (uCtx x) word (s.get (uCtx x) word + 1) else s

/-- A write of `CTX.TBL_DATA` (R286). -/
def tblWrite (s : Block) (m : Master) (x v : Nat) : Block :=
  let u := uCtx x
  let bank := s.get u F.CTX.TBL_ADDR_BANK
  let w := s.get u F.CTX.TBL_ADDR_WORD
  let s : Block := if bank = s.get u F.CTX.TABLE_BANK ∨ s.bankPending x F.CTX.TABLE_BANK then
      (s.flag u F.CTX.FLAGS_TBL_REFUSED).logBy m u 9 2 (regAddress u 0x1B4) 0 v
    else if w < 49152 then s.setTbl x (corrAddr bank w) v else s
  s.autoInc x F.CTX.TBL_ADDR_WORD F.CTX.TBL_ADDR_AUTO_INC

/-- A table word read; a double-bit error reads zero (R55). -/
def tblFetch (s : Block) (x a : Nat) : Nat := if s.sramBad (uCtx x) a then 0 else s.tblWord x a

/-- A read of `CTX.TBL_DATA`. -/
def tblRead (s : Block) (x : Nat) : Nat × Block :=
  let u := uCtx x
  let w := s.get u F.CTX.TBL_ADDR_WORD
  let a := corrAddr (s.get u F.CTX.TBL_ADDR_BANK) w
  let v := if w < 49152 then s.tblFetch x a else 0
  let s : Block := if w < 49152 then s.sramSeen u (· == a) else s
  (v, s.autoInc x F.CTX.TBL_ADDR_WORD F.CTX.TBL_ADDR_AUTO_INC)

/-- The table address GEO_ADDR names, if there is one. -/
def geoTarget (s : Block) (x : Nat) : Option Nat :=
  let u := uCtx x
  let w := s.get u F.CTX.GEO_ADDR_WORD
  let bank := s.get u F.CTX.GEO_ADDR_BANK
  if s.on u F.CTX.GEO_ADDR_TABLE then (if w < 3075 then some (linAddr bank w) else none)
  else if w < 24576 then some (geoAddr bank w) else none

/-- A write of `CTX.GEO_DATA` (R302). -/
def geoWrite (s : Block) (m : Master) (x v : Nat) : Block :=
  let u := uCtx x
  let f := if s.on u F.CTX.GEO_ADDR_TABLE then F.CTX.GEO_CFG_LIN_BANK else F.CTX.GEO_CFG_GEO_BANK
  let s : Block := if s.get u F.CTX.GEO_ADDR_BANK = s.get u f ∨ s.bankPending x f then
      (s.flag u F.CTX.GC_FLAGS_REFUSED).logBy m u 9 2 (regAddress u 0x814) 0 v
    else match s.geoTarget x with
      | some a => s.setTbl x a v
      | none => s
  s.autoInc x F.CTX.GEO_ADDR_WORD F.CTX.GEO_ADDR_AUTO_INC

/-- A read of `CTX.GEO_DATA`. -/
def geoRead (s : Block) (x : Nat) : Nat × Block :=
  let v := match s.geoTarget x with
    | some a => s.tblFetch x a
    | none => 0
  let s : Block := match s.geoTarget x with
    | some a => s.sramSeen (uCtx x) (· == a)
    | none => s
  (v, s.autoInc x F.CTX.GEO_ADDR_WORD F.CTX.GEO_ADDR_AUTO_INC)

/-- `STRIP.CTL.CLEAR_PEAK` (R298). -/
def stripClear (s : Block) (k : Nat) : Block :=
  (s.set (uStrip k) F.STRIP.LOAD_PEAK 0).set (uStrip k) F.STRIP.WAIT_MAX_NS 0

/-- Slot occupancy of the strips over an ITO window (R298). -/
def stripLoads (s : Block) (loads : List Nat) : Block :=
  (List.range 8).foldl (fun s k =>
    match loads[k]? with
    | none => s
    | some v =>
      let v := Nat.min v 1023
      let s := s.set (uStrip k) F.STRIP.LOAD_LOAD v
      if s.get (uStrip k) F.STRIP.LOAD_PEAK < v then s.set (uStrip k) F.STRIP.LOAD_PEAK v else s) s

end Block
end Sys2Proof.Machine
end

