-- ==== Sys2Proof/Machine/Web.lean ====
section
/-! DEFINITION. Encoders, the tracking observer, pages and trigger placement (R250-R271). -/

namespace Sys2Proof.Machine

/-- Period of the observer in ns. -/
def obsT : Nat := 5120

/-- Gains of the observer at BW_HZ applied to e (R255): 2wT·e, w²T·e, w²·e. -/
def obsK1 (bw : Nat) (e : Int) : Int := 2 * (twoPi21 * bw : Nat) * (obsT : Nat) * e / (10 ^ 30 : Int)
def obsK3 (bw : Nat) (e : Int) : Int := ((twoPi21 * bw : Nat) * (twoPi21 * bw : Nat) : Nat) * e / (10 ^ 42 : Int)
def obsK2 (bw : Nat) (e : Int) : Int :=
  ((twoPi21 * bw : Nat) * (twoPi21 * bw : Nat) * obsT : Nat) * e / (10 ^ 51 : Int)

/-- Distance covered at a speed in an update period. -/
def obsAdvance (v : Int) : Int := v * (obsT : Nat) / (10 ^ 9 : Int)

/-- Four over w in ns (R256). -/
def settleNs (bw : Nat) : Nat := 4 * 10 ^ 30 / (twoPi21 * bw + 1)

/-- Next count of a quadrature decoder: A leading B counts up (log entry 10); both changing at once leaves
the count (R253). -/
def quadStep (a b a' b' : Bool) : Int :=
  if a == a' && b == b' || a != a' && b != b' then 0
  else if a != a' then (if a' != b then 1 else -1)
  else (if a' == b' then 1 else -1)

namespace Block

/-- An encoder input. -/
def enc (s : Block) (e : Nat) : EncSt :=
  nth s.web.encs e ⟨Chain.empty, Chain.empty, 0, none, 0, false, false, 0, 0, false, 0, none, 0, none⟩

/-- The state with an encoder changed. -/
def setEnc (s : Block) (e : Nat) (f : EncSt → EncSt) : Block :=
  { s with web := { s.web with encs := upd s.web.encs e f } }

/-- Corrected sin and cos signals of an encoder, both times 5 · 2^30 · 2^64 · cos φ over the same factor
for the pair whose ratio gives the phase (R251). -/
def encSignals (s : Block) (e : Nat) (y x : Int) : Int × Int :=
  let a : Int := 16777216
  let s5 := (y * 5 * 32768 - s.getSI uWeb F.WEB.ENC_CAL0_SIN_OFS e * a) * 32768
  let c5 := (x * 5 * 32768 - s.getSI uWeb F.WEB.ENC_CAL0_COS_OFS e * a) *
    (s.getI uWeb F.WEB.ENC_CAL1_COS_GAIN e : Int)
  (s5, c5)

/-- The corrected signals s′ and c′ in units of 1/(5 · 2^30) code, and the phase (R251). -/
def encPhase (s : Block) (e : Nat) (y x : Int) : Int × Int × Nat :=
  let (s5, c5) := s.encSignals e y x
  let phi := s.getSI uWeb F.WEB.ENC_CAL1_PHASE e * 2 ^ 48
  let sp := sin64 phi
  let cp := cos64 phi
  let num := c5 * 2 ^ 64 - s5 * sp
  (s5, num / cp, turn16 num (s5 * cp))

/-- (s′² + c′²) ÷ A_nom² with the window's 64 already multiplied: numerator; the denominator is
`ampUnit` (R259). -/
def ampNum (s5 c5 : Int) : Int := 64 * (s5 * s5 + c5 * c5)
def ampUnit : Int := (16777216 * 2 ^ 30) * (16777216 * 2 ^ 30)

/-- Sign of an encoder's measurements (R251, R253). -/
def encSign (s : Block) (e : Nat) (m : Int) : Int := if s.onI uWeb F.WEB.ENC_CFG_INVERT e then -m else m

/-- An analog sample of an encoder: phase unwrapped, position, amplitude window (R251, R259). Above 40 kHz, 13,422 / 65,536
of a period in a sample, the position is not defined, and the count of periods is a free value (R252). AMP reads zero
while the encoder is the source in force as a digital one (R271). -/
def encAnalog (s : Block) (e : Nat) (y x : Int) : Block :=
  let (s5, c5, th) := s.encPhase e y x
  let n := ampNum s5 c5
  let out := decide (n < (s.getI uWeb F.WEB.ENC_CFG_AMP_LO e : Int) * ampUnit) ||
    decide ((s.getI uWeb F.WEB.ENC_CFG_AMP_HI e : Int) * ampUnit < n)
  let k := s.enc e
  let d : Int := match k.theta with
    | none => 0
    | some o => sext 16 (wrapN 16 ((th : Int) - o))
  let fast := decide (13422 < d.natAbs)
  let per := if fast then sext 32 s.fresh else (k.periods * 65536 + (k.theta.getD th : Nat) + d) / 65536
  let s : Block := if fast then s.took else s
  let m := (per * 65536 + th) * (s.getI uWeb F.WEB.ENC_PITCH_PM e : Int) / 1000
  let bad := if out then k.bad + 1 else 0
  let s := s.setEnc e fun k => { k with
    theta := some th, periods := per, mA := some (s.encSign e m), bad := bad
    good := if out then 0 else k.good + 1 }
  let s := s.setI uWeb F.WEB.ENC_STAT_AMP e (if s.web.src = 2 * e + 1 then 0 else clampU 8 (n / ampUnit))
  if 4 ≤ bad then s.setI uWeb F.WEB.ENC_STAT_FAULT e 1
  else if out then s else s.setI uWeb F.WEB.ENC_STAT_FAULT e 0

/-- The digital side of an encoder at an update (R253). -/
def encDigital (s : Block) (e : Nat) (los : Bool) : Block :=
  let k := s.enc e
  let m := k.count * (s.getI uWeb F.WEB.ENC_PITCH_PM e : Int) * 65536 / 4000
  (s.setEnc e fun k => { k with
    mD := s.encSign e m, los := los, goodD := if los then 0 else k.goodD + 1 }).setI
    uWeb F.WEB.ENC_STAT_LOS e (b2n los)

/-- The second observer of an encoder, for `ENC_e_SPEED` (R250, R271). -/
def encSpeed (s : Block) (e : Nat) : Block :=
  let k := s.enc e
  let bw := s.get uWeb F.WEB.OBS_CFG_BW_HZ
  let m := match k.mA with
    | some a => if k.bad = 0 then a else k.mD
    | none => k.mD
  let (p, v) := match k.obs with
    | none => (m, 0)
    | some (p, v) =>
      let pp := p + obsAdvance v
      let d := m - pp
      (pp + obsK1 bw d, v + obsK2 bw d)
  (s.setEnc e fun k => { k with obs := some (p, v) }).putSI uWeb F.WEB.ENC_SPEED_UM_S e (v / (65536 * 1000))

/-- What an update gives an encoder (R250-R253). -/
def encUpdate (s : Block) (e : Nat) (i : EncIn) : Block :=
  let k := s.enc e
  let (sc, y) := encoderPush k.sinCh i.sin none
  let (cc, x) := encoderPush k.cosCh i.cos none
  let s := s.setEnc e fun k => { k with sinCh := sc, cosCh := cc }
  let s : Block := match y, x with
    | some y, some x => (s.encAnalog e y x).calEncoder e y x
    | _, _ => s
  (s.encDigital e i.los).encSpeed e

/-- An accepted level change of A or B (R253). -/
def quadratureEdge (s : Block) (e : Nat) (a b : Bool) : Block :=
  if 2 ≤ e then s
  else
    let k := s.enc e
    let both := a != k.a && b != k.b
    let s := s.setEnc e fun k => { k with a := a, b := b, count := k.count + quadStep k.a k.b a b }
    if both then (s.addI uWeb F.WEB.ENC_QERR_COUNT e 1).flag uWeb F.WEB.FLAGS_QUAD_ERR else s

/-- The encoder of a source and whether it is digital. -/
def srcEnc (src : Nat) : Nat × Bool := (src / 2 % 2, src % 2 == 1)

/-- The measurement of a source, if it has one. -/
def srcMeas (s : Block) (src : Nat) : Option Int :=
  let (e, d) := srcEnc src
  if d then some ((s.enc e).mD) else (s.enc e).mA

/-- A source is in fault (R259). -/
def srcFault (s : Block) (src : Nat) : Bool :=
  let (e, d) := srcEnc src
  if d then (s.enc e).los else s.onI uWeb F.WEB.ENC_STAT_FAULT e

/-- A source has given 16 fault-free samples in a row (R256, R261). -/
def srcGood16 (s : Block) (src : Nat) : Bool :=
  let (e, d) := srcEnc src
  if d then 16 ≤ (s.enc e).goodD else 16 ≤ (s.enc e).good && !s.srcFault src

/-- A rising edge of Z (R254). -/
def zIndex (s : Block) (e : Nat) : Block :=
  if 2 ≤ e then s
  else
    let src := s.web.src
    let k := s.enc e
    let dig := if srcEnc src == (e, true) then true else if srcEnc src == (e, false) && src < 4 then false
      else k.mA.isNone || k.bad ≠ 0
    let m := if dig then k.count * (s.getI uWeb F.WEB.ENC_PITCH_PM e : Int) * 65536 / 4000 |> s.encSign e
      else k.mA.getD 0
    let w := wrapN 64 (m / 65536)
    let s := (s.setI uWeb F.WEB.ENC_ZPOS_LO_VALUE e (w % 2 ^ 32)).setI uWeb F.WEB.ENC_ZPOS_HI_VALUE e (w / 2 ^ 32)
    s.setI uWeb F.WEB.ENC_STAT_Z_COUNT e (s.getI uWeb F.WEB.ENC_STAT_Z_COUNT e + 1)

/-- D of the source in force, ns (R251, R253). -/
def srcDelay (src : Nat) : Int := if src % 2 = 1 then 1000 else 46000

/-- `WEB.STATE.OBS`. -/
def obsState (s : Block) : Nat := s.get uWeb F.WEB.STATE_OBS

/-- The registers of the high-water mark (R265). -/
def hwmReport (s : Block) : Block :=
  match s.web.hwm with
  | none => s
  | some h =>
    let h := wrapN 64 (h / 65536)
    (s.set uWeb F.WEB.HWM_LO_VALUE (h % 2 ^ 32)).set uWeb F.WEB.HWM_HI_VALUE (h / 2 ^ 32)

/-- The registers of position and speed (R257, R271). In FAULT speed and acceleration read 0. TRIG_OK wants SETTLING over,
also when a coast began before that (R265). -/
def webReport (s : Block) : Block :=
  let p := wrapN 64 (s.web.pNow / 65536)
  let s := (s.set uWeb F.WEB.POS_LO_VALUE (p % 2 ^ 32)).set uWeb F.WEB.POS_HI_VALUE (p / 2 ^ 32)
  let s := s.hwmReport
  let st := s.obsState
  let quiet := st = 0 ∨ st = 4
  let v := if quiet then 0 else s.web.vNow / (65536 * 1000)
  let a := if quiet then 0 else s.web.acc / (65536 * 1000000)
  let s := (s.putS uWeb F.WEB.SPEED_UM_S v).putS uWeb F.WEB.ACCEL_MM_S2 a
  let creep : Int := (s.get uWeb F.WEB.OBS_CFG_CREEP_UM_S * 1000 * 65536 : Nat)
  let vn := if quiet then 0 else s.web.vNow
  let s := s.set uWeb F.WEB.STATE_DIR (if creep ≤ vn then 1 else if vn ≤ -creep then 2 else 0)
  let s := s.set uWeb F.WEB.STATE_TRIG_OK (b2n (decide (st = 2 ∨ st = 3) && decide (s.web.settleUntil ≤ s.lt) &&
    decide (creep ≤ vn)))
  let s : Block := { s with web := { s.web with past := (⟨s.lt, s.web.pNow, s.web.vNow, st⟩ :: s.web.past).take 16 } }
  s.set uWeb F.WEB.STATE_PEND (Nat.min 8 s.web.pend.length)

/-- Present estimates from the predictor (R255). -/
def obsPresent (s : Block) : Block :=
  let d := srcDelay s.web.src
  let w := s.web
  let pn := w.p + w.v * d / (10 ^ 9 : Int) + w.acc * d * d / (2 * 10 ^ 18 : Int)
  let vn := w.v + w.acc * d / (10 ^ 9 : Int)
  { s with web := { w with pNow := pn, vNow := vn, updatedAt := s.lt } }

/-- Initialisation of the observer at a position (R256). -/
def obsInit (s : Block) (p : Int) : Block :=
  let w := { s.web with
    p := p, v := 0, accs := [], acc := 0, waitGood := false
    settleUntil := s.lt + settleNs (s.get uWeb F.WEB.OBS_CFG_BW_HZ) }
  ({ s with web := w }.set uWeb F.WEB.STATE_OBS 1).obsPresent

/-- One step of the observer on measurement m (R255). -/
def obsTrack (s : Block) (m : Int) : Block :=
  let bw := s.get uWeb F.WEB.OBS_CFG_BW_HZ
  let w := s.web
  let pp := w.p + obsAdvance w.v
  let e := m - pp
  let accs := (obsK3 bw e :: w.accs).take 16
  { s with web := { w with
      p := pp + obsK1 bw e, v := w.v + obsK2 bw e, accs := accs
      acc := sumI accs / (accs.length : Int) } }.obsPresent

/-- One step of a coast (R259). -/
def obsCoast (s : Block) : Block :=
  { s with web := { s.web with p := s.web.p + obsAdvance s.web.v, accs := [], acc := 0 } }.obsPresent

/-- A fault is found: the observer coasts, and WEB_FAULT is raised at every coast (R259). -/
def coastStart (s : Block) : Block :=
  let src := s.web.src
  let sp := s.get uWeb F.WEB.SPEED_UM_S
  let s : Block := { s with web := { s.web with coastFrom := s.lt } }
  let s := (s.set uWeb F.WEB.STATE_OBS 3).flagRaise uWeb F.WEB.FLAGS_COAST
  let s := s.log uWeb 0x0050 2 0 src 0
  (s.alarm 0x10 src (src % 2) sp).obsCoast

/-- Position nearest p that agrees with the source (R261): an analog source within half a period by its
measured phase; a digital source goes on from p. Gives the position and the source's new offset. -/
def recoverPos (s : Block) : Int × Int :=
  let src := s.web.src
  let p := s.web.p
  let m := (s.srcMeas src).getD 0
  if src % 2 = 1 then (p, p - m)
  else
    let per : Int := (s.getI uWeb F.WEB.ENC_PITCH_PM (srcEnc src).1 : Int) * 65536 / 1000
    let d := p - (m + s.web.ofs)
    let k := if per = 0 then 0 else (2 * d + per) / (2 * per)
    (m + s.web.ofs + k * per, s.web.ofs + k * per)

/-- Recovery of the source (R261). -/
def obsRecover (s : Block) (fault : Bool) : Block :=
  let (p, o) := s.recoverPos
  let s : Block := { s with web := { s.web with ofs := o } }
  let s : Block := if fault then s.obsInit p
    else ({ s with web := { s.web with p := p } }.set uWeb F.WEB.STATE_OBS 2).obsPresent
  let s := (s.set uWeb F.WEB.STATE_POS_SUSPECT 1).flag uWeb F.WEB.FLAGS_POS_SUSPECT
  s.alarm 0x12 (b2n fault) 0 0

/-- A coast has lasted 50 ms: FAULT (R260). -/
def faultStart (s : Block) : Block :=
  let s := (s.set uWeb F.WEB.STATE_OBS 4).flag uWeb F.WEB.FLAGS_FAULT
  s.alarm 0x11 s.web.src 0 0

/-- The observer's part of an update (R255-R261). The first measurement after RUNNING initialises it whatever the source's
state; a source that came into force in fault has first to give 16 good samples (R256). -/
def obsUpdate (s : Block) : Block :=
  let src := s.web.src
  match s.srcMeas src with
  | none => s
  | some m0 =>
    let m := m0 + s.web.ofs
    match s.obsState with
    | 0 =>
      if s.isRunning && (!s.web.waitGood || s.srcGood16 src) then
        { s.obsInit m with web := { (s.obsInit m).web with hwm := some (s.obsInit m).web.pNow } }
      else s
    | 3 =>
      if s.srcGood16 src && !s.srcFault src then s.obsCoast.obsRecover false
      else if 50000000 ≤ s.since s.web.coastFrom then s.faultStart
      else s.obsCoast
    | 4 => if s.srcGood16 src && !s.srcFault src then s.obsRecover true else s
    | st =>
      if s.srcFault src then s.coastStart
      else
        let s : Block := if st = 1 ∧ s.web.settleUntil ≤ s.lt then s.set uWeb F.WEB.STATE_OBS 2 else s
        s.obsTrack m

/-- The high-water mark after an update (R265). -/
def hwmUpdate (s : Block) : Block :=
  let st := s.obsState
  if st = 0 ∨ st = 4 then s
  else { s with web := { s.web with hwm := some (match s.web.hwm with
    | none => s.web.pNow
    | some h => if h < s.web.pNow then s.web.pNow else h) } }

/-- A coast has lasted 50 ms (R260). -/
def coastTimeout (s : Block) : Block :=
  if s.obsState = 3 ∧ 50000000 ≤ s.since s.web.coastFrom then s.faultStart.webReport else s

/-- No grid is in force or pending until the next page start (R264). -/
def dropPages (s : Block) : Block :=
  { s with web := { s.web with grid := none, pend := [], pendNext := 0, lastStart := none, ringPage := false } }.set
    uWeb F.WEB.STATE_PEND 0

/-- A new SRC in force (R268, R269). The source in force at RUNNING initialises at its first measurement (R256). An
encoder free of fault keeps the estimate, its measurements offset to equal it, also after the ring's position source,
whose reported position and speed it then goes on from (log entry 44). -/
def srcChanged (s : Block) (new : Nat) : Block :=
  let w := s.web
  if new = w.src then s
  else if !s.isRunning then { s with web := { w with src := new } }
  else if 4 ≤ new then
    let t : Block := ({ s with web := { w with src := new, waitGood := false, ofs := 0, hwm := none } }.dropPages).set
      uWeb F.WEB.STATE_OBS 0
    ({ t with ring := { t.ring with posAt := some t.lt } } : Block).webReport
  else if s.srcGood16 new && !s.srcFault new && decide (s.obsState = 1 ∨ s.obsState = 2 ∨ s.obsState = 3) then
    let m := (s.srcMeas new).getD 0
    if 4 ≤ w.src then
      let p := w.pNow - w.vNow * srcDelay new / (10 ^ 9 : Int)
      (({ s with web := { w with
          src := new, p := p, v := w.vNow, accs := [], acc := 0, ofs := p - m, waitGood := false
          settleUntil := s.lt, coastFrom := s.lt } }.dropPages).set uWeb F.WEB.STATE_OBS 2).webReport
    else
      let t : Block := { s with web := { w with src := new, ofs := w.p - m, waitGood := false } }
      if s.obsState = 3 then t.set uWeb F.WEB.STATE_OBS 2 else t
  else
    (({ s with web := { w with src := new, waitGood := w.waitGood || decide (s.obsState ≠ 0 ∨ 4 ≤ w.src), ofs := 0 } }.dropPages).set
      uWeb F.WEB.STATE_OBS 0).webReport

/-- What new values start in WEB (R263, R268). -/
def webCommitted (old s : Block) : Block :=
  let s := s.srcChanged (s.get uWeb F.WEB.CFG_SRC)
  if s.on uWeb F.WEB.PAGE_CFG_MODE && !old.on uWeb F.WEB.PAGE_CFG_MODE then
    { s with web := { s.web with mode1 := false } } else s

/-- A commit whose effective line is the first line of the page decided next (R42, R268): it waits for a page, and no
line decided before can be the one it takes at its trigger. -/
def metBy (s : Block) (page : Nat) (c : Commit) : Bool :=
  c.todo.contains uWeb && c.eff.isNone && (c.bnd == .page || c.bnd == .epoch) && mayBeEff c page 0 true &&
    !s.trig.decided.any (takesTrigger c)

/-- The first line of a page is decided: the values of the commits that take effect with it are in force in WEB (R268). The
line enters WEB and every other unit when it is triggered (R42). -/
def webEnter (s : Block) (line page : Nat) : Block :=
  (s.commits.filter (s.metBy page)).foldl (fun s c =>
    ((s.commitFix c.unit line page).commitSet c { c with eff := some (line, page), entered := true }).applyStaged uWeb) s

/-- Position of boundary k of a grid. -/
def boundary (start : Int) (pitch k : Nat) : Int := start + (pitch * k * 65536 : Nat) / 1000

/-- The first boundary from number k0 on that lies at or beyond a position. -/
def firstAt (start : Int) (pitch k0 : Nat) (x : Int) : Nat :=
  Nat.max k0 (((x - start) * 1000 + (pitch * 65536 : Nat) - 1) / (pitch * 65536 : Nat)).toNat

/-- Position of the last boundary from number k0 on that lies no further than a position. -/
def lastAt (start : Int) (pitch k0 : Nat) (x : Int) : Option Int :=
  let k := firstAt start pitch k0 (x + 1)
  if k0 < k then some (boundary start pitch (k - 1))
  else if pitch = 0 ∧ start ≤ x then some start
  else none

/-- A start accepted (R262, R263). -/
def startQueue (s : Block) (p : Int) : Block :=
  { s with web := { s.web with pend := s.web.pend ++ [p], lastStart := some p,
                               mode1 := s.on uWeb F.WEB.PAGE_CFG_MODE } }

/-- What the observer reported at the last instant at least `ago` ns back. -/
def webPast (s : Block) (ago : Nat) : Option WebPast := s.web.past.find? fun r => decide (ago ≤ s.since r.at_)

/-- A filtered falling edge of PAGE_SYNCn, `ago` ns after the edge (R262, R263): the observer's state and position are
those of the edge. A member that takes its position from the ring has no use for its own edges (log entry 44). -/
def pageSync (s : Block) (ago : Nat) : Block :=
  if ago < s.get uWeb F.WEB.PAGE_CFG_SYNC_FILT * 100 ∨ 4 ≤ s.web.src then s
  else if s.on uWeb F.WEB.PAGE_CFG_MODE && s.web.mode1 then s
  else match s.webPast ago with
    | none => s.inc uWeb F.WEB.CNT_SYNC_IGN_COUNT
    | some r =>
      if r.obs = 0 ∨ r.obs = 4 then s.inc uWeb F.WEB.CNT_SYNC_IGN_COUNT
      else
        let t : Int := (s.since r.at_ : Int) - ago
        let p := r.p + r.v * t / (10 ^ 9 : Int)
        let start := p + s.getS uWeb F.WEB.PAGE_OFFSET_UM * 1000 * 65536
        let min := (s.get uWeb F.WEB.PAGE_MIN_LINES * s.get uWeb F.WEB.LINE_PITCH_PM * 65536 / 1000 : Nat)
        let short := match s.web.lastStart with
          | some l => decide (start < l + min)
          | none => false
        if short then (s.inc uWeb F.WEB.CNT_SYNC_IGN_COUNT).flag uWeb F.WEB.FLAGS_SYNC_SHORT
        else if 8 ≤ s.web.pend.length then (s.inc uWeb F.WEB.CNT_SYNC_IGN_COUNT).flag uWeb F.WEB.FLAGS_SYNC_OVF
        else (s.startQueue start).set uWeb F.WEB.STATE_PEND (s.web.pend.length + 1)

/-- Pitch of a pending grid (R264): that in force once a commit that the grid's first line will meet has come into force
at WEB (R268). -/
def pendingPitch (s : Block) : Nat :=
  match s.commits.any (s.metBy s.web.nextPage), s.staged.find? fun p => p.1 == regKey uWeb F.WEB.LINE_PITCH_PM.off with
  | true, some p => p.2.toNat
  | _, _ => s.get uWeb F.WEB.LINE_PITCH_PM

/-- The next boundary not yet passed: on the grid in force, or on the first pending grid once the old one has reached
its start (R264). Gives position, boundary number and whether a page starts with it. A grid that has reached PAGE_MAX
with no start pending gives that boundary, at which it starts a page of its own (R263). -/
def nextBoundary (s : Block) : Option (Int × Nat × Bool) :=
  let w := s.web
  match w.grid, w.pend with
  | some g, [] =>
    if g.max ≤ g.next then some (boundary g.start g.pitch g.max, 0, true)
    else some (boundary g.start g.pitch g.next, g.next, false)
  | some g, p :: _ =>
    let b := boundary g.start g.pitch g.next
    if b < p then some (b, g.next, false) else some (boundary p s.pendingPitch w.pendNext, w.pendNext, true)
  | none, p :: _ => some (boundary p s.pendingPitch w.pendNext, w.pendNext, true)
  | none, [] => none

/-- A grid that has reached PAGE_MAX with no start pending starts a page there (R263). -/
def ownStart (s : Block) : Block :=
  match s.web.grid, s.web.pend with
  | some g, [] =>
    if g.max ≤ g.next then
      let t := s.startQueue (boundary g.start g.pitch g.max)
      if s.on uWeb F.WEB.PAGE_CFG_MODE then t else t.flag uWeb F.WEB.FLAGS_SYNC_MISSING
    else s
  | _, _ => s

/-- Pending starts, and the next boundary of the first one's grid, once the boundaries before a position are passed: a
pending grid that has reached the start after it never takes effect. -/
def skipPend (pitch : Nat) (x : Int) : List Int → Nat → List Int × Nat
  | p :: q :: r, k0 =>
    let k := firstAt p pitch k0 x
    if q ≤ boundary p pitch k then skipPend pitch x (q :: r) 0 else (p :: q :: r, k)
  | [p], k0 => ([p], firstAt p pitch k0 x)
  | [], k0 => ([], k0)

/-- The boundaries of pending grids before a position are passed. -/
def skipStarts (s : Block) (x : Int) : Block :=
  let (l, k) := skipPend s.pendingPitch x s.web.pend s.web.pendNext
  { s with web := { s.web with pend := l, pendNext := k } }

/-- Every boundary before a position is passed without a trigger (R265, R267). -/
def skipTo (s : Block) (x : Int) : Block :=
  match s.web.grid with
  | none => s.skipStarts x
  | some g =>
    let k := firstAt g.start g.pitch g.next x
    match s.web.pend with
    | [] =>
      let s : Block := { s with web := { s.web with grid := some { g with next := Nat.max g.next (Nat.min k g.max) } } }
      if g.max < k then s.ownStart.skipStarts x else s
    | p :: _ =>
      let e := firstAt g.start g.pitch g.next p
      let s : Block := { s with web := { s.web with grid := some { g with next := Nat.min k e } } }
      if e ≤ k then s.skipStarts x else s

/-- Position of the last boundary of pending grids no further than a position. -/
def lastPend (pitch : Nat) (x : Int) : List Int → Nat → Option Int
  | p :: q :: r, k0 => lastPend pitch x (q :: r) 0 <|> lastAt p pitch k0 (if x < q then x else q - 1)
  | [p], k0 => lastAt p pitch k0 x
  | [], _ => none

/-- Position of the latest boundary that lies no further than a position, of the grid in force or of one that is to come
(R267). -/
def lastBy (s : Block) (x : Int) : Option Int :=
  let pitch := s.pendingPitch
  match s.web.grid with
  | none => lastPend pitch x s.web.pend s.web.pendNext
  | some g =>
    let l := match s.web.pend with
      | [] => [boundary g.start g.pitch g.max]
      | l => l
    let e := l.headD 0
    lastPend pitch x l s.web.pendNext <|> lastAt g.start g.pitch g.next (if x < e then x else e - 1)

/-- t_u plus the time to a boundary, or 1 µs at least, on the 2 ns grid (R266). -/
def trigInstant (s : Block) (b : Int) : Nat :=
  let v := s.web.vNow
  let dx := b - s.web.pNow
  let far := decide (1000 * v < dx * 10 ^ 9)
  let num := if far then dx * 10 ^ 9 else 1000 * v
  (2 * (((s.lt : Int) * v + num + v) / (2 * v))).toNat

/-- A line decided at boundary number k (R264, R266, R267): counters assigned, skipped boundaries
counted, the trigger handed to TRIG. The values a page's first line brings come into force first, and what a new SRC
starts follows it (R268). -/
def decideLine (s : Block) (k t : Nat) (pending : Bool) : Block :=
  let old := s
  let w := s.web
  let s := if pending then s.webEnter w.line w.nextPage else s
  let (g, s) := if pending then
      let page := w.nextPage
      let g : Grid := ⟨w.pend.headD 0, s.get uWeb F.WEB.LINE_PITCH_PM, page, k + 1, some k, s.get uWeb F.WEB.PAGE_MAX_LINES⟩
      (g, ({ s with web := { w with
        pend := w.pend.drop 1, pendNext := 0, nextPage := (page + 1) % 2 ^ 32 } }.set
          uWeb F.WEB.STATE_POS_SUSPECT 0))
    else
      let g0 := w.grid.getD ⟨0, 0, 0, 0, none, 0⟩
      let skip := match g0.last with
        | some l => k - l - 1
        | none => 0
      let s : Block := if skip = 0 then s else
        (s.addI uWeb F.WEB.CNT_SKIP_COUNT 0 skip).flag uWeb F.WEB.FLAGS_SKIP
      ({ g0 with next := k + 1, last := some k }, s)
  let d : Decided := ⟨w.line, t, g.page, k, pending, g.start / 65536, g.pitch, 0⟩
  let s : Block := { s with
    web := { s.web with grid := some g, line := (w.line + 1) % 2 ^ 48, lastTrig := some t }
    trig := { s.trig with decided := s.trig.decided ++ [d] } }
  if pending then webCommitted old s else s

/-- Whether lines may be triggered at this update (R265). -/
def trigOk (s : Block) : Bool :=
  s.web.src < 4 && (s.obsState == 2 || s.obsState == 3) && decide (s.web.settleUntil ≤ s.lt) && decide (0 < s.web.vNow) &&
    decide ((s.get uWeb F.WEB.OBS_CFG_CREEP_UM_S * 1000 * 65536 : Nat) ≤ s.web.vNow)

/-- Lines decided at this update, in order of position (R266, R267). When the trigger of a boundary has to move, it goes
to the latest boundary whose crossing falls at or before the moved instant. A page start at PAGE_MAX comes with the
decision of that boundary. -/
def decideAll (s : Block) : Nat → Block
  | 0 => s
  | fuel + 1 =>
    match s.nextBoundary with
    | none => s
    | some (b, _, _) =>
      let v := s.web.vNow
      if s.trigOk && decide ((b - s.web.pNow) * 10 ^ 9 < 6120 * v) then
        let t := s.trigInstant b
        let early := match s.web.lastTrig with
          | some l => l + (s.get uWeb F.WEB.TRIG_CFG_MIN_PERIOD_NS + 1) / 2 * 2
          | none => 0
        let (t, s) := if t < early then
            let s := (s.inc uWeb F.WEB.CNT_OVERSPEED_COUNT).flag uWeb F.WEB.FLAGS_OVERSPEED
            let x := s.web.pNow + ((early : Int) - s.lt) * v / (10 ^ 9 : Int)
            (early, match s.lastBy x with
              | some y => if b < y then s.skipTo y else s
              | none => s)
          else (t, s)
        let s := s.ownStart
        match s.nextBoundary with
        | some (_, k, p) => (s.decideLine k t p).decideAll fuel
        | none => s
      else s

/-- Trigger placement of an update (R265-R267): boundaries behind the web or the high-water mark `hw` before the update
are passed over, and those about to be crossed are decided. -/
def webDecide (s : Block) (hw : Option Int) : Block :=
  if s.trigOk then
    let x := match hw with
      | some h => if s.web.pNow < h + 1 then h + 1 else s.web.pNow
      | none => s.web.pNow
    let s := (s.skipTo x).decideAll 4096
    s.set uWeb F.WEB.STATE_PEND (Nat.min 8 s.web.pend.length)
  else s

/-- The measurements of an update (R251, R253). -/
def webMeasure (s : Block) (e0 e1 : EncIn) : Block := (s.encUpdate 0 e0).encUpdate 1 e1

/-- An update's position, speed and decisions from its measurements (R255-R267). -/
def webUpdate (s : Block) : Block :=
  let s := s.obsUpdate
  (s.hwmUpdate.webReport).webDecide s.web.hwm

end Block
end Sys2Proof.Machine
end

