-- ==== Sys2Proof/Machine/Trig.lean ====
section
/-! DEFINITION. Line triggers and exposure epochs (R193-R198). -/

namespace Sys2Proof.Machine
namespace Block

/-- A nanosecond value on the 2 ns grid: an odd one is one shorter (R193). -/
def even (n : Nat) : Nat := n - n % 2

/-- The last pulse of output k. -/
def pulse (s : Block) (k : Nat) : Option Pulse := s.trig.pulses.find? fun p => p.k == k

/-- The state with one more pulse of its output; those of the output that have ended are dropped. -/
def addPulse (s : Block) (p : Pulse) : Block :=
  { s with trig := { s.trig with pulses := p :: s.trig.pulses.filter fun q => q.k != p.k || !q.done } }

/-- The state with the pulse of an output for a line replaced. -/
def setPulse (s : Block) (p : Pulse) : Block :=
  { s with trig := { s.trig with
    pulses := s.trig.pulses.map fun q => if q.k = p.k ∧ q.line = p.line then p else q } }

/-- Rising edge of a decided line on output k (R193, R568). -/
def riseOf (s : Block) (d : Decided) (k : Nat) : Nat :=
  Nat.max (d.at_ + even (s.getI uTrig F.TRIG.OUT_DELAY_NS k)) (even (d.floor + 1))

/-- The entry of a line on port k takes the width applied and EXP_CUT (R194). -/
def cutEntry (s : Block) (k line width : Nat) : Block :=
  let c := s.camp k
  s.setCamp k { c with entries := c.entries.map fun e =>
    if e.line = line then { e with width := width, expCut := true } else e }

/-- A pulse ends early at `fall` (R194). -/
def cutPulse (s : Block) (p : Pulse) (fall : Nat) : Block :=
  let s := (s.setPulse { p with fall := fall }).cutEntry p.k p.line (fall - p.rise)
  (s.addI uTrig F.TRIG.CUT_COUNT p.k 1).flag uTrig F.TRIG.FLAGS_CUT

/-- The rule of R194 on output k when the next line's rising edge is known. -/
def cutFor (s : Block) (k rise : Nat) : Block :=
  match s.pulse k with
  | none => s
  | some p =>
    let need := rise - s.get uTrig F.TRIG.CFG_LOW_MIN_NS
    if p.fall ≤ need ∨ rise ≤ p.rise then s
    else if s.lt ≤ need then s.cutPulse p (even need)
    else if !p.done && decide (s.lt < p.fall) then
      (s.cutPulse p (even (s.lt + 1))).flag uTrig F.TRIG.FLAGS_LOW_SHORT
    else s.flag uTrig F.TRIG.FLAGS_LOW_SHORT

/-- Enabled outputs (R196). -/
def outsOn (s : Block) : List Nat := (List.range 12).filter fun k => s.onI uTrig F.TRIG.OUT_EN k

/-- A decided line's edges are known to the pulses of the line before it, unless that line is itself still to
be triggered (R194). -/
def cutAtDecision (s : Block) (d : Decided) : Block :=
  if s.trig.decided.any fun x => x.line + 1 == d.line then s
  else s.outsOn.foldl (fun s k => s.cutFor k (s.riseOf d k)) s

/-- Cuts for the lines decided since the queue held `n`. -/
def cutsSince (s : Block) (n : Nat) : Block := (s.trig.decided.drop n).foldl cutAtDecision s

/-- The level of output k: TRIGk asserted or not, with the sense of its pair (R193). -/
def trigLevel (s : Block) (k : Nat) (high : Bool) : Bool := high != bit (s.get uTrig F.TRIG.CFG_INVERT) k

/-- One output's pulse for a line, and its entry (R178, R193, R194). -/
def outPulse (s : Block) (d : Decided) (k : Nat) : Block :=
  let rise := s.riseOf d k
  let width := even (s.getI uTrig F.TRIG.EXPOSE_WIDTH_NS k)
  let s := s.emit (.trigEdge k (s.trigLevel k true) rise)
  let s := s.addPulse ⟨k, d.line, rise, rise + width, false⟩
  let s := s.appendEntry k d.line rise (s.get uTrig F.TRIG.EPOCH_NUMBER) width false
  match s.trig.decided.find? fun x => x.line == d.line + 1 with
  | some n => s.cutFor k (s.riseOf n k)
  | none => s

/-- The line counters of the last trigger (R271). -/
def lineRegs (s : Block) (d : Decided) : Block :=
  (((s.set uWeb F.WEB.LINE_LO_VALUE (d.line % 2 ^ 32)).set uWeb F.WEB.LINE_HI_VALUE (d.line / 2 ^ 32)).set
    uWeb F.WEB.PAGE_VALUE d.page).set uWeb F.WEB.PAGE_LINE_VALUE d.pageLine

/-- The block row of a triggered line, when it is the row's first (R429); a pending configuration of the
governor takes effect there (R116). -/
def rowCheck (s : Block) (d : Decided) : Block :=
  match s.gov.rows with
  | r :: _ =>
    if r.page = d.page ∧ r.row = d.pageLine / 16 then s
    else s.govBoundary.rowStart d.page (d.pageLine / 16) d.line
  | [] => s.govBoundary.rowStart d.page (d.pageLine / 16) d.line

/-- The decided line whose instant has come. -/
def dueLine (s : Block) : Option Decided :=
  match s.trig.decided with
  | d :: _ => if d.at_ ≤ s.lt + 1 then some d else none
  | [] => none

/-- A line is triggered (R193): registers, governor, page event, pulses and entries. -/
def trigLine (s : Block) (d : Decided) : Block :=
  let s := { s with trig := { s.trig with
    decided := s.trig.decided.drop 1, lines := (d :: s.trig.lines).take 2048 } }
  let s := (s.lineRegs d).noteTrigger d.at_
  let s := if d.first then (if s.gov.rows.isEmpty then s else s.govPageEnd).raise 9 else s
  let s := s.rowCheck d
  s.outsOn.foldl (fun s k => s.outPulse d k) s

/-- Ports that made an entry for a line (R178, R313). -/
def portsOf (s : Block) (line : Nat) : List Nat :=
  (List.range 12).filter fun k => (s.camp k).entries.any fun e => e.line == line

/-- The end of output k's pulse (R193, R194), its oldest that has not ended. -/
def pulseEnd (s : Block) (k : Nat) : Block :=
  match s.trig.pulses.reverse.find? fun p => p.k == k && !p.done with
  | some p =>
    if p.fall ≤ s.lt + 1 then (s.setPulse { p with done := true }).emit (.trigEdge k (s.trigLevel k false) p.fall)
    else s
  | none => s

end Block
end Sys2Proof.Machine
end

