-- ==== Sys2Proof/Machine/Stitch.lean ====
section
/-! DEFINITION. The stitch: assembly of device lines, seams, ring overlaps (R313-R320, R565). -/

namespace Sys2Proof.Machine

/-- Weight of the right side of a seam of n columns at column k, of 256 (R315). -/
def seamWeight (mode n k : Nat) : Nat :=
  match mode with
  | 0 => ((2 * k + 1) * 256 + n) / (2 * n)
  | 1 => if 2 * k < n then 0 else 256
  | 2 => 0
  | _ => 256

/-- One component of a seam column (R315). -/
def mix (w : Nat) (a b : Int) : Int := (a * (256 - w) + b * w + 128) / 256

/-- A seam column with the right side's weight w (R315). -/
def blend (w : Nat) (a b : LabPx) : LabPx :=
  if a.fill && b.fill then { a with sat := false, seam := true }
  else if a.fill then { b with seam := true }
  else if b.fill then { a with seam := true }
  else ⟨mix w a.l b.l, mix w a.a b.a, mix w a.b b.b, false,
    (decide (w < 256) && a.sat) || (decide (0 < w) && b.sat), true⟩

/-- A context's columns on the device line (R301): context, first device column, pixels. -/
structure Cover where
  ctx : Nat
  first : Nat
  px : List LabPx

/-- The pixel of a cover at a device column. -/
def Cover.at? (c : Cover) (j : Nat) : Option LabPx := if c.first ≤ j then c.px[j - c.first]? else none

/-- The end of a cover on a line of `width` columns. -/
def Cover.stop (c : Cover) (width : Nat) : Nat := Nat.min width (c.first + c.px.length)

/-- Left to right order of two covers (R314). -/
def Cover.before (a b : Cover) : Bool := decide (a.first < b.first) || (a.first == b.first && decide (a.ctx < b.ctx))

/-- A cover put in its place. -/
def insertCover (c : Cover) : List Cover → List Cover
  | [] => [c]
  | d :: r => if c.before d then c :: d :: r else d :: insertCover c r

/-- Device column j from the covers in left to right order (R314, R315). `wild` is used where the spec gives
no value: nothing covers the column, or three contexts do. -/
def stitchCol (mode width : Nat) (cs : List Cover) (wild : Nat → Nat) (j : Nat) : LabPx :=
  match cs.filterMap fun c => (c.at? j).map fun p => (c, p) with
  | [] => ⟨wild (3 * j) % 4096, sext 10 (wild (3 * j + 1)), sext 10 (wild (3 * j + 2)), true, false, false⟩
  | [(_, p)] => p
  | [(a, p), (b, q)] =>
    let n := Nat.min (a.stop width) (b.stop width) - b.first
    blend (seamWeight mode n (j - b.first)) p q
  | _ => ⟨wild (3 * j) % 4096, sext 10 (wild (3 * j + 1)), sext 10 (wild (3 * j + 2)),
      bit (wild (3 * j)) 12, bit (wild (3 * j)) 13, true⟩

/-- Sums of a seam's agreement (R317): pairs of left and right pixel. -/
def seamSums (l : List (LabPx × LabPx)) : Int × Nat × Nat :=
  let l := l.filter fun p => !p.1.fill && !p.2.fill
  let d := l.map fun p => p.1.l - p.2.l
  (sumI d, sumN (d.map Int.natAbs), d.length)

/-- Seams of the device line as (left context, pairs of pixels): pairs of covers that meet (R314, R317). -/
def seamsOf (width : Nat) : List Cover → List (Nat × List (LabPx × LabPx))
  | [] => []
  | a :: r =>
    (r.filterMap fun b =>
      let n := Nat.min (a.stop width) (b.stop width) - b.first
      if n = 0 then none
      else some (a.ctx, (List.range n).filterMap fun k =>
        match a.at? (b.first + k), b.at? (b.first + k) with
        | some p, some q => some (p, q)
        | _, _ => none)) ++ seamsOf width r

/-- Flags of a run of columns, two bits each, four columns a byte (R565). -/
def pflags (l : List LabPx) : List Nat :=
  (List.range ((l.length + 3) / 4)).map fun i =>
    sumN ((List.range 4).map fun k => match l[4 * i + k]? with
      | some p => (b2n p.fill + 2 * b2n p.sat) * 4 ^ k
      | none => 0)

namespace Block

/-- A context with EN = 1 and kept columns in force for a line (R313). -/
def keeps (s : Block) (line x : Nat) : Bool :=
  let t := s.valsAt (uCtx x) line
  t.on (uCtx x) F.CTX.SRC_EN && t.get (uCtx x) F.CTX.GEO_KEEP_COUNT != 0

/-- Contexts that keep columns of a line (R313). -/
def keeping (s : Block) (line : Nat) : List Nat := (List.range 32).filter (s.keeps line)

/-- Whether a context is awaited for a line, by the values in force for it (R44, R313). -/
def awaited (s : Block) (e : StitchLine) (x : Nat) : Bool :=
  s.keeps e.line x && e.ports.contains ((s.valsAt (uCtx x) e.line).get (uCtx x) F.CTX.SRC_CAMP)

/-- A line counter in assembly: a context has delivered it. -/
def stitchOpen (s : Block) : Nat := (s.stitch.lines.filter fun e => !e.got.isEmpty).length

/-- Every awaited context has delivered the line. -/
def ownComplete (s : Block) (e : StitchLine) : Bool :=
  (List.range 32).all fun x => !s.awaited e x || (findK x e.got).isSome

/-- The ring overlap is configured (R318). -/
def overlapSet (s : Block) : Bool :=
  let p := s.get uStitch F.STITCH.RING_CFG_LEFT_PORT
  (p == 1 || p == 2) && s.get uStitch F.STITCH.RING_CFG_OVL_L != 0

/-- The ring overlap is configured for a line (R44, R318). -/
def overlapIn? (s : Block) (line : Nat) : Bool := (s.valsAt uStitch line).overlapSet

/-- A line is complete (R313). -/
def lineComplete (s : Block) (e : StitchLine) : Bool :=
  s.ownComplete e && (!s.overlapIn? e.line || e.ovl.isSome || e.gaveUp)

/-- The line with the instant at which its own contexts completed it noted. -/
def noteDone (s : Block) (e : StitchLine) : StitchLine :=
  if e.doneAt.isNone && s.ownComplete e then { e with doneAt := some s.lt } else e

/-- A triggered line that is not kept out is assembled (R313). One that no context is awaited for is in the stitch from
then on. -/
def stitchPush (s : Block) (d : Decided) : Block :=
  if s.keptOut d.line then s
  else
    let e : StitchLine := ⟨d.line, d.at_, s.get uTrig F.TRIG.EPOCH_NUMBER, d.page, d.pageLine, s.portsOf d.line,
      [], none, false, none⟩
    let s := if s.ownComplete e then s.lineInto uStitch d.line else s
    { s with stitch := { s.stitch with lines := s.stitch.lines ++ [s.noteDone e] } }

/-- A context line discarded (R313). -/
def stray (s : Block) : Block := (s.flag uStitch F.STITCH.FLAGS_STRAY).inc uStitch F.STITCH.CNT_STRAY_COUNT

/-- STITCH_DELIVER (R313): the oldest line at a strip's output, unless it has to wait. -/
def stitchDeliver (s : Block) (x : Nat) : Block :=
  match (s.ctx x).outbox with
  | [] => s
  | l :: rest =>
    let taken := s.setCtx x fun c => { c with outbox := rest }
    match s.stitch.lines.find? fun e => e.line == l.line with
    | none => taken.stray
    | some e =>
      if !s.awaited e x || (findK x e.got).isSome then taken.stray
      else if e.got.isEmpty && decide (8 ≤ s.stitchOpen) then s
      else
        let taken := taken.lineInto uStitch l.line
        let e' := taken.noteDone { e with got := bindK x l e.got }
        { taken with stitch := { taken.stitch with
          lines := taken.stitch.lines.map fun y => if y.line = l.line then e' else y } }

/-- The covers of a line, left to right: delivered lines, and FILL of contexts not awaited (R313). -/
def covers (s : Block) (e : StitchLine) : List Cover :=
  let idle := (s.keeping e.line).filter fun x => (findK x e.got).isNone
  let own := e.got.map fun p => Cover.mk p.1 p.2.first p.2.px
  let fills := idle.map fun x =>
    let t := s.valsAt (uCtx x) e.line
    Cover.mk x (t.get (uCtx x) F.CTX.GEO_OUT_FIRST)
      (List.replicate (t.get (uCtx x) F.CTX.GEO_KEEP_COUNT) ⟨0, 0, 0, true, false, false⟩)
  (own ++ fills).foldl (fun l c => insertCover c l) []

/-- A completed block's figures in SEAM_x, or SEAM_RING for key 32 (R317). -/
def seamStore (s : Block) (k : Nat) (a : SeamAcc) : Block :=
  let m := if a.n = 0 then 0 else divRound a.sum a.n
  let b := if a.n = 0 then 0 else (divRound a.abs a.n).toNat
  if k = 32 then (s.putS uStitch F.STITCH.SEAM_RING_MEAN_DL m).set uStitch F.STITCH.SEAM_RING_MEAN_ABS b
  else (s.putSI uStitch F.STITCH.SEAM_MEAN_DL k m).setI uStitch F.STITCH.SEAM_MEAN_ABS k b

/-- A line joins the blocks of its seams; blocks of earlier rows are complete (R317). -/
def seamLine (s : Block) (page row : Nat) (l : List (Nat × List (LabPx × LabPx))) : Block :=
  let old := s.stitch.seams.filter fun p => p.2.page != page || p.2.row != row
  let s := old.foldl (fun s p => s.seamStore p.1 p.2) s
  let kept := s.stitch.seams.filter fun p => p.2.page == page && p.2.row == row
  let seams := l.foldl (fun m p =>
    let a := (findK p.1 m).getD ⟨page, row, 0, 0, 0⟩
    let (d, b, n) := seamSums p.2
    bindK p.1 ⟨page, row, a.sum + d, a.abs + b, a.n + n⟩ m) kept
  { s with stitch := { s.stitch with seams := seams } }

/-- The overlap of a line leaves on RIGHT_PORT (R318, R565). -/
def overlapSend (s : Block) (line : Nat) (cols : List LabPx) : Block :=
  let p := s.get uStitch F.STITCH.RING_CFG_RIGHT_PORT
  let n := s.get uStitch F.STITCH.RING_CFG_OVL_R
  if (p = 1 ∨ p = 2) ∧ n ≠ 0 ∧ s.usedLink (p - 1) then
    let width := s.get uStitch F.STITCH.CFG_WIDTH
    let l := cols.drop (width - n)
    let pos := (s.ringPos + (if p = 2 then 1 else s.ringSize - 1)) % s.ringSize
    let dest := s.devAddr - s.devAddr % 32 + pos
    let body := le 6 line ++ le 2 l.length ++ le 4 (s.get uStitch F.STITCH.COL_BASE_BASE + (width - n)) ++ le 4 0 ++
      l.flatMap (fun q => le 4 q.word) ++ pflags l
    s.linkSend (p - 1) ⟨3, dest, 0x11, s.devAddr, body⟩
  else s

/-- The columns of a line with the ring seam blended in, and the ring seam's pairs (R315, R318). A line that no context is
awaited for stays FILL (R313). -/
def ringSeam (s : Block) (e : StitchLine) (cols : List LabPx) : List LabPx × List (LabPx × LabPx) :=
  if s.overlapIn? e.line then
    let n := s.get uStitch F.STITCH.RING_CFG_OVL_L
    let mode := s.get uStitch F.STITCH.RING_CFG_MODE_L
    let left (k : Nat) : LabPx := ((e.ovl.getD [])[k]?).getD ⟨0, 0, 0, true, false, false⟩
    let own := cols.take n
    let idx := List.range own.length
    (if e.got.isEmpty then cols
      else (idx.zip own).map (fun p => blend (seamWeight mode n p.1) (left p.1) p.2) ++ cols.drop n,
      (idx.zip own).map fun p => (left p.1, p.2))
  else (cols, [])

/-- A complete line leaves, by the values in force for it (R44, R313-R318). -/
def lineLeaves (e : StitchLine) (rest : List StitchLine) (s : Block) : Block :=
  let width := s.get uStitch F.STITCH.CFG_WIDTH
  let cs := s.covers e
  let cols0 := (List.range width).map (stitchCol (s.get uStitch F.STITCH.CFG_MODE) width cs
    fun i => Config.free (s.freeCtr + i))
  let gap := (List.range width).any fun j => cs.all fun c => (c.at? j).isNone
  let (cols, pairs) := s.ringSeam e cols0
  let lines := (List.range 32).filterMap fun x => (findK x e.got).map fun l => (x, l)
  let idle := (s.keeping e.line).filter fun x => (findK x e.got).isNone
  let lost := sumN ((idle ++ (lines.filter fun p => p.2.lost).map (·.1)).map (2 ^ ·))
  let cut := sumN ((lines.filter fun p => p.2.cut).map fun p => 2 ^ p.1)
  let t0 := match lines with
    | [] => Config.free (s.freeCtr + 3 * width) % 2 ^ 64
    | _ => maxD 0 (lines.map fun p => p.2.t0)
  let w : WebLine := ⟨e.line, ((lines.head?).map fun p => p.2.stamp).getD (e.at_ % 2 ^ 32), e.epoch, e.page,
    e.pageLine, lost, cut, e.gaveUp, gap, lines.all fun p => p.2.adj,
    s.get uStitch F.STITCH.COL_BASE_BASE, t0,
    cols.take (width - s.get uStitch F.STITCH.RING_CFG_OVL_R)⟩
  let s : Block := { s with
    freeCtr := s.freeCtr + 3 * width + 1
    gov := { s.gov with t0 := ((e.line, t0) :: s.gov.t0).take 4096 }
    stitch := { s.stitch with lines := rest, nextOut := e.line + 1, outq := s.stitch.outq ++ [w] } }
  let s := s.inc uStitch F.STITCH.CNT_LINES_COUNT
  let s : Block := if gap then (s.flag uStitch F.STITCH.FLAGS_GAP).inc uStitch F.STITCH.CNT_GAP_COUNT else s
  let s := s.seamLine e.page (e.pageLine / 16)
    (seamsOf width cs ++ (if s.overlapIn? e.line then [(32, pairs)] else []))
  let seams := seamsOf width cs ++ (if s.overlapIn? e.line then [(32, pairs)] else [])
  let whole (x : Nat) : Bool := match findK x e.got with
    | some l => !l.lost && !l.cut
    | none => false
  let s := seams.foldl (fun s p =>
    let (d, a, n) := seamSums p.2
    s.calSeam p.1 e.epoch ((if p.1 = 32 then e.ovl.isSome else whole p.1) &&
      ((s.seamRight p.1).map whole).getD false) d a n) s
  s.overlapSend e.line cols

/-- STITCH_LINE_OUT (R313-R318): the oldest line, when complete. -/
def stitchLineOut (s : Block) : Block :=
  match s.stitch.lines with
  | [] => s
  | e :: rest => if s.lineComplete e then (s.lineInto uStitch e.line).atLine uStitch e.line (lineLeaves e rest) else s

/-- An OVERLAP message arrives (R318, R565). -/
def overlapMsg (s : Block) (l src : Nat) (b : List Nat) : Block :=
  let n := s.ringSize
  let expected := if l = 0 then (src % 32 + 1) % n else (src % 32 + n - 1) % n
  if src / 32 ≠ s.devAddr / 32 ∨ s.ringPos ≠ expected ∨ 1 < l then s.misroute
  else if (s.valsAt uStitch (leAt b 0 6)).get uStitch F.STITCH.RING_CFG_LEFT_PORT ≠ l + 1 then s
  else
    let line := leAt b 0 6
    let cols := leAt b 6 2
    let px := (List.range cols).map fun i =>
      let f := leAt b (16 + 4 * cols + i / 4) 1
      labOfWord (leAt b (16 + 4 * i) 4) (bit f (2 * (i % 4))) (bit f (2 * (i % 4) + 1))
    if line < s.stitch.nextOut then
      (s.inc uStitch F.STITCH.CNT_LATE_OVL_COUNT).flag uStitch F.STITCH.FLAGS_LATE_OVL
    else
      { s with stitch := { s.stitch with lines := s.stitch.lines.map fun e =>
        if e.line = line && e.ovl.isNone && !e.gaveUp then { e with ovl := some px } else e } }

/-- A line whose ring overlap has not come in WAIT_US (R318). -/
def overlapDue (s : Block) (e : StitchLine) : Bool :=
  s.overlapIn? e.line && e.ovl.isNone && !e.gaveUp &&
    match e.doneAt with
    | some t => decide (1000 * s.get uStitch F.STITCH.RING_WAIT_WAIT_US ≤ s.since t)
    | none => false

/-- OVERLAP_TIMEOUT (R318): the oldest such line is given up. -/
def overlapTimeout (s : Block) : Block :=
  match s.stitch.lines.find? s.overlapDue with
  | none => s
  | some e =>
    let s : Block := { s with stitch := { s.stitch with lines := s.stitch.lines.map fun (y : StitchLine) =>
      if y.line = e.line then { y with gaveUp := true } else y } }
    (s.flag uStitch F.STITCH.FLAGS_SEAM_MISS).inc uStitch F.STITCH.CNT_SEAM_MISS_COUNT

end Block
end Sys2Proof.Machine
end

