-- ==== Sys2Proof/Machine/Tango.lean ====
section
/-! DEFINITION. Tango registration: look-ahead store, estimation, warp, page length (R357-R377). -/

namespace Sys2Proof.Machine

/-- The mean of R361 of the values present, none when there is none. -/
def mean4 (l : List (Option Int)) : Option Int :=
  match l.filterMap id with
  | [] => none
  | v => some ((sumI v + (v.length / 2 : Nat)) / v.length)

/-- A block decimated 2 × 2 from column x0 and line y0: 8 rows of 32 samples (R361). -/
def decimate (get : Int → Int → Option Int) (x0 y0 : Int) : List (Option Int) :=
  (List.range 256).map fun i =>
    let x := x0 + 2 * (i % 32 : Nat)
    let y := y0 + 2 * (i / 32 : Nat)
    mean4 [get x y, get (x + 1) y, get x (y + 1), get (x + 1) (y + 1)]

/-- ρ in Q1.15 (R363), rounded to nearest: the spec allows ±1 LSB (log entry 13). -/
def ncc (a b : List (Option Int)) : Int :=
  let l := (a.zip b).filterMap fun p => match p with
    | (some x, some y) => some (x, y)
    | _ => none
  let n : Int := l.length
  let sa := sumI (l.map (·.1))
  let sb := sumI (l.map (·.2))
  let fa := n * sumI (l.map fun p => p.1 * p.1) - sa * sa
  let fb := n * sumI (l.map fun p => p.2 * p.2) - sb * sb
  if n < 128 ∨ fa = 0 ∨ fb = 0 then 0
  else
    let num := n * sumI (l.map fun p => p.1 * p.2) - sa * sb
    let r : Int := Nat.min 32767 ((isqrt (num.natAbs * num.natAbs * 2 ^ 32 / (fa * fb).toNat) + 1) / 2)
    if num < 0 then -r else r

/-- A candidate and its ρ (R362). -/
structure Cand where
  du : Int
  dv : Int
  rho : Int

/-- Whether candidate a is the peak before b (R363). -/
def Cand.beats (a b : Cand) : Bool :=
  let ka := a.du.natAbs + a.dv.natAbs
  let kb := b.du.natAbs + b.dv.natAbs
  decide (b.rho < a.rho) || (a.rho == b.rho &&
    (decide (ka < kb) || (ka == kb && (decide (a.dv < b.dv) || (a.dv == b.dv && decide (a.du < b.du))))))

/-- The peak of the candidates (R363). -/
def peakOf (l : List Cand) : Cand :=
  l.foldl (fun b a => if a.beats b then a else b) (l.headD ⟨0, 0, 0⟩)

/-- ρ at a displacement. -/
def rhoAt (l : List Cand) (du dv : Int) : Int :=
  ((l.find? fun c => c.du == du && c.dv == dv).map Cand.rho).getD 0

/-- The refinement of an axis in 1/16 units, none when it is not determined (R364). -/
def refineAxis (inside : Bool) (kmin : Nat) (m p c : Int) : Option Int :=
  let k := 2 * c - m - p
  if !inside || decide (k ≤ 0) || decide (k < kmin * 128) then none
  else some (clampI (-16) 16 (divRound (16 * (m - p)) k.toNat))

/-- CONF (R365). -/
def confOf (rho rho2 : Int) : Nat :=
  if rho ≤ 0 then 0
  else (clampI 0 255 (divRound (255 * min (rho * rho) ((rho - rho2) * 2 ^ 15)) (2 ^ 30))).toNat

/-- What a search answers: dx and dy of determined axes, CONF. -/
structure SearchOut where
  dx : Option Int
  dy : Option Int
  conf : Nat

/-- The search of R362-R365. -/
def search (live : List (Option Int)) (refAt : Int → Int → List (Option Int)) (px py : Int) (w sy kmin : Nat) :
    SearchOut :=
  let cands := (List.range (2 * sy + 1)).flatMap fun (j : Nat) => (List.range (2 * w + 1)).map fun (i : Nat) =>
    let du : Int := i - (w : Int)
    let dv : Int := j - (sy : Int)
    Cand.mk du dv (ncc live (refAt (px + 2 * du) (py + 2 * dv)))
  let p := peakOf cands
  let rho2 := (cands.filter fun c => decide (2 ≤ (c.du - p.du).natAbs ∨ 2 ≤ (c.dv - p.dv).natAbs)).foldl
    (fun m c => max m c.rho) 0
  let fx := refineAxis (decide (p.du.natAbs < w)) kmin (rhoAt cands (p.du - 1) p.dv) (rhoAt cands (p.du + 1) p.dv) p.rho
  let fy := refineAxis (decide (p.dv.natAbs < sy)) kmin (rhoAt cands p.du (p.dv - 1)) (rhoAt cands p.du (p.dv + 1)) p.rho
  ⟨fx.map fun f => 16 * (px + 2 * p.du) + f, fy.map fun f => 16 * (py + 2 * p.dv) + f,
    if fx.isNone && fy.isNone then 0 else confOf p.rho rho2⟩

/-- Largest less smallest of the values present, none when there is none. -/
def rangeOf (l : List (Option Int)) : Option Int :=
  match l.filterMap id with
  | [] => none
  | v :: r => some (r.foldl max v - r.foldl min v)

/-- The flatness test (R366): samples of the whole area by component. -/
def isFlat (area : Nat → List (Option Int)) (flatL flatAb : Nat) : Bool :=
  match rangeOf (area 0), rangeOf (area 1), rangeOf (area 2) with
  | some l, some a, some b => decide (l ≤ flatL) && decide (a ≤ flatAb) && decide (b ≤ flatAb)
  | _, _, _ => false

/-- The lock state machine on an evaluated block (R368); whether it left LOCKED. -/
def lockStep (g : GroupSt) (conf confMin confAcq acqN lossN : Nat) : GroupSt × Bool :=
  if g.locked then
    if conf < confMin then
      (if lossN ≤ g.count + 1 then ({ g with locked := false, count := 0 }, true) else ({ g with count := g.count + 1 }, false))
    else ({ g with count := 0 }, false)
  else if confAcq ≤ conf then
    (if acqN ≤ g.count + 1 then ({ g with locked := true, count := 0 }, false) else ({ g with count := g.count + 1 }, false))
  else ({ g with count := 0 }, false)

/-- The lower median (R367). -/
def lowerMedian (l : List Int) : Int :=
  let rec ins (v : Int) : List Int → List Int
    | [] => [v]
    | a :: r => if v ≤ a then v :: a :: r else a :: ins v r
  (l.foldl (fun acc v => ins v acc) []).getD ((l.length - 1) / 2) 0

/-- A line put in page-line order. -/
def insertLine (w : WebLine) : List WebLine → List WebLine
  | [] => [w]
  | a :: r => if w.pageLine < a.pageLine then w :: a :: r else a :: insertLine w r

/-- The component of a displacement at a pixel (R370): own node and those across, down and diagonal; the
pixel's distances from its node's centre in half pixels. -/
def bilin (own across down diag : Int) (u v : Nat) : Int :=
  (own * ((128 - u) * (32 - v)) + across * (u * (32 - v)) + down * ((128 - u) * v) + diag * (u * v) + 2048) / 4096

namespace Block

/-- The group of a column group number. -/
def group (s : Block) (c : Nat) : GroupSt := nth s.tango.groups c ⟨false, 0, none⟩

/-- The state with a page of Tango changed. -/
def setPage (s : Block) (p : Nat) (f : TangoPage → TangoPage) : Block :=
  { s with tango := { s.tango with pages := s.tango.pages.map fun x => if x.page = p then f x else x } }

/-- A page of Tango. -/
def tangoPage (s : Block) (p : Nat) : Option TangoPage := s.tango.pages.find? fun x => x.page == p

/-- Every group in SEARCH (R368). -/
def tangoSearch (s : Block) : Block :=
  ({ s with tango := { s.tango with
    groups := s.tango.groups.map fun g => { g with locked := false, count := 0 } } } : Block).set uTango F.TANGO.STAT_LOCKED 0

/-- What new values start in Tango (R368). -/
def tangoCommitted (old s : Block) : Block :=
  if s.on uTango F.TANGO.CFG_EN && !old.on uTango F.TANGO.CFG_EN then s.tangoSearch else s

/-- The page of a binding is BOUND (R340). -/
def boundPage (s : Block) (p : Nat) : Option PageBind := (s.bindOf p).filter fun b => b.status == 0

/-- The page's TAIL and its flags, once the row base of its last row is known (R374). Of a page no line of which entered the
store that is a free value (log entry 91). -/
def pageTail (s : Block) (p : Nat) : Block :=
  match s.tangoPage p with
  | none => s
  | some g =>
    let open_ := (s.tango.rows.filter fun r => r.page == p && r.est.isNone).length
    if !g.ended || g.tail.isSome || decide (1 < open_) then s
    else s.atLine uTango g.first fun s =>
      let known := if open_ = 0 then g.sEnd else some (s.nextBase p g.first)
      let sEnd := known.getD (sext 16 s.fresh)
      let s := if known.isSome then s else s.took
      let s := s.setPage p fun g => { g with sEnd := some sEnd }
      match (s.boundPage p).bind (·.ref) with
      | none => s.setPage p fun g => { g with tail := some 0 }
      | some e =>
        let tail : Int := e.lines - (g.lines + sEnd)
        let tol : Int := s.get uTango F.TANGO.PAGE_CFG_LEN_TOL
        let s := s.putS uTango F.TANGO.LAST_TAIL_TAIL tail
        let s := s.setPage p fun g => { g with tail := some tail, flags := b2n (decide (tol < tail)) + 2 * b2n (decide (tail < -tol)) }
        if tol < tail then (s.inc uTango F.TANGO.CNT_MISMATCH_COUNT).flagRaise uTango F.TANGO.FLAGS_SHORT_PAGE
        else if tail < -tol then (s.inc uTango F.TANGO.CNT_MISMATCH_COUNT).flagRaise uTango F.TANGO.FLAGS_LONG_PAGE
        else s

/-- The page registration record, once the page has ended and its last row has left (R375). -/
def pageFinish (s : Block) (p : Nat) : Block :=
  match s.tangoPage p with
  | none => s
  | some g =>
    if !g.ended || g.tail.isNone || (s.tango.rows.any fun r => r.page == p) then s
    else
      let s : Block := { s with tango := { s.tango with pages := s.tango.pages.filter fun x => x.page != p } }
      s.atLine uTango g.first fun s =>
        if s.on uTango F.TANGO.PAGE_CFG_PAGE_REC then
          let b := s.bindOf p
          let ref := (s.boundPage p).bind (·.ref)
          let job := b.bind (·.job)
          let q := s.tango.pageSeq
          let s : Block := { s with tango := { s.tango with pageSeq := (q + 1) % 0x10000 } }
          s.pushStream 0 (.page ⟨g.flags + 4 * b2n g.flushed + 8 * b2n ref.isSome, s.devAddr, p, (job.map PageJob.job).getD 0,
            (job.map PageJob.handle).getD 0, g.lines, (ref.map RefEntry.lines).getD 0, g.sEnd.getD 0, g.tail.getD 0, g.blocks,
            g.measured, g.flat, g.unref, Nat.min g.losses 0xFFFF, g.first, q⟩)
        else s

/-- Whether a page has ended in the store (R332, R374): no line of it can enter any more, and its last row is closed. -/
def pageClosed (s : Block) (p : Nat) : Bool :=
  (match s.bindOf p with
    | some b => b.ended
    | none => (s.trig.lines.head?.map fun d => d.page != p).getD true) &&
    !(s.stitch.lines.any fun e => e.page == p) && !(s.stitch.outq.any fun w => w.page == p) &&
    !s.tango.rows.any fun r => r.page == p && !r.closed

/-- A page ends in the store (R332, R374). -/
def tangoPageEnd (s : Block) (p : Nat) : Block :=
  ((s.setPage p fun g => { g with ended := true }).pageTail p).pageFinish p

/-- The pages that have ended (R374, R375). -/
def pagesSettle (s : Block) : Block :=
  (s.tango.pages.filter fun g => s.pageClosed g.page).foldl (fun s g => s.tangoPageEnd g.page) s

/-- A page begins with a line (R375). -/
def tangoPageNew (s : Block) (page line : Nat) : Block :=
  if (s.tangoPage page).isSome then s
  else { s with tango := { s.tango with
    pages := s.tango.pages ++ [⟨page, line, 0, false, none, 0, 0, 0, 0, 0, none, false, 0⟩] } }

/-- A line of a row that has left is handed on UNREF (R360). -/
def lateLine (s : Block) (w : WebLine) (base : Int) : Block :=
  let n := (w.px.length + 63) / 64
  let l : TangoLine := ⟨w, base, List.replicate n (5, 0), List.replicate w.px.length none⟩
  let s : Block := { s with tango := { s.tango with outq := s.tango.outq ++ [l] } }
  (s.inc uTango F.TANGO.CNT_LATE_LINE_COUNT).flag uTango F.TANGO.FLAGS_LATE_LINE

/-- Lines in the look-ahead store. -/
def heldLines (s : Block) : Nat := sumN (s.tango.rows.map fun r => r.lines.length + r.late.length)

/-- `TANGO.STAT.HELD` after a change of the store. -/
def heldUpdate (s : Block) : Block := s.set uTango F.TANGO.STAT_HELD s.heldLines

/-- A line enters the store (R359, R360, R373). -/
def storeLine (s : Block) (w : WebLine) : Block :=
  let row := w.pageLine / 16
  let s : Block := { s with tango := { s.tango with entered := s.lt, open_ := true } }
  let s := (s.tangoPageNew w.page w.line).setPage w.page fun g => { g with lines := Nat.max g.lines (w.pageLine + 1) }
  let gone := match s.tango.left with
    | some (p, r, b, _) => if p = w.page ∧ row ≤ r then some b else none
    | none => none
  match gone with
  | some b => s.lateLine w b
  | none =>
    let s : Block := if s.tango.rows.any fun r => r.page == w.page && r.row == row then
        { s with tango := { s.tango with rows := s.tango.rows.map fun r =>
          if r.page = w.page ∧ r.row = row then
            (if r.closed then { r with late := insertLine w r.late } else { r with lines := insertLine w r.lines })
          else r } }
      else
        { s with tango := { s.tango with
          rows := (s.tango.rows.map fun r => { r with closed := true }) ++
            [⟨w.page, row, w.line, [w], [], false, false, none, w.colBase⟩] } }
    s.pagesSettle.heldUpdate

/-- A line enters Tango: the values of a commit with it (R42, R44). -/
def enterTango (s : Block) (line : Nat) : Block := tangoCommitted s (s.lineInto uTango line)

/-- LOOKAHEAD_ENTER (R359): the next line of the stitch; a full store holds it there. -/
def lookaheadEnter (s : Block) : Block :=
  match s.stitch.outq with
  | [] => s
  | w :: rest =>
    if 40 ≤ s.heldLines then s.flag uTango F.TANGO.FLAGS_STORE_FULL
    else ({ s with stitch := { s.stitch with outq := rest } }.enterTango w.line).storeLine w

/-- TANGO_FLUSH (R359). -/
def tangoFlush (s : Block) : Block :=
  if s.tango.open_ && decide (1000 * s.get uTango F.TANGO.TIMING_FLUSH_US ≤ s.since s.tango.entered) then
    let s : Block := { s with tango := { s.tango with open_ := false } }
    let s : Block := match s.tango.rows.getLast? with
      | some r =>
        if r.closed then s
        else
          let s : Block := { s with tango := { s.tango with rows := s.tango.rows.map fun x =>
            if x.page = r.page ∧ x.row = r.row then { x with closed := true, flushed := true } else x } }
          let s := s.setPage r.page fun g => { g with flushed := true }
          (s.inc uTango F.TANGO.CNT_FLUSH_COUNT).flag uTango F.TANGO.FLAGS_FLUSH
      | none => s
    s.pagesSettle
  else s

/-- The prediction of dx for a group (R362). -/
def predictX (s : Block) (page row c : Nat) : Int :=
  let g := s.group c
  let own := g.last.getD 0
  if g.locked then own
  else match s.tango.lastEst with
    | none => own
    | some (p, r, nodes) =>
      if (p = page ∧ r + 1 = row) ∨ row = 0 then
        let ok := (List.range nodes.length).filterMap fun i => match nodes[i]? with
          | some n => if n.reason = 0 then some (i, n.dx) else none
          | none => none
        let dist (i : Nat) : Nat := if i ≤ c then c - i else i - c
        match ok.foldl (fun (b : Option (Nat × Int)) q => match b with
            | none => some q
            | some x => if dist q.1 < dist x.1 then some q else some x) none with
        | some q => q.2
        | none => own
      else own

/-- Bands of a window of reference lines and columns that are not complete, and whether a block of it is
DEGRADED (R369). -/
def windowCheck (s : Block) (b : PageBind) (e : RefEntry) (x0 x1 y0 y1 : Int) : List Nat × Bool :=
  let xa := max 0 x0
  let xb := min ((e.width : Int) - 1) x1
  let ya := max 0 y0
  let yb := min ((e.lines : Int) - 1) y1
  if xb < xa ∨ yb < ya then ([], false)
  else
    let bands := (List.range ((yb / 16 - ya / 16).toNat + 1)).map fun i => (ya / 16).toNat + i
    let find (n : Nat) : Option BandBuf :=
      s.refs.bands.find? fun q => q.page == some b.page && q.gen == e.gen && q.band == n
    let late := bands.filter fun n => (find n).isNone
    let blocks := (List.range ((xb / 64 - xa / 64).toNat + 1)).map fun i => (xa / 64).toNat + i
    let deg := bands.any fun n => match find n with
      | some q => blocks.any fun j => ((q.blocks[j]?).map (·.2)).getD false
      | none => false
    (late, deg)

/-- A component of a reference pixel. -/
def refComp (s : Block) (b : PageBind) (c : Nat) (x y : Int) : Option Int :=
  match s.refSample b x y with
  | .ok l a bb => some (match c with | 0 => l | 1 => a | _ => bb)
  | _ => none

/-- A component of a node, a signed 16-bit value (R357); one that falls outside is a free value (log entry 91). -/
def nodeVal (s : Block) (i : Nat) (v : Int) : Int :=
  if -32768 ≤ v ∧ v < 32768 then v else sext 16 (Config.free (s.freeCtr + i))

/-- A block estimated (R361-R369): node, group after it, whether it left LOCKED, bands found late. -/
def estimateBlock (s : Block) (r : TangoRow) (base : Int) (c : Nat) : TangoNode × GroupSt × Bool × List Nat :=
  let g := s.group c
  let px := s.predictX r.page r.row c
  let nx := s.nodeVal (4 * c) px
  let ny := s.nodeVal (4 * c + 1) (16 * base)
  let p0 : TangoNode := ⟨nx, ny, nx, ny, 0, 2, g.locked, false, false⟩
  match (s.boundPage r.page).filter fun _ => s.on uTango F.TANGO.CFG_EN with
  | none => (p0, g, false, [])
  | some b =>
    match b.ref with
    | none => (p0, g, false, [])
    | some e =>
      let w := s.get uTango (if g.locked then F.TANGO.CFG_SX else F.TANGO.CFG_SX_ACQ)
      let sy := s.get uTango F.TANGO.CFG_SY
      let ox := (px + 8) / 16
      let x0 : Int := 64 * c + e.margin + ox
      let y0 : Int := 16 * r.row + base
      let (late, deg) := s.windowCheck b e (x0 - 2 * w) (x0 + 2 * w + 63) (y0 - 2 * sy) (y0 + 2 * sy + 15)
      if !late.isEmpty then ({ p0 with reason := 3 }, g, false, late)
      else if deg then ({ p0 with reason := 4 }, g, false, [])
      else
        let get (x y : Int) : Option Int :=
          if x < 0 ∨ 64 * (c + 1) ≤ x then none
          else ((r.lines.find? fun l => (l.pageLine : Int) == y).bind fun l => l.px[x.toNat]?).bind fun q =>
            if q.fill then none else some q.l
        let live := decimate get (64 * c) (16 * r.row)
        let refAt (k : Nat) (u v : Int) : List (Option Int) :=
          decimate (s.refComp b k) (64 * c + e.margin + u) (16 * r.row + v)
        let area (k : Nat) : List (Option Int) :=
          (List.range (2 * sy + 1)).flatMap fun (j : Nat) => (List.range (2 * w + 1)).flatMap fun (i : Nat) =>
            refAt k (ox + 2 * ((i : Int) - w)) (base + 2 * ((j : Int) - sy))
        if (live.filter Option.isSome).length < 128 then ({ p0 with reason := 5 }, g, false, [])
        else if isFlat area (s.get uTango F.TANGO.FLAT_FLAT_L) (s.get uTango F.TANGO.FLAT_FLAT_AB) then
          ({ p0 with reason := 1 }, g, false, [])
        else
          let o := search live (refAt 0) ox base w sy (s.get uTango F.TANGO.CONF_KAPPA_MIN)
          let cmin := s.get uTango F.TANGO.CONF_CONF_MIN
          let (g', lost) := lockStep g o.conf cmin (s.get uTango F.TANGO.CONF_CONF_ACQ)
            (s.get uTango F.TANGO.CONF_ACQ_N) (s.get uTango F.TANGO.CONF_LOSS_N)
          let reason := if !g'.locked then 6 else if o.conf < cmin then 7 else 0
          let n : TangoNode := ⟨if reason = 0 then s.nodeVal (4 * c + 2) (o.dx.getD px) else nx,
            if reason = 0 then s.nodeVal (4 * c + 3) (o.dy.getD (16 * base)) else ny, nx, ny,
            o.conf, reason, g'.locked, o.dx.isNone, o.dy.isNone⟩
          (n, if reason = 0 then { g' with last := some n.dx } else g', lost, [])

/-- A closed row estimated, by the values in force for it (R361-R369). -/
def estimateRow (r : TangoRow) (s : Block) : Block :=
  let owned := (((r.lines ++ r.late).head?).map fun l => l.px.length).getD 0
  let n := (owned + 63) / 64
  let base := s.rowBase r
  let pad := s.tango.groups ++ List.replicate (n - s.tango.groups.length) ⟨false, 0, none⟩
  let s : Block := { s with tango := { s.tango with groups := pad } }
  let res := (List.range n).map (s.estimateBlock r base)
  let nodes := res.map (·.1)
  let dys := (nodes.filter fun q => q.reason == 0).map (·.dy)
  let next := if dys.isEmpty ∨ dys.length < s.get uTango F.TANGO.ROW_CFG_MED_MIN then base
    else base + clampI (-1) 1 ((lowerMedian dys + 8) / 16 - base)
  let losses := (res.filter fun q => q.2.2.1).length
  let late := (res.flatMap fun q => q.2.2.2).eraseDups
  let s : Block := { s with
    freeCtr := s.freeCtr + 4 * n
    tango := { s.tango with
      rows := s.tango.rows.map fun x => if x.page = r.page ∧ x.row = r.row then { x with est := some (base, nodes) } else x
      groups := (res.map fun q => q.2.1) ++ pad.drop n
      lastEst := some (r.page, r.row, nodes), sNext := next } }
  let s := (s.setPage r.page fun g => { g with sEnd := some base, losses := g.losses + losses }).addI uTango
    F.TANGO.CNT_LOCK_LOSS_COUNT 0 losses
  let s := (List.range losses).foldl (fun s _ => s.flagRaise uTango F.TANGO.FLAGS_LOCK_LOSS) s
  let s := s.set uTango F.TANGO.STAT_LOCKED (Nat.min 4095 ((s.tango.groups.filter (·.locked)).length))
  late.foldl (fun s b => s.noteLate r.page b) s

/-- ROW_ESTIMATED (R361-R369, R373): the oldest closed row not yet estimated. -/
def rowEstimated (s : Block) : Block :=
  match s.tango.rows.find? fun r => r.est.isNone with
  | none => s
  | some r => if r.closed then (s.atLine uTango r.first (estimateRow r)).pageTail r.page else s

/-- The nodes of a row around another: those of the row before or after, when it stands (R370). -/
def nodeAt (rows : Option (List TangoNode)) (own : TangoNode) (c : Option Nat) : TangoNode :=
  match rows, c with
  | some l, some c => match l[c]? with
    | some n => if n.reason = 0 then n else own
    | none => own
  | _, _ => own

/-- The displacement of a pixel (R370): its column j and page line y, the row, its nodes and those of the rows
before and after. -/
def displacement (row j y : Nat) (nodes : List TangoNode) (prev next : Option (List TangoNode)) : Int × Int :=
  let c := j / 64
  let own := nodes.getD c ⟨0, 0, 0, 0, 0, 2, false, false, false⟩
  let u : Int := 2 * j - (128 * c + 63 : Nat)
  let v : Int := 2 * y - (32 * row + 15 : Nat)
  let cc := if u < 0 then (if c = 0 then none else some (c - 1)) else some (c + 1)
  let other := if v < 0 then prev else next
  let a := nodeAt (some nodes) own cc
  let d := nodeAt other own (some c)
  let g := nodeAt other own cc
  (bilin own.dx a.dx d.dx g.dx u.natAbs v.natAbs, bilin own.dy a.dy d.dy g.dy u.natAbs v.natAbs)

/-- The warped reference at a position in 1/16 (R371). All four pixels are read, so that one in a band not complete or in a
DEGRADED block counts whatever its weight (R369); one outside the reference counts with its weight. -/
def warpPx (s : Block) (b : PageBind) (x y : Int) : RefPx :=
  let i := x / 16
  let l := y / 16
  let fx := x % 16
  let fy := y % 16
  let taps := [(i, l, (16 - fx) * (16 - fy)), (i + 1, l, fx * (16 - fy)), (i, l + 1, (16 - fx) * fy),
    (i + 1, l + 1, fx * fy)]
  taps.foldl (fun (acc : RefPx) (t : Int × Int × Int) =>
    match acc, s.refSample b t.1 t.2.1 with
    | .late n, _ => .late n
    | _, .late n => .late n
    | .degraded, _ => .degraded
    | _, .degraded => .degraded
    | .absent, _ => .absent
    | a, .absent => if t.2.2 == 0 then a else RefPx.absent
    | .ok l a c, .ok l' a' c' => .ok (l + t.2.2 * l') (a + t.2.2 * a') (c + t.2.2 * c')) (.ok 0 0 0)

/-- A block whose warp found a band not complete, or a DEGRADED block: it takes its prediction as its node and is not
evaluated (R369). -/
def turned (n : TangoNode) (reason : Nat) : TangoNode := ⟨n.px, n.py, n.px, n.py, 0, reason, n.locked, false, false⟩

/-- A line warped (R369-R371): reference pixels, nodes with blocks that turned LATE or DEGRADED, bands late. -/
def warpLine (s : Block) (r : TangoRow) (nodes : List TangoNode) (prev next : Option (List TangoNode)) (w : WebLine) :
    List (Option (Int × Int × Int)) × List TangoNode × List Nat :=
  match s.boundPage r.page with
  | none => (List.replicate w.px.length none, nodes, [])
  | some b =>
    let margin := (b.ref.map RefEntry.margin).getD 0
    let raw := (List.range w.px.length).map fun j =>
      let st := (nodes.getD (j / 64) ⟨0, 0, 0, 0, 0, 2, false, false, false⟩).reason
      if 1 < st then RefPx.absent
      else
        let (dx, dy) := displacement r.row j w.pageLine nodes prev next
        s.warpPx b (16 * (j + margin : Nat) + dx) (16 * w.pageLine + dy)
    let worst (c : Nat) : Option Nat :=
      let mine := (raw.drop (64 * c)).take 64
      if mine.any (fun p => match p with | .late _ => true | _ => false) then some 3
      else if mine.contains .degraded then some 4 else none
    let bad := (List.range nodes.length).map worst
    let nodes' := (nodes.zip bad).map fun p => match p.2 with
      | some k => turned p.1 k
      | none => p.1
    let refs := ((List.range raw.length).zip raw).map fun p =>
      if (bad.getD (p.1 / 64) none).isSome then none
      else match p.2 with
        | .ok l a c => some ((l + 128) / 256, (a + 128) / 256, (c + 128) / 256)
        | _ => none
    (refs, nodes', (raw.filterMap fun p => match p with | .late n => some n | _ => none).eraseDups)

/-- The oldest row may leave (R360). -/
def rowMayLeave (r : TangoRow) (rest : List TangoRow) : Bool :=
  r.est.isSome && match rest with
    | n :: _ => !(n.page == r.page && n.row == r.row + 1) || n.est.isSome || r.flushed || n.flushed
    | [] => r.flushed

/-- The row after a row, when it has been estimated. -/
def nextNodes (r : TangoRow) (rest : List TangoRow) : Option (List TangoNode) :=
  match rest with
  | n :: _ => if n.page = r.page ∧ n.row = r.row + 1 then n.est.map (·.2) else none
  | [] => none

/-- Row b + 1 is absent from the store, or beyond the page (R377). -/
def absentNext (r : TangoRow) (rest : List TangoRow) : Bool :=
  match rest with
  | n :: _ => !(n.page == r.page && n.row == r.row + 1)
  | [] => true

/-- A row has left the store: counts, mesh record (R369, R377). -/
def rowLeft (r : TangoRow) (base : Int) (nodes : List TangoNode) (absent : Bool) (s : Block) : Block :=
  let nm := (nodes.filter fun n => n.reason == 0).length
  let nf := (nodes.filter fun n => n.reason == 1).length
  let n := nodes.length
  let s := (((s.addI uTango F.TANGO.CNT_BLOCKS_COUNT 0 n).addI uTango F.TANGO.CNT_MEASURED_COUNT 0 nm).addI
    uTango F.TANGO.CNT_FLAT_COUNT 0 nf).addI uTango F.TANGO.CNT_UNREF_COUNT 0 (n - nm - nf)
  let s := s.setPage r.page fun g => { g with
    blocks := g.blocks + n, measured := g.measured + nm, flat := g.flat + nf, unref := g.unref + (n - nm - nf) }
  let s : Block := { s with tango := { s.tango with left := some (r.page, r.row, base, nodes) } }
  let div := s.get uTango F.TANGO.PAGE_CFG_ROW_DIV
  if div ≠ 0 ∧ r.row % div = 0 then
    let q := s.tango.meshSeq
    let e (x : TangoNode) : Nat := wrapN 16 x.dx + wrapN 16 x.dy * 2 ^ 16 + x.conf * 2 ^ 32 +
      (x.reason + 8 * b2n x.locked + 16 * b2n x.axisX + 32 * b2n x.axisY) * 2 ^ 40
    let s : Block := { s with tango := { s.tango with meshSeq := (q + 1) % 2 ^ 32 } }
    s.classB 1 (.mesh ⟨b2n r.flushed + 2 * b2n absent, s.devAddr, r.page, r.row, r.first, base, r.colBase, q, nodes.map e⟩)
  else s

/-- A line of the oldest row, warped, leaves the store (R360, R369-R372, R376). -/
def warpOut (r : TangoRow) (rest : List TangoRow) (base : Int) (nodes : List TangoNode) (w : WebLine) (s : Block) : Block :=
  let prev := match s.tango.left with
    | some (p, b, _, l) => if p = r.page ∧ b + 1 = r.row then some l else none
    | none => none
  let (refs, nodes, late) := s.warpLine r nodes prev (nextNodes r rest) w
  let s := late.foldl (fun s b => s.noteLate r.page b) s
  let l : TangoLine := ⟨w, base, nodes.map fun n => (n.reason, n.conf), refs⟩
  let r' : TangoRow := { r with
    est := some (base, nodes), lines := r.lines.drop 1, late := if r.lines.isEmpty then r.late.drop 1 else r.late }
  let empty := r'.lines.isEmpty && r'.late.isEmpty
  let s : Block := { s with tango := { s.tango with
    rows := if empty then rest else r' :: rest, outq := s.tango.outq ++ [l]
    lastEst := s.tango.lastEst.map fun e => if e.1 = r.page ∧ e.2.1 = r.row then (e.1, e.2.1, nodes) else e } }
  if empty then rowLeft r' base nodes (absentNext r rest) s else s

/-- TANGO_LINE_OUT (R360, R369-R372, R376): the next line of the oldest row. -/
def tangoLineOut (s : Block) : Block :=
  match s.tango.rows with
  | [] => s
  | r :: rest =>
    match r.est, rowMayLeave r rest, r.lines ++ r.late with
    | some (base, nodes), true, w :: _ =>
      ((s.atLine uTango w.line (warpOut r rest base nodes w)).pageFinish r.page).heldUpdate
    | _, _, _ => s

end Block
end Sys2Proof.Machine
end

