-- ==== Sys2Proof/Machine/Archive.lean ====
section
/-! DEFINITION. The archive (R503). -/

namespace Sys2Proof.Machine
namespace Block

/-- A pixel of the archive: the live pixel as LAB32, zero where its line is absent. A column beyond the owned ones,
which the spec gives no value, is a free value. -/
def archWord (a : ArchAcc) (wild y x : Nat) : Nat :=
  if a.cols ≤ x then wild
  else match findK y a.lines with
    | some px => ((px[x]?).map LabPx.word).getD 0
    | none => 0

/-- The slots of a row (R341-R346, R503). A reserved RATIO leaves each slot's bytes open. -/
def archSlots (s : Block) (a : ArchAcc) : List Nat :=
  let n := (a.cols + 63) / 64
  ((List.range n).foldl (fun (acc : List Nat × List (List Int)) g =>
    let hist := if g % 16 = 0 then histInit 2 else acc.2
    let tile := (List.range 1024).flatMap fun i =>
      le 4 (archWord a (Config.free (s.freeCtr + i)) (i / 64) (64 * g + i % 64))
    if a.ratio = 0 ∨ 4 < a.ratio then (acc.1 ++ le 8 (Config.free (s.freeCtr + 1024 + g)), hist)
    else
      let (b, _, h) := encodeBlock 2 a.ratio (s.get uCodec F.CODEC.CFG_Q_MAX) hist tile
      (acc.1 ++ b, h)) ([], histInit 2)).1

/-- The row closes: its record, or ARCH_FULL (R503). A row not made while Class C is shed leaves a gap in SEQ (R427). -/
def archClose (s : Block) : Block :=
  match s.host.arch with
  | none => s
  | some a =>
    let s : Block := { s with host := { s.host with arch := none } }
    if !a.kept then { s with host := { s.host with archSeq := (s.host.archSeq + 1) % 2 ^ 32 } }
    else
      let r : Rec := .arch ⟨a.ratio, s.devAddr, sumN (a.lines.map fun p => 2 ^ p.1), a.page, a.row, a.line, a.cols,
        s.host.archSeq, s.archSlots a⟩
      let s : Block := { s with freeCtr := s.freeCtr + 2048 }
      if s.regionBytes 3 < sumN ((nth s.host.streams 3 ⟨[], none, none⟩).recs.map Rec.size) + r.size then
        s.hostIrq F.HOST.IRQ_STAT_ARCH_FULL
      else
        let s : Block := { s with host := { s.host with archSeq := (s.host.archSeq + 1) % 2 ^ 32 } }
        (s.pushStream 3 r).inc uHost F.HOST.CNT_ARCH_COUNT

/-- Whether a block row is one the archive takes (R503). -/
def archWants (s : Block) (row : Nat) : Bool :=
  s.on uHost F.HOST.ARCH_CFG_EN && row % s.get uHost F.HOST.ARCH_CFG_DIV == 0 && s.regionBytes 3 != 0

/-- A line at the archive, by the values in force for it. A row is not archived when Class C is shed as one of its lines
arrives, and all its lines count (R427, R503). -/
def archWork (l : TangoLine) (s : Block) : Block :=
  let row := l.w.pageLine / 16
  let same := match s.host.arch with
    | some a => a.page == l.w.page && a.row == row
    | none => false
  let s := if same then s else
    let s := s.archClose
    if s.archWants row then
      ({ s with host := { s.host with arch := some ⟨l.w.page, row, l.w.line, l.w.px.length,
        s.get uHost F.HOST.ARCH_CFG_RATIO, [], !s.shedC⟩ } } : Block)
    else s
  match s.host.arch with
  | none => s
  | some a =>
    let s : Block := if a.kept && !s.shedC then
        { s with host := { s.host with arch := some { a with lines := a.lines ++ [(l.w.pageLine % 16, l.w.px)] } } }
      else
        (({ s with host := { s.host with arch := some { a with lines := [], kept := false } } } : Block).addI uLatgov
          F.LATGOV.CNT_SHED_C_COUNT 0 (1 + a.lines.length))
    if l.w.pageLine % 16 = 15 then s.archClose else s

/-- A line that leaves Tango enters the archive. -/
def archLine (s : Block) (l : TangoLine) : Block :=
  (s.lineInto uHost l.w.line).atLine uHost l.w.line (archWork l)

/-- A triggered line of a row kept out, which the archive would have taken (R427, R503). -/
def archKeptOut (s : Block) (line pageLine : Nat) : Block :=
  if s.keptOut line && (s.valsAt uHost line).archWants (pageLine / 16) then s.inc uLatgov F.LATGOV.CNT_SHED_C_COUNT else s

end Block
end Sys2Proof.Machine
end

