-- ==== Sys2Proof/Machine/Rs.lean ====
section
/-! DEFINITION. The flit's codes: Reed-Solomon RS(144,128) over GF(2^8) with x^8 + x^4 + x^3 + x^2 + 1
and roots α^0 to α^15, and CRC-32 of IEEE 802.3 (R541). -/

namespace Sys2Proof.Machine

/-- x times a field element. -/
def gfX (a : Nat) : Nat := if a < 128 then a * 2 else Nat.xor (a * 2 % 256) 0x1D

/-- Product of field elements, by the bits of b from bit n - 1 downward. -/
def gfMulFrom (a b : Nat) : Nat → Nat → Nat
  | 0, acc => acc
  | n + 1, acc => gfMulFrom a b n (Nat.xor (gfX acc) (if bit b n then a else 0))

/-- Product of field elements. -/
def gfMul (a b : Nat) : Nat := gfMulFrom a b 8 0

/-- Power of a field element. -/
def gfPow (a : Nat) : Nat → Nat
  | 0 => 1
  | n + 1 => gfMul a (gfPow a n)

/-- Inverse: the 254th power. -/
def gfInv (a : Nat) : Nat := gfPow a 254

/-- Value at x of a polynomial whose coefficients stand highest power first. -/
def gfEval (p : List Nat) (x : Nat) : Nat := p.foldl (fun acc c => Nat.xor (gfMul acc x) c) 0

/-- Value at x of a polynomial whose coefficients stand lowest power first. -/
def gfEvalLow (p : List Nat) (x : Nat) : Nat := gfEval p.reverse x

/-- The sixteen syndromes of a codeword, first symbol of highest power. -/
def rsSyndromes (cw : List Nat) : List Nat := (List.range 16).map fun i => gfEval cw (gfPow 2 i)

/-- Sum of two polynomials, lowest power first. -/
def gfAdd (a b : List Nat) : List Nat :=
  (List.range (Nat.max a.length b.length)).map fun i => Nat.xor (a.getD i 0) (b.getD i 0)

/-- Berlekamp-Massey: error locator, lowest power first, from syndromes; `c` and `b` the current and
last locators, `l` the length, `m` the shift, `bb` the last discrepancy. -/
def rsLocate (syn : List Nat) : Nat → Nat → List Nat → List Nat → Nat → Nat → Nat → List Nat × Nat
  | 0, _, c, _, l, _, _ => (c, l)
  | fuel + 1, n, c, b, l, m, bb =>
    let d := (List.range l).foldl
      (fun acc i => Nat.xor acc (gfMul (c.getD (i + 1) 0) (if i + 1 ≤ n then syn.getD (n - i - 1) 0 else 0)))
      (syn.getD n 0)
    if d = 0 then rsLocate syn fuel (n + 1) c b l (m + 1) bb
    else
      let k := gfMul d (gfInv bb)
      let c' := gfAdd c (List.replicate m 0 ++ b.map (gfMul k))
      if 2 * l ≤ n then rsLocate syn fuel (n + 1) c' c (n + 1 - l) 1 d
      else rsLocate syn fuel (n + 1) c' b l (m + 1) bb

/-- Product of polynomials, lowest power first, cut to 16 terms. -/
def gfPolyMul (a b : List Nat) : List Nat :=
  (List.range 16).map fun n => (List.range (n + 1)).foldl
    (fun acc i => Nat.xor acc (gfMul (a.getD i 0) (b.getD (n - i) 0))) 0

/-- A codeword of 144 symbols corrected, with the number of symbol errors, if it can be (up to 8). -/
def rsCorrect (cw : List Nat) : Option (List Nat × Nat) :=
  let syn := rsSyndromes cw
  if syn.all (· == 0) then some (cw, 0)
  else
    let (loc, l) := rsLocate syn 16 0 [1] [1] 0 1 1
    let omega := gfPolyMul syn loc
    let deriv := (List.range loc.length).map fun i => if i % 2 = 0 then loc.getD (i + 1) 0 else 0
    let roots := (List.range 144).filter fun j => gfEvalLow loc (gfPow (gfInv 2) j) == 0
    if 8 < l ∨ roots.length ≠ l then none
    else
      let fixed := roots.foldl (fun w j =>
        let xi := gfPow (gfInv 2) j
        let e := gfMul (gfPow 2 j) (gfMul (gfEvalLow omega xi) (gfInv (gfEvalLow deriv xi)))
        upd w (143 - j) fun v => Nat.xor v e) cw
      if (rsSyndromes fixed).all (· == 0) then some (fixed, l) else none

/-- Elements of a list at even places. -/
def evens : List Nat → List Nat
  | [] => []
  | [a] => [a]
  | a :: _ :: r => a :: evens r

/-- The two interleaved codewords of a flit. -/
def rsSplit (l : List Nat) : List Nat × List Nat := (evens l, evens (l.drop 1))

/-- Two lists interleaved. -/
def interleave : List Nat → List Nat → List Nat
  | a :: r, b :: t => a :: b :: interleave r t
  | l, [] => l
  | [], l => l

/-- One bit of the reflected CRC-32. -/
def crc32Bit (c : Nat) : Nat := if c % 2 = 1 then Nat.xor (c / 2) 0xEDB88320 else c / 2

/-- CRC-32 register after bytes. -/
def crc32From : Nat → List Nat → Nat
  | c, [] => c
  | c, b :: r =>
    crc32From (crc32Bit (crc32Bit (crc32Bit (crc32Bit (crc32Bit (crc32Bit (crc32Bit (crc32Bit
      (Nat.xor c (b % 256)))))))))) r

/-- CRC-32 of IEEE 802.3 of a byte list. -/
def crc32 (l : List Nat) : Nat := Nat.xor (crc32From 0xFFFFFFFF l) 0xFFFFFFFF

/-- A received flit of 288 bytes: the 256 data bytes once corrected and the symbol errors corrected,
or the number of codewords that cannot be corrected; `none` data also when the CRC does not match. `lanes`: the symbols
corrected by the logical lane that carried them (R158, R540). -/
structure FlitCheck where
  data : Option (List Nat)
  symbols : Nat
  uncorrectable : Nat
  lanes : List Nat
deriving DecidableEq, Repr

/-- Symbols of codeword h that a correction changed, by logical lane: symbol i is byte 2i + h of the flit, and the 8-byte
blocks go to the lanes in rotation (R540). -/
def laneErrors (h : Nat) (got fixed : List Nat) : List Nat :=
  (List.range 4).map fun l =>
    ((List.range got.length).filter fun i => (2 * i + h) / 8 % 4 == l && got.getD i 0 != fixed.getD i 0).length

/-- The check of R541 and R542. -/
def flitCheck (raw : List Nat) : FlitCheck :=
  let (a, b) := rsSplit raw
  match rsCorrect a, rsCorrect b with
  | some (x, n), some (y, m) =>
    let d := (interleave x y).take 256
    { data := if crc32 (d.take 252) = ofLe (d.drop 252) then some d else none
      symbols := n + m, uncorrectable := 0, lanes := ((laneErrors 0 a x).zip (laneErrors 1 b y)).map fun e => e.1 + e.2 }
  | some (x, n), none => ⟨none, n, 1, laneErrors 0 a x⟩
  | none, some (y, m) => ⟨none, m, 1, laneErrors 1 b y⟩
  | none, none => ⟨none, 0, 2, []⟩

end Sys2Proof.Machine
end

