-- ==== Sys2Proof/Machine/CalProc.lean ====
section
/-! DEFINITION. What the calibration procedures make of their measurements (R602-R610). -/

namespace Sys2Proof.Machine

/-- Two ascending lists merged. -/
def mergeI : Nat → List Int → List Int → List Int
  | 0, a, b => a ++ b
  | _ + 1, [], b => b
  | _ + 1, a, [] => a
  | n + 1, x :: a, y :: b => if x ≤ y then x :: mergeI n a (y :: b) else y :: mergeI n (x :: a) b

/-- A list in ascending order, halved at most n times. -/
def sortI : Nat → List Int → List Int
  | 0, l => l
  | n + 1, l =>
    if l.length < 2 then l
    else mergeI l.length (sortI n (l.take (l.length / 2))) (sortI n (l.drop (l.length / 2)))

/-- Median; of an even number of values the rounded mean of the middle two (log entry 23). -/
def medianI (l : List Int) : Int :=
  let t := sortI 20 l
  let n := t.length
  if n % 2 = 1 then t.getD (n / 2) 0 else divRound (t.getD (n / 2 - 1) 0 + t.getD (n / 2) 0) 2

/-- Least of a list, d if empty. -/
def minI (d : Int) (l : List Int) : Int := match l with
  | [] => d
  | a :: r => r.foldl (fun m x => if x < m then x else m) a

/-- Greatest of a list, d if empty. -/
def maxI (d : Int) (l : List Int) : Int := match l with
  | [] => d
  | a :: r => r.foldl (fun m x => if m < x then x else m) a

/-- Values of TARGET a procedure takes (R604). -/
def calTargets (proc : Nat) : Nat :=
  match proc with
  | 1 => 16 | 2 => 1 | 3 => 8 | 4 => 8 | 5 => 2 | 6 => 1 | 7 => 1 | 8 => 32 | 9 => 32 | 10 => 32 | 11 => 33 | _ => 0

/-- Words of a procedure's record payload (R604). -/
def calWords (proc lanes : Nat) : Nat :=
  match proc with
  | 1 => 1 + lanes | 2 => 16 | 3 => 3 | 4 => 4 | 5 => 5 | 6 => 8 | 7 => 14 | 8 => 7 | 9 => 9 | 10 => 12 | _ => 4

/-- Outcome of a measurement: payload, plausibility, quality figure, grade once plausible, and the state after the
table writes and free values of the procedure. -/
structure CalOut where
  words : List Nat
  ok : Bool
  fig : Int
  grade : Nat
  st : Block

/-- Grade by the good and marginal columns for a figure that is better when small. -/
def gradeLow (fig good marginal : Int) : Nat := if fig ≤ good then 3 else if fig ≤ marginal then 2 else 1

/-- A signed value as a word. -/
def wordI (i : Int) : Nat := wrapN 32 i

/-- An ARG read as two's complement. -/
def argS (r : CalRun) (i : Nat) : Int := sext 32 (r.args.getD i 0)

namespace Block

/-- n words the spec gives no value. -/
def freeWords (s : Block) (n : Nat) : List Nat := (List.range n).map fun i => Config.free s.freeCtr / 2 ^ (32 * i) % 2 ^ 32

/-- Time since the last trigger is at least t ns (R604, "quiet"). -/
def quietFor (s : Block) (t : Nat) : Bool :=
  match s.gov.trigTimes with
  | [] => true
  | a :: _ => decide (t ≤ s.since a)

/-- No line has been triggered since LT `at_`. -/
def quietSince (s : Block) (at_ : Nat) : Bool :=
  match s.gov.trigTimes with
  | [] => true
  | a :: _ => decide (s.since at_ ≤ s.since a)

/-- An analog signal within its amplitude limits is at 50 Hz to 40 kHz (R259, R604). -/
def encSignalOk (s : Block) (e : Nat) : Bool :=
  (s.enc e).mA.isSome && decide ((s.enc e).bad < 4) &&
  let v := (s.getSI uWeb F.WEB.ENC_SPEED_UM_S e).natAbs * 1000000
  let p := s.getI uWeb F.WEB.ENC_PITCH_PM e
  decide (50 * p ≤ v) && decide (v ≤ 40000 * p) && p != 0

/-- Preconditions of a procedure with its ARGs (R604). What the integrator holds at an input is not seen. -/
def calPre (s : Block) (proc t : Nat) (args : List Nat) : Bool :=
  match proc with
  | 1 => s.portState t == 8
  | 2 => s.get uDmc F.DMC.STAT_STATE == 3
  | 3 => decide (1 ≤ s.smode t) && decide (s.smode t ≤ 4)
  | 4 => decide (1 ≤ s.smode t) && decide (s.smode t ≤ 4) && decide (100000 ≤ (sext 32 (args.getD 1 0)).natAbs)
  | 5 => s.encSignalOk t
  | 6 => s.get uClk F.CLK.PSTATE_CURRENT == 3 && s.quietFor 60000000000
  | 7 => s.quietFor 1000000 && s.on uClk F.CLK.SRC_STAT_XTAL_OK
  | 8 | 9 => s.on (uCtx t) F.CTX.SRC_EN
  | 10 => !(s.bankPending t F.CTX.GEO_CFG_GEO_BANK)
  | _ => (if t = 32 then s.overlapSet else s.on (uCtx t) F.CTX.SRC_EN) && (s.seamRight t).isSome

/-- What a procedure notes at its start so as to see a change. -/
def calMark (s : Block) (proc t : Nat) : List Nat :=
  match proc with
  | 1 => [s.getI uSerdes F.SERDES.PORT_STAT_DOWN_COUNT t]
  | 3 | 4 => [s.smode t]
  | 5 => [(s.enc t).periods.natAbs, if (s.enc t).periods < 0 then 1 else 0]
  | 8 | 9 => s.calSnap t
  | 11 => s.seamSnap t
  | _ => []

/-- A precondition has ceased to hold (R602, R605). -/
def calBroken (s : Block) (r : CalRun) : Bool :=
  r.fail ||
  match r.proc with
  | 1 | 3 | 4 => s.calMark r.proc r.target != r.snap || !(s.calPre r.proc r.target r.args)
  | 2 => false
  | 5 => !(s.encSignalOk r.target)
  | 6 => !(s.quietSince r.at_) || s.get uClk F.CLK.PSTATE_CURRENT != 3
  | 7 => !(s.quietSince r.at_) || !(s.on uClk F.CLK.SRC_STAT_XTAL_OK)
  | 8 | 9 => (s.calSnap r.target).take 5 != r.snap.take 5
  | 11 => s.seamSnap r.target != r.snap
  | _ => false

/-- Sensors that work. -/
def goodSensors (s : Block) : List Nat := (List.range 24).filter fun k => !(s.onI uThm F.THM.SENSOR_BROKEN k)

/-- Periods an encoder has passed since its procedure began. -/
def calPeriods (s : Block) (r : CalRun) : Nat :=
  let p0 : Int := (if r.snap.getD 1 0 = 1 then -1 else 1) * (r.snap.getD 0 0 : Int)
  ((s.enc r.target).periods - p0).natAbs

/-- Maximum time of a procedure in ns (R604); for those that gather lines, the part of it that no line is counted in. -/
def calLimit (s : Block) (r : CalRun) : Nat :=
  match r.proc with
  | 1 => 1000000000 | 2 => 1000000
  | 3 | 4 => r.args.getD 0 0 * ([0, 327680, 81920, 20480, 5120].getD (s.smode r.target) 0) + 10000000
  | 5 => 10000000000 | 6 => 100000000 | 7 => 10000000 | 10 => 50000000
  | _ => 60000000000

/-- The maximum time has passed; the time its lines take is not stated, so a procedure that gathers lines ends at the
command (log entry 23). -/
def calLate (s : Block) (r : CalRun) : Bool :=
  !([8, 9, 11].contains r.proc) && decide (s.calLimit r < s.since r.at_)

/-- Every reading a procedure needs has been taken. -/
def calReady (s : Block) (r : CalRun) : Bool :=
  match r.proc with
  | 1 => (s.portLanes r.target).all fun l => (r.mins.getD l (0, 0, 0, 0)).1 == 64
  | 3 | 4 | 8 | 9 | 11 => decide (r.args.getD 0 0 ≤ r.n)
  | 5 => decide (4096 ≤ r.n) && decide (16 ≤ s.calPeriods r)
  | 6 => s.goodSensors.all fun k => (r.sums.getD k (0, 0)).2 == 256
  | _ => true

/-- LANE. The figure of a port none of whose lanes has its WIDTH in range is open. -/
def calLaneOut (s : Block) (r : CalRun) : CalOut :=
  let ls := s.portLanes r.target
  let row (l : Nat) : Nat × Nat × Nat × Nat :=
    let m := r.mins.getD l (0, 0, 0, 0)
    (m.2.1, m.2.2.1, (divRound m.2.2.2 64).toNat, s.get (laneOf r.target l) F.LANE.EQ_CTLE)
  let rows := ls.map row
  let wide := rows.filter fun x => 16 ≤ x.2.1
  let fig : Int := if wide.isEmpty then (s.fresh : Int) else minI 0 (wide.map fun x => (x.1 : Int))
  let grade := if rows.all fun x => 60 ≤ x.1 && 24 ≤ x.2.1 then 3
    else if rows.all fun x => 30 ≤ x.1 && 16 ≤ x.2.1 then 2 else 1
  ⟨sumN (ls.map (2 ^ ·)) :: rows.map fun x => x.1 + x.2.1 * 2 ^ 8 + x.2.2.1 * 2 ^ 14 + x.2.2.2 * 2 ^ 22,
    rows.all fun x => x.2.2.2 ≤ 20, fig, grade, s.took⟩

/-- DRAM. -/
def calDramOut (s : Block) : CalOut :=
  let fig := minI 0 (s.cal.eyes.flatMap fun p => [(p.1 : Int), (p.2 : Int)])
  ⟨s.cal.eyes.map fun p => p.1 % 65536 + p.2 % 65536 * 65536, true, fig,
    if 40 ≤ fig then 3 else if 25 ≤ fig then 2 else 1, s⟩

/-- Mean of a SENSE procedure; of no outputs there is none. -/
def calMean (s : Block) (r : CalRun) : Int :=
  let p := r.sums.getD 0 (0, 0)
  if p.2 = 0 then sext 24 (s.fresh % 2 ^ 24) else divRound p.1 p.2

/-- SENSE_OFS. -/
def calOfsOut (s : Block) (r : CalRun) : CalOut :=
  let m := s.calMean r
  let a : Int := m.natAbs
  ⟨[wordI m, r.n, wordI m], a ≤ 65536, a, gradeLow a 16384 65536, s.took⟩

/-- SENSE_GAIN. A divisor of 0 leaves the gain open. -/
def calGainOut (s : Block) (r : CalRun) : CalOut :=
  let m := s.calMean r
  let e := divRound (argS r 1 * 2 ^ 23) 1250000
  let d := m - s.getSI uSense F.SENSE.CH_CAL_OFS_OFS r.target
  let g : Int := if d = 0 then sext 32 (s.took.fresh % 2 ^ 32)
    else if d < 0 then divRound (-(32768 * e)) d.natAbs else divRound (32768 * e) d.natAbs
  let a : Int := (g - 32768).natAbs
  ⟨[wordI m, r.n, wordI e, wordI g], decide (31130 ≤ g) && decide (g ≤ 34406), a, gradeLow a 328 1638, s.took.took⟩

/-- Largest n with sin (n · 2^-16) · d ≤ m, by halving steps from 2^k down, d > 0. -/
def asinSteps (m d : Int) : Nat → Int → Int
  | 0, n => n
  | k + 1, n =>
    let t := n + 2 ^ k
    if t ≤ 32767 ∧ sin64 (t * 2 ^ 48) * d ≤ m * 2 ^ 64 then asinSteps m d k t else asinSteps m d k n

/-- arcsin (m ÷ d) to nearest in units of 2^-16 rad, limited to 16 bits. -/
def asin16 (m d : Int) : Int :=
  let n := asinSteps m d 16 (-32768)
  if n < 32767 ∧ sin64 ((2 * n + 1) * 2 ^ 47) * d ≤ m * 2 ^ 64 then n + 1 else n

/-- The 4,096 samples of ENCODER, evenly spread over those taken (log entry 23). -/
def encSamples (r : CalRun) : List (Int × Int) :=
  let n := r.samples.length
  if n ≤ 4096 then r.samples
  else (((List.range n).zip r.samples).filter fun e =>
    decide (e.1 = 0) || e.1 * 4096 / n != (e.1 - 1) * 4096 / n).map (·.2)

/-- ENCODER. Ranges of 0 leave the ratio and the phase open. -/
def calEncOut (s : Block) (r : CalRun) : CalOut :=
  let l := encSamples r
  let ys := l.map (·.1); let xs := l.map (·.2)
  let mx := maxI 0 ys; let mn := minI 0 ys; let cx := maxI 0 xs; let cn := minI 0 xs
  let so := divRound ((mx + mn) * 163840) (2 ^ 25)
  let co := divRound ((cx + cn) * 163840) (2 ^ 25)
  let g : Int := if cx = cn then ((s.fresh % 65536 : Nat) : Int) else divRound (32768 * (mx - mn)) (cx - cn).natAbs
  let sig := l.map fun p =>
    ((p.1 * 163840 - so * 2 ^ 24) * 32768, (p.2 * 163840 - co * 2 ^ 24) * g)
  let d := sumI (sig.map fun p => p.1 * p.1)
  let ph : Int := if d = 0 then sext 16 (s.took.fresh % 65536) else asin16 (sumI (sig.map fun p => p.1 * p.2)) d
  let sp := sin64 (ph * 2 ^ 48); let cp := cos64 (ph * 2 ^ 48)
  let amps := sig.map fun p =>
    let c := (p.2 * 2 ^ 64 - p.1 * sp) / cp
    64 * (p.1 * p.1 + c * c)
  let fig := divRound (maxI 0 amps - minI 0 amps) ((16777216 * 2 ^ 30) * (16777216 * 2 ^ 30))
  let ok := decide (so.natAbs ≤ 3277) && decide (co.natAbs ≤ 3277) && decide (26214 ≤ g) && decide (g ≤ 40960) &&
    decide (ph.natAbs ≤ 6554)
  ⟨[wrapN 16 so + wrapN 16 co * 65536, wrapN 16 g + wrapN 16 ph * 65536, l.length, s.calPeriods r, wordI fig], ok, fig,
    gradeLow fig 4 12, s.took.took⟩

/-- THERMAL. -/
def calThmOut (s : Block) (r : CalRun) : CalOut :=
  let ofs (k : Nat) : Int :=
    if s.goodSensors.contains k then argS r 0 - divRound (r.sums.getD k (0, 0)).1 256
    else s.getSI uCal F.CAL.THM_OFS_OFS k
  let worst := maxI 0 (s.goodSensors.map fun k => ((ofs k).natAbs : Int))
  let broken := (List.range 24).filter fun k => !(s.goodSensors.contains k)
  let g := gradeLow worst 16 32
  ⟨r.args.getD 0 0 :: (List.range 6).map (fun w => sumN ((List.range 4).map fun i => wrapN 8 (ofs (4 * w + i)) * 2 ^ (8 * i)))
      ++ [sumN (broken.map (2 ^ ·))],
    worst ≤ 32, worst, if broken.isEmpty then g else Nat.min g 2, s⟩

/-- TEMPO. A monitor count of 0 leaves the scale open. -/
def calTempoOut (s : Block) (e : CalEnd) : CalOut :=
  let gated := (List.range 25).filter fun m => s.onI uClk F.CLK.TMON_GATED m
  let now (m : Nat) : Nat := s.getI uCal F.CAL.TMON_SCALE_SCALE m
  let scale (m : Nat) : Nat :=
    let c := e.tempo.getD m (1, 1)
    if gated.contains m then now m
    else if c.2 = 0 then Config.free (s.freeCtr + m) % 65536 else (divRound (now m * c.1 : Nat) c.2).toNat
  let fused (m : Nat) : Nat := nth s.fuses.tmonScale m 0x8000
  let live := (List.range 25).filter fun m => !(gated.contains m)
  let dev (m : Nat) : Nat := ((scale m : Int) - fused m).natAbs
  let fig := maxI 0 (live.map fun m => divRound (dev m * 1000 : Nat) (fused m))
  ⟨(List.range 13).map (fun w => scale (2 * w) % 65536 + (if w = 12 then 0 else scale (2 * w + 1) % 65536 * 65536)) ++
      [sumN (gated.map (2 ^ ·))],
    live.all fun m => dev m * 20 ≤ fused m, fig,
    if gated.isEmpty then gradeLow fig 20 50 else 2, { s with freeCtr := s.freeCtr + 25 }⟩

/-- Rounded mean of item i, if any line counted it (R605). -/
def lineMean (r : CalRun) (p c : Nat) : Option Int :=
  let a := r.sums.getD (3 * p + c) (0, 0)
  if a.2 = 0 then none else some (divRound a.1 a.2)

/-- A column counted in fewer than ARG0 ÷ 2 lines (R605). -/
def lineThin (r : CalRun) (p : Nat) : Bool := decide (2 * (r.sums.getD (3 * p) (0, 0)).2 < r.args.getD 0 0)

/-- A median, of no values a free one. -/
def medianOr (wild : Nat) (l : List Int) : Int := if l.isEmpty then ((wild % 65536 : Nat) : Int) else medianI l

/-- The tables of a context with a correction bank written whole. -/
def putBank (s : Block) (x bank : Nat) (l : List Nat) : Block :=
  let inside (a : UnitId × Nat) : Bool :=
    a.1 == uCtx x && decide (corrAddr bank 0 ≤ a.2) && decide (a.2 < corrAddr bank 0 + l.length)
  (s.setCtx x fun c => { c with tbl := storePut (fun _ => 0) c.tbl (corrAddr bank 0) l }).sramFresh inside

/-- A correction bank whose contents are undefined (R603). -/
def wildBank (s : Block) (x bank : Nat) : Block :=
  { s.putBank x bank ((List.range 49152).map fun i => Config.free (s.freeCtr + i) % 2 ^ 32) with
    freeCtr := s.freeCtr + 49152 }

/-- BLACK: the words of the bank it builds and its outcome (R606). -/
def calBlackOut (s : Block) (r : CalRun) : CalOut :=
  let x := r.target
  let n := s.ctxComps x
  let cols := s.get (uCtx x) F.CTX.SPAN_COL_COUNT
  let bank := s.get (uCtx x) F.CTX.TABLE_BANK
  let old := storeReadN (fun _ => 0) (s.ctx x).tbl (corrAddr bank 0) 49152
  let cs := List.range n
  let med := cs.map fun c => medianOr (Config.free (s.freeCtr + c)) ((List.range cols).filterMap fun p => lineMean r p c)
  let lim : Int := if r.args.getD 1 0 = 0 then 1024 else (r.args.getD 1 0 : Int)
  let hot (p : Nat) : Bool := lineThin r p || cs.any fun c => match lineMean r p c with
    | some m => decide (med.getD c 0 + lim < m)
    | none => false
  let hots := (List.range cols).map hot
  let black (p c : Nat) : Nat := match lineMean r p c with
    | some m => (clampI 0 4095 (divRound m 16)).toNat
    | none => Config.free (s.freeCtr + 3 + 3 * p + c) % 4096
  let words := ((List.range 49152).zip old).map fun e =>
    let p := e.1 / n; let c := e.1 % n
    if p < cols then black p c + bits e.2 27 12 * 2 ^ 12 + b2n (hots.getD p false) * 2 ^ 28 else e.2
  let k := (hots.filter id).length
  let fig := divRound (k * 4096 : Nat) cols
  let s' : Block := { s.putBank x (1 - bank) words with freeCtr := s.freeCtr + 3 + 3 * cols }
  ⟨[r.n, k] ++ (List.range 3).map (fun c => wordI (med.getD c 0)) ++ [49152, crc32 (words.flatMap (le 4))],
    decide (k * 4096 ≤ 41 * cols), fig, gradeLow fig 4 41, s'⟩

/-- FLAT (R607). -/
def calFlatOut (s : Block) (r : CalRun) : CalOut :=
  let x := r.target
  let n := s.ctxComps x
  let cols := s.get (uCtx x) F.CTX.SPAN_COL_COUNT
  let bank := 1 - s.get (uCtx x) F.CTX.TABLE_BANK
  let tbl := storeReadN (fun _ => 0) (s.ctx x).tbl (corrAddr bank 0) (cols * n)
  let cs := List.range n
  let ps := List.range cols
  let fs := ps.map fun p => cs.map fun c => (lineMean r p c).map fun m =>
    m - 16 * (bits (tbl.getD (p * n + c) 0) 11 0 : Int) - s.getS (uCtx x) F.CTX.BLACK_OFS
  let f (p c : Nat) : Option Int := (fs.getD p []).getD c none
  let bad0 := ps.map fun p => lineThin r p || cs.any fun c =>
    bits (tbl.getD (p * n + c) 0) 31 28 == 1 || (match f p c with
      | some v => decide (v ≤ 0)
      | none => true)
  let arg1 : Int := if r.args.getD 1 0 = 0 then 26 else (r.args.getD 1 0 : Int)
  let local_ (p c : Nat) : Int := medianI ((List.range 65).filterMap fun i =>
    let q := p + i
    if 32 ≤ q ∧ q - 32 < cols ∧ bad0.getD (q - 32) true = false then f (q - 32) c else none)
  let ms := ps.map fun p => cs.map fun c => if bad0.getD p true then 0 else local_ p c
  let m (p c : Nat) : Int := (ms.getD p []).getD c 0
  let bad := ps.map fun p => bad0.getD p true || cs.any fun c =>
    match f p c with
    | some v => decide (m p c * arg1 < ((v - m p c).natAbs : Int) * 256)
    | none => true
  let good := ps.filter fun p => !(bad.getD p true)
  let t := cs.map fun c => if r.args.getD 2 0 ≠ 0 then (r.args.getD 2 0 : Int)
    else medianOr (Config.free (s.freeCtr + c)) (good.filterMap fun p => f p c)
  let own (p c : Nat) : Int := match f p c with
    | some v => clampI 1 65535 (divRound (t.getD c 0 * 16384) v.toNat)
    | none => 0x4000
  let gain (p c : Nat) : Int :=
    if bad.getD p true then
      match (good.filter (· < p)).getLast?, good.find? (p < ·) with
      | some a, some b => (own a c + own b c + 1) / 2
      | some a, none => own a c
      | none, some b => own b c
      | none, none => 0x4000
    else own p c
  let words := (List.range (cols * n)).map fun i =>
    let w := tbl.getD i 0
    bits w 11 0 + (gain (i / n) (i % n)).toNat * 2 ^ 12 +
      (if bad.getD (i / n) true then 1 else bits w 31 28) * 2 ^ 28
  let k := cols - good.length
  let ratio := good.flatMap fun p => cs.map fun c => match f p c with
    | some v => if m p c = 0 then 0 else v * 2 ^ 32 / m p c
    | none => 0
  let cnt := ratio.length
  let var : Nat := if cnt = 0 then 0
    else ((cnt : Int) * sumI (ratio.map fun v => v * v) - sumI ratio * sumI ratio).toNat / (cnt * cnt)
  let prnu := divRound (isqrtFrom var 80 0 * 10000 : Nat) (2 ^ 32)
  let med := medianOr (Config.free (s.freeCtr + 3)) (ps.flatMap fun p => cs.map fun c => gain p c)
  let lim := if r.args.getD 3 0 = 0 then 41 else r.args.getD 3 0
  let tail := storeReadN (fun _ => 0) (s.ctx x).tbl (corrAddr bank (cols * n)) (49152 - cols * n)
  let s' : Block := { s.putBank x bank (words ++ tail) with freeCtr := s.freeCtr + 4 }
  ⟨[r.n, k] ++ (List.range 3).map (fun c => wordI (t.getD c 0)) ++
      [wordI med, wordI prnu, words.length, crc32 (words.flatMap (le 4))],
    decide (k * 4096 ≤ lim * cols) && decide (8192 ≤ med) && decide (med ≤ 32768), prnu, gradeLow prnu 200 500, s'⟩

/-- Offsets of the first and last tap of a kernel at a phase (R303); the reserved kernel has none stated. -/
def tapEnds (kernel phi : Nat) : Int × Int :=
  match kernel with
  | 0 => (-2, 3) | 1 => (0, 1) | _ => if phi < 32 then (0, 0) else (1, 1)

/-- GEOM (R609). -/
def calGeomOut (s : Block) (r : CalRun) : CalOut :=
  let x := r.target
  let bank := 1 - s.get (uCtx x) F.CTX.GEO_CFG_GEO_BANK
  let n := Nat.min (r.args.getD 6 0) 24576
  let uv := (List.range n).map fun (i : Nat) =>
    let q : Int := (i : Int)
    (rshr (argS r 0 * 2 ^ 46 + argS r 1 * q * 2 ^ 32 + argS r 2 * q * q * 2 ^ 16 + argS r 3 * q * q * q) 46,
      rshr (argS r 4 * 2 ^ 16 + argS r 5 * q) 16)
  let lim := uv.map fun p => (clampI 0 0xFFFFFF p.1, clampI 0 255 p.2)
  let words := lim.map fun p => p.1.toNat + p.2.toNat * 2 ^ 24
  let last : Int := (s.get (uCtx x) F.CTX.SPAN_COL_COUNT : Int) - 1
  let kept := (lim.drop (bits (r.args.getD 7 0) 14 0)).take (bits (r.args.getD 7 0) 30 16)
  let margins := kept.flatMap fun p =>
    let (a, b) := tapEnds (s.get (uCtx x) F.CTX.GEO_CFG_KERNEL) (p.1.toNat / 16 % 64)
    [p.1 / 1024 + a, last - (p.1 / 1024 + b)]
  let open_ := kept.isEmpty || s.get (uCtx x) F.CTX.GEO_CFG_KERNEL == 3
  let margin : Int := if open_ then sext 32 (s.fresh % 2 ^ 32) else minI 0 margins
  let tbl := storePut (fun _ => 0) (s.ctx x).tbl (geoAddr bank 0) words
  ⟨r.args.take 10 ++ List.replicate (10 - r.args.length) 0 ++ [wordI margin, crc32 (words.flatMap (le 4))],
    decide (0 ≤ margin) && uv == lim, margin, if 8 ≤ margin then 3 else if 0 ≤ margin then 2 else 1,
    (s.took.setCtx x fun c => { c with tbl := tbl })⟩

/-- SEAM. Lines without a column that counts have no mean; the figure of R317 is then 0. -/
def calSeamOut (s : Block) (r : CalRun) (e : CalEnd) : CalOut :=
  let d := r.sums.getD 0 (0, 0); let a := r.sums.getD 1 (0, 0)
  let md := if d.2 = 0 then 0 else divRound d.1 d.2
  let ma := if a.2 = 0 then 0 else divRound a.1 a.2
  ⟨[r.n, wrapN 16 md + wrapN 16 ma * 65536, wrapN 16 e.dx + wrapN 16 e.dy * 65536, wordI e.peak],
    decide (3 * 32768 ≤ e.peak * 10), ma, gradeLow ma 20 60, s⟩

/-- The outcome of the procedure that runs. -/
def calOut (s : Block) (r : CalRun) (e : CalEnd) : CalOut :=
  match r.proc with
  | 1 => s.calLaneOut r | 2 => s.calDramOut | 3 => s.calOfsOut r | 4 => s.calGainOut r | 5 => s.calEncOut r
  | 6 => s.calThmOut r | 7 => s.calTempoOut e | 8 => s.calBlackOut r | 9 => s.calFlatOut r | 10 => s.calGeomOut r
  | _ => s.calSeamOut r e

/-- Calibration words of an encoder. -/
def encCal (s : Block) (e w0 w1 : Nat) : Block :=
  (((s.setI uWeb F.WEB.ENC_CAL0_SIN_OFS e (bits w0 15 0)).setI uWeb F.WEB.ENC_CAL0_COS_OFS e (bits w0 31 16)).setI
    uWeb F.WEB.ENC_CAL1_COS_GAIN e (bits w1 15 0)).setI uWeb F.WEB.ENC_CAL1_PHASE e (bits w1 31 16)

/-- The encoder that is the web source in force. -/
def sourceEnc (s : Block) : Option Nat := if s.web.src < 4 then some (srcEnc s.web.src).1 else none

/-- Starting CTLE of the lanes a LANE record names: word 0 has a bit for each (log entry 23). -/
def ctleSet (s : Block) (p : Nat) (ws : List Nat) (on : Bool) : Block :=
  let l := ((onesBelow 4 (ws.getD 0 0)).zip (ws.drop 1)).map fun e => ((laneOf p e.1).inst, bits e.2 26 22, on)
  { s with cal := { s.cal with ctle := l.foldl (fun m e => (m.filter (·.1 != e.1)) ++ [e]) s.cal.ctle } }

/-- Values of a payload applied (R604, R610, R615). `boot`: from the journal. -/
def calApply (s : Block) (proc t : Nat) (ws : List Nat) (boot : Bool) : Block :=
  match proc with
  | 1 => s.ctleSet t ws boot
  | 3 => s.setI uSense F.SENSE.CH_CAL_OFS_OFS t (ws.getD 2 0 % 2 ^ 24)
  | 4 => s.setI uSense F.SENSE.CH_CAL_GAIN_GAIN t (ws.getD 3 0 % 65536)
  | 5 =>
    if boot || s.sourceEnc != some t then s.encCal t (ws.getD 0 0) (ws.getD 1 0)
    else { s with cal := { s.cal with encNew := bindK t (ws.getD 0 0, ws.getD 1 0) s.cal.encNew } }
  | 6 => (List.range 24).foldl (fun s k =>
      s.setI uCal F.CAL.THM_OFS_OFS k (ws.getD (1 + k / 4) 0 / 2 ^ (8 * (k % 4)) % 256)) s
  | 7 => (List.range 25).foldl (fun s m =>
      s.setI uCal F.CAL.TMON_SCALE_SCALE m (ws.getD (m / 2) 0 / 2 ^ (16 * (m % 2)) % 65536)) s
  | _ => s

/-- Encoder values take effect at the update that decides the first line of a page (R610). -/
def encCalPage (s : Block) : Block :=
  (s.cal.encNew.foldl (fun s e => s.encCal e.1 e.2.1 e.2.2) s |> fun s => { s with cal := { s.cal with encNew := [] } })

end Block
end Sys2Proof.Machine
end

