-- ==== Sys2Proof/Machine/Cal.lean ====
section
/-! DEFINITION. Calibration requests, their completion, and the journal (R601-R618). -/

namespace Sys2Proof.Machine

/-- First flash address of a journal bank (R62). -/
def journalBase (bank : Nat) : Nat := 0x3000000 + bank * 0x400000

/-- Flash address of a record slot (R611). -/
def journalSlot (bank i : Nat) : Nat := journalBase bank + 0x1000 + 512 * i

/-- A record as its 512 bytes (R612). -/
def recordBytes (proc target flags grade seq seconds : Nat) (words : List Nat) : List Nat :=
  let p := words.flatMap (le 4)
  let b := [0xA5, proc, target, flags, grade, 0] ++ le 2 p.length ++ le 4 seq ++ le 6 seconds ++ [0, 0] ++ p ++
    List.replicate (488 - p.length) 0xFF
  b ++ le 4 (crc32 b)

/-- A record slot is valid (R612). -/
def slotValid (b : List Nat) : Bool := b.getD 0 0 == 0xA5 && leAt b 0x1FC 4 == crc32 (b.take 0x1FC)

/-- A journal header (R611). -/
def journalHeader (gen : Nat) : List Nat :=
  let b := [0x4B, 0x43, 0x4A, 0x4C] ++ le 2 1 ++ le 2 0 ++ le 4 gen ++ le 4 8184 ++ List.replicate 44 0
  b ++ le 4 (crc32 b)

/-- Whether 64 bytes are a valid header: MAGIC, FORMAT and CHECK. -/
def headerValid (b : List Nat) : Bool :=
  b.take 4 == [0x4B, 0x43, 0x4A, 0x4C] && leAt b 4 2 == 1 && leAt b 0x3C 4 == crc32 (b.take 0x3C)

/-- Items of a list without repeats, in order. -/
def dedup : List Nat → List Nat
  | [] => []
  | a :: r => a :: (dedup r).filter (· != a)

namespace Block

/-- Bytes of flash; an unlisted one reads erased. -/
def flashRead (s : Block) (a n : Nat) : List Nat :=
  cellsRead 0xFF (s.flash.filter fun e => decide (a ≤ e.1) && decide (e.1 < a + n)) a n

/-- Bytes put into flash. -/
def flashWrite (s : Block) (a : Nat) (l : List Nat) : Block :=
  { s with flash := cellsPut 0xFF s.flash a l }

/-- Slots of a bank that are not erased, ascending (R612): a listed byte is not erased. -/
def usedSlots (s : Block) (bank : Nat) : List Nat :=
  let l := s.flash.filter fun e => decide (journalSlot bank 0 ≤ e.1) && decide (e.1 < journalSlot bank 8184)
  dedup (l.map fun e => (e.1 - journalSlot bank 0) / 512)

/-- Bytes of a slot. -/
def slotBytes (s : Block) (bank i : Nat) : List Nat := s.flashRead (journalSlot bank i) 512

/-- Quality figure of a record read at boot; that of BLACK needs the span of its run, which no record holds. -/
def recFig (s : Block) (proc : Nat) (w : List Nat) : Int :=
  let sw (i : Nat) : Int := sext 32 (w.getD i 0)
  match proc with
  | 1 =>
    let wide := (w.drop 1).filter fun x => 16 ≤ bits x 13 8
    if wide.isEmpty then (s.fresh : Int) else minI 0 (wide.map fun x => ((bits x 7 0 : Nat) : Int))
  | 2 => minI 0 (w.flatMap fun x => [((x % 65536 : Nat) : Int), ((x / 65536 : Nat) : Int)])
  | 3 => (sw 2).natAbs
  | 4 => (sw 3 - 32768).natAbs
  | 5 => sw 4
  | 6 => maxI 0 (((List.range 24).filter fun k => !(bit (w.getD 7 0) k)).map fun k =>
      ((sext 8 (w.getD (1 + k / 4) 0 / 2 ^ (8 * (k % 4)) % 256)).natAbs : Int))
  | 7 => maxI 0 (((List.range 25).filter fun m => !(bit (w.getD 13 0) m)).map fun m =>
      let f := nth s.fuses.tmonScale m 0x8000
      divRound ((((w.getD (m / 2) 0 / 2 ^ (16 * (m % 2)) % 65536 : Nat) : Int) - f).natAbs * 1000 : Nat) f)
  | 8 => (s.fresh : Int)
  | 9 => sw 6
  | 10 => sw 10
  | _ => ((w.getD 1 0 / 65536 : Nat) : Int)

/-- The index with a newer record of its pair (R615). -/
def indexPut (s : Block) (r : CalRec) : Block :=
  let l := s.cal.index.filter fun x => !(x.proc == r.proc && x.target == r.target)
  { s with cal := { s.cal with index := l ++ [r] } }

/-- A slot's record. -/
def recOf (s : Block) (b : List Nat) : CalRec :=
  let w := (List.range (leAt b 6 2 / 4)).map fun i => leAt b (0x14 + 4 * i) 4
  let proc := b.getD 1 0
  ⟨proc, b.getD 2 0, leAt b 8 4, b.getD 3 0, b.getD 4 0, w, s.recFig proc w⟩

/-- JOURNAL.USED and JSTATE once the append point has moved. -/
def journalState (s : Block) : Block :=
  if 8184 ≤ s.cal.append then s.set uCal F.CAL.STAT_JSTATE 3 else s

/-- A record written at the append point, the first `bad` attempts failing (R613, R614): the state, and whether it
was written. -/
def journalWrite (s : Block) (bytes : List Nat) : Nat → Nat → Bool × Block
  | _, 0 => (false, s)
  | bad, tries + 1 =>
    let a := s.cal.append
    if 8184 ≤ a then (false, s.set uCal F.CAL.FLAGS_FULL 1)
    else
      let s : Block := { s with cal := { s.cal with append := a + 1 } }
      let s := s.addI uCal F.CAL.JOURNAL_USED 0 1
      let at_ := journalSlot (s.get uCal F.CAL.STAT_BANK) a
      match bad with
      | 0 => (true, (s.flashWrite at_ bytes).journalState)
      | b + 1 =>
        let wild := (s.fresh % 0xA5) :: (le 511 s.took.fresh)
        let s := (s.took.took.flashWrite at_ wild).addI uCal F.CAL.JOURNAL_DAMAGED 0 1
        ((s.set uCal F.CAL.FLAGS_DAMAGED 1).journalState).journalWrite bytes b tries

/-- A record stored: written, or held during compaction (R613-R616). The result says whether it is kept. -/
def journalStore (s : Block) (proc target flags grade : Nat) (words : List Nat) (fig : Int) (bad : Nat) : Bool × Block :=
  let st := s.get uCal F.CAL.STAT_JSTATE
  if st = 0 then (false, s)
  else
    let q := s.cal.seq
    let b := recordBytes proc target flags grade q (s.devClock / 10 ^ 9) words
    let next : Block := { s with cal := { s.cal with seq := (q + 1) % 2 ^ 32 } }
    let next := next.indexPut ⟨proc, target, q, flags, grade, words, fig⟩
    if st = 2 then
      if s.cal.held.length < 8 then (true, { next with cal := { next.cal with held := next.cal.held ++ [b] } })
      else (false, s.set uCal F.CAL.FLAGS_FULL 1)
    else
      match next.journalWrite b bad 2 with
      | (true, t) => (true, t)
      | (false, _) => s.journalWrite b bad 2

/-! ## Requests -/

/-- Procedures whose values are applied to registers or lanes (R604); the records of the others never have APPLIED. -/
def appliesValues (proc : Nat) : Bool := [1, 3, 4, 5, 6, 7].contains proc

/-- Registers of a procedure that ended. -/
def calLast (s : Block) (proc target result grade : Nat) : Block :=
  (((s.set uCal F.CAL.LAST_PROC proc).set uCal F.CAL.LAST_TARGET target).set uCal F.CAL.LAST_RESULT result).set
    uCal F.CAL.LAST_GRADE grade

/-- CAL_RUN for procedure `proc` (R601, R604): answered at once when it may not run. A PROC of no procedure is not
permitted (log entry 23). -/
def calRequest (s : Block) (proc : Nat) (m : Msg) : Block :=
  let w := m.words.getD 0 0
  let p := bits w 7 0
  let t := bits w 15 8
  if p ≠ proc ∧ 1 ≤ p ∧ p ≤ 11 then s
  else
    let s := s.serve 0x33 m.tag
    if !(lenOk 0x33 (4 * m.words.length) m.words) then s.reply 0x33 m.tag 6 0 []
    else if s.longRunning then s.reply 0x33 m.tag 1 0 []
    else if p ≠ proc ∨ calTargets p ≤ t then s.reply 0x33 m.tag 5 0 []
    else if !(s.calPre p t (m.words.drop 1)) then
      let ws := s.freeWords (calWords p (s.portLanes t).length)
      let s := s.took.calLast p t 10 0
      let s := if bit w 16 then (s.took.journalStore p t 0 0 ws (s.fresh : Int) 0).2 else s
      s.reply 0x33 m.tag 10 1 ws
    else
      let r : CalRun := ⟨p, t, bit w 16, bit w 17, m.words.drop 1, m.tag, s.lt, false, s.calMark p t, none, 0,
        List.replicate (if p = 8 ∨ p = 9 then 3 * s.get (uCtx t) F.CTX.SPAN_COL_COUNT else 24) (0, 0),
        List.replicate 4 (0, 255, 63, 0), []⟩
      let s : Block := { s with cal := { s.cal with run := some r } }
      ((s.set uCal F.CAL.STAT_RUN 1).set uCal F.CAL.STAT_PROC p).defer 0x33 m none 0

/-- A procedure ends: record, LAST, reply (R602, R612, R614). -/
def calEnd (s : Block) (r : CalRun) (result detail grade : Nat) (applied : Bool) (words : List Nat) (fig : Int)
    (bad : Nat) : Block :=
  let s : Block := { s with cal := { s.cal with run := none } }
  let s := (s.set uCal F.CAL.STAT_RUN 0).calLast r.proc r.target result grade
  let (kept, s) := if r.store then
      s.journalStore r.proc r.target (b2n (result == 0) + 2 * b2n (applied && appliesValues r.proc)) grade words fig bad
    else (true, s)
  let detail := if result = 0 && !kept then 1 else detail
  match s.findDeferred 0x33 r.tag with
  | some d => s.replyDeferred d result grade detail words
  | none => s

/-- The inactive bank of BLACK and FLAT is left undefined (R603). -/
def calSpoil (s : Block) (r : CalRun) : Block :=
  if r.proc = 8 ∨ r.proc = 9 then s.wildBank r.target (1 - s.get (uCtx r.target) F.CTX.TABLE_BANK) else s

/-- An end without a measurement: what the payload would carry is not stated. -/
def calFailed (s : Block) (r : CalRun) (detail : Nat) (bad : Nat) : Block :=
  let ws := s.freeWords (calWords r.proc (s.portLanes r.target).length)
  (s.took.calSpoil r).calEnd r 10 detail 0 false ws 0 bad

/-- A table write of the procedure would be discarded (R286, R302, R608). -/
def calRefused (s : Block) (r : CalRun) : Bool :=
  if r.proc = 8 ∨ r.proc = 9 then s.bankPending r.target F.CTX.TABLE_BANK
  else if r.proc = 10 then s.bankPending r.target F.CTX.GEO_CFG_GEO_BANK
  else false

/-- CAL_DONE (R602, R603, R608): the procedure has all it needs, or a precondition has gone. -/
def calDone (s : Block) (e : CalEnd) : Block :=
  match s.cal.run with
  | none => s
  | some r =>
    if s.calBroken r then s.calFailed r 3 e.badWrites
    else if s.calLate r then s.calFailed r 2 e.badWrites
    else if !(s.calReady r) then s
    else
      let o := s.calOut r e
      if s.calRefused r then
        let u := uCtx r.target
        let s : Block := if r.proc = 10 then (s.flag u F.CTX.GC_FLAGS_REFUSED).logBy .core0 u 9 2 (regAddress u 0x814) 0 (o.words.getLastD 0)
          else (s.flag u F.CTX.FLAGS_TBL_REFUSED).logBy .core0 u 9 2 (regAddress u 0x1B4) 0 (o.words.getLastD 0)
        (s.calSpoil r).calEnd r 3 0 0 false o.words o.fig e.badWrites
      else if !o.ok then
        ((o.st.set uCal F.CAL.FLAGS_FAIL 1).calSpoil r).calEnd r 10 4 1 false o.words o.fig e.badWrites
      else
        let s : Block := if r.apply then o.st.calApply r.proc r.target o.words false else o.st
        s.calEnd r 0 0 o.grade r.apply o.words o.fig e.badWrites

/-- CAL_TIMEOUT (R602): the procedure has had its maximum time. -/
def calTimeout (s : Block) (bad : Nat) : Block :=
  match s.cal.run with
  | none => s
  | some r => if s.since r.at_ < s.calLimit r then s else s.calFailed r (if s.calBroken r then 3 else 2) bad

/-! ## The journal at boot (R615-R617) -/

/-- The active bank (R611): of two valid headers the one whose GEN is greater. -/
def activeBank (s : Block) : Option (Nat × Nat) :=
  let h (b : Nat) : Option Nat :=
    let l := s.flashRead (journalBase b) 64
    if headerValid l then some (leAt l 8 4) else none
  match h 0, h 1 with
  | none, none => none
  | some g, none => some (0, g)
  | none, some g => some (1, g)
  | some g, some k => if (k + 2 ^ 32 - g) % 2 ^ 32 = 0 ∨ 2 ^ 31 ≤ (k + 2 ^ 32 - g) % 2 ^ 32 then some (0, g) else some (1, k)

/-- No byte of either bank differs from erased. -/
def journalErased (s : Block) : Bool :=
  s.flash.all fun e => !(decide (journalBase 0 ≤ e.1) && decide (e.1 < journalBase 2))

/-- The newest record of each procedure and target, by SEQ (R615). -/
def newestRecs (l : List CalRec) : List CalRec :=
  l.foldl (fun m r =>
    let same (x : CalRec) : Bool := x.proc == r.proc && x.target == r.target
    if m.any fun x => same x && seqAfter x.seq r.seq then m else m.filter (fun x => !(same x)) ++ [r]) []

/-- Slots in ascending SEQ, those of equal SEQ as they stand. -/
def bySeq (l : List (List Nat)) : List (List Nat) :=
  l.foldl (fun m b => m.takeWhile (fun c => !(seqAfter (leAt c 8 4) (leAt b 8 4))) ++ b ::
    m.dropWhile (fun c => !(seqAfter (leAt c 8 4) (leAt b 8 4)))) []

/-- The index over the active bank, its values applied, and compaction begun when it is due (R615, R616). -/
def journalLoad (s : Block) (bank gen : Nat) : Block :=
  let used := s.usedSlots bank
  let recs := (used.map (s.slotBytes bank)).filter slotValid
  let s := (s.set uCal F.CAL.STAT_BANK bank).set uCal F.CAL.GEN_GEN gen
  let s := (s.set uCal F.CAL.JOURNAL_USED used.length).set uCal F.CAL.JOURNAL_DAMAGED (used.length - recs.length)
  let rs := ((List.range recs.length).zip recs).map fun e => ({ s with freeCtr := s.freeCtr + e.1 } : Block).recOf e.2
  let s : Block := { s with freeCtr := s.freeCtr + recs.length, cal := { s.cal with index := newestRecs rs } }
  let vals := newestRecs (rs.filter fun r => bits r.flags 1 0 == 3 && appliesValues r.proc)
  let s := vals.foldl (fun (s : Block) r => s.calApply r.proc r.target r.payload true) s
  let append := (used.getLast?.map (· + 1)).getD 0
  let seq := (((bySeq recs).getLast?).map fun b => (leAt b 8 4 + 1) % 2 ^ 32).getD 0
  let s : Block := { s with cal := { s.cal with append := append, seq := seq } }
  if s.get uCal F.CAL.CFG_COMPACT_PCT * 8184 ≤ used.length * 100 ∨ 8184 ≤ append then s.set uCal F.CAL.STAT_JSTATE 2
  else s.set uCal F.CAL.STAT_JSTATE 1

/-- The journal is read in boot step 12 (R615). `flashOk`: no flash error while reading. -/
def journalRead (s : Block) (flashOk : Bool) : Block :=
  let broken : Block := (s.set uCal F.CAL.STAT_JSTATE 0).unitFail F.SYS.UNIT_FAIL_CAL 0
  if !flashOk then broken
  else match s.activeBank with
    | some (b, g) => s.journalLoad b g
    | none => if s.journalErased then (s.flashWrite (journalBase 0) (journalHeader 1)).journalLoad 0 1 else broken

/-- The records compaction copies, ascending SEQ (R616): of each pair the newest with PASS and APPLIED, and the newest
of any kind when that is newer. -/
def compactRecords (s : Block) (bank : Nat) : List (List Nat) :=
  let recs := ((s.usedSlots bank).map (s.slotBytes bank)).filter slotValid
  let pair (b : List Nat) : Nat := b.getD 1 0 * 256 + b.getD 2 0
  let later (p : List Nat → Bool) (b : List Nat) : Bool :=
    recs.any fun c => pair c == pair b && p c && seqAfter (leAt c 8 4) (leAt b 8 4)
  bySeq <| recs.filter fun b => !(later (fun _ => true) b) || (bits (b.getD 3 0) 1 0 == 3 && !(later (fun c => bits (c.getD 3 0) 1 0 == 3) b))

/-- JOURNAL_COMPACT (R616): the other bank takes the selected records and a header one generation on, then the records
held meanwhile. -/
def journalCompact (s : Block) : Block :=
  if s.get uCal F.CAL.STAT_JSTATE ≠ 2 then s
  else
    let old := s.get uCal F.CAL.STAT_BANK
    let bank := 1 - old
    let l := s.compactRecords old
    let s : Block := { s with flash := s.flash.filter fun e =>
      !(decide (journalBase bank ≤ e.1) && decide (e.1 < journalBase bank + 0x400000)) }
    let gen := (s.get uCal F.CAL.GEN_GEN + 1) % 2 ^ 32
    let all := l ++ s.cal.held
    let s := ((List.range all.length).zip all).foldl (fun s e => s.flashWrite (journalSlot bank e.1) e.2) s
    let s := s.flashWrite (journalBase bank) (journalHeader gen)
    let s : Block := { s with cal := { s.cal with held := [], append := all.length } }
    let s := ((s.set uCal F.CAL.STAT_BANK bank).set uCal F.CAL.GEN_GEN gen).set uCal F.CAL.FLAGS_COMPACTED 1
    let s := (s.set uCal F.CAL.JOURNAL_USED all.length).set uCal F.CAL.JOURNAL_DAMAGED 0
    (s.set uCal F.CAL.STAT_JSTATE 1).journalState

/-- The narrowest eyes of a training or retraining. -/
def eyesSet (s : Block) (eyes : List (Nat × (Nat × Nat))) : Block :=
  { s with cal := { s.cal with eyes := eyes.foldl (fun l e => upd l e.1 fun _ => e.2) s.cal.eyes } }

/-- The DRAM record of boot (R617). -/
def bootDramRecord (s : Block) : Block :=
  let o := s.calDramOut
  let far (a b : Nat) : Bool := decide (5 ≤ ((a : Int) - b).natAbs)
  let due := match s.cal.index.find? fun r => r.proc == 2 with
    | none => true
    | some r => ((List.range 16).zip s.cal.eyes).any fun p =>
        let w := r.payload.getD p.1 0
        far (w % 65536) p.2.1 || far (w / 65536) p.2.2
  if due then (s.journalStore 2 0 5 o.grade o.words o.fig 0).2 else s

/-! ## Q_SEL (R618) -/

/-- A write of `CAL.Q_SEL` by a master. -/
def calSelect (s : Block) (m : Master) (v : Nat) : Block :=
  { s with cal := { s.cal with sel := s.cal.sel.set m (v % 65536) } }

/-- The record of the pair a master has selected. -/
def calSel (s : Block) (m : Master) : Option CalRec :=
  let v := s.cal.sel.get m
  s.cal.index.find? fun r => r.proc == v % 256 && r.target == v / 256

end Block
end Sys2Proof.Machine
end

