-- ==== Sys2Proof/Machine/Time.lean ====
section
/-! DEFINITION. Domains, trackers, the time state machine, PTP on camera ports, transmit timestamp
queues (R206-R222, R229). The trackers' filter and servo laws are not given: their results come with
the commands; log entry 20. -/

namespace Sys2Proof.Machine

/-- Lexicographic order of data sets: less is better (IEEE 1588-2019 clause 9.3, R206). -/
def lexLess : List Nat → List Nat → Bool
  | a :: r, b :: t => a < b || (a == b && lexLess r t)
  | _, _ => false

/-- Whether a is the better master by the data set comparison algorithm. -/
def MasterInfo.better (a b : MasterInfo) : Bool :=
  if a.gmId = b.gmId then lexLess [a.steps, a.sender] [b.steps, b.sender]
  else lexLess [a.priority1, a.clockClass, a.accuracy, a.variance, a.priority2, a.gmId]
    [b.priority1, b.clockClass, b.accuracy, b.variance, b.priority2, b.gmId]

/-- 2^i seconds in nanoseconds. -/
def logSeconds (i : Int) : Nat :=
  if 0 ≤ i then 10 ^ 9 * 2 ^ i.toNat else 10 ^ 9 / 2 ^ (-i).toNat

namespace Block

/-- Tracker d. -/
def tracker (s : Block) (d : Nat) : Tracker := if d = 0 then s.time.trackA else s.time.trackB

/-- The state with tracker d replaced. -/
def setTracker (s : Block) (d : Nat) (t : Tracker) : Block :=
  if d = 0 then { s with time := { s.time with trackA := t } }
  else { s with time := { s.time with trackB := t } }

/-- USABLE bit of a domain. -/
def usableField (d : Nat) : Field := if d = 0 then F.TIME.STATE_USABLE_A else F.TIME.STATE_USABLE_B

/-- The domain is usable. -/
def usable (s : Block) (d : Nat) : Bool := s.on uTime (usableField d)

/-- The selected domain, 0 A or 1 B. -/
def selected (s : Block) : Nat := s.get uTime F.TIME.STATE_SEL

/-- LOCK_NS in nanoseconds. -/
def lockNs (s : Block) : Nat := 4 * s.get uTime F.TIME.SERVO_CFG_LOCK_NS

/-- Control core 2 runs the trackers (R213). -/
def servoRuns (s : Block) : Bool := nth s.boot.cores 2 false

/-- The conditions of R207. -/
def usableNow (s : Block) (d : Nat) : Bool :=
  let t := s.tracker d
  t.master.isSome && !t.gap && t.lastSync.isSome && decide ((t.followed.filter (!·)).length ≤ 1) &&
    (match t.reqsSince with | some n => decide (n ≤ 16) | none => false) && decide (16 ≤ t.steady)

/-- USABLE recomputed; the time since when it holds is kept. -/
def usableUpdate (s : Block) (d : Nat) : Block :=
  let now := s.usableNow d
  let t := s.tracker d
  let s := s.setTracker d { t with
    usableSince := if now then some (t.usableSince.getD s.lt) else none }
  s.set uTime (usableField d) (b2n now)

/-- Switch slew in units of RATE.ADJ: SLEW times 0.1 ppm, rounded to nearest (R211). -/
def slewAdj (s : Block) : Int := divRound (s.get uTime F.TIME.SERVO_CFG_SLEW * 2 ^ 36 : Nat) (10 ^ 7)

/-- Tracker rate of a domain. -/
def trackRate (s : Block) (d : Nat) : Int := s.getSI uTime F.TIME.TRACK_RATE_ADJ d

/-- The disagreement with domain d slewed out (R211). -/
def startSlew (s : Block) (d : Nat) : Block :=
  let o := (s.tracker d).ofs
  let s := (s.set uTime F.TIME.STATE_SLEWING 1).putS uTime F.TIME.RATE_ADJ
    (clampS 32 (if 0 ≤ o then s.trackRate d + s.slewAdj else s.trackRate d - s.slewAdj))
  { s with time := { s.time with slew := some (s.lt, o) } }

/-- A switch to domain d (R211); refused when the disagreement is too large. -/
def switchTo (s : Block) (d : Nat) : Block :=
  if s.get uTime F.TIME.SERVO_CFG_SWITCH_MAX_US * 1000 < (s.tracker d).ofs.natAbs then
    s.set uTime F.TIME.FLAGS_DISAGREE 1
  else
    let s := (s.startSlew d).set uTime F.TIME.STATE_SEL d
    ((s.set uTime F.TIME.FLAGS_SWITCH 1).raise 12).anchor false true

/-- FREE entered (R208): the rate keeps its value. FLAGS.FREE tells of an entry from HOLDOVER or ACQUIRE (R229). -/
def timeFree (s : Block) : Block :=
  let locked := s.get uTime F.TIME.STATE_STATE == 2
  let s := { s with time := { s.time with slew := none } }
  let s := (s.set uTime F.TIME.STATE_STATE 0).set uTime F.TIME.STATE_SLEWING 0
  if locked then s else s.set uTime F.TIME.FLAGS_FREE 1

/-- HOLDOVER entered (R208). -/
def timeHoldover (s : Block) : Block :=
  let s := { s with time := { s.time with slew := none, holdFrom := s.lt } }
  let s := (s.set uTime F.TIME.STATE_STATE 3).set uTime F.TIME.STATE_SLEWING 0
  (s.putS uTime F.TIME.RATE_ADJ (s.trackRate s.selected)).set uTime F.TIME.FLAGS_HOLDOVER 1

/-- The domain the selection of R210 names while none is selected by a switch: forced, primary when
usable, else the other. -/
def wanted (s : Block) : Option Nat :=
  match s.get uTime F.TIME.DOMAIN_CTL_FORCE with
  | 1 => some 0
  | 2 => some 1
  | _ =>
    let p := s.get uTime F.TIME.DOMAIN_CFG_PRIMARY
    if s.usable p then some p else if s.usable (1 - p) then some (1 - p) else none

/-- The domain FORCE names (R210). -/
def forced (s : Block) : Option Nat :=
  match s.get uTime F.TIME.DOMAIN_CTL_FORCE with
  | 1 => some 0
  | 2 => some 1
  | _ => none

/-- The disagreement with domain d is within SWITCH_MAX_US (R208, R211). -/
def agrees (s : Block) (d : Nat) : Bool :=
  decide ((s.tracker d).ofs.natAbs ≤ s.get uTime F.TIME.SERVO_CFG_SWITCH_MAX_US * 1000)

/-- Domains by the order of R210. -/
def domainOrder (s : Block) : List Nat :=
  match s.forced with
  | some d => [d]
  | none => let p := s.get uTime F.TIME.DOMAIN_CFG_PRIMARY; [p, 1 - p]

/-- While the device steers, a forced domain whose switch was refused is selected once its disagreement allows
(R210, R211). -/
def forceRetry (s : Block) : Block :=
  match s.forced with
  | some d =>
    let st := s.get uTime F.TIME.STATE_STATE
    if (st = 1 ∨ st = 2) ∧ s.selected ≠ d ∧ s.agrees d = true then s.switchTo d else s
  | none => s

/-- Whether selection may pass to the other domain on a loss: not while forced. -/
def mayLeave (s : Block) : Bool :=
  s.get uTime F.TIME.DOMAIN_CTL_FORCE != 1 && s.get uTime F.TIME.DOMAIN_CTL_FORCE != 2

/-- The state machine of R208 after a change of the trackers. -/
def timeEval (s : Block) : Block :=
  let s := s.forceRetry
  let sel := s.selected
  let other := 1 - sel
  match s.get uTime F.TIME.STATE_STATE with
  | 0 =>
    match s.wanted with
    | some d =>
      if s.usable d then
        let t := s.tracker d
        let s := s.setTracker d { t with within := 0 }
        (s.set uTime F.TIME.STATE_SEL d).set uTime F.TIME.STATE_STATE 1
      else s
    | none => s
  | 1 =>
    if s.usable sel then (if 16 ≤ (s.tracker sel).within then s.set uTime F.TIME.STATE_STATE 2 else s)
    else if s.mayLeave && s.usable other then s.switchTo other else s.timeFree
  | 2 =>
    if s.usable sel then s
    else if s.mayLeave && s.usable other then
      let t := s.switchTo other
      if t.selected = other then t else t.timeHoldover
    else s.timeHoldover
  | _ =>
    match s.domainOrder.find? fun d => s.usable d && s.agrees d with
    | some d =>
      let s := s.set uTime F.TIME.STATE_STATE 2
      if d = s.selected then s.startSlew d else s.switchTo d
    | none => s

/-- Usability and state after a change of tracker d. -/
def timeUpdate (s : Block) (d : Nat) : Block := (s.usableUpdate d).timeEval

/-- The domain a domainNumber names on the line port. -/
def domainOf (s : Block) (n : Nat) : Option Nat :=
  if n = s.get uTime F.TIME.DOMAIN_CFG_DOMAIN_A then some 0
  else if n = s.get uTime F.TIME.DOMAIN_CFG_DOMAIN_B then some 1 else none

/-- Foreign masters that qualify: two Announces within four of their intervals, fewer than 255
steps, not expired. -/
def qualified (s : Block) (f : Foreign) : Bool :=
  f.info.steps < 255 && (match f.prev with
    | some p => decide (f.last - p ≤ 4 * logSeconds f.info.logInterval)
    | none => false) && decide (s.since f.last ≤ 3 * logSeconds f.info.logInterval)

/-- Master selection of domain d (R206); a change of master starts its tracker afresh. -/
def selectMaster (s : Block) (d : Nat) : Block :=
  let t := s.tracker d
  let best := (t.foreign.filter s.qualified).foldl (fun b f =>
    match b with
    | none => some f
    | some g => if f.info.better g.info then some f else some g) none
  match best with
  | none => s.setTracker d { t with master := none }
  | some f =>
    if t.master = some f.info.sender then
      s.setTracker d { t with utcOffset := f.info.utcOffset, flags := f.info.flags,
                              timeSource := f.info.timeSource }
    else s.setTracker d { t with
      master := some f.info.sender, lastSync := none, due := none, followed := [], steady := 0
      within := 0, gap := false, reqsSince := none, utcOffset := f.info.utcOffset
      flags := f.info.flags, timeSource := f.info.timeSource }

/-- An Announce message of domain d on the line port (R206). -/
def ptpAnnounce (s : Block) (d : Nat) (m : MasterInfo) : Block :=
  if s.servoRuns then
    let t := s.tracker d
    let old := t.foreign.find? fun f => f.info.sender == m.sender
    let rest := t.foreign.filter fun f => f.info.sender != m.sender
    let s := s.setTracker d { t with foreign := rest ++ [⟨m, s.lt, old.map (·.last)⟩] }
    (s.selectMaster d).timeUpdate d
  else s

/-- clockIdentity of the device: the EUI-64 of LPORT.MAC (R216). -/
def clockId (s : Block) : Nat := s.lportMac / 2 ^ 24 * 2 ^ 40 + 0xFFFE * 2 ^ 24 + s.lportMac % 2 ^ 24

/-- Port identity of the line port's PTP port. -/
def linePortId (s : Block) : Nat := s.clockId * 2 ^ 16 + Sys2Proof.Config.linePortNumber

/-- 224.0.1.129, and its MAC address (R215). -/
def ptpGroup : Nat := 0xE0000181

/-- 01-00-5E-00-01-81 -/
def ptpGroupMac : Nat := 0x01005E000181

/-- The gap since the last Sync of domain d is longer than R207 allows. -/
def syncGap (s : Block) (d : Nat) : Bool :=
  match (s.tracker d).lastSync with
  | some l => decide (4 * logSeconds (s.tracker d).logSync < s.since l)
  | none => false

/-- Servo action of the selected domain at a Sync: the one step of ACQUIRE, or the rate (R205,
R209, R211). -/
def servo (s : Block) (d : Nat) (o : TrackerOut) : Block :=
  let st := s.get uTime F.TIME.STATE_STATE
  if d ≠ s.selected then s
  else if st = 1 ∧ s.time.stepped = false ∧
      s.get uTime F.TIME.SERVO_CFG_STEP_THR_US * 1000 < o.ofs.natAbs then
    { s with time := { s.time with stepped := true } }.stepClock o.ofs
  else if (st = 1 ∨ st = 2) ∧ s.on uTime F.TIME.STATE_SLEWING = false then
    s.putS uTime F.TIME.RATE_ADJ (clampS 32 o.adj)
  else s

/-- Announce receipt timeouts and Sync gaps of domain d that have come about (R207). -/
def announceTimeout (s : Block) (d : Nat) : Block :=
  if s.servoRuns then
    let t := s.tracker d
    let late := s.syncGap d
    let s := s.setTracker d { t with gap := t.gap || late, steady := if late then 0 else t.steady }
    (s.selectMaster d).timeUpdate d
  else s

/-- A Sync message of domain d from a sender (R207-R209); a gap before it that is too long counts first. The ingress
timestamp goes to the tracker (R218), which applies ASYM_NS as delayAsymmetry (R219; log entry 20). -/
def ptpSync (s : Block) (d sender seq : Nat) (logInterval : Int) (twoStep : Bool) (o : TrackerOut) : Block :=
  let s := if s.syncGap d then s.announceTimeout d else s
  let t := s.tracker d
  if s.servoRuns && t.master == some sender then
    let fol := if t.due.isSome then t.followed ++ [false] else t.followed
    let lock := s.lockNs
    let o : TrackerOut := { o with ofs := o.ofs + s.getS uLport F.LPORT.PTP_CFG_ASYM_NS }
    let moved := (o.ofs - t.ofs).natAbs
    let s := s.setTracker d { t with
      lastSync := some s.lt, logSync := logInterval, gap := false, ingress := some (s.ingressStamp 12)
      due := if twoStep then some seq else none
      followed := fol.drop (fol.length - 16), ofs := o.ofs
      steady := if t.lastSync.isSome && decide (moved < lock) then t.steady + 1 else 0
      within := if o.ofs.natAbs ≤ lock then t.within + 1 else 0 }
    let s := (s.putSI uTime F.TIME.TRACK_OFS_NS d (clampS 32 o.ofs)).putSI uTime F.TIME.TRACK_RATE_ADJ d
      (clampS 32 o.rate)
    (s.servo d o).timeUpdate d
  else s

/-- A Follow_Up message (R207). -/
def ptpFollowUp (s : Block) (d sender seq : Nat) : Block :=
  let t := s.tracker d
  if s.servoRuns && t.master == some sender && t.due == some seq then
    let fol := t.followed ++ [true]
    (s.setTracker d { t with due := none, followed := fol.drop (fol.length - 16) }).timeUpdate d
  else s

/-- A Delay_Resp message (R207): it counts when it answers a Delay_Req of this device whose egress timestamp was kept,
else the tracker discards it (R222). -/
def ptpDelayResp (s : Block) (d : Nat) (r : DelayResp) : Block :=
  let t := s.tracker d
  if s.servoRuns && t.master == some r.sender && r.requester == s.linePortId then
    match t.reqs.find? fun q => q.1 == r.seq with
    | none => s
    | some q =>
      let t : Tracker := { t with reqs := t.reqs.erase q }
      if q.2 then s.setTracker d t else (s.setTracker d { t with reqsSince := some 0 }).timeUpdate d
  else s

/-- HOLDOVER ends in FREE: after HOLDOVER_S, on the ITO after 1 s at most (R208, R212). -/
def holdoverExpired (s : Block) : Block :=
  let h := s.get uTime F.TIME.HOLD_CFG_HOLDOVER_S
  let lim := if s.on uClk F.CLK.SRC_STAT_ON_ITO then Nat.min 1 h else h
  if s.get uTime F.TIME.STATE_STATE = 3 ∧ lim * 10 ^ 9 ≤ s.since s.time.holdFrom then s.timeFree else s

/-- The primary has been usable for REVERT_S: the device switches back (R210). -/
def revertExpired (s : Block) : Block :=
  let p := s.get uTime F.TIME.DOMAIN_CFG_PRIMARY
  let st := s.get uTime F.TIME.STATE_STATE
  if (st == 1 || st == 2) && s.mayLeave && s.on uTime F.TIME.DOMAIN_CFG_REVERT && s.selected != p && s.usable p &&
      (match (s.tracker p).usableSince with
        | some t => decide (s.get uTime F.TIME.HOLD_CFG_REVERT_S * 10 ^ 9 ≤ s.since t)
        | none => false) then s.switchTo p
  else s

/-- The switch disagreement is spent (R211). -/
def slewDone (s : Block) : Block :=
  match s.time.slew with
  | some (t, d) =>
    if d.natAbs * 10 ^ 7 ≤ s.since t * s.get uTime F.TIME.SERVO_CFG_SLEW then
      let s := { s with time := { s.time with slew := none } }
      (s.set uTime F.TIME.STATE_SLEWING 0).putS uTime F.TIME.RATE_ADJ (s.trackRate s.selected)
    else s
  | none => s

/-- Domain d selected in FREE or HOLDOVER, where the rate is kept (R208): no slew, but a switch in all else (R211). -/
def selectQuiet (s : Block) (d : Nat) : Block :=
  (((s.set uTime F.TIME.STATE_SEL d).set uTime F.TIME.FLAGS_SWITCH 1).raise 12).anchor false true

/-- A write of `TIME.DOMAIN_CTL.FORCE` (R210); 3 is reserved and selects nothing. Without control core 2 nothing steers
(R213). -/
def domainForce (s : Block) (v : Nat) : Block :=
  let s := s.set uTime F.TIME.DOMAIN_CTL_FORCE v
  if s.servoRuns then
    match s.forced with
    | some d =>
      if s.selected = d then s.timeEval
      else if s.get uTime F.TIME.STATE_STATE = 1 ∨ s.get uTime F.TIME.STATE_STATE = 2 then (s.switchTo d).timeEval
      else (s.selectQuiet d).timeEval
    | none => s.timeEval
  else s

/-- The staged step of the STEP registers in ns (R229). -/
def stagedStep (s : Block) : Int :=
  let sec := s.get uTime F.TIME.STEP_SEC_LO_SEC + s.get uTime F.TIME.STEP_SEC_HI_SEC * 2 ^ 32
  let n : Int := (sec * 10 ^ 9 + s.get uTime F.TIME.STEP_NS_NS : Nat)
  if s.on uTime F.TIME.STEP_NS_NEG then -n else n

/-- A write of GO: the step is added to the offset (R229). -/
def stepGo (s : Block) : Block := s.stepClock s.stagedStep

/-- Queue of PTP port p. -/
def tsq (s : Block) (p : Nat) : List TsqEntry := nth s.time.tsq p []

/-- An event message sent on PTP port p: its timestamp enters the queue, or is lost (R221, R222). -/
def tsqPush (s : Block) (p msgType seq domain : Nat) : Block :=
  let id := nth s.time.ids p 0
  let s := { s with time := { s.time with ids := upd s.time.ids p fun _ => (id + 1) % 256 } }
  if 32 ≤ (s.tsq p).length then
    (s.setBitI uTime F.TIME.TSQ_OVF_PORT 0 p).set uTime F.TIME.FLAGS_TSQ_OVF 1
  else
    let st := s.egressStamp p
    { s with time := { s.time with
      tsq := upd s.time.tsq p fun l => l ++ [⟨id, msgType, seq, domain, st.1, st.2.1⟩] } }

/-- A read of TSQ_p_W3: the word, and the oldest entry removed (R221). -/
def tsqPop (s : Block) (p : Nat) : Nat × Block :=
  match s.tsq p with
  | [] => (0, s)
  | e :: r =>
    (e.seconds / 2 ^ 32 % 0x10000 + e.domain % 256 * 0x10000 + 2 ^ 31,
      { s with time := { s.time with tsq := upd s.time.tsq p fun _ => r } })

/-- How the line port's Delay_Req goes: Annex C to the group, or Annex E to IEEE 1588's address (R214). -/
def linePath (s : Block) : PtpPath :=
  if s.get uLport F.LPORT.PTP_CFG_TRANSPORT = 0 then
    ⟨s.lportMac, 0x011B19000000, none, 2, 1, s.clockId, Sys2Proof.Config.linePortNumber⟩
  else ⟨s.lportMac, ptpGroupMac, some (s.lportIp, ptpGroup, 319), 2, 1, s.clockId, Sys2Proof.Config.linePortNumber⟩

/-- The line port sends a Delay_Req for domain d (R214, R221); one whose queue entry is lost will yield no delay
measurement (R222). -/
def delayReqSend (s : Block) (d : Nat) : Block :=
  if s.servoRuns && s.isRunning && s.lportUp then
    let dom := if d = 0 then s.get uTime F.TIME.DOMAIN_CFG_DOMAIN_A else s.get uTime F.TIME.DOMAIN_CFG_DOMAIN_B
    let seq := nth s.time.reqSeq d 0
    let s := { s with time := { s.time with reqSeq := upd s.time.reqSeq d fun n => (n + 1) % 0x10000 } }
    let t := s.tracker d
    let s := s.setTracker d { t with
      reqsSince := t.reqsSince.map (· + 1), reqs := ((seq, decide (32 ≤ (s.tsq 12).length)) :: t.reqs).take 16 }
    ((s.emit (.ptp 12 (s.lportTag 7) s.linePath (.delayReq dom seq))).tsqPush 12 1 seq dom).timeUpdate d
  else s

/-- Whether an interval of 2^i seconds has passed since a time, or none was yet. -/
def intervalDue (s : Block) (t : Option Nat) (i : Int) : Bool :=
  match t with
  | some l => decide (logSeconds i ≤ s.since l)
  | none => true

/-- MAC address of a camera port. -/
def campMac (s : Block) (k : Nat) : Nat :=
  s.get (uCamp k) F.CAMP.MAC_HI_OCTETS * 2 ^ 32 + s.get (uCamp k) F.CAMP.MAC_LO_OCTETS

/-- IPv4 address of a camera port. -/
def campIp (s : Block) (k : Nat) : Nat := s.get (uCamp k) F.CAMP.IPV4_ADDR

/-- A camera port serves as PTP master while its stream is not OFF, it is UP and its transmitter on (R145, R215). -/
def camPtp (s : Block) (k : Nat) : Bool :=
  s.isRunning && s.get (uCamp k) F.CAMP.STAT_STATE != 0 && s.getI uSerdes F.SERDES.PORT_STAT_STATE k == 8

/-- Camera-side domainNumber. -/
def camDomain (s : Block) : Nat := s.get uTime F.TIME.DOMAIN_CFG_CAM_DOMAIN

/-- How a PTP message of a camera port goes: to the group, or back to where a unicast request came from (R215, R216).
UDP port 319 takes event messages, 320 general ones. -/
def camPath (s : Block) (k : Nat) (back : Option (Nat × Nat)) (port : Nat) : PtpPath :=
  let (mac, ip) := back.getD (ptpGroupMac, ptpGroup)
  ⟨s.campMac k, mac, some (s.campIp k, ip, port), 2, 1, s.clockId, k + 1⟩

/-- What waited on a camera port goes: a Sync with its egress timestamp, followed by its Follow_Up (R215, R218, R221), a
general message, an ARP reply. -/
def txRun (s : Block) (k : Nat) (j : TxJob) : Block :=
  match j with
  | .sync seq =>
    let st := s.egressStamp k
    let s := (s.emit (.ptp k none (s.camPath k none 319) (.sync s.camDomain seq))).tsqPush k 0 seq s.camDomain
    s.emit (.ptp k none (s.camPath k none 320) (.followUp s.camDomain seq st.1 st.2.1 st.2.2))
  | .general path m => s.emit (.ptp k none path m)
  | .arp f => s.emit (.frame k f)

/-- A frame the port originates: at once, or when the tunnel frame that has begun ends (R171). -/
def txSend (s : Block) (k : Nat) (j : TxJob) : Block :=
  let c := s.camp k
  if c.tunOn then s.setCamp k { c with txWait := c.txWait ++ [j] } else s.txRun k j

/-- Priority of what waits: event messages, general messages, ARP replies (R171). -/
def TxJob.rank : TxJob → Nat
  | .sync _ => 0
  | .general _ _ => 1
  | .arp _ => 2

/-- Everything that waited goes, in strict priority (R171). -/
def txFlush (s : Block) (k : Nat) : Block :=
  let c := s.camp k
  (List.range 3).foldl (fun s r => (c.txWait.filter fun j => TxJob.rank j == r).foldl (fun s j => s.txRun k j) s)
    (s.setCamp k { c with txWait := [] })

/-- A camera port sends Sync and its Follow_Up (R215). -/
def camSyncSend (s : Block) (k : Nat) : Block :=
  if k < 12 && s.camPtp k && s.intervalDue (nth s.time.syncAt k none) (s.getS uTime F.TIME.CAM_MSG_LOG_SYNC) then
    let seq := nth s.time.syncSeq k 0
    let s := { s with time := { s.time with
      syncSeq := upd s.time.syncSeq k fun n => (n + 1) % 0x10000
      syncAt := upd s.time.syncAt k fun _ => some s.lt } }
    s.txSend k (.sync seq)
  else s

/-- The Announce of a camera port with a sequenceId (R216): the device as grandmaster, 0 steps away. -/
def camAnnounce (s : Block) (seq : Nat) : PtpOut :=
  let t := s.selTracker
  let m (cls acc src utc fl : Nat) : PtpOut :=
    .announce s.camDomain seq cls acc src utc fl 0 128 128 0x4E5D s.clockId
  match s.get uTime F.TIME.STATE_STATE with
  | 0 => m 248 0xFE 0xA0 37 0x0008
  | 2 => m 6 0x21 t.timeSource t.utcOffset t.flags
  | _ => m 7 0x23 t.timeSource t.utcOffset t.flags

/-- A camera port sends Announce (R215, R216). -/
def camAnnounceSend (s : Block) (k : Nat) : Block :=
  if k < 12 && s.camPtp k &&
      s.intervalDue (nth s.time.annAt k none) (s.getS uTime F.TIME.CAM_MSG_LOG_ANNOUNCE) then
    let seq := nth s.time.annSeq k 0
    let s := { s with time := { s.time with
      annSeq := upd s.time.annSeq k fun n => (n + 1) % 0x10000
      annAt := upd s.time.annAt k fun _ => some s.lt } }
    s.txSend k (.general (s.camPath k none 320) (s.camAnnounce seq))
  else s

/-- A Delay_Req on a camera port (R215, R217); `back` is where a unicast request came from. The second
of the limit is that of LT. -/
def camDelayReq (s : Block) (k seq requester : Nat) (back : Option (Nat × Nat)) : Block :=
  if k < 12 && s.camPtp k then
    let sec := s.lt / 10 ^ 9
    let (n, at_) := nth s.time.dreq k (0, 0)
    let n := if at_ = sec then n else 0
    if s.get uTime F.TIME.CAM_MSG_DREQ_LIMIT ≤ n then s.incI uTime F.TIME.DREQ_DROP_COUNT k
    else
      let s := { s with time := { s.time with dreq := upd s.time.dreq k fun _ => (n + 1, sec) } }
      let st := s.ingressStamp k
      s.txSend k (.general (s.camPath k back 320) (.delayResp s.camDomain seq requester st.1 st.2.1 st.2.2))
  else s

/-- A read of NOW_LT_LO latches the NOW registers of the reading master (R229). -/
def nowLatch (s : Block) (m : Master) : Nat × Block :=
  (s.lt % 2 ^ 32, { s with time := { s.time with now := s.time.now.set m (some (s.lt, s.devClock)) } })

/-- The device clock's nanoseconds pass through 0: those of the tick that does, at most 2 by R203, once for a second
(R224, R575). -/
def timeAnchor (s : Block) : Block :=
  let sec := s.devClock / 10 ^ 9
  if s.isRunning && decide (s.devClock % 10 ^ 9 ≤ 2) && s.time.anchorSec != some sec then
    (({ s with time := { s.time with anchorSec := some sec } } : Block).anchor false false).raise 13
  else s

/-- Control core 2 stops: no tracker, no servo, FREE (R213). -/
def timeCoreLost (s : Block) : Block :=
  let s := if s.get uTime F.TIME.STATE_STATE = 0 then s else s.timeFree
  (s.set uTime F.TIME.STATE_USABLE_A 0).set uTime F.TIME.STATE_USABLE_B 0

end Block
end Sys2Proof.Machine
end

