-- ==== Sys2Proof/Machine/Camp.lean ====
section
/-! DEFINITION. Frames received on camera ports and on the line port: discard, classification, ARP,
GVSP packets, PTP, the camera control tunnel (R168-R173, R189-R191, R217, R227). The layouts of
Ethernet, ARP, IPv4, UDP, GVSP and PTP are those of the standards; log entry 21. -/

namespace Sys2Proof.Machine

/-- n bytes of a frame at an offset, as a number in network order. -/
def frameNum (f : List Nat) (o n : Nat) : Nat := ofBe ((f.drop o).take n)

/-- Ones' complement sum of 16-bit words in network order. -/
def onesSum : Nat → List Nat → Nat
  | acc, [] => acc
  | acc, [a] => let v := acc + a * 256; v % 0x10000 + v / 0x10000
  | acc, a :: b :: r => let v := acc + a * 256 + b; onesSum (v % 0x10000 + v / 0x10000) r

/-- Header length of an IPv4 frame in bytes. -/
def ipHeader (f : List Nat) : Nat := f.getD 14 0 % 16 * 4

/-- An untagged IPv4 UDP frame. -/
def isUdp (f : List Nat) : Bool :=
  frameNum f 12 2 == 0x0800 && f.getD 14 0 / 16 == 4 && f.getD 23 0 == 17

/-- Destination port of a UDP frame. -/
def udpDst (f : List Nat) : Nat := frameNum f (14 + ipHeader f + 2) 2

/-- IPv4 header checksum correct. -/
def ipSumOk (f : List Nat) : Bool := onesSum 0 ((f.drop 14).take (ipHeader f)) == 0xFFFF

/-- UDP checksum absent or correct, over the pseudo header and the datagram. -/
def udpSumOk (f : List Nat) : Bool :=
  let o := 14 + ipHeader f
  let n := frameNum f (o + 4) 2
  frameNum f (o + 6) 2 == 0 ||
    onesSum 0 ((f.drop 26).take 8 ++ [0, 17] ++ (f.drop (o + 4)).take 2 ++ (f.drop o).take n) == 0xFFFF

/-- UDP length agrees with the IPv4 total length. -/
def udpLenOk (f : List Nat) : Bool := frameNum f (14 + ipHeader f + 4) 2 + ipHeader f == frameNum f 16 2

/-- UDP payload of a frame. -/
def udpPayload (f : List Nat) : List Nat :=
  (f.drop (14 + ipHeader f + 8)).take (frameNum f (14 + ipHeader f + 4) 2 - 8)

/-- An ARP request for an address. -/
def arpFor (f : List Nat) (ip : Nat) : Bool :=
  frameNum f 12 2 == 0x0806 && frameNum f 20 2 == 1 && frameNum f 38 4 == ip

/-- The ARP reply to a request, from a MAC and IPv4 address, padded to the minimum frame. -/
def arpReply (f : List Nat) (mac ip : Nat) : List Nat :=
  let sha := (f.drop 22).take 6
  let body := sha ++ be 6 mac ++ [0x08, 0x06] ++ (f.drop 14).take 6 ++ [0, 2] ++ be 6 mac ++ be 4 ip ++ sha ++
    (f.drop 28).take 4
  body ++ List.replicate (60 - body.length) 0

namespace Block

/-- A PTP message for row 1 of R169 (R217). -/
def isCamPtp (s : Block) (k : Nat) (f : List Nat) : Bool :=
  let p := udpPayload f
  isUdp f && (udpDst f == 319 || udpDst f == 320) &&
    (frameNum f 30 4 == ptpGroup || frameNum f 30 4 == s.campIp k) &&
    p.getD 1 0 % 16 == 2 && p.getD 4 256 == s.camDomain

/-- A PTP message on a camera port: only Delay_Req is acted on, of minor version 0 or 1 (R214-R216). -/
def camPtpFrame (s : Block) (k : Nat) (f : List Nat) : Block :=
  let p := udpPayload f
  if p.getD 0 0 % 16 = 1 ∧ p.getD 1 0 / 16 ≤ 1 then
    s.camDelayReq k (frameNum p 30 2) (frameNum p 20 10)
      (if frameNum f 30 4 = s.campIp k then some (frameNum f 6 6, frameNum f 26 4) else none)
  else s

/-- The filters in force for the newest entry made, or in force (R648). -/
def filterVals (s : Block) (k : Nat) : CampVals := (s.camp k).newest.getD (s.campVals k)

/-- Row 3 of R169. -/
def isGvsp (s : Block) (k : Nat) (f : List Nat) : Bool :=
  let v := s.filterVals k
  isUdp f && frameNum f 30 4 == s.campIp k && udpDst f == v.udp &&
    (v.camIp == 0 || frameNum f 26 4 == v.camIp)

/-- The checks of R172. -/
def gvspFrameOk (f : List Nat) : Bool :=
  ipHeader f == 20 && ipSumOk f && frameNum f 20 2 % 0x4000 == 0 && udpSumOk f && udpLenOk f

/-- A GVSP packet: extended ID, formats 1 to 3, status zero (R173). -/
def gvspPacket (s : Block) (k : Nat) (p : List Nat) (overflow : Bool) : Block :=
  let fmt := p.getD 4 0
  let id := frameNum p 8 8
  let pid := frameNum p 16 4
  let d := p.drop 20
  if p.length < 20 ∨ frameNum p 0 2 ≠ 0 ∨ fmt < 128 then s.gvspDrop k
  else match fmt % 16 with
    | 1 => s.gvspLeader k id (frameNum d 4 8) ⟨frameNum d 2 2, frameNum d 12 4, frameNum d 16 4,
        frameNum d 20 4, frameNum d 32 2⟩
    | 2 => s.gvspTrailer k id pid (frameNum d 4 4)
    | 3 => s.gvspPayload k id pid d overflow
    | _ => s.gvspDrop k

/-- Bytes a tunnel record takes: header and frame on an 8-byte boundary (R191). -/
def tunnelBytes (n : Nat) : Nat := (16 + n + 7) / 8 * 8

/-- A frame for the camera control tunnel (R189). -/
def tunnelRx (s : Block) (k : Nat) (f : List Nat) : Block :=
  let q := nth s.mbx.tunRx k []
  let used := sumN (q.map fun r => tunnelBytes r.frame.length)
  if s.on (uCamp k) F.CAMP.TUNNEL_CFG_RX_EN = false ∨ 32768 < used + tunnelBytes f.length then
    { s.inc (uCamp k) F.CAMP.CNT_TUNNEL_DROP_COUNT with
      mbx := { s.mbx with tunDropped := upd s.mbx.tunDropped k fun _ => true } }
  else
    let r : TunnelRec := ⟨k, if nth s.mbx.tunDropped k false then 2 else 0, s.stamp, nth s.mbx.tunSeq k 0, f⟩
    { s with mbx := { s.mbx with
      tunRx := upd s.mbx.tunRx k fun l => l ++ [r]
      tunSeq := upd s.mbx.tunSeq k fun n => (n + 1) % 2 ^ 32
      tunDropped := upd s.mbx.tunDropped k fun _ => false } }

/-- A frame received on camera port k (R168-R173). Its bytes come without the FCS; `overflow`: the
reassembly buffer has no room for it. -/
def camFrame (s : Block) (k : Nat) (f : List Nat) (fcsOk overflow : Bool) : Block :=
  if 12 ≤ k then s
  else if !fcsOk || f.length < 60 || 9212 < f.length || frameNum f 12 2 == 0x8808 then
    s.inc (uCamp k) F.CAMP.CNT_PKT_ERR_COUNT
  else if s.isCamPtp k f then s.camPtpFrame k f
  else if arpFor f (s.campIp k) then
    if s.isRunning then s.txSend k (.arp (arpReply f (s.campMac k) (s.campIp k))) else s
  else if s.isGvsp k f then
    if gvspFrameOk f then s.gvspPacket k (udpPayload f) overflow else s.gvspDrop k
  else s.tunnelRx k f

/-! ## Line port (R227) -/

/-- An ARP reply of the line port, once its transmitter is on (R145): behind the Class A records that wait (R228). -/
def lportArp (s : Block) (f : List Nat) : Block :=
  if s.isRunning then ({ s with tag := { s.tag with arpWait := s.tag.arpWait ++ [f] } } : Block).arpFlush else s

/-- A frame without one IEEE 802.1Q tag. -/
def untag (f : List Nat) : List Nat := if frameNum f 12 2 = 0x8100 then f.take 12 ++ f.drop 16 else f

/-- The PTP message a line-port frame carries by `LPORT.PTP_CFG.TRANSPORT` (R214, R227). -/
def lportPtp (s : Block) (f : List Nat) : Option (List Nat) :=
  if s.get uLport F.LPORT.PTP_CFG_TRANSPORT = 0 then
    if frameNum f 12 2 = 0x88F7 then some (f.drop 14) else none
  else if isUdp f && (udpDst f == 319 || udpDst f == 320) && ipHeader f == 20 && ipSumOk f &&
      frameNum f 20 2 % 0x4000 == 0 && udpSumOk f &&
      (frameNum f 30 4 == s.lportIp || frameNum f 30 4 == ptpGroup || frameNum f 30 4 == 0xE000006B) then
    some (udpPayload f)
  else none

/-- What an Announce message says (IEEE 1588-2019, R206). -/
def announceInfo (p : List Nat) : MasterInfo :=
  ⟨frameNum p 20 10, p.getD 47 0, p.getD 48 0, p.getD 49 0, frameNum p 50 2, p.getD 52 0, frameNum p 53 8,
    frameNum p 61 2, sext 8 (p.getD 33 0), frameNum p 44 2, frameNum p 6 2, p.getD 63 0⟩

/-- A PTP message of domain d on the line port, with what the tracker computes at a Sync
(R206, R207, R214). -/
def lportPtpMessage (s : Block) (d : Nat) (p : List Nat) (o : TrackerOut) : Block :=
  match p.getD 0 0 % 16 with
  | 0 => s.ptpSync d (frameNum p 20 10) (frameNum p 30 2) (sext 8 (p.getD 33 0)) (bit (p.getD 6 0) 1) o
  | 8 => s.ptpFollowUp d (frameNum p 20 10) (frameNum p 30 2)
  | 9 => s.ptpDelayResp d ⟨frameNum p 20 10, frameNum p 44 10, frameNum p 30 2⟩
  | 11 => s.ptpAnnounce d (announceInfo p)
  | _ => s

/-- A frame received on the line port (R227): bytes without the FCS. -/
def lportFrame (s : Block) (raw : List Nat) (fcsOk : Bool) (o : TrackerOut) : Block :=
  let f := untag raw
  let drop := s.inc uLport F.LPORT.CNT_DROP_COUNT
  if !fcsOk || raw.length < 60 || 1514 < f.length then drop
  else if arpFor f s.lportIp then s.lportArp (arpReply f s.lportMac s.lportIp)
  else match s.lportPtp f with
    | none => drop
    | some p =>
      if p.getD 1 0 % 16 = 2 then
        match s.domainOf (p.getD 4 256) with
        | some d => s.lportPtpMessage d p o
        | none => drop
      else drop

/-- A camera port ends the transmission of a tunnel frame (R190, R530): it leaves as given, padded to the minimum frame;
what waited for its end goes, and the next tunnel frame begins (R171). -/
def tunnelSend (s : Block) (k : Nat) : Block :=
  let c := s.camp k
  if c.tunOn then
    match nth s.mbx.tunTx k [] with
    | [] => s
    | r :: rest =>
      let s := { s with mbx := { s.mbx with tunTx := upd s.mbx.tunTx k fun _ => rest } }
      let s := s.emit (.frame k (r.frame ++ List.replicate (60 - r.frame.length) 0))
      ((s.setCamp k { c with tunOn := false }).txFlush k).tunBegin k
  else s

end Block
end Sys2Proof.Machine
end

