-- ==== Sys2Proof/Machine/Seg.lean ====
section
/-! DEFINITION. Segmentation: differences, components, closing, capture windows (R380-R393, R399-R402). -/

namespace Sys2Proof.Machine

/-- A component with one candidate more (R393). -/
def Comp.add (c : Comp) (line : Nat) (j : Nat) (p : SegPx) (fillAdj : Bool) (conf : Option Nat) (last : Bool) : Comp :=
  let big := decide (c.dMax < p.d) || c.area == 0
  { c with
    lo := Nat.min c.lo j, hi := Nat.max c.hi j, last := line
    area := c.area + 1, strong := c.strong + b2n p.strong
    dMax := if big then p.d else c.dMax, pkLine := if big then line else c.pkLine
    pkCol := if big then j else c.pkCol, pkZone := if big then p.zone else c.pkZone
    dSum := c.dSum + p.d, dlSum := c.dlSum + p.dl, colSum := c.colSum + j, lineSum := c.lineSum + line
    live := (c.live.1 + p.live.l, c.live.2.1 + p.live.a, c.live.2.2 + p.live.b)
    ref := (c.ref.1 + p.ref.l, c.ref.2.1 + p.ref.a, c.ref.2.2 + p.ref.b)
    confMin := match conf with | some v => Nat.min c.confMin v | none => c.confMin
    unref := c.unref + b2n p.unref
    seam := c.seam || p.live.seam, sat := c.sat || p.live.sat, fillAdj := c.fillAdj || fillAdj
    edgeR := c.edgeR || last }

/-- Component a opened before b (R388). -/
def Comp.older (a b : Comp) : Bool := decide (a.line < b.line) || (a.line == b.line && decide (a.col0 < b.col0))

/-- Two components combined; `a` is the older and keeps its identity (R388, R393). -/
def Comp.join (a b : Comp) : Comp :=
  let big := decide (a.dMax < b.dMax) || (a.dMax == b.dMax && (decide (b.pkLine < a.pkLine) ||
    (b.pkLine == a.pkLine && decide (b.pkCol < a.pkCol))))
  { a with
    lo := Nat.min a.lo b.lo, hi := Nat.max a.hi b.hi, last := Nat.max a.last b.last, lines := Nat.max a.lines b.lines
    area := a.area + b.area, strong := a.strong + b.strong
    dMax := if big then b.dMax else a.dMax, pkLine := if big then b.pkLine else a.pkLine
    pkCol := if big then b.pkCol else a.pkCol, pkZone := if big then b.pkZone else a.pkZone
    dSum := a.dSum + b.dSum, dlSum := a.dlSum + b.dlSum, colSum := a.colSum + b.colSum, lineSum := a.lineSum + b.lineSum
    live := (a.live.1 + b.live.1, a.live.2.1 + b.live.2.1, a.live.2.2 + b.live.2.2)
    ref := (a.ref.1 + b.ref.1, a.ref.2.1 + b.ref.2.1, a.ref.2.2 + b.ref.2.2)
    confMin := Nat.min a.confMin b.confMin, unref := a.unref + b.unref
    seam := a.seam || b.seam, sat := a.sat || b.sat, fillAdj := a.fillAdj || b.fillAdj, cont := a.cont || b.cont
    merged := true, edgeR := a.edgeR || b.edgeR, cols := a.cols ++ b.cols }

/-- Runs of adjacent columns in an ascending list, as (first, last). -/
def runsOf (l : List Nat) : List (Nat × Nat) :=
  (l.foldl (fun acc j => match acc with
    | (a, b) :: r => if b + 1 = j then (a, j) :: r else (j, j) :: acc
    | [] => [(j, j)]) []).reverse

/-- Order of hand-over to TAG (R399). -/
def Comp.handBefore (a b : Comp) : Bool := decide (a.lo < b.lo) || (a.lo == b.lo && decide (a.line < b.line))

/-- Components in the order of hand-over. -/
def handOrder (l : List (Comp × Nat)) : List (Comp × Nat) :=
  let rec ins (c : Comp × Nat) : List (Comp × Nat) → List (Comp × Nat)
    | [] => [c]
    | d :: r => if c.1.handBefore d.1 then c :: d :: r else d :: ins c r
  l.foldl (fun acc c => ins c acc) []

/-- The entry of a pixel in a snippet (R402), as a number of 8 bytes. -/
def snipPx (p : Option SegPx) (own : Bool) : Nat :=
  match p with
  | none => 2 ^ 48
  | some p => p.live.word + p.d * 2 ^ 32 +
      (b2n p.live.fill + 2 * b2n p.live.sat + 4 * b2n p.live.seam + 8 * b2n p.unref + 16 * b2n p.cand +
        32 * b2n p.strong + 64 * b2n own) * 2 ^ 48 + p.zone * 2 ^ 56

/-- A line's entries in a window; columns beyond the owned ones stand as FILL. -/
def snipRow (w : SnipWin) (px : List SegPx) (own : List Nat) : List Nat :=
  (List.range w.cols).map fun i => snipPx px[w.col + i]? (own.contains (w.col + i))

namespace Block

/-- Map bytes from byte n on, unit by unit (R383). -/
def mapRead (s : Block) (units : List Nat) (n len : Nat) : Nat → List Nat × Block
  | 0 => ([], s)
  | fuel + 1 =>
    if len = 0 then ([], s)
    else
      let k := Nat.min len (65536 - n % 65536)
      let (b, _, s) := s.dramRead (s.mapAddr units n) k
      let (r, s) := s.mapRead units (n + k) (len - k) fuel
      (b ++ r, s)

/-- The substrate measurement as the page ends (R386). -/
def subMeasure (s : Block) : Block :=
  let (n, l, a, b) := s.seg.acc
  if 65536 ≤ n then
    let w := (LabPx.mk (divRound l n) (divRound a n) (divRound b n) false false false).word
    { s.set uSeg F.SEG.SUB_MEAS_LAB w with seg := { s.seg with meas := some w, acc := (0, 0, 0, 0) } }
  else { s.set uSeg F.SEG.SUB_MEAS_LAB 0 with seg := { s.seg with meas := none, acc := (0, 0, 0, 0) } }

/-- The first line of a page in SEG (R380, R386). A SEG_PROFILE above 7 gives unpredictable results: a free
value (log entry 1). -/
def segPage (s : Block) (page : Nat) : Block :=
  let s : Block := if s.seg.last.isSome then s.subMeasure else s
  let want := match (s.bindOf page).bind (·.job) with
    | some j => j.profile
    | none => s.get uSeg F.SEG.CFG_DEF_PROFILE
  let p := if 7 < want then s.fresh % 8 else want
  let s : Block := if 7 < want then s.took else s
  let sub := if s.onI uSeg F.SEG.PROF_CFG_SUB_AUTO p then s.seg.meas.getD (s.getI uSeg F.SEG.PROF_SUB_LAB p)
    else s.getI uSeg F.SEG.PROF_SUB_LAB p
  { s.set uSeg F.SEG.SUB_USED_LAB sub with seg := { s.seg with profile := p, sub := sub } }

/-- The zone codes of a block row (R381, R383). -/
def segZones (s : Block) (page row : Nat) : Block :=
  if (s.seg.zones.map fun z => (z.1, z.2.1)) = some (page, row) then s
  else
    match (s.bindOf page).bind (·.map) with
    | some (_, groups, rows, units) =>
      if row < rows then
        let n := (groups + 1) / 2
        let (b, s) := s.mapRead units (row * n) n 4
        let codes := (List.range groups).map fun c => b.getD (c / 2) 0 / 16 ^ (c % 2) % 16
        { s with seg := { s.seg with zones := some (page, row, codes) } }
      else { s with seg := { s.seg with zones := some (page, row, []) } }
    | none => { s with seg := { s.seg with zones := some (page, row, []) } }

/-- The pixels of a line with their differences and candidates (R384, R385). -/
def segPixels (s : Block) (l : TangoLine) : List SegPx :=
  let p := s.seg.profile
  let en := s.on uSeg F.SEG.CFG_EN
  let form := s.getI uSeg F.SEG.PROF_CFG_FORM p
  let sub := labOfWord s.seg.sub false false
  let defZone := s.getI uSeg F.SEG.PROF_CFG_DEF_ZONE p
  let codes := (s.seg.zones.map fun z => z.2.2).getD []
  (l.w.px.zip (List.range l.w.px.length)).map fun (q, j) =>
    let zone := codes.getD (j / 64) defZone
    let r := (l.refs.getD j none).map fun t => LabPx.mk t.1 t.2.1 t.2.2 false false false
    let ref := r.getD sub
    if q.fill then ⟨q, 0, 0, r.isNone, false, false, zone, ref⟩
    else
      let d := if form = 0 then deltaE0 q ref else deltaE1 q ref
      let i := 16 * p + zone
      let lo := s.getI uSeg (if r.isSome then F.SEG.ZONE_REF_T_LO else F.SEG.ZONE_UNREF_TU_LO) i
      let hi := s.getI uSeg (if r.isSome then F.SEG.ZONE_REF_T_HI else F.SEG.ZONE_UNREF_TU_HI) i
      let cand := en && decide (lo < d)
      ⟨q, d, q.l - ref.l, r.isNone, cand, cand && decide (hi < d), zone, ref⟩

/-- The substrate sums with a line (R386). -/
def subLine (s : Block) (px : List SegPx) : Block :=
  let p := s.seg.profile
  let prof := labOfWord (s.getI uSeg F.SEG.PROF_SUB_LAB p) false false
  let tol := s.getI uSeg F.SEG.PROF_LIM_SUB_TOL p
  let use := px.filter fun q => !q.unref && !q.live.fill && !q.live.sat && decide (deltaE0 q.ref prof ≤ tol)
  let a := s.seg.acc
  { s with seg := { s.seg with acc := (a.1 + use.length, a.2.1 + sumI (use.map (·.live.l)),
      a.2.2.1 + sumI (use.map (·.live.a)), a.2.2.2 + sumI (use.map (·.live.b))) } }

/-- A window goes without a record. -/
def winDrop (s : Block) (w : Option Nat) : Block :=
  match w with
  | some i => { s with seg := { s.seg with windows := s.seg.windows.filter fun x => x.id != i } }
  | none => s

/-- A component closes (R389-R392): counters, the discard, or the item for TAG. `fl` holds the flags of R397
that closing sets. -/
def compClose (s : Block) (c : Comp) (fl line stamp page pageLine t0 : Nat) : Block :=
  let s := s.inc uSeg F.SEG.CNT_COMP_COUNT
  let s : Block := if bit fl 9 then s.inc uSeg F.SEG.CNT_CUT_COUNT else s
  let s : Block := if bit fl 7 then s.inc uSeg F.SEG.CNT_SPLIT_COUNT else s
  let s : Block := if bit fl 10 then (s.inc uSeg F.SEG.CNT_FORCED_COUNT).flag uSeg F.SEG.FLAGS_FORCED else s
  let s : Block := if c.unref = 0 then s else s.inc uSeg F.SEG.CNT_UNREF_COMP_COUNT
  if c.area < s.getI uSeg F.SEG.PROF_CFG_MIN_AREA c.profile ∨ c.strong = 0 then
    (s.inc uSeg F.SEG.CNT_DISCARD_COUNT).winDrop c.window
  else { s with seg := { s.seg with items := s.seg.items ++ [.comp c fl line stamp page pageLine t0] } }

/-- Components closed by a line, in order. -/
def closeAll (s : Block) (l : List (Comp × Nat)) (w : WebLine) : Block :=
  (handOrder l).foldl (fun s c => s.compClose c.1 c.2 w.line w.stamp w.page w.pageLine w.t0) s

/-- The snippets whose windows and components have both ended (R402). -/
def snipSend (s : Block) : Block :=
  let ready := s.seg.windows.filter fun w => w.ended && w.loc.isSome
  let s : Block := { s with seg := { s.seg with windows := s.seg.windows.filter fun w => !(w.ended && w.loc.isSome) } }
  ready.foldl (fun s w => s.classB 2 (.snip ⟨b2n w.clipped + 2 * b2n w.cut + 4 * b2n w.short, s.devAddr, w.rows.length,
    w.loc.getD 0, w.page, w.line, w.cols, w.base + w.col, w.pageLine, w.rows.flatten⟩)) s

/-- A window opens for a component (R401): its identity, when it opens. -/
def winOpen (s : Block) (col0 owned : Nat) (w : WebLine) : Option Nat × Block :=
  if s.get uSeg F.SEG.SNIP_CFG_MAX_OPEN ≤ s.seg.windows.length ∨ s.shedB then
    (none, (s.inc uSeg F.SEG.CNT_NOSNIP_COUNT).flag uSeg F.SEG.FLAGS_NOSNIP)
  else
    let cols := 64 * s.get uSeg F.SEG.SNIP_CFG_W64
    let start := Nat.min (col0 - cols / 2) (owned - cols)
    let pre := s.get uSeg F.SEG.SNIP_CFG_PRE
    let past := (s.seg.hist.take pre).reverse
    let head := past.head?
    let i := s.seg.nextWin
    let w0 : SnipWin := ⟨i, start, cols, w.colBase, s.get uSeg F.SEG.SNIP_CFG_H, [], false, false, decide (past.length < pre), w.page,
      (head.map (·.line)).getD w.line, (head.map (·.pageLine)).getD w.pageLine, false, none⟩
    let w1 := { w0 with rows := past.map fun h => snipRow w0 h.px [] }
    (some i, { s with seg := { s.seg with windows := s.seg.windows ++ [w1], nextWin := i + 1 } })

/-- The open component closed to make room (R391): the one whose last line is oldest, then the smaller first
column. -/
def victim (l : List Comp) : Option Comp :=
  l.foldl (fun b c => match b with
    | none => some c
    | some x => if c.last < x.last ∨ (c.last = x.last ∧ c.col0 < x.col0) then some c else b) none

/-- What the labelling of a line has come to: components with the columns of the line before, columns of this
line by component, components forced to close, the state. -/
structure Label where
  comps : List Comp
  now : List (Nat × List Nat)
  forced : List (Comp × Nat)
  s : Block

/-- A run of candidates labelled (R387, R388, R391). -/
def labelRun (w : WebLine) (px : List SegPx) (prevFill : List Bool) (groups : List (Nat × Nat)) (a : Label)
    (run : Nat × Nat) : Label :=
  let near (x : Nat) : Bool := decide (run.1 ≤ x + 1) && decide (x ≤ run.2 + 1)
  let touch := a.comps.filter fun c => c.cols.any near
  let cont := a.s.seg.split.any near
  let fillAt (l : List Bool) (j : Nat) : Bool := l.getD j false || (decide (0 < j) && l.getD (j - 1) false) || l.getD (j + 1) false
  let fills := px.map fun p => p.live.fill
  let addAll (c : Comp) : Comp :=
    (List.range (run.2 + 1 - run.1)).foldl (fun c i =>
      let j := run.1 + i
      match px[j]? with
      | none => c
      | some p =>
        let conf := (groups[j / 64]?).bind fun g => if g.1 = 0 then some g.2 else none
        c.add w.pageLine j p (fillAt fills j || fillAt prevFill j) conf (decide (j + 1 = px.length))) c
  let cols := (List.range (run.2 + 1 - run.1)).map (run.1 + ·)
  match touch with
  | [] =>
    let (comps, forced, s) :=
      if a.comps.length < 4096 then (a.comps, a.forced, a.s)
      else match victim a.comps with
        | some v => (a.comps.filter fun c => c.id != v.id, a.forced ++ [(v, 2 ^ 10)], a.s)
        | none => (a.comps, a.forced, a.s)
    let id := s.seg.nextId
    let (win, s) := s.winOpen run.1 px.length w
    let s : Block := { s with seg := { s.seg with nextId := id + 1 } }
    let c : Comp :=
      { id := id, page := w.page, profile := s.seg.profile, line := w.line, pageLine := w.pageLine,
        stamp := w.stamp, col0 := run.1, lo := run.1, hi := run.1, last := w.pageLine,
        lines := 0, area := 0, strong := 0, dMax := 0, pkLine := 0,
        pkCol := 0, pkZone := 0, dSum := 0, dlSum := 0, colSum := 0,
        lineSum := 0, live := (0, 0, 0), ref := (0, 0, 0), confMin := 255, unref := 0,
        seam := false, sat := false, fillAdj := false, cont := cont, merged := false,
        edgeR := false, base := w.colBase, cols := [], window := win }
    ⟨comps ++ [addAll c], bindK id cols a.now, forced, s⟩
  | t0 :: rest =>
    let old := rest.foldl (fun b c => if c.older b then c else b) t0
    let others := touch.filter fun c => c.id != old.id
    let m := others.foldl Comp.join old
    let m := addAll { m with cont := m.cont || cont }
    let mine := (touch.map fun c => lookupD c.id [] a.now).flatten ++ cols
    let now := bindK old.id mine (a.now.filter fun p => !(others.any fun c => c.id == p.1))
    let s := others.foldl (fun s c => s.winDrop c.window) a.s
    ⟨(a.comps.filter fun c => !(others.any fun o => o.id == c.id)).map fun c => if c.id = old.id then m else c, now,
      a.forced, s⟩

/-- The windows that a line's rows complete or clip (R388, R401). -/
def winRows (s : Block) (px : List SegPx) (now : List (Nat × List Nat)) : Block :=
  let step (w : SnipWin) : SnipWin :=
    let c := s.seg.comps.find? fun c => c.window == some w.id
    let w := match c with
      | some c => if c.merged && (decide (c.lo < w.col) || decide (w.col + w.cols ≤ c.hi)) then { w with clipped := true } else w
      | none => w
    if w.ended then w
    else
      let rows := w.rows ++ [snipRow w px ((c.map fun c => lookupD c.id [] now).getD [])]
      { w with rows := rows, ended := decide (w.want ≤ rows.length) }
  { s with seg := { s.seg with windows := s.seg.windows.map step } }

/-- The state registers of SEG (R409). -/
def segStat (s : Block) : Block :=
  (s.set uSeg F.SEG.STAT_OPEN s.seg.comps.length).set uSeg F.SEG.STAT_WINDOWS s.seg.windows.length

/-- A line segmented, by the values in force for it (R384-R402). -/
def segWork (l : TangoLine) (s : Block) : Block :=
  let w := l.w
  let old := s.seg.last
  let samePage := match old with | some (p, _) => p == w.page | none => false
  let joined := samePage && w.adj
  let en := s.on uSeg F.SEG.CFG_EN
  let s : Block := if joined && en then s else s.closeAll (s.seg.comps.map fun c => (c, 2 ^ 9)) w
  let s : Block := if joined && en then s else { s with seg := { s.seg with comps := [], split := [] } }
  let s : Block := if s.shedB then { s with seg := { s.seg with windows := [] } } else s
  let s : Block := if joined then s else { s with seg := { s.seg with
    hist := [], windows := s.seg.windows.map fun x => if x.ended then x else { x with cut := true, ended := true } } }
  let s : Block := if samePage then s else s.segPage w.page
  let s := s.segZones w.page (w.pageLine / 16)
  let px := s.segPixels l
  let s := s.subLine px
  let fills := px.map fun p => p.live.fill
  let prevFill := ((s.seg.hist.head?).map fun h => h.px.map fun p => p.live.fill).getD []
  let touched (c : Comp) : Comp :=
    if c.cols.any fun j => fills.getD j false || (decide (0 < j) && fills.getD (j - 1) false) || fills.getD (j + 1) false
    then { c with fillAdj := true } else c
  let cands := (px.zip (List.range px.length)).filterMap fun p => if p.1.cand then some p.2 else none
  let a := (runsOf cands).foldl (labelRun w px prevFill l.groups) ⟨s.seg.comps.map touched, [], [], s⟩
  let next := a.comps.map fun c =>
    let m := lookupD c.id [] a.now
    { c with cols := m, lines := c.lines + b2n (!m.isEmpty) }
  let limit := a.s.getI uSeg F.SEG.PROF_LIM_MAX_LINES a.s.seg.profile
  let isSplit (c : Comp) : Bool := !c.cols.isEmpty && decide (limit ≤ c.lines)
  let split := next.filter isSplit
  let gone := next.filter fun c => c.cols.isEmpty
  let stay := next.filter fun c => !isSplit c && !c.cols.isEmpty
  let s : Block := { a.s with seg := { a.s.seg with comps := next } }
  let s := s.winRows px a.now
  let s : Block := { s with seg := { s.seg with
    comps := stay, split := split.flatMap (·.cols)
    hist := (⟨w.line, w.page, w.pageLine, px⟩ :: s.seg.hist).take 3
    last := some (w.page, w.pageLine, w.line, w.stamp, w.t0), entered := s.lt } }
  let s := s.closeAll (a.forced ++ (split.map fun c => (c, 2 ^ 7)) ++ (gone.map fun c => (c, 0))) w
  let s : Block := match old with
    | some (p, y, n, st, t0) =>
      if (p ≠ w.page ∨ y / 16 ≠ w.pageLine / 16) ∧ y % 16 ≠ 15 then
        { s with seg := { s.seg with items := s.seg.items ++ [.rowEnd p (y / 16) n st t0] } }
      else s
    | none => s
  let s : Block := if w.pageLine % 16 = 15 then
      { s with seg := { s.seg with items := s.seg.items ++ [.rowEnd w.page (w.pageLine / 16) w.line w.stamp w.t0] } }
    else s
  s.snipSend.segStat

/-- SEG_LINE (R384-R402): the line enters SEG, which hands it and its components on to TAG. -/
def segLine (s : Block) : Block :=
  match s.tango.outq with
  | [] => s
  | l :: rest =>
    let s : Block := { s with tango := { s.tango with outq := rest } }
    ((s.lineInto uSeg l.w.line).atLine uSeg l.w.line (segWork l)).lineInto uTag l.w.line

/-- SEG_FLUSH (R390): no line has entered for FLUSH_US. -/
def segFlush (s : Block) : Block :=
  match s.seg.last with
  | some (p, y, n, st, t0) =>
    if !s.seg.comps.isEmpty && decide (1000 * s.get uTango F.TANGO.TIMING_FLUSH_US ≤ s.since s.seg.entered) then
      let s := (handOrder (s.seg.comps.map fun c => (c, 2 ^ 9))).foldl (fun s c => s.compClose c.1 c.2 n st p y t0) s
      ({ s with seg := { s.seg with comps := [] } } : Block).segStat
    else s
  | none => s

end Block
end Sys2Proof.Machine
end

