-- ==== Sys2Proof/Machine/Tag.lean ====
section
/-! DEFINITION. Classification, tags, their sequencing, the line port's datagrams, the measurement of the bound
(R392-R406, R411-R415, R434). -/

namespace Sys2Proof.Machine
namespace Block

/-- What a rule looks at (R394): the tag so far. -/
def ruleMatches (s : Block) (t : TagRec) (r : Nat) : Bool :=
  let g (f : Field) : Nat := s.getI uTag f r
  let w := Nat.min t.width 65535
  let h := Nat.min t.height 65535
  s.onI uTag F.TAG.RULE_W7_EN r &&
    decide (g F.TAG.RULE_W0_AREA_MIN ≤ t.area) && decide (t.area ≤ g F.TAG.RULE_W1_AREA_MAX) &&
    decide (g F.TAG.RULE_W2_DE_MAX_MIN ≤ t.deMax) && decide (g F.TAG.RULE_W2_DE_MEAN_MIN ≤ t.deMean) &&
    decide (g F.TAG.RULE_W3_WIDTH_MIN ≤ w) && decide (w ≤ g F.TAG.RULE_W3_WIDTH_MAX) &&
    decide (g F.TAG.RULE_W4_HEIGHT_MIN ≤ h) && decide (h ≤ g F.TAG.RULE_W4_HEIGHT_MAX) &&
    t.flags &&& g F.TAG.RULE_W5_FLAG_MASK == g F.TAG.RULE_W5_FLAG_VAL &&
    bit (g F.TAG.RULE_W6_ZONES) t.zone &&
    (match g F.TAG.RULE_W6_POLARITY with
      | 0 => true
      | 1 => decide (t.dlMean < 0)
      | 2 => decide (0 < t.dlMean)
      | _ => bit (Config.free s.freeCtr) 0)

/-- Class, actions and whether the default applied (R394). The reserved POLARITY 3 holds or not by a free value. -/
def classify (s : Block) (t : TagRec) : Nat × Nat × Bool :=
  match (List.range 32).find? fun r => s.ruleMatches t r with
  | some r => (s.getI uTag F.TAG.RULE_W6_CLASS r, s.getI uTag F.TAG.RULE_W7_ACTIONS r, false)
  | none => (s.get uTag F.TAG.DEFAULT_CLASS, s.get uTag F.TAG.DEFAULT_ACTIONS, true)

/-- Mean Lab32 of n pixels from their sums (R393). -/
def meanLab (l : Int × Int × Int) (n : Nat) : Nat :=
  LabPx.word ⟨divRound l.1 n, divRound l.2.1 n, divRound l.2.2 n, false, false, false⟩

/-- The flags of a component that rules see (R393, R397). -/
def compFlags (s : Block) (c : Comp) (fl : Nat) : Nat :=
  let missing := ((s.bindOf c.page).map fun b => b.missing).getD false
  b2n (c.unref == c.area) + 2 * b2n (c.unref != 0 && c.unref != c.area) + 4 * b2n c.seam + 8 * b2n c.sat +
    16 * b2n c.fillAdj + 32 * b2n (c.lo == 0) + 64 * b2n c.edgeR + 256 * b2n c.cont + 2 ^ 14 * b2n missing + fl

/-- The tag of a closed component before classification (R393, R403). -/
def compTag (s : Block) (c : Comp) (fl line stamp : Nat) : TagRec :=
  { cls := 0, actions := 0, device := s.devAddr, flags := s.compFlags c fl, seq := 0, loc := 0, stamp := c.stamp,
    stampClose := stamp, line := c.line, height := c.last + 1 - c.pageLine, page := c.page
    job := (((s.bindOf c.page).bind fun b => b.job).map PageJob.job).getD 0
    pageLine := c.pageLine, col := c.base + c.lo, width := c.hi + 1 - c.lo, area := Nat.min c.area 0xFFFFFFFF
    deMax := c.dMax, deMean := (divRound c.dSum c.area).toNat, dlMean := divRound c.dlSum c.area
    strong := c.strong
    cenCol := (divRound (16 * ((c.colSum : Int) - c.lo * c.area)) c.area).toNat
    cenLine := (divRound (16 * ((c.lineSum : Int) - c.pageLine * c.area)) c.area).toNat
    peakCol := c.base + c.pkCol, peakLine := c.pkLine, live := meanLab c.live c.area, ref := meanLab c.ref c.area
    zone := c.pkZone, profile := c.profile, confMin := c.confMin, folded := 0, closeLine := line % 2 ^ 32 }

/-- A 96-byte tag with its t0 in the LT of the device it goes to (R434): the offset of the link where that device is
the link's other end, else a value the device that sends does not hold. -/
def recordBody (s : Block) (addr : Nat) (r : TagRec) (t0 : Nat) : List Nat × Block :=
  let l := s.routeTo addr
  let near := (l.bind fun l => (s.link l).ident).map fun i => i.pos3 * 1024 + i.pos2 * 32 + i.pos
  match l with
  | some l =>
    if near = some addr then
      ((Rec.tag r).bytes ++ le 8 (wrapN 64 ((t0 : Int) - (s.link l).time.ofs / 65536)), s)
    else ((Rec.tag r).bytes ++ le 8 (s.fresh % 2 ^ 64), s.took)
  | none => ((Rec.tag r).bytes ++ le 8 (s.fresh % 2 ^ 64), s.took)

/-- This device sequences its own tags: it is in no ring, or is the system merging device (R400). -/
def mergesHere (s : Block) : Bool := s.ringState < 2 || s.systemMerge == s.devAddr

/-- A tag made here (R399, R403): its LOCAL, and its way to the merging device. -/
def tagMade (s : Block) (t : TagRec) (t0 k : Nat) : Block :=
  let loc := s.tag.localNext
  let t := { t with loc := loc }
  let s := { s with tag := { s.tag with
    localNext := (loc + 1) % 2 ^ 32
    places := if 256 < k then s.tag.places ++ [(loc, k)] else s.tag.places } }
  let s := (s.set uTag F.TAG.LOCAL_VALUE loc).inc uTag F.TAG.CNT_TAGS_COUNT
  let s := if bit t.flags 12 then s.inc uTag F.TAG.CNT_DEFAULT_COUNT else s
  if s.mergesHere then s.tagIn t t0
  else
    let (b, s) := s.recordBody s.systemMerge t t0
    s.sendClassA s.systemMerge b

/-- The window of a component whose tag carries SNIP waits for its end; another goes (R402). -/
def snipDecide (s : Block) (w : Option Nat) (snip : Bool) (loc : Nat) : Block :=
  match w with
  | none => s
  | some i =>
    if snip then
      ({ s with seg := { s.seg with windows := s.seg.windows.map fun x =>
        if x.id = i then { x with loc := some loc } else x } } : Block).snipSend
    else s.winDrop w

/-- A component folded into the overflow tag of its row (R398). -/
def foldInto (cls profile : Nat) (old : Option TagRec) (t : TagRec) : TagRec :=
  match old with
  | none => { t with
      cls := cls, actions := 1 + (t.actions &&& 0x26), flags := t.flags ||| 2 ^ 11, deMean := 0, dlMean := 0
      cenCol := 0, cenLine := 0, peakCol := 0, peakLine := 0, live := 0, ref := 0, zone := 0, confMin := 0
      profile := profile, folded := 1, strong := Nat.min t.strong 0xFFFF }
  | some o =>
    let col := Nat.min o.col t.col
    let pl := Nat.min o.pageLine t.pageLine
    { o with
      actions := o.actions ||| (t.actions &&& 0x26), flags := o.flags ||| t.flags
      line := Nat.min o.line t.line, stamp := if t.line < o.line then t.stamp else o.stamp
      col := col, width := Nat.max (o.col + o.width) (t.col + t.width) - col
      pageLine := pl, height := Nat.max (o.pageLine + o.height) (t.pageLine + t.height) - pl
      area := satAdd 0xFFFFFFFF o.area t.area, strong := satAdd 0xFFFF o.strong t.strong
      deMax := Nat.max o.deMax t.deMax, folded := satAdd 0xFFFF o.folded 1, page := t.page, job := t.job }

/-- The accumulation of a block row. -/
def foldOf (s : Block) (page row : Nat) : FoldAcc :=
  (s.tag.folds.find? fun f => f.page == page && f.row == row).getD ⟨page, row, 0, 0, none⟩

/-- The state with a block row's accumulation replaced; the last 64 rows are kept. -/
def setFold (s : Block) (f : FoldAcc) : Block :=
  { s with tag := { s.tag with
    folds := (f :: s.tag.folds.filter fun g => !(g.page == f.page && g.row == f.row)).take 64 } }

/-- The overflow tag of a row (R398). -/
def overflowTag (s : Block) (f : FoldAcc) (line stamp t0 k : Nat) : Block :=
  match f.tag with
  | none => s
  | some t =>
    let s := (s.setFold { f with tag := none, folded := 0 }).flag uTag F.TAG.FLAGS_OVERFLOW
    s.tagMade { t with stampClose := stamp, closeLine := line % 2 ^ 32 } t0 k

/-- A component classified (R394-R398, R402): with the rules in force for its own lines (R395), which lie in one page and so
under one value of every field of TAG, all of the page boundary; counted against the limit of its closing line's row. -/
def classifyComp (s : Block) (c : Comp) (fl line stamp page pageLine t0 : Nat) : Block :=
  let k := if s.tag.kline.1 = line then s.tag.kline.2 + 1 else 1
  let s : Block := { s with tag := { s.tag with kline := (line, k) } }
  let t := s.compTag c fl line stamp
  let (cls, act, dflt) := (s.valsAt uTag c.line).classify t
  let s := s.took.incI uTag F.TAG.CLASS_COUNT cls
  let t := { t with
    cls := cls, actions := act, flags := t.flags + 2 ^ 12 * b2n dflt + 2 ^ 13 * b2n c.window.isNone }
  if !bit act 0 then s.winDrop c.window
  else
    let f := s.foldOf page (pageLine / 16)
    if f.made < s.get uTag F.TAG.CFG_MAX_PER_BLOCK then
      let loc := s.tag.localNext
      let s := (s.setFold { f with made := f.made + 1 }).tagMade t t0 k
      s.snipDecide c.window (bit act 4) loc
    else
      let ovf := foldInto (s.get uTag F.TAG.CFG_OVF_CLASS) c.profile f.tag t
      let s := (s.setFold { f with folded := f.folded + 1, tag := some ovf }).inc uTag F.TAG.CNT_FOLDED_COUNT
      s.winDrop c.window

/-- TAG_CLASSIFY (R394-R399): the next item handed on by SEG. -/
def tagClassify (s : Block) : Block :=
  match s.seg.items with
  | [] => s
  | i :: rest =>
    let s : Block := { s with seg := { s.seg with items := rest } }
    (match i with
      | .comp c fl line stamp page pageLine t0 => s.atLine uTag line fun s => s.classifyComp c fl line stamp page pageLine t0
      | .rowEnd page row line stamp t0 =>
        let k := if s.tag.kline.1 = line then s.tag.kline.2 + 1 else 1
        s.atLine uTag line fun s => s.overflowTag (s.foldOf page row) line stamp t0 k).segStat

/-- A MARK tag goes to the axes of every member of the ring (R405): a broadcast that a hold keeps (R432). -/
def markOffer (s : Block) (t : TagRec) (t0 : Nat) : Block :=
  let s := { s with axes := s.axes.map fun (x : AxisSt) => { x with inbox := x.inbox ++ [t] } }
  let body := (Rec.tag t).bytes ++ le 8 t0
  match s.ringState with
  | 3 => s.broadcast 1 0x10 body
  | 2 => { s with ring := { s.ring with held := s.ring.held ++ [⟨2, s.devAddr + 0x4000, 0x10, s.devAddr, body⟩] } }
  | _ => s

/-- An ALERT pulse starts or starts again (R406); ALERTn keeps its level before RUNNING (R76). -/
def alertPulse (s : Block) : Block :=
  if !s.isRunning then s else
  let s := if s.tag.alertEnd.isSome then s else s.emit (.pin .alertn false)
  { s with tag := { s.tag with alertEnd := some ((s.lt + 1000 * s.get uTag F.TAG.ALERT_CFG_PULSE_US) % 2 ^ 64) } }

/-- The pulse of ALERTn ends (R406). -/
def alertPulseEnd (s : Block) : Block :=
  match s.tag.alertEnd with
  | some t =>
    if s.since t < 2 ^ 63 then
      { s with tag := { s.tag with alertEnd := none } }.emit (.pin .alertn true)
    else s
  | none => s

/-- Whether the bound covers a closing line of this device (R413). -/
def covered (s : Block) (line : Nat) : Bool :=
  let rows := s.gov.rows
  let i := rows.findIdx fun r => decide (r.line ≤ line)
  match rows[i]? with
  | none => s.on uLatgov F.LATGOV.CFG_EN
  | some r =>
    let escAt (j : Nat) : Bool := decide (j ≤ i) && ((rows[i - j]?).map fun r => r.esc).getD false && j != 0
    s.on uLatgov F.LATGOV.CFG_EN && r.enabled && !r.out && r.level != 4 && !escAt 1 && !escAt 2

/-- T_lines of a closing line once it is known (R411, R412). -/
def tLines (s : Block) (line t0 : Nat) : Option Nat :=
  match findK (line + 40) s.gov.t0 with
  | some t => some ((t + 2 ^ 64 - t0) % 2 ^ 64)
  | none =>
    let last := match s.gov.t0 with
      | (n, t) :: _ => if line ≤ n then t else t0
      | [] => t0
    let flush := 1000 * s.get uTango F.TANGO.TIMING_FLUSH_US
    if line + 40 < ((s.gov.t0.head?).map (·.1)).getD 0 then
      -- line L + 40 was kept out: the first line after it that closed
      ((s.gov.t0.filter fun p => decide (line + 40 < p.1)).getLast?).map fun p => (p.2 + 2 ^ 64 - t0) % 2 ^ 64
    else if flush ≤ s.since last then some ((last + 2 ^ 64 - t0) % 2 ^ 64 + flush)
    else none

/-- A measurement placed in the registers (R434). -/
def latPlace (s : Block) (m : TagMeas) (lim : Nat) (cov : Bool) : Block :=
  let lat := (m.alert + 2 ^ 64 - m.tag.t0) % 2 ^ 64
  let s := (s.set uLatgov F.LATGOV.LAT_LAST_NS (Nat.min lat 0xFFFFFFFF)).set uLatgov F.LATGOV.LAT_LIM_NS
    (Nat.min lim 0xFFFFFFFF)
  let s := if s.get uLatgov F.LATGOV.LAT_MAX_NS < Nat.min lat 0xFFFFFFFF then
      (s.set uLatgov F.LATGOV.LAT_MAX_NS (Nat.min lat 0xFFFFFFFF)).set uLatgov F.LATGOV.LAT_MAX_SEQ_SEQ m.tag.seq
    else s
  if !cov then s.inc uLatgov F.LATGOV.CNT_UNCOVERED_COUNT
  else if lim < lat then (s.inc uLatgov F.LATGOV.CNT_OVER_COUNT).flag uLatgov F.LATGOV.FLAGS_OVER
  else s

/-- Extensions of R414 in ns. -/
def latExt (s : Block) (t : TagTimed) : Nat :=
  1000 * (s.get uStitch F.STITCH.RING_WAIT_WAIT_US - 8) + 20 * (t.k - 256) + 500 * ((t.ahead - 128 + 14) / 15)

/-- The measurements whose bound is known are placed (R411, R434). For a tag of another device neither its close
instants nor its governor are held here: its bound and its cover are free values. -/
def latResolve (s : Block) : Block :=
  let ms := s.tag.meas
  ms.foldl (fun s m =>
    if m.tag.own then
      match s.tLines m.tag.line m.tag.t0 with
      | some t => s.latPlace m (t + 90000 + s.latExt m.tag) (s.covered m.tag.line)
      | none => { s with tag := { s.tag with meas := s.tag.meas ++ [m] } }
    else s.took.latPlace m (s.fresh % 2 ^ 32) (bit s.fresh 32)) { s with tag := { s.tag with meas := [] } }

/-- TAG_SEQUENCE (R400, R405, R406, R434): the next tag received takes its SEQ and its actions. -/
def tagSequence (s : Block) : Block :=
  match s.tag.inbox with
  | [] => s
  | (t, t0) :: rest =>
    let seq := s.tag.seqNext
    let t := { t with seq := seq }
    let own := t.device == s.devAddr
    let k := if own then lookupD t.loc 0 s.tag.places else 0
    let line := ((s.gov.t0.find? fun p => p.1 % 2 ^ 32 == t.closeLine).map (·.1)).getD t.closeLine
    let timed : TagTimed := ⟨seq, t0, line, own, k, s.tag.lportQ.length⟩
    let s : Block := { s with tag := { s.tag with
      inbox := rest, seqNext := (seq + 1) % 2 ^ 32
      places := if own then dropK t.loc s.tag.places else s.tag.places } }
    let s := s.set uTag F.TAG.SEQ_VALUE seq
    let goes := bit t.actions 1 && s.lportUp
    let s := if bit t.actions 1 then s.classA (.tag t) else s
    let s : Block := if goes then { s with tag := { s.tag with timed := s.tag.timed ++ [timed] } } else s
    let s := if bit t.actions 2 then s.classB 0 (.tag t) else s
    let s := if bit t.actions 3 then s.markOffer t t0 else s
    if bit t.actions 5 then
      let s := s.alertPulse
      if goes then s
      else ({ s with tag := { s.tag with meas := s.tag.meas ++ [⟨timed, s.lt⟩] } } : Block).latResolve
    else s

/-- LPORT_DATAGRAM (R404, R434). -/
def lportDatagram (s : Block) : Block := s.datagramOut.latResolve

end Block
end Sys2Proof.Machine
end

