-- ==== Sys2Proof/Machine/Axis.lean ====
section
/-! DEFINITION. The marker axes: tags taken, plans, servo frames, states, firing (R436-R455). Positions are in nm,
speeds in µm/s, times in ns. The law of a plan is not in the spec: its set-points and its duration are free values
within the limits the spec sets (log entry 14). -/

namespace Sys2Proof.Machine

/-- Largest n with n³ ≤ v, by binary digits from bit k downward. -/
def icbrtFrom (v : Nat) : Nat → Nat → Nat
  | 0, r => if (r + 1) * (r + 1) * (r + 1) ≤ v then r + 1 else r
  | k + 1, r =>
    let c := r + 2 ^ (k + 1)
    icbrtFrom v k (if c * c * c ≤ v then c else r)

/-- Integer cube root of a number below 2^120. -/
def icbrt (v : Nat) : Nat := icbrtFrom v 40 0

/-- Time of the time-optimal move of d nm from rest to rest under speed V (µm/s), acceleration A (mm/s²) and jerk J
(m/s³), in ns, rounded up (R445). A limit of zero counts as one. -/
def restTime (d v a j : Nat) : Nat :=
  let v := Nat.max v 1; let a := Nat.max a 1; let j := Nat.max j 1
  let ta := a * 10 ^ 6 / j
  let short := d * j * j ≤ 2 * a * a * a
  let t := if short then 4 * (icbrt (d * 10 ^ 18 / (2 * j)) + 1)
    else ta + isqrt (ta * ta + 4 * d * 10 ^ 12 / a) + 1
  let cruise := if a * a ≤ v * j then d * 10 ^ 6 / v + v * 10 ^ 6 / a + ta + 1
    else d * 10 ^ 6 / v + 2 * (isqrt (v * 10 ^ 12 / j) + 1)
  let far := if a * a ≤ v * j then (v * (a * 10 ^ 6 / j) + v * v * 10 ^ 6 / a) / 10 ^ 6 ≤ d
    else 2 * v * isqrt (v * 10 ^ 12 / j) / 10 ^ 6 ≤ d
  if d = 0 then 0 else if far then cruise else t

/-- A time in which a carriage at speed v (µm/s) and acceleration c (0.01 m/s²) can be at rest, ns, rounded up. -/
def restIn (v c a j : Nat) : Nat :=
  let a := Nat.max a 1; let j := Nat.max j 1
  let t1 := c * 10 ^ 7 / j + 1
  let v := v + c * 10 * t1 / 10 ^ 6
  t1 + v * 10 ^ 6 / a + a * 10 ^ 6 / j + 2 * isqrt (v * 10 ^ 12 / j) + 4

namespace Block

/-- An axis. -/
def axis (s : Block) (a : Nat) : AxisSt :=
  nth s.axes a ⟨0, none, false, 0, 0, 0, false, [], [], 0, none, [], 0, 0, 0, 0, false, [], [], none, 0⟩

/-- The state with an axis changed. -/
def setAxis (s : Block) (a : Nat) (f : AxisSt → AxisSt) : Block := { s with axes := upd s.axes a f }

/-- State of an axis (R455): 0 OFF, 1 UNHOMED, 2 HOMING, 3 READY, 4 STOPPING, 5 STOPPED, 6 FAULT. -/
def axisState (s : Block) (a : Nat) : Nat := s.get (uAxis a) F.AXIS.STAT_STATE

/-- POS of the last good status. -/
def actPos (s : Block) (a : Nat) : Int := s.getS (uAxis a) F.AXIS.ACT_POS_NM

/-- The queue's registers. -/
def axisQueueRegs (s : Block) (a : Nat) : Block :=
  let q := (s.axis a).queue
  let s := s.set (uAxis a) F.AXIS.STAT_QUEUED q.length
  match q with
  | m :: _ => s.putS (uAxis a) F.AXIS.HEAD_X_NM m.x
  | [] => s

/-- An outcome record (R454): its counter and flag, and the record, whose number is spent even when it is shed. -/
def axisRecord (s : Block) (a : Nat) (r : MarkRec) : Block :=
  let u := uAxis a
  let s : Block := match r.outcome with
    | 0 => s.inc u F.AXIS.CNT_FIRED_COUNT
    | 1 | 2 => (s.inc u F.AXIS.CNT_LATE_COUNT).flagRaise u F.AXIS.FLAGS_LATE
    | 3 => s.inc u F.AXIS.CNT_REFUSED_COUNT
    | 4 => s.inc u F.AXIS.CNT_MERGED_COUNT
    | _ => s.inc u F.AXIS.CNT_CANCEL_COUNT
  let n := (s.axis a).recSeq
  (s.setAxis a fun x => { x with recSeq := (n + 1) % 0x10000 }).classB 0 (.mark { r with seq := n })

/-- Time to the crossing of a fire point at the present speed, ns; none when the web does not move forward. -/
def crossIn (s : Block) (f : Int) : Option Int :=
  if 0 < s.web.vNow then some ((f * 65536 - s.web.pNow) * 10 ^ 9 / s.web.vNow) else none

/-- MARGIN of a mark, µs (R454). -/
def margin (s : Block) (m : AxisMark) : Int :=
  match m.planEnd with
  | none => 0
  | some e =>
    match s.crossIn m.f with
    | some c => clampS 32 (((s.lt : Int) + c - e) / 1000)
    | none => 2 ^ 31 - 1

/-- The record of a mark of the queue. -/
def markRecord (s : Block) (a outcome cause stamp : Nat) (decided : Bool) (m : AxisMark) : MarkRec :=
  ⟨outcome, cause, s.devAddr, a + 2 * b2n (decided && s.obsState == 3) + 4 * b2n m.predLate + 8 * b2n m.limit, m.seq,
    stamp % 2 ^ 32, m.x, if decided then clampS 32 (m.x - s.actPos a) else 0, s.margin m, 0⟩

/-- Every queued mark is cancelled (R453). -/
def axisCancel (s : Block) (a cause : Nat) : Block :=
  let q := (s.axis a).queue
  let rs := q.map (s.markRecord a 5 cause s.stamp false)
  let s := s.setAxis a fun x => { x with queue := [] }
  (rs.foldl (fun s r => s.axisRecord a r) s).axisQueueRegs a

/-- Entry into FAULT (R452). -/
def axisFault (s : Block) (a cause : Nat) : Block :=
  let u := uAxis a
  let s := (s.set u F.AXIS.STAT_STATE 6).set u F.AXIS.STAT_CAUSE cause
  let s := (s.setAxis a fun x => { x with plan := none, replans := [], vel := 0, acc := 0, clamped := false, clearing := false }).axisCancel a 6
  (s.log u 0x0052 2 a cause 0).flagRaise u F.AXIS.FLAGS_FAULT

/-- RUNNING with EN: the axes leave OFF (R452). -/
def axesStart (s : Block) : Block :=
  [0, 1].foldl (fun s a =>
    if s.axisState a = 0 && s.on (uAxis a) F.AXIS.CFG_EN then s.set (uAxis a) F.AXIS.STAT_STATE 1 else s) s

/-- The first line of a page: every axis records its start and pitch (R441). -/
def axesPage (s : Block) (d : Decided) : Block :=
  { s with axes := s.axes.map fun (x : AxisSt) => { x with pages := (⟨d.page, d.start, d.pitch⟩ :: x.pages).take 32 } }

/-- `WEB.STATE.OBS` has entered FAULT (R453). -/
def axesWebFault (s : Block) : Block := [0, 1].foldl (fun s a => s.axisCancel a 8) s

/-- The limits of speed, acceleration and jerk. -/
def axisLimits (s : Block) (a : Nat) : Nat × Nat × Nat :=
  (s.get (uAxis a) F.AXIS.LIM_V_UM_S, s.get (uAxis a) F.AXIS.LIM_A_MM_S2, s.get (uAxis a) F.AXIS.LIM_J_M_S3)

/-- The limits in force in an axis' state: of a stop the jerk and the stop's deceleration (R453), else R445's. -/
def limitsNow (s : Block) (a : Nat) : Nat × Nat × Nat :=
  let (v, ac, j) := s.axisLimits a
  if s.axisState a = 4 then (0, s.get (uAxis a) F.AXIS.LIM_STOP_MM_S2, j) else (v, ac, j)

/-- The motion is replanned toward what it is after now: the head, without one the target of the last plan (R446). -/
def replanNow (s : Block) (a : Nat) : Block :=
  let x := s.axis a
  let last := (x.replans.getLast?.map AxisEvent.target).getD ((x.plan.map AxisPlan.target).getD x.cmd)
  let e : AxisEvent := match x.queue.head? with
    | some m => ⟨s.lt, false, some m.id, m.x⟩
    | none => ⟨s.lt, s.axisState a == 4, none, last⟩
  s.setAxis a fun x => { x with replans := x.replans ++ [e] }

/-- Staged values have come into force on an axis, from the state before: MARK_EN gone cancels, new limits replan
(R446, R453). -/
def axisCommitted (old s : Block) (a : Nat) : Block :=
  let s : Block := if old.on (uAxis a) F.AXIS.SEL_MARK_EN && !s.on (uAxis a) F.AXIS.SEL_MARK_EN then s.axisCancel a 9 else s
  if old.limitsNow a ≠ s.limitsNow a ∧ (s.axisState a = 3 ∨ s.axisState a = 4) then s.replanNow a else s

/-- A mark put in its place in the queue (R444). -/
def insertMark (m : AxisMark) : List AxisMark → List AxisMark
  | [] => [m]
  | q :: r => if m.f < q.f then m :: q :: r else q :: insertMark m r

/-- A new head replans the motion (R446). -/
def headEvent (s : Block) (a : Nat) (old : Option Nat) : Block :=
  let new := ((s.axis a).queue.head?).map AxisMark.id
  let s := s.axisQueueRegs a
  if new.isSome && new != old then s.replanNow a else s

/-- MARK_TAG (R442, R443, R454): the next MARK tag at an axis. -/
def markTag (s : Block) (a : Nat) : Block :=
  let u := uAxis a
  match (s.axis a).inbox with
  | [] => s
  | t :: rest =>
    let s := s.setAxis a fun x => { x with inbox := rest }
    let classOn := if t.cls < 32 then bit (s.get u F.AXIS.CLASS_LO_MASK) t.cls else bit (s.get u F.AXIS.CLASS_HI_MASK) (t.cls - 32)
    if !(s.on u F.AXIS.CFG_EN && s.on u F.AXIS.SEL_MARK_EN && classOn) then s
    else
      let x := s.getS u F.AXIS.XMAP_ORG_NM +
        divRound (((16 * t.col + t.cenCol : Nat) - (16 * s.get u F.AXIS.XMAP_COL0_COL : Nat)) * s.get u F.AXIS.XMAP_PITCH_PM) 16000
      if x < s.getS u F.AXIS.VLIM_MIN_NM ∨ s.getS u F.AXIS.VLIM_MAX_NM < x then s.inc u F.AXIS.CNT_OUTSIDE_COUNT
      else
        let out (outcome cause : Nat) : Block :=
          s.axisRecord a ⟨outcome, cause, s.devAddr, a, t.seq, s.stamp, x, 0, 0, 0⟩
        match (s.axis a).pages.find? fun (p : AxisPage) => p.page == t.page with
        | none => out 3 1
        | some p =>
          let f := p.start + divRound ((16 * t.pageLine + t.cenLine + 8 : Nat) * p.pitch : Nat) 16000 +
            1000 * s.get u F.AXIS.STATION_DIST_UM
          let near (m : AxisMark) : Bool :=
            decide ((f - m.f).natAbs ≤ 1000 * s.get u F.AXIS.MERGE_DOWN_UM) &&
              decide ((x - m.x).natAbs ≤ 1000 * s.get u F.AXIS.MERGE_CROSS_UM)
          let q := (s.axis a).queue
          if s.axisState a ≠ 3 then out 3 2
          else if f * 65536 ≤ s.web.pNow then out 3 3
          else if q.any near then out 4 0
          else if 64 ≤ q.length then out 3 4
          else
            let old := (q.head?).map AxisMark.id
            (s.setAxis a fun y => { y with
              queue := insertMark ⟨y.nextId, f, x, t.seq, false, false, none, false⟩ y.queue
              nextId := y.nextId + 1 }).headEvent a old

/-- The plan of an event, built from the last set-point (R445, R446, R451). -/
def planMake (s : Block) (a : Nat) (ev : AxisEvent) : Block :=
  let u := uAxis a
  let x := s.axis a
  let p0 := x.cmd
  let stop := ev.stop
  let rest := x.vel == 0 && x.acc == 0
  let target := if stop then (if rest then p0 else p0 + sext 32 s.fresh) else ev.target
  let (v, ac, j) := s.axisLimits a
  let ac' := if stop then s.get u F.AXIS.LIM_STOP_MM_S2 else ac
  let period := 1000 * s.get u F.AXIS.CFG_PERIOD_US
  let d := (target - p0).natAbs
  let dur :=
    if rest then (if d = 0 then 0 else restTime d v ac' j + Config.free (s.freeCtr + 1) % (period + 1))
    else
      let t := restIn x.vel.natAbs x.acc.natAbs ac' j
      let far := if stop then 0 else restTime (d + v * t / 10 ^ 6) v ac' j
      Config.free (s.freeCtr + 1) % (t + far + period + 1)
  let e := s.lt + dur
  let s : Block := { s with freeCtr := s.freeCtr + 2 }
  let late (m : AxisMark) : Bool := match s.crossIn m.f with
    | some c => decide ((s.lt : Int) + c < e)
    | none => false
  let served (m : AxisMark) : Bool := ev.mark == some m.id
  let any := x.queue.any fun m => served m && late m
  let s := s.setAxis a fun y => { y with
    plan := some ⟨ev.mark, target, p0, rest, s.lt, e⟩
    queue := y.queue.map fun m => if served m then { m with predLate := m.predLate || late m, planEnd := some e } else m }
  if any then s.flag u F.AXIS.FLAGS_PRED_LATE else s

/-- A plan that leaves the virtual limits (R447): the mark's LIMIT, and the flag and event as it leaves them. -/
def planLimit (s : Block) (a : Nat) : Block :=
  let first := !(s.axis a).clamped
  let s := s.setAxis a fun y => { y with
    clamped := true
    queue := y.queue.map fun m => if (y.plan.bind AxisPlan.mark) = some m.id then { m with limit := true } else m }
  if first then s.flagRaise (uAxis a) F.AXIS.FLAGS_LIMIT else s

/-- The set-point for an instant: position, speed, acceleration (R445-R447). Within a plan it is a free value: between
the ends of a plan from rest, within the limits of speed and acceleration. -/
def setPoint (s : Block) (a : Nat) (at_ : Nat) : Int × Int × Int × Block :=
  let u := uAxis a
  let lo := s.getS u F.AXIS.VLIM_MIN_NM
  let hi := s.getS u F.AXIS.VLIM_MAX_NM
  let clamp (pos vel acc : Int) (s : Block) : Int × Int × Int × Block :=
    if pos < lo then (lo, 0, 0, s.planLimit a)
    else if hi < pos then (hi, 0, 0, s.planLimit a)
    else (pos, vel, acc, s.setAxis a fun x => { x with clamped := false })
  match (s.axis a).plan with
  | none => clamp (s.axis a).cmd 0 0 s
  | some p =>
    let done := decide (p.end_ ≤ at_)
    let (v, ac, _) := s.axisLimits a
    let f (i : Nat) : Nat := Config.free (s.freeCtr + i)
    let pos : Int := if done then p.target
      else if p.rest then
        (if p.from_ ≤ p.target then p.from_ + (f 0 % ((p.target - p.from_).toNat + 1) : Nat)
         else p.from_ - (f 0 % ((p.from_ - p.target).toNat + 1) : Nat))
      else sext 32 (f 0)
    let vel : Int := if done then 0 else (f 1 % (2 * v + 1) : Nat) - (v : Int)
    let acc : Int := if done then 0 else ((f 2 % (2 * ac + 1) : Nat) - (ac : Int)) / 10
    let s : Block := if done then s else { s with freeCtr := s.freeCtr + 3 }
    clamp pos vel acc s

/-- FIRE_SRC in force; the reserved value acts as one of the others, by a free value. -/
def fireSrc (s : Block) (a : Nat) : Nat :=
  let v := s.get (uAxis a) F.AXIS.SEL_FIRE_SRC
  if v = 3 then s.fresh % 3 else v

/-- Firing is open: the web runs forward and its position is known (R448). -/
def fireOpen (s : Block) : Bool :=
  s.get uWeb F.WEB.STATE_DIR == 1 && (s.obsState == 2 || s.obsState == 3) && decide (0 < s.web.vNow)

/-- Whether a mark is on time (R450). -/
def markOnTime (s : Block) (a : Nat) (m : AxisMark) : Bool :=
  s.axisState a == 3 && (s.axis a).replans.isEmpty &&
    (match (s.axis a).plan with
      | some p => p.mark == some m.id && decide (p.end_ ≤ s.lt)
      | none => false) &&
    decide ((s.actPos a - m.x).natAbs ≤ 1000 * s.get (uAxis a) F.AXIS.TOL_IN_POS_UM)

/-- The head leaves the queue; the next becomes the head (R444). -/
def dropHead (s : Block) (a : Nat) : Block :=
  let old := ((s.axis a).queue.head?).map AxisMark.id
  (s.setAxis a fun x => { x with queue := x.queue.drop 1 }).headEvent a old

/-- The decision of the head for a fire instant (R448-R450): `pin` when AXa_MARK is to pulse. Gives whether it fires. -/
def decideMark (s : Block) (a : Nat) (m : AxisMark) (fire : Nat) (pin : Bool) : Bool × Block :=
  let onTime := s.markOnTime a m
  let fires := onTime || s.on (uAxis a) F.AXIS.SEL_LATE_MODE
  let r := s.markRecord a (if onTime then 0 else if fires then 1 else 2) 0 (if fires then fire else s.stamp) true m
  let s := s.dropHead a
  if fires && pin then (true, s.setAxis a fun x => { x with shots := x.shots ++ [⟨fire, r⟩] })
  else (fires, s.axisRecord a r)

/-- MARK_DECISION at an observer update (R448), for every head within reach. -/
def markDecide (s : Block) (a : Nat) : Nat → Block
  | 0 => s
  | fuel + 1 =>
    match (s.axis a).queue with
    | [] => s
    | m :: _ =>
      let delay := s.get (uAxis a) F.AXIS.MARK_DELAY_NS
      if s.fireOpen && s.fireSrc a != 1 &&
          decide ((m.f * 65536 - s.web.pNow) * 10 ^ 9 ≤ s.web.vNow * (delay + 6120 : Nat)) then
        let wait := ((s.crossIn m.f).getD 0 - delay)
        let fire := even (s.lt + (if wait < 1000 then 1000 else wait.toNat))
        (s.decideMark a m fire true).2.markDecide a fuel
      else s

/-- The decisions of both axes, which control core 3 takes (R83). -/
def marksDecide (s : Block) : Block :=
  if nth s.boot.cores 3 false then (s.markDecide 0 65).markDecide 1 65 else s

/-- FIRE and FIRE_AT of the frame that carries t_{k+1} (R449). -/
def frameFire (s : Block) (a next period : Nat) : Option Nat × Block :=
  match (s.axis a).queue with
  | [] => (none, s)
  | m :: _ =>
    let src := s.fireSrc a
    match s.crossIn m.f with
    | none => (none, s)
    | some c =>
      let t := (s.lt : Int) + c - s.get (uAxis a) F.AXIS.MARK_DELAY_NS
      if src = 0 || m.framed || !s.fireOpen || decide (t < next) || decide ((next + period : Nat) ≤ t) then (none, s)
      else
        let at_ := ((t - next) / 20).toNat
        if src = 2 then
          let fires := s.markOnTime a m || s.on (uAxis a) F.AXIS.SEL_LATE_MODE
          let s := s.setAxis a fun x => { x with queue := match x.queue with
            | q :: r => { q with framed := true } :: r
            | [] => [] }
          (if fires then some at_ else none, s)
        else
          let (fires, s) := s.decideMark a m t.toNat false
          (if fires then some at_ else none, s)

/-- The bytes of a set-point frame (R438). -/
def frameBytes (addr k cmd : Nat) (pos vel acc : Int) (fireAt : Nat) : List Nat :=
  let b := [0xA5, 1 + 16 * addr, k % 256, cmd] ++ leS 4 pos ++ leS 4 vel ++ leS 2 (clampS 16 acc) ++ le 2 fireAt ++ [0, 0]
  b ++ le 2 (crc16 0xFFFF b)

/-- A bad status (R440). -/
def badStatus (s : Block) (a : Nat) : Block :=
  let u := uAxis a
  let n := (s.axis a).bad + 1
  let s := (s.setAxis a fun x => { x with due := false, bad := n, good := 0 }).inc u F.AXIS.CNT_LINK_ERR_COUNT
  if s.get u F.AXIS.CFG_LINK_LOSS_N ≤ n ∧ s.axisState a ≠ 6 ∧ s.axisState a ≠ 0 then s.axisFault a 2 else s

/-- SERVO_PERIOD (R437, R446, R452): an axis sends its set-point frame. -/
def servoPeriod (s : Block) (a : Nat) : Block :=
  let u := uAxis a
  let period := 1000 * s.get u F.AXIS.CFG_PERIOD_US
  let due := match (s.axis a).period with
    | some t => decide (period ≤ s.since t + 1)
    | none => true
  if 2 ≤ a ∨ s.axisState a = 0 ∨ !due ∨ nth s.boot.cores 3 false = false then s
  else
    let next := s.lt + period
    let s : Block := if (s.axis a).due then s.badStatus a else s
    let ripe (e : AxisEvent) : Bool := decide (10000 ≤ s.since e.at_)
    let s : Block := match ((s.axis a).replans.filter ripe).getLast? with
      | some e => (s.setAxis a fun x => { x with replans := x.replans.filter fun e => !ripe e }).planMake a e
      | none => s
    let stopped := s.axisState a == 4 && (s.axis a).replans.isEmpty &&
      (match (s.axis a).plan with | some p => decide (p.end_ ≤ s.lt) | none => true)
    let s : Block := if stopped then s.set u F.AXIS.STAT_STATE 5 else s
    let st := s.axisState a
    let (fire, s) := if st = 3 then s.frameFire a next period else (none, s)
    let old := (s.axis a).cmd
    let (pos, vel, acc, s) :=
      if st = 3 ∨ st = 4 then s.setPoint a next
      else if st = 5 then (old, 0, 0, s)
      else (s.actPos a, 0, 0, s)
    let cmd := b2n (st == 3 || st == 4) + 2 * b2n fire.isSome + 4 * b2n (st == 4) + 8 * b2n (st == 2) +
      16 * b2n (st == 6 && (s.axis a).clearing)
    let fr := frameBytes (s.get u F.AXIS.CFG_DRIVE_ADDR) (s.axis a).k cmd pos vel acc (fire.getD 0)
    let s := s.emits [.pin (.axisDe a) true, .axisFrame a fr, .pin (.axisDe a) false]
    (s.putS u F.AXIS.CMD_POS_NM pos).setAxis a fun x => { x with
      k := x.k + 1, period := some s.lt, due := true, cmd := pos, prev := old, vel := vel, acc := acc }

/-- A good status applied to the state machine (R452). -/
def goodStatus (s : Block) (a : Nat) (b : List Nat) : Block :=
  let u := uAxis a
  let stat := leAt b 3 1
  let pos := sext 32 (leAt b 4 4)
  let prev := (s.axis a).prev
  let s := ((s.putS u F.AXIS.ACT_POS_NM pos).set u F.AXIS.DRIVE_STATUS stat).set u F.AXIS.DRIVE_CODE (leAt b 8 2)
  let n := if bit stat 1 && !bit stat 2 then (s.axis a).good + 1 else 0
  let s := s.setAxis a fun x => { x with due := false, bad := 0, good := n }
  let st := s.axisState a
  if st = 6 then
    if (s.axis a).clearing && !bit stat 2 then
      (s.setAxis a fun x => { x with clearing := false }).set u F.AXIS.STAT_STATE 1
    else s
  else if bit stat 2 then s.axisFault a 1
  else if st = 3 ∨ st = 4 ∨ st = 5 then
    if !bit stat 1 then
      let s := (s.set u F.AXIS.STAT_STATE 1).flag u F.AXIS.FLAGS_POS_LOST
      (s.setAxis a fun x => { x with plan := none, replans := [], vel := 0, acc := 0, clamped := false }).axisCancel a 7
    else if st ≠ 5 ∧ 1000 * s.get u F.AXIS.TOL_FE_MAX_UM < (prev - pos).natAbs then s.axisFault a 3
    else s
  else if st = 2 ∧ 2 ≤ n then
    (s.setAxis a fun x => { x with plan := none, replans := [], cmd := pos, prev := pos, vel := 0, acc := 0 }).set u
      F.AXIS.STAT_STATE 3
  else s

/-- AXIS_STATUS (R439, R440): a status frame arrives. -/
def axisStatus (s : Block) (a : Nat) (b : List Nat) : Block :=
  let x := s.axis a
  let u := uAxis a
  if 2 ≤ a ∨ x.due = false ∨ s.axisState a = 0 then s
  else
    let inTime := match x.period with
      | some t => decide (s.since t ≤ 1000 * s.get u F.AXIS.CFG_RESP_US)
      | none => false
    let ok := b.length == 14 && leAt b 0 1 == 0x5A && leAt b 1 1 == 9 + 16 * s.get u F.AXIS.CFG_DRIVE_ADDR &&
      leAt b 12 2 == crc16 0xFFFF (b.take 12) && leAt b 2 1 == (x.k + 255) % 256
    if inTime && ok then s.goodStatus a b else s.badStatus a

/-- AXIS_RESP_TIMEOUT (R440). -/
def axisRespTimeout (s : Block) (a : Nat) : Block :=
  match (s.axis a).period with
  | some t =>
    if (s.axis a).due && decide (1000 * s.get (uAxis a) F.AXIS.CFG_RESP_US ≤ s.since t) then s.badStatus a else s
  | none => s

/-- MARK_PULSE (R448): a decided mark's instant has come. -/
def markPulse (s : Block) (a : Nat) : Block :=
  match (s.axis a).shots.find? fun h => decide (h.rise ≤ s.lt + 1) with
  | none => s
  | some h =>
      let e := h.rise + 1000 * s.get (uAxis a) F.AXIS.MARK_CFG_WIDTH_US
      let s : Block := if (s.axis a).pulseEnd.isSome then s else s.emit (.pin (.mark a) true)
      (s.setAxis a fun x => { x with shots := x.shots.erase h, pulseEnd := some e }).axisRecord a h.rec_

/-- MARK_PULSE_END (R448). -/
def markPulseEnd (s : Block) (a : Nat) : Block :=
  match (s.axis a).pulseEnd with
  | some t =>
    if t ≤ s.lt + 1 then (s.setAxis a fun x => { x with pulseEnd := none }).emit (.pin (.mark a) false) else s
  | none => s

/-- A home request (R452). -/
def axisHome (s : Block) (a : Nat) : Block :=
  if s.axisState a = 1 then
    (s.setAxis a fun x => { x with homeFrom := s.lt, good := 0 }).set (uAxis a) F.AXIS.STAT_STATE 2
  else s

/-- A stop request (R452, R453). -/
def axisStop (s : Block) (a : Nat) : Block :=
  match s.axisState a with
  | 3 =>
    let s := (s.set (uAxis a) F.AXIS.STAT_STATE 4).axisCancel a 5
    s.replanNow a
  | 4 | 5 => s.axisCancel a 5
  | _ => s

/-- A resume request (R452). -/
def axisResume (s : Block) (a : Nat) : Block :=
  if s.axisState a = 5 then
    (s.setAxis a fun x => { x with plan := none, replans := [] }).set (uAxis a) F.AXIS.STAT_STATE 3
  else s

/-- A clear-fault request (R452). -/
def axisClearFault (s : Block) (a : Nat) : Block :=
  if s.axisState a = 6 then s.setAxis a fun x => { x with clearing := true } else s

/-- HOME_TIMEOUT (R452). -/
def homeTimeout (s : Block) (a : Nat) : Block :=
  if s.axisState a = 2 ∧ s.get (uAxis a) F.AXIS.TOL_HOME_S * 10 ^ 9 ≤ s.since (s.axis a).homeFrom then s.axisFault a 4
  else s

end Block
end Sys2Proof.Machine
end

