-- ==== Sys2Proof/Machine/Dma.lean ====
section
/-! DEFINITION. The DMA engine's channels: GO, STOP, REARM, descriptors, completion, watchdog, streams (R486-R502).
The movement of data is in DmaMove. -/

namespace Sys2Proof.Machine
namespace Block

/-- STATE of a channel: 0 IDLE, 1 RUN, 2 STOPPING, 3 STOPPED. -/
def chanState (s : Block) (n : Nat) : Nat := s.getI uDma F.DMA.CH_STAT_STATE n

/-- A descriptor address captured: address, space, CHAIN_LIMIT, TAG_MAX (R491). -/
def goCapture (s : Block) (n : Nat) : Nat × Nat × Nat × Nat :=
  (s.getI uDma F.DMA.CH_SH_LO_ADDR n * 16 + s.getI uDma F.DMA.CH_SH_HI_ADDR n * 2 ^ 32,
    s.getI uDma F.DMA.CH_CFG_DESC_SPACE n, s.getI uDma F.DMA.CH_CFG_CHAIN_LIMIT n, s.getI uDma F.DMA.CH_CFG_TAG_MAX n)

/-- The fetch of a descriptor goes out when a tag is free (R492, R500). -/
def fetchGo (s : Block) (n : Nat) : Block :=
  let c := s.chan n
  let asked := s.dma.flight.any fun a => a.chan == n && a.kind == .fetch
  if !c.fetching || asked || !s.tagFree n .fetch c.descSpace then s
  else if c.descSpace = 1 then
    if !s.dramUp then s.access n .fetch 1 c.descAddr 32 [] true
    else
    let (b, ue, s) := s.dramRead c.descAddr 32
    s.access n .fetch 1 c.descAddr 32 b !ue.isEmpty
  else (s.emit (.hostRead s.dma.nextId c.descAddr 32)).access n .fetch 0 c.descAddr 32 [] false

/-- A descriptor is to be fetched (R492). -/
def dmaFetch (s : Block) (n addr space : Nat) : Block :=
  (s.setChan n { s.chan n with
    fetching := true, desc := none, descAddr := addr, descSpace := space, requested := 0, written := 0, buffer := []
    error := none, streamFirst := none, streamEnd := false }).fetchGo n

/-- A chain starts at captured values (R491). -/
def chainStart (s : Block) (n : Nat) (c : Nat × Nat × Nat × Nat) : Block :=
  let s := s.setChan n { s.chan n with
    chain := 0, limit := c.2.2.1, tagMax := c.2.2.2, repoint := none, goInStop := false, stopReq := false, heldGo := false }
  let s := ((s.setI uDma F.DMA.CH_STAT_STATE n 1).setI uDma F.DMA.CH_STAT_STOP_CAUSE n 0).setI uDma F.DMA.CH_STAT_PEND n 0
  s.dmaFetch n c.1 c.2.1

/-- DMA_GO (R481, R491): the host writes GO on channel n. -/
def dmaGo (s : Block) (n : Nat) : Block :=
  let c := s.goCapture n
  if 56 ≤ n then s
  else if !s.isRunning then s.setChan n { s.chan n with heldGo := true, repoint := some c }
  else if s.chanState n = 0 ∨ s.chanState n = 3 then s.chainStart n c
  else (s.setChan n { s.chan n with repoint := some c, goInStop := s.chanState n == 2 }).setI uDma F.DMA.CH_STAT_PEND n 1

/-- The GOs held before RUNNING take effect (R481). -/
def heldGos (s : Block) : Block :=
  (List.range 56).foldl (fun s n =>
    match (s.chan n).heldGo, (s.chan n).repoint with
    | true, some c => s.chainStart n c
    | _, _ => s) s

/-- A STOP request (R496, R502). -/
def dmaStop (s : Block) (n : Nat) : Block :=
  if s.chanState n = 1 ∨ s.chanState n = 2 then
    let c := s.chan n
    let stream := match c.desc with
      | some d => bits d.ctrl 1 0 == 3
      | none => false
    (s.setChan n { c with stopReq := true, goInStop := false, streamEnd := c.streamEnd || stream }).setI uDma F.DMA.CH_STAT_STATE n 2
  else s

/-- A write of REARM (R497). -/
def dmaRearm (s : Block) (n : Nat) : Block :=
  if 56 ≤ n then s else s.setChan n { s.chan n with rearm := true }

/-- The stream a descriptor takes, if its source is an outbound stream's port. -/
def streamOf (d : DmaDesc) : Option Nat :=
  if bits d.ctrl 1 0 = 3 ∧ 0x10 ≤ d.src ∧ d.src ≤ 0x13 then some (d.src - 0x10) else none

/-- A descriptor begins (R492, R502). -/
def descBegin (s : Block) (n : Nat) (d : DmaDesc) : Block :=
  let s := s.setChan n { s.chan n with fetching := false, desc := some d }
  let s := if n < 56 then
      (s.setI uDma F.DMA.CH_CUR_LO_ADDR n ((s.chan n).descAddr % 2 ^ 32)).setI uDma F.DMA.CH_CUR_HI_ADDR n
        ((s.chan n).descAddr / 2 ^ 32)
    else s
  let s := s.setCount n d.count
  match streamOf d with
  | some i =>
    let st := nth s.host.streams i ⟨[], none, none⟩
    if st.chan.isSome ∨ d.count = 0 then s
    else
      let s := { s with host := { s.host with
        streams := upd s.host.streams i fun (x : StreamSt) => { x with chan := some n, since := none } } }
      ((s.setBitI uHost F.HOST.STR_STAT_SERVED 0 i).clrBitI uHost F.HOST.STR_STAT_WAITING 0 i).streamFeed i (st.recs.length + 1)
  | none => s

/-- PRIV_DMA_GO (R499): a control core starts the transfer of channel 56 + i. -/
def privGo (s : Block) (m : Master) (i : Nat) : Block :=
  let n := 56 + i
  if 8 ≤ i ∨ s.chanState n = 1 then s
  else
    let g (f : Field) : Nat := s.getI uDma f i
    let d : DmaDesc := ⟨g F.DMA.PCH_CTL_SRC_SPACE + 4 * g F.DMA.PCH_CTL_DST_SPACE +
        2048 * g F.DMA.PCH_CTL_HINT_OVR + 4096 * g F.DMA.PCH_CTL_HINT, g F.DMA.PCH_COUNT_COUNT,
      g F.DMA.PCH_SRC_LO_ADDR + 2 ^ 32 * g F.DMA.PCH_SRC_HI_ADDR,
      g F.DMA.PCH_DST_LO_ADDR + 2 ^ 32 * g F.DMA.PCH_DST_HI_ADDR, 0⟩
    let s := s.setChan n { idleChan with seq := (s.chan n).seq, master := m, tagMax := 16384 }
    ((s.setI uDma F.DMA.PCH_CTL_GO i 1).setI uDma F.DMA.CH_STAT_STATE n 1).descBegin n d

/-- A channel leaves the stream it held (R502). -/
def streamLeave (s : Block) (n : Nat) : Block :=
  (List.range 4).foldl (fun s i =>
    let st := nth s.host.streams i ⟨[], none, none⟩
    if st.chan = some n then
      { s with host := { s.host with streams := upd s.host.streams i fun (x : StreamSt) =>
        { x with chan := none, since := if x.recs.isEmpty then none else some s.lt } } }.clrBitI
          uHost F.HOST.STR_STAT_SERVED 0 i
    else s) s

/-- An access of channel n is outstanding. -/
def busy (s : Block) (n : Nat) : Bool := s.dma.flight.any fun a => a.chan == n

/-- Every response has arrived and nothing is left to move (R494, R495, R502). -/
def descDone (s : Block) (n : Nat) : Bool :=
  let c := s.chan n
  !s.busy n && match c.desc, c.error with
    | none, some _ => true
    | none, none => false
    | some _, some _ => true
    | some d, none => decide (d.count ≤ c.written) || (c.streamEnd && c.buffer.isEmpty)

/-- The write-back of a descriptor (R492). -/
def descWb (s : Block) (n status seq residual : Nat) : Block :=
  let c := s.chan n
  let b := le 4 (1 + 2 * status + seq * 65536) ++ le 4 residual ++ le 4 s.stamp
  if c.descSpace = 1 then (if s.dramUp then (s.dramWrite (c.descAddr + 0x20) b).2 else s)
  else s.emit (.hostWrite (c.descAddr + 0x20) b)

/-- A channel stops (R496). A re-point still latched is no more (log entry 40). -/
def chanStop (s : Block) (n cause : Nat) : Block :=
  let s := s.setChan n { s.chan n with
    desc := none, stopReq := false, fetching := false, error := none, repoint := none, goInStop := false }
  ((s.setI uDma F.DMA.CH_STAT_STATE n 3).setI uDma F.DMA.CH_STAT_STOP_CAUSE n cause).setI uDma F.DMA.CH_STAT_PEND n 0

/-- The STOP_CAUSE with which a host channel stops at a descriptor boundary, 0 when it goes on (R496, R497). -/
def chanCause (c : DmaChan) (status : Nat) (last : Bool) : Nat :=
  if status ≠ 0 then 4
  else if c.stopReq then 2
  else if c.repoint.isSome then 0
  else if c.limit ≤ (if c.rearm then 0 else c.chain) then 3
  else if last then 1
  else 0

/-- What a host channel does at a descriptor boundary, from what it was there (R496). -/
def chanNext (s : Block) (n : Nat) (c : DmaChan) (cause : Nat) (d : Option DmaDesc) : Block :=
  match cause, c.repoint with
  | 0, some r => s.chainStart n r
  | 0, none => s.dmaFetch n ((d.map DmaDesc.next).getD 0) ((d.map fun d => bits d.ctrl 5 4).getD 0)
  | 2, some r => if c.goInStop then s.chainStart n r else s
  | _, _ => s

/-- DESCRIPTOR_COMPLETE (R494-R497, R499). -/
def descComplete (s : Block) (n : Nat) : Block :=
  if 64 ≤ n ∨ s.descDone n = false then s
  else
    let c := s.chan n
    let d := c.desc
    let status := (c.error.map (·.1)).getD 0
    let residual := (d.map DmaDesc.count).getD 0 - c.written
    let seq := c.seq
    let s := s.setChan n { c with seq := (seq + 1) % 0x10000, chain := c.chain + 1 }
    let s := if (d.map fun d => bit d.ctrl 10).getD false && decide (n < 56) then s.descWb n status seq residual else s
    let s := (s.setI uDma F.DMA.CH_STAT_STATUS n status).setI uDma F.DMA.CH_STAT_SEQ n seq
    let s := if d.isSome then s.setCount n residual else s
    let s := if status = 0 then s else (s.inc uDma F.DMA.CNT_FAILED_COUNT).flag uDma F.DMA.FLAGS_FAILED
    let s := s.streamLeave n
    if n < 56 then
      let b := s.chan n
      let cause := chanCause b status ((d.map fun d => bit d.ctrl 8).getD false)
      let s := s.setChan n { b with chain := if b.rearm then 0 else b.chain, rearm := false }
      let s := if cause = 0 then s else s.chanStop n cause
      let s := if cause = 3 then s.flag uDma F.DMA.FLAGS_CHAIN_LIMIT else s
      let s := if (d.map fun d => bit d.ctrl 9).getD false || cause == 4 || cause == 3 then s.msix (1 + n) else s
      s.chanNext n b cause d
    else
      let s := s.setChan n { s.chan n with desc := none, error := none }
      ((s.setI uDma F.DMA.PCH_CTL_GO (n - 56) 0).setI uDma F.DMA.CH_STAT_STATE n 0).raise (156 + (n - 56))

/-- The first error of a descriptor; of several together the lowest STATUS (R494). -/
def dmaError (s : Block) (n status : Nat) : Block :=
  let c := s.chan n
  let e := match c.error with
    | none => (status, s.lt)
    | some (e, t) => if t = s.lt then (Nat.min e status, t) else (e, t)
  s.setChan n { c with error := some e, fetching := false }

/-- DMA_NOACK (R498): an access unanswered for NOACK_MS. A posted write awaits no response. -/
def dmaNoack (s : Block) (id : Nat) : Block :=
  match s.dma.flight.find? fun a => a.id == id with
  | none => s
  | some a =>
    if s.since a.at_ < s.get uDma F.DMA.CFG_NOACK_MS * 1000000 ∨ (a.kind = .write ∧ a.space = 0) then s
    else
      let s := { s with dma := { s.dma with
        flight := s.dma.flight.filter fun x => x.id != id
        quarantine := s.dma.quarantine ++ [{ a with at_ := s.lt }] } }
      (s.flag uDma F.DMA.FLAGS_NOACK).dmaError a.chan (if a.kind = .fetch then 4 else 3)

/-- DMA_TAG_RETURN (R498). -/
def dmaTagReturn (s : Block) (id : Nat) : Block :=
  match s.dma.quarantine.find? fun a => a.id == id with
  | none => s
  | some a =>
    if s.since a.at_ < s.get uDma F.DMA.CFG_NOACK_MS * 1000000 then s
    else ({ s with dma := { s.dma with quarantine := s.dma.quarantine.filter fun x => x.id != id } } : Block).tagsUpdate

/-- STREAM_FLUSH (R502): a stream descriptor with records is not filled in FLUSH_US. -/
def streamFlush (s : Block) (n : Nat) : Block :=
  match (s.chan n).streamFirst with
  | some t =>
    if s.get uHost F.HOST.STR_CFG_FLUSH_US * 1000 ≤ s.since t then s.setChan n { s.chan n with streamEnd := true } else s
  | none => s

/-- STREAM_WAITING (R502): a stream holds a record for FLUSH_US with no channel. -/
def streamWaiting (s : Block) (i : Nat) : Block :=
  let st := nth s.host.streams i ⟨[], none, none⟩
  match st.since, st.recs with
  | some t, _ :: _ =>
    if s.get uHost F.HOST.STR_CFG_FLUSH_US * 1000 ≤ s.since t ∧ st.chan.isNone then
      if bit (s.get uHost F.HOST.STR_STAT_WAITING) i then s
      else (s.setBitI uHost F.HOST.STR_STAT_WAITING 0 i).msix 63
    else s
  | _, _ => s

/-- The host channels stop at once at a host-port reset (R485); a GO held for RUNNING goes with the LIVE fields. -/
def chansAbort (s : Block) : Block :=
  (List.range 56).foldl (fun s n =>
    if s.chanState n = 0 then s.setChan n { s.chan n with repoint := none, rearm := false, heldGo := false }
    else
      let s := s.streamLeave n
      let s := s.setChan n { idleChan with seq := (s.chan n).seq }
      let s := { s with dma := { s.dma with flight := s.dma.flight.filter fun a => a.chan != n } }
      let s := if n < 32 then s.setBitI uDma F.DMA.ABORT_LO_CH 0 n else s.setBitI uDma F.DMA.ABORT_HI_CH 0 (n - 32)
      ((s.setI uDma F.DMA.CH_STAT_STATE n 0).setI uDma F.DMA.CH_STAT_STOP_CAUSE n 5).setI uDma F.DMA.CH_STAT_PEND n 0) s
    |>.tagsUpdate

/-- D3HOT_ENTER (R486): the host channels stop as under a STOP request. -/
def d3Enter (s : Block) : Block :=
  let s := s.set uHost F.HOST.LINK_D3 1
  (List.range 56).foldl dmaStop s

/-- The messages whose cause is pending and that nothing masks any more (R484). -/
def msixSend (s : Block) : Block :=
  if s.host.functionMask || !s.host.msixEnable || s.on uHost F.HOST.LINK_D3 then s
  else
    let open_ (v : Nat) : Bool := !(nth s.host.msix v ⟨0, 0, true⟩).masked
    let go := s.host.pba.filter open_
    let s := { s with host := { s.host with pba := s.host.pba.filter fun v => !open_ v } }
    go.foldl (fun s v =>
      let e := nth s.host.msix v ⟨0, 0, true⟩
      s.emit (.msix v e.addr e.data)) s

/-- D0_RETURN (R486). -/
def d0Return (s : Block) : Block :=
  if s.on uHost F.HOST.LINK_D3 then (s.set uHost F.HOST.LINK_D3 0).msixSend else s

/-- MSIX_UNMASK (R484): the mask bit of a vector is cleared. -/
def msixUnmask (s : Block) (v : Nat) : Block :=
  ({ s with host := { s.host with msix := upd s.host.msix v fun (e : MsixEntry) => { e with masked := false } } } : Block).msixSend

end Block
end Sys2Proof.Machine
end

