-- ==== Sys2Proof/Machine/Clock.lean ====
section
/-! DEFINITION. The clock monitor, the gates, the tempo monitors and the AVSBus reads (R94-R119). -/

namespace Sys2Proof.Machine
namespace Block

/-- The clock monitor is armed (R96); in a hold its verdicts change nothing. -/
def armed (s : Block) : Bool := s.boot.hold == .none && s.on uClk F.CLK.SRC_STAT_ARMED

/-- A clock failure of R97 recorded: 0 ITO, 1 watch, 2 crystal, 3 PLL_SYS, 4 PLL_DDR, 5 reference. -/
def clockLog (s : Block) (src : Nat) : Block := s.log uClk 0x0020 2 src 0 0

/-- The start-up allowance of the crystal and the SerDes reference is over (R97). -/
def graceOver (s : Block) : Bool :=
  decide (s.get uClk F.CLK.MON_CFG_XTAL_GRACE_MS * 1000000 ≤ s.boot.armUs * 1000 + s.lt)

/-- The watch oscillator is judged failed until the device resets (R97, R98). -/
def watchFail (s : Block) : Block :=
  if s.armed && s.on uClk F.CLK.SRC_STAT_WATCH_OK then
    ((s.set uClk F.CLK.SRC_STAT_WATCH_OK 0).set uClk F.CLK.MON_STAT_WATCH_FAIL 1).clockLog 1
  else s

/-- The crystal is judged failed: the PLLs run from the ITO until the next device reset (R97, R99). -/
def xtalFail (s : Block) : Block :=
  if s.armed && s.graceOver && s.on uClk F.CLK.SRC_STAT_XTAL_OK then
    let s := ((s.set uClk F.CLK.SRC_STAT_XTAL_OK 0).set uClk F.CLK.MON_STAT_XTAL_FAIL 1).set
      uClk F.CLK.SRC_STAT_ON_ITO 1
    (s.clockLog 2).raise 0
  else s

/-- A PLL is watched: enabled, 1 ms past its enable, not judged failed (R97). PLL_SYS is enabled as the monitor is armed,
PLL_DDR then and when node 6 opens (R101; log entry 84). -/
def pllWatched (s : Block) (ddr : Bool) : Bool :=
  if ddr then
    s.nodeOpen 6 && !s.clk.ddrFailed && (match s.clk.ddrAt with
      | some t => decide (1000000 ≤ s.since t)
      | none => decide (1000000 ≤ s.boot.armUs * 1000 + s.lt))
  else s.on uClk F.CLK.SRC_STAT_SYS_LOCK && decide (1000000 ≤ s.boot.armUs * 1000 + s.lt)

/-- PLL_SYS (false) or PLL_DDR (true) loses lock for 1 µs (R97): judged failed until the device resets. -/
def pllFail (s : Block) (ddr : Bool) : Block :=
  if s.armed && s.pllWatched ddr then
    let s := s.set uClk (if ddr then F.CLK.SRC_STAT_DDR_LOCK else F.CLK.SRC_STAT_SYS_LOCK) 0
    let s : Block := { s with clk := { s.clk with ddrFailed := s.clk.ddrFailed || ddr } }
    (s.set uClk F.CLK.MON_STAT_PLL_FAIL 1).clockLog (if ddr then 4 else 3)
  else s

/-- A node's clock stops: its port, if it has one, goes OFF (R102, R146), and PLL_DDR has no lock under node 6. No node
switches the power of a monitored area: the table of R101 lists clocked islands, the areas of R110 lie in the clockless
core, so that no gate operation sets TMON_m.GATED (R111; log entry 84). -/
def shutNode (s : Block) (g : Nat) : Block :=
  let s := { s with clk := { s.clk with closing := s.clk.closing.filter (· != g) } }
  let s := (s.setI uClk F.CLK.GATE_OPEN g 0).setI uClk F.CLK.GATE_CLOSE g 1
  let s := if g = 6 then s.set uClk F.CLK.SRC_STAT_DDR_LOCK 0 else s
  (List.range 16).foldl (fun s p => if portNode p = g then s.portOff p else s) s

/-- A close request (R102, R103); `busy` says that an access in the node's islands is in progress. -/
def gateClose (s : Block) (g : Nat) (busy : Bool) : Block :=
  if !gateable g || !s.nodeOpen g || s.clk.closing.contains g then s
  else if (gateChildren g).any fun c => s.nodeOpen c then
    (s.setI uClk F.CLK.GATE_REFUSED g 1).setI uClk F.CLK.GATE_CLOSE g 0
  else if busy then
    { s with clk := { s.clk with
        closing := s.clk.closing ++ [g], closingAt := bindK g s.lt s.clk.closingAt } }.setI
      uClk F.CLK.GATE_CLOSE g 1
  else s.shutNode g

/-- The last access in progress completes (R102). -/
def gateClosed (s : Block) (g : Nat) : Block := if s.clk.closing.contains g then s.shutNode g else s

/-- An accepted close still waits after 1 ms (R106). -/
def gateTimeout (s : Block) (g : Nat) : Block :=
  if s.clk.closing.contains g && decide (1000000 ≤ s.since (lookupD g 0 s.clk.closingAt)) then
    let s := (s.abandonClose g).setI uClk F.CLK.GATE_TIMEOUT g 1
    (s.set uClk F.CLK.MON_STAT_GATE_TIMEOUT 1).log uClk 0x0021 1 g 0 0
  else s

/-- An open request; ports whose islands run again start bring-up when their conditions hold
(R104, R145). -/
def gateOpen (s : Block) (g : Nat) : Block := if g < 42 then (s.openPath g).portsEnable else s

/-- A monitor's reading: handshakes of the window times the scale Q1.15, rounded to nearest, limited
to the field (R110, R605; rounding by log entry 8). -/
def tmonReading (raw scale : Nat) : Nat := Nat.min 4095 ((raw * scale + 0x4000) / 0x8000)

/-- A window ends in every monitor; `raw` holds the handshakes by monitor (R110, R111). An upward change counts the
windows at its floor (R117). -/
def tmonWindow (s : Block) (raw : List Nat) : Block :=
  let s := (List.range 25).foldl (fun s m =>
    if s.onI uClk F.CLK.TMON_GATED m then s
    else
      let v := tmonReading (raw.getD m 0) (s.getI uCal F.CAL.TMON_SCALE_SCALE m)
      let s := s.setI uClk F.CLK.TMON_TEMPO m v
      if v < s.getI uClk F.CLK.TMON_MIN m then s.setI uClk F.CLK.TMON_MIN m v else s) s
  s.tempoCheck.govIdle.govWindow

/-- The next lower level has fitted for RELAX_MS (R425). -/
def governorDescend (s : Block) : Block :=
  match s.gov.relaxSince with
  | none => s
  | some t =>
    if s.on uLatgov F.LATGOV.CFG_EN && decide (0 < s.get uLatgov F.LATGOV.STAT_LEVEL) &&
        decide (s.get uLatgov F.LATGOV.CFG_RELAX_MS * 1000000 ≤ s.since t) then
      s.govDescend.feedAll
    else s

/-- `CLK.TMON_CTL.CLEAR_MIN` (R125). -/
def clearMin (s : Block) : Block :=
  (List.range 25).foldl (fun s m => s.setI uClk F.CLK.TMON_MIN m 0xFFF) s

/-- The Voltage and Current reads of every 1 ms and their answers (R119). The device sends none before boot step 12. -/
def avsPoll (s : Block) (mv raw : Nat) : Block :=
  if s.boot.began then
    ((s.emits [.avs 0 none, .avs 2 none]).set uClk F.CLK.AVS_VOUT_MV mv).set uClk F.CLK.AVS_IOUT_RAW raw
  else s

/-- A regulator alert: the Status read and its answer (R119). The device reads none before boot step 12. -/
def avsAlert (s : Block) (faults : Nat) : Block :=
  if s.boot.began then
    let s := s.emit (.avs 14 none)
    if faults ≠ 0 then s.avsFail 14 0 else s
  else s

/-- Firmware's request for a P-state (R115). -/
def pstateReq (s : Block) (req : Nat) : Block := (s.set uClk F.CLK.PSTATE_REQ_REQ req).retarget

end Block
end Sys2Proof.Machine
end

