-- ==== Sys2Proof/Machine/Mbx.lean ====
section
/-! DEFINITION. Mailboxes, doorbells and the camera control tunnel as the hardware moves them (R507-R512, R519,
R520, R529, R530). -/

namespace Sys2Proof.Machine
namespace Block

/-- A `MBX.MFLAGS` bit set; its setting signals vector 60 (R513). -/
def mflag (s : Block) (f : Field) : Block := if s.on uBar2 f then s else (s.set uBar2 f 1).msix 60

/-- A host write to a full mailbox or to a block that is not the host's is discarded (R508, R509). -/
def mbxOverrun (s : Block) (off data : Nat) : Block :=
  (((s.inc uBar2 F.MBXB.CNT_OVERRUN_COUNT).logBy .host uMbx 0x000A 2 off 0 data).mflag F.MBXB.MFLAGS_OVERRUN).raise 23

/-- A host write of word mailbox H2F_m (R507, R508, R514). -/
def h2fWrite (s : Block) (m w : Nat) : Block :=
  if 16 ≤ m then s
  else if s.h2fFull m then s.mbxOverrun (4 * m) w
  else
    let s := (s.setI uBar2 F.MBXB.H2F_DATA m w).setBitI uBar2 F.MBXB.WSTAT_H2F_FULL 0 m
    if m = 0 then ({ s with mbx := { s.mbx with wordWaiting := some s.lt } } : Block).takeInbox else s

/-- A host read of word mailbox F2H_m (R507). -/
def f2hRead (s : Block) (m : Nat) : Nat × Block :=
  if 16 ≤ m then (0, s)
  else
    (s.getI uBar2 F.MBXB.F2H_DATA m,
      if s.f2hFull m then (s.clrBitI uBar2 F.MBXB.WSTAT_F2H_FULL 0 m).pumpOut s.mbx.outbox.length else s)

/-- Words of a block buffer (R506). -/
def blockSize (b : Nat) : Nat := if b < 2 then 512 else 3072

/-- A host write of one word of an H2F block buffer, word n (R509). A write to an F2H buffer has no effect. -/
def blockWrite (s : Block) (b n w : Nat) : Block :=
  if (b = 0 ∨ b = 2) ∧ n < blockSize b then
    if s.onI uBar2 F.MBXB.BLK_CTL_GO b then
      s.mbxOverrun ((if b = 0 then 0x1000 else 0x2000) + 4 * n) w
    else if b = 0 then
      { s with mbx := { s.mbx with block0 := storeWrite (fun _ => 0) s.mbx.block0 n w } }
    else { s with mbx := { s.mbx with block2 := storeWrite (fun _ => 0) s.mbx.block2 n w } }
  else s

/-- Tunnel records laid out in a block, 8-byte aligned (R191, R530). Bytes of a frame beyond the block come from
`wild`. -/
def tunnelRecords (wild : Nat) : Nat → List Nat → List TunnelRec
  | 0, _ => []
  | fuel + 1, b =>
    if b.length < 16 then []
    else
      let len := leAt b 0 2
      let have_ := (b.drop 16).take len
      let frame := have_ ++ (List.range (len - have_.length)).map fun i => wild / 256 ^ i % 256
      ⟨leAt b 2 1, leAt b 3 1, leAt b 4 4, leAt b 8 4, frame⟩ :: tunnelRecords wild fuel (b.drop (tunnelBytes len))

/-- A host write of LENGTH and GO of block 0 or 2, as one word (R509). -/
def blockCtl (s : Block) (b w : Nat) : Block :=
  if b = 0 ∨ b = 2 then
    if s.onI uBar2 F.MBXB.BLK_CTL_GO b then s.mbxOverrun (0xA0 + 4 * b) w
    else
      let s := s.setI uBar2 F.MBXB.BLK_CTL_LENGTH b (bits w 13 0)
      if bit w 31 then
        let s := s.setI uBar2 F.MBXB.BLK_CTL_GO b 1
        if b = 0 then ({ s with mbx := { s.mbx with blockWaiting := some s.lt } } : Block).takeInbox
        else
          let bytes := (s.blockWords s.mbx.block2 3072 (bits w 13 0)).flatMap (le 4)
          ({ s with mbx := { s.mbx with
            tunTake := tunnelRecords (Config.free (s.freeCtr + 1)) (bytes.length / 16 + 1) bytes } } : Block).took.took
      else s
  else s

/-- A host write of 1 to GO of block 1 or 3 (R509). -/
def blockRelease (s : Block) (b : Nat) : Block :=
  if (b = 1 ∨ b = 3) ∧ s.onI uBar2 F.MBXB.BLK_CTL_GO b = true then
    let s := s.setI uBar2 F.MBXB.BLK_CTL_GO b 0
    if b = 1 then s.pumpOut s.mbx.outbox.length else s
  else s

/-! ## Doorbells -/

/-- Firmware or hardware opens a gate node (R104, R232): SENSE restarts the channels of node 4. -/
def openGate (s : Block) (g : Nat) : Block :=
  let shut := !(s.nodeOpen 4)
  let s := s.gateOpen g
  if shut && s.nodeOpen 4 then s.senseReopen else s

/-- The gate node a doorbell names is opened, an accepted close of it that still waits being abandoned (R510,
R511). -/
def doorbellNode (s : Block) (d : Nat) : Block :=
  let g := s.getI uMbx F.MBX.DB_CFG_NODE d
  if g = 0 then s
  else
    let s : Block := if s.clk.closing.contains g then s.setI uClk F.CLK.GATE_REFUSED g 1 else s
    s.openGate g

/-- Host-to-firmware doorbell d rings (R510); before RUNNING it is kept until then (R79). -/
def doorbell (s : Block) (d : Nat) : Block :=
  if s.isRunning then (s.doorbellNode d).raise (164 + d)
  else if s.boot.earlyBells.contains d then s
  else { s with boot := { s.boot with earlyBells := s.boot.earlyBells ++ [d] } }

/-- A host write of `MBX.DB_RING`. -/
def doorbellRing (s : Block) (w : Nat) : Block := (onesBelow 32 w).foldl doorbell s

/-- The doorbells rung before RUNNING are delivered (R79). -/
def earlyBells (s : Block) : Block :=
  s.boot.earlyBells.foldl doorbell { s with boot := { s.boot with earlyBells := [] } }

/-- Firmware-to-host doorbell d rings (R512). -/
def fwDoorbell (s : Block) (d : Nat) : Block :=
  if 32 ≤ d ∨ bit (s.get uBar2 F.MBXB.DB_PEND_PEND) d = true then s
  else (s.setBitI uBar2 F.MBXB.DB_PEND_PEND 0 d).msix 59

/-! ## Camera control tunnel -/

/-- Next port after p, in rotation, whose oldest received record fits in `room` bytes (R529). -/
def nextTunnelPort (s : Block) (p room : Nat) : Option Nat :=
  ((List.range 12).map fun i => (p + 1 + i) % 12).find? fun k =>
    match nth s.mbx.tunRx k [] with
    | r :: _ => tunnelBytes r.frame.length ≤ room
    | [] => false

/-- A record as bytes; the spec gives no value to the bytes up to the next 8-byte boundary. -/
def tunnelRecBytes (wild : Nat) (r : TunnelRec) : List Nat :=
  le 2 r.frame.length ++ [r.port, r.flags] ++ le 4 r.stamp ++ le 4 r.seq ++ le 4 0 ++ r.frame ++
    le (tunnelBytes r.frame.length - (16 + r.frame.length)) wild

/-- Records moved from the receive queues, one a port in rotation, after the bytes `acc` (R529). -/
def tunnelCollect (s : Block) (acc : List Nat) : Nat → List Nat × Block
  | 0 => (acc, s)
  | fuel + 1 =>
    match s.nextTunnelPort s.mbx.tunLast (4 * blockSize 3 - acc.length) with
    | none => (acc, s)
    | some k => match nth s.mbx.tunRx k [] with
      | [] => (acc, s)
      | r :: rest =>
        let s' : Block := { s with mbx := { s.mbx with tunRx := upd s.mbx.tunRx k fun _ => rest, tunLast := k } }
        s'.took.tunnelCollect (acc ++ tunnelRecBytes s.fresh r) fuel

/-- Little-endian words of a byte list. -/
def wordsOf : Nat → List Nat → List Nat
  | 0, _ => []
  | n + 1, b => leAt b 0 4 :: wordsOf n (b.drop 4)

/-- Block 3 is filled with received records and handed to the host (R529); while Class B is shed they stay in their
queues (R427). -/
def tunnelFill (s : Block) : Block :=
  if s.onI uBar2 F.MBXB.BLK_CTL_GO 3 || s.shedB then s
  else
    let (b, s) := s.tunnelCollect [] (sumN (s.mbx.tunRx.map List.length))
    if b.isEmpty then s
    else
      let s : Block := { s with mbx := { s.mbx with
        block3 := storeWriteN (fun _ => 0) s.mbx.block3 0 (wordsOf (b.length / 4) b) } }
      ((s.setI uBar2 F.MBXB.BLK_CTL_LENGTH 3 b.length).setI uBar2 F.MBXB.BLK_CTL_GO 3 1).msix 58

/-- Records of block 2 taken in order, until one finds no room; GO falls behind the last (R190, R530). -/
def tunnelTake (s : Block) : Nat → Block
  | 0 => s
  | fuel + 1 =>
    match s.mbx.tunTake with
    | [] => if s.onI uBar2 F.MBXB.BLK_CTL_GO 2 then s.setI uBar2 F.MBXB.BLK_CTL_GO 2 0 else s
    | r :: rest =>
      let next : Block := { s with mbx := { s.mbx with tunTake := rest } }
      if r.flags % 2 = 0 ∨ 11 < r.port then (next.log uMbx 0x000B 2 r.seq r.port 0).tunnelTake fuel
      else if r.frame.length < 14 ∨ 9212 < r.frame.length then
        (next.inc (uCamp r.port) F.CAMP.CNT_TUNNEL_DROP_COUNT).tunnelTake fuel
      else
        let q := nth s.mbx.tunTx r.port []
        if 32768 < sumN (q.map fun x => tunnelBytes x.frame.length) + tunnelBytes r.frame.length then s
        else (({ next with mbx := { next.mbx with
          tunTx := upd next.mbx.tunTx r.port fun l => l ++ [r] } } : Block).tunBegin r.port).tunnelTake fuel

/-- The records of block 2 are taken as far as room allows (R530). -/
def tunnelSendBlock (s : Block) : Block :=
  if s.onI uBar2 F.MBXB.BLK_CTL_GO 2 then s.tunnelTake (s.mbx.tunTake.length + 1) else s

/-- A camera port ends the transmission of a tunnel frame, which makes room in its queue (R530). -/
def tunnelFrameSent (s : Block) (k : Nat) : Block := (s.tunnelSend k).tunnelSendBlock

/-! ## Resets (R519, R520) -/

/-- Arrivals of doorbell producers leave the open windows (R520). -/
def dropBells (s : Block) : Block :=
  let ws := s.evt.windows.map fun (c, w) =>
    (c, (⟨w.arrivals.filter fun a => !(164 ≤ a.2 && a.2 < 196)⟩ : EvtWindow))
  { s with evt := { s.evt with windows := ws.filter fun p => !p.2.arrivals.isEmpty }
           boot := { s.boot with earlyBells := [] } }

/-- Effect of a host-port reset on mailboxes, requests and doorbells. -/
def mbxHostReset (s : Block) : Block :=
  let n := s.mbx.held.length
  let s := s.clearAll uBar2 [F.MBXB.H2F_DATA, F.MBXB.F2H_DATA, F.MBXB.WSTAT_H2F_FULL, F.MBXB.WSTAT_F2H_FULL,
    F.MBXB.BLK_CTL_LENGTH, F.MBXB.BLK_CTL_GO, F.MBXB.DB_PEND_PEND]
  let s : Block := { s with
    mbx := { s.mbx with block0 := [], block1 := [], block2 := [], block3 := [], held := [], outbox := [],
                        deferred := s.mbx.deferred.map fun (d : Deferred) => { d with silent := true },
                        wordWaiting := none, blockWaiting := none, tunTake := [], nonce := none }
    host := { s.host with resync := some (s.host.resync.getD 0 + n) } }
  (s.dropBells.addI uMbx F.MBX.CNT_ABORTED_COUNT 0 n).flagRaise uMbx F.MBX.FW_FLAGS_HOST_RESET

/-- Effect of a reset of control core c, 1-3, on the requests forwarded to it; any reset invalidates the nonce (R532). -/
def mbxCoreReset (s : Block) (c : Nat) : Block :=
  let s : Block := { s with mbx := { s.mbx with nonce := none } }
  let ds := s.mbx.deferred.filter fun d => d.core == c
  if ds.isEmpty then s
  else
    let s := ds.foldl (fun s d => s.replyDeferred d 9 0 0 []) s
    ((s.addI uMbx F.MBX.CNT_ABORTED_COUNT 0 ds.length).mflag F.MBXB.MFLAGS_ABORTED).raise 24

end Block
end Sys2Proof.Machine
end

