-- ==== Sys2Proof/Machine/Image.lean ====
section
/-! DEFINITION. Flash images: header, sections, the checks of a slot, configuration records (R62-R71, R77, R87). -/

namespace Sys2Proof.Machine

/-- First flash address of an image slot (R62). -/
def slotBase (k : Nat) : Nat := k * 0x1800000

/-- An entry of the section table (R66). -/
structure Section where
  ty : Nat
  off : Nat
  size : Nat
  load : Nat
  digest : Nat
deriving DecidableEq, Repr

/-- The sections a header lists: its 16 entries at most (R66). -/
def sectionsOf (h : List Nat) : List Section :=
  (List.range (Nat.min 16 (leAt h 0x6 2))).map fun i =>
    let e := 0x100 + 64 * i
    ⟨leAt h e 2, leAt h (e + 4) 4, leAt h (e + 8) 4, leAt h (e + 12) 4, ofBe ((h.drop (e + 16)).take 48)⟩

/-- Largest size of a section type, for the types there are (R67). -/
def sectionMax (ty : Nat) : Option Nat :=
  if 1 ≤ ty ∧ ty ≤ 4 then some 0x200000
  else if ty = 0x10 then some 0x100000
  else if ty = 0x20 then some 0x40000
  else if ty = 0x30 then some 0x400000
  else none

/-- Two sections share a byte. -/
def Section.overlaps (a b : Section) : Bool := decide (a.off < b.off + b.size) && decide (b.off < a.off + a.size)

/-- First byte and size of the area of core SRAM a section is loaded into (R57, R67): a control core's private one, or the
shared one. -/
def loadArea (ty : Nat) : Option (Nat × Nat) :=
  if 1 ≤ ty ∧ ty ≤ 4 then some ((ty - 1) * 0x200000, 0x200000)
  else if ty = 0x30 then some (0x800000, 0x400000)
  else none

/-- No two sections overlap and no type appears twice (R68). -/
def sectionsApart : List Section → Bool
  | [] => true
  | a :: r => (r.all fun b => !(a.overlaps b) && a.ty != b.ty) && sectionsApart r

/-- Structural validity of a slot from its header and section table (R68). -/
def structural (h : List Nat) : Bool :=
  let ss := sectionsOf h
  let n := leAt h 0x6 2
  let size := leAt h 0x8 4
  h.take 4 == [0x4B, 0x52, 0x4B, 0x49] && leAt h 0x4 2 == 1 && leAt h 0x12 2 == 0x4812 &&
    decide (2 ≤ n) && decide (n ≤ 16) && decide (size ≤ 0x1800000) &&
    (ss.all fun x => decide (x.off + x.size ≤ size)) && sectionsApart ss &&
    (ss.any fun x => x.ty == 1) && (ss.any fun x => x.ty == 0x10) &&
    ss.all fun x => match sectionMax x.ty with
      | some m => decide (x.size ≤ m)
      | none => false

/-- The integrator's public key of an image (R65). -/
def integratorKey (h : List Nat) : Nat := ofBe ((h.drop 0x20).take 96)

/-- SHA-384 of the integrator key (R69). -/
def keyHash (h : List Nat) : Nat := Config.sha384 ((h.drop 0x20).take 96)

/-- What `AQZIA_SIG` covers: the digests of the firmware sections, ascending type (R65). -/
def firmwareDigests (h : List Nat) : List Nat :=
  [1, 2, 3, 4, 0x30].flatMap fun t => ((sectionsOf h).filter fun x => x.ty == t).flatMap fun x => be 48 x.digest

/-- A key slot as the device takes it: the more advanced of its two copies (R91). -/
def KeySlot.fused (k : KeySlot) : Bool := k.fusedA || k.fusedB
def KeySlot.revoked (k : KeySlot) : Bool := k.revokedA || k.revokedB

/-- An integrator key slot of the fuses. -/
def Fuses.key (f : Fuses) (i : Nat) : KeySlot := nth f.keys i ⟨false, false, false, false, 0⟩

/-- The configuration records of a section, if it parses (R71): unit index, offset, words. -/
def parseRecords : Nat → List Nat → Option (List (Nat × Nat × List Nat))
  | 0, _ => none
  | _ + 1, [] => some []
  | fuel + 1, l =>
    let u := leAt l 0 2; let o := leAt l 2 2; let n := leAt l 4 2
    if l.length < 8 + 4 * n ∨ 0x3FC < u ∨ o % 4 ≠ 0 ∨ o < 0x100 ∨ 0xFFC < o ∨ n = 0 ∨ 960 < n ∨ 0x1000 < o + 4 * n ∨
        1 < leAt l 6 2 then none
    else (parseRecords fuel (l.drop (8 + 4 * n))).map fun r =>
      (u, o, Block.wordsOf n ((l.drop 8).take (4 * n))) :: r

/-- The records of a byte list. -/
def recordsOf (l : List Nat) : Option (List (Nat × Nat × List Nat)) := parseRecords (l.length + 1) l

namespace Block

/-- Signatures accepted in a lifecycle state (R69, R87). -/
def signed (s : Block) (life : Nat) (h : List Nat) : Bool :=
  let aq := h.getD 0x15 0
  let k := s.fuses.key (h.getD 0x14 0)
  (decide (aq < 2) && !(aq == 0 && s.fuses.aqzia0Revoked)) &&
    Config.ecdsaOk (Config.aqziaKey aq) (ofBe ((h.drop 0x80).take 96)) (firmwareDigests h) &&
    Config.ecdsaOk (integratorKey h) (ofBe ((h.drop 0x500).take 96)) (h.take 0x500) &&
    (match life with
     | 0 => Config.aqziaTest h
     | 2 => decide (h.getD 0x14 0 < 4) && k.fused && !k.revoked && k.hash == keyHash h
     | 3 => Config.aqziaDiagnostic h
     | _ => true)

/-- ROLLBACK of an image is not below the fuses (R70). -/
def rollbackOk (s : Block) (h : List Nat) : Bool := decide (s.fuses.rollback ≤ leAt h 0x10 2)

/-- Header, section table and integrator signature of a slot. -/
def slotHeader (s : Block) (k : Nat) : List Nat := s.flashRead (slotBase k) 0x560

/-- Bytes of the section of a type in a slot; none without it. -/
def sectionBytes (s : Block) (k ty : Nat) : Option (List Nat) :=
  ((sectionsOf (s.slotHeader k)).find? fun x => x.ty == ty).map fun x => s.flashRead (slotBase k + x.off) x.size

/-- Every section's digest matches (R75 step 8). -/
def digestsOk (s : Block) (k : Nat) : Bool :=
  (sectionsOf (s.slotHeader k)).all fun x => Config.sha384 (s.flashRead (slotBase k + x.off) x.size) == x.digest

/-- The slots tried, in order (R64, R77), before R68 and R70. -/
def slotOrder (s : Block) (bootsel : Nat) : List Nat :=
  match bootsel with
  | 0 =>
    let q (k : Nat) : Nat := leAt (s.slotHeader k) 0xC 4
    if q 0 < q 1 then [1, 0] else [0, 1]
  | 1 => [0]
  | _ => [1]

/-- Slot booted. -/
def bootSlot (s : Block) : Nat := s.get uSys F.SYS.BOOT_STAT_SLOT

/-- Header of the booted image. -/
def bootHeader (s : Block) : List Nat := s.slotHeader s.bootSlot

/-- The bytes of a section that are in the slot's table. -/
def sectionData (s : Block) (k : Nat) (x : Section) : List Nat := s.flashRead (slotBase k + x.off) x.size

/-- A firmware section loaded into its area from `LOAD` on (R66, R67, R75 step 8). The check of `LOAD` is left to nobody
(R58); bytes that would lie beyond the area land nowhere (log entry 85). -/
def sectionLoad (s : Block) (k : Nat) (x : Section) : Block :=
  match loadArea x.ty with
  | none => s
  | some (base, size) =>
    { s with boot := { s.boot with
        coreMem := cellsPut 0 s.boot.coreMem (base + Nat.min x.load size) ((s.sectionData k x).take (size - x.load)) } }

/-- Every section of a slot loaded, in the order of its table. -/
def slotLoad (s : Block) (k : Nat) : Block := (sectionsOf (s.slotHeader k)).foldl (fun s x => s.sectionLoad k x) s

/-- An area of the control cores' SRAM wiped. -/
def coreWipe (s : Block) (base size : Nat) : Block :=
  { s with boot := { s.boot with
      coreMem := storeDrop (fun a => decide (base ≤ a) && decide (a < base + size)) s.boot.coreMem } }

end Block
end Sys2Proof.Machine
end

