-- ==== Sys2Proof/Machine/Firmware.lean ====
section
/-! DEFINITION. Control core 0's part of a boot: ALIVE, the lane table, the journal, and the seal (R73, R75, R80, R91,
R116). -/

namespace Sys2Proof.Machine
namespace Block

/-- The firmware completes copy B of what a power loss left in copy A only (R91). -/
def fuseCopies (s : Block) : Block :=
  let f := s.fuses
  { s with fuses := { f with
      lifeB := f.lifeA
      keys := f.keys.map fun (k : KeySlot) => ({ k with fusedB := k.fused, revokedB := k.revoked } : KeySlot) } }

/-- The lane table of the booted image applied (R73, R157). -/
def laneTables (s : Block) : Block :=
  let s := s.applyLaneTable (s.get uSys F.SYS.STRAPS_BOARD_ID) ((s.sectionBytes s.bootSlot 0x20).getD [])
  if s.on uSerdes F.SERDES.TABLE_STAT_MATCH then s else s.unitFail F.SYS.UNIT_FAIL_LANE_TABLE 0

/-- ALIVE (R75 steps 11 and 12): control core 0 shows itself, sends the first AVSBus commands and moves to P1 (R119,
R478), begins the DRAM's training, applies the lane table and reads the journal; the ports whose conditions hold start (R145). `flashOk`: no flash
error while reading. -/
def bootAlive (s : Block) (flashOk : Bool) : Block :=
  if s.cored && !s.boot.began then
    let s := (s.set uSys F.SYS.BOOT_CTL_ALIVE 1).fuseCopies
    let s : Block := { s with boot := { s.boot with began := true } }
    let mv := s.getI uClk F.CLK.PVOLT_MV 1
    let s := s.emits [.avs 15 none, .avs 1 (some (s.get uClk F.CLK.PSTATE_CFG_SLEW)), .avs 0 (some mv)]
    let s : Block := { s with clk := { s.clk with vcore := mv } }
    let s := (s.voltageRead.pstateReq 1).set uDmc F.DMC.STAT_STATE 1
    (s.laneTables.journalRead flashOk).portsEnable
  else s

/-- The seal (R80); `deadline` when `SYS.SEAL_DEADLINE` brings it. PHASE shows it once the cores run. -/
def bootSeal (s : Block) (deadline : Bool) : Block :=
  if s.on uSys F.SYS.BOOT_STAT_SEALED then s
  else
    let s := (s.set uSys F.SYS.BOOT_STAT_SEALED 1).set uSys F.SYS.BOOT_STAT_DEADLINE (b2n deadline)
    if s.cored then s.set uSys F.SYS.BOOT_STAT_PHASE 9 else s

/-- Surroundings of a boot nothing is said of: free values (log entry 1). -/
def wildEnv (s : Block) : BootEnv :=
  let b (i : Nat) : Bool := bit s.fresh i
  ⟨b 0, b 1, b 2, b 3, b 4, b 5, bits s.fresh 7 6, bits s.fresh 11 8, bits s.fresh 31 12, bits s.fresh 63 32,
    bits s.fresh 95 64, s.fresh / 2 ^ 96⟩

end Block
end Sys2Proof.Machine
end

