-- ==== Sys2Proof/Machine/CommitRing.lean ====
section
/-! DEFINITION. Staging and committing by message (R523-R525), commits at ring windows carried to every member
(R47, R48, R570), and what a commit's coming into force starts in a unit. -/

namespace Sys2Proof.Machine

/-- The entries of a STAGE_COMMIT, CONTROL or COMMIT_GROUP: unit word, MASK, VALUE (R523). -/
def entriesOf : List Nat → List (Nat × Nat × Nat)
  | a :: b :: c :: r => (a, b, c) :: entriesOf r
  | _ => []

/-- The unit an entry names, if there is one, and the offset. -/
def entryUnit (e : Nat × Nat × Nat) : Option UnitId := (unitOfIndex (bits e.1 9 0)).filter (·.exists?)
def entryOff (e : Nat × Nat × Nat) : Nat := bits e.1 23 10

/-- (old & ~MASK) | (VALUE & MASK) on 32 bits (R523, R526). -/
def maskIn (old mask value : Nat) : Nat := Nat.lor (Nat.land old (Nat.xor (mask % 2 ^ 32) (2 ^ 32 - 1))) (Nat.land value mask)

/-- The entry names a STAGE register in the subtree of a unit (R523). -/
def stageEntryOk (cu : UnitId) (e : Nat × Nat × Nat) : Bool :=
  match entryUnit e with
  | some u => u.under cu && decide (0x100 ≤ entryOff e) && decide (entryOff e ≤ 0xFFC) &&
      (u.ty.fieldsAt (entryOff e)).any fun f => f.acc == .stage
  | none => false

/-- Index of the first entry that fails a test. -/
def firstBad (p : Nat × Nat × Nat → Bool) (es : List (Nat × Nat × Nat)) : Option Nat := es.findIdx? fun e => !p e

/-- Words of entries. -/
def entryWords (es : List (Nat × Nat × Nat)) : List Nat := es.flatMap fun e => [e.1, e.2.1, e.2.2]

/-- The window of a ring level, 1 to 3. -/
def uWindow (k : Nat) : UnitId := ⟨.device, k⟩

/-- The control core whose units they are (log entry 24). -/
def coreOf (u : UnitId) : Nat :=
  match u.ty with
  | .strip | .ctx | .stitch | .refs | .codec | .tango | .seg | .tag | .latgov | .dmc => 1
  | .ring | .time | .lport => 2
  | .web | .sense | .axis | .trig | .camp => 3
  | _ => 0

namespace Block

/-- The merging device of the ring at level k that holds this device. -/
def mergeAt (s : Block) (k : Nat) : Option Nat :=
  let (v, a) := match k with
    | 1 => (F.RING.MERGE_1_VALID, F.RING.MERGE_1_ADDR)
    | 2 => (F.RING.MERGE_2_VALID, F.RING.MERGE_2_ADDR)
    | _ => (F.RING.MERGE_3_VALID, F.RING.MERGE_3_ADDR)
  if s.on uRing v then some (s.get uRing a) else none

/-- Whether a unit has a window with a unit in it: a ring window only while the ring exists (R31, R36). -/
def windowLive (s : Block) (u : UnitId) : Bool :=
  if u.ty = .device ∧ u.inst ≠ 0 then (s.mergeAt u.inst).isSome else u.exists?

/-- Entries applied in order to the staged image (R523). -/
def stageEntries (s : Block) (es : List (Nat × Nat × Nat)) : Block :=
  es.foldl (fun s e => match entryUnit e with
    | some u => s.stagePut u (entryOff e) (maskIn (s.stagedVal u (entryOff e)) e.2.1 e.2.2)
    | none => s) s

/-- The page counter of the last line triggered. -/
def pageNow (s : Block) : Nat := s.get uWeb F.WEB.PAGE_VALUE

/-- Live devices of this first-level ring other than this one. -/
def ringPeers (s : Block) : List Nat :=
  ((onesBelow 32 s.ringLive).filter (· != s.ringPos)).map fun p => s.devAddr - s.devAddr % 32 + p

/-- A service message to one device or to a whole scope; during ENUM it waits (R549). -/
def broadcastService (s : Block) (scope typ : Nat) (body : List Nat) : Block :=
  if s.ringState = 2 then
    { s with ring := { s.ring with
        waiting := s.ring.waiting ++ [⟨4, s.devAddr + scope * 0x4000, typ, s.devAddr, body⟩] } }
  else s.broadcast scope typ body

/-- The body of COMMIT_GROUP (R572). -/
def groupBody (window : Nat) (bnd : Boundary) (tag page : Nat) (es : List (Nat × Nat × Nat)) (cancel : Bool) : List Nat :=
  le 2 (0x3FC + window) ++ [bnd.rank, tag] ++ le 4 page ++ le 2 es.length ++ [b2n cancel, 0] ++
    (entryWords es).flatMap (le 4)

/-- A group staged and committed on this device at a ring window, for a page (R48). -/
def groupCommit (s : Block) (k : Nat) (bnd : Boundary) (tag page : Nat) (es : List (Nat × Nat × Nat)) : Block :=
  let u := uWindow k
  let s := (s.stageEntries es).commitStart u bnd tag
  let s := s.wr u 0x54 page
  { s with commits := s.commits.map fun c => if c.unit == u then { c with page := some page } else c }

/-- The boundary in force for a group at a window: the coarsest asked for and of the fields it changes (R43,
R48). -/
def groupBoundary (s : Block) (k : Nat) (bnd : Boundary) (es : List (Nat × Nat × Nat)) : Boundary :=
  (s.stageEntries es).commitBoundary (uWindow k) bnd

/-- A commit at a ring window by its merging device (R48, R570): COMMIT_PAGE two pages on, the group carried to
every member. How many members lie beyond this first-level ring the spec gives a device no way to know: a
free value (log entry 1). -/
def groupStart (s : Block) (k : Nat) (bnd : Boundary) (tag : Nat) (es : List (Nat × Nat × Nat)) : Block :=
  let page := (s.pageNow + 2) % 2 ^ 32
  let b := s.groupBoundary k bnd es
  let (far, s) := if k = 1 then (0, s) else (s.fresh % 0x4000, s.took)
  let s : Block := { s with ring := { s.ring with
    own := s.ring.own ++ [⟨k, b, tag, page, es, s.ringPeers, far, [], [], false, false⟩] } }
  let s := s.broadcastService k 0x24 (groupBody k b tag page es false)
  s.groupCommit k b tag page es

/-- The group of a window this merging device has sent. -/
def ownGroup (s : Block) (k : Nat) : Option RingOwn := s.ring.own.find? fun g => g.window == k

/-- The group of a window changed. -/
def setOwn (s : Block) (k : Nat) (f : RingOwn → RingOwn) : Block :=
  { s with ring := { s.ring with own := s.ring.own.map fun g => if g.window == k then f g else g } }

/-- The group of a window forgotten. -/
def dropOwn (s : Block) (k : Nat) : Block :=
  { s with ring := { s.ring with own := s.ring.own.filter fun g => g.window != k } }

/-- Members whose answer still counts: those the group was sent to that are live. -/
def ownLive (s : Block) (g : RingOwn) : List Nat := g.members.filter fun a => s.ringPeers.contains a

/-- Every one of the devices answered, in a list of answers. -/
def allIn (s : Block) (g : RingOwn) (l : List Nat) : Bool :=
  l.contains s.devAddr && (s.ownLive g).all l.contains &&
    decide (g.beyond ≤ (l.filter fun a => !(g.members.contains a) && a != s.devAddr).length)

/-- Requests to withdraw a window's commit that wait for its answers. -/
def cancelReply (s : Block) (k result : Nat) : Block :=
  (s.mbx.deferred.filter fun d => d.unit == some (uWindow k) && d.req.typ == 0x10 && bit (d.req.words.getD 0 0) 13).foldl
    (fun s d => s.replyDeferred d result 0 0 [0, 0, 0]) s

/-- What the answers to a window's group have settled: applied by all, so `PENDING` falls; or dropped by all, or
not, under a withdrawal (R47, R48, R570). A group some member kept runs to completion: it is sent again to
those that dropped it. -/
def groupSettle (s : Block) (k : Nat) : Block :=
  match s.ownGroup k, s.commits.find? fun c => c.unit == uWindow k with
  | some g, some c =>
    let mine := if c.todo.isEmpty then [s.devAddr] else []
    if g.cancelling then
      if g.kept || c.todo.isEmpty then
        if allIn s g (g.applied ++ g.dropped ++ [s.devAddr]) then
          let s := (s.setOwn k fun g => { g with cancelling := false, kept := false, dropped := [] }).refuseCommit
            .hw (uWindow k) 0x44 (uWindow k) 1
          let s := g.dropped.foldl (fun s a =>
            s.sendService a 0x24 (groupBody k g.bnd g.tag g.page g.entries false)) s
          s.cancelReply k 3
        else s
      else if allIn s g (g.dropped ++ [s.devAddr]) then ((s.dropOwn k).commitDrop c).cancelReply k 0
      else s
    else if allIn s g (g.applied ++ mine) then
      (s.dropOwn k).commitDone c (s.on (uWindow k) F.COMMON.COMMIT_STAT_SKEW)
    else s
  | _, _ => s

/-- A withdrawal at a ring window by its merging device (R47): refused at once when a member has applied the group;
otherwise carried to every member. -/
def groupCancel (s : Block) (m : Master) (k : Nat) : Bool × Block :=
  match s.ownGroup k, s.commits.find? fun c => c.unit == uWindow k && notEntered c with
  | some g, some _ =>
    if g.applied.isEmpty && !g.cancelling then
      let s := (s.setOwn k fun g => { g with cancelling := true }).broadcastService k 0x24
        (groupBody k g.bnd g.tag g.page [] true)
      (true, s.groupSettle k)
    else (false, s.refuseCommit m (uWindow k) 0x44 (uWindow k) 1)
  | _, _ => (false, s.refuseCommit m (uWindow k) 0x44 (((s.relatedCommit (uWindow k)).map Commit.unit).getD (uWindow k)) 1)

/-- A received group is staged and committed here once no related commit is pending; a page already begun moves
it to the following page, with SKEW (R48, R570). -/
def groupTry (s : Block) (g : RingGroup) : Block :=
  let u := uWindow g.window
  if g.started || (s.relatedCommit u).isSome then s
  else
    let late := pageCame s.pageNow g.page && (s.trig.lines.head?.isSome || decide (0 < g.page))
    let page := if late then (s.pageNow + 1) % 2 ^ 32 else g.page
    let s := if late then (s.set u F.COMMON.COMMIT_STAT_SKEW 1).log u 0x0042 0 page 0 0 else s
    let s := s.groupCommit g.window g.bnd g.tag page g.entries
    { s with ring := { s.ring with
        groups := s.ring.groups.map fun x => if x = g then { g with started := true, skew := late } else x } }

/-- Groups that waited for another commit. -/
def groupsPoll (s : Block) : Block := s.ring.groups.foldl groupTry s

/-- A received group changed. -/
def setGroup (s : Block) (g g' : RingGroup) : Block :=
  { s with ring := { s.ring with groups := s.ring.groups.map fun x => if x = g then g' else x } }

/-- A received group forgotten. -/
def dropGroup (s : Block) (g : RingGroup) : Block :=
  { s with ring := { s.ring with groups := s.ring.groups.erase g } }

/-- The window's commit of a group this member has applied or dropped comes to its end here too (R36, R47, R48). -/
def groupEnd (s : Block) (g : RingGroup) (skew : Bool) : Block :=
  let s := s.dropGroup g
  match s.commits.find? fun c => c.unit == uWindow g.window with
  | some c => if g.dropped then s.commitDrop c else s.commitDone c skew
  | none => s

/-- A group of a window this member has applied or dropped is over when another one comes; the same one sent again
runs to completion after all (R47). -/
def groupSuperseded (s : Block) (k tag src : Nat) : Block :=
  (s.ring.groups.filter fun g => g.window == k && (g.applied || g.dropped)).foldl (fun s g =>
    if g.dropped && g.tag == tag && g.src == src then
      let s := s.dropGroup g
      { s with commits := s.commits.filter fun c => c.unit != uWindow k }
    else s.groupEnd g g.skew) s

/-- Every member serves a ring's window with the same contents (R36), and nothing says when a member other than the
merging device learns what the others have answered: at each command free values say whether one of them has applied
the group late, and whether all have applied it, or dropped it (log entry 83). -/
def memberSettle (s : Block) (g : RingGroup) : Block :=
  if !g.started then s
  else
    let v := s.fresh
    let skew := !g.dropped && (g.skew || bit v 1)
    let s := if skew && !g.skew then s.took.set (uWindow g.window) F.COMMON.COMMIT_STAT_SKEW 1 else s.took
    if (g.applied || g.dropped) && bit v 0 then s.groupEnd g skew else s

/-- What the other members have answered by now, for every group received. -/
def membersSettle (s : Block) : Block := if s.cored then s.ring.groups.foldl memberSettle s else s

/-- COMMIT_GROUP arrives at a member (R47, R48, R570, R572). -/
def groupIn (s : Block) (src : Nat) (b : List Nat) : Block :=
  let k := leAt b 0 2 % 1024 - 0x3FC
  let tag := leAt b 3 1
  let page := leAt b 4 4
  let answer (s : Block) (flags page : Nat) : Block := s.sendService src 0x25 ([tag, flags, 0, 0] ++ le 4 page)
  if k < 1 ∨ 3 < k then s
  else if bit (leAt b 10 1) 0 then
    match s.ring.groups.find? fun g => g.window == k && g.tag == tag && g.src == src with
    | none => answer s 4 page
    | some g =>
      let c := s.commits.find? fun c => c.unit == uWindow k
      if g.dropped then answer s 2 0
      else if g.started && !((c.map notEntered).getD false) then answer s 4 page
      else
        let s := if g.started then (match c with
          | some c => (s.commitSet c { c with todo := [] }).setGroup g { g with dropped := true }
          | none => s.dropGroup g) else s.dropGroup g
        answer s 2 0
  else
    let es := (entriesOf ((List.range (3 * leAt b 8 2)).map fun i => leAt b (12 + 4 * i) 4))
    let g : RingGroup := ⟨k, Boundary.ofCode (leAt b 2 1), tag, page, es, src, false, false, false, false⟩
    let s := s.groupSuperseded k tag src
    ({ s with ring := { s.ring with groups := s.ring.groups ++ [g] } } : Block).groupTry g

/-- COMMIT_APPLIED arrives at the merging device (R47, R48, R570). -/
def appliedIn (s : Block) (src : Nat) (b : List Nat) : Block :=
  let tag := leAt b 0 1
  let fl := leAt b 1 1
  match s.ring.own.find? fun g => g.tag == tag && !(g.applied.contains src) && (g.window != 1 || g.members.contains src) with
  | none => s
  | some g =>
    let u := uWindow g.window
    let s := if bit fl 0 then s.set u F.COMMON.COMMIT_STAT_SKEW 1 else s
    let s := s.setOwn g.window fun g =>
      if bit fl 1 then { g with dropped := g.dropped ++ [src] }
      else { g with applied := g.applied ++ [src], kept := g.kept || g.cancelling }
    s.groupSettle g.window

/-- A ring-level commit has reached every unit of this device: a member answers, and `PENDING` stays until every member
has; the merging device counts itself (R48, R570). -/
def groupsReached (s : Block) : Block :=
  (s.commits.filter fun c => c.page.isSome && c.todo.isEmpty).foldl (fun s c =>
    match s.ring.groups.find? fun g => g.started && uWindow g.window == c.unit with
    | some g =>
      if g.applied || g.dropped then s
      else (s.setGroup g { g with applied := true }).sendService g.src 0x25
        ([g.tag, b2n g.skew, 0, 0] ++ le 4 ((c.eff.map (·.2)).getD 0))
    | none => s.groupSettle c.unit.inst) s

/-! ## A commit reaches a unit (R44) -/

/-- What new values in force from a line on start in a unit, from the state before. -/
def committed (old s : Block) (u : UnitId) (line : Nat) : Block :=
  match u.ty with
  | .ctx => ctxCommitted old s u.inst line
  | .camp => if old.on u F.CAMP.STREAM_CFG_STREAM_EN != s.on u F.CAMP.STREAM_CFG_STREAM_EN then s.campEnable u.inst else s
  | .sense => (List.range 16).foldl (fun s c =>
    s.senseCommitted (old.on uSense F.SENSE.BANK_STAT_PENDING) c (old.smode c) (old.sget F.SENSE.CH_CFG_USER c)) s
  | .web => webCommitted old s
  | .tango => tangoCommitted old s
  | .axis => axisCommitted old s u.inst
  | _ => s

/-- A line enters a unit, with what the values it brings start there. -/
def lineEnters (s : Block) (u : UnitId) (line : Nat) : Block :=
  if s.enters u line then committed s (s.enterUnit u line) u line else s

/-- A line is triggered: it enters every unit that lines enter then (R42, R44). -/
def lineTriggers (s : Block) (d : Decided) : Block :=
  let s := s.commitTrigger d
  ((s.commits.flatMap (·.todo)).filter atTrigger).eraseDups.foldl (fun s u => s.lineEnters u d.line) s

/-- The effective line of a commit, once it has been triggered. -/
def effTriggered (s : Block) (c : Commit) : Option Nat :=
  c.eff.bind fun e => match s.trig.lines.head? with
    | some d => if lineFrom e.1 d.line then some e.1 else none
    | none => none

/-- Units of a commit that its effective line never reaches: they take their values once the line has been triggered and
has entered the commit unit (R42, R44, R279). -/
def passedUnits (s : Block) (c : Commit) : List UnitId :=
  match s.effTriggered c with
  | none => []
  | some l =>
    if c.entered || (commitUnits c.unit).any atTrigger || !c.todo.any fun u => s.carries u l then
      c.todo.filter fun u => !atTrigger u && !s.carries u l
    else []

/-- What a line's way has settled: units that do not carry an effective line, records that EN = 0 closes (R295), and
ring-level groups. -/
def commitsSettle (s : Block) : Block :=
  let s := s.commits.foldl (fun s c =>
    (s.passedUnits c).foldl (fun s u => s.lineEnters u ((c.eff.map (·.1)).getD 0)) s) s
  ((List.range 32).foldl ctxOff s).groupsReached.groupsPoll

/-- Whether a line stands at a unit: about to be triggered, or the one the unit takes next. -/
def atDoor (s : Block) (u : UnitId) (line : Nat) : Bool :=
  if atTrigger u then (s.dueLine.map fun d => d.line == line).getD false
  else match u.ty with
    | .ctx => ((s.readyLine u.inst).map fun l => l.line == line).getD false
    | .stitch => s.stitch.lines.any fun e => e.line == line && (!e.got.isEmpty || s.ownComplete e)
    | .tango => (s.stitch.outq.head?.map fun w => w.line == line).getD false
    | _ => (s.tango.outq.head?.map fun l => l.w.line == line).getD false

/-- COMMIT_APPLY: a line that stands at a unit enters it (R42-R45). -/
def commitApply (s : Block) (u : UnitId) (line page pageLine : Nat) (first : Bool) : Block :=
  match (s.dueLine.toList ++ s.trig.lines).find? fun d => d.line == line with
  | none => s
  | some d =>
    if d.page = page ∧ d.pageLine = pageLine ∧ d.first = first ∧ s.atDoor u line then
      let s := if atTrigger u then s.commitTrigger d else s
      (s.lineEnters u line).commitsSettle
    else s

/-! ## Requests -/

/-- A write to a unit's COMMIT register by firmware (R42, R46, R48): at a ring window the merging device carries
it, and another member's firmware asks the merging device for it. -/
def commitReg (s : Block) (m : Master) (u : UnitId) (b : Boundary) (tag : Nat) : Block :=
  if u.ty = .device ∧ u.inst ≠ 0 then
    match s.mergeAt u.inst, s.relatedCommit u with
    | none, _ => s
    | some _, some c => s.refuseCommit m u 0x44 c.unit 0
    | some a, none =>
      if a = s.devAddr then s.groupStart u.inst b tag []
      else s.peerSend a (0x10 + tag * 256 + 4 * 65536) [u.index + b.rank * 1024]
  else s.commitWrite m u b tag

/-- A write to COMMIT with CANCEL = 1 by firmware (R47). -/
def cancelReg (s : Block) (m : Master) (u : UnitId) : Block :=
  if u.ty = .device ∧ u.inst ≠ 0 then
    match s.mergeAt u.inst with
    | none => s
    | some a =>
      if a = s.devAddr then (s.groupCancel m u.inst).2
      else s.peerSend a (0x10 + 4 * 65536) [u.index + 2 ^ 13]
  else (s.commitCancel m u).groupsPoll

/-- A request whose reply waits for a commit. -/
def await (s : Block) (typ : Nat) (m : Msg) (peer : Option Nat) (u : UnitId) : Block :=
  { s with mbx := { s.mbx with deferred := s.mbx.deferred ++
      [⟨⟨typ, m.tag, m.words, true⟩, some u, coreOf u, false, peer, none, none⟩] } }

/-- A request for a ring window passed on to its merging device; the MAILBOX message holds 232 bytes of payload
(log entry 7). -/
def passOn (s : Block) (typ : Nat) (m : Msg) (peer : Option Nat) (dest : Nat) (none3 : List Nat) : Block :=
  if 58 < m.words.length ∨ peer.isSome then s.answer peer typ m.tag 5 0 0 none3
  else
    let s : Block := { s with mbx := { s.mbx with deferred := s.mbx.deferred ++
      [⟨⟨typ, m.tag, m.words, true⟩, none, 2, false, none, some dest, none⟩] } }
    s.peerSend dest (typ + m.tag * 256 + 4 * m.words.length * 65536) m.words

/-- Entries staged and committed at a unit for a request, once they have been checked. The reply waits for `PENDING`
(R523, R524). -/
def stageGo (s : Block) (typ : Nat) (m : Msg) (peer : Option Nat) (cu : UnitId) (b : Boundary)
    (es : List (Nat × Nat × Nat)) : Block :=
  let z := [0, 0, 0]
  match firstBad (stageEntryOk cu) es with
  | some i => s.answer peer typ m.tag 5 0 i z
  | none =>
    if (s.relatedCommit cu).isSome then s.answer peer typ m.tag 3 0 0 z
    else
      let s := s.await typ m peer cu
      if cu.ty = .device ∧ cu.inst ≠ 0 then (s.groupStart cu.inst b m.tag es).groupSettle cu.inst
      else (s.stageEntries es).commitStart cu b m.tag

/-- STAGE_COMMIT (R523). -/
def stageCommit (s : Block) (m : Msg) (peer : Option Nat) : Block :=
  let w := m.words.getD 0 0
  let z := [0, 0, 0]
  let es := entriesOf (m.words.drop 1)
  match (unitOfIndex (bits w 9 0)).filter s.windowLive with
  | none => s.answer peer 0x10 m.tag 5 0 0 z
  | some cu =>
    match (if cu.ty = .device ∧ cu.inst ≠ 0 ∧ bit w 12 = false then (s.mergeAt cu.inst).filter (· != s.devAddr) else none) with
    | some a => s.passOn 0x10 m peer a z
    | none =>
      if bit w 13 then
        if cu.ty = .device ∧ cu.inst ≠ 0 then
          let n := s.mbx.deferred.length
          let (ok, s) := (s.await 0x10 m peer cu).groupCancel .core0 cu.inst
          if ok then s
          else match s.mbx.deferred[n]? with
            | some d => s.replyDeferred d 3 0 0 z
            | none => s
        else
          let can := s.commits.any fun c => c.unit == cu && notEntered c
          let s := (s.commitCancel .core0 cu).groupsPoll
          s.answer peer 0x10 m.tag (if can then 0 else 3) 0 0 z
      else if bit w 12 then
        match firstBad (stageEntryOk cu) es with
        | some i => s.answer peer 0x10 m.tag 5 0 i z
        | none =>
          if (s.relatedCommit cu).isSome then s.answer peer 0x10 m.tag 3 0 0 z
          else (s.stageEntries es).answer peer 0x10 m.tag 0 0 0 z
      else s.stageGo 0x10 m peer cu (Boundary.ofCode (bits w 11 10)) es

/-- EXPOSE (R525): the widths of the outputs named, with an epoch commit at TRIG or at the first-level ring
window. -/
def expose (s : Block) (m : Msg) (peer : Option Nat) : Block :=
  let w := m.words.getD 0 0
  let width := bits (m.words.getD 1 0) 19 0
  let es := (onesBelow 12 w).map fun k => (uTrig.index + F.TRIG.EXPOSE_WIDTH_NS.at k * 1024, 2 ^ 20 - 1, width)
  if bit w 16 then
    match s.mergeAt 1 with
    | none => s.answer peer 0x12 m.tag 5 0 0 [0, 0, 0]
    | some a =>
      if a = s.devAddr then s.stageGo 0x12 m peer (uWindow 1) .epoch es
      else s.passOn 0x12 m peer a [0, 0, 0]
  else s.stageGo 0x12 m peer uTrig .epoch es

/-- Firmware takes a message of another device's firmware (R521): a request for a ring window, or the answer to one
passed on. Other types are between firmwares, and the spec gives them no effect. -/
def peerMessage (s : Block) (p : PeerMsg) : Block :=
  let typ := p.hdr % 256
  let m : Msg := ⟨p.hdr / 256 % 256, p.payload⟩
  if typ = 0x10 then s.stageCommit m (some p.src)
  else if typ = 0x12 then s.expose m (some p.src)
  else match s.mbx.deferred.find? fun d => d.via == some p.src && d.req.typ + 0x80 == typ && d.req.tag == m.tag with
    | some d =>
      let r := m.words.getD 0 0
      s.replyDeferred d (bits r 7 0) (bits r 15 8) (bits r 31 16) (m.words.drop 1)
    | none => s

/-- Firmware takes what stands in the inter-device inbox, and its slots are free again (R518, R521, R549). -/
def takePeers (s : Block) : Block :=
  if s.isRunning && decide (s.mbx.held.length < 32) then
    let l := s.ring.inbox
    let s : Block := { s with ring := { s.ring with
      inbox := [], credit := { s.ring.credit with mbxGranted := s.ring.credit.mbxGranted + l.length } } }
    l.foldl peerMessage s
  else s

/-- Whether this firmware yields to another's message: it has one waiting for it, and the higher address (R521). -/
def yields (s : Block) (src : Nat) : Bool :=
  decide (src < s.devAddr) && s.ring.waiting.any fun m => m.typ == 0x20 && m.src == s.devAddr && m.dest == src

/-- Own messages to a device marked as sent again after yielding (R572). -/
def markResent (s : Block) (dst : Nat) : Block :=
  { s with ring := { s.ring with waiting := s.ring.waiting.map fun m =>
      if m.typ == 0x20 && m.src == s.devAddr && m.dest == dst then { m with body := upd m.body 2 fun _ => 1 } else m } }

/-- A MAILBOX message arrives (R521, R571, R572): eight are held, and one more of a device this one yields to. -/
def mailboxIn (s : Block) (src : Nat) (b : List Nat) : Block :=
  let n := (b.length - 8) / 4
  let p : PeerMsg := ⟨src, leAt b 0 2, leAt b 4 4, (List.range n).map fun i => leAt b (8 + 4 * i) 4⟩
  let put (s : Block) : Block := { s with ring := { s.ring with inbox := s.ring.inbox ++ [p] } }
  if s.ring.inbox.length < 8 then (put s).takePeers
  else if s.yields src then (put (s.markResent src)).takePeers
  else s

end Block
end Sys2Proof.Machine
end

