-- ==== Sys2Proof/Machine/Catalog.lean ====
section
/-! DEFINITION. The message catalogue but for CONTROL, CAL_RUN, IMAGE_UPDATE and the lifecycle requests (R522-R528,
R532-R534). -/

namespace Sys2Proof.Machine
namespace Block

/-- Firmware carries out a request of the host: it leaves those held, its LEN is checked, and a long request is
answered BUSY while another runs (R515-R517). -/
def request (s : Block) (typ : Nat) (m : Msg) (f : Block → Block) : Block :=
  if s.isRunning then
    let s := s.serve typ m.tag
    if !(lenOk typ (4 * m.words.length) m.words) then s.reply typ m.tag 6 0 []
    else if isLong typ && s.longRunning then s.reply typ m.tag 1 0 []
    else f s
  else s

/-- A long request carried out, its reply to come (R517). -/
def longDone (s : Block) (typ : Nat) (m : Msg) (core result detail : Nat) (extra : List Nat) : Block :=
  { s with mbx := { s.mbx with deferred := s.mbx.deferred ++
      [⟨⟨typ, m.tag, m.words, true⟩, none, core, false, none, none, some (result, detail, extra)⟩] } }

/-- REQUEST_DEFERRED_REPLY: a long request completes (R516, R517). -/
def deferredReply (s : Block) (typ tag : Nat) : Block :=
  match s.mbx.deferred.find? fun d => d.req.typ == typ && d.req.tag == tag && d.done.isSome with
  | some d =>
    let (r, det, ws) := d.done.getD (0, 0, [])
    s.replyDeferred d r 0 det ws
  | none => s

/-- GET_STATUS (R534). -/
def getStatus (s : Block) (m : Msg) : Block :=
  s.reply 0x01 m.tag 0 0 [s.rd uSys F.SYS.BOOT_STAT_PHASE.off, s.rd uSys F.SYS.LIFECYCLE_STATE.off,
    s.get uSys F.SYS.IMAGE_SEQ_SEQUENCE, Sys2Proof.Config.firmwareVersion % 2 ^ 32,
    1 + s.mbx.held.length * 256 + b2n s.longRunning * 2 ^ 14, s.rd uSys F.SYS.UNIT_FAIL_CORE.off]

/-- GET_NONCE (R532). -/
def getNonce (s : Block) (m : Msg) : Block :=
  let n := s.fresh % 2 ^ 128
  let s : Block := { s.took with mbx := { s.mbx with nonce := some n } }
  s.reply 0x02 m.tag 0 0 ((List.range 4).map fun i => n / 2 ^ (32 * i) % 2 ^ 32)

/-- RESET (R533): the reply, and a device reset at most 1 ms later. -/
def resetReq (s : Block) (m : Msg) (env : BootEnv) : Block :=
  let s := s.reply 0x03 m.tag 0 0 []
  { s with boot := { s.boot with resetDue := some ((s.lt + 1000000) % 2 ^ 64, 1, env) } }

/-- TIME_STEP (R522): the STEP registers and GO; the step has its effect at once (R209, R229). -/
def timeStepReq (s : Block) (m : Msg) : Block :=
  let w (i : Nat) : Nat := m.words.getD i 0
  let s := (s.set uTime F.TIME.STEP_SEC_LO_SEC (w 0)).set uTime F.TIME.STEP_SEC_HI_SEC (bits (w 1) 15 0)
  let s := (s.set uTime F.TIME.STEP_NS_NS (bits (w 2) 29 0)).set uTime F.TIME.STEP_NS_NEG (bits (w 2) 31 31)
  s.stepGo.reply 0x13 m.tag 0 0 []

/-- PAGE_JOB (R339, R522). -/
def pageJobReq (s : Block) (m : Msg) : Block :=
  let (r, d, s) := s.pageJob m.words
  s.reply 0x20 m.tag r d []

/-- REF_LOAD (R334, R335, R527): at most 507 of the handles evicted are listed. -/
def refLoadReq (s : Block) (m : Msg) : Block :=
  let (r, out, s) := s.refLoad (loadDesc m.words)
  let l := out.take 507
  s.reply 0x21 m.tag r (l.length + (if 507 < out.length then 2 ^ 15 else 0)) l

/-- REF_ABORT (R522). -/
def refAbortReq (s : Block) (m : Msg) : Block :=
  let (r, s) := s.refAbort (m.words.getD 0 0)
  s.reply 0x22 m.tag r 0 []

/-- REF_RELEASE (R332, R522). -/
def refReleaseReq (s : Block) (m : Msg) : Block :=
  let (r, d, s) := s.refRelease (m.words.getD 0 0)
  s.reply 0x23 m.tag r d []

/-- MAP_LOAD (R382, R383, R522). -/
def mapLoadReq (s : Block) (m : Msg) : Block :=
  let (r, s) := s.mapLoad m.words
  s.reply 0x24 m.tag r 0 []

/-- MAP_ABORT (R522). -/
def mapAbortReq (s : Block) (m : Msg) : Block :=
  let (r, s) := s.mapAbort (bits (m.words.getD 0 0) 15 0)
  s.reply 0x25 m.tag r 0 []

/-- MAP_RELEASE (R383, R522). -/
def mapReleaseReq (s : Block) (m : Msg) : Block :=
  let (r, d, s) := s.mapRelease (bits (m.words.getD 0 0) 15 0)
  s.reply 0x26 m.tag r d []

/-! ## Tables and readback (R528) -/

/-- The words of a table request: target, context, bank, first word, count, space, address. -/
structure TableReq where
  target : Nat
  ctx : Nat
  bank : Nat
  first : Nat
  count : Nat
  space : Nat
  addr : Nat

/-- A table request from its payload (R528). -/
def tableReq (w : List Nat) : TableReq :=
  let g (i : Nat) : Nat := w.getD i 0
  ⟨bits (g 0) 7 0, bits (g 0) 15 8, bits (g 0) 16 16, g 1, g 2, bits (g 3) 1 0, g 4 + g 5 * 2 ^ 32⟩

/-- A word of a context's bank in context memory, if the bank has it (R285, R302, R307). -/
def bankAddr (target bank w : Nat) : Option Nat :=
  match target with
  | 0 => if w < 49152 then some (corrAddr bank w) else none
  | 1 => if w < 24576 then some (geoAddr bank w) else none
  | _ => if w < 3075 then some (linAddr bank w) else none

/-- Writes to the bank would be discarded (R241, R286, R302). -/
def bankLocked (s : Block) (r : TableReq) : Bool :=
  let field := match r.target with
    | 0 => F.CTX.TABLE_BANK
    | 1 => F.CTX.GEO_CFG_GEO_BANK
    | _ => F.CTX.GEO_CFG_LIN_BANK
  if r.target = 3 then s.on uSense F.SENSE.BANK_STAT_PENDING
  else r.bank == s.get (uCtx r.ctx) field || s.bankPending r.ctx field

/-- A coefficient field of a SENSE bank. -/
def coefField (bank : Nat) : Field := if bank = 0 then F.SENSE.BANK0_COEF else F.SENSE.BANK1_COEF

/-- One word of a bank written; a word the bank does not have is not kept. -/
def bankPut (s : Block) (r : TableReq) (w v : Nat) : Block :=
  if r.target = 3 then (if w < 256 then s.setI uSense (coefField r.bank) w v else s)
  else match bankAddr r.target r.bank w with
    | some a => s.setTbl r.ctx a v
    | none => s

/-- One word of a bank read; a word the bank does not have has no stated value. -/
def bankGet (s : Block) (r : TableReq) (w wild : Nat) : Nat :=
  if r.target = 3 then (if w < 256 then s.getI uSense (coefField r.bank) w else wild)
  else match bankAddr r.target r.bank w with
    | some a => s.tblFetch r.ctx a
    | none => wild

/-- The bank a request names exists. -/
def tableNamed (r : TableReq) : Bool := decide (r.target ≤ 3)

/-- The data a privileged channel fetches: of DRAM here, of host memory with the command; `ok` says that host memory
answered without error. -/
def fetchFor (s : Block) (space addr n : Nat) (data : List Nat) (ok : Bool) : Bool × List Nat × Block :=
  if space = 1 then
    if s.dramUp then
      let (b, ue, s) := s.dramRead addr n
      (ue.isEmpty, b, s)
    else (false, [], s)
  else (ok, data.take n, s)

/-- Bytes a privileged channel writes; answers whether they were taken. -/
def storeFor (s : Block) (space addr : Nat) (l : List Nat) (ok : Bool) : Bool × Block :=
  if space = 1 then
    if s.dramUp then
      let (bad, s) := s.dramWrite addr l
      (!bad, s)
    else (false, s)
  else (ok, s.emit (.hostWrite addr l))

/-- The result of a transfer: the spec gives no DETAIL for one that fails (log entry 26). -/
def moved (s : Block) (typ : Nat) (m : Msg) (core : Nat) (ok : Bool) : Block :=
  if ok then s.longDone typ m core 0 0 [] else s.took.longDone typ m core 10 (s.fresh % 65536) []

/-- A context the spec does not have acts as one it has. -/
def anyCtx (s : Block) (r : TableReq) : TableReq × Block :=
  if r.target < 3 ∧ 32 ≤ r.ctx then ({ r with ctx := s.fresh % 32 }, s.took) else (r, s)

/-- TABLE_WRITE (R528). -/
def tableWrite (s : Block) (m : Msg) (data : List Nat) (ok : Bool) : Block :=
  let (r, s) := s.anyCtx (tableReq m.words)
  if !tableNamed r then s.reply 0x30 m.tag 5 0 []
  else if r.count ≠ 0 && s.bankLocked r then s.reply 0x30 m.tag 3 0 []
  else
    let (good, b, s) := s.fetchFor r.space r.addr (4 * r.count) data ok
    let ws := wordsOf (b.length / 4) b
    let s := if good then
        ((List.range ws.length).zip ws).foldl (fun s p => s.bankPut r (r.first + p.1) p.2) s else s
    s.moved 0x30 m (if r.target = 3 then 3 else 1) good

/-- TABLE_READ (R528). -/
def tableRead (s : Block) (m : Msg) (ok : Bool) : Block :=
  let (r, s) := s.anyCtx (tableReq m.words)
  if !tableNamed r then s.reply 0x31 m.tag 5 0 []
  else
    let wild := s.fresh % 2 ^ 32
    let ws := (List.range r.count).map fun i => s.bankGet r (r.first + i) wild
    let s := if r.target = 3 then s else s.took.sramSeen (uCtx r.ctx) fun a =>
      (List.range r.count).any fun i => bankAddr r.target r.bank (r.first + i) == some a
    let (good, s) := s.storeFor r.space r.addr (ws.flatMap (le 4)) ok
    s.moved 0x31 m (if r.target = 3 then 3 else 1) good

/-- REF_READBACK (R343-R345, R528): the band's 16 lines as Lab32 words. Pixels of a block that cannot be decoded,
and a band the reference does not have, are free values (log entry 1). -/
def refReadback (s : Block) (m : Msg) (ok : Bool) : Block :=
  let w (i : Nat) : Nat := m.words.getD i 0
  match s.refOf (w 0) with
  | none => s.reply 0x32 m.tag 4 0 []
  | some e =>
    if e.state ≠ 2 then s.reply 0x32 m.tag 1 0 []
    else
      let (ws, s) :=
        if w 1 < e.bandCount then
          let (bl, s) := s.decodeBand e (w 1)
          ((List.range 16).flatMap fun y => (List.range e.width).map fun x =>
            match bl[x / 64]? with
            | some (pl, _) =>
              let (l, a, b) := nativeLab e.fmt (pl.map fun p => p.getD (y * 64 + x % 64) 0)
              wrapN 12 l + wrapN 10 a * 2 ^ 12 + wrapN 10 b * 2 ^ 22
            | none => 0, s)
        else ((List.range (16 * e.width)).map fun i => Config.free s.freeCtr / 2 ^ (32 * i) % 2 ^ 32, s.took)
      let (good, s) := s.storeFor 0 (w 2 + w 3 * 2 ^ 32) (ws.flatMap (le 4)) ok
      s.moved 0x32 m 1 good

end Block
end Sys2Proof.Machine
end

