-- ==== Sys2Proof/Machine/Event.lean ====
section
/-! DEFINITION. The event fabric: deliveries, task inputs, exports, software and GPIO producers (R574-R588). -/

namespace Sys2Proof.Machine
namespace Block

/-- Route fields of task input j (R588): channel and enable. -/
def taskFields (j : Nat) : Field × Field :=
  match j % 4 with
  | 0 => (F.EVT.TASK_CH, F.EVT.TASK_EN) | 1 => (F.EVT.TASK_CH1, F.EVT.TASK_EN1)
  | 2 => (F.EVT.TASK_CH2, F.EVT.TASK_EN2) | _ => (F.EVT.TASK_CH3, F.EVT.TASK_EN3)

/-- Task input j takes the deliveries of channel c (R577). -/
def taskOn (s : Block) (c j : Nat) : Bool :=
  s.onI uEvt (taskFields j).2 (j / 4) && s.getI uEvt (taskFields j).1 (j / 4) == c

/-- A delivery to task input j found its consumer busy (R582). -/
def taskOverrun (s : Block) (j : Nat) : Block :=
  let s := (s.setBitI uEvt F.EVT.TASK_OVR_FLAG_OVR (j / 32) (j % 32)).set uEvt F.EVT.FLAGS_OVERRUN 1
  s.incI uEvt (if j % 2 = 0 then F.EVT.TASK_OVR_CNT_COUNT_LO else F.EVT.TASK_OVR_CNT_COUNT_HI) (j / 2)

/-- Level of a GPIO output, active or at rest (R587). -/
def gpioLevel (s : Block) (k : Nat) (active : Bool) : Bool := active != s.onI uEvt F.EVT.GPIO_POL k

/-- Interrupt line n = 32q + l of the control cores: whether it is pending and firmware has not yet taken it.
When firmware takes a line the spec does not say: a free value decides. -/
def lineBusy (s : Block) (n : Nat) : Bool :=
  !(nth s.boot.cores (n / 32) false) || (s.evt.irqLines.contains n && s.fresh % 2 == 1)

/-- A delivery reaches task input j (R576, R582). -/
def taskDeliver (s : Block) (j : Nat) : Block :=
  if j < 16 then
    if (s.sch j).busy || !(s.senseFed j) then (s.taskOverrun j).ssTrigger j else s.ssTrigger j
  else if j < 18 then s.axisStop (j - 16)
  else if j < 50 then
    if bit (s.get uBar2 F.MBXB.DB_PEND_PEND) (j - 18) then s.taskOverrun j else s.fwDoorbell (j - 18)
  else if j < 66 then
    let k := j - 50
    if !(s.onI uEvt F.EVT.GPIO_OUT k) || !s.isRunning then s
    else if s.evt.gpioPulse.contains k then s.taskOverrun j
    else
      { s with evt := { s.evt with gpioPulse := s.evt.gpioPulse ++ [k] } }.emit (.pin (.gpio k) (s.gpioLevel k true))
  else if j < 194 then
    let n := j - 66
    let busy := s.lineBusy n
    let s : Block := if s.evt.irqLines.contains n then s.took else s
    if busy then s.taskOverrun j
    else if s.evt.irqLines.contains n then s
    else { s with evt := { s.evt with irqLines := s.evt.irqLines ++ [n] } }
  else s

/-- Lowest-numbered producer among the arrivals at the first instant of a window (R584). -/
def windowSrc (w : EvtWindow) : Nat :=
  match w.arrivals with
  | [] => 0
  | (t, p) :: r => r.foldl (fun m a => if a.1 = t ∧ a.2 < m then a.2 else m) p

/-- A delivery of channel c joins or makes its export (R579). -/
def exportDelivery (s : Block) (c : Nat) : Block :=
  if s.getI uEvt F.EVT.CH_CFG_EXPORT c = 0 ∨ s.onI uEvt F.EVT.CH_CFG_SEC c = true then s
  else
    let e : EvtExport := match findK c s.evt.exports with
      | some e => { e with coal := e.coal + 1 }
      | none => ⟨s.lt, 0⟩
    ({ s with evt := { s.evt with exports := bindK c e s.evt.exports } } : Block).exportSend c

/-- The oldest acceptance window of channel c closes, 10 ns after it opened: one delivery (R578, R580, R586). -/
def eventDelivery (s : Block) (c : Nat) : Block :=
  match findK c s.evt.windows with
  | none => s
  | some w =>
    if (w.arrivals.head?.map fun a => decide (s.since a.1 < 10)).getD false then s
    else
    let was := s.onI uEvt F.EVT.CH_STAT_PEND c
    let s : Block := { s with evt := { s.evt with windows := s.evt.windows.erase (c, w) } }
    let s := (s.setI uEvt F.EVT.CH_STAT_PEND c 1).setI uEvt F.EVT.CH_STAT_LAST_SRC c (windowSrc w)
    let s : Block := if !was && !(s.onI uEvt F.EVT.CH_CFG_OWNER c) && s.onI uEvt F.EVT.CH_CTL_IRQ_EN c then s.msix 61 else s
    ((List.range 256).filter (s.taskOn c)).foldl taskDeliver (s.exportDelivery c)

/-- An export unsent 4 ms after its delivery is discarded (R579). -/
def exportDrop (s : Block) (c : Nat) : Block :=
  match findK c s.evt.exports with
  | none => s
  | some e =>
    if s.since e.lt < 4000000 then s
    else (({ s with evt := { s.evt with exports := dropK c s.evt.exports } } : Block).set uEvt
      F.EVT.FLAGS_EXPORT_DROP 1).log uEvt 0x000D 2 c 0 0

/-- An EVENT message raises RING_IN_c (R579). -/
def ringEvent (s : Block) (src : Nat) (body : List Nat) : Block := s.raiseFrom (384 + leAt body 0 1 % 128) src

/-- Writes of `EVT.SW_HOST` and `EVT.SW_FW` (R575). -/
def swRaise (s : Block) (base w : Nat) : Block := (onesBelow 16 w).foldl (fun s i => s.raise (base + i)) s

/-- `EVT.CH_c_CTL.CLR_COAL` (R588). -/
def clrCoal (s : Block) (c : Nat) : Block := s.setI uEvt F.EVT.CH_STAT_COAL c 0

/-- An accepted level of ball GPIOk (R587): from RUNNING it is an input's, and an edge of the kind EDGE selects raises
its producer. Rising is from inactive to active, POL taken into account (log entry 22). -/
def gpioEdge (s : Block) (k : Nat) (high : Bool) : Block :=
  if !s.isRunning || 16 ≤ k || bit (s.get uEvt F.EVT.GPIO_IN_LEVEL) k == high then s
  else
    let s : Block := if high then s.setBitI uEvt F.EVT.GPIO_IN_LEVEL 0 k else s.clrBitI uEvt F.EVT.GPIO_IN_LEVEL 0 k
    let e := s.getI uEvt F.EVT.GPIO_EDGE k
    if !(s.onI uEvt F.EVT.GPIO_OUT k) && bit e (if high != s.onI uEvt F.EVT.GPIO_POL k then 0 else 1) then
      s.raise (196 + k)
    else s

/-- The pulse of a GPIO output ends (R587). -/
def gpioPulseEnd (s : Block) (k : Nat) : Block :=
  if s.evt.gpioPulse.contains k then
    { s with evt := { s.evt with gpioPulse := s.evt.gpioPulse.filter (· != k) } }.emit
      (.pin (.gpio k) (s.gpioLevel k false))
  else s

/-- `HOST_PEND_w` (R586). -/
def hostPend (s : Block) (w : Nat) : Nat :=
  sumN ((List.range 32).map fun i =>
    if s.onI uEvt F.EVT.CH_STAT_PEND (32 * w + i) && !(s.onI uEvt F.EVT.CH_CFG_OWNER (32 * w + i)) then 2 ^ i else 0)

/-- A host-port reset clears PEND and IRQ_EN of the host's channels (R585). -/
def evtHostReset (s : Block) : Block :=
  (List.range 128).foldl (fun s c =>
    if s.onI uEvt F.EVT.CH_CFG_OWNER c then s
    else (s.setI uEvt F.EVT.CH_STAT_PEND c 0).setI uEvt F.EVT.CH_CTL_IRQ_EN c 0) s

/-- A reset of control core q clears its pending lines (R585). -/
def evtCoreReset (s : Block) (q : Nat) : Block :=
  { s with evt := { s.evt with irqLines := s.evt.irqLines.filter fun n => n / 32 != q } }

/-- `EVT.CTL.CLEAR_CNT`. -/
def evtClear (s : Block) : Block :=
  s.clearAll uEvt [F.EVT.CH_STAT_COAL, F.EVT.TASK_OVR_CNT_COUNT_LO, F.EVT.TASK_OVR_CNT_COUNT_HI]

/-! ## Error log (R589-R595) -/

/-- The eight words of an entry (R590). -/
def ErrEntry.words (e : ErrEntry) : List Nat :=
  [e.seq, e.lt % 2 ^ 32, e.lt / 2 ^ 32, e.unit + e.code * 65536,
   e.master.code + e.sev * 256 + e.rep * 65536, e.arg0, e.arg1, e.arg2]

/-- A write of `ERRLOG.SEL` by a master (R593). -/
def errlogSelect (s : Block) (m : Master) (v : Nat) : Block :=
  { s with errlog := { s.errlog with sel := s.errlog.sel.set m (v % 2 ^ 32) } }

/-- The entry a master has selected, if held (R593). -/
def errlogSel (s : Block) (m : Master) : Option ErrEntry :=
  s.errlog.entries.find? fun e => e.seq == s.errlog.sel.get m

/-- A host-port reset returns the host's SEL, HOST_ACK and HOST_CFG to their reset values (R594). -/
def errlogHostReset (s : Block) : Block :=
  (s.errlogSelect .host 0).resetAll uErrlog [F.ERRLOG.HOST_ACK_SEQ, F.ERRLOG.HOST_CFG_IRQ_EN]

/-- `ERRLOG.CTL.CLEAR_CNT`. -/
def errlogClear (s : Block) : Block :=
  s.clearAll uErrlog [F.ERRLOG.CNT_LOST_COUNT, F.ERRLOG.CNT_DROP_COUNT, F.ERRLOG.CNT_SRAM_CE_COUNT,
    F.ERRLOG.CNT_SRAM_UE_COUNT]

end Block
end Sys2Proof.Machine
end

