-- ==== Sys2Proof/Machine/Read.lean ====
section
/-! DEFINITION. What a register reads: descriptors, child tables, common registers, staged images, the values of each
master, and the fields that follow from the state of a unit (R7, R8, R30-R41, R649). -/

namespace Sys2Proof.Machine

/-- FIELDS of the descriptor: rows with a named field in the type's register map (R649). -/
def UnitType.fieldRows : UnitType → Nat
  | .device => 0 | .sys => 33 | .clk => 35 | .thm => 30 | .serdes => 27 | .lane => 16 | .camp => 25 | .time => 52
  | .trig => 11 | .sense => 38 | .web => 48 | .lport => 11 | .strip => 6 | .ctx => 79 | .stitch => 19 | .refs => 17
  | .codec => 9 | .tango => 29 | .seg => 30 | .tag => 28 | .latgov => 27 | .axis => 44 | .dmc => 39 | .host => 21
  | .dma => 30 | .mbx => 20 | .mbxBar2 => 0 | .ring => 48 | .evt => 31 | .errlog => 11 | .cal => 26 | .lock => 5

/-- The children of a unit inside its device, ascending unit index. -/
def UnitId.children (u : UnitId) : List UnitId :=
  match u.ty with
  | .device => UnitId.all.filter fun c => c.parent == some uDevice
  | .serdes => (List.range 61).map uLane
  | .strip => (List.range 4).map fun j => uCtx (4 * u.inst + j)
  | _ => []

/-- WINDOW_SIZE (R30): 0x4000 with staged registers, else the end of the last register region in steps of 64. -/
def UnitId.windowSize (u : UnitId) : Nat :=
  if u.ty.hasStage then 0x4000
  else
    let last := maxD 0x100 (u.ty.map.map fun f => f.off + f.stride * (f.count - 1) + 4)
    let last := if u.ty.bouquet then 0x1000 + 4 * u.children.length else last
    Nat.min 0x2000 ((last + 63) / 64 * 64)

/-- TYPE_INFO [31:0] of a strip or context (R272). -/
def UnitId.typeInfo (u : UnitId) : Nat :=
  match u.ty with
  | .strip => u.inst
  | .ctx => u.inst + u.inst / 4 * 256 + u.inst % 4 * 65536
  | _ => 0

/-- A field at an instance, with a value. -/
structure FieldVal where
  f : Field
  i : Nat
  v : Nat

/-- A word with fields put into their places. -/
def withFields (w : Nat) (l : List FieldVal) : Nat := l.foldl (fun w x => putBits w x.f.hi x.f.lo x.v) w

namespace Block

/-- Reference of a unit of this device (R30). -/
def unitRef (s : Block) (u : UnitId) : Nat := s.devAddr * 1024 + u.index

/-! ## Ring windows (R36, R37, R559) -/

/-- The RESULT that describes the ring of window k, if the device is in one. -/
def windowResult (s : Block) (k : Nat) : Option ResultMsg := if s.windowLive (uWindow k) then s.ringResult k else none

/-- References of a ring's children, ascending position: members' DEVICE units, or the ring-level DEVICEs below. -/
def ringChildren (s : Block) (k : Nat) : List Nat :=
  match s.windowResult k with
  | none => []
  | some r => ((List.range 32).filter (bit r.live)).map fun p =>
      if k = 1 then (s.devAddr - s.devAddr % 32 + p) * 1024 else nth r.mergeOf p 0 % 0x4000 * 1024 + 0x3FC + (k - 1)

/-- Reference of the ring window k as its merging device gives it (R37). -/
def windowRef (s : Block) (k : Nat) : Option Nat := (s.mergeAt k).map fun a => a * 1024 + 0x3FC + k

/-- Ring size of level k. -/
def sizeAt (s : Block) (k : Nat) : Nat :=
  match k with
  | 1 => s.ringSize
  | 2 => s.get uRing F.RING.NEST_SIZE2
  | _ => s.get uRing F.RING.NEST_SIZE3

/-- Position of the ring of level k in its parent ring. -/
def posAbove (s : Block) (k : Nat) : Nat :=
  match k with
  | 1 => s.get uRing F.RING.NEST_POS2
  | 2 => s.get uRing F.RING.NEST_POS3
  | _ => 0

/-- Word of the descriptor of ring window k. -/
def ringDescriptor (s : Block) (k off : Nat) : Nat :=
  let kids := s.ringChildren k
  let up := if k < 3 then (if s.windowLive (uWindow (k + 1)) then s.windowRef (k + 1) else none) else none
  let r := s.windowResult k
  match off with
  | 0x00 => 0x01 + 0x0100 + (1 + 2 * b2n up.isNone + 4) * 0x10000 + 0x01000000
  | 0x04 => up.getD 0
  | 0x08 => kids.length + s.posAbove k * 65536
  | 0x0C => kids.headD 0
  | 0x10 => Nat.min 0x2000 ((0x1000 + 4 * kids.length + 63) / 64 * 64)
  | 0x14 => 0x0C + (k + 1) * 256
  | 0x18 => (s.windowRef k).getD 0
  | 0x20 => s.sizeAt k + b2n (bit ((r.map ResultMsg.flags).getD 0) 0) * 65536
  | 0x24 => (r.map ResultMsg.epoch).getD 0
  | _ => 0

/-! ## Descriptors and child tables -/

/-- Reference of the parent of a unit, if it has one: the DEVICE's is its ring's window (R28, R37). -/
def parentRef (s : Block) (u : UnitId) : Option Nat :=
  match u.parent with
  | some p => some (s.unitRef p)
  | none => if s.windowLive (uWindow 1) then s.windowRef 1 else none

/-- Word of a unit's descriptor (R30). -/
def descriptor (s : Block) (u : UnitId) (off : Nat) : Nat :=
  let kids := u.children
  match off with
  | 0x00 => u.ty.code + 0x0100 + (b2n u.ty.bouquet + 2 * b2n (s.parentRef u).isNone + 4) * 0x10000 + u.ty.owner * 0x1000000
  | 0x04 => (s.parentRef u).getD 0
  | 0x08 => kids.length + u.inst * 65536
  | 0x0C => (kids.head?.map s.unitRef).getD 0
  | 0x10 => u.windowSize
  | 0x14 => sumN (u.boundaries.map fun b => 2 ^ b.rank) + b2n (u.ty == .device) * 256
  | 0x18 => s.unitRef u
  | 0x1C => u.ty.fieldRows
  | 0x20 => u.typeInfo
  | _ => 0

/-! ## Common registers (R34) -/

/-- A status bit of the unit itself is set: an RW1C field of its map, of its BAR2 map, or of its common registers. -/
def unitAttn (s : Block) (u : UnitId) : Bool :=
  let any (v : UnitId) (l : List Field) : Bool :=
    l.any fun f => f.acc == .rw1c && (List.range f.count).any fun i => s.getI v f i != 0
  any u F.COMMON.all || any u u.ty.map || (u.ty == .mbx && any uBar2 UnitType.mbxBar2.map)

/-- The unit is a ring's window, and units of other devices lie below it (R36). -/
def hasOthers (s : Block) (u : UnitId) : Bool :=
  u.ty == .device && u.inst != 0 && (u.inst != 1 || !s.ringPeers.isEmpty)

/-- UNIT_STAT. ATTN and PEND of a ring window take in the other members, of which nothing says how this device learns
(log entry 83). -/
def unitStat (s : Block) (u : UnitId) (wild : Nat) : Nat :=
  let far := s.hasOthers u
  let attn := (u.subtree.any fun v => s.windowLive v && s.unitAttn v) || (far && bit wild 0)
  b2n attn + 2 * b2n ((s.relatedCommit u).isSome || (far && bit wild 1)) + 4 * b2n (s.unitOpen u)

/-- STAGE_PEND, of a ring window with a value for the other members. -/
def stagePend (s : Block) (u : UnitId) (wild : Nat) : Nat :=
  Nat.min 0xFFFF ((s.stagedDiffs u).length + (if s.hasOthers u then wild % 65536 else 0))

/-- COMMIT_STAT, whose REFUSED at a ring window also tells of refusals at other members (R36, R46). -/
def commitStat (s : Block) (u : UnitId) (wild : Nat) : Nat :=
  let w := s.rd u 0x48
  if s.hasOthers u && bit wild 0 then putBits w 2 2 1 else w

/-! ## Fields that follow from the state of a unit -/

/-- The selection the master has made in CAL (R618). -/
def calQ (s : Block) (m : Master) : List FieldVal :=
  let q := s.calSel m
  let get (f : CalRec → Nat) : Nat := (q.map f).getD 0
  [⟨F.CAL.Q_SEL_PROC, 0, s.cal.sel.get m % 256⟩, ⟨F.CAL.Q_SEL_TARGET, 0, s.cal.sel.get m / 256⟩,
   ⟨F.CAL.Q_STAT_VALID, 0, b2n q.isSome⟩, ⟨F.CAL.Q_STAT_PASS, 0, get fun r => r.flags % 2⟩,
   ⟨F.CAL.Q_STAT_APPLIED, 0, get fun r => r.flags / 2 % 2⟩, ⟨F.CAL.Q_STAT_GRADE, 0, get CalRec.grade⟩,
   ⟨F.CAL.Q_SEQ_SEQ, 0, get CalRec.seq⟩, ⟨F.CAL.Q_FIG_FIG, 0, get fun r => wrapN 32 r.fig⟩]

/-- The entry the master has selected in ERRLOG (R593). -/
def errlogView (s : Block) (m : Master) : List FieldVal :=
  let e := s.errlogSel m
  let ws := (e.map ErrEntry.words).getD []
  [⟨F.ERRLOG.SEL_SEQ, 0, s.errlog.sel.get m⟩, ⟨F.ERRLOG.SEL_STAT_VALID, 0, b2n e.isSome⟩] ++
    (List.range 8).map fun i => (⟨F.ERRLOG.E_WORD, i, ws.getD i 0⟩ : FieldVal)

/-- The NOW registers as the master latched them, and the oldest entry of queue p (R221, R229). -/
def timeView (s : Block) (m : Master) (p : Nat) : List FieldVal :=
  let (lt, clk) := (s.time.now.get m).getD (0, 0)
  let q := (s.tsq p).head?
  let get (f : TsqEntry → Nat) : Nat := (q.map f).getD 0
  [⟨F.TIME.STATE_ON_ITO, 0, s.get uClk F.CLK.SRC_STAT_ON_ITO⟩,
   ⟨F.TIME.NOW_LT_HI_VALUE, 0, lt / 2 ^ 32⟩, ⟨F.TIME.NOW_SEC_LO_VALUE, 0, clk / 1000000000 % 2 ^ 32⟩,
   ⟨F.TIME.NOW_SEC_HI_VALUE, 0, clk / 1000000000 / 2 ^ 32⟩, ⟨F.TIME.NOW_NS_VALUE, 0, clk % 1000000000⟩,
   ⟨F.TIME.TSQ_W0_ID, p, get TsqEntry.id⟩, ⟨F.TIME.TSQ_W0_MSG_TYPE, p, get TsqEntry.msgType⟩,
   ⟨F.TIME.TSQ_W0_SEQ_ID, p, get TsqEntry.seqId⟩, ⟨F.TIME.TSQ_W1_NS, p, get TsqEntry.ns⟩,
   ⟨F.TIME.TSQ_W2_SEC, p, get fun e => e.seconds % 2 ^ 32⟩]

/-- The registers of WEB as the master latched them (R271). -/
def webView (s : Block) (m : Master) : List FieldVal :=
  let l := s.web.latch.get m
  [⟨F.WEB.POS_HI_VALUE, 0, l.posHi⟩, ⟨F.WEB.SPEED_UM_S, 0, l.speed⟩, ⟨F.WEB.ACCEL_MM_S2, 0, l.accel⟩,
   ⟨F.WEB.HWM_HI_VALUE, 0, l.hwmHi⟩, ⟨F.WEB.LINE_HI_VALUE, 0, l.lineHi⟩, ⟨F.WEB.PAGE_VALUE, 0, l.page⟩,
   ⟨F.WEB.PAGE_LINE_VALUE, 0, l.pageLine⟩, ⟨F.WEB.ENC_ZPOS_HI_VALUE, 0, l.zpos0⟩,
   ⟨F.WEB.ENC_ZPOS_HI_VALUE, 1, l.zpos1⟩]

/-- A bank change of context x waits for a commit (R286, R302). -/
def geoBankPend (s : Block) (x : Nat) : Bool :=
  s.bankPending x F.CTX.GEO_CFG_GEO_BANK || s.bankPending x F.CTX.GEO_CFG_LIN_BANK

/-- Chunk n places below the top of the usable space, no lower than 0 (R465). -/
def chunkBelow (s : Block) (n : Nat) : Nat := s.usableBytes / 2 ^ 24 - n

/-- The fields of a unit that no rule writes into its registers, for instance i of a queue or slot. -/
def views (s : Block) (m : Master) (u : UnitId) (i : Nat) : List FieldVal :=
  match u.ty with
  | .lock => [⟨F.LOCK.HELD_LO_HELD, 0, s.semHeldBits 0⟩, ⟨F.LOCK.HELD_HI_HELD, 0, s.semHeldBits 1⟩]
  | .time => s.timeView m i
  | .lane => [⟨F.LANE.STAT_USED, 0, b2n (s.portMode (u.inst / 4) != 0 && (s.portLanes (u.inst / 4)).contains (u.inst % 4))⟩]
  | .sense => [⟨F.SENSE.STAT_SETTLING, 0, s.senseSettling⟩]
  | .web => s.webView m
  | .strip =>
    [⟨F.STRIP.STAT_ACTIVE, 0, sumN ((List.range 4).map fun j => s.get (uCtx (4 * u.inst + j)) F.CTX.SRC_EN * 2 ^ j)⟩,
     ⟨F.STRIP.STAT_QUEUED, 0, sumN ((List.range 4).map fun j => b2n (s.readyLine (4 * u.inst + j)).isSome * 2 ^ j)⟩]
  | .ctx =>
    [⟨F.CTX.STAT_ACTIVE, 0, s.get u F.CTX.SRC_EN⟩, ⟨F.CTX.STAT_BANK_ACT, 0, s.get u F.CTX.TABLE_BANK⟩,
     ⟨F.CTX.STAT_BANK_PEND, 0, b2n (s.bankPending u.inst F.CTX.TABLE_BANK)⟩,
     ⟨F.CTX.GC_STAT_GEO_BANK_ACT, 0, s.get u F.CTX.GEO_CFG_GEO_BANK⟩,
     ⟨F.CTX.GC_STAT_LIN_BANK_ACT, 0, s.get u F.CTX.GEO_CFG_LIN_BANK⟩,
     ⟨F.CTX.GC_STAT_BANK_PEND, 0, b2n (s.geoBankPend u.inst)⟩]
  | .stitch =>
    [⟨F.STITCH.STAT_OPEN, 0, s.stitchOpen⟩,
     ⟨F.STITCH.STAT_OVL_WAIT, 0, b2n (s.stitch.lines.any fun e => s.overlapIn? e.line && s.ownComplete e && e.ovl.isNone && !e.gaveUp)⟩]
  | .refs =>
    let k := s.slot i
    [⟨F.REFS.STAT_ENTRIES, 0, s.refs.dir.length⟩, ⟨F.REFS.STAT_FREE_CHUNKS, 0, s.freeChunks.length⟩,
     ⟨F.REFS.LOAD_STAT_OPEN, i, b2n k.handle.isSome⟩, ⟨F.REFS.LOAD_STAT_ENC, i, b2n (s.refs.enc == some i)⟩,
     ⟨F.REFS.LOAD_BYTES_COUNT, i, if k.handle.isSome then k.fed / 1024 else 0⟩]
  | .codec =>
    [⟨F.CODEC.STAT_ENC_SLOT, 0, s.refs.enc.getD 0⟩, ⟨F.CODEC.STAT_ENC_BUSY, 0, b2n s.encReady.isSome⟩,
     ⟨F.CODEC.STAT_BANDS, 0, Nat.min 4 s.refs.bands.length⟩]
  | .tango => [⟨F.TANGO.ROW_S, 0, wrapN 16 ((s.tango.rows.head?.map s.rowBase).getD 0)⟩]
  | .seg => [⟨F.SEG.STAT_MAPS, 0, s.refs.maps.length⟩]
  | .axis => [⟨F.AXIS.STAT_PLANNING, 0, b2n (((s.axes[u.inst]?).map s.axisPlanning).getD false)⟩]
  | .dmc =>
    let sn := s.get uDmc F.DMC.RSV_SNIP; let st := s.get uDmc F.DMC.RSV_STAT; let ar := s.get uDmc F.DMC.RSV_ARCH
    [⟨F.DMC.CAP_CHUNKS, 0, s.chunkBelow 0⟩, ⟨F.DMC.RSV_BASE0_SNIP_BASE, 0, s.chunkBelow sn⟩,
     ⟨F.DMC.RSV_BASE0_STAT_BASE, 0, s.chunkBelow (sn + st)⟩, ⟨F.DMC.RSV_BASE1_ARCH_BASE, 0, s.chunkBelow (sn + st + ar)⟩,
     ⟨F.DMC.STAT_RATE, 0, s.clk.dramRate⟩, ⟨F.DMC.STAT_FSP, 0, b2n s.dmc.fsp⟩]
  | .mbx =>
    [⟨F.MBX.FW_STAT_H2F_FULL, 0, s.get uBar2 F.MBXB.WSTAT_H2F_FULL⟩,
     ⟨F.MBX.FW_STAT_F2H_FULL, 0, s.get uBar2 F.MBXB.WSTAT_F2H_FULL⟩,
     ⟨F.MBX.QUEUE_HELD, 0, s.mbx.held.length⟩, ⟨F.MBX.QUEUE_LONG, 0, b2n s.longRunning⟩]
  | .evt => (List.range 4).map fun w => (⟨F.EVT.HOST_PEND_PEND, w, s.hostPend w⟩ : FieldVal)
  | .errlog => s.errlogView m
  | .cal => s.calQ m
  | .device | .sys | .clk | .thm | .serdes | .camp | .trig | .lport | .tag | .latgov | .host | .dma | .mbxBar2
  | .ring => []

/-- The instance of a queue or slot a register belongs to (R229, R355). -/
def viewInst (u : UnitId) (off : Nat) : Nat :=
  match u.ty with
  | .time => (off - 0x200) / 16
  | .refs => (off - 0x180) / 8
  | _ => 0

/-- The word without its write-only fields (R12). -/
def readMask (t : UnitType) (off w : Nat) : Nat :=
  (t.fieldsAt off).foldl (fun w f => if f.acc == .wo then putBits w f.hi f.lo 0 else w) w

/-- A unit register of the map, as a master reads it, apart from what the read itself does. -/
def unitWord (s : Block) (m : Master) (u : UnitId) (off : Nat) : Nat :=
  let w := readMask u.ty off (s.rd u off)
  let l := (s.views m u (viewInst u off)).filter fun x => x.f.at x.i == off
  let w := withFields w l
  if u.ty == .evt && m == .host then
    match F.EVT.CH_STAT_PEND.instanceAt off with
    | some c => if s.onI uEvt F.EVT.CH_CFG_SEC c then 0 else w
    | none => w
  else w

/-- The STAGE fields of the staged value of a register; zero elsewhere (R33, R41). -/
def stagedWord (s : Block) (u : UnitId) (off : Nat) : Nat := stageMerge u.ty off 0 (s.stagedVal u off)

/-- A lane's STAT with SIG_DET: whether there is a signal is known from its qualification to the end of the bring-up, and in
OFF no receiver runs; `wild` says it in SIGNAL and HOLDOFF (log entry 87). -/
def laneWord (s : Block) (u : UnitId) (w wild : Nat) : Nat :=
  let st := s.portState (u.inst / 4)
  if st = 1 ∨ st = 9 then putBits w F.LANE.STAT_SIG_DET.hi F.LANE.STAT_SIG_DET.lo (wild % 2) else w

/-- The levels and accesses outside the block that a register shows, no command telling of them: `wild` says them. -/
def inputWord (s : Block) (u : UnitId) (off w wild : Nat) : Nat :=
  match u.ty with
  | .clk => match F.CLK.GATE_IN_USE.instanceAt off with
    | some g => s.gateWord g w wild
    | none => w
  | .serdes => if off = F.SERDES.BYPASS_STAT_VBYP_OK.off then s.bypassWord w wild else w
  | .lane => if off = F.LANE.STAT_SIG_DET.off then s.laneWord u w wild else w
  | _ => w

/-- What a register reads, with a value for what the spec leaves open. -/
def readWord (s : Block) (m : Master) (u : UnitId) (off wild : Nat) : Nat :=
  let ring := u.ty == .device && u.inst != 0
  if off < 0x40 then (if ring then s.ringDescriptor u.inst off else s.descriptor u off)
  else if off = 0x40 then s.unitStat u wild
  else if off = 0x48 then s.commitStat u wild
  else if off = 0x58 then s.stagePend u wild
  else if off < 0x100 then readMask u.ty off (s.rd u off)
  else if off < 0x1000 then
    if s.unitOpen u then s.inputWord u off (s.unitWord m u off) wild else 0
  else if off < 0x2000 then
    (if ring then (s.ringChildren u.inst).getD ((off - 0x1000) / 4) 0
     else ((u.children[(off - 0x1000) / 4]?).map s.unitRef).getD 0)
  else s.stagedWord u (off - 0x2000)

end Block
end Sys2Proof.Machine
end

