-- ==== Sys2Proof/Machine/Thermal.lean ====
section
/-! DEFINITION. Thermal sensing, throttling and the latched shutdown (R126-R139). Temperatures are
in units of 0.125 °C. -/

namespace Sys2Proof.Machine
namespace Block

/-- A threshold in units of 0.125 °C. -/
def thr (s : Block) (f : Field) : Int := 8 * s.getS uThm f

/-- Hysteresis in units of 0.125 °C. -/
def thmHyst (s : Block) : Int := 8 * (s.get uThm F.THM.LOW_THR_HYST : Int)

/-- A sensor becomes broken (R128). -/
def sensorBreak (s : Block) (k : Nat) : Block :=
  let s := { s with thm := { s.thm with streak := upd s.thm.streak k fun _ => 0 } }
  if s.onI uThm F.THM.SENSOR_BROKEN k then s
  else
    let s := (s.setI uThm F.THM.SENSOR_BROKEN k 1).setBitI uThm F.THM.BROKEN_SENSOR 0 k
    (s.set uThm F.THM.FLAGS_SENSOR 1).log uThm 0x0030 2 k 0 0

/-- A conversion of sensor k completes with a raw result; the calibration offset is added
(R127, R128, R610). DESIGN CHOICE (log entry 88): R128 does not say which result the limits of a broken sensor apply to;
they are applied to the calibrated one. -/
def sensorResult (s : Block) (k : Nat) (raw : Int) : Block :=
  let t := raw + s.getSI uCal F.CAL.THM_OFS_OFS k
  if t < -320 ∨ 1120 < t then s.sensorBreak k
  else
    let s := { s with thm := { s.thm with lastConv := upd s.thm.lastConv k fun _ => s.lt } }
    let s := s.putSI uThm F.THM.SENSOR_TEMP k t
    let s := if s.getSI uThm F.THM.SENSOR_PEAK k < t then s.putSI uThm F.THM.SENSOR_PEAK k t else s
    if s.onI uThm F.THM.SENSOR_BROKEN k then
      let n := nth s.thm.streak k 0 + 1
      let s := { s with thm := { s.thm with streak := upd s.thm.streak k fun _ => n } }
      if n < 16 then s
      else (s.setI uThm F.THM.SENSOR_BROKEN k 0).clrBitI uThm F.THM.BROKEN_SENSOR 0 k
    else s.calThermal k raw

/-- The reading of a sensor for every comparison: ENFORCE for a broken one (R128). -/
def sensorTemp (s : Block) (k : Nat) : Int :=
  if s.onI uThm F.THM.SENSOR_BROKEN k then s.thr F.THM.HIGH_THR_ENFORCE
  else s.getSI uThm F.THM.SENSOR_TEMP k

/-- Zone temperatures from the sensors (R129). -/
def zoneUpdate (s : Block) (z : Nat) : Block :=
  let a := s.sensorTemp (4 * z); let b := s.sensorTemp (4 * z + 1)
  let c := s.sensorTemp (4 * z + 2); let d := s.sensorTemp (4 * z + 3)
  (s.putSI uThm F.THM.ZONE_HIGH z (max (max a b) (max c d))).putSI uThm F.THM.ZONE_LOW z
    (min (min a b) (min c d))

/-- Temperature of zone z for the high thresholds. -/
def zoneHigh (s : Block) (z : Nat) : Int := s.getSI uThm F.THM.ZONE_HIGH z

/-- Temperature of zone z for the low thresholds. -/
def zoneLow (s : Block) (z : Nat) : Int := s.getSI uThm F.THM.ZONE_LOW z

/-- Whether every sensor of a zone is broken. -/
def zoneLost (s : Block) (z : Nat) : Bool :=
  (List.range 4).all fun i => s.onI uThm F.THM.SENSOR_BROKEN (4 * z + i)

/-- A high threshold's bit of `THM.STATE` after a comparison: set at or above the value, clear below
value - HYST, held between (R130). -/
def highBit (s : Block) (st thrF : Field) (z : Nat) : Block :=
  let t := s.zoneHigh z
  if s.thr thrF ≤ t then s.setBitI uThm st 0 z
  else if t < s.thr thrF - s.thmHyst then s.clrBitI uThm st 0 z else s

/-- The LOW_WARN bit of a zone. -/
def lowBit (s : Block) (z : Nat) : Block :=
  let t := s.zoneLow z
  if t ≤ s.thr F.THM.LOW_THR_LOW_WARN then s.setBitI uThm F.THM.STATE_LOW_WARN 0 z
  else if s.thr F.THM.LOW_THR_LOW_WARN + s.thmHyst < t then s.clrBitI uThm F.THM.STATE_LOW_WARN 0 z
  else s

/-- A flag and its event when zones newly reach a threshold; before RUNNING only the flag
(R130, R131). -/
def thmNotify (s : Block) (old new : Nat) (flagF : Field) (p : Nat) : Block :=
  if (onesBelow 6 new).any fun z => !bit old z then
    let s := s.set uThm flagF 1
    if s.isRunning then s.raise p else s
  else s

/-- Zones compared with the warning, throttle and enforce thresholds. -/
def thmCompare (s : Block) : Block :=
  let w := s.get uThm F.THM.STATE_WARN
  let l := s.get uThm F.THM.STATE_LOW_WARN
  let s := (List.range 6).foldl (fun s z =>
    (((s.highBit F.THM.STATE_WARN F.THM.HIGH_THR_HIGH_WARN z).highBit F.THM.STATE_THROTTLE
      F.THM.HIGH_THR_THROTTLE z).highBit F.THM.STATE_ENFORCE F.THM.HIGH_THR_ENFORCE z).lowBit z) s
  let s := s.thmNotify w (s.get uThm F.THM.STATE_WARN) F.THM.FLAGS_WARN 3
  s.thmNotify l (s.get uThm F.THM.STATE_LOW_WARN) F.THM.FLAGS_LOW_WARN 4

/-- The zone an alarm names: the lowest-numbered at or above a threshold. DESIGN CHOICE (log entry 43): with several
reaching it in one conversion the spec names none (R132). -/
def zoneAt (s : Block) (f : Field) : Option Nat := (List.range 6).find? fun z => s.thr f ≤ s.zoneHigh z

/-- Temperature of a zone as the alarm's 12 bits. -/
def zoneArg (s : Block) (z : Nat) : Nat := wrapN 12 (s.zoneHigh z)

/-- The throttle request, asserted when a zone is at THROTTLE and it is not asserted (R132). -/
def throttleRequest (s : Block) : Block :=
  match s.zoneAt F.THM.HIGH_THR_THROTTLE with
  | some z =>
    if s.on uThm F.THM.STATE_REQ then s
    else
      let s := ((s.emit (.pin .throttleReqn false)).set uThm F.THM.STATE_REQ 1).set
        uThm F.THM.STATE_GRACE_DONE 0
      let s := (s.set uThm F.THM.FLAGS_THROTTLE 1).raise 5
      let s := { s with thm := { s.thm with graceFrom := some s.lt } }
      s.alarm 1 0 z (s.zoneArg z)
  | none => s

/-- Release of the throttle request once every zone is below THROTTLE - HYST (R135). -/
def throttleRelease (s : Block) : Block :=
  if s.on uThm F.THM.STATE_REQ &&
      (List.range 6).all (fun z => decide (s.zoneHigh z < s.thr F.THM.HIGH_THR_THROTTLE - s.thmHyst)) then
    let s := ((s.emit (.pin .throttleReqn true)).set uThm F.THM.STATE_REQ 0).set
      uThm F.THM.STATE_GRACE_DONE 0
    { s with thm := { s.thm with graceFrom := none } }.alarm 4 0 0 0
  else s

/-- The cap step of R133, and R136 when the sequencer has stopped. DESIGN CHOICE (log entry 88): with CURRENT at P3 and CAP
below it there is no state one slower; CAP becomes P3 with the flag, the event and the alarm of a cap step. -/
def capStep (s : Block) : Block :=
  match s.zoneAt F.THM.HIGH_THR_ENFORCE with
  | none => s
  | some z =>
    let cap := s.get uClk F.CLK.PSTATE_CAP
    let ready := match s.thm.lastStep with
      | none => true
      | some t => decide (s.get uThm F.THM.TIMING_STEP_INT * 100000000 ≤ s.since t)
    if !s.on uThm F.THM.STATE_GRACE_DONE || cap == 3 || !ready then s
    else
      let new := Nat.min 3 (Nat.max cap (s.get uClk F.CLK.PSTATE_CURRENT) + 1)
      let s := ((s.set uClk F.CLK.PSTATE_CAP new).set uThm F.THM.FLAGS_ENF_STEP 1).raise 6
      let s := { s with thm := { s.thm with lastStep := some s.lt, relaxFrom := none } }
      let s := (s.alarm 2 new z (s.zoneArg z)).retarget
      if s.clk.stopped then (s.set uThm F.THM.FLAGS_STEP_BLOCKED 1).log uThm 0x0031 2 new 0 0 else s

/-- The RELAX period runs while every zone stays below ENFORCE - HYST (R134). -/
def relaxTrack (s : Block) : Block :=
  if (List.range 6).all fun z => decide (s.zoneHigh z < s.thr F.THM.HIGH_THR_ENFORCE - s.thmHyst) then
    { s with thm := { s.thm with relaxFrom := some (s.thm.relaxFrom.getD s.lt) } }
  else { s with thm := { s.thm with relaxFrom := none } }

/-- A shutdown that zone z calls for: kind and temperature (R129, R130, R137). -/
def zoneDeath (s : Block) (z : Nat) : Option (Nat × Nat) :=
  if s.zoneLost z then some (2, 0)
  else if 2 ≤ nth s.thm.critRun z 0 then some (0, s.zoneArg z)
  else if 2 ≤ nth s.thm.lowRun z 0 then some (1, wrapN 12 (s.zoneLow z))
  else none

/-- Shutdown when some zone calls for it, the lowest-numbered zone first. -/
def thmDeath (s : Block) : Option (Nat × Nat × Nat) :=
  ((List.range 6).find? fun z => (s.zoneDeath z).isSome).bind fun z =>
    (s.zoneDeath z).map fun p => (p.1, z, p.2)

/-- Comparisons after the sensors' results of one conversion. DEDUCED (log entry 88): R136's "from then on, CRITICAL is the
only protection that acts" is taken as what follows from no P-state change following; requests, cap and relax steps,
LOW_INHIBIT and the loss of a zone act as before. -/
def thmEvaluate (s : Block) : Block :=
  let s := (List.range 6).foldl zoneUpdate s
  let crit := (List.range 6).map fun z =>
    if s.thr F.THM.HIGH_THR_CRITICAL ≤ s.zoneHigh z then nth s.thm.critRun z 0 + 1 else 0
  let low := (List.range 6).map fun z =>
    if s.zoneLow z ≤ s.thr F.THM.LOW_THR_LOW_INHIBIT then nth s.thm.lowRun z 0 + 1 else 0
  let s := { s with thm := { s.thm with critRun := crit, lowRun := low } }
  let s := s.thmCompare
  match s.thmDeath with
  | some (k, z, t) => s.shutdown k z t
  | none => if s.isRunning then s.relaxTrack.throttleRequest.throttleRelease.capStep else s

/-- The thermal logic converts and compares: from the end of boot step 3, and in no hold (R131). -/
def thmWorks (s : Block) : Bool := s.boot.hold == .none && decide (3 ≤ s.get uSys F.SYS.BOOT_STAT_PHASE)

/-- A conversion of the sensors that completed (R127). -/
def thmConversion (s : Block) (results : List (Option Int)) : Block :=
  if !s.thmWorks then s
  else
    ((List.range 24).foldl (fun s k =>
      match results.getD k none with
      | some r => s.sensorResult k r
      | none => s) s).thmEvaluate

/-- No conversion of a sensor completed within 150 µs (R128, R129). -/
def sensorTimeout (s : Block) (k : Nat) : Block :=
  if k < 24 ∧ s.thmWorks = true ∧ 150000 ≤ s.since (nth s.thm.lastConv k 0) then
    let s := (s.sensorBreak k).zoneUpdate (k / 4)
    if s.zoneLost (k / 4) then s.shutdown 2 (k / 4) 0 else s
  else s

/-- The grace time ends (R133). -/
def graceExpired (s : Block) : Block :=
  match s.thm.graceFrom with
  | some t =>
    if s.on uThm F.THM.STATE_REQ ∧ s.get uThm F.THM.TIMING_GRACE * 100000000 ≤ s.since t then
      { s.set uThm F.THM.STATE_GRACE_DONE 1 with thm := { s.thm with graceFrom := none } }.capStep
    else s
  | none => s

/-- A relax step (R134). -/
def relaxStep (s : Block) : Block :=
  match s.thm.relaxFrom with
  | some t =>
    let cap := s.get uClk F.CLK.PSTATE_CAP
    if 0 < cap ∧ s.get uThm F.THM.TIMING_RELAX * 1000000000 ≤ s.since t then
      let s := (s.set uClk F.CLK.PSTATE_CAP (cap - 1)).set uThm F.THM.FLAGS_RELAX_STEP 1
      let s := { s with thm := { s.thm with relaxFrom := some s.lt } }
      (s.alarm 3 (cap - 1) 0 0).retarget
    else s
  | none => s

/-- Sensor peaks cleared (R139). -/
def clearSensorPeaks (s : Block) : Block :=
  (List.range 24).foldl (fun s k => s.setI uThm F.THM.SENSOR_PEAK k 0x800) s

/-- RUNNING with a zone at or above THROTTLE asserts the request then (R131). -/
def thmAtRunning (s : Block) : Block := s.throttleRequest

end Block
end Sys2Proof.Machine
end

