-- ==== Sys2Proof/Machine/Access.lean ====
section
/-! DEFINITION. Accesses of a master to the registers: who may write what, what a write does, reads with side effects, the
host's window (R6-R8, R12, R13, R31, R38-R41, R105, R482-R486, R505-R509, R535, R588, R596, R618, R647). -/

namespace Sys2Proof.Machine

/-! ## Who writes what -/

/-- The fields of a shared unit that only the host writes (R13, R485, R504, R505, R588, R596). -/
def hostField (t : UnitType) (f : Field) : Bool :=
  match t with
  | .host | .dma => (f.acc == .live || f.acc == .rw1c) && decide (0x100 ≤ f.off)
  | .evt => f == F.EVT.SW_HOST_RAISE
  | .errlog => f == F.ERRLOG.HOST_ACK_SEQ || f == F.ERRLOG.HOST_CFG_IRQ_EN
  | .mbxBar2 => true
  | _ => false

/-- The fields of a shared unit that every master writes (R52, R596, R618). -/
def anyField (t : UnitType) (f : Field) : Bool :=
  match t with
  | .errlog => f == F.ERRLOG.SEL_SEQ || f == F.ERRLOG.CTL_CLEAR_CNT || f == F.ERRLOG.FLAGS_LOST || f == F.ERRLOG.FLAGS_DROP
  | .cal => f == F.CAL.Q_SEL_PROC || f == F.CAL.Q_SEL_TARGET
  | .lock => f == F.LOCK.SEM_RESULT
  | _ => false

/-- The fields of an event channel that its owner writes (R578, R588). -/
def ownerField (f : Field) : Bool :=
  f == F.EVT.CH_STAT_PEND || f == F.EVT.CH_CTL_IRQ_EN || f == F.EVT.CH_CTL_CLR_COAL

/-- The counters a unit's CTL.CLEAR_CNT clears, with that field (R165, R201, R202, R271, R299, R326, R355, R356, R379,
R409, R410, R435, R455, R479, R504, R505, R536, R573). -/
def clearCnt : UnitType → Option (Field × List Field)
  | .camp => some (F.CAMP.CTL_CLEAR_CNT, [F.CAMP.CNT_LINES_COUNT, F.CAMP.CNT_SHORT_COUNT, F.CAMP.CNT_LONG_COUNT,
      F.CAMP.CNT_LOST_COUNT, F.CAMP.CNT_LATE_COUNT, F.CAMP.CNT_EXTRA_COUNT, F.CAMP.CNT_PKT_ERR_COUNT,
      F.CAMP.CNT_GVSP_DROP_COUNT, F.CAMP.CNT_BLOCK_GAP_COUNT, F.CAMP.CNT_LEADER_LOST_COUNT, F.CAMP.CNT_TS_MISS_COUNT,
      F.CAMP.CNT_TUNNEL_DROP_COUNT])
  | .trig => some (F.TRIG.CTL_CLEAR_CNT, [F.TRIG.CUT_COUNT])
  | .web => some (F.WEB.CTL_CLEAR_CNT, [F.WEB.CNT_SKIP_COUNT, F.WEB.CNT_SYNC_IGN_COUNT, F.WEB.CNT_OVERSPEED_COUNT,
      F.WEB.ENC_QERR_COUNT])
  | .ctx => some (F.CTX.CTL_CLEAR_CNT, [F.CTX.CNT_LINES_COUNT, F.CTX.CNT_SAT_PIX_COUNT, F.CTX.CNT_NOSRC_COUNT,
      F.CTX.CNT_NONADJ_COUNT, F.CTX.CNT_REC_COUNT, F.CTX.CNT_LAB_SAT_COUNT])
  | .stitch => some (F.STITCH.CTL_CLEAR_CNT, [F.STITCH.CNT_LINES_COUNT, F.STITCH.CNT_SEAM_MISS_COUNT,
      F.STITCH.CNT_GAP_COUNT, F.STITCH.CNT_LATE_OVL_COUNT, F.STITCH.CNT_STRAY_COUNT])
  | .refs => some (F.REFS.CTL_CLEAR_CNT, [F.REFS.CNT_BOUND_COUNT, F.REFS.CNT_NO_JOB_COUNT, F.REFS.CNT_UNKNOWN_COUNT,
      F.REFS.CNT_NOT_READY_COUNT, F.REFS.CNT_LATE_COUNT, F.REFS.CNT_EVICT_COUNT, F.REFS.CNT_OVERRUN_COUNT])
  | .codec => some (F.CODEC.CTL_CLEAR_CNT, [F.CODEC.CNT_ENC_COUNT, F.CODEC.CNT_DEC_COUNT, F.CODEC.CNT_FLAT_COUNT,
      F.CODEC.CNT_DEGRADED_COUNT, F.CODEC.CNT_MALFORMED_COUNT, F.CODEC.SWITCH_COUNT, F.CODEC.QHIST_COUNT])
  | .tango => some (F.TANGO.CTL_CLEAR_CNT, [F.TANGO.CNT_BLOCKS_COUNT, F.TANGO.CNT_MEASURED_COUNT,
      F.TANGO.CNT_FLAT_COUNT, F.TANGO.CNT_UNREF_COUNT, F.TANGO.CNT_LOCK_LOSS_COUNT, F.TANGO.CNT_FLUSH_COUNT,
      F.TANGO.CNT_LATE_LINE_COUNT, F.TANGO.CNT_MISMATCH_COUNT])
  | .seg => some (F.SEG.CTL_CLEAR_CNT, [F.SEG.CNT_COMP_COUNT, F.SEG.CNT_DISCARD_COUNT, F.SEG.CNT_FORCED_COUNT,
      F.SEG.CNT_SPLIT_COUNT, F.SEG.CNT_CUT_COUNT, F.SEG.CNT_NOSNIP_COUNT, F.SEG.CNT_MAP_MISSING_COUNT,
      F.SEG.CNT_UNREF_COMP_COUNT])
  | .tag => some (F.TAG.CTL_CLEAR_CNT, [F.TAG.CNT_TAGS_COUNT, F.TAG.CNT_FOLDED_COUNT, F.TAG.CNT_LPORT_COUNT,
      F.TAG.CNT_LPORT_DROP_COUNT, F.TAG.CNT_DEFAULT_COUNT, F.TAG.CLASS_COUNT])
  | .latgov => some (F.LATGOV.CTL_CLEAR_CNT, [F.LATGOV.CNT_LOW_WIN_COUNT, F.LATGOV.CNT_ROWS_IN_COUNT,
      F.LATGOV.CNT_ROWS_OUT_COUNT, F.LATGOV.CNT_SHED_B_COUNT, F.LATGOV.CNT_SHED_C_COUNT, F.LATGOV.CNT_OVER_COUNT,
      F.LATGOV.CNT_UNCOVERED_COUNT, F.LATGOV.LAT_MAX_NS, F.LATGOV.LAT_MAX_SEQ_SEQ])
  | .axis => some (F.AXIS.CTL_CLEAR_CNT, [F.AXIS.CNT_FIRED_COUNT, F.AXIS.CNT_LATE_COUNT, F.AXIS.CNT_REFUSED_COUNT,
      F.AXIS.CNT_MERGED_COUNT, F.AXIS.CNT_CANCEL_COUNT, F.AXIS.CNT_OUTSIDE_COUNT, F.AXIS.CNT_LINK_ERR_COUNT])
  | .dmc => some (F.DMC.CTL_CLEAR_CNT, [F.DMC.CNT_CE_COUNT, F.DMC.CNT_UE_COUNT, F.DMC.CNT_RETRAIN_COUNT,
      F.DMC.CNT_RETRAIN_FAIL_COUNT, F.DMC.CNT_DRAIN_COUNT, F.DMC.CNT_SR_COUNT, F.DMC.REQ_LAT_MAX_NS,
      F.DMC.CH_STAT_RETRAINS])
  | .host => some (F.HOST.CTL_CLEAR_CNT, [F.HOST.CNT_LINK_DOWN_COUNT, F.HOST.CNT_ARCH_COUNT, F.HOST.STR_DROP_COUNT,
      F.HOST.TAGS_PEAK])
  | .dma => some (F.DMA.CTL_CLEAR_CNT, [F.DMA.CNT_LATE_RSP_COUNT, F.DMA.CNT_FAILED_COUNT])
  | .mbx => some (F.MBX.CTL_CLEAR_CNT, [F.MBX.CNT_REQ_COUNT, F.MBX.CNT_NOT_OK_COUNT, F.MBX.CNT_ABORTED_COUNT])
  | .ring => some (F.RING.CTL_CLEAR_CNT, [F.RING.CNT_ENUM_COUNT, F.RING.CNT_RETRY_COUNT, F.RING.CNT_LINK_FAIL_COUNT,
      F.RING.CNT_HOLD_COUNT, F.RING.CNT_TRIG_LATE_COUNT, F.RING.CNT_MISROUTE_COUNT])
  | .device | .sys | .clk | .thm | .serdes | .lane | .time | .sense | .lport | .strip | .mbxBar2 | .evt | .errlog
  | .cal | .lock => none

/-- Fields whose new value is set by what their writing does, not by the write itself. -/
def actField (t : UnitType) (f : Field) : Bool :=
  match t with
  | .clk => f == F.CLK.PSTATE_REQ_REQ || f == F.CLK.GATE_CLOSE
  | .serdes => f == F.SERDES.BYPASS_CTL_OPEN
  | .time => f == F.TIME.DOMAIN_CTL_FORCE
  | .sense => f == F.SENSE.BANK_CTL_SEL || f == F.SENSE.BANK0_COEF || f == F.SENSE.BANK1_COEF
  | .ctx => f == F.CTX.TBL_DATA_WORD || f == F.CTX.GEO_DATA_WORD
  | .dma => f == F.DMA.CH_CTL_GO || f == F.DMA.CH_CTL_STOP || f == F.DMA.CH_CTL_REARM || f == F.DMA.PCH_CTL_GO
  | .lock => f == F.LOCK.SEM_RESULT
  | .errlog => f == F.ERRLOG.SEL_SEQ
  | .cal => f == F.CAL.Q_SEL_PROC || f == F.CAL.Q_SEL_TARGET
  | _ => false

namespace Block

/-- Whether a master may write a field, for instance i of its register (R38, R41, R72, R578, R588, R596, R618). -/
def mayWrite (s : Block) (m : Master) (u : UnitId) (f : Field) (i : Nat) : Bool :=
  if f.acc == .ro then false
  else if m = .boot then true
  else if anyField u.ty f then true
  else if u.ty = .evt ∧ ownerField f = true then s.onI uEvt F.EVT.CH_CFG_OWNER i != (m == .host)
  else if m = .host then hostField u.ty f
  else m.isFirmware && !(hostField u.ty f)

/-- The unit in the window an address falls in, if any (R9, R31, R36). -/
def unitAt (s : Block) (addr : Nat) : Option UnitId := (unitOfIndex (addr / 0x4000 % 1024)).filter s.windowLive

/-- An offset of a unit lies inside a closed island (R105). -/
def shut (s : Block) (u : UnitId) (off : Nat) : Bool := decide (0x100 ≤ off) && !s.unitOpen u

/-- An address lies inside a closed island (R105). -/
def shutAt (s : Block) (addr : Nat) : Bool :=
  match s.unitAt addr with
  | some u => s.shut u (addr % 0x4000)
  | none => false

/-! ## What a write does -/

/-- Every counter of a unit cleared (R598). -/
def clearUnit (s : Block) (u : UnitId) : Block :=
  match u.ty with
  | .serdes => s.serdesClear
  | .evt => s.evtClear
  | .errlog => s.errlogClear
  | .mbx => (s.clearAll uMbx ((clearCnt .mbx).map (·.2) |>.getD [])).set uBar2 F.MBXB.CNT_OVERRUN_COUNT 0
  | t => s.clearAll u ((clearCnt t).map (·.2) |>.getD [])

/-- A write of `CLK.GATE_g.CLOSE` (R102-R104): 1 asks for a close, 0 at a closed or closing node for an open. Whether an
access is in progress in the node's islands is a free value. -/
def gateWrite (s : Block) (g v : Nat) : Block :=
  if v = 1 then s.took.gateClose g (s.fresh % 2 == 1)
  else if !s.nodeOpen g || s.clk.closing.contains g then s.openGate g
  else s

/-- A word of a SENSE coefficient bank written (R240, R241). -/
def coefWrite (s : Block) (m : Master) (f : Field) (i v : Nat) : Block :=
  if s.on uSense F.SENSE.BANK_STAT_PENDING then s.logBy m uSense 9 2 (regAddress uSense (f.at i)) 0 v
  else s.setI uSense f i v

/-- A write of `DMA.CH_n_CTL` (R491, R496, R497): STOP before GO. -/
def chCtl (s : Block) (n w : Nat) : Block :=
  let s := if bit w 2 then s.dmaRearm n else s
  if bit w 1 then s.dmaStop n else if bit w 0 then s.dmaGo n else s

/-- A write of `AXIS.CTL` (R452, R453). -/
def axisCtl (s : Block) (a w : Nat) : Block :=
  let s := if bit w 0 then s.axisHome a else s
  let s := if bit w 1 then s.axisStop a else s
  let s := if bit w 2 then s.axisResume a else s
  let s := if bit w 3 then s.axisClearFault a else s
  if bit w 4 then s.clearUnit (uAxis a) else s

/-- `HOST.IRQ_MASK` written: a set bit that nothing masks any more signals vector 0 (R484). -/
def irqMask (old s : Block) : Block :=
  let st := bits (s.rd uHost F.HOST.IRQ_STAT_RUNNING.off) 3 0
  let was := old.get uHost F.HOST.IRQ_MASK_MASK
  let now := s.get uHost F.HOST.IRQ_MASK_MASK
  if (List.range 4).any fun b => bit st b && bit was b && !bit now b then s.msix 0 else s

/-- A write of `SYS.BOOT_CTL` (R72, R75, R80, R84). ALIVE from control core 0 begins its phase. A device reset follows at
once; nothing says in what surroundings. -/
def bootCtl (s : Block) (w : Nat) : Block :=
  let s := if bit w 0 then s.took.bootAlive (s.fresh % 2 == 1) else s
  let s := if bit w 1 then s.bootSeal false else s
  if bit w 2 then
    { s.took with boot := { s.boot with resetDue := some (s.lt, 4, s.wildEnv) } }
  else s

/-- What the writing of a register does beyond its fields. `w` holds the bits of the fields the master may write. -/
def writeEffect (old s : Block) (m : Master) (dev : Nat) (u : UnitId) (off w : Nat) : Block :=
  match u.ty with
  | .sys => if off = F.SYS.BOOT_CTL_SEAL.off then s.bootCtl w else s
  | .clk =>
    if off = F.CLK.PSTATE_REQ_REQ.off then s.pstateReq (bits w 1 0)
    else if off = F.CLK.TMON_CTL_CLEAR_MIN.off then (if bit w 0 then s.clearMin else s)
    else match F.CLK.GATE_CLOSE.instanceAt off with
      | some g => s.gateWrite g (w % 2)
      | none => s
  | .thm => if off = F.THM.CTL_CLEAR_PEAK.off ∧ bit w 0 = true then s.clearSensorPeaks else s
  | .serdes =>
    if off = F.SERDES.BYPASS_CTL_OPEN.off then
      (if bit w 0 then s.took.bypassOpen (s.fresh % 4096) else s.bypassClose false)
    else if off = F.SERDES.CTL_CLEAR_CNT.off ∧ bit w 0 = true then s.clearUnit u
    else s
  | .time =>
    if off = F.TIME.DOMAIN_CTL_FORCE.off then s.domainForce (bits w 1 0)
    else if off = F.TIME.STEP_CTL_GO.off ∧ bit w 0 = true then s.stepGo
    else s
  | .sense =>
    if off = F.SENSE.BANK_CTL_SEL.off then s.bankSwap (w % 2)
    else if off = F.SENSE.SS_GO_GO.off then (onesBelow 16 w).foldl ssTrigger s
    else match F.SENSE.BANK0_COEF.instanceAt off, F.SENSE.BANK1_COEF.instanceAt off with
      | some i, _ => s.coefWrite m F.SENSE.BANK0_COEF i w
      | none, some i => s.coefWrite m F.SENSE.BANK1_COEF i w
      | none, none => s
  | .strip => if off = F.STRIP.CTL_CLEAR_PEAK.off ∧ bit w 0 = true then s.stripClear u.inst else s
  | .ctx =>
    if off = F.CTX.TBL_DATA_WORD.off then s.tblWrite m u.inst w
    else if off = F.CTX.GEO_DATA_WORD.off then s.geoWrite m u.inst w
    else if off = F.CTX.CTL_CLEAR_CNT.off ∧ bit w 0 = true then s.clearUnit u
    else s
  | .axis => if off = F.AXIS.CTL_HOME.off then s.axisCtl u.inst w else s
  | .dma =>
    if off = F.DMA.CTL_CLEAR_CNT.off then (if bit w 0 then s.clearUnit u else s)
    else match F.DMA.CH_CTL_GO.instanceAt off, F.DMA.PCH_CTL_GO.instanceAt off with
      | some n, _ => s.chCtl n w
      | none, some i => if bit w 0 then s.privGo m i else s
      | none, none => s
  | .evt =>
    if off = F.EVT.CTL_CLEAR_CNT.off then (if bit w 0 then s.clearUnit u else s)
    else if off = F.EVT.SW_HOST_RAISE.off then s.swRaise 212 w
    else if off = F.EVT.SW_FW_RAISE.off then s.swRaise 228 w
    else match F.EVT.CH_CTL_CLR_COAL.instanceAt off with
      | some c => if bit w 1 then s.clrCoal c else s
      | none => s
  | .errlog =>
    if off = F.ERRLOG.SEL_SEQ.off then s.errlogSelect m w
    else if off = F.ERRLOG.CTL_CLEAR_CNT.off ∧ bit w 0 = true then s.clearUnit u
    else s
  | .cal => if off = F.CAL.Q_SEL_PROC.off then s.calSelect m w else s
  | .lock =>
    match F.LOCK.SEM_RESULT.instanceAt off with
    | some n => s.semWrite m dev n w
    | none => s
  | .host =>
    if off = F.HOST.IRQ_MASK_MASK.off then old.irqMask s
    else if off = F.HOST.CTL_CLEAR_CNT.off ∧ bit w 0 = true then s.clearUnit u
    else s
  | .camp | .trig | .web | .stitch | .refs | .codec | .tango | .seg | .tag | .latgov | .dmc | .mbx | .ring =>
    match clearCnt u.ty with
    | some (f, _) => if off = f.off ∧ bit w f.lo = true then s.clearUnit u else s
    | none => s
  | .device | .lane | .lport | .mbxBar2 => s

/-- One field of a register written (R12); a configuration record sets a STAGE field's staged value with it (R72). -/
def fieldWrite (s : Block) (u : UnitId) (off w : Nat) (f : Field) : Block :=
  let i := (f.instanceAt off).getD 0
  if actField u.ty f then s
  else match f.acc with
    | .rw | .live | .seal => s.setI u f i (bits w f.hi f.lo)
    | .stage =>
      { s.setI u f i (bits w f.hi f.lo) with staged := s.staged.filter fun p => p.1 != regKey u off }
    | .rw1c => s.setI u f i (Nat.land (s.getI u f i) (Nat.xor (bits w f.hi f.lo) f.max))
    | .ro | .wo => s

/-- A write refused to a master that is not the owner (R38). -/
def notOwner (s : Block) (m : Master) (u : UnitId) (off w : Nat) : Block := s.logBy m u 2 2 (regAddress u off) 0 w

/-- A staged write by firmware (R41, R46): no effect where the register has no STAGE field (R33). -/
def stagedWrite (s : Block) (m : Master) (u : UnitId) (reg w : Nat) : Block :=
  if (u.ty.fieldsAt reg).any fun f => f.acc == .stage then
    match s.coveringCommit u with
    | some c => s.refuseCommit m u (0x2000 + reg) c.unit 0
    | none => s.stagePut u reg w
  else s

/-- A write to COMMIT (R42, R47). -/
def commitReq (s : Block) (m : Master) (u : UnitId) (w : Nat) : Block :=
  if bit w 2 then s.cancelReg m u else s.commitReg m u (Boundary.ofCode (bits w 1 0)) (bits w 15 8)

/-- A window implements an offset (R33): the descriptor but for its reserved words, the registers of the map, the entries
of a bouquet's child table, the staged image of the STAGE registers. Every other offset is reserved (R8). -/
def implements (s : Block) (u : UnitId) (off : Nat) : Bool :=
  if off < 0x40 then decide (off < 0x28)
  else if off < 0x1000 then !(u.ty.fieldsAt off).isEmpty
  else if off < 0x2000 then
    decide ((off - 0x1000) / 4 < (if u.ty = .device ∧ u.inst ≠ 0 then (s.ringChildren u.inst).length else u.children.length))
  else (u.ty.fieldsAt (off - 0x2000)).any fun f => f.acc == .stage

/-- A write to a register by a master that may write `mine` of its fields. -/
def regWrite (s : Block) (m : Master) (dev : Nat) (u : UnitId) (off w : Nat) (mine : List Field) : Block :=
  let kept := mine.foldl (fun v f => putBits v f.hi f.lo (bits w f.hi f.lo)) 0
  writeEffect s (mine.foldl (fun s f => s.fieldWrite u off w f) s) m dev u off kept

/-- A whole-word write by a master to a local address (R8, R12, R31, R38-R41, R105, R647): `dev` is the device of a
master that is the firmware of another. -/
def busWrite (s : Block) (m : Master) (dev addr w : Nat) : Block :=
  match s.unitAt addr with
  | none => s
  | some u =>
    let off := addr % 0x4000 / 4 * 4
    let fs := u.ty.fieldsAt off
    let barred := m == .host && u.ty.owner == 1
    if m != .boot && s.shut u off then s.logBy m u 6 2 (regAddress u off) 1 0
    else if !s.implements u off then s
    else if barred then s.notOwner m u off w
    else if off < 0x40 ∨ (0x1000 ≤ off ∧ off < 0x2000) then s
    else if 0x2000 ≤ off then
      (if m = .host then s.notOwner m u off w else if m = .boot then s else s.stagedWrite m u (off - 0x2000) w)
    else
      let mine := fs.filter fun f => s.mayWrite m u f ((f.instanceAt off).getD 0)
      if fs.all fun f => f.acc == .ro then s
      else if mine.isEmpty then s.notOwner m u off w
      else if m ≠ .boot ∧ mine.any (·.acc == .seal) then
        (if s.on uSys F.SYS.BOOT_STAT_SEALED then s.logBy m u 3 2 (regAddress u off) 0 w else s)
      else if m ≠ .boot ∧ mine.any (·.acc == .stage) then s.logBy m u 4 2 (regAddress u off) 0 w
      else if off = 0x44 then s.commitReq m u w
      else s.regWrite m dev u off w mine

/-- A write at a local address would be discarded under R38, R39, R40 or R105 (R572). -/
def writeRefused (s : Block) (m : Master) (addr : Nat) : Bool :=
  match s.unitAt addr with
  | none => false
  | some u =>
    let off := addr % 0x4000 / 4 * 4
    let fs := u.ty.fieldsAt off
    let barred := m == .host && u.ty.owner == 1
    let mine := fs.filter fun f => s.mayWrite m u f ((f.instanceAt off).getD 0)
    if s.shut u off then true
    else if !s.implements u off then false
    else if barred then true
    else if off < 0x40 ∨ (0x1000 ≤ off ∧ off < 0x2000) then false
    else if 0x2000 ≤ off then m == .host
    else if fs.all (·.acc == .ro) then false
    else mine.isEmpty || (mine.any (·.acc == .seal) && s.on uSys F.SYS.BOOT_STAT_SEALED) || mine.any (·.acc == .stage)

/-! ## Reads with side effects (R51, R221, R229, R271, R286, R302) -/

/-- The web latch of a master replaced. -/
def setWebLatch (s : Block) (m : Master) (f : WebLatch → WebLatch) : Block :=
  { s with web := { s.web with latch := s.web.latch.set m (f (s.web.latch.get m)) } }

/-- A read of `WEB.POS_LO` (R271). -/
def posLatch (s : Block) (m : Master) : Nat × Block :=
  (s.get uWeb F.WEB.POS_LO_VALUE, s.setWebLatch m fun l =>
    { l with posHi := s.get uWeb F.WEB.POS_HI_VALUE, speed := s.get uWeb F.WEB.SPEED_UM_S,
             accel := s.get uWeb F.WEB.ACCEL_MM_S2 })

/-- A read of `WEB.HWM_LO`. -/
def hwmLatch (s : Block) (m : Master) : Nat × Block :=
  (s.get uWeb F.WEB.HWM_LO_VALUE, s.setWebLatch m fun l => { l with hwmHi := s.get uWeb F.WEB.HWM_HI_VALUE })

/-- A read of `WEB.LINE_LO`. -/
def lineLatch (s : Block) (m : Master) : Nat × Block :=
  (s.get uWeb F.WEB.LINE_LO_VALUE, s.setWebLatch m fun l =>
    { l with lineHi := s.get uWeb F.WEB.LINE_HI_VALUE, page := s.get uWeb F.WEB.PAGE_VALUE,
             pageLine := s.get uWeb F.WEB.PAGE_LINE_VALUE })

/-- A read of `WEB.ENC_e_ZPOS_LO`. -/
def zposLatch (s : Block) (m : Master) (e : Nat) : Nat × Block :=
  (s.getI uWeb F.WEB.ENC_ZPOS_LO_VALUE e, s.setWebLatch m fun l =>
    if e = 0 then { l with zpos0 := s.getI uWeb F.WEB.ENC_ZPOS_HI_VALUE 0 }
    else { l with zpos1 := s.getI uWeb F.WEB.ENC_ZPOS_HI_VALUE 1 })

/-- What a register reads rests on something the spec leaves open: what other members of a ring show, whether an access
in a gate node's islands is in progress, a level nothing tells of (log entries 83, 84, 87). -/
def openRead (u : UnitId) (off : Nat) : Bool :=
  match u.ty with
  | .device => u.inst != 0 && (off == 0x40 || off == 0x48 || off == 0x58)
  | .clk => (F.CLK.GATE_IN_USE.instanceAt off).isSome
  | .serdes => off == F.SERDES.BYPASS_STAT_VBYP_OK.off
  | .lane => off == F.LANE.STAT_SIG_DET.off
  | _ => false

/-- A read of a register that has no side effect. -/
def plainRead (s : Block) (m : Master) (u : UnitId) (off : Nat) : Nat × Block :=
  if openRead u off then (s.readWord m u off s.fresh, s.took) else (s.readWord m u off 0, s)

/-- A read by a master at a local address (R7, R8, R31, R105): the whole word. -/
def busRead (s : Block) (m : Master) (dev addr : Nat) : Nat × Block :=
  match s.unitAt addr with
  | none => (0, s)
  | some u =>
    let off := addr % 0x4000 / 4 * 4
    if s.shut u off then (0, s.logBy m u 6 2 (regAddress u off) 0 0)
    else match u.ty with
      | .lock => match F.LOCK.SEM_RESULT.instanceAt off with
        | some n => s.semRead m dev n
        | none => s.plainRead m u off
      | .time =>
        if off = F.TIME.NOW_LT_LO_VALUE.off then s.nowLatch m
        else match F.TIME.TSQ_W3_SEC.instanceAt off with
          | some p => s.tsqPop p
          | none => s.plainRead m u off
      | .ctx =>
        if off = F.CTX.TBL_DATA_WORD.off then s.tblRead u.inst
        else if off = F.CTX.GEO_DATA_WORD.off then s.geoRead u.inst
        else s.plainRead m u off
      | .web =>
        if off = F.WEB.POS_LO_VALUE.off then s.posLatch m
        else if off = F.WEB.HWM_LO_VALUE.off then s.hwmLatch m
        else if off = F.WEB.LINE_LO_VALUE.off then s.lineLatch m
        else match F.WEB.ENC_ZPOS_LO_VALUE.instanceAt off with
          | some e => s.zposLatch m e
          | none => s.plainRead m u off
      | _ => s.plainRead m u off

/-! ## The host's BARs (R482, R483, R506) -/

/-- A word of the MSI-X table written (R482, R484). -/
def msixTable (s : Block) (n w : Nat) : Block :=
  let v := n / 4
  let put (f : MsixEntry → MsixEntry) : Block := { s with host := { s.host with msix := upd s.host.msix v f } }
  if 64 ≤ v then s
  else match n % 4 with
    | 0 => put fun (e : MsixEntry) => { e with addr := e.addr / 2 ^ 32 * 2 ^ 32 + w / 4 * 4 }
    | 1 => put fun (e : MsixEntry) => { e with addr := w * 2 ^ 32 + e.addr % 2 ^ 32 }
    | 2 => put fun (e : MsixEntry) => { e with data := w }
    | _ => if bit w 0 then put fun (e : MsixEntry) => { e with masked := true } else s.msixUnmask v

/-- A word written by the host to BAR2 (R506-R512, R535). -/
def bar2Write (s : Block) (off w : Nat) : Block :=
  if off < 0x40 then s.h2fWrite (off / 4) w
  else if off = F.MBXB.MFLAGS_OVERRUN.off ∨ off = F.MBXB.DB_PEND_PEND.off then
    (UnitType.mbxBar2.fieldsAt off).foldl (fun s f => s.fieldWrite uBar2 off w f) s
  else if off = F.MBXB.DB_RING_RING.off then s.doorbellRing w
  else if 0xA0 ≤ off ∧ off < 0xB0 then
    let b := (off - 0xA0) / 4
    if b % 2 = 0 then s.blockCtl b w else if bit w 31 then s.blockRelease b else s
  else if 0x1000 ≤ off ∧ off < 0x1800 then s.blockWrite 0 ((off - 0x1000) / 4) w
  else if 0x2000 ≤ off ∧ off < 0x5000 then s.blockWrite 2 ((off - 0x2000) / 4) w
  else if 0x8000 ≤ off ∧ off < 0x8400 then s.msixTable ((off - 0x8000) / 4) w
  else s

/-- A memory write by the host to BAR0 or BAR2 (R6, R483, R486): byte enables of its first word, length in words, data.
In D3hot only the MSI-X structures take it. -/
def hostWrite (s : Block) (bar2 : Bool) (addr be n w : Nat) : Block :=
  let a := addr % (if bar2 then 0x10000 else 0x1000000) / 4 * 4
  let idx := if bar2 then uMbx.index else a / 0x4000
  let table := bar2 && decide (0x8000 ≤ a)
  if s.on uHost F.HOST.LINK_D3 && !table then s
  else if be % 16 ≠ 15 then s.logAt .host idx 1 2 a (be % 16) w
  else if 1 < n ∧ !(table && n == 2 && a % 8 == 0) then
    s.logAt .host idx 7 2 (a + (if bar2 then 2 * 2 ^ 28 else 0)) n 0
  else if bar2 then
    let s := s.bar2Write a (w % 2 ^ 32)
    if n = 2 then s.bar2Write (a + 4) (w / 2 ^ 32 % 2 ^ 32) else s
  else s.busWrite .host 0 a (w % 2 ^ 32)

end Block
end Sys2Proof.Machine
end

