-- ==== Sys2Proof/Machine/Boot.lean ====
section
/-! DEFINITION. Boot, resets and holds (R64, R75-R86, R91, R95-R100, R124, R137, R138, R480, R485, R519, R585). -/

namespace Sys2Proof.Machine

/-- The lifecycle code a device takes from its two copies: the more advanced (R91). -/
def Fuses.life (f : Fuses) : Nat := Nat.max f.lifeA f.lifeB

/-- Both copies decode to a state (R91, R93). -/
def Fuses.lifeOk (f : Fuses) : Bool := [0, 1, 2, 3, 7].contains f.lifeA && [0, 1, 2, 3, 7].contains f.lifeB

/-- Vendor debug is open in a lifecycle state while the debug-disable fuse is intact (R87, R92). -/
def Fuses.debugOpen (f : Fuses) : Bool := !f.debugDisabled && [0, 1, 3].contains f.life

namespace Block

/-- What an instruction of the IEEE 1149.1 TAP reaches, in every state of the device: boundary scan always, vendor debug
while access to it is open; else it behaves as BYPASS (R82, R92). -/
def tap (s : Block) : TapInstr → TapPath
  | .boundary => .boundary
  | .vendor => if s.boot.debug then .debug else .bypass

/-! ## Out of operation -/

/-- Outputs of a device that is not RUNNING (R76); GPIO[3:0] are straps until the end of boot (R64). -/
def heldOutputs (s : Block) : Block :=
  (s.outputsLow.emits [.pin .faultn false, .pin .alertn true, .pin .throttleReqn true]).gpioRelease 0

/-- What a wipe leaves (R85, R86): the state after power-on, but for the fuses, the flash, the shutdown latch, the levels
of PORn and PERSTn and the supplies; the numbering of free values and of accesses runs on. -/
def wiped (s : Block) (h : Hold) : Block :=
  let b : BootSt := { Block.initial.boot with
    hold := h, latch := s.boot.latch, porn := s.boot.porn, perstn := s.boot.perstn, supplies := s.boot.supplies }
  let t : Block := { Block.initial with
    freeCtr := s.freeCtr, fuses := s.fuses, flash := s.flash, out := s.out, boot := b
    dma := { Block.initial.dma with nextId := s.dma.nextId } }
  t.heldOutputs

/-- The hold of R82 with a BOOTFAIL code on GPIO[15:12]. -/
def holdFail (s : Block) (code : Nat) : Block :=
  let s := (s.portsOff.set uHost F.HOST.LINK_UP 0).heldOutputs
  let s := s.emits ((List.range 4).map fun k => .pin (.gpio (12 + k)) (bit code k))
  { s with
    boot := { s.boot with hold := .bootfail code, resetDue := none }
    host := { s.host with training := false } }

/-! ## The steps of R75 -/

/-- PHASE set. -/
def phase (s : Block) (p : Nat) : Block := s.set uSys F.SYS.BOOT_STAT_PHASE p

/-- The control cores released (R75 step 10): core 0 and those whose firmware the image holds. -/
def coresGo (s : Block) (slot : Nat) : Block :=
  let sealed := s.on uSys F.SYS.BOOT_STAT_SEALED
  let run (k : Nat) : Bool := k == 0 || (s.sectionBytes slot (k + 1)).isSome
  let s := ([1, 2, 3].filter fun k => !run k).foldl (fun s k => s.unitFail F.SYS.UNIT_FAIL_CORE (k - 1)) s
  { s.phase (if sealed then 9 else 8) with boot := { s.boot with cores := [0, 1, 2, 3].map run, coreLt := s.lt } }

/-- The configuration records of a slot (R71). -/
def slotRecords (s : Block) (k : Nat) : Option (List (Nat × Nat × List Nat)) := (s.sectionBytes k 0x10).bind recordsOf

/-- One record's words written to ascending offsets (R72). -/
def recordWrite (s : Block) (r : Nat × Nat × List Nat) : Block :=
  ((List.range r.2.2.length).zip r.2.2).foldl
    (fun s e => s.busWrite .boot 0 (r.1 * 0x4000 + r.2.1 + 4 * e.1) e.2) s

/-- Step 9: the records in section order (R72), and what values in force mean to their units (R45). -/
def recordsApply (s : Block) (rs : List (Nat × Nat × List Nat)) : Block :=
  UnitId.all.foldl (fun t u => committed s t u 0) (rs.foldl recordWrite s)

/-- The configuration requests that came from step 7 on (R78): Request Retry Status until step 9 ends. -/
def cfgRetries (s : Block) (env : BootEnv) : Block :=
  if s.host.training then s.emits (List.replicate env.cfgReqs (.cfg .retry)) else s

/-- The image taken: SLOT, IMAGE_SEQ, IMAGE_RB, its records, the cores (R75 steps 9 and 10). -/
def slotGo (s : Block) (k : Nat) (rs : List (Nat × Nat × List Nat)) (env : BootEnv) : Block :=
  let h := s.slotHeader k
  let s := s.set uSys F.SYS.BOOT_STAT_SLOT k
  let s := (s.set uSys F.SYS.IMAGE_SEQ_SEQUENCE (leAt h 0xC 4)).set uSys F.SYS.IMAGE_RB_ROLLBACK (leAt h 0x10 2)
  (((s.recordsApply rs).cfgRetries env).advance env.ticks).coresGo k

/-- PCIe link training enabled from the first signature success and PERSTn high on (R75 step 7). -/
def trainingEnable (s : Block) : Block :=
  if s.boot.sigSeen && s.boot.perstn then { s with host := { s.host with training := true } } else s

/-- Steps 6 to 10 for one candidate: the image taken, or the state it leaves and the BOOTFAIL code its failure gives (R69,
R75, R77, R82). PHASE is 5 while it is verified, 6 while it is loaded, 7 at its records. -/
def trySlot (s : Block) (k : Nat) (env : BootEnv) : Nat × Block :=
  let s := s.phase 5
  if !s.signed s.fuses.life (s.slotHeader k) then (7, s)
  else
    let s : Block := { s with boot := { s.boot with sigSeen := true } }
    let s := (s.trainingEnable.phase 6).slotLoad k
    if !s.digestsOk k then (8, s)
    else match s.slotRecords k with
      | none => (8, s.phase 7)
      | some rs => (0, (s.phase 7).slotGo k rs env)

/-- The candidates in order: after one that fails the cores' SRAM is wiped, and the next one is taken with FALLBACK set, or
the device holds (R77, R82). -/
def bootCands (s : Block) (env : BootEnv) : List Nat → Block
  | [] => s
  | k :: rest =>
    let (code, s) := s.trySlot k env
    if code = 0 then s
    else
      let s := s.coreWipe 0 0xC00000
      if rest.isEmpty then (s.cfgRetries env).holdFail code
      else (s.set uSys F.SYS.BOOT_STAT_FALLBACK 1).bootCands env rest

/-- Step 6 on: the structurally valid slots that pass R70 are the candidates (R64, R68, R70, R77). -/
def bootImage (s : Block) (env : BootEnv) : Block :=
  let whole := (s.slotOrder (s.get uSys F.SYS.STRAPS_BOOTSEL)).filter fun k => structural (s.slotHeader k)
  let cands := whole.filter fun k => s.rollbackOk (s.slotHeader k)
  if whole.isEmpty then s.holdFail 6
  else if cands.isEmpty then s.holdFail 9
  else s.bootCands env cands

/-- Steps 4 and 5: the wipe read back; the flash reset, which brings it to 1S-1S-1S, its SFDP read, and 8D-8D-8D entered
by its volatile configuration (R61, R75, R82). A flash that does not answer leaves the device waiting. -/
def bootFlash (s : Block) (env : BootEnv) : Block :=
  if !env.wipeOk then s.holdFail 0xB
  else
    let s := (s.phase 4).emits [.pin .xspiResetn false, .pin .xspiResetn true]
    let s : Block := { s with boot := { s.boot with xspi := .single } }
    if !env.flashUp then s
    else if !env.flashTable then s.holdFail 5
    else (({ s with boot := { s.boot with xspi := .octal } } : Block).emit .flashOctal |>.phase 5).bootImage env

/-- The fused values and states shown (R87-R93, R130, R605). -/
def fuseRegs (s : Block) : Block :=
  let f := s.fuses
  let mask (p : KeySlot → Bool) : Nat := sumN ((List.range 4).map fun i => if p (f.key i) then 2 ^ i else 0)
  let s := (s.set uSys F.SYS.LIFECYCLE_STATE f.life).set uSys F.SYS.LIFECYCLE_DEBUG_DISABLED (b2n f.debugDisabled)
  let s := (s.set uSys F.SYS.LIFECYCLE_KEY_FUSED (mask (·.fused))).set uSys F.SYS.LIFECYCLE_KEY_REVOKED (mask (·.revoked))
  let s := s.set uSys F.SYS.LIFECYCLE_AQZIA_KEY0_REVOKED (b2n f.aqzia0Revoked)
  let s := (s.set uSys F.SYS.LIFECYCLE_GRADE f.grade).set uSys F.SYS.LIFECYCLE_ROLLBACK f.rollback
  let s := (s.set uSys F.SYS.DEVICE_ID_LO_ID f.deviceId).set uSys F.SYS.DEVICE_ID_HI_ID (f.deviceId / 2 ^ 32)
  let s : Block := if f.grade % 2 = 1 then (s.set uThm F.THM.LOW_THR_LOW_WARN 236).set uThm F.THM.LOW_THR_LOW_INHIBIT 231 else s
  (List.range 25).foldl (fun s m => s.setI uCal F.CAL.TMON_SCALE_SCALE m (nth f.tmonScale m 0x8000)) s

/-- Step 3: the fuses, the lifecycle state and debug access (R75, R82, R87, R91). From its end LT counts (R203). -/
def bootFuses (s : Block) (env : BootEnv) : Block :=
  let s := s.phase 2
  if !env.fuseOk then s.holdFail 3
  else if !s.fuses.lifeOk then s.holdFail 4
  else
    let s := s.fuseRegs.phase 3
    let s : Block := { s with boot := { s.boot with preUs := env.preUs, armUs := env.armUs, debug := s.fuses.debugOpen } }
    if s.fuses.life = 7 then s.holdFail 0xF else s.bootFlash env

/-- Step 2: the oscillator is stable and the clock monitor armed (R96, R97), or the device waits. -/
def bootOsc (s : Block) (env : BootEnv) : Block :=
  let s := s.phase 1
  if env.oscStable then
    let s := [F.CLK.SRC_STAT_ITO_OK, F.CLK.SRC_STAT_WATCH_OK, F.CLK.SRC_STAT_XTAL_OK, F.CLK.SRC_STAT_REF_OK,
      F.CLK.SRC_STAT_SYS_LOCK, F.CLK.SRC_STAT_DDR_LOCK, F.CLK.SRC_STAT_ARMED].foldl (fun s f => s.set uClk f 1) s
    s.bootFuses env
  else s

/-- The xSPI balls high-impedance, for a programmer outside (R64). -/
def xspiRelease (s : Block) : Block :=
  ({ s with boot := { s.boot with xspi := .released } } : Block).emits
    ([Pin.xspiCk, .xspiCsn, .xspiDqs, .xspiResetn].map Output.release ++
      (List.range 8).map fun k => .release (.xspiIo k))

/-- Boot from step 1 (R64, R75). -/
def bootStraps (s : Block) (env : BootEnv) : Block :=
  let s := (s.wiped .none).set uSys F.SYS.STRAPS_BOOTSEL env.bootsel
  let s := s.set uSys F.SYS.STRAPS_BOARD_ID env.boardId
  if !env.supplies then s.holdFail 1
  else if s.get uSys F.SYS.STRAPS_BOOTSEL = 3 then s.xspiRelease.holdFail 0xC
  else s.bootOsc env

/-! ## PORn, the supplies and PERSTn -/

/-- POWER_ON: PORn rises with every supply in range (R75); a latched shutdown holds (R138). -/
def powerOn (s : Block) (env : BootEnv) : Block :=
  if s.boot.porn then s
  else
    let s : Block := { s with boot := { s.boot with porn := true, supplies := true } }
    if s.boot.latch then s else s.bootStraps env

/-- POR_FALL (R82, R138). -/
def porFall (s : Block) : Block :=
  let s : Block := { s with boot := { s.boot with porn := false } }
  if s.boot.latch then s else s.wiped .por

/-- SUPPLY_OUT_OF_RANGE (R124). -/
def supplyOut (s : Block) : Block :=
  let s : Block := { s with boot := { s.boot with supplies := false } }
  if s.boot.latch then s else s.wiped (if s.boot.porn then .supply else .por)

/-- SUPPLY_RESTORED (R124). -/
def supplyBack (s : Block) (env : BootEnv) : Block :=
  if s.boot.supplies then s
  else
    let s : Block := { s with boot := { s.boot with supplies := true } }
    if s.boot.latch || !s.boot.porn then s else s.bootStraps env

/-- SHUTDOWN_LATCH_CLEAR: VIO18 falls below 0.3 V (R138). -/
def latchClear (s : Block) : Block :=
  let s : Block := { s with boot := { s.boot with latch := false, supplies := false } }
  s.wiped (if s.boot.porn then .supply else .por)

/-- The endpoint's configuration and MSI-X structures at their reset values (log entry 48). -/
def endpointReset (s : Block) : Block :=
  let s := s.set uHost F.HOST.LINK_D3 0
  { s with host := { s.host with
      msixEnable := false, functionMask := false, msix := Block.initial.host.msix, pba := []
      maxReadReq := Block.initial.host.maxReadReq } }

/-- The PCI Express link leaves L0. -/
def hostLinkDown (s : Block) : Block :=
  let s := ((s.set uHost F.HOST.LINK_UP 0).set uHost F.HOST.LINK_SPEED 0).set uHost F.HOST.LINK_WIDTH 0
  if s.isRunning then s.unitFail F.SYS.UNIT_FAIL_HOST 0 else s

/-- PERSTN_RISE (R75 step 7). -/
def perstnRise (s : Block) : Block :=
  let s : Block := { s with boot := { s.boot with perstn := true } }
  if s.boot.hold = .none then s.trainingEnable else s

/-- PERSTN_FALL_BEFORE_RUNNING (R480): a fundamental reset of the endpoint; boot goes on. -/
def perstnFallEarly (s : Block) : Block :=
  if s.isRunning then s
  else
    let s := s.endpointReset.hostLinkDown
    { s with boot := { s.boot with perstn := false }, host := { s.host with training := false } }

/-! ## Resets of R84 -/

/-- A device reset: everything wiped, boot from step 2 with its cause (R84-R86). -/
def deviceReset (s : Block) (cause : Nat) (env : BootEnv) : Block :=
  if s.boot.hold = .none then
    let straps := s.rd uSys F.SYS.STRAPS_BOOTSEL.off
    let s := ((s.wiped .none).wr uSys F.SYS.STRAPS_BOOTSEL.off straps).set uSys F.SYS.RST_CAUSE_CAUSE cause
    s.bootOsc env
  else s

/-- A device reset that has been due since (R90, R533). -/
def dueReset (s : Block) : Block :=
  match s.boot.resetDue with
  | none => s
  | some (t, cause, env) => if s.since t < 2 ^ 63 then s.deviceReset cause env else s

/-- CORE_RESET: core 0's firmware resets core c, 1-3, whose private SRAM is wiped (R84, R85, R53, R161, R213, R519, R561,
R585). -/
def coreReset (s : Block) (c : Nat) : Block :=
  if s.cored && [1, 2, 3].contains c then
    let s := (((s.semRelease (c + 2)).mbxCoreReset c).evtCoreReset c).coreWipe (c * 0x200000) 0x200000
    if c = 2 then (s.bypassClose true).timeCoreLost else s
  else s

/-- What every host-port reset does (R485, R519, R520, R585, R594). -/
def hostReset (s : Block) : Block :=
  let s := s.chansAbort
  let s := s.resetAll uHost (F.HOST.all.filter (·.acc == .live))
  let s := s.resetAll uDma (F.DMA.all.filter (·.acc == .live))
  ((((s.semRelease 1).mbxHostReset).evtHostReset).errlogHostReset).endpointReset

/-- HOST_PORT_RESET: 0 hot reset, 1 function-level reset, 2 DL_Down, 3 PERSTn falls after RUNNING (R485). -/
def hostPortReset (s : Block) (kind : Nat) : Block :=
  match kind with
  | 0 => if s.cored && s.on uHost F.HOST.LINK_UP then s.hostReset.hostLinkDown else s
  | 1 => if s.cored && s.on uHost F.HOST.LINK_UP then s.hostReset else s
  | 2 =>
    if s.cored && s.on uHost F.HOST.LINK_UP then (s.hostReset.hostLinkDown).inc uHost F.HOST.CNT_LINK_DOWN_COUNT else s
  | _ =>
    if s.isRunning && s.boot.perstn then
      let s := s.hostReset.hostLinkDown
      { s with boot := { s.boot with perstn := false }, host := { s.host with training := false } }
    else s

/-- LINK_UP: the PCI Express link reaches L0 (R481, R519). -/
def hostLinkUp (s : Block) (speed width : Nat) : Block :=
  if s.cored && s.host.training && s.on uClk F.CLK.SRC_STAT_REF_OK && !s.on uHost F.HOST.LINK_UP then
    let s := ((s.set uHost F.HOST.LINK_UP 1).set uHost F.HOST.LINK_SPEED speed).set uHost F.HOST.LINK_WIDTH width
    let s := (s.unitWorks F.SYS.UNIT_FAIL_HOST 0).refFaultRelease
    match s.host.resync with
    | some n => { s with host := { s.host with resync := none } }.notice 0xF1 [n]
    | none => s
  else s

/-- CONFIG_REQUEST (R78, R481, R484): Request Retry Status until step 9 has ended; then done, with the MSI-X Enable,
Function Mask and Max_Read_Request_Size it writes, if any. -/
def configRequest (s : Block) (w : Option (Bool × Bool × Nat)) : Block :=
  if !s.host.training then s
  else if !s.cored then s.emit (.cfg .retry)
  else
    let s : Block := match w with
      | some (en, fm, rq) => ({ s with host := { s.host with
          msixEnable := en, functionMask := fm
          maxReadReq := if [128, 256, 512, 1024, 2048, 4096].contains rq then rq else s.host.maxReadReq } } : Block).msixSend
      | none => s
    s.emit (.cfg .done)

/-! ## The other ends of boot -/

/-- OSC_STABLE_TIMEOUT (R96). -/
def oscTimeout (s : Block) : Block :=
  if s.boot.hold = .none ∧ s.get uSys F.SYS.BOOT_STAT_PHASE = 1 then s.holdFail 2 else s

/-- FLASH_TIMEOUT (R75). -/
def flashTimeout (s : Block) : Block :=
  if s.boot.hold = .none ∧ s.get uSys F.SYS.BOOT_STAT_PHASE = 4 then s.holdFail 5 else s

/-- ALIVE_TIMEOUT (R75, R82): 100 ms after the cores were released. -/
def aliveTimeout (s : Block) : Block :=
  if s.cored && !s.on uSys F.SYS.BOOT_CTL_ALIVE && !s.boot.began && decide (100000000 ≤ s.since s.boot.coreLt) then s.holdFail 0xA else s

/-- SEAL_DEADLINE (R80): MS milliseconds after the cores were released. -/
def sealDeadline (s : Block) : Block :=
  if s.cored = true ∧ 1000000 * s.get uSys F.SYS.SEAL_DEADLINE_MS ≤ s.since s.boot.coreLt then s.bootSeal true else s

/-- Firmware leaves P1 for the state of `CLK.PSTATE_CFG.BOOT` once the DRAM can follow (R119, R476, R478). -/
def bootState (s : Block) : Block := s.pstateReq (s.get uClk F.CLK.PSTATE_CFG_BOOT)

/-- DRAM_TRAINING_DONE (R478, R617): the narrowest eyes by channel, (height, width). -/
def bootTraining (s : Block) (ok : Bool) (eyes : List (Nat × Nat)) : Block :=
  if s.cored && s.boot.began && decide (s.get uDmc F.DMC.STAT_STATE ≤ 1) then
    let s := s.trainingDone ok
    if ok then (s.eyesSet ((List.range 16).zip eyes)).bootDramRecord else s.bootState
  else s

/-- DRAM_WIPE_DONE (R86, R478). -/
def bootWipe (s : Block) : Block := if s.cored && s.get uDmc F.DMC.STAT_STATE == 2 then s.wipeDone.bootState else s

/-- What RUNNING waits for: the seal, and DRAM that is wiped or unavailable (R75, R83, R86). -/
def mayRun (s : Block) : Bool :=
  s.cored && s.boot.began && s.get uSys F.SYS.BOOT_STAT_PHASE == 9 && decide (3 ≤ s.get uDmc F.DMC.STAT_STATE)

/-- The units that have not come up by RUNNING (R83). -/
def unitsMissing (s : Block) : Block :=
  let s : Block := if s.on uHost F.HOST.LINK_UP then s else s.unitFail F.SYS.UNIT_FAIL_HOST 0
  let s : Block := if s.lportUp then s else s.unitFail F.SYS.UNIT_FAIL_LPORT 0
  let s : Block := if nth s.boot.cores 2 false && s.on uClk F.CLK.SRC_STAT_REF_OK then s else s.unitFail F.SYS.UNIT_FAIL_RING 0
  let s : Block := if (List.range 6).any s.zoneLost then s.unitFail F.SYS.UNIT_FAIL_THM 0 else s
  (List.range 12).foldl (fun s k => if s.portState k = 8 then s else s.unitFail F.SYS.UNIT_FAIL_CAMP k) s

/-- The tunnel frames that waited for the transmitters begin (R530). -/
def tunBegins (s : Block) : Block := (List.range 12).foldl tunBegin s

/-- RUNNING (R75 step 14, R79, R131, R145, R452, R481, R534, R551, R587). -/
def running (s : Block) : Block :=
  if s.mayRun then
    let s := s.unitsMissing.phase 10
    let s := s.set uSys F.SYS.BOOT_TIME_US (s.boot.preUs + s.lt / 1000)
    let s : Block := if s.ser.refFault then s else s.emit (.pin .faultn true)
    let s := (List.range 16).foldl (fun s k =>
      if s.onI uEvt F.EVT.GPIO_OUT k then s.emit (.pin (.gpio k) (s.gpioLevel k false)) else s) s
    let s := s.hostIrq F.HOST.IRQ_STAT_RUNNING
    let s := s.notice 0xF0 [s.get uSys F.SYS.IMAGE_SEQ_SEQUENCE, s.rd uSys F.SYS.BOOT_STAT_PHASE.off,
      s.rd uSys F.SYS.RST_CAUSE_CAUSE.off, s.rd uSys F.SYS.UNIT_FAIL_CORE.off, s.get uSys F.SYS.BOOT_TIME_US]
    ((((((((s.heldGos.axesStart).takeInbox).earlyBells).takePeers).thmAtRunning).copperStart).portsEnable).tunBegins).ringTryInsert
  else s

/-! ## Clock failures that stop more than a clock (R98, R100) -/

/-- ITO_FAIL: the ITO disagrees with every checker that works. With both failed it runs unchecked. -/
def itoFail (s : Block) : Block :=
  if s.armed = true ∧ (s.on uClk F.CLK.SRC_STAT_WATCH_OK || s.on uClk F.CLK.SRC_STAT_XTAL_OK) = true then
    ((s.set uClk F.CLK.SRC_STAT_ITO_OK 0).log uClk 0x0020 3 0 0 0).holdFail 2
  else s

/-- REF_FAIL. -/
def refFail (s : Block) : Block :=
  if s.armed = true ∧ s.graceOver = true ∧ s.on uClk F.CLK.SRC_STAT_REF_OK = true then
    let s := ((s.set uClk F.CLK.SRC_STAT_REF_OK 0).set uClk F.CLK.MON_STAT_REF_FAIL 1).clockLog 5
    let s := s.bypassClose true
    let s := (List.range 16).foldl portOff s
    let s : Block := { s with ser := { s.ser with refFault := true } }
    let s := s.emit (.pin .faultn false)
    let s : Block := if s.isRunning then s.unitFail F.SYS.UNIT_FAIL_RING 0 else s
    s.hostPortReset 2
  else s

/-- REF_RECOVERED. -/
def refRecovered (s : Block) : Block :=
  if s.armed = true ∧ s.on uClk F.CLK.SRC_STAT_REF_OK = false then
    let s := s.set uClk F.CLK.SRC_STAT_REF_OK 1
    let s : Block := if s.isRunning && nth s.boot.cores 2 false then s.unitWorks F.SYS.UNIT_FAIL_RING 0 else s
    s.portsEnable
  else s

end Block
end Sys2Proof.Machine
end

