-- ==== Sys2Proof/Machine/Life.lean ====
section
/-! DEFINITION. CONTROL, the image update and the lifecycle requests (R526, R531, R532, R87-R92). -/

namespace Sys2Proof.Machine

/-! ## CONTROL -/

/-- The fields CONTROL may write, for instance i of their register (R526). -/
def controlField (t : UnitType) (f : Field) (i : Nat) : Bool :=
  t.owner == 1 &&
  (f.acc == .rw1c || (match clearCnt t with | some (c, _) => f == c | none => false) ||
  match t with
  | .clk => f == F.CLK.PSTATE_REQ_REQ || (f == F.CLK.GATE_CLOSE && gateable i) || f == F.CLK.TMON_CTL_CLEAR_MIN
  | .thm => f == F.THM.CTL_CLEAR_PEAK
  | .strip => f == F.STRIP.CTL_CLEAR_PEAK
  | .serdes => f == F.SERDES.CTL_CLEAR_CNT
  | .time => f == F.TIME.DOMAIN_CTL_FORCE
  | .sense => f == F.SENSE.BANK_CTL_SEL || f == F.SENSE.SS_GO_GO
  | .axis => f == F.AXIS.CTL_HOME || f == F.AXIS.CTL_STOP || f == F.AXIS.CTL_RESUME || f == F.AXIS.CTL_CLEAR_FAULT
  | _ => false)

/-- A bit of a register lies in a field CONTROL may write. -/
def controlBit (t : UnitType) (off b : Nat) : Bool :=
  (t.fieldsAt off).any fun f => decide (f.lo ≤ b) && decide (b ≤ f.hi) && controlField t f ((f.instanceAt off).getD 0)

/-- Every bit of an entry's MASK may be written. -/
def controlOk (e : Nat × Nat × Nat) : Bool :=
  match entryUnit e with
  | some u => (onesBelow 32 e.2.1).all fun b => controlBit u.ty (entryOff e / 4 * 4) b
  | none => onesBelow 32 e.2.1 == []

namespace Block

/-- One entry of CONTROL: RW1C bits outside MASK are written 0. -/
def controlEntry (s : Block) (e : Nat × Nat × Nat) : Block :=
  match entryUnit e with
  | some u =>
    let off := entryOff e / 4 * 4
    let cur := (u.ty.fieldsAt off).foldl (fun v f => if f.acc == .rw1c then putBits v f.hi f.lo 0 else v)
      (s.readWord .core0 u off 0)
    s.busWrite .core0 0 (regAddress u off) (maskIn cur e.2.1 e.2.2)
  | none => s

/-- CONTROL (R526). -/
def control (s : Block) (m : Msg) : Block :=
  let es := entriesOf (m.words.drop 1)
  match firstBad controlOk es with
  | some i => s.reply 0x11 m.tag 5 i []
  | none => (es.foldl controlEntry s).reply 0x11 m.tag 0 0 []

/-! ## IMAGE_UPDATE (R63, R531) -/

/-- DETAIL of the check an image fails: 1 R68, 2 R69, 3 R70; 0 when it passes. -/
def imageCheck (s : Block) (b : List Nat) : Nat :=
  let h := b.take 0x560
  let part (x : Section) : List Nat := (b.drop x.off).take x.size
  let recs := ((sectionsOf h).find? fun x => x.ty == 0x10).bind fun x => recordsOf (part x)
  if b.length < 0x560 ∨ b.length < leAt h 0x8 4 ∨ structural h = false ∨ recs.isNone = true then 1
  else if !s.signed (s.get uSys F.SYS.LIFECYCLE_STATE) h then 2
  else if !s.rollbackOk h then 3
  else 0

/-- A flash range erased. -/
def flashErase (s : Block) (a n : Nat) : Block :=
  { s with flash := storeDrop (fun k => decide (a ≤ k) && decide (k < a + n)) s.flash }

/-- A slot written: sections, then the header (R63). With a flash error what the slot holds is a free value. -/
def slotWrite (s : Block) (k : Nat) (b : List Nat) (flashOk : Bool) : Block :=
  let n := leAt b 0x8 4
  let s := s.flashErase (slotBase k) 0x1800000
  if flashOk then (s.flashWrite (slotBase k + 0x560) ((b.take n).drop 0x560)).flashWrite (slotBase k) (b.take 0x560)
  else s.took.flashWrite (slotBase k) (le n s.fresh)

/-- IMAGE_UPDATE: `data` and `ok` are the host's answer to the fetch, `flashOk` says that the slot reads back right. -/
def imageUpdate (s : Block) (m : Msg) (data : List Nat) (ok flashOk : Bool) : Block :=
  let w (i : Nat) : Nat := m.words.getD i 0
  let (got, b, s) := s.fetchFor (bits (w 0) 1 0) (w 1 + w 2 * 2 ^ 32) (w 3) data ok
  if !got then s.moved 0x40 m 0 false
  else
    let d := s.imageCheck b
    if d ≠ 0 then s.longDone 0x40 m 0 10 d []
    else
      let k := 1 - s.bootSlot
      let s := s.slotWrite k b flashOk
      if flashOk then s.longDone 0x40 m 0 0 0 [k, leAt b 0xC 4] else s.longDone 0x40 m 0 10 4 []

/-! ## The lifecycle requests (R532) -/

/-- The payload of a lifecycle request as bytes. -/
def lifeBytes (m : Msg) : List Nat := m.words.flatMap (le 4)

/-- SIG_I verifies under the booted image's key. -/
def sigI (s : Block) (b : List Nat) : Bool :=
  Config.ecdsaOk (integratorKey s.bootHeader) (ofBe ((b.drop 0x48).take 96)) (b.take 0x48)

/-- SIG_A verifies under an unrevoked Aqzia key. -/
def sigA (s : Block) (b : List Nat) : Bool :=
  [0, 1].any fun k => !(k == 0 && s.fuses.aqzia0Revoked) &&
    Config.ecdsaOk (Config.aqziaKey k) (ofBe ((b.drop 0xA8).take 96)) (b.take 0x48)

/-- DEVICE_ID and NONCE are this device's (R532); DEVICE_ID and the nonce are little-endian. -/
def lifeIdent (s : Block) (b : List Nat) : Bool :=
  leAt b 0 8 == s.fuses.deviceId % 2 ^ 64 && s.mbx.nonce == some (leAt b 8 16)

/-- What a lifecycle request does. -/
inductive LifeAct where
  | reply (result detail : Nat)
  | blow (f : Fuses)

/-- A key slot written in both copies. -/
def keySlotPut (f : Fuses) (i : Nat) (g : KeySlot → KeySlot) : Fuses := { f with keys := upd f.keys i g }

/-- Both lifecycle copies at a state. -/
def lifePut (f : Fuses) (v : Nat) : Fuses := { f with lifeA := v, lifeB := v }

/-- States in which a lifecycle request has an effect (R88, R89, R92). -/
def lifeAllowed (typ st : Nat) : Bool :=
  match typ with
  | 0x50 => st == 1
  | 0x51 => st == 1 || st == 2 || st == 3
  | 0x52 | 0x53 | 0x54 => st == 2
  | 0x55 => st == 1 || st == 2
  | _ => st == 1 || st == 2 || st == 3

/-- The signatures a request needs in a state: SIG_I in SECURED, and SIG_A for RMA (R88, R89, R92, R532). -/
def lifeSigned (s : Block) (typ st : Nat) (b : List Nat) : Bool :=
  if st = 2 then s.sigI b && (typ != 0x52 || s.sigA b) else true

/-- The fuse change of an accepted request, or why there is none (R88, R89, R92). DESIGN CHOICE (log entry 86): the spec
gives KEY_REVOKE of a slot above 3 no answer; the model's is NOT_ALLOWED, as for the booted image's slot. -/
def lifeAct (s : Block) (typ : Nat) (b : List Nat) : LifeAct :=
  let f := s.fuses
  let arg := (b.drop 0x18).take 48
  let boot := s.bootHeader
  match typ with
  | 0x50 => if ofBe arg = keyHash boot then
      .blow (lifePut (keySlotPut f 0 fun _ => ⟨true, true, false, false, ofBe arg⟩) 2)
    else .reply 8 0
  | 0x51 => .blow (lifePut f 7)
  | 0x52 => .blow (lifePut f 3)
  | 0x53 => match (List.range 4).find? fun i => !(f.key i).fused with
    | some i => .blow (keySlotPut f i fun (k : KeySlot) => ({ k with fusedA := true, fusedB := true, hash := ofBe arg } : KeySlot))
    | none => .reply 10 (s.fresh % 65536)
  | 0x54 =>
    let i := arg.getD 0 0
    if i = boot.getD 0x14 0 ∨ 4 ≤ i then .reply 5 0
    else .blow (keySlotPut f i fun (k : KeySlot) => ({ k with revokedA := true, revokedB := true } : KeySlot))
  | 0x55 =>
    let t := arg.getD 0 0
    if leAt boot 0x10 2 < t then .reply 5 0
    else if t ≤ f.rollback then .reply 0 0
    else .blow { f with rollback := t }
  | _ => if f.debugDisabled then .reply 0 0 else .blow { f with debugDisabled := true }

/-- A lifecycle request (R532): its reply, and after a fuse change the device reset of R90, after a time the spec does not
give: a free value (log entry 35). `vfuse`: VFUSE is in range (R124). -/
def lifeReq (s : Block) (typ : Nat) (m : Msg) (vfuse : Bool) (env : BootEnv) : Block :=
  let b := lifeBytes m
  let st := s.get uSys F.SYS.LIFECYCLE_STATE
  let t : Block := { s.took with mbx := { s.mbx with nonce := none } }
  if !lifeAllowed typ st then t.reply typ m.tag 5 0 []
  else if !s.lifeIdent b || !s.lifeSigned typ st b then t.reply typ m.tag 8 0 []
  else match s.lifeAct typ b with
    | .reply r d => t.reply typ m.tag r d []
    | .blow f =>
      if vfuse then
        let t : Block := ({ t with fuses := f } : Block).reply typ m.tag 0 0 []
        { t with boot := { t.boot with resetDue := some ((t.lt + s.fresh % 2 ^ 63) % 2 ^ 64, 3, env) } }
      else t.reply typ m.tag 10 (s.fresh % 65536) []

end Block
end Sys2Proof.Machine
end

