-- ==== Sys2Proof/Machine/DmaMove.lean ====
section
/-! DEFINITION. The movement of data by the DMA engine: reads, the buffer, writes, responses (R487-R489, R494, R498, R500,
R571, R572). -/

namespace Sys2Proof.Machine

/-- Bytes of a channel's buffer contiguous from a destination offset, at most `need`. -/
def gather (b : List (Nat × List Nat)) (pos need : Nat) : Nat → List Nat
  | 0 => []
  | fuel + 1 =>
    match b.find? (·.1 == pos) with
    | none => []
    | some (_, l) =>
      let t := l.take need
      if t.isEmpty then [] else t ++ gather b (pos + t.length) (need - t.length) fuel

/-- A buffer without what lies below an offset. -/
def trimBuffer (b : List (Nat × List Nat)) (pos : Nat) : List (Nat × List Nat) :=
  b.filterMap fun p =>
    if p.1 + p.2.length ≤ pos then none else if p.1 < pos then some (pos, p.2.drop (pos - p.1)) else some p

/-- The SPACE a descriptor reads from and writes to (R489, R492). -/
def DmaDesc.srcSpace (d : DmaDesc) : Nat := bits d.ctrl 1 0
def DmaDesc.dstSpace (d : DmaDesc) : Nat := bits d.ctrl 3 2

/-- CLASS of a descriptor: 1 Class B, 2 Class C (R492). -/
def DmaDesc.cls (d : DmaDesc) : Nat := bits d.ctrl 7 6

namespace Block

/-! ## Whose access, and where -/

/-- The master a channel's system-space words are attributed to (R489, R647). -/
def chanMaster (s : Block) (n : Nat) : Master := if n < 56 then .host else (s.chan n).master

/-- Tier of a channel (R468, R488): host 2, firmware 3, Class B 4, Class C 5. -/
def chanTier (n : Nat) (d : DmaDesc) : Nat :=
  match streamOf d with
  | some i => if i = 3 then 5 else 4
  | none => if 56 ≤ n then 3 else match d.cls with
    | 1 => 4
    | 2 => 5
    | _ => 2

/-- A system address names another device (R10). -/
def farAway (s : Block) (addr : Nat) : Bool := addr / 2 ^ 24 % 2 ^ 14 != s.devAddr

/-- An access is still outstanding, or its tag is (R498). -/
def outstanding (s : Block) (id : Nat) : Bool := s.dma.flight.any (·.id == id) || s.dma.quarantine.any (·.id == id)

/-- The lowest TAG free for an access to another device: 16 of the device's SYSACC accesses, and 16 of its BULK
transfers, are outstanding at most (R571, R572). -/
def remoteTag (s : Block) (bulk : Bool) : Option Nat :=
  (List.range 16).find? fun t => !(s.ring.remote.any fun r => r.tag == t && r.bulk == bulk && s.outstanding r.access)

/-- Class B or C of the ring a descriptor's system-space transfers travel in, if it names one (R572). -/
def bulkClass (n : Nat) (d : DmaDesc) : Option Nat :=
  if 56 ≤ n then none else match d.cls with
    | 1 => some 5
    | 2 => some 6
    | _ => none

/-- A Class B or C message waits for credits, or is discarded for want of a route (R549, R562). -/
def sendBulk (s : Block) (cls addr : Nat) (body : List Nat) : Block :=
  if s.ringState = 2 ∨ (s.routeTo addr).isSome then
    { s with ring := { s.ring with waiting := s.ring.waiting ++ [⟨cls, addr, 0x2B + cls, s.devAddr, body⟩] } }
  else s.misroute

/-- The body of a BULK message (R572). -/
def bulkBody (tag op status count addr : Nat) (data : List Nat) : List Nat :=
  [tag, op, status, 0] ++ le 4 count ++ le 8 addr ++ data

/-- An access of channel n to another device goes out under a TAG. -/
def remoteAccess (s : Block) (n : Nat) (k : DmaKind) (addr len tag : Nat) (bulk : Option Nat) (data : List Nat) : Block :=
  let op := if k = .write then 1 else 0
  let live := s.ring.remote.filter fun r => s.outstanding r.access
  let s : Block := { s with ring := { s.ring with remote := live ++ [⟨tag, n, s.dma.nextId, bulk.isSome⟩] } }
  let s := s.access n k 2 addr len [] false
  let dev := addr / 2 ^ 24 % 2 ^ 14
  match bulk with
  | some c => s.sendBulk c dev (bulkBody tag op 0 len (addr % 2 ^ 38) data)
  | none => s.sendService dev 0x22 ([tag, op, 0, 0] ++ le 8 (addr % 2 ^ 38) ++ le 4 (ofLe data))

/-! ## Reads -/

/-- Bytes of the next read of a descriptor (R487). -/
def readSize (s : Block) (n : Nat) (d : DmaDesc) (addr left : Nat) : Nat :=
  match d.srcSpace with
  | 0 => Nat.min left (Nat.min s.host.maxReadReq (4096 - addr % 4096))
  | 1 => Nat.min left (64 - addr % 64)
  | _ => if s.farAway addr && (bulkClass n d).isSome then Nat.min left 2048 else Nat.min left 4

/-- Tags and buffer let channel n read on (R487, R500). -/
def mayRead (s : Block) (n : Nat) (d : DmaDesc) : Bool :=
  let c := s.chan n
  c.error.isNone && decide (c.requested < d.count) && decide (d.srcSpace ≤ 2) && decide (c.blocks < 64) &&
    decide (sumN (s.dma.chans.map DmaChan.blocks) < 1024) &&
    s.tagFree n .read d.srcSpace

/-- One read of channel n, if it may: host memory is asked, DRAM and this device's registers answer with what they hold
now, another device is asked over the ring. -/
def readOne (s : Block) (n : Nat) : Option Block :=
  match (s.chan n).desc with
  | none => none
  | some d =>
    if !s.mayRead n d then none
    else
      let c := s.chan n
      let addr := d.src + c.requested
      let len := s.readSize n d addr (d.count - c.requested)
      let t := s.setChan n { c with requested := c.requested + len }
      match d.srcSpace with
      | 0 => some ((t.emit (.hostRead t.dma.nextId addr len)).access n .read 0 addr len [] false)
      | 1 =>
        if t.dramUp then
          let (b, ue, t) := t.dramRead addr len
          some (t.access n .read 1 addr len b !ue.isEmpty)
        else some (t.access n .read 1 addr len [] true)
      | _ =>
        if t.farAway addr then
          (t.remoteTag (bulkClass n d).isSome).map fun tag => t.remoteAccess n .read addr len tag (bulkClass n d) []
        else
          let bad := t.shutAt addr
          let (v, t) := t.busRead (t.chanMaster n) 0 (addr % 2 ^ 24)
          some (t.access n .read 2 addr len ((le 4 v).take len) bad)

/-- One block of reads of channel n: reads until 2 KiB are asked for (R488). Answers whether any went out. -/
def readBlock (s : Block) (n limit : Nat) : Nat → Bool × Block
  | 0 => (false, s)
  | fuel + 1 =>
    if limit ≤ (s.chan n).requested then (false, s)
    else match s.readOne n with
      | none => (false, s)
      | some t => (true, (t.readBlock n limit fuel).2)

/-- The channels with a descriptor in execution, in tier order (R488). -/
def readOrder (s : Block) : List Nat :=
  [2, 3, 4, 5].flatMap fun k => (List.range 64).filter fun n =>
    match (s.chan n).desc with
    | some d => chanTier n d == k
    | none => false

/-- A rotation: every channel of the order reads one block. -/
def readRound (s : Block) (l : List Nat) : Bool × Block :=
  l.foldl (fun (acc : Bool × Block) n =>
    let (more, s) := acc.2.readBlock n ((acc.2.chan n).requested + 2048) 512
    (acc.1 || more, s)) (false, s)

/-- Rotations of the channels of one tier until none reads on. -/
def readTier (s : Block) (l : List Nat) : Nat → Block
  | 0 => s
  | fuel + 1 => match s.readRound l with
    | (true, t) => t.readTier l fuel
    | (false, t) => t

/-- The read engine: tier by tier (R488). -/
def readAll (s : Block) : Block :=
  let l := s.readOrder
  [2, 3, 4, 5].foldl (fun s k => s.readTier (l.filter fun n =>
    match (s.chan n).desc with
    | some d => chanTier n d == k
    | none => false) 64) s

/-! ## Writes -/

/-- Bytes the next write of a descriptor takes, and how many it must have: host memory and ports take what is there, a DRAM
granule waits until it is whole or the descriptor's end, system space takes words (R487). -/
def writeSize (s : Block) (n : Nat) (d : DmaDesc) (addr left : Nat) : Nat × Bool :=
  match d.dstSpace with
  | 0 | 3 => (left, false)
  | 1 => (Nat.min left (64 - addr % 64), true)
  | _ => (if s.farAway addr && (bulkClass n d).isSome then Nat.min left 2048 else Nat.min left 4, true)

/-- The bytes go to their destination. -/
def writeOut (s : Block) (n : Nat) (d : DmaDesc) (addr : Nat) (l : List Nat) : Option Block :=
  match d.dstSpace with
  | 0 => some ((s.emit (.hostWrite addr l)).access n .write 0 addr l.length [] false)
  | 1 =>
    if s.dramUp then
      let (bad, s) := s.dramWrite addr l
      some (s.access n .write 1 addr l.length [] bad)
    else some (s.access n .write 1 addr l.length [] true)
  | 2 =>
    if s.farAway addr then
      (s.remoteTag (bulkClass n d).isSome).map fun tag => s.remoteAccess n .write addr l.length tag (bulkClass n d) l
    else
      let bad := s.shutAt addr
      some ((s.busWrite (s.chanMaster n) 0 (addr % 2 ^ 24) (ofLe l)).access n .write 2 addr l.length [] bad)
  | _ => some (s.ingest d.dst l)

/-- One write of channel n, if its data and a tag are there (R487, R494). -/
def writeOne (s : Block) (n : Nat) : Option Block :=
  let c := s.chan n
  match c.desc, c.error with
  | some d, none =>
    let stop := if c.streamEnd then Nat.min d.count c.requested else d.count
    let (need, whole) := s.writeSize n d (d.dst + c.written) (stop - c.written)
    let l := gather c.buffer c.written need (c.buffer.length + 1)
    if l.isEmpty ∨ (whole ∧ l.length < need) ∨ (d.dstSpace ≠ 3 ∧ s.tagFree n .write d.dstSpace = false) then none
    else
      (s.writeOut n d (d.dst + c.written) l).map fun t =>
        let w := c.written + l.length
        (t.setChan n { t.chan n with written := w, buffer := trimBuffer c.buffer w }).setCount n (d.count - w)
  | _, _ => none

/-- The write engine for channel n. -/
def writeAll (s : Block) (n : Nat) : Nat → Block
  | 0 => s
  | fuel + 1 => match s.writeOne n with
    | some t => t.writeAll n fuel
    | none => s

/-- Bytes in a channel's buffer. -/
def buffered (s : Block) (n : Nat) : Nat := sumN ((s.chan n).buffer.map (·.2.length))

/-- The write engine, channel by channel (R488). -/
def writeEach (s : Block) : Block := s.readOrder.foldl (fun s n => s.writeAll n (s.buffered n)) s

/-- Fetches that wait for a tag, and both engines, go on as far as they can. -/
def dmaPump (s : Block) : Block := ((((List.range 56).foldl fetchGo s).writeEach.feedAll).writeEach).readAll

/-! ## Responses -/

/-- A descriptor's words (R492). -/
def descOf (b : List Nat) : DmaDesc := ⟨leAt b 0 4, leAt b 4 4, leAt b 8 8, leAt b 16 8, leAt b 24 8⟩

/-- An access has its answer (R494, R498); one that brings fewer bytes than asked is an error. -/
def dmaFinish (s : Block) (id : Nat) (err : Bool) (data : List Nat) : Block :=
  match s.dma.flight.find? fun a => a.id == id with
  | none =>
    if s.dma.quarantine.any (·.id == id) then (s.inc uDma F.DMA.CNT_LATE_RSP_COUNT).flag uDma F.DMA.FLAGS_LATE_RSP else s
  | some a =>
    let s := ({ s with dma := { s.dma with flight := s.dma.flight.filter fun x => x.id != id } } : Block).tagsUpdate
    let c := s.chan a.chan
    let s : Block := match a.kind, err with
      | .fetch, true => s.dmaError a.chan 4
      | .fetch, false => if data.length < 32 then s.dmaError a.chan 4 else s.descBegin a.chan (descOf data)
      | .read, true => s.dmaError a.chan 1
      | .read, false => match c.desc with
        | some d =>
          if data.length < a.len then s.dmaError a.chan 1
          else s.setChan a.chan { c with buffer := c.buffer ++ [(a.addr - d.src, data.take a.len)] }
        | none => s
      | .write, true => s.dmaError a.chan 2
      | .write, false => s
    s.dmaPump

/-- DMA_RESPONSE (R494, R498): host memory answers with the data and status of the command, DRAM and registers of this
device with what the access met. An access to another device has its answer from the ring. -/
def dmaResponse (s : Block) (id : Nat) (err : Bool) (data : List Nat) : Block :=
  match s.dma.flight.find? fun a => a.id == id with
  | some a =>
    if a.space = 0 then s.dmaFinish id (err && a.kind != .write) data
    else if a.space = 2 ∧ s.farAway a.addr then s
    else s.dmaFinish id a.err a.data
  | none => s.dmaFinish id err data

/-- DMA_NOACK and what waits for the tags of others. -/
def noackPump (s : Block) (id : Nat) : Block := (s.dmaNoack id).dmaPump

/-- A SYSACC or BULK answer arrives (R571, R572). -/
def remoteAnswer (s : Block) (bulk : Bool) (tag status : Nat) (data : List Nat) : Block :=
  match s.ring.remote.find? fun r => r.tag == tag && r.bulk == bulk && s.outstanding r.access with
  | some r => s.dmaFinish r.access (status != 0) data
  | none => s

end Block
end Sys2Proof.Machine
end

