-- ==== Sys2Proof/Machine/RingRx.lean ====
section
/-! DEFINITION. What arrives on a Sidias link: flits and their acknowledgement, messages and what each does
(R269, R541-R546, R565-R572). -/

namespace Sys2Proof.Machine
namespace Block

/-! ## POSITION (R269, R567, R568) -/

/-- Local LT less the position source's (R568). -/
def posOfs (s : Block) : Int := sext 64 (s.get uRing F.RING.POS_OFS_LO_NS + s.get uRing F.RING.POS_OFS_HI_NS * 2 ^ 32)

/-- A decision entry of 40 bytes as a decided line of this member (R567, R568). -/
def posDecision (s : Block) (e : List Nat) : Decided :=
  let first := bit (leAt e 14 1) 0
  ⟨leAt e 8 6, even ((leAt e 0 8 : Int) + s.posOfs).toNat, leAt e 16 4, leAt e 20 3, first,
    if first then sext 64 (leAt e 24 8) else 0, if first then leAt e 32 4 else 0, s.lt + 100⟩

/-- A decision taken: late when an enabled output's pulse would come less than 0.1 µs from now (R568). -/
def posDecide (s : Block) (d : Decided) : Block :=
  let late := s.outsOn.any fun k => decide (d.at_ + even (s.getI uTrig F.TRIG.OUT_DELAY_NS k) < s.lt + 100)
  let s : Block := if late then (s.inc uRing F.RING.CNT_TRIG_LATE_COUNT).flag uRing F.RING.FLAGS_TRIG_LATE else s
  let old := s
  let s := if d.first then s.webEnter d.line d.page else s
  let s : Block := { s with
    web := { s.web with
      line := (d.line + 1) % 2 ^ 48, nextPage := (d.page + 1) % 2 ^ 32, lastTrig := some d.at_
      ringPage := s.web.ringPage || d.first }
    trig := { s.trig with decided := s.trig.decided ++ [d] } }
  if d.first then webCommitted old s else s

/-- A POSITION message of the position source at a member with SRC 4: its registers report the values received, its
triggers follow the decisions (R269, R567, R568). -/
def positionIn (s : Block) (src : Nat) (b : List Nat) : Block :=
  if s.web.src < 4 ∨ s.on uRing F.RING.POSSRC_VALID = false ∨ src ≠ s.get uRing F.RING.POSSRC_ADDR then s
  else
    let st := leAt b 0x18 1
    let was := s.obsState
    let s : Block := { s.set uRing F.RING.STAT_POS_OK 1 with
      ring := { s.ring with posAt := some s.lt }
      web := { s.web with
        pNow := sext 64 (leAt b 8 8) * 65536, vNow := sext 32 (leAt b 0x10 4) * 65536000
        acc := sext 32 (leAt b 0x14 4) * 65536000000, updatedAt := s.lt } }
    let s := (s.set uWeb F.WEB.POS_LO_VALUE (leAt b 8 4)).set uWeb F.WEB.POS_HI_VALUE (leAt b 12 4)
    let s := (s.set uWeb F.WEB.SPEED_UM_S (leAt b 0x10 4)).set uWeb F.WEB.ACCEL_MM_S2 (leAt b 0x14 4)
    let s := (s.set uWeb F.WEB.STATE_OBS (bits st 2 0)).set uWeb F.WEB.STATE_DIR (bits st 4 3)
    let s := (s.set uWeb F.WEB.STATE_TRIG_OK (bits st 5 5)).set uWeb F.WEB.STATE_POS_SUSPECT (bits st 6 6)
    let s := s.hwmUpdate.hwmReport
    let s : Block := if was ≠ 4 ∧ bits st 2 0 = 4 then s.axesWebFault else s
    let old := s.trig.decided.length
    let ds := (List.range (Nat.min 2 (leAt b 0x19 1))).map fun i => s.posDecision ((b.drop (28 + 40 * i)).take 40)
    ((ds.foldl posDecide s).cutsSince old).marksDecide

/-- No POSITION message for 20 µs (R568). -/
def positionTimeout (s : Block) : Block :=
  match s.ring.posAt with
  | none => s
  | some t =>
    if s.web.src < 4 ∨ s.since t < 20000 then s
    else
      let s : Block := { s with ring := { s.ring with posAt := none }, trig := { s.trig with decided := [] } }
      let s := ((s.set uRing F.RING.STAT_POS_OK 0).set uWeb F.WEB.STATE_OBS 4).set uWeb F.WEB.STATE_TRIG_OK 0
      (s.flagRaise uRing F.RING.FLAGS_POS_LOST).axesWebFault

/-- The bytes of a decision entry (R567). -/
def decisionBytes (d : Decided) : List Nat :=
  le 8 d.at_ ++ le 6 d.line ++ [b2n d.first, 0] ++ le 4 d.page ++ le 4 d.pageLine ++
    le 8 (if d.first then wrapN 64 d.start else 0) ++ le 4 (if d.first then d.pitch else 0) ++ le 4 0

/-- The position source of its ring (R566): this device. -/
def isPosSource (s : Block) : Bool :=
  s.on uRing F.RING.POSSRC_VALID && s.get uRing F.RING.POSSRC_ADDR == s.devAddr && decide (s.web.src < 4) &&
    s.ringState != 0

/-- The POSITION message of an update with the lines decided in it (R567). -/
def positionSend (s : Block) (ds : List Decided) : Block :=
  if s.isPosSource then
    let st := s.obsState + s.get uWeb F.WEB.STATE_DIR * 8 + s.get uWeb F.WEB.STATE_TRIG_OK * 32 +
      s.get uWeb F.WEB.STATE_POS_SUSPECT * 64
    let l := ds.take 2
    s.broadcast s.topScope 5 (le 8 s.lt ++ le 8 (s.get uWeb F.WEB.POS_LO_VALUE + s.get uWeb F.WEB.POS_HI_VALUE * 2 ^ 32) ++
      le 4 (s.get uWeb F.WEB.SPEED_UM_S) ++ le 4 (s.get uWeb F.WEB.ACCEL_MM_S2) ++ [st, l.length, 0, 0] ++
      l.flatMap decisionBytes)
  else s

/-! ## System-space accesses and transfers of other devices (R571, R572) -/

/-- SYSACC_REQ: one access, and its answer. -/
def sysReq (s : Block) (src : Nat) (b : List Nat) : Block :=
  let addr := leAt b 4 8 % 2 ^ 24
  let rsp (s : Block) (status v : Nat) : Block := s.sendService src 0x23 ([leAt b 0 1, status, 0, 0] ++ le 4 v)
  if bit (leAt b 1 1) 0 then
    let bad := s.writeRefused .other addr
    rsp (s.busWrite .other src addr (leAt b 12 4)) (if bad then 2 else 0) 0
  else
    let bad := s.shutAt addr
    let (v, s) := s.busRead .other src addr
    rsp s (b2n bad) v

/-- Receive space freed by a Class B or C message taken here: the own entry's, or the uplink's (R549). -/
def bulkFreed (s : Block) (l cls n : Nat) : Block :=
  let c := s.ring.credit
  { s with ring := { s.ring with credit := match cls == 5, l == 2 with
    | true, true => { c with uplB := c.uplB + n }
    | true, false => { c with freedB := c.freedB + n }
    | false, true => { c with uplC := c.uplC + n }
    | false, false => { c with freedC := c.freedC + n } } }

/-- The words of a BULK read, and whether one lies in a closed island. -/
def bulkRead (s : Block) (src addr : Nat) : Nat → List Nat × Bool × Block
  | 0 => ([], false, s)
  | n + 1 =>
    let bad := s.shutAt addr
    let (v, s) := s.busRead .other src addr
    let (r, b, s) := s.bulkRead src (addr + 4) n
    (le 4 v ++ r, bad || b, s)

/-- The words of a BULK write; answers whether one was discarded. -/
def bulkWrite (s : Block) (src addr : Nat) (data : List Nat) : Nat → Bool × Block
  | 0 => (false, s)
  | n + 1 =>
    let bad := s.writeRefused .other addr
    let (b, s) := (s.busWrite .other src addr (leAt data 0 4)).bulkWrite src (addr + 4) (data.drop 4) n
    (bad || b, s)

/-- BULK_B or BULK_C (R572). -/
def bulkIn (s : Block) (l : Nat) (m : RingMsg) : Block :=
  let b := m.body
  let tag := leAt b 0 1
  let n := leAt b 4 4 / 4
  let addr := leAt b 8 8 % 2 ^ 38
  let here := addr % 2 ^ 24
  let s := s.bulkFreed l m.cls (units m)
  match leAt b 1 1 with
  | 0 =>
    let (d, bad, s) := s.bulkRead m.src here (Nat.min n 4090)
    s.sendBulk m.cls m.src (bulkBody tag 2 (b2n bad) d.length addr d)
  | 1 =>
    let (bad, s) := s.bulkWrite m.src here (b.drop 16) (Nat.min n 4090)
    s.sendBulk m.cls m.src (bulkBody tag 3 (if bad then 2 else 0) (4 * n) addr [])
  | _ => s.remoteAnswer true tag (leAt b 2 1) (b.drop 16)

/-! ## Delivery -/

/-- RECORD: to the merging device a tag with its t0 (R400, R434); to a whole ring a MARK tag for the axes (R405). -/
def recordIn (s : Block) (m : RingMsg) : Block :=
  let r := tagOfBytes m.body
  if m.dest < 0x4000 then s.tagIn r (leAt m.body 96 8)
  else { s with axes := s.axes.map fun (x : AxisSt) => { x with inbox := x.inbox ++ [r] } }

/-- A message taken by this device. -/
def deliver (s : Block) (l : Nat) (m : RingMsg) : Block :=
  match m.typ with
  | 0x01 => s.reelIn l m
  | 0x02 => s.enumIn l m
  | 0x03 => s.resultIn l m
  | 0x04 => s.timeIn l m.body
  | 0x05 => s.positionIn m.src m.body
  | 0x06 => s.beaconIn m.body
  | 0x07 => s.uplCreditIn m.body
  | 0x08 => s.identIn l m.body
  | 0x10 => s.recordIn m
  | 0x11 => s.overlapMsg l m.src m.body
  | 0x20 => s.mailboxIn m.src m.body
  | 0x21 => s.ringEvent m.src m.body
  | 0x22 => s.sysReq m.src m.body
  | 0x23 => s.remoteAnswer false (leAt m.body 0 1) (leAt m.body 1 1) ((m.body.drop 4).take 4)
  | 0x24 => s.groupIn m.src m.body
  | 0x25 => s.appliedIn m.src m.body
  | _ => s.bulkIn l m

/-- A message arrives whole on link l (R546, R552, R562). -/
def messageIn (s : Block) (l : Nat) (m : RingMsg) : Block :=
  if !s.linkTakes l m.typ then s
  else if (ringClass m.typ).isNone then s.misroute
  else
    let p := s.passage l m
    let s : Block := if p.lost then s.misroute else s
    let s := p.next.foldl (fun s k => s.forward m l k) s
    if p.deliver then s.deliver l m else s

/-- A message of a type from a device with a DEST word. -/
def typedIn (s : Block) (l typ src dest : Nat) (body : List Nat) : Block :=
  s.messageIn l ⟨(ringClass typ).getD 0, dest, typ, src % 0x4000, body⟩

/-! ## Flits (R541-R543) -/

/-- The message of bytes from FIRST to LAST (R546). -/
def messageOf (cls dest : Nat) (b : List Nat) : RingMsg :=
  ⟨cls, dest, leAt b 0 1, leAt b 4 2 % 0x4000, (b.drop 8).take (leAt b 2 2)⟩

/-- The flits a received ACK acknowledges leave the replay buffer (R542). -/
def ackIn (s : Block) (l ack : Nat) : Block :=
  let k := s.link l
  match k.replay.findIdx? fun f => f.seq == ack with
  | some i =>
    let s := s.setLink l fun k => { k with replay := k.replay.drop (i + 1), progress := s.lt }
    s.pumpLink l (k.queue.length + 1)
  | none => s

/-- A NAK: the flits from ACK + 1 are replayed (R542, R543). -/
def nakIn (s : Block) (l ack : Nat) : Block :=
  let k := s.link l
  let q := (ack + 1) % 4096
  let n := if k.nakSeq = q ∧ k.nakCount ≠ 0 then k.nakCount + 1 else 1
  let s := (s.setLink l fun k => { k with
    nakSeq := q, nakCount := n, replays := s.lt :: s.recentReplays l }).inc uRing F.RING.CNT_RETRY_COUNT
  let s := (s.link l).replay.foldl (fun s f => s.flitOut l f) s
  s.linkFail l

/-- The data part of a good flit in its turn: acknowledged, put together, delivered (R541, R542, R546). -/
def flitData (s : Block) (l : Nat) (d : List Nat) : Block :=
  let seq := leAt d 0 2 % 4096
  let c := leAt d 4 1
  let cls := c % 8
  let dest := leAt d 6 2
  let pay := (d.drop 8).take (Nat.min 244 (leAt d 5 1))
  let k := s.link l
  if cls = 0 ∨ seq ≠ (k.rxSeq + 1) % 4096 then s
  else
    let so := match k.parts.find? fun p => p.1 == cls with
      | some p => p.2.2
      | none => []
    let whole := if bit c 3 then pay else so ++ pay
    let rest := k.parts.filter fun p => p.1 != cls
    let s := s.setLink l fun k => { k with
      rxSeq := seq, parts := if bit c 4 then rest else (cls, dest, whole) :: rest }
    let s := s.idleOut l
    if bit c 4 then s.messageIn l (messageOf cls dest whole) else s

/-- FLIT_RECEIVE: the 288 bytes of a flit on link l. -/
def flitReceive (s : Block) (l : Nat) (raw : List Nat) : Block :=
  if 3 ≤ l ∨ s.linkUp l = false then s
  else
    let c := flitCheck raw
    let s := (s.addI uSerdes F.SERDES.FEC_COR_COUNT (12 + l) c.symbols).addI uSerdes F.SERDES.FEC_UNC_COUNT (12 + l)
      c.uncorrectable
    let s := (List.range 4).foldl (fun s j =>
      let u := laneOf (12 + l) j
      s.addI u F.LANE.SYMERR_COUNT 0 (c.lanes.getD (s.get u F.LANE.STAT_RX_LOGICAL) 0)) s
    match c.data with
    | none => (s.setLink l fun k => { k with nak := true }).idleOut l
    | some d =>
      let ack := leAt d 2 2
      let s := s.ackIn l (ack % 4096)
      let s : Block := if bit ack 12 then s.nakIn l (ack % 4096) else s
      if s.linkUp l then s.flitData l d else s

end Block
end Sys2Proof.Machine
end

