-- ==== Sys2Proof/Machine/Perform.lean ====
section
/-! DEFINITION. When a command acts (R83, R203), and the effects that join several units: accesses, a line triggered,
an observer update, lines that leave Tango. -/

namespace Sys2Proof.Machine

/-- The block at the instant a command acts: `dt` ticks after the last one, a device reset that has come due meanwhile
done (R90, R203, R533), and what other members have answered to ring commits meanwhile in force (R36, R48). -/
def State.now (s : State) (dt : Nat) : Block := ((s.blk.advance dt).dueReset).membersSettle

/-- A command that acts in every state of the device. -/
def State.run (s : State) (dt : Nat) (f : Block → Block) : Host.Outcome State Fault Refusal :=
  .next { s with blk := f (s.now dt) }

/-- A command that acts once the control cores are released; before, and in a hold, the device does nothing else than
boot (R75, R82). -/
def State.live (s : State) (dt : Nat) (f : Block → Block) : Host.Outcome State Fault Refusal :=
  s.run dt fun (b : Block) => if b.cored then f b else b

/-- A command on a service of control core k (R83; log entry 24). -/
def State.liveOn (s : State) (k dt : Nat) (f : Block → Block) : Host.Outcome State Fault Refusal :=
  s.live dt fun (b : Block) => if nth b.boot.cores k false then f b else b

/-- A STAGE_COMMIT request with NO_COMMIT and CANCEL, bits 12 and 13 of its first word, as `v` has them (R523). -/
def stagingMsg (m : Msg) (v : Nat) : Msg :=
  { m with words := match m.words with
      | w :: r => (w % 2 ^ 12 + v * 2 ^ 12 + w / 2 ^ 14 * 2 ^ 14) :: r
      | [] => [] }

namespace Block

/-! ## Accesses -/

/-- A master that sends commands, and a unit of this device. -/
def accessible (m : Master) (u : UnitId) : Bool := m != .hw && m != .boot && u.exists? && u.ty != .mbxBar2

/-- What a host's write to its BARs does: in D3hot only the MSI-X structures take one (R486). -/
def hostBar (s : Block) (f : Block → Block) : Block := if s.on uHost F.HOST.LINK_D3 then s else f s

/-- A write by a master to a unit's register (R6-R8, R38, R486). -/
def writeAt (s : Block) (m : Master) (dev : Nat) (u : UnitId) (off w : Nat) : Block :=
  if m = .host ∧ s.on uHost F.HOST.LINK_D3 then s
  else if accessible m u then s.busWrite m dev (regAddress u off) (w % 2 ^ 32) else s

/-- A read of a unit's register and its data (R7): the side effects are those of a full read, and the bytes the read
addresses are returned. A host's read of more than one word, or in D3hot, is an Unsupported Request (R483, R486). -/
def readAt (s : Block) (r : Reader) (dev : Nat) (u : UnitId) (off : Nat) : Block :=
  if r.master = .host ∧ (s.on uHost F.HOST.LINK_D3 ∨ 1 < r.words) then s.emit .unsupported
  else if accessible r.master u then
    let (v, t) := s.busRead r.master dev (regAddress u off)
    t.emit (.readData r.master (bytesOf r.be v))
  else s

/-- The DMA engine goes on when a write has changed a channel. -/
def dmaFollow (old s : Block) : Block := if s.dma.chans = old.dma.chans then s else s.dmaPump

/-- REGISTER_WRITE (R6, R12, R38-R41, R105, R483): the host's through its BARs, firmware's and the ring's on the bus. -/
def registerWrite (s : Block) (m : Master) (dev : Nat) (bar2 : Bool) (addr be n w : Nat) : Block :=
  match m with
  | .host => s.dmaFollow (s.hostWrite bar2 addr be n w)
  | .hw | .boot => s
  | m => s.dmaFollow (s.busWrite m dev (addr % 0x1000000 / 4 * 4) (w % 2 ^ 32))

/-- Whether a unit has a CTL.CLEAR_CNT. -/
def hasCounters (u : UnitId) : Bool :=
  u.exists? && ((clearCnt u.ty).isSome || u.ty == .serdes || u.ty == .evt || u.ty == .errlog)

/-- CLEAR_CNT (R598). -/
def counterClear (s : Block) (u : UnitId) : Block := if hasCounters u then s.clearUnit u else s

/-- A host read of a word mailbox, and the bytes it addresses (R7, R483, R486, R507). -/
def f2hFetch (s : Block) (r : BoxRead) : Block :=
  if s.on uHost F.HOST.LINK_D3 ∨ 1 < r.words then s.emit .unsupported
  else
  let (v, t) := s.f2hRead r.box
  t.emit (.readData .host (bytesOf r.be v))

/-- CAL_RUN reaches firmware, which serves it from RUNNING on (R515, R601). -/
def calRun (s : Block) (proc : Nat) (m : Msg) : Block := if s.isRunning then s.calRequest proc m else s

/-! ## Lines -/

/-- The page in progress ends (R332): its job's counts, and the governor's report (R431). -/
def pageEnd (s : Block) : Block :=
  if (s.refs.binds.head?.map fun b => !b.ended).getD false then s.govPageEnd.bindEnd.pagesSettle else s

/-- The page in progress is over when its source is out of force and no line of it is still to come (R332). -/
def pageOver (s : Block) : Block :=
  if s.trig.decided.isEmpty ∧ (if s.web.src < 4 then s.web.grid.isNone else !s.web.ringPage) then s.pageEnd else s

/-- COMMIT_APPLY (R44): the line enters the unit; a source that goes out of force ends its page. -/
def commitReached (s : Block) (u : UnitId) (line page pageLine : Nat) (first : Bool) : Block :=
  (s.commitApply u line page pageLine first).pageOver

/-- What the first line of a page does after its trigger: binding (R340), the page's record (R375), axes (R446). A member
that has missed a page's first line (R568) finds the page before ended (R332). -/
def pageStart (s : Block) (d : Decided) : Block :=
  if d.first then ((s.pageBind d.page d.line).tangoPageNew d.page d.line).axesPage d
  else if (s.refs.binds.head?.map fun b => b.page != d.page).getD false then s.pageEnd else s

/-- TRIGGER_PULSE (R193): the decided line whose instant has come. -/
def triggerPulse (s : Block) : Block :=
  match s.dueLine with
  | none => s
  | some d =>
    let s := ((s.dramWake.lineTriggers d).trigLine d).pageStart d
    ((s.stitchPush d).archKeptOut d.line d.pageLine).pageOver.pagesSettle.commitsSettle

/-- A page start at the instant of a request comes before the request (R333). -/
def pageDue (s : Block) : Block :=
  match s.dueLine with
  | some d => if d.first && nth s.boot.cores 3 false then s.triggerPulse else s
  | none => s

/-- An observer update once it has its measurements: decisions, cuts, marks, the POSITION message; with SRC 4 the
registers report the ring's values instead (R269). -/
def observerGo (s : Block) : Block :=
  if 4 ≤ s.web.src then s
  else
    let t := s.webUpdate
    let ds := t.trig.decided.drop s.trig.decided.length
    let t : Block := if ds.any fun d => d.first then t.encCalPage else t
    let t := t.cutsSince s.trig.decided.length
    let t : Block := if s.obsState ≠ 4 ∧ t.obsState = 4 then t.axesWebFault else t
    (t.marksDecide.positionSend ds).pageOver

/-- OBSERVER_UPDATE (R255, R265, R446, R567). -/
def observerUpdate (s : Block) (e0 e1 : EncIn) : Block := (s.webMeasure e0 e1).observerGo

/-- What a command shows at the encoders' outputs, whatever the device does (R270), and then a service of control core
k on it. -/
def passed (s : Block) (os : List Output) (k : Nat) (f : Block → Block) : Block :=
  let t := s.emits os
  if t.cored && nth t.boot.cores k false then f t else t

/-- COAST_TIMEOUT (R260, R453). -/
def coastEnd (s : Block) : Block :=
  let t := s.coastTimeout
  if s.obsState ≠ 4 ∧ t.obsState = 4 then t.axesWebFault else t

/-- The lines that have left Tango since `s`, at the archive (R503). -/
def tangoOuts (s t : Block) : Block := (t.tango.outq.drop s.tango.outq.length).foldl archLine t

/-- DESCRIPTOR_COMPLETE (R495, R496), the engine going on before and after. -/
def descriptorComplete (s : Block) (n : Nat) : Block := (s.dmaPump.descComplete n).dmaPump

end Block
end Sys2Proof.Machine
end

