-- ==== Sys2Proof/Machine/RunAccess.lean ====
section
/-! DEFINITION. Commands on registers, commits, semaphores and on-chip memory (R6-R59). -/

namespace Sys2Proof.Machine

/-- REGISTER_WRITE (R12). -/
def execRegisterWrite (dt : Nat) (m : Master) (dev : Nat) (bar2 : Bool) (addr be n w : Nat)
    (s : State) : Host.Outcome State Fault Refusal :=
  s.live dt fun (b : Block) => b.registerWrite m dev bar2 addr be n w

/-- STAGED_WRITE (R41). -/
def execStagedWrite (dt : Nat) (m : Master) (u : UnitId) (reg w : Nat)
    (s : State) : Host.Outcome State Fault Refusal :=
  s.live dt fun (b : Block) => b.writeAt m 0 u (0x2000 + reg) w

/-- COMMIT (R42). -/
def execCommit (dt : Nat) (m : Master) (u : UnitId) (bnd : Boundary) (tag : Nat)
    (s : State) : Host.Outcome State Fault Refusal :=
  s.live dt fun (b : Block) => b.writeAt m 0 u 0x44 (bnd.rank + tag % 256 * 256)

/-- COMMIT_CANCEL (R47). -/
def execCommitCancel (dt : Nat) (m : Master) (u : UnitId) (s : State) : Host.Outcome State Fault Refusal :=
  s.live dt fun (b : Block) => b.writeAt m 0 u 0x44 4

/-- COMMIT_APPLY (R44). -/
def execCommitApply (dt : Nat) (u : UnitId) (line page pageLine : Nat) (first : Bool)
    (s : State) : Host.Outcome State Fault Refusal :=
  s.live dt fun (b : Block) => b.commitReached u line page pageLine first

/-- SEM_READ (R51). -/
def execSemRead (dt : Nat) (m : Reader) (dev n : Nat) (s : State) : Host.Outcome State Fault Refusal :=
  s.live dt fun (b : Block) => b.readAt m dev uLock (F.LOCK.SEM_RESULT.at n)

/-- SEM_RELEASE (R52). -/
def execSemRelease (dt : Nat) (m : Master) (dev n w : Nat) (s : State) : Host.Outcome State Fault Refusal :=
  s.live dt fun (b : Block) => b.writeAt m dev uLock (F.LOCK.SEM_RESULT.at n) w

/-- SRAM_SCRUB (R56). -/
def execSramScrub (dt : Nat) (u : UnitId) (a : Nat) (errs : Upset) (s : State) : Host.Outcome State Fault Refusal :=
  s.live dt fun (b : Block) => b.sramScrub u a errs

end Sys2Proof.Machine
end

