-- ==== Sys2Proof/Machine/RunAxis.lean ====
section
/-! DEFINITION. Commands of the marker axes (R436-R456). -/

namespace Sys2Proof.Machine

/-- SERVO_PERIOD (R437). -/
def execServoPeriod (dt : Nat) (a : Nat) (s : State) : Host.Outcome State Fault Refusal :=
  s.liveOn 3 dt fun (b : Block) => if a < 2 then b.servoPeriod a else b

/-- AXIS_STATUS (R439). -/
def execAxisStatus (dt : Nat) (a : Nat) (bytes : List Nat) (s : State) : Host.Outcome State Fault Refusal :=
  s.liveOn 3 dt fun (b : Block) => if a < 2 then b.axisStatus a bytes else b

/-- AXIS_RESP_TIMEOUT (R440). -/
def execAxisRespTimeout (dt : Nat) (a : Nat) (s : State) : Host.Outcome State Fault Refusal :=
  s.liveOn 3 dt fun (b : Block) => if a < 2 then b.axisRespTimeout a else b

/-- MARK_TAG (R443). -/
def execMarkTag (dt : Nat) (a : Nat) (s : State) : Host.Outcome State Fault Refusal :=
  s.liveOn 3 dt fun (b : Block) => if a < 2 then b.markTag a else b

/-- MARK_PULSE (R448). -/
def execMarkPulse (dt : Nat) (a : Nat) (s : State) : Host.Outcome State Fault Refusal :=
  s.liveOn 3 dt fun (b : Block) => if a < 2 then b.markPulse a else b

/-- MARK_PULSE_END (R448). -/
def execMarkPulseEnd (dt : Nat) (a : Nat) (s : State) : Host.Outcome State Fault Refusal :=
  s.live dt fun (b : Block) => if a < 2 then b.markPulseEnd a else b

/-- HOME (R452). -/
def execHome (dt : Nat) (a : Nat) (s : State) : Host.Outcome State Fault Refusal :=
  s.liveOn 3 dt fun (b : Block) => if a < 2 then b.axisHome a else b

/-- STOP (R453). -/
def execStop (dt : Nat) (a : Nat) (s : State) : Host.Outcome State Fault Refusal :=
  s.liveOn 3 dt fun (b : Block) => if a < 2 then b.axisStop a else b

/-- RESUME (R452). -/
def execResume (dt : Nat) (a : Nat) (s : State) : Host.Outcome State Fault Refusal :=
  s.liveOn 3 dt fun (b : Block) => if a < 2 then b.axisResume a else b

/-- CLEAR_FAULT (R452). -/
def execClearFault (dt : Nat) (a : Nat) (s : State) : Host.Outcome State Fault Refusal :=
  s.liveOn 3 dt fun (b : Block) => if a < 2 then b.axisClearFault a else b

/-- HOME_TIMEOUT (R452). -/
def execHomeTimeout (dt : Nat) (a : Nat) (s : State) : Host.Outcome State Fault Refusal :=
  s.liveOn 3 dt fun (b : Block) => if a < 2 then b.homeTimeout a else b

end Sys2Proof.Machine
end

