-- ==== Sys2Proof/Machine/RunBoot.lean ====
section
/-! DEFINITION. Commands of boot, resets and holds (R60-R93, R480). -/

namespace Sys2Proof.Machine

/-- POWER_ON (R75). -/
def execPowerOn (dt : Nat) (env : BootEnv) (s : State) : Host.Outcome State Fault Refusal :=
  s.run dt fun (b : Block) => b.powerOn env

/-- OSC_STABLE_TIMEOUT (R96). -/
def execOscStableTimeout (dt : Nat) (s : State) : Host.Outcome State Fault Refusal :=
  s.run dt fun (b : Block) => b.oscTimeout

/-- FLASH_TIMEOUT (R75). -/
def execFlashTimeout (dt : Nat) (s : State) : Host.Outcome State Fault Refusal :=
  s.run dt fun (b : Block) => b.flashTimeout

/-- ALIVE (R75). -/
def execAlive (dt : Nat) (flashOk : Bool) (s : State) : Host.Outcome State Fault Refusal :=
  s.live dt fun (b : Block) => b.bootAlive flashOk

/-- ALIVE_TIMEOUT (R75). -/
def execAliveTimeout (dt : Nat) (s : State) : Host.Outcome State Fault Refusal :=
  s.run dt fun (b : Block) => b.aliveTimeout

/-- SEAL (R80). -/
def execSeal (dt : Nat) (s : State) : Host.Outcome State Fault Refusal :=
  s.live dt fun (b : Block) => b.bootSeal false

/-- SEAL_DEADLINE (R80). -/
def execSealDeadline (dt : Nat) (s : State) : Host.Outcome State Fault Refusal :=
  s.live dt fun (b : Block) => b.sealDeadline

/-- DRAM_TRAINING_DONE (R478). -/
def execDramTrainingDone (dt : Nat) (ok : Bool) (eyes : List (Nat × Nat))
    (s : State) : Host.Outcome State Fault Refusal :=
  s.live dt fun (b : Block) => b.bootTraining ok eyes

/-- DRAM_WIPE_DONE (R478). -/
def execDramWipeDone (dt : Nat) (s : State) : Host.Outcome State Fault Refusal :=
  s.live dt fun (b : Block) => b.bootWipe

/-- RUNNING (R75). -/
def execRunning (dt : Nat) (s : State) : Host.Outcome State Fault Refusal :=
  s.live dt fun (b : Block) => b.running

/-- PERSTN_RISE (R75). -/
def execPerstnRise (dt : Nat) (s : State) : Host.Outcome State Fault Refusal :=
  s.run dt fun (b : Block) => b.perstnRise

/-- POR_FALL (R82). -/
def execPorFall (dt : Nat) (s : State) : Host.Outcome State Fault Refusal :=
  s.run dt fun (b : Block) => b.porFall

/-- SUPPLY_OUT_OF_RANGE (R124). -/
def execSupplyOutOfRange (dt : Nat) (s : State) : Host.Outcome State Fault Refusal :=
  s.run dt fun (b : Block) => b.supplyOut

/-- SUPPLY_RESTORED (R124). -/
def execSupplyRestored (dt : Nat) (env : BootEnv) (s : State) : Host.Outcome State Fault Refusal :=
  s.run dt fun (b : Block) => b.supplyBack env

/-- DEV_RESET (R84). -/
def execDevReset (dt : Nat) (env : BootEnv) (s : State) : Host.Outcome State Fault Refusal :=
  s.live dt fun (b : Block) => b.deviceReset 4 env

/-- CORE_WATCHDOG (R84). -/
def execCoreWatchdog (dt : Nat) (c : Nat) (env : BootEnv) (s : State) : Host.Outcome State Fault Refusal :=
  s.live dt fun (b : Block) => if nth b.boot.cores c false then b.deviceReset 2 env else b

/-- CORE_RESET (R84). -/
def execCoreReset (dt : Nat) (c : Nat) (s : State) : Host.Outcome State Fault Refusal :=
  s.live dt fun (b : Block) => b.coreReset c

/-- HOST_PORT_RESET (R485). -/
def execHostPortReset (dt : Nat) (kind : Nat) (s : State) : Host.Outcome State Fault Refusal :=
  s.live dt fun (b : Block) => b.hostPortReset kind

/-- SHUTDOWN_LATCH_CLEAR (R138). -/
def execShutdownLatchClear (dt : Nat) (s : State) : Host.Outcome State Fault Refusal :=
  s.run dt fun (b : Block) => b.latchClear

/-- PERSTN_FALL_BEFORE_RUNNING (R480). -/
def execPerstnFallBeforeRunning (dt : Nat) (s : State) : Host.Outcome State Fault Refusal :=
  s.run dt fun (b : Block) => b.perstnFallEarly

end Sys2Proof.Machine
end

