-- ==== Sys2Proof/Machine/RunCal.lean ====
section
/-! DEFINITION. Commands of calibration (R600-R620). -/

namespace Sys2Proof.Machine

/-- CAL_LANE (R604). -/
def execCalLane (dt : Nat) (m : Msg) (s : State) : Host.Outcome State Fault Refusal :=
  s.live dt fun (b : Block) => b.calRun 1 m

/-- CAL_DRAM (R604). -/
def execCalDram (dt : Nat) (m : Msg) (s : State) : Host.Outcome State Fault Refusal :=
  s.live dt fun (b : Block) => b.calRun 2 m

/-- CAL_SENSE_OFS (R604). -/
def execCalSenseOfs (dt : Nat) (m : Msg) (s : State) : Host.Outcome State Fault Refusal :=
  s.live dt fun (b : Block) => b.calRun 3 m

/-- CAL_SENSE_GAIN (R604). -/
def execCalSenseGain (dt : Nat) (m : Msg) (s : State) : Host.Outcome State Fault Refusal :=
  s.live dt fun (b : Block) => b.calRun 4 m

/-- CAL_ENCODER (R604). -/
def execCalEncoder (dt : Nat) (m : Msg) (s : State) : Host.Outcome State Fault Refusal :=
  s.live dt fun (b : Block) => b.calRun 5 m

/-- CAL_THERMAL (R604). -/
def execCalThermal (dt : Nat) (m : Msg) (s : State) : Host.Outcome State Fault Refusal :=
  s.live dt fun (b : Block) => b.calRun 6 m

/-- CAL_TEMPO (R604). -/
def execCalTempo (dt : Nat) (m : Msg) (s : State) : Host.Outcome State Fault Refusal :=
  s.live dt fun (b : Block) => b.calRun 7 m

/-- CAL_BLACK (R606). -/
def execCalBlack (dt : Nat) (m : Msg) (s : State) : Host.Outcome State Fault Refusal :=
  s.live dt fun (b : Block) => b.calRun 8 m

/-- CAL_FLAT (R607). -/
def execCalFlat (dt : Nat) (m : Msg) (s : State) : Host.Outcome State Fault Refusal :=
  s.live dt fun (b : Block) => b.calRun 9 m

/-- CAL_GEOM (R609). -/
def execCalGeom (dt : Nat) (m : Msg) (s : State) : Host.Outcome State Fault Refusal :=
  s.live dt fun (b : Block) => b.calRun 10 m

/-- CAL_SEAM (R604). -/
def execCalSeam (dt : Nat) (m : Msg) (s : State) : Host.Outcome State Fault Refusal :=
  s.live dt fun (b : Block) => b.calRun 11 m

/-- CAL_DONE (R603). -/
def execCalDone (dt : Nat) (e : CalEnd) (s : State) : Host.Outcome State Fault Refusal :=
  s.live dt fun (b : Block) => b.calDone e

/-- JOURNAL_COMPACT (R616). -/
def execJournalCompact (dt : Nat) (s : State) : Host.Outcome State Fault Refusal :=
  s.live dt fun (b : Block) => b.journalCompact

/-- CAL_Q_SELECT (R618). -/
def execCalQSelect (dt : Nat) (m : Master) (v : Nat) (s : State) : Host.Outcome State Fault Refusal :=
  s.live dt fun (b : Block) => b.writeAt m 0 uCal F.CAL.Q_SEL_PROC.off v

/-- CAL_TIMEOUT (R602). -/
def execCalTimeout (dt : Nat) (bad : Nat) (s : State) : Host.Outcome State Fault Refusal :=
  s.live dt fun (b : Block) => b.calTimeout bad

end Sys2Proof.Machine
end

