-- ==== Sys2Proof/Machine/RunCamera.lean ====
section
/-! DEFINITION. Commands of camera ports and trigger outputs (R166-R202). -/

namespace Sys2Proof.Machine

/-- CAM_FRAME (R169). -/
def execCamFrame (dt : Nat) (k : Nat) (frame : List Nat) (fcsOk overflow : Bool)
    (s : State) : Host.Outcome State Fault Refusal :=
  s.live dt fun (b : Block) =>
    if b.getI uSerdes F.SERDES.PORT_STAT_STATE k = 8 then b.camFrame k frame fcsOk overflow else b

/-- GVSP_LEADER (R179). -/
def execGvspLeader (dt : Nat) (k id ts : Nat) (ld : Leader) (s : State) : Host.Outcome State Fault Refusal :=
  s.live dt fun (b : Block) => if k < 12 then b.gvspLeader k id ts ld else b

/-- GVSP_PAYLOAD (R175). -/
def execGvspPayload (dt : Nat) (k id pid : Nat) (data : List Nat) (overflow : Bool)
    (s : State) : Host.Outcome State Fault Refusal :=
  s.live dt fun (b : Block) => if k < 12 then b.gvspPayload k id pid data overflow else b

/-- GVSP_TRAILER (R176). -/
def execGvspTrailer (dt : Nat) (k id pid sizeY : Nat) (s : State) : Host.Outcome State Fault Refusal :=
  s.live dt fun (b : Block) => if k < 12 then b.gvspTrailer k id pid sizeY else b

/-- ENTRY_TIMEOUT (R182). -/
def execEntryTimeout (dt : Nat) (k : Nat) (s : State) : Host.Outcome State Fault Refusal :=
  s.live dt fun (b : Block) => if k < 12 then b.entryTimeout k else b

/-- TRIGGER_PULSE (R193). -/
def execTriggerPulse (dt : Nat) (s : State) : Host.Outcome State Fault Refusal :=
  s.liveOn 3 dt fun (b : Block) => b.triggerPulse

/-- TRIGGER_PULSE_END (R194). -/
def execTriggerPulseEnd (dt : Nat) (k : Nat) (s : State) : Host.Outcome State Fault Refusal :=
  s.live dt fun (b : Block) => if k < 12 then b.pulseEnd k else b

end Sys2Proof.Machine
end

