-- ==== Sys2Proof/Machine/RunClock.lean ====
section
/-! DEFINITION. Commands of clocks, gates, tempo, P-states and temperature (R94-R139). -/

namespace Sys2Proof.Machine

/-- ITO_FAIL (R98). -/
def execItoFail (dt : Nat) (s : State) : Host.Outcome State Fault Refusal :=
  s.run dt fun (b : Block) => b.itoFail

/-- WATCH_FAIL (R98). -/
def execWatchFail (dt : Nat) (s : State) : Host.Outcome State Fault Refusal :=
  s.run dt fun (b : Block) => b.watchFail

/-- XTAL_FAIL (R99). -/
def execXtalFail (dt : Nat) (s : State) : Host.Outcome State Fault Refusal :=
  s.run dt fun (b : Block) => b.xtalFail

/-- PLL_FAIL (R97). -/
def execPllFail (dt : Nat) (ddr : Bool) (s : State) : Host.Outcome State Fault Refusal :=
  s.run dt fun (b : Block) => b.pllFail ddr

/-- REF_FAIL (R100). -/
def execRefFail (dt : Nat) (s : State) : Host.Outcome State Fault Refusal :=
  s.run dt fun (b : Block) => b.refFail

/-- REF_RECOVERED (R100). -/
def execRefRecovered (dt : Nat) (s : State) : Host.Outcome State Fault Refusal :=
  s.run dt fun (b : Block) => b.refRecovered

/-- GATE_CLOSE (R102). -/
def execGateClose (dt : Nat) (g : Nat) (busy : Bool) (s : State) : Host.Outcome State Fault Refusal :=
  s.live dt fun (b : Block) => b.gateClose g busy

/-- GATE_CLOSED (R102). -/
def execGateClosed (dt : Nat) (g : Nat) (s : State) : Host.Outcome State Fault Refusal :=
  s.live dt fun (b : Block) => b.gateClosed g

/-- GATE_TIMEOUT (R106). -/
def execGateTimeout (dt : Nat) (g : Nat) (s : State) : Host.Outcome State Fault Refusal :=
  s.live dt fun (b : Block) => b.gateTimeout g

/-- GATE_OPEN (R104). -/
def execGateOpen (dt : Nat) (g : Nat) (s : State) : Host.Outcome State Fault Refusal :=
  s.live dt fun (b : Block) => b.openGate g

/-- TMON_WINDOW (R110). -/
def execTmonWindow (dt : Nat) (raw loads : List Nat) (s : State) : Host.Outcome State Fault Refusal :=
  s.live dt fun (b : Block) => (b.tmonWindow raw).stripLoads loads

/-- GOVERNOR_DESCEND (R425). -/
def execGovernorDescend (dt : Nat) (s : State) : Host.Outcome State Fault Refusal :=
  s.live dt fun (b : Block) => b.governorDescend

/-- CLEAR_MIN (R125). -/
def execClearMin (dt : Nat) (s : State) : Host.Outcome State Fault Refusal :=
  s.live dt fun (b : Block) => b.clearMin

/-- PSTATE_TARGET (R115). -/
def execPstateTarget (dt : Nat) (req : Option Nat) (s : State) : Host.Outcome State Fault Refusal :=
  s.live dt fun (b : Block) => match req with
    | some p => b.pstateReq p
    | none => b.retarget

/-- PSTATE_CHANGE_DONE (R116). -/
def execPstateChangeDone (dt : Nat) (s : State) : Host.Outcome State Fault Refusal :=
  s.live dt fun (b : Block) => b.pstateDone

/-- TEMPO_SHORT (R117). -/
def execTempoShort (dt : Nat) (s : State) : Host.Outcome State Fault Refusal :=
  s.live dt fun (b : Block) => b.tempoShort

/-- AVS_FAIL (R118). -/
def execAvsFail (dt : Nat) (cmd step : Nat) (s : State) : Host.Outcome State Fault Refusal :=
  s.live dt fun (b : Block) => b.avsFail cmd step

/-- AVS_ALERT (R119). -/
def execAvsAlert (dt : Nat) (faults : Nat) (s : State) : Host.Outcome State Fault Refusal :=
  s.live dt fun (b : Block) => b.avsAlert faults

/-- AVS_POLL (R119). -/
def execAvsPoll (dt : Nat) (mv raw : Nat) (s : State) : Host.Outcome State Fault Refusal :=
  s.live dt fun (b : Block) => b.avsPoll mv raw

/-- THM_CONVERSION (R127). -/
def execThmConversion (dt : Nat) (results : List (Option Int)) (s : State) : Host.Outcome State Fault Refusal :=
  s.run dt fun (b : Block) => b.thmConversion results

/-- SENSOR_TIMEOUT (R128). -/
def execSensorTimeout (dt : Nat) (k : Nat) (s : State) : Host.Outcome State Fault Refusal :=
  s.run dt fun (b : Block) => b.sensorTimeout k

/-- GRACE_EXPIRED (R133). -/
def execGraceExpired (dt : Nat) (s : State) : Host.Outcome State Fault Refusal :=
  s.live dt fun (b : Block) => b.graceExpired

/-- RELAX_STEP (R134). -/
def execRelaxStep (dt : Nat) (s : State) : Host.Outcome State Fault Refusal :=
  s.live dt fun (b : Block) => b.relaxStep

/-- CLEAR_PEAK (R139). -/
def execClearPeak (dt : Nat) (strip : Option Nat) (s : State) : Host.Outcome State Fault Refusal :=
  s.live dt fun (b : Block) => match strip with
    | some k => if k < 8 then b.stripClear k else b
    | none => b.clearSensorPeaks

end Sys2Proof.Machine
end

