-- ==== Sys2Proof/Machine/RunDram.lean ====
section
/-! DEFINITION. Commands of the DRAM controller (R457-R479). -/

namespace Sys2Proof.Machine

/-- DRAM_REQUEST (R468). -/
def execDramRequest (dt : Nat) (q tier : Nat) (hint : Option Bool) (addr len : Nat) (data : Option (List Nat)) (flips slots : Nat)
    (s : State) : Host.Outcome State Fault Refusal :=
  s.live dt fun (b : Block) => b.dramRequest q tier hint addr len data flips slots

/-- REQUEST_URGENT (R468). -/
def execRequestUrgent (dt : Nat) (s : State) : Host.Outcome State Fault Refusal :=
  s.live dt fun (b : Block) => b.requestUrgent

/-- PAGE_IDLE_CLOSE (R470). -/
def execPageIdleClose (dt : Nat) (s : State) : Host.Outcome State Fault Refusal :=
  s.live dt fun (b : Block) => b.pageIdleClose

/-- SCRUB_READ (R462). -/
def execScrubRead (dt : Nat) (g flips : Nat) (s : State) : Host.Outcome State Fault Refusal :=
  s.live dt fun (b : Block) => b.scrubRead g flips

/-- REFRESH (R472). -/
def execRefresh (dt : Nat) (c bank : Nat) (s : State) : Host.Outcome State Fault Refusal :=
  s.live dt fun (b : Block) => b.dramRefresh c bank

/-- MR4_POLL (R472). -/
def execMr4Poll (dt : Nat) (codes : List Nat) (hot : Bool) (s : State) : Host.Outcome State Fault Refusal :=
  s.live dt fun (b : Block) => b.mr4Poll codes hot

/-- SELF_REFRESH_ENTER (R473). -/
def execSelfRefreshEnter (dt : Nat) (s : State) : Host.Outcome State Fault Refusal :=
  s.live dt fun (b : Block) => b.selfRefresh

/-- RETRAIN_CHECK (R474). -/
def execRetrainCheck (dt : Nat) (drifts : List Int) (s : State) : Host.Outcome State Fault Refusal :=
  s.live dt fun (b : Block) => b.retrainCheck drifts

/-- RETRAIN_DONE (R474). -/
def execRetrainDone (dt : Nat) (c : Nat) (eye : Bool) (s : State) : Host.Outcome State Fault Refusal :=
  s.live dt fun (b : Block) => b.retrainDone c eye

end Sys2Proof.Machine
end

