-- ==== Sys2Proof/Machine/RunEvent.lean ====
section
/-! DEFINITION. Commands of events and the error log (R574-R599). -/

namespace Sys2Proof.Machine

/-- EVENT_ARRIVAL (R580). -/
def execEventArrival (dt : Nat) (p src : Nat) (s : State) : Host.Outcome State Fault Refusal :=
  s.live dt fun (b : Block) => if Block.producer p then b.raiseFrom p src else b

/-- EVENT_DELIVERY (R580). -/
def execEventDelivery (dt : Nat) (c : Nat) (s : State) : Host.Outcome State Fault Refusal :=
  s.live dt fun (b : Block) => b.eventDelivery c

/-- EXPORT_DROP (R579). -/
def execExportDrop (dt : Nat) (c : Nat) (s : State) : Host.Outcome State Fault Refusal :=
  s.live dt fun (b : Block) => b.exportDrop c

/-- SW_HOST (R575). -/
def execSwHost (dt : Nat) (w : Nat) (s : State) : Host.Outcome State Fault Refusal :=
  s.live dt fun (b : Block) => b.hostBar fun (b : Block) => b.swRaise 212 w

/-- SW_FW (R575). -/
def execSwFw (dt : Nat) (w : Nat) (s : State) : Host.Outcome State Fault Refusal :=
  s.live dt fun (b : Block) => b.swRaise 228 w

/-- CLR_COAL (R588). -/
def execClrCoal (dt : Nat) (c : Nat) (s : State) : Host.Outcome State Fault Refusal :=
  s.live dt fun (b : Block) => if c < 128 then b.clrCoal c else b

/-- GPIO_EDGE (R587). -/
def execGpioEdge (dt : Nat) (k : Nat) (high : Bool) (s : State) : Host.Outcome State Fault Refusal :=
  s.live dt fun (b : Block) => b.gpioEdge k high

/-- GPIO_PULSE_END (R587). -/
def execGpioPulseEnd (dt : Nat) (k : Nat) (s : State) : Host.Outcome State Fault Refusal :=
  s.live dt fun (b : Block) => b.gpioPulseEnd k

/-- ERRLOG_WRITE (R589). -/
def execErrlogWrite (dt : Nat) (s : State) : Host.Outcome State Fault Refusal :=
  s.live dt fun (b : Block) => b.errlogWrite

/-- ERRLOG_SELECT (R593). -/
def execErrlogSelect (dt : Nat) (m : Master) (v : Nat) (s : State) : Host.Outcome State Fault Refusal :=
  s.live dt fun (b : Block) => b.writeAt m 0 uErrlog F.ERRLOG.SEL_SEQ.off v

end Sys2Proof.Machine
end

