-- ==== Sys2Proof/Machine/RunHost.lean ====
section
/-! DEFINITION. Commands of the host port and DMA (R480-R505). -/

namespace Sys2Proof.Machine

/-- CONFIG_REQUEST (R78). -/
def execConfigRequest (dt : Nat) (w : Option (Bool × Bool × Nat)) (s : State) : Host.Outcome State Fault Refusal :=
  s.run dt fun (b : Block) => b.configRequest w

/-- LINK_UP (R481). -/
def execLinkUp (dt : Nat) (speed width : Nat) (s : State) : Host.Outcome State Fault Refusal :=
  s.live dt fun (b : Block) => b.hostLinkUp speed width

/-- D3HOT_ENTER (R486). -/
def execD3hotEnter (dt : Nat) (s : State) : Host.Outcome State Fault Refusal :=
  s.live dt fun (b : Block) => b.d3Enter

/-- D0_RETURN (R486). -/
def execD0Return (dt : Nat) (s : State) : Host.Outcome State Fault Refusal :=
  s.live dt fun (b : Block) => b.d0Return

/-- MSIX_UNMASK (R484). -/
def execMsixUnmask (dt : Nat) (v : Nat) (s : State) : Host.Outcome State Fault Refusal :=
  s.live dt fun (b : Block) => if v < 64 then b.msixUnmask v else b

/-- DMA_GO (R491). -/
def execDmaGo (dt : Nat) (n : Nat) (s : State) : Host.Outcome State Fault Refusal :=
  s.live dt fun (b : Block) => b.hostBar fun (b : Block) => b.dmaGo n

/-- DMA_STOP (R496). -/
def execDmaStop (dt : Nat) (n : Nat) (s : State) : Host.Outcome State Fault Refusal :=
  s.live dt fun (b : Block) => if n < 56 then b.hostBar fun (b : Block) => b.dmaStop n else b

/-- DMA_REARM (R497). -/
def execDmaRearm (dt : Nat) (n : Nat) (s : State) : Host.Outcome State Fault Refusal :=
  s.live dt fun (b : Block) => if n < 56 then b.hostBar fun (b : Block) => b.dmaRearm n else b

/-- DMA_RESPONSE (R494). -/
def execDmaResponse (dt : Nat) (id : Nat) (err : Bool) (data : List Nat)
    (s : State) : Host.Outcome State Fault Refusal :=
  s.live dt fun (b : Block) => b.dmaResponse id err data

/-- DESCRIPTOR_COMPLETE (R495). -/
def execDescriptorComplete (dt : Nat) (n : Nat) (s : State) : Host.Outcome State Fault Refusal :=
  s.live dt fun (b : Block) => if n < 64 then b.descriptorComplete n else b

/-- DMA_NOACK (R498). -/
def execDmaNoack (dt : Nat) (id : Nat) (s : State) : Host.Outcome State Fault Refusal :=
  s.live dt fun (b : Block) => b.noackPump id

/-- DMA_TAG_RETURN (R498). -/
def execDmaTagReturn (dt : Nat) (id : Nat) (s : State) : Host.Outcome State Fault Refusal :=
  s.live dt fun (b : Block) => b.dmaTagReturn id

/-- PRIV_DMA_GO (R499). -/
def execPrivDmaGo (dt : Nat) (m : Master) (i : Nat) (s : State) : Host.Outcome State Fault Refusal :=
  s.live dt fun (b : Block) => (b.privGo m i).dmaPump

/-- STREAM_FLUSH (R502). -/
def execStreamFlush (dt : Nat) (n : Nat) (s : State) : Host.Outcome State Fault Refusal :=
  s.live dt fun (b : Block) => if n < 64 then b.streamFlush n else b

/-- STREAM_WAITING (R502). -/
def execStreamWaiting (dt : Nat) (i : Nat) (s : State) : Host.Outcome State Fault Refusal :=
  s.live dt fun (b : Block) => if i < 4 then b.streamWaiting i else b

end Sys2Proof.Machine
end

