-- ==== Sys2Proof/Machine/RunMail.lean ====
section
/-! DEFINITION. Commands of mailboxes and the catalogue (R506-R536). -/

namespace Sys2Proof.Machine

/-- H2F_WRITE (R508). -/
def execH2fWrite (dt : Nat) (i w : Nat) (s : State) : Host.Outcome State Fault Refusal :=
  s.live dt fun (b : Block) => b.hostBar fun (b : Block) => b.h2fWrite i (w % 2 ^ 32)

/-- F2H_READ (R507). -/
def execF2hRead (dt : Nat) (i : BoxRead) (s : State) : Host.Outcome State Fault Refusal :=
  s.live dt fun (b : Block) => b.f2hFetch i

/-- BLOCK_GO (R509). -/
def execBlockGo (dt : Nat) (k w : Nat) (s : State) : Host.Outcome State Fault Refusal :=
  s.live dt fun (b : Block) => b.hostBar fun (b : Block) => b.blockCtl k w

/-- BLOCK_RELEASE (R509). -/
def execBlockRelease (dt : Nat) (k : Nat) (s : State) : Host.Outcome State Fault Refusal :=
  s.live dt fun (b : Block) => b.hostBar fun (b : Block) => b.blockRelease k

/-- DOORBELL_RING (R510). -/
def execDoorbellRing (dt : Nat) (w : Nat) (s : State) : Host.Outcome State Fault Refusal :=
  s.live dt fun (b : Block) => b.hostBar fun (b : Block) => b.doorbellRing w

/-- FW_DOORBELL (R512). -/
def execFwDoorbell (dt : Nat) (d : Nat) (s : State) : Host.Outcome State Fault Refusal :=
  s.live dt fun (b : Block) => b.fwDoorbell d

/-- TUNNEL_BLOCK_FILL (R529). -/
def execTunnelBlockFill (dt : Nat) (s : State) : Host.Outcome State Fault Refusal :=
  s.live dt fun (b : Block) => b.tunnelFill

/-- TUNNEL_BLOCK_SEND (R530). -/
def execTunnelBlockSend (dt : Nat) (s : State) : Host.Outcome State Fault Refusal :=
  s.live dt fun (b : Block) => b.tunnelSendBlock

/-- REQUEST_DEFERRED_REPLY (R516). -/
def execRequestDeferredReply (dt : Nat) (typ tag : Nat) (s : State) : Host.Outcome State Fault Refusal :=
  s.live dt fun (b : Block) => b.deferredReply typ tag

/-- GET_STATUS (R534). -/
def execGetStatus (dt : Nat) (m : Msg) (s : State) : Host.Outcome State Fault Refusal :=
  s.live dt fun (b : Block) => b.request 0x01 m fun (b : Block) => b.getStatus m

/-- GET_NONCE (R532). -/
def execGetNonce (dt : Nat) (m : Msg) (s : State) : Host.Outcome State Fault Refusal :=
  s.live dt fun (b : Block) => b.request 0x02 m fun (b : Block) => b.getNonce m

/-- RESET (R533). -/
def execReset (dt : Nat) (m : Msg) (env : BootEnv) (s : State) : Host.Outcome State Fault Refusal :=
  s.live dt fun (b : Block) => b.request 0x03 m fun (b : Block) => b.resetReq m env

/-- STAGE_COMMIT (R523). -/
def execStageCommit (dt : Nat) (m : Msg) (s : State) : Host.Outcome State Fault Refusal :=
  s.live dt fun (b : Block) => b.request 0x10 (stagingMsg m 0) fun (b : Block) => b.stageCommit (stagingMsg m 0) none

/-- STAGE_ONLY (R523). -/
def execStageOnly (dt : Nat) (m : Msg) (s : State) : Host.Outcome State Fault Refusal :=
  s.live dt fun (b : Block) => b.request 0x10 (stagingMsg m 1) fun (b : Block) => b.stageCommit (stagingMsg m 1) none

/-- STAGE_COMMIT_CANCEL (R523). -/
def execStageCommitCancel (dt : Nat) (m : Msg) (s : State) : Host.Outcome State Fault Refusal :=
  s.live dt fun (b : Block) => b.request 0x10 (stagingMsg m 2) fun (b : Block) => b.stageCommit (stagingMsg m 2) none

/-- CONTROL (R526). -/
def execControl (dt : Nat) (m : Msg) (s : State) : Host.Outcome State Fault Refusal :=
  s.live dt fun (b : Block) => b.request 0x11 m fun (b : Block) => b.control m

/-- EXPOSE (R525). -/
def execExpose (dt : Nat) (m : Msg) (s : State) : Host.Outcome State Fault Refusal :=
  s.live dt fun (b : Block) => b.request 0x12 m fun (b : Block) => b.expose m none

/-- TIME_STEP (R522). -/
def execTimeStep (dt : Nat) (m : Msg) (s : State) : Host.Outcome State Fault Refusal :=
  s.live dt fun (b : Block) => b.request 0x13 m fun (b : Block) => b.timeStepReq m

/-- PAGE_JOB (R339). -/
def execPageJob (dt : Nat) (m : Msg) (s : State) : Host.Outcome State Fault Refusal :=
  s.live dt fun (b : Block) => b.pageDue.request 0x20 m fun (b : Block) => b.pageJobReq m

/-- REF_LOAD (R335). -/
def execRefLoad (dt : Nat) (m : Msg) (s : State) : Host.Outcome State Fault Refusal :=
  s.live dt fun (b : Block) => b.pageDue.request 0x21 m fun (b : Block) => b.refLoadReq m

/-- REF_ABORT (R522). -/
def execRefAbort (dt : Nat) (m : Msg) (s : State) : Host.Outcome State Fault Refusal :=
  s.live dt fun (b : Block) => b.pageDue.request 0x22 m fun (b : Block) => b.refAbortReq m

/-- REF_RELEASE (R332). -/
def execRefRelease (dt : Nat) (m : Msg) (s : State) : Host.Outcome State Fault Refusal :=
  s.live dt fun (b : Block) => b.pageDue.request 0x23 m fun (b : Block) => b.refReleaseReq m

/-- MAP_LOAD (R382). -/
def execMapLoad (dt : Nat) (m : Msg) (s : State) : Host.Outcome State Fault Refusal :=
  s.live dt fun (b : Block) => b.pageDue.request 0x24 m fun (b : Block) => b.mapLoadReq m

/-- MAP_ABORT (R383). -/
def execMapAbort (dt : Nat) (m : Msg) (s : State) : Host.Outcome State Fault Refusal :=
  s.live dt fun (b : Block) => b.pageDue.request 0x25 m fun (b : Block) => b.mapAbortReq m

/-- MAP_RELEASE (R383). -/
def execMapRelease (dt : Nat) (m : Msg) (s : State) : Host.Outcome State Fault Refusal :=
  s.live dt fun (b : Block) => b.pageDue.request 0x26 m fun (b : Block) => b.mapReleaseReq m

/-- MAP_LOAD_COMPLETE (R383). -/
def execMapLoadComplete (dt : Nat) (s : State) : Host.Outcome State Fault Refusal :=
  s.live dt fun (b : Block) => b.mapDone

/-- TABLE_WRITE (R528). -/
def execTableWrite (dt : Nat) (m : Msg) (data : List Nat) (ok : Bool)
    (s : State) : Host.Outcome State Fault Refusal :=
  s.live dt fun (b : Block) => b.request 0x30 m fun (b : Block) => b.tableWrite m data ok

/-- TABLE_READ (R528). -/
def execTableRead (dt : Nat) (m : Msg) (ok : Bool) (s : State) : Host.Outcome State Fault Refusal :=
  s.live dt fun (b : Block) => b.request 0x31 m fun (b : Block) => b.tableRead m ok

/-- REF_READBACK (R528). -/
def execRefReadback (dt : Nat) (m : Msg) (ok : Bool) (s : State) : Host.Outcome State Fault Refusal :=
  s.live dt fun (b : Block) => b.request 0x32 m fun (b : Block) => b.refReadback m ok

/-- IMAGE_UPDATE (R531). -/
def execImageUpdate (dt : Nat) (m : Msg) (data : List Nat) (ok flashOk : Bool)
    (s : State) : Host.Outcome State Fault Refusal :=
  s.live dt fun (b : Block) => b.request 0x40 m fun (b : Block) => b.imageUpdate m data ok flashOk

/-- SECURE (R88). -/
def execSecure (dt : Nat) (m : Msg) (vfuse : Bool) (env : BootEnv) (s : State) : Host.Outcome State Fault Refusal :=
  s.live dt fun (b : Block) => b.request 0x50 m fun (b : Block) => b.lifeReq 0x50 m vfuse env

/-- SCRAP (R88). -/
def execScrap (dt : Nat) (m : Msg) (vfuse : Bool) (env : BootEnv) (s : State) : Host.Outcome State Fault Refusal :=
  s.live dt fun (b : Block) => b.request 0x51 m fun (b : Block) => b.lifeReq 0x51 m vfuse env

/-- RMA (R88). -/
def execRma (dt : Nat) (m : Msg) (vfuse : Bool) (env : BootEnv) (s : State) : Host.Outcome State Fault Refusal :=
  s.live dt fun (b : Block) => b.request 0x52 m fun (b : Block) => b.lifeReq 0x52 m vfuse env

/-- KEY_ADD (R89). -/
def execKeyAdd (dt : Nat) (m : Msg) (vfuse : Bool) (env : BootEnv) (s : State) : Host.Outcome State Fault Refusal :=
  s.live dt fun (b : Block) => b.request 0x53 m fun (b : Block) => b.lifeReq 0x53 m vfuse env

/-- KEY_REVOKE (R89). -/
def execKeyRevoke (dt : Nat) (m : Msg) (vfuse : Bool) (env : BootEnv)
    (s : State) : Host.Outcome State Fault Refusal :=
  s.live dt fun (b : Block) => b.request 0x54 m fun (b : Block) => b.lifeReq 0x54 m vfuse env

/-- ROLLBACK (R89). -/
def execRollback (dt : Nat) (m : Msg) (vfuse : Bool) (env : BootEnv) (s : State) : Host.Outcome State Fault Refusal :=
  s.live dt fun (b : Block) => b.request 0x55 m fun (b : Block) => b.lifeReq 0x55 m vfuse env

/-- DEBUG_DISABLE (R92). -/
def execDebugDisable (dt : Nat) (m : Msg) (vfuse : Bool) (env : BootEnv)
    (s : State) : Host.Outcome State Fault Refusal :=
  s.live dt fun (b : Block) => b.request 0x56 m fun (b : Block) => b.lifeReq 0x56 m vfuse env

/-- TUNNEL_FRAME_SENT (R530). -/
def execTunnelFrameSent (dt : Nat) (k : Nat) (s : State) : Host.Outcome State Fault Refusal :=
  s.live dt fun (b : Block) => if k < 12 then b.tunnelFrameSent k else b

end Sys2Proof.Machine
end

