-- ==== Sys2Proof/Machine/RunPipe.lean ====
section
/-! DEFINITION. Commands of the inspection pipeline (R272-R435). -/

namespace Sys2Proof.Machine

/-- STRIP_LINE (R277). -/
def execStripLine (dt : Nat) (strip : Nat) (s : State) : Host.Outcome State Fault Refusal :=
  s.liveOn 1 dt fun (b : Block) => (b.stripLine strip).commitsSettle

/-- TBL_DATA_WRITE (R286). -/
def execTblDataWrite (dt : Nat) (m : Master) (x w : Nat) (s : State) : Host.Outcome State Fault Refusal :=
  s.live dt fun (b : Block) => b.writeAt m 0 (uCtx x) F.CTX.TBL_DATA_WORD.off w

/-- TBL_DATA_READ (R286). -/
def execTblDataRead (dt : Nat) (m : Reader) (x : Nat) (s : State) : Host.Outcome State Fault Refusal :=
  s.live dt fun (b : Block) => b.readAt m 0 (uCtx x) F.CTX.TBL_DATA_WORD.off

/-- GEO_DATA_WRITE (R302). -/
def execGeoDataWrite (dt : Nat) (m : Master) (x w : Nat) (s : State) : Host.Outcome State Fault Refusal :=
  s.live dt fun (b : Block) => b.writeAt m 0 (uCtx x) F.CTX.GEO_DATA_WORD.off w

/-- GEO_DATA_READ (R302). -/
def execGeoDataRead (dt : Nat) (m : Reader) (x : Nat) (s : State) : Host.Outcome State Fault Refusal :=
  s.live dt fun (b : Block) => b.readAt m 0 (uCtx x) F.CTX.GEO_DATA_WORD.off

/-- STITCH_DELIVER (R313). -/
def execStitchDeliver (dt : Nat) (x : Nat) (s : State) : Host.Outcome State Fault Refusal :=
  s.live dt fun (b : Block) => (b.stitchDeliver x).commitsSettle

/-- STITCH_LINE_OUT (R313). -/
def execStitchLineOut (dt : Nat) (s : State) : Host.Outcome State Fault Refusal :=
  s.live dt fun (b : Block) => b.stitchLineOut.commitsSettle.latResolve

/-- OVERLAP (R565). -/
def execOverlap (dt : Nat) (l src dest : Nat) (body : List Nat) (s : State) : Host.Outcome State Fault Refusal :=
  s.live dt fun (b : Block) => b.typedIn l 0x11 src dest body

/-- OVERLAP_TIMEOUT (R318). -/
def execOverlapTimeout (dt : Nat) (s : State) : Host.Outcome State Fault Refusal :=
  s.live dt fun (b : Block) => b.overlapTimeout

/-- INGEST_DATA (R336). -/
def execIngestData (dt : Nat) (port : Nat) (bytes : List Nat) (s : State) : Host.Outcome State Fault Refusal :=
  s.live dt fun (b : Block) => b.ingest port bytes

/-- ENCODE_BLOCK (R337). -/
def execEncodeBlock (dt : Nat) (s : State) : Host.Outcome State Fault Refusal :=
  s.live dt fun (b : Block) => b.encodeNext

/-- LOAD_COMPLETE (R338). -/
def execLoadComplete (dt : Nat) (i : Nat) (s : State) : Host.Outcome State Fault Refusal :=
  s.live dt fun (b : Block) => if i < 4 then b.loadComplete i else b

/-- BAND_FILL (R348). -/
def execBandFill (dt : Nat) (s : State) : Host.Outcome State Fault Refusal :=
  s.live dt fun (b : Block) => b.bandFill

/-- LOOKAHEAD_ENTER (R359). -/
def execLookaheadEnter (dt : Nat) (s : State) : Host.Outcome State Fault Refusal :=
  s.liveOn 1 dt fun (b : Block) => (b.tangoOuts b.lookaheadEnter).commitsSettle

/-- TANGO_FLUSH (R359). -/
def execTangoFlush (dt : Nat) (s : State) : Host.Outcome State Fault Refusal :=
  s.liveOn 1 dt fun (b : Block) => (b.tangoOuts b.tangoFlush).latResolve

/-- ROW_ESTIMATED (R378). -/
def execRowEstimated (dt : Nat) (s : State) : Host.Outcome State Fault Refusal :=
  s.liveOn 1 dt fun (b : Block) => b.tangoOuts b.rowEstimated

/-- TANGO_LINE_OUT (R360). -/
def execTangoLineOut (dt : Nat) (s : State) : Host.Outcome State Fault Refusal :=
  s.liveOn 1 dt fun (b : Block) => (b.tangoOuts b.tangoLineOut).commitsSettle

/-- SEG_LINE (R387). -/
def execSegLine (dt : Nat) (s : State) : Host.Outcome State Fault Refusal :=
  s.live dt fun (b : Block) => b.segLine.commitsSettle

/-- SEG_FLUSH (R390). -/
def execSegFlush (dt : Nat) (s : State) : Host.Outcome State Fault Refusal :=
  s.live dt fun (b : Block) => b.segFlush.latResolve

/-- TAG_CLASSIFY (R394). -/
def execTagClassify (dt : Nat) (s : State) : Host.Outcome State Fault Refusal :=
  s.live dt fun (b : Block) => b.tagClassify

/-- TAG_SEQUENCE (R400). -/
def execTagSequence (dt : Nat) (s : State) : Host.Outcome State Fault Refusal :=
  s.live dt fun (b : Block) => b.tagSequence

/-- ALERT_PULSE_END (R406). -/
def execAlertPulseEnd (dt : Nat) (s : State) : Host.Outcome State Fault Refusal :=
  s.live dt fun (b : Block) => b.alertPulseEnd

/-- LPORT_DATAGRAM (R404). -/
def execLportDatagram (dt : Nat) (s : State) : Host.Outcome State Fault Refusal :=
  s.live dt fun (b : Block) => b.lportDatagram

end Sys2Proof.Machine
end

