-- ==== Sys2Proof/Machine/RunRing.lean ====
section
/-! DEFINITION. Commands of the Sidias ring (R537-R573). -/

namespace Sys2Proof.Machine

/-- FLIT_RECEIVE (R542). -/
def execFlitReceive (dt : Nat) (l : Nat) (raw : List Nat) (s : State) : Host.Outcome State Fault Refusal :=
  s.live dt fun (b : Block) => b.flitReceive l raw

/-- LINK_FAIL (R543). -/
def execLinkFail (dt : Nat) (l : Nat) (s : State) : Host.Outcome State Fault Refusal :=
  s.live dt fun (b : Block) => b.linkFail l

/-- REEL_START (R547). -/
def execReelStart (dt : Nat) (s : State) : Host.Outcome State Fault Refusal :=
  s.liveOn 2 dt fun (b : Block) => b.reelStart

/-- REEL (R549). -/
def execReel (dt : Nat) (l src dest : Nat) (body : List Nat) (s : State) : Host.Outcome State Fault Refusal :=
  s.live dt fun (b : Block) => b.typedIn l 0x01 src dest body

/-- UPL_CREDIT (R549). -/
def execUplCredit (dt : Nat) (received : Option (List Nat)) (s : State) : Host.Outcome State Fault Refusal :=
  s.liveOn 2 dt fun (b : Block) => match received with
    | some body => b.typedIn 2 0x07 0 0 body
    | none => b.uplCreditSend

/-- IDENT (R572). -/
def execIdent (dt : Nat) (l src dest : Nat) (body : List Nat) (s : State) : Host.Outcome State Fault Refusal :=
  s.live dt fun (b : Block) => b.typedIn l 0x08 src dest body

/-- IDENT_RESEND (R572). -/
def execIdentResend (dt : Nat) (l : Nat) (s : State) : Host.Outcome State Fault Refusal :=
  s.liveOn 2 dt fun (b : Block) => b.identResend l

/-- ENUM (R553). -/
def execEnum (dt : Nat) (l src dest : Nat) (body : List Nat) (s : State) : Host.Outcome State Fault Refusal :=
  s.live dt fun (b : Block) => b.typedIn l 0x02 src dest body

/-- ENUM_CUTOFF (R553). -/
def execEnumCutoff (dt : Nat) (s : State) : Host.Outcome State Fault Refusal :=
  s.liveOn 2 dt fun (b : Block) => b.enumCutoff

/-- RESULT (R559). -/
def execResult (dt : Nat) (l src dest : Nat) (body : List Nat) (s : State) : Host.Outcome State Fault Refusal :=
  s.live dt fun (b : Block) => b.typedIn l 0x03 src dest body

/-- INSERT_RETRY (R551). -/
def execInsertRetry (dt : Nat) (s : State) : Host.Outcome State Fault Refusal :=
  s.liveOn 2 dt fun (b : Block) => b.insertRetry

/-- RING_TIME_EXCHANGE (R569). -/
def execRingTimeExchange (dt : Nat) (l : Nat) (s : State) : Host.Outcome State Fault Refusal :=
  s.liveOn 2 dt fun (b : Block) => b.timeExchange l

/-- RING_TIME (R569). -/
def execRingTime (dt : Nat) (l src dest : Nat) (body : List Nat) (s : State) : Host.Outcome State Fault Refusal :=
  s.live dt fun (b : Block) => b.typedIn l 0x04 src dest body

/-- POSITION (R567). -/
def execPosition (dt : Nat) (l src dest : Nat) (body : List Nat) (s : State) : Host.Outcome State Fault Refusal :=
  s.live dt fun (b : Block) => b.typedIn l 0x05 src dest body

/-- POSITION_TIMEOUT (R568). -/
def execPositionTimeout (dt : Nat) (s : State) : Host.Outcome State Fault Refusal :=
  s.live dt fun (b : Block) => b.positionTimeout

/-- SEQ_BEACON_SEND (R564). -/
def execSeqBeaconSend (dt : Nat) (s : State) : Host.Outcome State Fault Refusal :=
  s.liveOn 2 dt fun (b : Block) => b.beaconSend

/-- SEQ_BEACON (R564). -/
def execSeqBeacon (dt : Nat) (l src dest : Nat) (body : List Nat) (s : State) : Host.Outcome State Fault Refusal :=
  s.live dt fun (b : Block) => b.typedIn l 0x06 src dest body

/-- RING_MAILBOX (R571). -/
def execRingMailbox (dt : Nat) (l src dest : Nat) (body : List Nat) (s : State) : Host.Outcome State Fault Refusal :=
  s.live dt fun (b : Block) => b.typedIn l 0x20 src dest body

/-- SYSACC_REQ (R571). -/
def execSysaccReq (dt : Nat) (l src dest : Nat) (body : List Nat) (s : State) : Host.Outcome State Fault Refusal :=
  s.live dt fun (b : Block) => b.typedIn l 0x22 src dest body

/-- SYSACC_RSP (R571). -/
def execSysaccRsp (dt : Nat) (l src dest : Nat) (body : List Nat) (s : State) : Host.Outcome State Fault Refusal :=
  s.live dt fun (b : Block) => b.typedIn l 0x23 src dest body

/-- BULK (R572). -/
def execBulk (dt : Nat) (l : Nat) (c : Bool) (src dest : Nat) (body : List Nat)
    (s : State) : Host.Outcome State Fault Refusal :=
  s.live dt fun (b : Block) => b.typedIn l (if c then 0x31 else 0x30) src dest body

/-- COMMIT_GROUP (R570). -/
def execCommitGroup (dt : Nat) (l src dest : Nat) (body : List Nat) (s : State) : Host.Outcome State Fault Refusal :=
  s.live dt fun (b : Block) => b.typedIn l 0x24 src dest body

/-- COMMIT_APPLIED (R570). -/
def execCommitApplied (dt : Nat) (l src dest : Nat) (body : List Nat)
    (s : State) : Host.Outcome State Fault Refusal :=
  s.live dt fun (b : Block) => b.typedIn l 0x25 src dest body

/-- RING_EVENT (R579). -/
def execRingEvent (dt : Nat) (l src dest : Nat) (body : List Nat) (s : State) : Host.Outcome State Fault Refusal :=
  s.live dt fun (b : Block) => b.typedIn l 0x21 src dest body

end Sys2Proof.Machine
end

