-- ==== Sys2Proof/Machine/RunSerdes.lean ====
section
/-! DEFINITION. Commands of serial ports, bypass and counters (R140-R165). -/

namespace Sys2Proof.Machine

/-- PORT_ENABLE (R145). -/
def execPortEnable (dt : Nat) (p : Nat) (s : State) : Host.Outcome State Fault Refusal :=
  s.live dt fun (b : Block) => if p < 16 then b.portEnable p else b

/-- SIGNAL_QUALIFIED (R147). -/
def execSignalQualified (dt : Nat) (p : Nat) (s : State) : Host.Outcome State Fault Refusal :=
  s.live dt fun (b : Block) => b.signalQualified p

/-- CDR_LOCKED (R146). -/
def execCdrLocked (dt : Nat) (p : Nat) (s : State) : Host.Outcome State Fault Refusal :=
  s.live dt fun (b : Block) => b.cdrLocked p

/-- TRAINING_FRAME (R152). -/
def execTrainingFrame (dt : Nat) (p l : Nat) (frame : List Nat) (s : State) : Host.Outcome State Fault Refusal :=
  s.live dt fun (b : Block) => b.trainingFrame p l frame

/-- TRAINING_COMPLETE (R146). -/
def execTrainingComplete (dt : Nat) (p : Nat) (eq : List (Nat × Nat × Nat × Nat))
    (s : State) : Host.Outcome State Fault Refusal :=
  s.live dt fun (b : Block) => b.trainingComplete p eq

/-- ADAPT_CONVERGED (R146). -/
def execAdaptConverged (dt : Nat) (p : Nat) (ctle : List Nat) (s : State) : Host.Outcome State Fault Refusal :=
  s.live dt fun (b : Block) => b.adaptConverged p ctle

/-- BLOCK_LOCK (R148). -/
def execBlockLock (dt : Nat) (p : Nat) (seen : List LaneSeen) (s : State) : Host.Outcome State Fault Refusal :=
  s.live dt fun (b : Block) => b.blockLock p seen

/-- ALIGN_DONE (R149). -/
def execAlignDone (dt : Nat) (p : Nat) (order : List Nat) (fec : Bool) (deskew : Nat)
    (s : State) : Host.Outcome State Fault Refusal :=
  s.live dt fun (b : Block) => b.alignDone p order fec deskew

/-- CHECK (R154). -/
def execCheck (dt : Nat) (p : Nat) (figs : List (Nat × Nat × Nat)) (s : State) : Host.Outcome State Fault Refusal :=
  s.live dt fun (b : Block) => b.linkCheck p figs

/-- BRINGUP_TIMEOUT (R147). -/
def execBringupTimeout (dt : Nat) (p : Nat) (s : State) : Host.Outcome State Fault Refusal :=
  s.live dt fun (b : Block) => b.bringupTimeout p

/-- LINK_DOWN (R150). -/
def execLinkDown (dt : Nat) (p : Nat) (s : State) : Host.Outcome State Fault Refusal :=
  s.live dt fun (b : Block) => b.linkDown p

/-- HOLDOFF_EXPIRED (R150). -/
def execHoldoffExpired (dt : Nat) (p : Nat) (s : State) : Host.Outcome State Fault Refusal :=
  s.live dt fun (b : Block) => b.holdoffExpired p

/-- BYPASS_OPEN (R161). -/
def execBypassOpen (dt : Nat) (vbyp : Nat) (s : State) : Host.Outcome State Fault Refusal :=
  s.liveOn 2 dt fun (b : Block) => b.bypassOpen vbyp

/-- BYPASS_CLOSE (R161): VBYP falls below 2.9 V when `forced`, else OPEN is written 0. The other causes have commands of
their own. -/
def execBypassClose (dt : Nat) (forced : Bool) (s : State) : Host.Outcome State Fault Refusal :=
  s.live dt fun (b : Block) => b.bypassClose forced

/-- CLEAR_CNT (R598). -/
def execClearCnt (dt : Nat) (u : UnitId) (s : State) : Host.Outcome State Fault Refusal :=
  s.live dt fun (b : Block) => b.counterClear u

/-- LANE_EYE_UPDATE (R158). -/
def execLaneEyeUpdate (dt : Nat) (p l h w loss symerr cor unc : Nat) (s : State) : Host.Outcome State Fault Refusal :=
  s.live dt fun (b : Block) => b.laneEye p l h w loss symerr cor unc

/-- BYPASS_CONNECTED (R161). -/
def execBypassConnected (dt : Nat) (s : State) : Host.Outcome State Fault Refusal :=
  s.live dt fun (b : Block) => b.bypassConnected

end Sys2Proof.Machine
end

