-- ==== Sys2Proof/Machine/RunTime.lean ====
section
/-! DEFINITION. Commands of the time base and PTP (R203-R231). -/

namespace Sys2Proof.Machine

/-- LPORT_FRAME (R227). -/
def execLportFrame (dt : Nat) (raw : List Nat) (fcsOk : Bool) (o : TrackerOut)
    (s : State) : Host.Outcome State Fault Refusal :=
  s.live dt fun (b : Block) => if b.lportUp then b.lportFrame raw fcsOk o else b

/-- PTP_SYNC (R207). -/
def execPtpSync (dt : Nat) (d sender seq : Nat) (logInterval : Int) (twoStep : Bool) (o : TrackerOut)
    (s : State) : Host.Outcome State Fault Refusal :=
  s.liveOn 2 dt fun (b : Block) => if d < 2 then b.ptpSync d sender seq logInterval twoStep o else b

/-- PTP_FOLLOW_UP (R207). -/
def execPtpFollowUp (dt : Nat) (d sender seq : Nat) (s : State) : Host.Outcome State Fault Refusal :=
  s.liveOn 2 dt fun (b : Block) => if d < 2 then b.ptpFollowUp d sender seq else b

/-- PTP_DELAY_RESP (R207). -/
def execPtpDelayResp (dt : Nat) (d : Nat) (r : DelayResp) (s : State) : Host.Outcome State Fault Refusal :=
  s.liveOn 2 dt fun (b : Block) => if d < 2 then b.ptpDelayResp d r else b

/-- PTP_ANNOUNCE (R206). -/
def execPtpAnnounce (dt : Nat) (d : Nat) (info : MasterInfo) (s : State) : Host.Outcome State Fault Refusal :=
  s.liveOn 2 dt fun (b : Block) => if d < 2 then b.ptpAnnounce d info else b

/-- ANNOUNCE_TIMEOUT (R207). -/
def execAnnounceTimeout (dt : Nat) (d : Nat) (s : State) : Host.Outcome State Fault Refusal :=
  s.liveOn 2 dt fun (b : Block) => if d < 2 then b.announceTimeout d else b

/-- HOLDOVER_EXPIRED (R208). -/
def execHoldoverExpired (dt : Nat) (s : State) : Host.Outcome State Fault Refusal :=
  s.liveOn 2 dt fun (b : Block) => b.holdoverExpired

/-- REVERT_EXPIRED (R210). -/
def execRevertExpired (dt : Nat) (s : State) : Host.Outcome State Fault Refusal :=
  s.liveOn 2 dt fun (b : Block) => b.revertExpired

/-- SLEW_DONE (R211). -/
def execSlewDone (dt : Nat) (s : State) : Host.Outcome State Fault Refusal :=
  s.liveOn 2 dt fun (b : Block) => b.slewDone

/-- DELAY_REQ_SEND (R214). -/
def execDelayReqSend (dt : Nat) (d : Nat) (s : State) : Host.Outcome State Fault Refusal :=
  s.liveOn 2 dt fun (b : Block) => if d < 2 then b.delayReqSend d else b

/-- CAM_SYNC_SEND (R215). -/
def execCamSyncSend (dt : Nat) (k : Nat) (s : State) : Host.Outcome State Fault Refusal :=
  s.live dt fun (b : Block) => b.camSyncSend k

/-- CAM_ANNOUNCE_SEND (R215). -/
def execCamAnnounceSend (dt : Nat) (k : Nat) (s : State) : Host.Outcome State Fault Refusal :=
  s.live dt fun (b : Block) => b.camAnnounceSend k

/-- DELAY_REQ (R215). -/
def execDelayReq (dt : Nat) (k seq requester : Nat) (back : Option (Nat × Nat))
    (s : State) : Host.Outcome State Fault Refusal :=
  s.live dt fun (b : Block) => if k < 12 then b.camDelayReq k seq requester back else b

/-- STEP_GO (R229). -/
def execStepGo (dt : Nat) (s : State) : Host.Outcome State Fault Refusal :=
  s.live dt fun (b : Block) => b.stepGo

/-- DOMAIN_FORCE (R210). -/
def execDomainForce (dt : Nat) (v : Nat) (s : State) : Host.Outcome State Fault Refusal :=
  s.live dt fun (b : Block) => b.domainForce v

/-- NOW_LATCH (R229). -/
def execNowLatch (dt : Nat) (m : Reader) (s : State) : Host.Outcome State Fault Refusal :=
  s.live dt fun (b : Block) => b.readAt m 0 uTime F.TIME.NOW_LT_LO_VALUE.off

/-- TSQ_POP (R221). -/
def execTsqPop (dt : Nat) (m : Reader) (p : Nat) (s : State) : Host.Outcome State Fault Refusal :=
  s.live dt fun (b : Block) => b.readAt m 0 uTime (F.TIME.TSQ_W3_SEC.at p)

/-- TIME_ANCHOR (R224). -/
def execTimeAnchor (dt : Nat) (s : State) : Host.Outcome State Fault Refusal :=
  s.live dt fun (b : Block) => b.timeAnchor

end Sys2Proof.Machine
end

