-- ==== Sys2Proof/Machine/RunWeb.lean ====
section
/-! DEFINITION. Commands of sense channels and web position (R232-R271). -/

namespace Sys2Proof.Machine

/-- SENSE_OUTPUT (R233). -/
def execSenseOutput (dt : Nat) (c : Nat) (mods : List Nat) (s : State) : Host.Outcome State Fault Refusal :=
  s.liveOn 3 dt fun (b : Block) => b.senseOutput c mods

/-- SS_GO (R237). -/
def execSsGo (dt : Nat) (c : Nat) (s : State) : Host.Outcome State Fault Refusal :=
  s.liveOn 3 dt fun (b : Block) => b.ssTrigger c

/-- SS_DONE (R237). -/
def execSsDone (dt : Nat) (c : Nat) (mods : List Nat) (s : State) : Host.Outcome State Fault Refusal :=
  s.liveOn 3 dt fun (b : Block) => b.ssDone c mods

/-- MOD_OVERLOAD (R243). -/
def execModOverload (dt : Nat) (c : Nat) (s : State) : Host.Outcome State Fault Refusal :=
  s.liveOn 3 dt fun (b : Block) => if c < 16 then b.modOverload c else b

/-- VIRTUAL_VALUE (R238). -/
def execVirtualValue (dt : Nat) (c n : Nat) (s : State) : Host.Outcome State Fault Refusal :=
  s.liveOn 3 dt fun (b : Block) => if c < 16 then b.virtualValue c n else b

/-- SENSE_STALE (R239). -/
def execSenseStale (dt : Nat) (c : Nat) (s : State) : Host.Outcome State Fault Refusal :=
  s.liveOn 3 dt fun (b : Block) => if c < 16 then b.senseStale c else b

/-- BANK_SWAP (R241). -/
def execBankSwap (dt : Nat) (sel : Nat) (s : State) : Host.Outcome State Fault Refusal :=
  s.live dt fun (b : Block) => b.bankSwap (sel % 2)

/-- OBSERVER_UPDATE (R255, R270). -/
def execObserverUpdate (dt : Nat) (e0 e1 : EncIn) (s : State) : Host.Outcome State Fault Refusal :=
  s.run dt fun (b : Block) =>
    b.passed [.encoderSinCos 0 e0.sin e0.cos, .encoderSinCos 1 e1.sin e1.cos] 3 fun t => t.observerUpdate e0 e1

/-- COAST_TIMEOUT (R260). -/
def execCoastTimeout (dt : Nat) (s : State) : Host.Outcome State Fault Refusal :=
  s.liveOn 3 dt fun (b : Block) => b.coastEnd

/-- PAGE_SYNC (R262). -/
def execPageSync (dt : Nat) (ago : Nat) (s : State) : Host.Outcome State Fault Refusal :=
  s.liveOn 3 dt fun (b : Block) => b.pageSync ago

/-- Z_INDEX (R254, R270). -/
def execZIndex (dt : Nat) (e : Nat) (s : State) : Host.Outcome State Fault Refusal :=
  s.run dt fun (b : Block) => b.passed (if e < 2 then [.encoderZ e] else []) 3 fun t => t.zIndex e

/-- WEB_POS_LATCH (R271). -/
def execWebPosLatch (dt : Nat) (m : Reader) (s : State) : Host.Outcome State Fault Refusal :=
  s.live dt fun (b : Block) => b.readAt m 0 uWeb F.WEB.POS_LO_VALUE.off

/-- WEB_HWM_LATCH (R271). -/
def execWebHwmLatch (dt : Nat) (m : Reader) (s : State) : Host.Outcome State Fault Refusal :=
  s.live dt fun (b : Block) => b.readAt m 0 uWeb F.WEB.HWM_LO_VALUE.off

/-- WEB_LINE_LATCH (R271). -/
def execWebLineLatch (dt : Nat) (m : Reader) (s : State) : Host.Outcome State Fault Refusal :=
  s.live dt fun (b : Block) => b.readAt m 0 uWeb F.WEB.LINE_LO_VALUE.off

/-- ENC_ZPOS_LATCH (R271). -/
def execEncZposLatch (dt : Nat) (m : Reader) (e : Nat) (s : State) : Host.Outcome State Fault Refusal :=
  s.live dt fun (b : Block) => b.readAt m 0 uWeb (F.WEB.ENC_ZPOS_LO_VALUE.at e)

/-- QUADRATURE_EDGE (R253, R270). -/
def execQuadratureEdge (dt : Nat) (e : Nat) (a z : Bool) (s : State) : Host.Outcome State Fault Refusal :=
  s.run dt fun (b : Block) => b.passed (if e < 2 then [.encoderAB e a z] else []) 3 fun t => t.quadratureEdge e a z

end Sys2Proof.Machine
end

