-- ==== Sys2Proof/Machine/Dispatch.lean ====
section
/-! DEFINITION. The effect of every command. -/

namespace Sys2Proof.Machine

def exec (i : Instr) (s : State) : Host.Outcome State Fault Refusal :=
  match i with
  | .registerWrite dt m dev bar2 addr be n w => Sys2Proof.Machine.execRegisterWrite dt m dev bar2 addr be n w s
  | .stagedWrite dt m u reg w => Sys2Proof.Machine.execStagedWrite dt m u reg w s
  | .commit dt m u bnd tag => Sys2Proof.Machine.execCommit dt m u bnd tag s
  | .commitCancel dt m u => Sys2Proof.Machine.execCommitCancel dt m u s
  | .commitApply dt u line page pageLine first => Sys2Proof.Machine.execCommitApply dt u line page pageLine first s
  | .semRead dt m dev n => Sys2Proof.Machine.execSemRead dt m dev n s
  | .semRelease dt m dev n w => Sys2Proof.Machine.execSemRelease dt m dev n w s
  | .sramScrub dt u a errs => Sys2Proof.Machine.execSramScrub dt u a errs s
  | .powerOn dt env => Sys2Proof.Machine.execPowerOn dt env s
  | .oscStableTimeout dt => Sys2Proof.Machine.execOscStableTimeout dt s
  | .flashTimeout dt => Sys2Proof.Machine.execFlashTimeout dt s
  | .alive dt flashOk => Sys2Proof.Machine.execAlive dt flashOk s
  | .aliveTimeout dt => Sys2Proof.Machine.execAliveTimeout dt s
  | .seal dt => Sys2Proof.Machine.execSeal dt s
  | .sealDeadline dt => Sys2Proof.Machine.execSealDeadline dt s
  | .dramTrainingDone dt ok eyes => Sys2Proof.Machine.execDramTrainingDone dt ok eyes s
  | .dramWipeDone dt => Sys2Proof.Machine.execDramWipeDone dt s
  | .running dt => Sys2Proof.Machine.execRunning dt s
  | .perstnRise dt => Sys2Proof.Machine.execPerstnRise dt s
  | .porFall dt => Sys2Proof.Machine.execPorFall dt s
  | .supplyOutOfRange dt => Sys2Proof.Machine.execSupplyOutOfRange dt s
  | .supplyRestored dt env => Sys2Proof.Machine.execSupplyRestored dt env s
  | .devReset dt env => Sys2Proof.Machine.execDevReset dt env s
  | .coreWatchdog dt c env => Sys2Proof.Machine.execCoreWatchdog dt c env s
  | .coreReset dt c => Sys2Proof.Machine.execCoreReset dt c s
  | .hostPortReset dt kind => Sys2Proof.Machine.execHostPortReset dt kind s
  | .itoFail dt => Sys2Proof.Machine.execItoFail dt s
  | .watchFail dt => Sys2Proof.Machine.execWatchFail dt s
  | .xtalFail dt => Sys2Proof.Machine.execXtalFail dt s
  | .pllFail dt ddr => Sys2Proof.Machine.execPllFail dt ddr s
  | .refFail dt => Sys2Proof.Machine.execRefFail dt s
  | .refRecovered dt => Sys2Proof.Machine.execRefRecovered dt s
  | .gateClose dt g busy => Sys2Proof.Machine.execGateClose dt g busy s
  | .gateClosed dt g => Sys2Proof.Machine.execGateClosed dt g s
  | .gateTimeout dt g => Sys2Proof.Machine.execGateTimeout dt g s
  | .gateOpen dt g => Sys2Proof.Machine.execGateOpen dt g s
  | .tmonWindow dt raw loads => Sys2Proof.Machine.execTmonWindow dt raw loads s
  | .governorDescend dt => Sys2Proof.Machine.execGovernorDescend dt s
  | .clearMin dt => Sys2Proof.Machine.execClearMin dt s
  | .pstateTarget dt req => Sys2Proof.Machine.execPstateTarget dt req s
  | .pstateChangeDone dt => Sys2Proof.Machine.execPstateChangeDone dt s
  | .tempoShort dt => Sys2Proof.Machine.execTempoShort dt s
  | .avsFail dt cmd step => Sys2Proof.Machine.execAvsFail dt cmd step s
  | .avsAlert dt faults => Sys2Proof.Machine.execAvsAlert dt faults s
  | .avsPoll dt mv raw => Sys2Proof.Machine.execAvsPoll dt mv raw s
  | .thmConversion dt results => Sys2Proof.Machine.execThmConversion dt results s
  | .sensorTimeout dt k => Sys2Proof.Machine.execSensorTimeout dt k s
  | .graceExpired dt => Sys2Proof.Machine.execGraceExpired dt s
  | .relaxStep dt => Sys2Proof.Machine.execRelaxStep dt s
  | .clearPeak dt strip => Sys2Proof.Machine.execClearPeak dt strip s
  | .portEnable dt p => Sys2Proof.Machine.execPortEnable dt p s
  | .signalQualified dt p => Sys2Proof.Machine.execSignalQualified dt p s
  | .cdrLocked dt p => Sys2Proof.Machine.execCdrLocked dt p s
  | .trainingFrame dt p l frame => Sys2Proof.Machine.execTrainingFrame dt p l frame s
  | .trainingComplete dt p eq => Sys2Proof.Machine.execTrainingComplete dt p eq s
  | .adaptConverged dt p ctle => Sys2Proof.Machine.execAdaptConverged dt p ctle s
  | .blockLock dt p inv => Sys2Proof.Machine.execBlockLock dt p inv s
  | .alignDone dt p order heard deskew => Sys2Proof.Machine.execAlignDone dt p order heard deskew s
  | .check dt p figs => Sys2Proof.Machine.execCheck dt p figs s
  | .bringupTimeout dt p => Sys2Proof.Machine.execBringupTimeout dt p s
  | .linkDown dt p => Sys2Proof.Machine.execLinkDown dt p s
  | .holdoffExpired dt p => Sys2Proof.Machine.execHoldoffExpired dt p s
  | .bypassOpen dt vbyp => Sys2Proof.Machine.execBypassOpen dt vbyp s
  | .bypassClose dt forced => Sys2Proof.Machine.execBypassClose dt forced s
  | .clearCnt dt u => Sys2Proof.Machine.execClearCnt dt u s
  | .camFrame dt k frame fcsOk overflow => Sys2Proof.Machine.execCamFrame dt k frame fcsOk overflow s
  | .gvspLeader dt k id ts ld => Sys2Proof.Machine.execGvspLeader dt k id ts ld s
  | .gvspPayload dt k id pid data overflow => Sys2Proof.Machine.execGvspPayload dt k id pid data overflow s
  | .gvspTrailer dt k id pid sizeY => Sys2Proof.Machine.execGvspTrailer dt k id pid sizeY s
  | .entryTimeout dt k => Sys2Proof.Machine.execEntryTimeout dt k s
  | .triggerPulse dt => Sys2Proof.Machine.execTriggerPulse dt s
  | .triggerPulseEnd dt k => Sys2Proof.Machine.execTriggerPulseEnd dt k s
  | .lportFrame dt raw fcsOk o => Sys2Proof.Machine.execLportFrame dt raw fcsOk o s
  | .ptpSync dt d sender seq logInterval twoStep o => Sys2Proof.Machine.execPtpSync dt d sender seq logInterval twoStep o s
  | .ptpFollowUp dt d sender seq => Sys2Proof.Machine.execPtpFollowUp dt d sender seq s
  | .ptpDelayResp dt d r => Sys2Proof.Machine.execPtpDelayResp dt d r s
  | .ptpAnnounce dt d info => Sys2Proof.Machine.execPtpAnnounce dt d info s
  | .announceTimeout dt d => Sys2Proof.Machine.execAnnounceTimeout dt d s
  | .holdoverExpired dt => Sys2Proof.Machine.execHoldoverExpired dt s
  | .revertExpired dt => Sys2Proof.Machine.execRevertExpired dt s
  | .slewDone dt => Sys2Proof.Machine.execSlewDone dt s
  | .delayReqSend dt d => Sys2Proof.Machine.execDelayReqSend dt d s
  | .camSyncSend dt k => Sys2Proof.Machine.execCamSyncSend dt k s
  | .camAnnounceSend dt k => Sys2Proof.Machine.execCamAnnounceSend dt k s
  | .delayReq dt k seq requester back => Sys2Proof.Machine.execDelayReq dt k seq requester back s
  | .stepGo dt => Sys2Proof.Machine.execStepGo dt s
  | .domainForce dt v => Sys2Proof.Machine.execDomainForce dt v s
  | .nowLatch dt m => Sys2Proof.Machine.execNowLatch dt m s
  | .tsqPop dt m p => Sys2Proof.Machine.execTsqPop dt m p s
  | .timeAnchor dt => Sys2Proof.Machine.execTimeAnchor dt s
  | .senseOutput dt c mods => Sys2Proof.Machine.execSenseOutput dt c mods s
  | .ssGo dt c => Sys2Proof.Machine.execSsGo dt c s
  | .ssDone dt c mods => Sys2Proof.Machine.execSsDone dt c mods s
  | .modOverload dt c => Sys2Proof.Machine.execModOverload dt c s
  | .virtualValue dt c n => Sys2Proof.Machine.execVirtualValue dt c n s
  | .senseStale dt c => Sys2Proof.Machine.execSenseStale dt c s
  | .bankSwap dt sel => Sys2Proof.Machine.execBankSwap dt sel s
  | .observerUpdate dt e0 e1 => Sys2Proof.Machine.execObserverUpdate dt e0 e1 s
  | .coastTimeout dt => Sys2Proof.Machine.execCoastTimeout dt s
  | .pageSync dt ago => Sys2Proof.Machine.execPageSync dt ago s
  | .zIndex dt e => Sys2Proof.Machine.execZIndex dt e s
  | .webPosLatch dt m => Sys2Proof.Machine.execWebPosLatch dt m s
  | .webHwmLatch dt m => Sys2Proof.Machine.execWebHwmLatch dt m s
  | .webLineLatch dt m => Sys2Proof.Machine.execWebLineLatch dt m s
  | .encZposLatch dt m e => Sys2Proof.Machine.execEncZposLatch dt m e s
  | .stripLine dt strip => Sys2Proof.Machine.execStripLine dt strip s
  | .tblDataWrite dt m x w => Sys2Proof.Machine.execTblDataWrite dt m x w s
  | .tblDataRead dt m x => Sys2Proof.Machine.execTblDataRead dt m x s
  | .geoDataWrite dt m x w => Sys2Proof.Machine.execGeoDataWrite dt m x w s
  | .geoDataRead dt m x => Sys2Proof.Machine.execGeoDataRead dt m x s
  | .stitchDeliver dt x => Sys2Proof.Machine.execStitchDeliver dt x s
  | .stitchLineOut dt => Sys2Proof.Machine.execStitchLineOut dt s
  | .overlap dt l src dest body => Sys2Proof.Machine.execOverlap dt l src dest body s
  | .overlapTimeout dt => Sys2Proof.Machine.execOverlapTimeout dt s
  | .ingestData dt port bytes => Sys2Proof.Machine.execIngestData dt port bytes s
  | .encodeBlock dt => Sys2Proof.Machine.execEncodeBlock dt s
  | .loadComplete dt slot => Sys2Proof.Machine.execLoadComplete dt slot s
  | .bandFill dt => Sys2Proof.Machine.execBandFill dt s
  | .lookaheadEnter dt => Sys2Proof.Machine.execLookaheadEnter dt s
  | .tangoFlush dt => Sys2Proof.Machine.execTangoFlush dt s
  | .rowEstimated dt => Sys2Proof.Machine.execRowEstimated dt s
  | .tangoLineOut dt => Sys2Proof.Machine.execTangoLineOut dt s
  | .segLine dt => Sys2Proof.Machine.execSegLine dt s
  | .segFlush dt => Sys2Proof.Machine.execSegFlush dt s
  | .tagClassify dt => Sys2Proof.Machine.execTagClassify dt s
  | .tagSequence dt => Sys2Proof.Machine.execTagSequence dt s
  | .alertPulseEnd dt => Sys2Proof.Machine.execAlertPulseEnd dt s
  | .lportDatagram dt => Sys2Proof.Machine.execLportDatagram dt s
  | .servoPeriod dt a => Sys2Proof.Machine.execServoPeriod dt a s
  | .axisStatus dt a bytes => Sys2Proof.Machine.execAxisStatus dt a bytes s
  | .axisRespTimeout dt a => Sys2Proof.Machine.execAxisRespTimeout dt a s
  | .markTag dt a => Sys2Proof.Machine.execMarkTag dt a s
  | .markPulse dt a => Sys2Proof.Machine.execMarkPulse dt a s
  | .markPulseEnd dt a => Sys2Proof.Machine.execMarkPulseEnd dt a s
  | .home dt a => Sys2Proof.Machine.execHome dt a s
  | .stop dt a => Sys2Proof.Machine.execStop dt a s
  | .resume dt a => Sys2Proof.Machine.execResume dt a s
  | .clearFault dt a => Sys2Proof.Machine.execClearFault dt a s
  | .homeTimeout dt a => Sys2Proof.Machine.execHomeTimeout dt a s
  | .dramRequest dt q tier hint addr len data flips slots => Sys2Proof.Machine.execDramRequest dt q tier hint addr len data flips slots s
  | .requestUrgent dt => Sys2Proof.Machine.execRequestUrgent dt s
  | .pageIdleClose dt => Sys2Proof.Machine.execPageIdleClose dt s
  | .scrubRead dt g flips => Sys2Proof.Machine.execScrubRead dt g flips s
  | .refresh dt c bank => Sys2Proof.Machine.execRefresh dt c bank s
  | .mr4Poll dt codes hot => Sys2Proof.Machine.execMr4Poll dt codes hot s
  | .selfRefreshEnter dt => Sys2Proof.Machine.execSelfRefreshEnter dt s
  | .retrainCheck dt drifts => Sys2Proof.Machine.execRetrainCheck dt drifts s
  | .retrainDone dt c eye => Sys2Proof.Machine.execRetrainDone dt c eye s
  | .configRequest dt w => Sys2Proof.Machine.execConfigRequest dt w s
  | .linkUp dt speed width => Sys2Proof.Machine.execLinkUp dt speed width s
  | .d3hotEnter dt => Sys2Proof.Machine.execD3hotEnter dt s
  | .d0Return dt => Sys2Proof.Machine.execD0Return dt s
  | .msixUnmask dt v => Sys2Proof.Machine.execMsixUnmask dt v s
  | .dmaGo dt n => Sys2Proof.Machine.execDmaGo dt n s
  | .dmaStop dt n => Sys2Proof.Machine.execDmaStop dt n s
  | .dmaRearm dt n => Sys2Proof.Machine.execDmaRearm dt n s
  | .dmaResponse dt id err data => Sys2Proof.Machine.execDmaResponse dt id err data s
  | .descriptorComplete dt n => Sys2Proof.Machine.execDescriptorComplete dt n s
  | .dmaNoack dt id => Sys2Proof.Machine.execDmaNoack dt id s
  | .dmaTagReturn dt id => Sys2Proof.Machine.execDmaTagReturn dt id s
  | .privDmaGo dt m ch => Sys2Proof.Machine.execPrivDmaGo dt m ch s
  | .streamFlush dt n => Sys2Proof.Machine.execStreamFlush dt n s
  | .streamWaiting dt st => Sys2Proof.Machine.execStreamWaiting dt st s
  | .h2fWrite dt idx w => Sys2Proof.Machine.execH2fWrite dt idx w s
  | .f2hRead dt idx => Sys2Proof.Machine.execF2hRead dt idx s
  | .blockGo dt k w => Sys2Proof.Machine.execBlockGo dt k w s
  | .blockRelease dt k => Sys2Proof.Machine.execBlockRelease dt k s
  | .doorbellRing dt w => Sys2Proof.Machine.execDoorbellRing dt w s
  | .fwDoorbell dt d => Sys2Proof.Machine.execFwDoorbell dt d s
  | .tunnelBlockFill dt => Sys2Proof.Machine.execTunnelBlockFill dt s
  | .tunnelBlockSend dt => Sys2Proof.Machine.execTunnelBlockSend dt s
  | .requestDeferredReply dt typ tag => Sys2Proof.Machine.execRequestDeferredReply dt typ tag s
  | .getStatus dt m => Sys2Proof.Machine.execGetStatus dt m s
  | .getNonce dt m => Sys2Proof.Machine.execGetNonce dt m s
  | .reset dt m env => Sys2Proof.Machine.execReset dt m env s
  | .stageCommit dt m => Sys2Proof.Machine.execStageCommit dt m s
  | .stageOnly dt m => Sys2Proof.Machine.execStageOnly dt m s
  | .stageCommitCancel dt m => Sys2Proof.Machine.execStageCommitCancel dt m s
  | .control dt m => Sys2Proof.Machine.execControl dt m s
  | .expose dt m => Sys2Proof.Machine.execExpose dt m s
  | .timeStep dt m => Sys2Proof.Machine.execTimeStep dt m s
  | .pageJob dt m => Sys2Proof.Machine.execPageJob dt m s
  | .refLoad dt m => Sys2Proof.Machine.execRefLoad dt m s
  | .refAbort dt m => Sys2Proof.Machine.execRefAbort dt m s
  | .refRelease dt m => Sys2Proof.Machine.execRefRelease dt m s
  | .mapLoad dt m => Sys2Proof.Machine.execMapLoad dt m s
  | .mapAbort dt m => Sys2Proof.Machine.execMapAbort dt m s
  | .mapRelease dt m => Sys2Proof.Machine.execMapRelease dt m s
  | .mapLoadComplete dt => Sys2Proof.Machine.execMapLoadComplete dt s
  | .tableWrite dt m data ok => Sys2Proof.Machine.execTableWrite dt m data ok s
  | .tableRead dt m ok => Sys2Proof.Machine.execTableRead dt m ok s
  | .refReadback dt m ok => Sys2Proof.Machine.execRefReadback dt m ok s
  | .imageUpdate dt m data ok flashOk => Sys2Proof.Machine.execImageUpdate dt m data ok flashOk s
  | .secure dt m vfuse env => Sys2Proof.Machine.execSecure dt m vfuse env s
  | .scrap dt m vfuse env => Sys2Proof.Machine.execScrap dt m vfuse env s
  | .rma dt m vfuse env => Sys2Proof.Machine.execRma dt m vfuse env s
  | .keyAdd dt m vfuse env => Sys2Proof.Machine.execKeyAdd dt m vfuse env s
  | .keyRevoke dt m vfuse env => Sys2Proof.Machine.execKeyRevoke dt m vfuse env s
  | .rollback dt m vfuse env => Sys2Proof.Machine.execRollback dt m vfuse env s
  | .debugDisable dt m vfuse env => Sys2Proof.Machine.execDebugDisable dt m vfuse env s
  | .calLane dt m => Sys2Proof.Machine.execCalLane dt m s
  | .calDram dt m => Sys2Proof.Machine.execCalDram dt m s
  | .calSenseOfs dt m => Sys2Proof.Machine.execCalSenseOfs dt m s
  | .calSenseGain dt m => Sys2Proof.Machine.execCalSenseGain dt m s
  | .calEncoder dt m => Sys2Proof.Machine.execCalEncoder dt m s
  | .calThermal dt m => Sys2Proof.Machine.execCalThermal dt m s
  | .calTempo dt m => Sys2Proof.Machine.execCalTempo dt m s
  | .calBlack dt m => Sys2Proof.Machine.execCalBlack dt m s
  | .calFlat dt m => Sys2Proof.Machine.execCalFlat dt m s
  | .calGeom dt m => Sys2Proof.Machine.execCalGeom dt m s
  | .calSeam dt m => Sys2Proof.Machine.execCalSeam dt m s
  | .calDone dt e => Sys2Proof.Machine.execCalDone dt e s
  | .journalCompact dt => Sys2Proof.Machine.execJournalCompact dt s
  | .calQSelect dt m v => Sys2Proof.Machine.execCalQSelect dt m v s
  | .flitReceive dt l raw => Sys2Proof.Machine.execFlitReceive dt l raw s
  | .linkFail dt l => Sys2Proof.Machine.execLinkFail dt l s
  | .reelStart dt => Sys2Proof.Machine.execReelStart dt s
  | .reel dt l src dest body => Sys2Proof.Machine.execReel dt l src dest body s
  | .uplCredit dt received => Sys2Proof.Machine.execUplCredit dt received s
  | .ident dt l src dest body => Sys2Proof.Machine.execIdent dt l src dest body s
  | .identResend dt l => Sys2Proof.Machine.execIdentResend dt l s
  | .enum dt l src dest body => Sys2Proof.Machine.execEnum dt l src dest body s
  | .enumCutoff dt => Sys2Proof.Machine.execEnumCutoff dt s
  | .result dt l src dest body => Sys2Proof.Machine.execResult dt l src dest body s
  | .insertRetry dt => Sys2Proof.Machine.execInsertRetry dt s
  | .ringTimeExchange dt l => Sys2Proof.Machine.execRingTimeExchange dt l s
  | .ringTime dt l src dest body => Sys2Proof.Machine.execRingTime dt l src dest body s
  | .position dt l src dest body => Sys2Proof.Machine.execPosition dt l src dest body s
  | .positionTimeout dt => Sys2Proof.Machine.execPositionTimeout dt s
  | .seqBeaconSend dt => Sys2Proof.Machine.execSeqBeaconSend dt s
  | .seqBeacon dt l src dest body => Sys2Proof.Machine.execSeqBeacon dt l src dest body s
  | .ringMailbox dt l src dest body => Sys2Proof.Machine.execRingMailbox dt l src dest body s
  | .sysaccReq dt l src dest body => Sys2Proof.Machine.execSysaccReq dt l src dest body s
  | .sysaccRsp dt l src dest body => Sys2Proof.Machine.execSysaccRsp dt l src dest body s
  | .bulk dt l c src dest body => Sys2Proof.Machine.execBulk dt l c src dest body s
  | .commitGroup dt l src dest body => Sys2Proof.Machine.execCommitGroup dt l src dest body s
  | .commitApplied dt l src dest body => Sys2Proof.Machine.execCommitApplied dt l src dest body s
  | .eventArrival dt p src => Sys2Proof.Machine.execEventArrival dt p src s
  | .eventDelivery dt c => Sys2Proof.Machine.execEventDelivery dt c s
  | .ringEvent dt l src dest body => Sys2Proof.Machine.execRingEvent dt l src dest body s
  | .exportDrop dt c => Sys2Proof.Machine.execExportDrop dt c s
  | .swHost dt w => Sys2Proof.Machine.execSwHost dt w s
  | .swFw dt w => Sys2Proof.Machine.execSwFw dt w s
  | .clrCoal dt c => Sys2Proof.Machine.execClrCoal dt c s
  | .gpioEdge dt k high => Sys2Proof.Machine.execGpioEdge dt k high s
  | .gpioPulseEnd dt k => Sys2Proof.Machine.execGpioPulseEnd dt k s
  | .errlogWrite dt => Sys2Proof.Machine.execErrlogWrite dt s
  | .errlogSelect dt m v => Sys2Proof.Machine.execErrlogSelect dt m v s
  | .shutdownLatchClear dt => Sys2Proof.Machine.execShutdownLatchClear dt s
  | .perstnFallBeforeRunning dt => Sys2Proof.Machine.execPerstnFallBeforeRunning dt s
  | .quadratureEdge dt e a z => Sys2Proof.Machine.execQuadratureEdge dt e a z s
  | .laneEyeUpdate dt p l h w loss symerr cor unc => Sys2Proof.Machine.execLaneEyeUpdate dt p l h w loss symerr cor unc s
  | .tunnelFrameSent dt k => Sys2Proof.Machine.execTunnelFrameSent dt k s
  | .bypassConnected dt => Sys2Proof.Machine.execBypassConnected dt s
  | .calTimeout dt bad => Sys2Proof.Machine.execCalTimeout dt bad s

end Sys2Proof.Machine
end

