-- ==== Sys2Proof/Safety.lean ====
section
/-! DEFINITION. The terms in which statements speak of safe runs: when a command acts, what a command leaves as it was,
the canonical form of every memory. -/

namespace Sys2Proof.Machine

/-- The device is in operation at the command: the control cores are released and it does not hold (R75, R82). -/
abbrev State.up (s : State) (dt : Nat) : Prop := (s.now dt).cored = true

/-- Control core k runs besides (R83). -/
abbrev State.upOn (s : State) (dt k : Nat) : Prop := s.up dt ∧ nth (s.now dt).boot.cores k false = true

/-- A read is not turned away: its master is one that reads registers, and a host's is of one word outside D3hot (R7, R483,
R486). -/
abbrev Block.answers (b : Block) (r : Reader) : Prop :=
  r.master ≠ .hw ∧ r.master ≠ .boot ∧ (r.master = .host → b.on uHost F.HOST.LINK_D3 = false ∧ r.words ≤ 1)

/-- A write of a master is not turned away: the host's is made outside D3hot (R486). -/
abbrev Block.takes (b : Block) (m : Master) : Prop :=
  m ≠ .hw ∧ m ≠ .boot ∧ (m = .host → b.on uHost F.HOST.LINK_D3 = false)

/-- Every register reads as before but those listed. -/
def Block.keepsRegs (a b : Block) (written : List (UnitId × Nat)) : Prop :=
  ∀ u off, u.inst < 256 → off < 0x4000 → (u, off) ∉ written → b.rd u off = a.rd u off

/-- Everything but the register file is as before. -/
def Block.keepsRest (a b : Block) : Prop := { b with regs := a.regs } = a

/-- Every sparse memory of the block is in canonical form: the register file, the flash, the DRAM array, the control cores'
SRAM, the contexts' memories, the mailbox blocks. -/
def Block.memWf (b : Block) : Bool :=
  storeWf resetOfKey b.regs && storeWf (fun _ => (0xFF : Byte)) b.flash && storeWf (fun _ => (0 : Byte)) b.dmc.mem &&
    storeWf (fun _ => (0 : Byte)) b.boot.coreMem &&
    (b.ctxs.all fun c => storeWf (fun _ => 0) c.tbl) &&
    [b.mbx.block0, b.mbx.block1, b.mbx.block2, b.mbx.block3].all (storeWf fun _ => 0)

/-- The commands that can end a hold: they make the device boot (R75, R82, R124). -/
def bootsDevice : Instr → Bool
  | .powerOn _ _ | .supplyRestored _ _ => true
  | _ => false

/-- The command that clears the latched shutdown (R138). -/
def clearsLatch : Instr → Bool
  | .shutdownLatchClear _ => true
  | _ => false

/-- The commands that show something at an encoder's outputs, which repeat its inputs whatever the device does (R270). -/
def passesThrough : Instr → Bool
  | .observerUpdate _ _ _ | .zIndex _ _ | .quadratureEdge _ _ _ _ => true
  | _ => false

/-- The commands that change something in a hold besides the time: power, supplies, PERSTn, configuration requests
(R75, R78, R82, R124, R138, R480), and those at the encoders (R270). -/
def actsInHold : Instr → Bool
  | .powerOn _ _ | .porFall _ | .supplyOutOfRange _ | .supplyRestored _ _ | .shutdownLatchClear _ => true
  | .perstnRise _ | .perstnFallBeforeRunning _ | .configRequest _ _ => true
  | c => passesThrough c

/-- The commands that act on a device whose control cores are not released: those of boot, power, resets, clock sources,
thermal sensors and configuration requests (R75, R78, R82, R97-R100, R124, R131, R138, R480), and those at the encoders
(R270). -/
def actsUnreleased : Instr → Bool
  | .powerOn _ _ | .porFall _ | .supplyOutOfRange _ | .supplyRestored _ _ | .shutdownLatchClear _ => true
  | .perstnRise _ | .perstnFallBeforeRunning _ | .configRequest _ _ => true
  | .oscStableTimeout _ | .flashTimeout _ | .aliveTimeout _ => true
  | .itoFail _ | .watchFail _ | .xtalFail _ | .pllFail _ _ | .refFail _ | .refRecovered _ => true
  | .thmConversion _ _ | .sensorTimeout _ _ => true
  | c => passesThrough c

/-- The device holds and no waiting command boots it. -/
def State.HeldFast (s : State) : Prop := s.blk.boot.hold ≠ .none ∧ ∀ c ∈ s.pending, bootsDevice c = false

/-- A latched shutdown holds the device and no waiting command clears the latch. -/
def State.LatchedFast (s : State) : Prop :=
  s.blk.boot.hold = .shutdown ∧ s.blk.boot.latch = true ∧ ∀ c ∈ s.pending, clearsLatch c = false

end Sys2Proof.Machine
end

