-- ==== Sys2Proof/Certificates/Slice0/Obligations.lean ====
section
/-! DEFINITION. The statements about the model. -/

open Sys2Proof Sys2Proof.Machine

/-- A step of a state with command c at the front of its queue is exec of c on the state with the queue's rest.
(95_what_each_step_holds.md) -/
def Obligations.StepRunsFrontCommand : Prop :=
  ∀ (c : Instr) (rest : List Instr) (b : Block), step ⟨c :: rest, b⟩ = exec c ⟨rest, b⟩

/-- With no command waiting the block idles: the step answers the state unchanged. The spec has no such step; idling
is the model's choice (log entry 29). (95_what_each_step_holds.md) -/
def Obligations.StepIdlesOnEmptyQueue : Prop :=
  ∀ b : Block, step ⟨[], b⟩ = .next ⟨[], b⟩

/-- For every command and every state exec answers a next state, never a fault or a refusal, whose queue is the queue
it was given. (95_what_each_step_holds.md) -/
def Obligations.EveryCommandCompletes : Prop :=
  ∀ (c : Instr) (s : State), ∃ b : Block, exec c s = .next { s with blk := b }

/-- Let the device hold (PORn low, a supply out, a boot failure or a latched shutdown) and let no POWER_ON and no
SUPPLY_RESTORED wait. Then after every step that answers a next state it still holds and none of the two waits: no
other command of the table makes a device boot out of a hold. (R82, R124, R137, R138) -/
def Obligations.HeldDeviceStaysHeld : Prop :=
  ∀ s t : State, s.HeldFast → step s = .next t → t.HeldFast

/-- The invariant of HeldDeviceStaysHeld holds after reset: PORn is low and no command waits. (R82) -/
def Obligations.ResetIsHeldFast : Prop :=
  State.reset.HeldFast

/-- While the thermal shutdown is latched, every step of a queue with no SHUTDOWN_LATCH_CLEAR leaves it latched and
the device in the hold, POWER_ON, POR_FALL, SUPPLY_OUT_OF_RANGE and SUPPLY_RESTORED among the commands included.
(R137, R138) -/
def Obligations.LatchedShutdownStays : Prop :=
  ∀ s t : State, s.LatchedFast → step s = .next t → t.LatchedFast

/-- SHUTDOWN_LATCH_CLEAR takes the latched shutdown away: the latch is clear and the device holds for its supply, or
for PORn when that is low, with every register at its reset value, the fuses and the flash as they were. (R85, R86,
R124, R138) -/
def Obligations.LatchClearEndsShutdown : Prop :=
  ∀ (s : State) (dt : Nat), ∃ b : Block, exec (.shutdownLatchClear dt) s = .next { s with blk := b } ∧
    b.boot.latch = false ∧ b.boot.hold = (if (s.now dt).boot.porn then .supply else .por) ∧ b.regs = [] ∧
    b.fuses = (s.now dt).fuses ∧ b.flash = (s.now dt).flash

/-- While the device holds, a command that is not of power, supplies, PERSTn, configuration requests or the encoders'
inputs changes nothing but the time that has passed. The exceptions are listed in actsInHold. (R82, R137, R270) -/
def Obligations.HeldDeviceDoesNothing : Prop :=
  ∀ (c : Instr) (s : State), s.blk.boot.hold ≠ .none → actsInHold c = false →
    ∃ n : Nat, exec c s = .next { s with blk := s.blk.advance n }

/-- In an operating device, a read of semaphore n by a master that can hold one. (1) Free: the reader becomes HOLDER, with
its device address in HOLDER_DEV when it is another device's firmware, 0 otherwise, and the data has RESULT 1. (2) Held:
nothing changes, and the data has RESULT 1 for the holder, 0 for every other master. The data holds RESULT, HOLDER and
HOLDER_DEV, and of it the bytes that the read addresses leave the block. (R7, R50, R51, R52) -/
def Obligations.SemaphoreReadTakesAFreeSemaphore : Prop :=
  ∀ (s : State) (dt : Nat) (r : Reader) (dev n h : Nat), s.up dt → (s.now dt).answers r → n < 64 → dev < 2 ^ 14 →
    holderCode r.master = some h →
    ((s.now dt).getI uLock F.LOCK.SEM_HOLDER n = 0 →
      exec (.semRead dt r dev n) s = .next ⟨s.pending,
        (((s.now dt).setI uLock F.LOCK.SEM_HOLDER n h).setI uLock F.LOCK.SEM_HOLDER_DEV n (if h = 6 then dev else 0)).emit
          (.readData r.master (bytesOf r.be (1 + h * 16 + (if h = 6 then dev else 0) * 256)))⟩) ∧
    ((s.now dt).getI uLock F.LOCK.SEM_HOLDER n ≠ 0 →
      exec (.semRead dt r dev n) s = .next ⟨s.pending, (s.now dt).emit (.readData r.master (bytesOf r.be
        ((if (s.now dt).semHeld r.master dev n then 1 else 0) + (s.now dt).getI uLock F.LOCK.SEM_HOLDER n * 16 +
          (s.now dt).getI uLock F.LOCK.SEM_HOLDER_DEV n * 256)))⟩)

/-- (1) A read by the current holder of a semaphore returns RESULT 1 and changes nothing. (2) A write by the holder
changes nothing when it writes RESULT 1, and frees the semaphore when it writes 0. (3) A write by a master that does not
hold it changes nothing but is recorded in the error log. (R52) -/
def Obligations.SemaphoreReleaseByItsHolder : Prop :=
  ∀ (s : State) (dt : Nat) (r : Reader) (dev n w h : Nat), s.up dt → (s.now dt).answers r → n < 64 → w < 2 ^ 32 →
    holderCode r.master = some h →
    ((s.now dt).semHeld r.master dev n = true →
      exec (.semRead dt r dev n) s = .next ⟨s.pending, (s.now dt).emit (.readData r.master (bytesOf r.be
        (1 + (s.now dt).getI uLock F.LOCK.SEM_HOLDER n * 16 + (s.now dt).getI uLock F.LOCK.SEM_HOLDER_DEV n * 256)))⟩) ∧
    exec (.semRelease dt r.master dev n w) s = .next ⟨s.pending,
      if (s.now dt).semHeld r.master dev n then
        if w % 2 = 0 then
          ((s.now dt).setI uLock F.LOCK.SEM_HOLDER n 0).setI uLock F.LOCK.SEM_HOLDER_DEV n 0
        else s.now dt
      else (s.now dt).logBy r.master uLock 0x0008 2 n h 0⟩

/-- REGISTER_WRITE by the host, one word with all four byte enables outside D3hot, of ERRLOG.HOST_CFG puts bit 0 of
the data in IRQ_EN and changes nothing else. (R12, R13, R38, R596) -/
def Obligations.RegisterWriteReachesALiveField : Prop :=
  ∀ (s : State) (dt dev w : Nat), s.up dt → w < 2 ^ 32 → (s.now dt).get uHost F.HOST.LINK_D3 = 0 →
    exec (.registerWrite dt .host dev false (regAddress uErrlog 0x11C) 15 1 w) s =
      .next ⟨s.pending, (s.now dt).set uErrlog F.ERRLOG.HOST_CFG_IRQ_EN (w % 2)⟩

/-- A host write with a byte enable missing, a host write to a register of a unit that firmware owns, a write of a
SEAL field by firmware after the seal, and a firmware write of a STAGE field at its own offset each change nothing but
the error log: PARTIAL, NOT_OWNER, SEALED, STAGE_AT_OWN. The registers are examples of their kind: CLK.PSTATE_REQ,
THM.LOW_THR and HOST.ARCH_CFG; the codes are the error log's. (R6, R38, R39, R40, R592) -/
def Obligations.AccessesThatAreDiscarded : Prop :=
  ∀ (s : State) (dt dev w : Nat), s.up dt → w < 2 ^ 32 → (s.now dt).get uHost F.HOST.LINK_D3 = 0 →
    (∀ (addr be n : Nat), addr < 2 ^ 24 → addr % 4 = 0 → be < 15 →
      exec (.registerWrite dt .host dev false addr be n w) s =
        .next ⟨s.pending, (s.now dt).logAt .host (addr / 0x4000) 1 2 addr be w⟩) ∧
    exec (.registerWrite dt .host dev false (regAddress uClk F.CLK.PSTATE_REQ_REQ.off) 15 1 w) s =
      .next ⟨s.pending, (s.now dt).logBy .host uClk 2 2 (regAddress uClk F.CLK.PSTATE_REQ_REQ.off) 0 w⟩ ∧
    ((s.now dt).get uSys F.SYS.BOOT_STAT_SEALED = 1 →
      exec (.registerWrite dt .core1 dev false (regAddress uThm F.THM.LOW_THR_LOW_WARN.off) 15 1 w) s =
        .next ⟨s.pending, (s.now dt).logBy .core1 uThm 3 2 (regAddress uThm F.THM.LOW_THR_LOW_WARN.off) 0 w⟩) ∧
    exec (.registerWrite dt .core1 dev false (regAddress uHost F.HOST.ARCH_CFG_EN.off) 15 1 w) s =
      .next ⟨s.pending, (s.now dt).logBy .core1 uHost 4 2 (regAddress uHost F.HOST.ARCH_CFG_EN.off) 0 w⟩

/-- A staged write by firmware of a register with STAGE fields binds its staged word, the STAGE fields of the word
written over the word staged before, and changes nothing else: no register reads differently. While a commit is
pending at the unit or above it the write has no effect but REFUSED in the unit and an error log record. (R41, R46) -/
def Obligations.StagedWriteChangesNothingInForce : Prop :=
  ∀ (s : State) (dt : Nat) (m : Master) (u : UnitId) (reg w : Nat), s.up dt → m.isFirmware = true →
    u.exists? = true → u.ty ≠ .device → u.ty ≠ .mbxBar2 → (s.now dt).unitOpen u = true →
    reg < 0x1000 → reg % 4 = 0 → w < 2 ^ 32 → ((u.ty.fieldsAt reg).any fun f => f.acc == .stage) = true →
    exec (.stagedWrite dt m u reg w) s = .next ⟨s.pending,
      match (s.now dt).coveringCommit u with
      | some c => ((s.now dt).set u F.COMMON.COMMIT_STAT_REFUSED 1).logBy m u 5 2 (regAddress u (0x2000 + reg)) c.unit.index 0
      | none => { s.now dt with
          staged := bindK (regKey u reg) (BitVec.ofNat 32 (Block.stageMerge u.ty reg ((s.now dt).stagedVal u reg) w)) (s.now dt).staged }⟩

/-- Firmware writes COMMIT of a unit of this device, other than a ring window. (1) With a commit pending at the unit or at
one above or below it nothing changes but REFUSED and the error log. (2) With none, PENDING is 1, BOUNDARY and TAG are
reported, staged values stay, and a commit of the unit, its boundary and its units waits behind those that wait, its line
not entered. It has an effective line at once only when a line is in flight and the boundary is not epoch; COMMIT_LINE and
COMMIT_PAGE then show that line and page; else no register changes but COMMIT_STAT. (R42, R43, R46) -/
def Obligations.CommitStartsOrIsRefused : Prop :=
  ∀ (s : State) (dt : Nat) (m : Master) (u : UnitId) (bnd : Boundary) (tag : Nat), s.up dt → m.isFirmware = true →
    u.exists? = true → u.ty ≠ .device → u.ty ≠ .mbxBar2 → tag < 256 →
    let now := s.now dt
    let b := now.commitBoundary u bnd
    (∀ c, now.relatedCommit u = some c →
      exec (.commit dt m u bnd tag) s = .next ⟨s.pending,
        (now.set u F.COMMON.COMMIT_STAT_REFUSED 1).logBy m u 5 2 (regAddress u 0x44) c.unit.index 0⟩) ∧
    (now.relatedCommit u = none →
      ∃ (t : Block) (eff : Option (Nat × Nat)), exec (.commit dt m u bnd tag) s = .next ⟨s.pending, t⟩ ∧
        t.commits = now.commits ++ [⟨u, b, eff, Block.commitUnits u, false, none, 0, now.lt⟩] ∧ t.staged = now.staged ∧
        t.get u F.COMMON.COMMIT_STAT_PENDING = 1 ∧ t.get u F.COMMON.COMMIT_STAT_BOUNDARY = b.rank ∧
        t.get u F.COMMON.COMMIT_STAT_TAG = tag ∧
        (now.trig.lines = [] ∨ b = .epoch → eff = none) ∧
        (eff = none → now.keepsRegs t [(u, F.COMMON.COMMIT_STAT_PENDING.off)]) ∧
        ∀ line page, eff = some (line, page) →
          t.rd u 0x4C = line % 2 ^ 32 ∧ t.rd u 0x50 = line / 2 ^ 32 % 2 ^ 16 ∧ t.rd u 0x54 = page % 2 ^ 32)

/-- Firmware writes CANCEL at a unit of this device, other than a ring window, while no request and no group of the ring
waits for a commit. (1) A commit pends there whose line has not entered it: PENDING falls, CANCELLED is set, the commit
waits no longer, and nothing else changes. (2) No such commit: the write has no effect but REFUSED and the error log.
(R47) -/
def Obligations.CommitWithdrawn : Prop :=
  ∀ (s : State) (dt : Nat) (m : Master) (u : UnitId), s.up dt → m.isFirmware = true →
    u.exists? = true → u.ty ≠ .device → u.ty ≠ .mbxBar2 → (s.now dt).mbx.deferred = [] → (s.now dt).ring.groups = [] →
    exec (.commitCancel dt m u) s = .next ⟨s.pending,
      match (s.now dt).commits.find? fun c => c.unit == u && Block.notEntered c with
      | some c => { ((s.now dt).set u F.COMMON.COMMIT_STAT_PENDING 0).set u F.COMMON.COMMIT_STAT_CANCELLED 1 with
          commits := (s.now dt).commits.erase c }
      | none => ((s.now dt).set u F.COMMON.COMMIT_STAT_REFUSED 1).logBy m u 5 2 (regAddress u 0x44)
          ((((s.now dt).relatedCommit u).map Commit.unit).getD u).index 1⟩

/-- SRAM_SCRUB at word a of unit u's memory. The upset first: the flipped bits of the word become those before it
exclusive-or those that flip, every other word and the rest of the block stay. Then, if the scrubber visits the word:
(1) no bit flipped: nothing; (2) one: the word holds no flipped bit any more and the corrected-error counter counts it;
(3) two or more: the uncorrectable-error counter counts it, and it is recorded with the unit and the word's address, the
word as it was. Flipping more than two bits is the model's case of log entry 67. (R54, R55, R56, R595) -/
def Obligations.ScrubberCountsAndMarks : Prop :=
  ∀ (s : State) (dt : Nat) (u : UnitId) (a : Nat) (e : Upset), s.up dt →
    ∃ t : Block, { t with sram := (s.now dt).sram } = s.now dt ∧
      t.sramFlips u a = (if e.flips % 2 ^ 39 = 0 then (s.now dt).sramFlips u a
        else Nat.xor ((s.now dt).sramFlips u a) (e.flips % 2 ^ 39) % 2 ^ 39) ∧
      (∀ v c, (v, c) ≠ (u, a) → t.sramFlips v c = (s.now dt).sramFlips v c) ∧
      (e.visit = false → exec (.sramScrub dt u a e) s = .next ⟨s.pending, t⟩) ∧
      (e.visit = true → t.sramWeight u a = 0 → exec (.sramScrub dt u a e) s = .next ⟨s.pending, t⟩) ∧
      (e.visit = true → t.sramWeight u a = 1 →
        ∃ b : Block, exec (.sramScrub dt u a e) s = .next ⟨s.pending, b.inc uErrlog F.ERRLOG.CNT_SRAM_CE_COUNT⟩ ∧
          { b with sram := t.sram } = t ∧ b.sramFlips u a = 0 ∧
          ∀ v c, (v, c) ≠ (u, a) → b.sramFlips v c = t.sramFlips v c) ∧
      (e.visit = true → 2 ≤ t.sramWeight u a →
        exec (.sramScrub dt u a e) s = .next ⟨s.pending,
          (t.inc uErrlog F.ERRLOG.CNT_SRAM_UE_COUNT).log u 0x0010 2 a 0 0⟩)

/-- COMMIT_APPLY at unit u of a line in flight or due, with its page, page line index and first mark. One commit pends, of
this unit alone, of boundary line, block or page; the line is its effective line, or it has none yet, the unit is one that
lines enter when they are triggered, and the due line was decided after the commit and lies on its boundary. The line
stands at the unit; no request, no group of the ring and no record of a context waits, and a line is decided or no page in
progress. The unit is none of those where new values start something more: ring windows, contexts, camera ports, SENSE,
WEB, TANGO, axes. Then (1) no commit pends, PENDING is 0, DONE is 1; (2) the staged values of the unit leave the staged
image and the others stay; (3) each register at 0x100 to 0xFFF reads, where it had a staged word, the STAGE fields of that
word over its other bits, else as before; (4) if the line was not fixed before, COMMIT_LINE and COMMIT_PAGE show it.
(5) A line that is neither in flight nor due: nothing changes. (R42, R43, R44, R45) -/
def Obligations.CommitTakesEffectAtItsLine : Prop :=
  ∀ (s : State) (dt : Nat) (u : UnitId) (line page pageLine : Nat) (first : Bool), s.up dt →
    let now := s.now dt
    let flying := now.dueLine.toList ++ now.trig.lines
    (now.trig.decided ≠ [] ∨ now.refs.binds = []) →
    (∀ (bnd : Boundary) (eff : Option (Nat × Nat)) (d : Decided) (at_ : Nat),
      u.exists? = true → u.ty ∉ [.device, .mbxBar2, .ctx, .camp, .sense, .web, .tango, .axis] → bnd ≠ .epoch →
      now.commits = [⟨u, bnd, eff, [u], false, none, 0, at_⟩] →
      (eff = some (line, page) ∨
        eff = none ∧ Block.atTrigger u = true ∧ at_ < d.at_ ∧ Block.onBoundary bnd pageLine first = true) →
      (flying.find? fun x => x.line == line) = some d → d.page = page → d.pageLine = pageLine → d.first = first →
      now.atDoor u line = true → now.mbx.deferred = [] → now.ring.groups = [] → (∀ x < 32, (now.ctx x).off = none) →
      (now.staged.map Prod.fst).Nodup →
      ∃ b : Block, exec (.commitApply dt u line page pageLine first) s = .next ⟨s.pending, b⟩ ∧
        b.commits = [] ∧ b.get u F.COMMON.COMMIT_STAT_PENDING = 0 ∧ b.get u F.COMMON.COMMIT_STAT_DONE = 1 ∧
        b.staged = (now.staged.filter fun p => keyUnit p.1 != some u) ∧
        (∀ reg w, 0x100 ≤ reg → reg < 0x1000 → (regKey u reg, w) ∈ now.staged →
          b.rd u reg = Block.stageMerge u.ty reg (now.rd u reg) w.toNat % 2 ^ 32) ∧
        (∀ reg, 0x100 ≤ reg → reg < 0x1000 → (∀ w, (regKey u reg, w) ∉ now.staged) → b.rd u reg = now.rd u reg) ∧
        (eff = none → (∀ w, (regKey u 0x4C, w) ∉ now.staged ∧ (regKey u 0x50, w) ∉ now.staged ∧
            (regKey u 0x54, w) ∉ now.staged) →
          b.rd u 0x4C = line % 2 ^ 32 ∧ b.rd u 0x50 = line / 2 ^ 32 % 2 ^ 16 ∧ b.rd u 0x54 = page % 2 ^ 32)) ∧
    ((∀ d ∈ flying, d.line ≠ line) →
      exec (.commitApply dt u line page pageLine first) s = .next ⟨s.pending, now⟩)

/-- Without a latched shutdown, and with the supplies, the BOOTSEL straps, the oscillator and the fuses good and the flash
not answering yet, (1) POWER_ON while PORn is low and (2) SUPPLY_RESTORED while PORn is high and a supply was out each boot
the device to PHASE 4: PORn, in the second case the supplies, are marked good, no hold, BOOTSEL latched, the lifecycle state
shown, the clock monitor armed, fuses and flash as they were. (R64, R75, R91, R96, R124) -/
def Obligations.PowerOnBootsToTheFlash : Prop :=
  ∀ (s : State) (dt : Nat) (env : BootEnv), (s.now dt).boot.latch = false →
    env.supplies = true → env.bootsel % 4 ≠ 3 →
    env.oscStable = true → env.fuseOk = true → (s.now dt).fuses.lifeOk = true → (s.now dt).fuses.life ≠ 7 →
    env.wipeOk = true → env.flashUp = false →
    ((s.now dt).boot.porn = false → ∃ b : Block, exec (.powerOn dt env) s = .next ⟨s.pending, b⟩ ∧ b.boot.porn = true ∧
        b.get uSys F.SYS.STRAPS_BOOTSEL = env.bootsel % 4 ∧ b.boot.hold = .none ∧ b.get uSys F.SYS.BOOT_STAT_PHASE = 4 ∧
        b.get uSys F.SYS.LIFECYCLE_STATE = (s.now dt).fuses.life ∧ b.get uClk F.CLK.SRC_STAT_ARMED = 1 ∧
        b.fuses = (s.now dt).fuses ∧ b.flash = (s.now dt).flash) ∧
    ((s.now dt).boot.porn = true → (s.now dt).boot.supplies = false →
      ∃ b : Block, exec (.supplyRestored dt env) s = .next ⟨s.pending, b⟩ ∧ b.boot.supplies = true ∧
        b.get uSys F.SYS.STRAPS_BOOTSEL = env.bootsel % 4 ∧ b.boot.hold = .none ∧ b.get uSys F.SYS.BOOT_STAT_PHASE = 4 ∧
        b.get uSys F.SYS.LIFECYCLE_STATE = (s.now dt).fuses.life ∧ b.get uClk F.CLK.SRC_STAT_ARMED = 1 ∧
        b.fuses = (s.now dt).fuses ∧ b.flash = (s.now dt).flash)

/-- POWER_ON without a latched shutdown. (1) Without a stable oscillator the device waits at PHASE 1. (2) It ends in the
hold of R82 with the code of the first of these that fails: 0x1 a supply, 0xC BOOTSEL 0b11, 0x3 the fuse check, 0x4 the
lifecycle pattern, 0xF SCRAPPED, 0xB the wipe read-back, 0x5 no SFDP table; its last four outputs put the code on
GPIO[15:12]. (R75, R82) -/
def Obligations.BootStopsWithItsCode : Prop :=
  ∀ (s : State) (dt : Nat) (env : BootEnv), (s.now dt).boot.latch = false → (s.now dt).boot.porn = false →
    (env.supplies = true → env.bootsel % 4 ≠ 3 → env.oscStable = false →
      ∃ b : Block, exec (.powerOn dt env) s = .next ⟨s.pending, b⟩ ∧ b.boot.hold = .none ∧ b.get uSys F.SYS.BOOT_STAT_PHASE = 1) ∧
    (∀ code,
      (env.supplies = false ∧ code = 1 ∨ env.supplies = true ∧ env.bootsel % 4 = 3 ∧ code = 0xC ∨
        env.supplies = true ∧ env.bootsel % 4 ≠ 3 ∧ env.oscStable = true ∧
          (env.fuseOk = false ∧ code = 3 ∨ env.fuseOk = true ∧
            ((s.now dt).fuses.lifeOk = false ∧ code = 4 ∨ (s.now dt).fuses.lifeOk = true ∧
              ((s.now dt).fuses.life = 7 ∧ code = 0xF ∨ (s.now dt).fuses.life ≠ 7 ∧
                (env.wipeOk = false ∧ code = 0xB ∨ env.wipeOk = true ∧ env.flashUp = true ∧ env.flashTable = false ∧ code = 5))))) →
      ∃ b : Block, exec (.powerOn dt env) s = .next ⟨s.pending, b⟩ ∧ b.boot.hold = .bootfail code ∧
        b.out.take 4 = [.pin (.gpio 15) (bit code 3), .pin (.gpio 14) (bit code 2), .pin (.gpio 13) (bit code 1),
          .pin (.gpio 12) (bit code 0)])

/-- (1) DEV_RESET and (2) CORE_WATCHDOG of a running core reset an operating device whose oscillator, fuses and wipe are
good and whose flash does not answer: RST_CAUSE shows 4, by BOOT_CTL, or 2, by a watchdog; BOOTSEL stays; nothing staged,
no commit, no mailbox content, no DMA access and no DRAM content is left; boot has run from step 2 to PHASE 4 with the
lifecycle state shown, the clock monitor armed, no hold; fuses and flash are as they were. (R75, R84, R85, R86) -/
def Obligations.DeviceResetWipesAndBoots : Prop :=
  ∀ (s : State) (dt k : Nat) (env : BootEnv), s.up dt →
    env.oscStable = true → env.fuseOk = true → (s.now dt).fuses.lifeOk = true → (s.now dt).fuses.life ≠ 7 →
    env.wipeOk = true → env.flashUp = false →
    ∀ c cause, (c = .devReset dt env ∧ cause = 4 ∨
        c = .coreWatchdog dt k env ∧ nth (s.now dt).boot.cores k false = true ∧ cause = 2) →
      ∃ b : Block, exec c s = .next ⟨s.pending, b⟩ ∧ b.get uSys F.SYS.RST_CAUSE_CAUSE = cause ∧
        b.get uSys F.SYS.STRAPS_BOOTSEL = (s.now dt).get uSys F.SYS.STRAPS_BOOTSEL ∧
        b.staged = [] ∧ b.commits = [] ∧ b.mbx = Block.initial.mbx ∧ b.dma.flight = [] ∧ b.dmc = Block.initial.dmc ∧
        b.boot.hold = .none ∧ b.get uSys F.SYS.BOOT_STAT_PHASE = 4 ∧
        b.get uSys F.SYS.LIFECYCLE_STATE = (s.now dt).fuses.life ∧ b.get uClk F.CLK.SRC_STAT_ARMED = 1 ∧
        b.fuses = (s.now dt).fuses ∧ b.flash = (s.now dt).flash

/-- Without a latched shutdown, (1) POR_FALL and (2) SUPPLY_OUT_OF_RANGE leave the device in its hold, for PORn low or for a
supply, the level of PORn and the supplies known; everything else but the fuses, the flash, the outputs, the boot state and
the numbering of free values and of accesses is as after power-on. (R82, R85, R86, R124) -/
def Obligations.PowerLossWipes : Prop :=
  ∀ (s : State) (dt : Nat), (s.now dt).boot.latch = false →
    let wiped (b : Block) : Prop := b.fuses = (s.now dt).fuses ∧ b.flash = (s.now dt).flash ∧
      { b with fuses := Block.initial.fuses, flash := Block.initial.flash, out := Block.initial.out
               boot := Block.initial.boot, freeCtr := Block.initial.freeCtr
               dma := { b.dma with nextId := Block.initial.dma.nextId } } = Block.initial
    (∃ b : Block, exec (.porFall dt) s = .next ⟨s.pending, b⟩ ∧ b.boot.hold = .por ∧ b.boot.porn = false ∧ wiped b) ∧
    (∃ b : Block, exec (.supplyOutOfRange dt) s = .next ⟨s.pending, b⟩ ∧ b.boot.supplies = false ∧
      b.boot.hold = (if (s.now dt).boot.porn then .supply else .por) ∧ wiped b)

/-- (1) PERSTN_RISE in a device that does not hold, once an image has verified, marks PERSTn high, enables link training and
changes nothing else. (2) PERSTN_FALL_BEFORE_RUNNING marks PERSTn low and leaves no link and no training, MSI-X off and no
pending bit set. (R75, R480) -/
def Obligations.PerstnStartsAndStopsTheLink : Prop :=
  ∀ (s : State) (dt : Nat),
    ((s.now dt).boot.hold = .none → (s.now dt).boot.sigSeen = true →
      exec (.perstnRise dt) s = .next ⟨s.pending, { s.now dt with
        boot := { (s.now dt).boot with perstn := true }, host := { (s.now dt).host with training := true } }⟩) ∧
    ((s.now dt).isRunning = false →
      ∃ b : Block, exec (.perstnFallBeforeRunning dt) s = .next ⟨s.pending, b⟩ ∧ b.boot.perstn = false ∧
        b.host.training = false ∧ b.host.msixEnable = false ∧ b.host.pba = [] ∧ b.get uHost F.HOST.LINK_UP = 0)

/-- In a device that does not hold, (1) OSC_STABLE_TIMEOUT at PHASE 1 holds with BOOTFAIL 0x2, (2) FLASH_TIMEOUT at PHASE 4
with 0x5, (3) ALIVE_TIMEOUT, 100 ms after the release of cores of which core 0 has not shown itself, with 0xA. The last four
outputs put the code on GPIO[15:12] and the link is down; every port is OFF, stated where none was UP and the bypass
neither open nor opening. (R75, R82, R96) -/
def Obligations.BootTimeoutsHold : Prop :=
  ∀ (s : State) (dt : Nat), (s.now dt).boot.hold = .none →
    ∀ c code,
      (c = .oscStableTimeout dt ∧ (s.now dt).get uSys F.SYS.BOOT_STAT_PHASE = 1 ∧ code = 2 ∨
        c = .flashTimeout dt ∧ (s.now dt).get uSys F.SYS.BOOT_STAT_PHASE = 4 ∧ code = 5 ∨
        c = .aliveTimeout dt ∧ 8 ≤ (s.now dt).get uSys F.SYS.BOOT_STAT_PHASE ∧ (s.now dt).on uSys F.SYS.BOOT_CTL_ALIVE = false ∧
          (s.now dt).boot.began = false ∧ 100000000 ≤ (s.now dt).since (s.now dt).boot.coreLt ∧ code = 0xA) →
      ∃ b : Block, exec c s = .next ⟨s.pending, b⟩ ∧ b.boot.hold = .bootfail code ∧ b.get uHost F.HOST.LINK_UP = 0 ∧
        ((∀ p < 16, (s.now dt).portState p ≠ 8) → (s.now dt).ser.opening = false →
          (s.now dt).on uSerdes F.SERDES.BYPASS_STAT_OPEN = false → ∀ p < 16, b.portState p = 0) ∧
        b.out.take 4 = [.pin (.gpio 15) (bit code 3), .pin (.gpio 14) (bit code 2), .pin (.gpio 13) (bit code 1),
          .pin (.gpio 12) (bit code 0)]

/-- In an operating device, (1) SEAL sets SEALED and PHASE 9, with DEADLINE 0, and (2) SEAL_DEADLINE, SYS.SEAL_DEADLINE.MS
milliseconds after the release of the cores, does so with DEADLINE 1; nothing else changes. (3) Both leave a sealed device
as it is. (R75, R80) -/
def Obligations.SealFixesTheConfiguration : Prop :=
  ∀ (s : State) (dt : Nat), s.up dt →
    ((s.now dt).on uSys F.SYS.BOOT_STAT_SEALED = false →
      exec (.seal dt) s = .next ⟨s.pending, (((s.now dt).set uSys F.SYS.BOOT_STAT_SEALED 1).set uSys
        F.SYS.BOOT_STAT_DEADLINE 0).set uSys F.SYS.BOOT_STAT_PHASE 9⟩ ∧
      (1000000 * (s.now dt).get uSys F.SYS.SEAL_DEADLINE_MS ≤ (s.now dt).since (s.now dt).boot.coreLt →
        exec (.sealDeadline dt) s = .next ⟨s.pending, (((s.now dt).set uSys F.SYS.BOOT_STAT_SEALED 1).set uSys
          F.SYS.BOOT_STAT_DEADLINE 1).set uSys F.SYS.BOOT_STAT_PHASE 9⟩)) ∧
    ((s.now dt).on uSys F.SYS.BOOT_STAT_SEALED = true →
      exec (.seal dt) s = .next ⟨s.pending, s.now dt⟩ ∧ exec (.sealDeadline dt) s = .next ⟨s.pending, s.now dt⟩)

/-- (1) The first ALIVE of an operating device: ALIVE is set, the second copies of the lifecycle and of the key fuses are
completed, the AVSBus is asked for control, for the slew rate of PSTATE_CFG and for P1's voltage, the set point is that
voltage, then in this order a Voltage read, the request for P1, the start of DRAM training (DMC.STAT 1), the lane table, the
journal's read, the start of every port whose conditions hold. (2) A further ALIVE changes nothing. (R73, R75, R91, R113,
R145, R615) -/
def Obligations.AliveBringsTheFirmwareUp : Prop :=
  ∀ (s : State) (dt : Nat) (flashOk : Bool), s.up dt →
    let b := s.now dt
    let mv := b.getI uClk F.CLK.PVOLT_MV 1
    (b.boot.began = false →
      let fused : Block := { b.set uSys F.SYS.BOOT_CTL_ALIVE 1 with
        boot := { b.boot with began := true }
        fuses := { b.fuses with
          lifeB := b.fuses.lifeA
          keys := b.fuses.keys.map fun k => { k with fusedB := k.fused, revokedB := k.revoked } } }
      let powered := fused.emits [.avs 15 none, .avs 1 (some (b.get uClk F.CLK.PSTATE_CFG_SLEW)), .avs 0 (some mv)]
      let asked := (({ powered with clk := { b.clk with vcore := mv } } : Block).voltageRead.pstateReq 1).set
        uDmc F.DMC.STAT_STATE 1
      exec (.alive dt flashOk) s = .next ⟨s.pending, (asked.laneTables.journalRead flashOk).portsEnable⟩) ∧
    (b.boot.began = true → exec (.alive dt flashOk) s = .next ⟨s.pending, b⟩)

/-- (1) DRAM_TRAINING_DONE in an operating device whose firmware has begun and whose DRAM has not been trained leaves
DMC.STAT at 2, to be wiped, or at 5, unavailable, when a channel did not train. (2) DRAM_WIPE_DONE of a DRAM to be wiped
leaves DMC.STAT at 3, every byte of DRAM zero, WIPE.DONE set. (R86, R478) -/
def Obligations.DramComesUpInBoot : Prop :=
  ∀ (s : State) (dt : Nat) (ok : Bool) (eyes : List (Nat × Nat)), s.up dt →
    ((s.now dt).boot.began = true → (s.now dt).get uDmc F.DMC.STAT_STATE ≤ 1 →
      ∃ b : Block, exec (.dramTrainingDone dt ok eyes) s = .next ⟨s.pending, b⟩ ∧
        b.get uDmc F.DMC.STAT_STATE = if ok then 2 else 5) ∧
    ((s.now dt).get uDmc F.DMC.STAT_STATE = 2 →
      ∃ b : Block, exec (.dramWipeDone dt) s = .next ⟨s.pending, b⟩ ∧ b.get uDmc F.DMC.STAT_STATE = 3 ∧
        b.get uDmc F.DMC.WIPE_DONE = 1 ∧ b.dmc.mem = [])

/-- RUNNING in an operating device that may run (firmware begun, PHASE 9, DRAM wiped or unavailable) leaves PHASE 10. Stated
where nothing waits for it: no held DMA GO, no request, no message of another device, no doorbell, no zone at its throttle
threshold, no SerDes reference, the ring not configured. (R75, R83) -/
def Obligations.RunningIsPhaseTen : Prop :=
  ∀ (s : State) (dt : Nat), s.up dt → (s.now dt).mayRun = true →
    (∀ n < 56, ((s.now dt).chan n).heldGo = false) → (s.now dt).mbx.wordWaiting = none → (s.now dt).mbx.blockWaiting = none →
    (s.now dt).mbx.outbox = [] → (s.now dt).boot.earlyBells = [] → (s.now dt).ring.inbox = [] →
    (s.now dt).zoneAt F.THM.HIGH_THR_THROTTLE = none → (s.now dt).on uClk F.CLK.SRC_STAT_REF_OK = false →
    (s.now dt).on uRing F.RING.CFG_EN = false →
    ∃ b : Block, exec (.running dt) s = .next ⟨s.pending, b⟩ ∧ b.get uSys F.SYS.BOOT_STAT_PHASE = 10

/-- (1) CORE_RESET of core 1 or 3, while no request waits in that core, frees every semaphore the core holds, leaves every
other one, and clears the core's pending interrupt lines and no other. (2) CORE_RESET of core 2 leaves both PTP domains
unusable. (3) HOST_PORT_RESET, by a hot reset, a function-level reset or DL_Down while the link is up, or by PERSTn while
RUNNING, leaves MSI-X and its function mask off, its table as after reset, and no request held and no store waiting in the
mailboxes; after all but the function-level reset the link is down. (R53, R84, R213, R485, R519, R585) -/
def Obligations.CoreAndHostPortResets : Prop :=
  ∀ (s : State) (dt : Nat), s.up dt →
    (∀ c, c = 1 ∨ c = 3 → ((s.now dt).mbx.deferred.filter fun d => d.core == c) = [] →
      ∃ b : Block, exec (.coreReset dt c) s = .next ⟨s.pending, b⟩ ∧
        (∀ n < 64, b.getI uLock F.LOCK.SEM_HOLDER n =
          if (s.now dt).getI uLock F.LOCK.SEM_HOLDER n = c + 2 then 0 else (s.now dt).getI uLock F.LOCK.SEM_HOLDER n) ∧
        b.evt = { (s.now dt).evt with irqLines := (s.now dt).evt.irqLines.filter fun n => n / 32 != c }) ∧
    (∃ b : Block, exec (.coreReset dt 2) s = .next ⟨s.pending, b⟩ ∧ b.get uTime F.TIME.STATE_USABLE_A = 0 ∧
      b.get uTime F.TIME.STATE_USABLE_B = 0) ∧
    (∀ kind, kind ≤ 2 ∧ (s.now dt).on uHost F.HOST.LINK_UP = true ∨
        kind = 3 ∧ (s.now dt).isRunning = true ∧ (s.now dt).boot.perstn = true →
      ∃ b : Block, exec (.hostPortReset dt kind) s = .next ⟨s.pending, b⟩ ∧ b.host.msixEnable = false ∧
        b.host.functionMask = false ∧ b.host.msix = Block.initial.host.msix ∧ b.mbx.held = [] ∧ b.mbx.outbox = [] ∧
        (kind ≠ 1 → b.get uHost F.HOST.LINK_UP = 0))

/-- With the monitor armed. (1) WATCH_FAIL of a good watch oscillator, (2) XTAL_FAIL of a good crystal past its grace time
and (3) PLL_FAIL of a watched PLL clear the source's OK or lock and set its MON_STAT bit, recorded in the error log, and
change nothing else, but that the crystal's failure also moves the PLLs to the ITO and raises producer 0, and a failed
PLL_DDR is remembered. (4) ITO_FAIL holds the device with BOOTFAIL 0x2 while the watch oscillator or the crystal is good;
with neither it changes nothing. (5) REF_FAIL of a good reference past its grace time drives FAULTn low. (6) REF_RECOVERED
with core 2 stopped marks the reference good and starts the ports that wait for it. (R97, R98, R99, R100) -/
def Obligations.ClockFailuresAreMarked : Prop :=
  ∀ (s : State) (dt : Nat), (s.now dt).armed = true →
    let b := s.now dt
    (b.on uClk F.CLK.SRC_STAT_WATCH_OK = true →
      exec (.watchFail dt) s = .next ⟨s.pending,
        ((b.set uClk F.CLK.SRC_STAT_WATCH_OK 0).set uClk F.CLK.MON_STAT_WATCH_FAIL 1).log uClk 0x0020 2 1 0 0⟩) ∧
    (b.graceOver = true → b.on uClk F.CLK.SRC_STAT_XTAL_OK = true →
      exec (.xtalFail dt) s = .next ⟨s.pending,
        ((((b.set uClk F.CLK.SRC_STAT_XTAL_OK 0).set uClk F.CLK.MON_STAT_XTAL_FAIL 1).set
          uClk F.CLK.SRC_STAT_ON_ITO 1).log uClk 0x0020 2 2 0 0).raise 0⟩) ∧
    (∀ ddr, b.pllWatched ddr = true →
      ∃ t : Block, exec (.pllFail dt ddr) s = .next ⟨s.pending, t.log uClk 0x0020 2 (if ddr then 4 else 3) 0 0⟩ ∧
        t.keepsRegs b [(uClk, F.CLK.SRC_STAT_DDR_LOCK.off), (uClk, F.CLK.MON_STAT_PLL_FAIL.off)] ∧
        t.get uClk F.CLK.MON_STAT_PLL_FAIL = 1 ∧
        t.get uClk F.CLK.SRC_STAT_DDR_LOCK = (if ddr then 0 else b.get uClk F.CLK.SRC_STAT_DDR_LOCK) ∧
        t.get uClk F.CLK.SRC_STAT_SYS_LOCK = (if ddr then b.get uClk F.CLK.SRC_STAT_SYS_LOCK else 0) ∧
        { t with regs := b.regs, clk := b.clk } = b ∧ t.clk = { b.clk with ddrFailed := b.clk.ddrFailed || ddr }) ∧
    (b.on uClk F.CLK.SRC_STAT_WATCH_OK = true ∨ b.on uClk F.CLK.SRC_STAT_XTAL_OK = true →
      ∃ t : Block, exec (.itoFail dt) s = .next ⟨s.pending, t⟩ ∧ t.boot.hold = .bootfail 2) ∧
    (b.on uClk F.CLK.SRC_STAT_WATCH_OK = false → b.on uClk F.CLK.SRC_STAT_XTAL_OK = false →
      exec (.itoFail dt) s = .next ⟨s.pending, b⟩) ∧
    (b.graceOver = true → b.on uClk F.CLK.SRC_STAT_REF_OK = true →
      ∃ t : Block, exec (.refFail dt) s = .next ⟨s.pending, t⟩ ∧ .pin .faultn false ∈ t.out) ∧
    (b.on uClk F.CLK.SRC_STAT_REF_OK = false → nth b.boot.cores 2 false = false →
      exec (.refRecovered dt) s = .next ⟨s.pending, (b.set uClk F.CLK.SRC_STAT_REF_OK 1).portsEnable⟩)

/-- Gate node g of an operating device. GATE_CLOSE of an open gateable node that no close waits at: (1) while a child runs
it is refused, REFUSED set, the node open; (2) with an access in progress and no child running it waits, CLOSE set, the node
open; (3) else the clock stops: OPEN 0, CLOSE 1, no close waits there, PLL_DDR unlocked under node 6, a port of the node OFF.
(4) GATE_CLOSED ends a waiting close in the same way. (5) GATE_TIMEOUT of a close that has waited 1 ms abandons it: TIMEOUT
and its MON_STAT bit set, the node as it was. (6) GATE_OPEN leaves the node and its ancestors open and then starts the ports
that may run and, when it has opened node 4, SENSE's channels anew. (R102, R103, R104, R106, R232) -/
def Obligations.GateRequestsOpenAndClose : Prop :=
  ∀ (s : State) (dt g : Nat), s.up dt → g < 42 →
    let b := s.now dt
    let cut : Block := ({ b with clk := { b.clk with closing := b.clk.closing.filter (· != g) } }.setI
      uClk F.CLK.GATE_OPEN g 0).setI uClk F.CLK.GATE_CLOSE g 1
    let stopped := (List.range 16).foldl (fun t p => if portNode p = g then t.portOff p else t)
      (if g = 6 then cut.set uClk F.CLK.SRC_STAT_DDR_LOCK 0 else cut)
    (∀ busy, gateable g = true → b.nodeOpen g = true → b.clk.closing.contains g = false →
      ((∃ c ∈ gateChildren g, b.nodeOpen c = true) →
        ∃ t : Block, exec (.gateClose dt g busy) s = .next ⟨s.pending, t⟩ ∧ t.getI uClk F.CLK.GATE_REFUSED g = 1 ∧
          t.nodeOpen g = true ∧ t.clk = b.clk) ∧
      ((∀ c ∈ gateChildren g, b.nodeOpen c = false) → busy = true →
        ∃ t : Block, exec (.gateClose dt g busy) s = .next ⟨s.pending, t⟩ ∧ t.getI uClk F.CLK.GATE_CLOSE g = 1 ∧
          t.nodeOpen g = true ∧ t.clk.closing = b.clk.closing ++ [g]) ∧
      ((∀ c ∈ gateChildren g, b.nodeOpen c = false) → busy = false →
        exec (.gateClose dt g busy) s = .next ⟨s.pending, stopped⟩)) ∧
    (b.clk.closing.contains g = true → exec (.gateClosed dt g) s = .next ⟨s.pending, stopped⟩) ∧
    (b.clk.closing.contains g = true → 1000000 ≤ b.since (lookupD g 0 b.clk.closingAt) →
      ∃ t : Block, exec (.gateTimeout dt g) s = .next ⟨s.pending, t⟩ ∧ t.getI uClk F.CLK.GATE_TIMEOUT g = 1 ∧
        t.get uClk F.CLK.MON_STAT_GATE_TIMEOUT = 1 ∧ t.nodeOpen g = b.nodeOpen g ∧
        t.clk.closing = b.clk.closing.filter (· != g)) ∧
    ∃ t : Block, t.nodeOpen g = true ∧ (∀ a ∈ gateAncestors g, t.nodeOpen a = true) ∧
      exec (.gateOpen dt g) s = .next ⟨s.pending,
        if b.nodeOpen 4 = false ∧ t.portsEnable.nodeOpen 4 = true then t.portsEnable.senseReopen else t.portsEnable⟩

/-- In an operating device, (1) TMON_WINDOW writes each ungated monitor's scaled reading and keeps the smaller minimum, a
gated monitor keeping both; the sequencer's tempo check, the governor's evaluation and the strips' loads follow on that
state. (2) CLEAR_MIN sets every minimum to 0xFFF, the readings staying. (3) CLEAR_PEAK of THM sets every sensor's peak to
0x800, the temperatures staying; of a strip it clears the load peak and the longest wait, the load staying. (4)
GOVERNOR_DESCEND of an enabled governor above level 0, RELAX_MS after the lower level began to fit, leaves the level one
lower and the period ended, and then lets the streams go on. (R110, R111, R125, R139, R425) -/
def Obligations.TempoIsMeasuredAndKept : Prop :=
  ∀ (s : State) (dt : Nat), s.up dt →
    (∀ raw loads,
      ∃ b : Block, exec (.tmonWindow dt raw loads) s = .next ⟨s.pending, (b.tempoCheck.govIdle.govWindow).stripLoads loads⟩ ∧
        ∀ m < 25,
          let v := Block.tmonReading (raw.getD m 0) ((s.now dt).getI uCal F.CAL.TMON_SCALE_SCALE m)
          let old := (s.now dt).getI uClk F.CLK.TMON_MIN m
          ((s.now dt).onI uClk F.CLK.TMON_GATED m = false →
            b.getI uClk F.CLK.TMON_TEMPO m = v ∧ b.getI uClk F.CLK.TMON_MIN m = Nat.min old v) ∧
          ((s.now dt).onI uClk F.CLK.TMON_GATED m = true →
            b.getI uClk F.CLK.TMON_TEMPO m = (s.now dt).getI uClk F.CLK.TMON_TEMPO m ∧ b.getI uClk F.CLK.TMON_MIN m = old)) ∧
    (∃ b : Block, exec (.clearMin dt) s = .next ⟨s.pending, b⟩ ∧ (∀ m < 25, b.getI uClk F.CLK.TMON_MIN m = 0xFFF ∧
      b.getI uClk F.CLK.TMON_TEMPO m = (s.now dt).getI uClk F.CLK.TMON_TEMPO m)) ∧
    (∃ b : Block, exec (.clearPeak dt none) s = .next ⟨s.pending, b⟩ ∧ (∀ k < 24, b.getI uThm F.THM.SENSOR_PEAK k = 0x800 ∧
      b.getI uThm F.THM.SENSOR_TEMP k = (s.now dt).getI uThm F.THM.SENSOR_TEMP k)) ∧
    (∀ k < 8, ∃ b : Block, exec (.clearPeak dt (some k)) s = .next ⟨s.pending, b⟩ ∧ b.get (uStrip k) F.STRIP.LOAD_PEAK = 0 ∧
      b.get (uStrip k) F.STRIP.WAIT_MAX_NS = 0 ∧
      b.get (uStrip k) F.STRIP.LOAD_LOAD = (s.now dt).get (uStrip k) F.STRIP.LOAD_LOAD) ∧
    (∀ t, (s.now dt).gov.relaxSince = some t → (s.now dt).on uLatgov F.LATGOV.CFG_EN = true →
      0 < (s.now dt).get uLatgov F.LATGOV.STAT_LEVEL →
      (s.now dt).get uLatgov F.LATGOV.CFG_RELAX_MS * 1000000 ≤ (s.now dt).since t →
      ∃ b : Block, exec (.governorDescend dt) s = .next ⟨s.pending, b.feedAll⟩ ∧ b.gov.relaxSince = none ∧
        b.get uLatgov F.LATGOV.STAT_LEVEL = (s.now dt).get uLatgov F.LATGOV.STAT_LEVEL - 1)

/-- In an operating device whose firmware has begun. (1) PSTATE_TARGET with the sequencer idle sets REQ, if it names one, and
TARGET to the slower of REQ and CAP, and unless that is CURRENT starts the change, with BUSY. PSTATE_CHANGE_DONE, no
configuration of the governor pending: (2) of a downward change to TARGET, CURRENT, the set point and the DRAM rate are the
target's, its voltage commanded, BUSY is 0, and then the streams go on; (3) of an upward one, two windows at its floor, the
same where no line is in flight, and else BUSY stays until the governor's boundary. (4) TEMPO_SHORT 100 µs after step 5 of an
upward change whose floor is not met abandons it: CURRENT and the DRAM rate stay, BUSY is 0, TEMPO_SHORT set. (5) AVS_FAIL,
not in the last part of a change, stops the sequencer: no change, BUSY 0, AVS_FAIL set, CURRENT as it was. (6) AVS_ALERT reads
the Status, and faults stop the sequencer likewise. (7) AVS_POLL sends both reads and shows their answers. (R115, R116, R117,
R118, R119) -/
def Obligations.PstateChanges : Prop :=
  ∀ (s : State) (dt : Nat), s.up dt → (s.now dt).boot.began = true →
    let b := s.now dt
    (∀ req : Option Nat, req.getD 0 < 4 → b.clk.stopped = false → b.on uClk F.CLK.PSTATE_BUSY = false →
      b.clk.abandoned = none → b.clk.change = none →
      let r := req.getD (b.get uClk F.CLK.PSTATE_REQ_REQ)
      let w := Nat.max r (b.get uClk F.CLK.PSTATE_CAP)
      let c := b.get uClk F.CLK.PSTATE_CURRENT
      ∃ t : Block, exec (.pstateTarget dt req) s = .next ⟨s.pending, t⟩ ∧ t.get uClk F.CLK.PSTATE_REQ_REQ = r ∧
        t.get uClk F.CLK.PSTATE_TARGET = w ∧ t.get uClk F.CLK.PSTATE_CURRENT = c ∧
        t.get uClk F.CLK.PSTATE_BUSY = (if w = c then 0 else 1) ∧ t.clk.change = if w = c then none else some (c, w)) ∧
    (∀ c p, c < 4 → p < 4 → b.clk.change = some (c, p) → b.get uClk F.CLK.PSTATE_TARGET = p →
      let mv := b.getI uClk F.CLK.PVOLT_MV p
      (b.clk.govNext = none → c < p →
        ∃ t : Block, exec (.pstateChangeDone dt) s = .next ⟨s.pending, t.feedAll⟩ ∧ t.get uClk F.CLK.PSTATE_CURRENT = p ∧
          t.get uClk F.CLK.PSTATE_BUSY = 0 ∧ t.clk.change = none ∧ t.clk.vcore = mv ∧ t.clk.dramRate = p ∧
          .avs 0 (some mv) ∈ t.out) ∧
      (b.clk.govNext = none → p < c → 2 ≤ b.clk.goodWins →
        (b.on uWeb F.WEB.STATE_TRIG_OK = false →
          ∃ t : Block, exec (.pstateChangeDone dt) s = .next ⟨s.pending, t.feedAll⟩ ∧ t.get uClk F.CLK.PSTATE_CURRENT = p ∧
            t.get uClk F.CLK.PSTATE_BUSY = 0 ∧ t.clk.change = none ∧ t.clk.vcore = mv ∧ t.clk.dramRate = p ∧
            t.clk.govCfg = p) ∧
        (b.on uWeb F.WEB.STATE_TRIG_OK = true →
          ∃ t : Block, exec (.pstateChangeDone dt) s = .next ⟨s.pending, t⟩ ∧ t.get uClk F.CLK.PSTATE_CURRENT = p ∧
            t.get uClk F.CLK.PSTATE_BUSY = b.get uClk F.CLK.PSTATE_BUSY ∧ t.clk.change = none ∧ t.clk.vcore = mv ∧
            t.clk.dramRate = p ∧ t.clk.govNext = some p ∧ t.clk.finishing = true)) ∧
      (p < c → b.clk.goodWins < 2 → b.settledAfter p + 100000 ≤ b.since b.clk.changeAt →
        ∃ t : Block, exec (.tempoShort dt) s = .next ⟨s.pending, t⟩ ∧
          t.get uClk F.CLK.PSTATE_CURRENT = b.get uClk F.CLK.PSTATE_CURRENT ∧ t.get uClk F.CLK.PSTATE_BUSY = 0 ∧
          t.get uClk F.CLK.MON_STAT_TEMPO_SHORT = 1 ∧ t.clk.change = none ∧ t.clk.abandoned = some p ∧
          t.clk.dramRate = b.clk.dramRate)) ∧
    (b.clk.finishing = false →
      let stops (t : Block) : Prop := t.clk.stopped = true ∧ t.clk.change = none ∧ t.get uClk F.CLK.PSTATE_BUSY = 0 ∧
        t.get uClk F.CLK.MON_STAT_AVS_FAIL = 1 ∧ t.get uClk F.CLK.PSTATE_CURRENT = b.get uClk F.CLK.PSTATE_CURRENT
      (∀ cmd step, ∃ t : Block, exec (.avsFail dt cmd step) s = .next ⟨s.pending, t⟩ ∧ stops t) ∧
      (∀ faults, faults ≠ 0 → ∃ t : Block, exec (.avsAlert dt faults) s = .next ⟨s.pending, t⟩ ∧ stops t ∧
        .avs 14 none ∈ t.out)) ∧
    exec (.avsAlert dt 0) s = .next ⟨s.pending, b.emit (.avs 14 none)⟩ ∧
    (∀ mv raw, mv < 2 ^ 10 → raw < 2 ^ 16 → ∃ t : Block, exec (.avsPoll dt mv raw) s = .next ⟨s.pending, t⟩ ∧
      t.get uClk F.CLK.AVS_VOUT_MV = mv ∧ t.get uClk F.CLK.AVS_IOUT_RAW = raw ∧
      t.out = .avs 2 none :: .avs 0 none :: b.out ∧ { t with regs := b.regs, out := b.out } = b)

/-- In an operating device. (1) THM_CONVERSION gives each sensor that is not broken and whose calibrated result lies in range
that temperature, and marks each whose result lies outside it broken; the comparisons follow on that state. (2)
SENSOR_TIMEOUT of a sensor whose last conversion is 150 µs old marks it broken, the device in no hold while its zone has a
sensor that is not; (3) with none left the device is in the latched shutdown. (4) GRACE_EXPIRED at the end of the grace time,
no zone at ENFORCE, marks GRACE_DONE and ends the time, CAP as it was. (5) RELAX_STEP at the end of the relax period lowers
CAP by one, and the period begins anew. (R127, R128, R129, R133, R134, R610) -/
def Obligations.ThermalServices : Prop :=
  ∀ (s : State) (dt : Nat), s.up dt →
    let b := s.now dt
    (∀ results, ∃ t : Block, exec (.thmConversion dt results) s = .next ⟨s.pending, t.thmEvaluate⟩ ∧
      ∀ k < 24, ∀ r : Int, results.getD k none = some r →
        let temp := r + b.getSI uCal F.CAL.THM_OFS_OFS k
        (b.onI uThm F.THM.SENSOR_BROKEN k = false → -320 ≤ temp → temp ≤ 1120 → t.getSI uThm F.THM.SENSOR_TEMP k = temp) ∧
        (temp < -320 ∨ 1120 < temp → t.onI uThm F.THM.SENSOR_BROKEN k = true)) ∧
    (∀ k < 24, 150000 ≤ b.since (nth b.thm.lastConv k 0) →
      ((∃ i < 4, 4 * (k / 4) + i ≠ k ∧ b.onI uThm F.THM.SENSOR_BROKEN (4 * (k / 4) + i) = false) →
        ∃ t : Block, exec (.sensorTimeout dt k) s = .next ⟨s.pending, t⟩ ∧ t.onI uThm F.THM.SENSOR_BROKEN k = true ∧
          t.boot.hold = .none) ∧
      ((∀ i < 4, 4 * (k / 4) + i ≠ k → b.onI uThm F.THM.SENSOR_BROKEN (4 * (k / 4) + i) = true) →
        ∃ t : Block, exec (.sensorTimeout dt k) s = .next ⟨s.pending, t⟩ ∧ t.boot.hold = .shutdown ∧ t.boot.latch = true)) ∧
    (∀ a, b.thm.graceFrom = some a → b.on uThm F.THM.STATE_REQ = true →
      b.get uThm F.THM.TIMING_GRACE * 100000000 ≤ b.since a → b.zoneAt F.THM.HIGH_THR_ENFORCE = none →
      ∃ t : Block, exec (.graceExpired dt) s = .next ⟨s.pending, t⟩ ∧ t.get uThm F.THM.STATE_GRACE_DONE = 1 ∧
        t.thm.graceFrom = none ∧ t.get uClk F.CLK.PSTATE_CAP = b.get uClk F.CLK.PSTATE_CAP) ∧
    (∀ a, b.thm.relaxFrom = some a → 0 < b.get uClk F.CLK.PSTATE_CAP →
      b.get uThm F.THM.TIMING_RELAX * 1000000000 ≤ b.since a →
      ∃ t : Block, exec (.relaxStep dt) s = .next ⟨s.pending, t⟩ ∧
        t.get uClk F.CLK.PSTATE_CAP = b.get uClk F.CLK.PSTATE_CAP - 1 ∧ t.thm.relaxFrom = some b.lt)

/-- Port p of an operating device. (1) PORT_ENABLE in OFF, its conditions holding, starts it at SIGNAL. (2) SIGNAL_QUALIFIED,
the qualification time over, marks the lanes' signal and passes to CDR; sooner it changes nothing. Within the timeout of the
state: (3) CDR_LOCKED marks the lanes locked and passes to TRAIN on Sidias and on trained copper, else to ADAPT; (4)
TRAINING_COMPLETE, both ends ready for 16 frames on each Sidias lane, on copper in RUNNING, and (5) ADAPT_CONVERGED pass to
LOCK; (6) BLOCK_LOCK, on Sidias with a frame found on every lane, passes to ALIGN with RX_INV by lane: as the frames told on
Sidias, as the blocks or markers seen tell on Ethernet; without such frames it changes nothing; (7) ALIGN_DONE leads a Sidias
port to HOLDOFF with MISWIRE when a lane hears a wrong port, to CHECK when its FEC, its lane order and its deskew are good,
else leaves it; an Ethernet port it leaves without the FEC it needs, else sets FEC_LOCK and lets it go UP by portGo. (8) Past
the timeout each of these goes to HOLDOFF by portGo, as (9) BRINGUP_TIMEOUT at it does. (10) LINK_DOWN takes an UP port to
HOLDOFF, by portGo; (11) HOLDOFF_EXPIRED at the holdoff's end starts SIGNAL anew. (12) CHECK, 20 µs after ALIGN, with every
eye and loss within the limits clears LOSS_HIGH and lets the port go UP by portGo, else sets LOSS_HIGH and goes to HOLDOFF;
sooner it changes nothing. (R145, R146, R147, R148, R149, R150, R152, R153, R154) -/
def Obligations.PortStateMachine : Prop :=
  ∀ (s : State) (dt p : Nat), s.up dt → p < 16 →
    let b := s.now dt
    let goes (c : Instr) (st : Nat) : Prop := ∃ t : Block, exec c s = .next ⟨s.pending, t⟩ ∧ t.portState p = st
    (b.portState p = 0 → b.portMayStart p = true → goes (.portEnable dt p) 1) ∧
    (b.portState p = 1 →
      ((if Block.sidias p then 10000 else 100000) ≤ b.portAge p →
        ∃ t : Block, exec (.signalQualified dt p) s = .next ⟨s.pending, t⟩ ∧ t.portState p = 2 ∧
          ∀ l ∈ b.portLanes p, t.get (Block.laneOf p l) F.LANE.STAT_SIG_DET = 1) ∧
      (b.portAge p < (if Block.sidias p then 10000 else 100000) →
        exec (.signalQualified dt p) s = .next ⟨s.pending, b⟩)) ∧
    (b.portLate p = false →
      (b.portState p = 2 → ∃ t : Block, exec (.cdrLocked dt p) s = .next ⟨s.pending, t⟩ ∧
        t.portState p = (if Block.sidias p || b.copperTrain p then 3 else 4) ∧
        ∀ l ∈ b.portLanes p, t.get (Block.laneOf p l) F.LANE.STAT_CDR_LOCK = 1) ∧
      (∀ eq, b.portState p = 3 →
        (if Block.sidias p then ∀ l < 4, 16 ≤ (b.sidLane p l).readyIn ∧ 16 ≤ (b.sidLane p l).readyOut
          else b.isRunning = true) → goes (.trainingComplete dt p eq) 5) ∧
      (∀ ctle, b.portState p = 4 → goes (.adaptConverged dt p ctle) 5) ∧
      (∀ seen, b.portState p = 5 →
        (Block.sidias p = true → (∀ l < 4, (b.sidLane p l).found = true) →
          ∃ t : Block, exec (.blockLock dt p seen) s = .next ⟨s.pending, t⟩ ∧ t.portState p = 6 ∧
            ∀ l < 4, bit (t.getI uSerdes F.SERDES.PORT_STAT_RX_INV p) l =
              (b.get (Block.laneOf p l) F.LANE.STAT_RX_INV == 1)) ∧
        (Block.sidias p = true → (∃ l < 4, (b.sidLane p l).found = false) →
          exec (.blockLock dt p seen) s = .next ⟨s.pending, b⟩) ∧
        (Block.sidias p = false →
          ∃ t : Block, exec (.blockLock dt p seen) s = .next ⟨s.pending, t⟩ ∧ t.portState p = 6 ∧
            ∀ l ∈ b.portLanes p, bit (t.getI uSerdes F.SERDES.PORT_STAT_RX_INV p) l =
              Block.laneInverted (b.portMode p) (seen.getD l ⟨false, []⟩))) ∧
      (∀ order fec deskew, b.portState p = 6 →
        let got := (List.range 4).map fun l => b.get (Block.laneOf p l) F.LANE.STAT_RX_LOGICAL
        (Block.sidias p = true → (∃ l < 4, (b.sidLane p l).heard ≠ Block.expectedPeer p) →
          ∃ t : Block, exec (.alignDone dt p order fec deskew) s = .next ⟨s.pending, t⟩ ∧ t.portState p = 9 ∧
            t.getI uSerdes F.SERDES.PORT_STAT_MISWIRE p = 1) ∧
        (Block.sidias p = true → (∀ l < 4, (b.sidLane p l).heard = Block.expectedPeer p) →
          ((fec = true ∧ got.eraseDups.length = 4 ∧ deskew ≤ 45) → goes (.alignDone dt p order fec deskew) 7) ∧
          (¬ (fec = true ∧ got.eraseDups.length = 4 ∧ deskew ≤ 45) →
            exec (.alignDone dt p order fec deskew) s = .next ⟨s.pending, b⟩)) ∧
        (Block.sidias p = false →
          (b.fecOn p = true → fec = false → exec (.alignDone dt p order fec deskew) s = .next ⟨s.pending, b⟩) ∧
          ((b.fecOn p = false ∨ fec = true) →
            ∃ t : Block, exec (.alignDone dt p order fec deskew) s = .next ⟨s.pending, t.portGo p 8⟩ ∧ t.portState p = 6 ∧
              t.getI uSerdes F.SERDES.PORT_STAT_FEC_LOCK p = b2n (b.fecOn p))))) ∧
    (b.portLate p = true → ∀ c,
      ((∃ eq, c = .trainingComplete dt p eq ∧ b.portState p = 3) ∨ (∃ ctle, c = .adaptConverged dt p ctle ∧ b.portState p = 4) ∨
        (∃ seen, c = .blockLock dt p seen ∧ b.portState p = 5) ∨
        (∃ order fec deskew, c = .alignDone dt p order fec deskew ∧ b.portState p = 6) ∨
        (c = .cdrLocked dt p ∧ b.portState p = 2)) → exec c s = .next ⟨s.pending, b.portGo p 9⟩) ∧
    (∀ t, b.portTimeout p = some t → t ≤ b.portAge p → goes (.bringupTimeout dt p) 9) ∧
    (b.portState p = 8 → exec (.linkDown dt p) s = .next ⟨s.pending, b.portGo p 9⟩) ∧
    (b.portState p = 9 →
      (if Block.sidias p then 50000 else b.get uSerdes F.SERDES.LINK_CFG_HOLDOFF_MS * 1000000) ≤ b.portAge p →
      goes (.holdoffExpired dt p) 1) ∧
    (∀ figs, b.portState p = 7 →
      let good (l : Nat) : Prop :=
        b.get uSerdes F.SERDES.LINK_CFG_SID_EYE_MIN ≤ (figs.getD l (0, 0, 255)).1 % 2 ^ F.LANE.EYE_HEIGHT.width ∧
          Nat.min 255 (figs.getD l (0, 0, 255)).2.2 ≤ b.get uSerdes F.SERDES.LINK_CFG_SID_LOSS_MAX
      (20000 ≤ b.portAge p → (∀ l < 4, good l) →
        ∃ t : Block, exec (.check dt p figs) s = .next ⟨s.pending, t.portGo p 8⟩ ∧ t.portState p = 7 ∧
          t.getI uSerdes F.SERDES.PORT_STAT_LOSS_HIGH p = 0) ∧
      (20000 ≤ b.portAge p → (∃ l < 4, ¬ good l) →
        ∃ t : Block, exec (.check dt p figs) s = .next ⟨s.pending, t⟩ ∧ t.portState p = 9 ∧
          t.getI uSerdes F.SERDES.PORT_STAT_LOSS_HIGH p = 1) ∧
      (b.portAge p < 20000 → exec (.check dt p figs) s = .next ⟨s.pending, b⟩))

/-- In an operating device. (1) TRAINING_FRAME with a good frame, as sent or with every byte complemented, on a lane of a
Sidias port in TRAIN or LOCK moves the lane's three taps as requested, shows in RX_INV whether it came complemented, and
sends one frame that carries the status of the three requests; what a reserved request leaves is a free value. (2)
LANE_EYE_UPDATE of a used lane in LOCK to UP shows the eye, the loss limited to 255, EYE_VALID, and adds the symbol errors.
(3) BYPASS_OPEN, core 2 running, at 2900 mV or more in RUNNING on a good reference and with the bypass not open, sets
BYPASS_CTL.OPEN and begins the opening; else it changes nothing. (4) BYPASS_CONNECTED ends an opening: BYPASS_STAT.OPEN is
set, then the ring's ports start as they may and the ring takes note. (5) BYPASS_CLOSE clears both OPEN bits and any opening,
with FORCED set when it is forced and something was open or opening; then ports 12 and 13 go OFF and, in that case, the ring
takes note. (6) CLEAR_CNT of SERDES clears the FEC and down counters of every port and every lane's symbol errors; (7) of any
other unit but MBX that has counters to clear in the table clearCnt, each of them. (R152, R158, R161, R165, R598) -/
def Obligations.LanesAndBypass : Prop :=
  ∀ (s : State) (dt : Nat), s.up dt →
    let b := s.now dt
    (∀ (p l : Nat) (frame : List Nat) (inv : Bool), Block.sidias p = true → l < 4 → b.portState p = 3 ∨ b.portState p = 5 →
      frame.take 4 = [0x7E, 0x3C, 0xA5, 0x0F] → frame.length = 16 → (∀ x ∈ frame, x < 256) →
      Block.crc16 0xFFFF (frame.take 14) = ofLe (frame.drop 14) →
      let u := Block.laneOf p l
      let r (n : Nat) : Nat := bits (frame.getD 5 0) (2 * n + 1) (2 * n)
      let pre := b.tapStep (r 0) 15 (b.get u F.LANE.EQ_PRE)
      let main := b.tapStep (r 1) 63 (b.get u F.LANE.EQ_MAIN)
      let post := b.tapStep (r 2) 31 (b.get u F.LANE.EQ_POST)
      ∃ (t : Block) (req : Nat),
        exec (.trainingFrame dt p l (if inv then frame.map (255 - ·) else frame)) s = .next ⟨s.pending, t⟩ ∧
        t.get u F.LANE.EQ_PRE = pre ∧ t.get u F.LANE.EQ_MAIN = main ∧ t.get u F.LANE.EQ_POST = post ∧
        t.get u F.LANE.STAT_RX_INV = b2n inv ∧
        t.out = .training p l (Block.sentFrame p l req (Block.tapStat (r 0) 15 pre + 4 * Block.tapStat (r 1) 63 main +
          16 * Block.tapStat (r 2) 31 post)) :: b.out) ∧
    (∀ p l h w loss symerr cor unc, p < 16 → 5 ≤ b.portState p → b.portState p ≤ 8 → (b.portLanes p).contains l = true →
      h < 2 ^ F.LANE.EYE_HEIGHT.width → w < 2 ^ F.LANE.EYE_WIDTH.width →
      ∃ t : Block, exec (.laneEyeUpdate dt p l h w loss symerr cor unc) s = .next ⟨s.pending, t⟩ ∧
        t.get (Block.laneOf p l) F.LANE.EYE_HEIGHT = h ∧ t.get (Block.laneOf p l) F.LANE.EYE_WIDTH = w ∧
        t.get (Block.laneOf p l) F.LANE.LOSS_EST = Nat.min 255 loss ∧ t.get (Block.laneOf p l) F.LANE.STAT_EYE_VALID = 1 ∧
        t.get (Block.laneOf p l) F.LANE.SYMERR_COUNT =
          satAdd F.LANE.SYMERR_COUNT.max (b.get (Block.laneOf p l) F.LANE.SYMERR_COUNT) symerr) ∧
    (∀ vbyp, s.upOn dt 2 → exec (.bypassOpen dt vbyp) s = .next ⟨s.pending,
      if b.isRunning = true ∧ 2900 ≤ vbyp ∧ b.on uClk F.CLK.SRC_STAT_REF_OK = true ∧
          b.on uSerdes F.SERDES.BYPASS_STAT_OPEN = false then
        { b.set uSerdes F.SERDES.BYPASS_CTL_OPEN 1 with ser := { b.ser with opening := true } }
      else b⟩) ∧
    (b.ser.opening = true → ∃ t : Block, exec (.bypassConnected dt) s = .next ⟨s.pending, ((t.portEnable 12).portEnable 13).ringInserted⟩ ∧
      t.get uSerdes F.SERDES.BYPASS_STAT_OPEN = 1 ∧ t.ser.opening = false) ∧
    (∀ forced,
      let was := b.ser.opening || b.on uSerdes F.SERDES.BYPASS_STAT_OPEN
      ∃ t : Block, exec (.bypassClose dt forced) s = .next ⟨s.pending,
          if was then ((t.portOff 12).portOff 13).ringBypassClosed else (t.portOff 12).portOff 13⟩ ∧
        t.get uSerdes F.SERDES.BYPASS_STAT_OPEN = 0 ∧ t.get uSerdes F.SERDES.BYPASS_CTL_OPEN = 0 ∧ t.ser.opening = false ∧
        t.get uSerdes F.SERDES.BYPASS_STAT_FORCED =
          if forced && was then 1 else b.get uSerdes F.SERDES.BYPASS_STAT_FORCED) ∧
    (∃ t : Block, exec (.clearCnt dt uSerdes) s = .next ⟨s.pending, t⟩ ∧ (∀ p < 16, t.getI uSerdes F.SERDES.FEC_COR_COUNT p = 0 ∧
      t.getI uSerdes F.SERDES.FEC_UNC_COUNT p = 0 ∧ t.getI uSerdes F.SERDES.PORT_STAT_DOWN_COUNT p = 0) ∧
      ∀ i < 61, t.get (uLane i) F.LANE.SYMERR_COUNT = 0) ∧
    ∀ u ctl fs, clearCnt u.ty = some (ctl, fs) → u.ty ≠ .mbx → u.exists? = true →
      ∃ t : Block, exec (.clearCnt dt u) s = .next ⟨s.pending, t⟩ ∧ ∀ f ∈ fs, ∀ i < f.count, t.getI u f i = 0

/-- CAM_FRAME on a camera port that is UP. (1) A bad FCS, a length below 60 or above 9,212 bytes or a pause frame counts in
PKT_ERR and does nothing else. Of a frame that is not so, in this order: (2) a PTP message of the port's domain is taken by
camPtpFrame; (3) an ARP request for the port's address, in RUNNING, is answered at once, or once the tunnel frame that has
begun ends; (4) a frame of the port's GVSP stream that fails the checks of R172 is dropped and counted, the port's state as it
was; (5) one that passes them goes to gvspPacket; (6) any other frame, reception off, counts in TUNNEL_DROP and does not
enter the tunnel's queue; (7) reception on and room left, it enters the queue at its end and no register changes. (R168, R169,
R170, R171, R172, R189) -/
def Obligations.CameraFramesAreSorted : Prop :=
  ∀ (s : State) (dt k : Nat) (f : List Nat) (fcsOk overflow : Bool), s.up dt → k < 12 →
    let b := s.now dt
    let u := uCamp k
    b.portState k = 8 →
    let bad := fcsOk = false ∨ f.length < 60 ∨ 9212 < f.length ∨ frameNum f 12 2 = 0x8808
    (bad → ∃ t : Block, exec (.camFrame dt k f fcsOk overflow) s = .next ⟨s.pending, t⟩ ∧ { t with regs := b.regs } = b ∧
      t.get u F.CAMP.CNT_PKT_ERR_COUNT = satAdd F.CAMP.CNT_PKT_ERR_COUNT.max (b.get u F.CAMP.CNT_PKT_ERR_COUNT) 1 ∧
      b.keepsRegs t [(u, F.CAMP.CNT_PKT_ERR_COUNT.off)]) ∧
    (¬ bad → b.isCamPtp k f = true →
      exec (.camFrame dt k f fcsOk overflow) s = .next ⟨s.pending, b.camPtpFrame k f⟩) ∧
    (¬ bad → b.isCamPtp k f = false →
      (arpFor f (b.campIp k) = true → b.isRunning = true →
        let reply := arpReply f (b.campMac k) (b.campIp k)
        ((b.camp k).tunOn = false → exec (.camFrame dt k f fcsOk overflow) s =
          .next ⟨s.pending, b.emit (.frame k reply)⟩) ∧
        ((b.camp k).tunOn = true → exec (.camFrame dt k f fcsOk overflow) s =
          .next ⟨s.pending, b.setCamp k { b.camp k with txWait := (b.camp k).txWait ++ [.arp reply] }⟩)) ∧
      (arpFor f (b.campIp k) = false → b.isGvsp k f = true →
        (Block.gvspFrameOk f = false →
          ∃ t : Block, exec (.camFrame dt k f fcsOk overflow) s = .next ⟨s.pending, t⟩ ∧ t.camps = b.camps ∧
            t.get u F.CAMP.CNT_GVSP_DROP_COUNT =
              satAdd F.CAMP.CNT_GVSP_DROP_COUNT.max (b.get u F.CAMP.CNT_GVSP_DROP_COUNT) 1) ∧
        (Block.gvspFrameOk f = true →
          exec (.camFrame dt k f fcsOk overflow) s = .next ⟨s.pending, b.gvspPacket k (udpPayload f) overflow⟩)) ∧
      (arpFor f (b.campIp k) = false → b.isGvsp k f = false →
        (b.on u F.CAMP.TUNNEL_CFG_RX_EN = false →
          ∃ t : Block, exec (.camFrame dt k f fcsOk overflow) s = .next ⟨s.pending, t⟩ ∧ t.mbx.tunRx = b.mbx.tunRx ∧
            t.get u F.CAMP.CNT_TUNNEL_DROP_COUNT =
              satAdd F.CAMP.CNT_TUNNEL_DROP_COUNT.max (b.get u F.CAMP.CNT_TUNNEL_DROP_COUNT) 1) ∧
        (b.on u F.CAMP.TUNNEL_CFG_RX_EN = true →
          sumN ((nth b.mbx.tunRx k []).map fun r => Block.tunnelBytes r.frame.length) + Block.tunnelBytes f.length ≤ 32768 →
          ∃ t : Block, exec (.camFrame dt k f fcsOk overflow) s = .next ⟨s.pending, t⟩ ∧ t.regs = b.regs ∧
            ∃ r : TunnelRec, r.frame = f ∧ t.mbx.tunRx = upd b.mbx.tunRx k fun l => l ++ [r])))

/-- Camera port k of an operating device. (1) GVSP_LEADER of a block newer than the last, from ARMED on, shows its ID and
leaves the stream in STREAMING; (2) before ARMED it is dropped and counted, the port's state as it was. (3) GVSP_PAYLOAD of
the open block, a leader taken since ARMED, with a packet ID above the last and the length the packet must have, is taken by
takePayload; (4) with the buffer full it changes nothing. (5) GVSP_TRAILER of the open block with a packet ID above the last
leaves no block open. (6) ENTRY_TIMEOUT when the oldest open entry has waited TIMEOUT_US from its rising edge leaves STAT.OPEN
with the number of the others. (R175, R176, R181, R182, R199) -/
def Obligations.ReassemblyTakesPackets : Prop :=
  ∀ (s : State) (dt k id : Nat), s.up dt → k < 12 →
    let b := s.now dt
    let u := uCamp k
    (∀ ts ld, 2 ≤ b.campState k → Block.blockOld (b.camp k) id = false →
      ∃ t : Block, exec (.gvspLeader dt k id ts ld) s = .next ⟨s.pending, t⟩ ∧ t.campState k = 3 ∧
        t.get u F.CAMP.LAST_BLOCK_LO_ID = id % 2 ^ 32 ∧ t.get u F.CAMP.LAST_BLOCK_HI_ID = id / 2 ^ 32 % 2 ^ 32) ∧
    (∀ ts ld, b.campState k < 2 →
      ∃ t : Block, exec (.gvspLeader dt k id ts ld) s = .next ⟨s.pending, t⟩ ∧ t.camps = b.camps ∧
        t.get u F.CAMP.CNT_GVSP_DROP_COUNT = satAdd F.CAMP.CNT_GVSP_DROP_COUNT.max (b.get u F.CAMP.CNT_GVSP_DROP_COUNT) 1) ∧
    (∀ pid data c, (b.camp k).block = some c → c.id = id → c.ended = false → 2 ≤ b.campState k →
      (b.camp k).armedLeader = true → c.lastPid < pid →
      Block.packetLength (c.lines * c.lineBytes) c.pkt pid = some data.length →
      exec (.gvspPayload dt k id pid data false) s = .next ⟨s.pending, b.takePayload k pid data⟩) ∧
    (∀ pid data, exec (.gvspPayload dt k id pid data true) s = .next ⟨s.pending, b⟩) ∧
    (∀ pid n c, (b.camp k).block = some c → c.id = id → c.ended = false → 2 ≤ b.campState k → c.lastPid < pid →
      ∃ t : Block, exec (.gvspTrailer dt k id pid n) s = .next ⟨s.pending, t⟩ ∧ (t.camp k).block = none) ∧
    (∀ e rest, (b.camp k).entries = e :: rest → rest.length < 1024 → e.edge + e.vals.timeout * 1000 ≤ b.lt →
      ∃ t : Block, exec (.entryTimeout dt k) s = .next ⟨s.pending, t⟩ ∧ t.get u F.CAMP.STAT_OPEN = rest.length)

/-- (1) TRIGGER_PULSE, core 3 running, at the instant of the oldest decided line: the state t after its trigger shows the
line, page and page line counters in WEB; then page start, stitcher, archive, page end and commits follow, in the order given.
With no commit pending the line has left the queue of decided triggers, is the newest line triggered, and every enabled
output k has got its rising edge at riseOf. (2) TRIGGER_PULSE_END of an output whose oldest open pulse has come to its end
puts out the falling edge, marks that pulse done and changes no register. (R193, R194, R266, R271) -/
def Obligations.TriggersPulseTheOutputs : Prop :=
  ∀ (s : State) (dt : Nat), s.up dt →
    let b := s.now dt
    (∀ d, s.upOn dt 3 → b.dueLine = some d →
      ∃ t : Block, exec (.triggerPulse dt) s =
          .next ⟨s.pending, (((((t.pageStart d).stitchPush d).archKeptOut d.line d.pageLine).pageOver).pagesSettle).commitsSettle⟩ ∧
        t.get uWeb F.WEB.LINE_LO_VALUE = d.line % 2 ^ 32 ∧ t.get uWeb F.WEB.PAGE_VALUE = d.page % 2 ^ F.WEB.PAGE_VALUE.width ∧
        t.get uWeb F.WEB.PAGE_LINE_VALUE = d.pageLine % 2 ^ F.WEB.PAGE_LINE_VALUE.width ∧
        (b.commits = [] → t.trig.decided = b.trig.decided.drop 1 ∧ t.trig.lines = (d :: b.trig.lines).take 2048 ∧
          ∀ k < 12, b.onI uTrig F.TRIG.OUT_EN k = true → .trigEdge k (b.trigLevel k true) (b.riseOf d k) ∈ t.out)) ∧
    (∀ k p, k < 12 → (b.trig.pulses.reverse.find? fun p => p.k == k && !p.done) = some p → p.fall ≤ b.lt + 1 →
      ∃ t : Block, exec (.triggerPulseEnd dt k) s = .next ⟨s.pending, t⟩ ∧
        t.out = .trigEdge k (b.trigLevel k false) p.fall :: b.out ∧
        t.trig.pulses = b.trig.pulses.map (fun q => if q.k = p.k ∧ q.line = p.line then { p with done := true } else q) ∧
        t.regs = b.regs)

/-- Domain d, 0 or 1, of a device whose control core 2 runs. (1) PTP_SYNC of the selected master (of the one left when a Sync
gap counted first): the tracker holds the offset with ASYM_NS added, shown in TRACK_OFS_NS as the rate is in TRACK_RATE_ADJ,
the Sync's instant, no gap, and the Follow_Up that is due; then the servo acts and the time state is evaluated. (2)
PTP_FOLLOW_UP of the master for the Sync that is due is noted, and (3) PTP_DELAY_RESP of the master to a Delay_Req of this
device that waits ends its wait, with the count since the last one at 0 if its timestamp was kept; then the time state is
evaluated, after a response whose timestamp was lost it is not; one that answers none changes nothing. (4) PTP_ANNOUNCE is
kept as the sender's one entry of the foreign masters, and (5) ANNOUNCE_TIMEOUT notes a Sync gap; then the master is selected
and the time state evaluated. (6) LPORT_FRAME on an UP line port: a frame with an error, or one neither an ARP request for the
port nor PTP, counts in DROP and does nothing else; a PTP message of version 2 of a domain goes to lportPtpMessage. (R206,
R207, R209, R214, R219, R222, R227) -/
def Obligations.PtpOnTheLinePort : Prop :=
  ∀ (s : State) (dt d : Nat), s.upOn dt 2 → d < 2 →
    let b := s.now dt
    let k := b.tracker d
    (∀ sender seq iv two o,
      let c := if b.syncGap d then b.announceTimeout d else b
      let ofs := o.ofs + c.getS uLport F.LPORT.PTP_CFG_ASYM_NS
      c.servoRuns = true → (c.tracker d).master = some sender →
      ∃ t : Block, exec (.ptpSync dt d sender seq iv two o) s =
          .next ⟨s.pending, (t.servo d { o with ofs := ofs }).timeUpdate d⟩ ∧
        t.getSI uTime F.TIME.TRACK_OFS_NS d = clampS 32 ofs ∧ t.getSI uTime F.TIME.TRACK_RATE_ADJ d = clampS 32 o.rate ∧
        (t.tracker d).lastSync = some c.lt ∧ (t.tracker d).ofs = ofs ∧ (t.tracker d).gap = false ∧
        (t.tracker d).due = if two then some seq else none) ∧
    (∀ sender seq, k.master = some sender → k.due = some seq →
      exec (.ptpFollowUp dt d sender seq) s = .next ⟨s.pending, (b.setTracker d { k with
        due := none, followed := (k.followed ++ [true]).drop ((k.followed ++ [true]).length - 16) }).timeUpdate d⟩) ∧
    (∀ r : DelayResp, k.master = some r.sender → r.requester = b.linePortId →
      (∀ q, (k.reqs.find? fun q => q.1 == r.seq) = some q →
        exec (.ptpDelayResp dt d r) s = .next ⟨s.pending,
          if q.2 then b.setTracker d { k with reqs := k.reqs.erase q }
          else (b.setTracker d { k with reqs := k.reqs.erase q, reqsSince := some 0 }).timeUpdate d⟩) ∧
      ((k.reqs.find? fun q => q.1 == r.seq) = none → exec (.ptpDelayResp dt d r) s = .next ⟨s.pending, b⟩)) ∧
    (∀ info, ∃ t : Block, exec (.ptpAnnounce dt d info) s = .next ⟨s.pending, (t.selectMaster d).timeUpdate d⟩ ∧
      (∃ f ∈ (t.tracker d).foreign, f.info = info ∧ f.last = b.lt) ∧
      ∀ f ∈ (t.tracker d).foreign, f.info.sender = info.sender → f.info = info) ∧
    (∃ t : Block, exec (.announceTimeout dt d) s = .next ⟨s.pending, (t.selectMaster d).timeUpdate d⟩ ∧
      (b.syncGap d = true → (t.tracker d).gap = true ∧ (t.tracker d).steady = 0)) ∧
    (∀ raw fcsOk o, b.lportUp = true →
      let f := Block.untag raw
      let bad := fcsOk = false ∨ raw.length < 60 ∨ 1514 < f.length
      (bad ∨ arpFor f b.lportIp = false ∧ b.lportPtp f = none →
        ∃ t : Block, exec (.lportFrame dt raw fcsOk o) s = .next ⟨s.pending, t⟩ ∧ { t with regs := b.regs } = b ∧
          b.keepsRegs t [(uLport, F.LPORT.CNT_DROP_COUNT.off)] ∧
          t.get uLport F.LPORT.CNT_DROP_COUNT = satAdd F.LPORT.CNT_DROP_COUNT.max (b.get uLport F.LPORT.CNT_DROP_COUNT) 1) ∧
      (∀ p n, ¬ bad → arpFor f b.lportIp = false → b.lportPtp f = some p → p.getD 1 0 % 16 = 2 →
        b.domainOf (p.getD 4 256) = some n →
        exec (.lportFrame dt raw fcsOk o) s = .next ⟨s.pending, b.lportPtpMessage n p o⟩))

/-- In an operating device. With control core 2 running: (1) HOLDOVER_EXPIRED after HOLDOVER_S, on the ITO after one second at
most, ends HOLDOVER in FREE: FLAGS.FREE set, no slew, RATE.ADJ kept. (2) REVERT_EXPIRED in ACQUIRE or LOCKED, reverting
enabled, nothing forced, the other domain selected, when the primary has been usable for REVERT_S, switches to it. (3)
SLEW_DONE when the disagreement is slewed out ends the slew and restores the tracker's rate. (4) DOMAIN_FORCE writes FORCE; a
forced domain that is not selected is switched to in ACQUIRE and LOCKED and selected without a slew in FREE and HOLDOVER; then
the time state is evaluated. (5) With core 2 stopped it writes FORCE alone. (6) STEP_GO adds the staged step to the offset and
sets FLAGS.STEP; producer 11 and a STEP anchor follow. (R208, R209, R210, R211, R212, R213, R229) -/
def Obligations.TimeStateMachine : Prop :=
  ∀ (s : State) (dt : Nat), s.up dt →
    let b := s.now dt
    let p := b.get uTime F.TIME.DOMAIN_CFG_PRIMARY
    let st := b.get uTime F.TIME.STATE_STATE
    (b.servoRuns = true →
      (st = 3 →
        (if b.on uClk F.CLK.SRC_STAT_ON_ITO then Nat.min 1 (b.get uTime F.TIME.HOLD_CFG_HOLDOVER_S)
          else b.get uTime F.TIME.HOLD_CFG_HOLDOVER_S) * 10 ^ 9 ≤ b.since b.time.holdFrom →
        ∃ t : Block, exec (.holdoverExpired dt) s = .next ⟨s.pending, t⟩ ∧ t.get uTime F.TIME.STATE_STATE = 0 ∧
          t.get uTime F.TIME.FLAGS_FREE = 1 ∧ t.get uTime F.TIME.STATE_SLEWING = 0 ∧ t.time.slew = none ∧
          t.getI uTime F.TIME.RATE_ADJ 0 = b.getI uTime F.TIME.RATE_ADJ 0) ∧
      (∀ a, st = 1 ∨ st = 2 → b.mayLeave = true → b.on uTime F.TIME.DOMAIN_CFG_REVERT = true → b.selected ≠ p →
        b.usable p = true → (b.tracker p).usableSince = some a → b.get uTime F.TIME.HOLD_CFG_REVERT_S * 10 ^ 9 ≤ b.since a →
        exec (.revertExpired dt) s = .next ⟨s.pending, b.switchTo p⟩) ∧
      (∀ a o, b.time.slew = some (a, o) → o.natAbs * 10 ^ 7 ≤ b.since a * b.get uTime F.TIME.SERVO_CFG_SLEW →
        ∃ t : Block, exec (.slewDone dt) s = .next ⟨s.pending, t⟩ ∧ t.get uTime F.TIME.STATE_SLEWING = 0 ∧ t.time.slew = none ∧
          t.getSI uTime F.TIME.RATE_ADJ 0 = b.trackRate b.selected) ∧
      (∀ v, v < 4 → ∃ t : Block, t.get uTime F.TIME.DOMAIN_CTL_FORCE = v ∧ t.selected = b.selected ∧
        exec (.domainForce dt v) s = .next ⟨s.pending,
          (if (v = 1 ∨ v = 2) ∧ b.selected ≠ v - 1 then
            (if st = 1 ∨ st = 2 then t.switchTo (v - 1) else t.selectQuiet (v - 1)) else t).timeEval⟩)) ∧
    (b.servoRuns = false → ∀ v, exec (.domainForce dt v) s = .next ⟨s.pending, b.set uTime F.TIME.DOMAIN_CTL_FORCE v⟩) ∧
    ∃ t : Block, exec (.stepGo dt) s = .next ⟨s.pending, (t.raise 11).anchor true false⟩ ∧
      t.offset = sext 64 (wrapN 64 (b.offset + b.stagedStep)) ∧ t.get uTime F.TIME.FLAGS_STEP = 1

/-- In an operating device. On a camera port that serves as PTP master, no tunnel frame begun: (1) a due CAM_SYNC_SEND puts
out a Sync and its Follow_Up with the egress timestamp and notes the instant; (2) a due CAM_ANNOUNCE_SEND puts out the
Announce and notes the instant, no register changing; (3) a DELAY_REQ within the limit of the second is answered, no register
changing. (4) With a tunnel frame begun each of these messages waits in txWait. (5) A DELAY_REQ beyond the limit is counted
and does nothing else. (6) DELAY_REQ_SEND for domain d, core 2 running, the line port UP and the device RUNNING, puts out a
Delay_Req; then its timestamp is queued and the time state evaluated. (7) NOW_LATCH returns the addressed bytes of LT's low
word and latches LT and the device clock for the reader. (8) TSQ_POP returns the bytes of the last word of port p's oldest
entry and removes the entry, or returns zeros when there is none. (9) TIME_ANCHOR in RUNNING, at a passage of the device
clock's nanoseconds through 0 that has sent none, sends an anchor and raises producer 13; else it changes nothing. (R7, R171,
R214, R215, R216, R217, R218, R221, R224, R229) -/
def Obligations.PtpOnTheCameraPorts : Prop :=
  ∀ (s : State) (dt k : Nat), s.up dt → k < 12 →
    let b := s.now dt
    let seq := nth b.time.syncSeq k 0
    let ann := nth b.time.annSeq k 0
    let sec := b.lt / 10 ^ 9
    let used := if (nth b.time.dreq k (0, 0)).2 = sec then (nth b.time.dreq k (0, 0)).1 else 0
    let syncDue := b.intervalDue (nth b.time.syncAt k none) (b.getS uTime F.TIME.CAM_MSG_LOG_SYNC) = true
    let annDue := b.intervalDue (nth b.time.annAt k none) (b.getS uTime F.TIME.CAM_MSG_LOG_ANNOUNCE) = true
    let passes := b.isRunning = true ∧ b.devClock % 10 ^ 9 ≤ 2 ∧ b.time.anchorSec ≠ some (b.devClock / 10 ^ 9)
    let answer (q req : Nat) : PtpOut :=
      .delayResp b.camDomain q req (b.ingressStamp k).1 (b.ingressStamp k).2.1 (b.ingressStamp k).2.2
    (b.camPtp k = true → (b.camp k).tunOn = false →
      (syncDue → ∃ t : Block, exec (.camSyncSend dt k) s = .next ⟨s.pending, t⟩ ∧
        t.out = .ptp k none (b.camPath k none 320) (.followUp b.camDomain seq (b.egressStamp k).1 (b.egressStamp k).2.1
          (b.egressStamp k).2.2) :: .ptp k none (b.camPath k none 319) (.sync b.camDomain seq) :: b.out ∧
        t.time.syncAt = upd b.time.syncAt k fun _ => some b.lt) ∧
      (annDue → ∃ t : Block, exec (.camAnnounceSend dt k) s = .next ⟨s.pending, t⟩ ∧
        t.out = .ptp k none (b.camPath k none 320) (b.camAnnounce ann) :: b.out ∧
        t.regs = b.regs ∧ t.time.annAt = upd b.time.annAt k fun _ => some b.lt) ∧
      (∀ q req back, used < b.get uTime F.TIME.CAM_MSG_DREQ_LIMIT →
        ∃ t : Block, exec (.delayReq dt k q req back) s = .next ⟨s.pending, t⟩ ∧
          t.out = .ptp k none (b.camPath k back 320) (answer q req) :: b.out ∧ t.regs = b.regs)) ∧
    (b.camPtp k = true → (b.camp k).tunOn = true →
      let waits (c : Instr) (j : TxJob) : Prop := ∃ t : Block, exec c s = .next ⟨s.pending, t⟩ ∧ t.out = b.out ∧
        t.camps = upd b.camps k fun _ => { b.camp k with txWait := (b.camp k).txWait ++ [j] }
      (syncDue → waits (.camSyncSend dt k) (.sync seq)) ∧
      (annDue → waits (.camAnnounceSend dt k) (.general (b.camPath k none 320) (b.camAnnounce ann))) ∧
      (∀ q req back, used < b.get uTime F.TIME.CAM_MSG_DREQ_LIMIT →
        waits (.delayReq dt k q req back) (.general (b.camPath k back 320) (answer q req)))) ∧
    (∀ q req back, b.camPtp k = true → b.get uTime F.TIME.CAM_MSG_DREQ_LIMIT ≤ used →
      ∃ t : Block, exec (.delayReq dt k q req back) s = .next ⟨s.pending, t⟩ ∧ { t with regs := b.regs } = b ∧
        t.getI uTime F.TIME.DREQ_DROP_COUNT k =
          satAdd F.TIME.DREQ_DROP_COUNT.max (b.getI uTime F.TIME.DREQ_DROP_COUNT k) 1) ∧
    (∀ d < 2, b.servoRuns = true → b.lportUp = true → b.isRunning = true →
      let dom := if d = 0 then b.get uTime F.TIME.DOMAIN_CFG_DOMAIN_A else b.get uTime F.TIME.DOMAIN_CFG_DOMAIN_B
      ∃ t : Block, exec (.delayReqSend dt d) s =
          .next ⟨s.pending, (t.tsqPush 12 1 (nth b.time.reqSeq d 0) dom).timeUpdate d⟩ ∧
        t.out = .ptp 12 (b.lportTag 7) b.linePath (.delayReq dom (nth b.time.reqSeq d 0)) :: b.out) ∧
    (∀ r : Reader, b.answers r → exec (.nowLatch dt r) s = .next ⟨s.pending,
      Block.emit { b with time := { b.time with now := b.time.now.set r.master (some (b.lt, b.devClock)) } }
        (.readData r.master (bytesOf r.be (b.lt % 2 ^ 32)))⟩) ∧
    (∀ (r : Reader) (p : Nat), b.answers r → p < 13 →
      (∀ e rest, b.tsq p = e :: rest → exec (.tsqPop dt r p) s = .next ⟨s.pending,
        Block.emit { b with time := { b.time with tsq := upd b.time.tsq p fun _ => rest } } (.readData r.master
          (bytesOf r.be (e.seconds / 2 ^ 32 % 0x10000 + e.domain % 256 * 0x10000 + 2 ^ 31)))⟩) ∧
      (b.tsq p = [] → exec (.tsqPop dt r p) s = .next ⟨s.pending, b.emit (.readData r.master (bytesOf r.be 0))⟩)) ∧
    (passes → exec (.timeAnchor dt) s = .next ⟨s.pending,
        (({ b with time := { b.time with anchorSec := some (b.devClock / 10 ^ 9) } } : Block).anchor false false).raise 13⟩) ∧
    (¬ passes → exec (.timeAnchor dt) s = .next ⟨s.pending, b⟩)

/-- SENSE channel c, control core 3 running for all but BANK_SWAP. (1) SENSE_OUTPUT takes modulator bits word by word into
stage 1 of a converting physical channel, whose sum goes on through its chain, the saturation of stage 1 flagged; (2) to a
converting virtual channel each held input that waits and then one per word. Of a single-step channel, (3) SS_GO begins a
conversion, no register changing, or, one in progress, counts an overrun; (4) SS_DONE with the bits of SS_N and three outputs
ends it, with VALID and SS_DONE set. (5) MOD_OVERLOAD sets MOD_OVLD and clears VALID. VIRTUAL_VALUE takes the oldest value
offered: (6) a lost one, passed over, changes no register and not what the channel holds; (7) any other is held with its
epoch from now on, STALE clear. (8) SENSE_STALE, 1 ms after the last value, sets STALE. (9) BANK_SWAP with no swap pending
and no channel that uses the banks has the bank in force at once. (R233, R236, R237, R238, R239, R241, R243) -/
def Obligations.SenseChannelsConvert : Prop :=
  ∀ (s : State) (dt c : Nat), s.up dt → (s.now dt).sense.chans.length = 16 →
    let b := s.now dt
    (∀ mods, s.upOn dt 3 → 1 ≤ b.smode c → b.smode c ≤ 4 →
      (c < 8 → b.senseFed c = true →
        exec (.senseOutput dt c mods) s = .next ⟨s.pending, mods.foldl (fun t w =>
          let t := t.setSch c fun k => { k with chain := { k.chain with mods := pushMod w k.chain.mods } }
          let p := stage1 (t.sget F.SENSE.CH_CFG_COMPAT c == 1) (t.sget F.SENSE.CH_SHIFT_SHIFT1 c)
            (sincSum (t.sch c).chain.mods)
          (t.satFlag c F.SENSE.CH_FLAGS_SAT1 p.2).senseInput c p.1 0) b⟩) ∧
      (8 ≤ c → c < 16 →
        exec (.senseOutput dt c mods) s = .next ⟨s.pending,
          ((b.sch c).queued ++ mods.map fun _ => ((b.sch c).held, (b.sch c).heldEpoch)).foldl
            (fun t p => t.senseInput c p.1 p.2) (b.setSch c fun k => { k with queued := [] })⟩)) ∧
    (s.upOn dt 3 → c < 8 → b.smode c = 5 → b.senseFed c = true →
      ((b.sch c).busy = false → ∃ t : Block, exec (.ssGo dt c) s = .next ⟨s.pending, t⟩ ∧ (t.sch c).busy = true ∧ t.regs = b.regs) ∧
      ((b.sch c).busy = true → ∃ t : Block, exec (.ssGo dt c) s = .next ⟨s.pending, t⟩ ∧ t.sense = b.sense ∧
        t.getI uSense F.SENSE.CH_FLAGS_SS_OVERRUN c = 1 ∧ t.getI uSense F.SENSE.CH_SSOVR_COUNT c =
          satAdd F.SENSE.CH_SSOVR_COUNT.max (b.getI uSense F.SENSE.CH_SSOVR_COUNT c) 1) ∧
      ((b.sch c).busy = true → ∀ mods, 3 + b.sget F.SENSE.CH_CFG_SS_N c ≤ mods.length →
        ∃ t : Block, exec (.ssDone dt c mods) s = .next ⟨s.pending, t⟩ ∧
          t.getI uSense F.SENSE.CH_FLAGS_SS_DONE c = 1 ∧ t.getI uSense F.SENSE.CH_VALUE_VALID c = 1 ∧
          (t.sch c).busy = false)) ∧
    (s.upOn dt 3 → c < 8 → b.smode c ≠ 0 → b.senseFed c = true →
      ∃ t : Block, exec (.modOverload dt c) s = .next ⟨s.pending, t⟩ ∧ t.getI uSense F.SENSE.CH_FLAGS_MOD_OVLD c = 1 ∧
        t.getI uSense F.SENSE.CH_VALUE_VALID c = 0) ∧
    (∀ n o rest, s.upOn dt 3 → 8 ≤ c → c < 16 → (b.sch c).offers = o :: rest →
      ((o.lost && b.onI uSense F.SENSE.CH_VIRT_SKIP_FLAGGED c) = true →
        ∃ t : Block, exec (.virtualValue dt c n) s = .next ⟨s.pending, t⟩ ∧ t.regs = b.regs ∧ (t.sch c).offers = rest ∧
          (t.sch c).held = (b.sch c).held ∧ (t.sch c).lastAccept = (b.sch c).lastAccept) ∧
      ((o.lost && b.onI uSense F.SENSE.CH_VIRT_SKIP_FLAGGED c) = false →
        ∃ t : Block, exec (.virtualValue dt c n) s = .next ⟨s.pending, t⟩ ∧ (t.sch c).offers = rest ∧
          b.keepsRegs t [(uSense, F.SENSE.CH_FLAGS_STALE.at c)] ∧ t.getI uSense F.SENSE.CH_FLAGS_STALE c = 0 ∧
          (t.sch c).held = ((o.value : Int) - 32768) * 256 ∧ (t.sch c).heldEpoch = o.epoch ∧
          (t.sch c).lastAccept = b.lt ∧ (t.sch c).stale = false)) ∧
    (s.upOn dt 3 → 8 ≤ c → c < 16 → b.smode c ≠ 0 → 1000000 ≤ b.since (b.sch c).lastAccept →
      ∃ t : Block, exec (.senseStale dt c) s = .next ⟨s.pending, t⟩ ∧ t.getI uSense F.SENSE.CH_FLAGS_STALE c = 1 ∧
        (t.sch c).stale = true) ∧
    (∀ sel, b.on uSense F.SENSE.BANK_STAT_PENDING = false →
      (∀ k < 16, b.sget F.SENSE.CH_CFG_USER k = 0 ∨ b.smode k = 0 ∨ 4 < b.smode k) →
      ∃ t : Block, exec (.bankSwap dt sel) s = .next ⟨s.pending, t⟩ ∧ t.get uSense F.SENSE.BANK_CTL_SEL = sel % 2 ∧
        t.get uSense F.SENSE.BANK_STAT_ACT = sel % 2 ∧ t.get uSense F.SENSE.BANK_STAT_PENDING = 0)

/-- (1) OBSERVER_UPDATE, Z_INDEX and QUADRATURE_EDGE put out what the encoder inputs show, in every state of the device, and
do nothing else while control core 3 does not run. With core 3 running: (2) OBSERVER_UPDATE then measures both encoders and,
with a source of this device, goes on by observerGo, whose first part, obsUpdate, advances position and speed of a tracking
observer by the gains of R255 times the error. (3) COAST_TIMEOUT 50 ms after a coast began leads to FAULT, and the axes learn
of it. (4) PAGE_SYNC sooner after the edge than the filter, or with the ring as source, changes nothing; else, page mode 1 not
running, one whose edge came with no report kept of it, or in IDLE or FAULT, is counted, WEB's data as it was; any other, no
page start accepted before and fewer than eight pending, is appended to the pending starts at the position of the edge plus
PAGE_OFFSET. (5) Z_INDEX counts. (6) QUADRATURE_EDGE takes the levels and moves the count by quadStep; both levels changing at
once counts an error. (R253, R254, R255, R260, R262, R263, R269, R270) -/
def Obligations.WebPositionIsTracked : Prop :=
  ∀ (s : State) (dt : Nat),
    let b := s.now dt
    let sinCos (e0 e1 : EncIn) : Block := b.emits [.encoderSinCos 0 e0.sin e0.cos, .encoderSinCos 1 e1.sin e1.cos]
    ((b.cored && nth b.boot.cores 3 false) = false →
      (∀ e0 e1, exec (.observerUpdate dt e0 e1) s = .next ⟨s.pending, sinCos e0 e1⟩) ∧
      (∀ e < 2, exec (.zIndex dt e) s = .next ⟨s.pending, b.emit (.encoderZ e)⟩) ∧
      ∀ e < 2, ∀ a z, exec (.quadratureEdge dt e a z) s = .next ⟨s.pending, b.emit (.encoderAB e a z)⟩) ∧
    (s.upOn dt 3 → b.web.encs.length = 2 →
      (∀ e0 e1, let m := (sinCos e0 e1).webMeasure e0 e1
        exec (.observerUpdate dt e0 e1) s = .next ⟨s.pending, if 4 ≤ m.web.src then m else m.observerGo⟩ ∧
        ∀ z, m.obsState = 2 → m.srcFault m.web.src = false → m.srcMeas m.web.src = some z →
          let bw := m.get uWeb F.WEB.OBS_CFG_BW_HZ
          let err := z + m.web.ofs - (m.web.p + obsAdvance m.web.v)
          m.obsUpdate.web.p = m.web.p + obsAdvance m.web.v + obsK1 bw err ∧ m.obsUpdate.web.v = m.web.v + obsK2 bw err) ∧
      (b.obsState = 3 → 50000000 ≤ b.since b.web.coastFrom →
        exec (.coastTimeout dt) s = .next ⟨s.pending, b.coastTimeout.axesWebFault⟩ ∧ b.coastTimeout.obsState = 4) ∧
      (∀ ago,
        (ago < b.get uWeb F.WEB.PAGE_CFG_SYNC_FILT * 100 ∨ 4 ≤ b.web.src →
          exec (.pageSync dt ago) s = .next ⟨s.pending, b⟩) ∧
        (b.get uWeb F.WEB.PAGE_CFG_SYNC_FILT * 100 ≤ ago → b.web.src < 4 → b.web.mode1 = false →
          ((∀ r, b.webPast ago = some r → r.obs = 0 ∨ r.obs = 4) →
            ∃ t : Block, exec (.pageSync dt ago) s = .next ⟨s.pending, t⟩ ∧ t.web = b.web ∧
              t.get uWeb F.WEB.CNT_SYNC_IGN_COUNT =
                satAdd F.WEB.CNT_SYNC_IGN_COUNT.max (b.get uWeb F.WEB.CNT_SYNC_IGN_COUNT) 1) ∧
          (∀ r, b.webPast ago = some r → r.obs ≠ 0 → r.obs ≠ 4 → b.web.lastStart = none → b.web.pend.length < 8 →
            let p := r.p + r.v * ((b.since r.at_ : Int) - ago) / (10 ^ 9 : Int) +
              b.getS uWeb F.WEB.PAGE_OFFSET_UM * 1000 * 65536
            ∃ t : Block, exec (.pageSync dt ago) s = .next ⟨s.pending, t⟩ ∧ t.web.pend = b.web.pend ++ [p] ∧
              t.web.lastStart = some p ∧ t.get uWeb F.WEB.STATE_PEND = b.web.pend.length + 1))) ∧
      (∀ e < 2, ∃ t : Block, exec (.zIndex dt e) s = .next ⟨s.pending, t⟩ ∧ t.web = b.web ∧ t.out = .encoderZ e :: b.out ∧
        t.getI uWeb F.WEB.ENC_STAT_Z_COUNT e = (b.getI uWeb F.WEB.ENC_STAT_Z_COUNT e + 1) % 2 ^ F.WEB.ENC_STAT_Z_COUNT.width) ∧
      (∀ e a z, e < 2 → ∃ t : Block, exec (.quadratureEdge dt e a z) s = .next ⟨s.pending, t⟩ ∧ (t.enc e).a = a ∧ (t.enc e).b = z ∧
        (t.enc e).count = (b.enc e).count + quadStep (b.enc e).a (b.enc e).b a z ∧
        (a ≠ (b.enc e).a → z ≠ (b.enc e).b → t.getI uWeb F.WEB.ENC_QERR_COUNT e =
          satAdd F.WEB.ENC_QERR_COUNT.max (b.getI uWeb F.WEB.ENC_QERR_COUNT e) 1)))

/-- In an operating device a read of (1) POS_LO returns it and latches POS_HI, SPEED and ACCEL for the reading master, (2) of
HWM_LO it latches HWM_HI, (3) of LINE_LO it latches LINE_HI, PAGE and PAGE_LINE, (4) of ENC_e_ZPOS_LO its HI; the bytes that
the read addresses leave the block, and nothing else changes. (R7, R271, R647) -/
def Obligations.WebReadsLatch : Prop :=
  ∀ (s : State) (dt : Nat) (r : Reader), s.up dt → (s.now dt).answers r →
    let b := s.now dt
    let l := b.web.latch.get r.master
    let shown := fun (l : WebLatch) (v : Nat) =>
      Block.emit { b with web := { b.web with latch := b.web.latch.set r.master l } } (.readData r.master (bytesOf r.be v))
    exec (.webPosLatch dt r) s = .next ⟨s.pending, shown { l with
        posHi := b.get uWeb F.WEB.POS_HI_VALUE
        speed := b.get uWeb F.WEB.SPEED_UM_S
        accel := b.get uWeb F.WEB.ACCEL_MM_S2 } (b.get uWeb F.WEB.POS_LO_VALUE)⟩ ∧
    exec (.webHwmLatch dt r) s = .next ⟨s.pending, shown { l with hwmHi := b.get uWeb F.WEB.HWM_HI_VALUE }
      (b.get uWeb F.WEB.HWM_LO_VALUE)⟩ ∧
    exec (.webLineLatch dt r) s = .next ⟨s.pending, shown { l with
        lineHi := b.get uWeb F.WEB.LINE_HI_VALUE
        page := b.get uWeb F.WEB.PAGE_VALUE
        pageLine := b.get uWeb F.WEB.PAGE_LINE_VALUE } (b.get uWeb F.WEB.LINE_LO_VALUE)⟩ ∧
    exec (.encZposLatch dt r 0) s = .next ⟨s.pending, shown { l with zpos0 := b.getI uWeb F.WEB.ENC_ZPOS_HI_VALUE 0 }
      (b.getI uWeb F.WEB.ENC_ZPOS_LO_VALUE 0)⟩ ∧
    exec (.encZposLatch dt r 1) s = .next ⟨s.pending, shown { l with zpos1 := b.getI uWeb F.WEB.ENC_ZPOS_HI_VALUE 1 }
      (b.getI uWeb F.WEB.ENC_ZPOS_LO_VALUE 1)⟩

/-- A table window of context x, TBL or GEO: `bank` the bank its address names, `inForce` the one in force, `a` the table word
it names, none beyond the table. A write by a master that may write it, (1) to a bank neither in force nor about to change,
stores the word, free of error, leaves every other word and register as it was but its address, and moves that on with
AUTO_INC; (2) to the bank in force, or while a commit that changes the bank is pending, leaves every table word as it was and
sets the window's refused flag. (3) A read returns the bytes it addresses of the word, of zero for a word with a double-bit
error or beyond the table; it changes no table word, and moves the address on with AUTO_INC. (R7, R55, R286, R299, R302,
R325) -/
def Obligations.TableAccessesByWord : Prop :=
  ∀ (s : State) (dt x : Nat), s.up dt → x < 32 → (s.now dt).ctxs.length = 32 →
    let b := s.now dt
    let u := uCtx x
    let window := fun (bank inForce : Nat) (pending : Bool) (a : Option Nat) (word inc refused data : Field)
        (write : Master → Nat → Instr) (read : Reader → Instr) =>
      let moved (t : Block) : Prop := t.get u word =
        if b.on u inc then (b.get u word + 1) % 2 ^ word.width else b.get u word
      (∀ m v, b.takes m → b.mayWrite m u data 0 = true → v < 2 ^ 32 →
        (bank ≠ inForce → pending = false → ∃ t : Block, exec (write m v) s = .next ⟨s.pending, t⟩ ∧ moved t ∧
          b.keepsRegs t [(u, word.off)] ∧
          (∀ k, some k = a → t.tblWord x k = v ∧ t.sramBad u k = false) ∧
          ∀ k, some k ≠ a → t.tblWord x k = b.tblWord x k) ∧
        (bank = inForce ∨ pending = true → ∃ t : Block, exec (write m v) s = .next ⟨s.pending, t⟩ ∧ t.ctxs = b.ctxs ∧
          t.get u refused = 1)) ∧
      ∀ r, b.answers r → ∃ t : Block, t.ctxs = b.ctxs ∧ moved t ∧
        exec (read r) s = .next ⟨s.pending, t.emit (.readData r.master (bytesOf r.be
          ((a.map fun k => if b.sramBad u k then 0 else b.tblWord x k).getD 0)))⟩
    let w := b.get u F.CTX.TBL_ADDR_WORD
    let bank := b.get u F.CTX.TBL_ADDR_BANK
    let f := if b.on u F.CTX.GEO_ADDR_TABLE then F.CTX.GEO_CFG_LIN_BANK else F.CTX.GEO_CFG_GEO_BANK
    window bank (b.get u F.CTX.TABLE_BANK) (b.bankPending x F.CTX.TABLE_BANK)
        (if w < 49152 then some (Block.corrAddr bank w) else none) F.CTX.TBL_ADDR_WORD F.CTX.TBL_ADDR_AUTO_INC
        F.CTX.FLAGS_TBL_REFUSED F.CTX.TBL_DATA_WORD (fun m v => .tblDataWrite dt m x v) (fun r => .tblDataRead dt r x) ∧
      window (b.get u F.CTX.GEO_ADDR_BANK) (b.get u f) (b.bankPending x f) (b.geoTarget x) F.CTX.GEO_ADDR_WORD
        F.CTX.GEO_ADDR_AUTO_INC F.CTX.GC_FLAGS_REFUSED F.CTX.GEO_DATA_WORD (fun m v => .geoDataWrite dt m x v)
        (fun r => .geoDataRead dt r x)

/-- The commits a line brings near (commitsSettle) and the tags whose latency is known (latResolve) settle after each of the
first three commands. STRIP_LINE, control core 1 running, (1) with nothing ready does nothing else; (2) takes the line that
nextReady names, whose counter the context has then passed, and runs it through the strip by the values in force for it when
it was triggered and is not kept out. STITCH_DELIVER: (3) a line of a context not in assembly, or not awaited, is discarded
and counted; (4) an awaited one joins its web line, at most eight in assembly. STITCH_LINE_OUT: (5) the oldest web line, once
complete, goes on toward Tango; (6) until then nothing leaves. OVERLAP on a used link (7) from the ring neighbour on the
left port gives the columns to the web line, unless that has left. (8) OVERLAP_TIMEOUT gives a line up whose overlap is
overdue, and counts it. (R44, R277, R279, R313, R318, R565) -/
def Obligations.LinesReachTheStitcher : Prop :=
  ∀ (s : State) (dt : Nat), s.up dt → (s.now dt).ctxs.length = 32 →
    let b := s.now dt
    (∀ k, s.upOn dt 1 → k < 8 →
      (b.nextReady k = none → exec (.stripLine dt k) s = .next ⟨s.pending, b.commitsSettle⟩) ∧
      (∀ x l d, b.nextReady k = some (x, l) → b.lineInfo l.line = some d → b.keptOut l.line = false →
        ∃ t : Block, (t.ctx x).nextLine = l.line + 1 ∧ exec (.stripLine dt k) s =
          .next ⟨s.pending, (t.atLine (uCtx x) l.line fun t => t.frontLine x l d).commitsSettle⟩)) ∧
    (∀ x l rest, x < 32 → (b.ctx x).outbox = l :: rest →
      ((∀ e, b.stitch.lines.find? (fun e => e.line == l.line) = some e → b.awaited e x = false) →
        ∃ t : Block, exec (.stitchDeliver dt x) s = .next ⟨s.pending, t.commitsSettle⟩ ∧ (t.ctx x).outbox = rest ∧
          t.stitch = b.stitch ∧ t.get uStitch F.STITCH.FLAGS_STRAY = 1 ∧
          t.get uStitch F.STITCH.CNT_STRAY_COUNT = satAdd F.STITCH.CNT_STRAY_COUNT.max (b.get uStitch F.STITCH.CNT_STRAY_COUNT) 1) ∧
      (∀ e, b.stitch.lines.find? (fun e => e.line == l.line) = some e → b.awaited e x = true → findK x e.got = none →
        e.got ≠ [] ∨ b.stitchOpen < 8 →
        ∃ t : Block, exec (.stitchDeliver dt x) s = .next ⟨s.pending, t.commitsSettle⟩ ∧ (t.ctx x).outbox = rest ∧
          ∃ y ∈ t.stitch.lines, y.line = l.line ∧ findK x y.got = some l)) ∧
    (∀ e rest, b.stitch.lines = e :: rest →
      (b.lineComplete e = true →
        ∃ t : Block, exec (.stitchLineOut dt) s = .next ⟨s.pending, t.commitsSettle.latResolve⟩ ∧ t.stitch.lines = rest ∧
          t.stitch.nextOut = e.line + 1 ∧ ∃ w, t.stitch.outq = b.stitch.outq ++ [w] ∧ w.line = e.line ∧ w.page = e.page) ∧
      (b.lineComplete e = false → exec (.stitchLineOut dt) s = .next ⟨s.pending, b.commitsSettle.latResolve⟩)) ∧
    (∀ l src dest body e, b.linkUp l = true → (b.link l).used = true → l < 2 → src < 0x4000 → src / 32 = b.devAddr / 32 →
      b.ringPos = (if l = 0 then src % 32 + 1 else src % 32 + b.ringSize - 1) % b.ringSize →
      (b.valsAt uStitch (leAt body 0 6)).get uStitch F.STITCH.RING_CFG_LEFT_PORT = l + 1 → b.stitch.nextOut ≤ leAt body 0 6 →
      e ∈ b.stitch.lines → e.line = leAt body 0 6 → e.ovl = none → e.gaveUp = false →
      ∃ (t : Block) (px : List LabPx), exec (.overlap dt l src dest body) s = .next ⟨s.pending, t⟩ ∧ px.length = leAt body 6 2 ∧
        { e with ovl := some px } ∈ t.stitch.lines ∧ t.regs = b.regs) ∧
    (∀ e, b.stitch.lines.find? b.overlapDue = some e →
      ∃ t : Block, exec (.overlapTimeout dt) s = .next ⟨s.pending, t⟩ ∧
        t.stitch.lines = b.stitch.lines.map (fun y => if y.line = e.line then { y with gaveUp := true } else y) ∧
        t.get uStitch F.STITCH.FLAGS_SEAM_MISS = 1 ∧ t.get uStitch F.STITCH.CNT_SEAM_MISS_COUNT =
          satAdd F.STITCH.CNT_SEAM_MISS_COUNT.max (b.get uStitch F.STITCH.CNT_SEAM_MISS_COUNT) 1)

/-- INGEST_DATA takes bytes, (1) at a reference port with a load in progress, (2) at the map port with a map loading, up to the
length of the load, and counts and flags what is beyond it; (3) without a load it counts them all and takes none. ENCODE_BLOCK
(4) with no complete block does nothing; (5) takes the complete block of the next slot in rotation from the slot's buffer.
(6) LOAD_COMPLETE, every block of the slot's load written, makes the reference READY, frees the slot and sends the load's
notice; (7) with a block still missing it does nothing. BAND_FILL first frees the buffers no longer needed; then, (8) four
being left or nothing due, it does nothing more; (9) else one more holds the band that bandNext names. (R332, R336, R337, R338,
R348, R382) -/
def Obligations.ReferencesAreLoaded : Prop :=
  ∀ (s : State) (dt : Nat), s.up dt → (s.now dt).refs.slots.length = 4 →
    let b := s.now dt
    let count (n : Nat) : Nat := satAdd F.REFS.CNT_OVERRUN_COUNT.max (b.get uRefs F.REFS.CNT_OVERRUN_COUNT) n
    let f : Block := { b with refs := { b.refs with bands := b.refs.bands.filter fun q => !b.bandFree q } }
    (∀ i bytes e h, i < 4 → (b.slot i).handle = some h → b.refOf h = some e →
      ∃ t : Block, exec (.ingestData dt i bytes) s = .next ⟨s.pending, t⟩ ∧
        t.slot i = { b.slot i with
          fed := (b.slot i).fed + (bytes.take (e.streamBytes - (b.slot i).fed)).length
          buf := (b.slot i).buf ++ bytes.take (e.streamBytes - (b.slot i).fed) } ∧
        t.get uRefs F.REFS.CNT_OVERRUN_COUNT = count (bytes.length - (e.streamBytes - (b.slot i).fed)) ∧
        (e.streamBytes - (b.slot i).fed < bytes.length → t.get uRefs F.REFS.FLAGS_OVERRUN = 1)) ∧
    (∀ bytes m, b.refs.maps.find? (fun m => m.state == 1) = some m →
      ∃ t : Block, exec (.ingestData dt 4 bytes) s = .next ⟨s.pending, t⟩ ∧
        { m with fed := m.fed + (bytes.take (Block.mapBytes m - m.fed)).length } ∈ t.refs.maps ∧
        t.get uRefs F.REFS.CNT_OVERRUN_COUNT = count (bytes.length - (Block.mapBytes m - m.fed)) ∧
        (Block.mapBytes m - m.fed < bytes.length → t.get uRefs F.REFS.FLAGS_OVERRUN = 1)) ∧
    (∀ i bytes, i < 4 ∧ (b.slot i).handle = none ∨ i = 4 ∧ (∀ m ∈ b.refs.maps, m.state ≠ 1) →
      ∃ t : Block, exec (.ingestData dt i bytes) s = .next ⟨s.pending, t⟩ ∧ t.refs = b.refs ∧
        t.get uRefs F.REFS.CNT_OVERRUN_COUNT = count bytes.length) ∧
    (b.encReady = none → exec (.encodeBlock dt) s = .next ⟨s.pending, b⟩) ∧
    (∀ i e, b.encReady = some (i, e) →
      ∃ t : Block, exec (.encodeBlock dt) s = .next ⟨s.pending, t⟩ ∧ t.refs.enc = some i ∧
        (t.slot i).blocks = (b.slot i).blocks + 1 ∧ (t.slot i).buf = (b.slot i).buf.drop (1024 * fmtBytes e.fmt)) ∧
    (∀ i e h, i < 4 → (b.slot i).handle = some h → b.refOf h = some e →
      ((b.slot i).blocks = e.bandCount * e.blocksPer →
        ∃ t : Block, exec (.loadComplete dt i) s = .next ⟨s.pending, t.notice 0xF2 [h, 0]⟩ ∧ (t.slot i).handle = none ∧
          t.refOf h = some { e with state := 2, lastUse := b.lt }) ∧
      ((b.slot i).blocks ≠ e.bandCount * e.blocksPer → exec (.loadComplete dt i) s = .next ⟨s.pending, b⟩)) ∧
    (4 ≤ f.refs.bands.length ∨ f.bandNext = none → exec (.bandFill dt) s = .next ⟨s.pending, f⟩) ∧
    ∀ e n p, f.refs.bands.length < 4 → f.bandNext = some (e, n, p) →
      ∃ (t : Block) (q : BandBuf), exec (.bandFill dt) s = .next ⟨s.pending, t⟩ ∧ t.refs.bands = f.refs.bands ++ [q] ∧
        q.gen = e.gen ∧ q.page = p ∧ q.band = n

/-- Of a device whose control core 1 runs, LOOKAHEAD_ENTER (1) holds the stitch's next line there, with STORE_FULL, while the
look-ahead store has 40 lines; (2) else takes it into the store, after the values a commit brings with it. TANGO_FLUSH (3)
changes nothing sooner than FLUSH_US after the last line; (4) then it closes the last row, flushed, and counts that.
ROW_ESTIMATED (5) does nothing while the oldest row not estimated is open; (6) a closed one it estimates. (7) TANGO_LINE_OUT:
the oldest row, once it may leave, hands its next line on. (8) SEG_LINE takes the next line, which is then the last of its
history and the line SEG stands at. (9) SEG_FLUSH, no line for FLUSH_US, leaves no component open; (10) sooner it changes
nothing. Lines out go by the archive (tangoOuts), ended pages, commits and latencies then settle. (R359, R360, R378, R387,
R390) -/
def Obligations.LinesGoThroughTango : Prop :=
  ∀ (s : State) (dt : Nat), s.up dt →
    let b := s.now dt
    let flush := 1000 * b.get uTango F.TANGO.TIMING_FLUSH_US
    (∀ w rest, s.upOn dt 1 → b.stitch.outq = w :: rest →
      (40 ≤ b.heldLines → ∃ t : Block, exec (.lookaheadEnter dt) s = .next ⟨s.pending, t.commitsSettle⟩ ∧
        t.get uTango F.TANGO.FLAGS_STORE_FULL = 1 ∧ t.stitch = b.stitch ∧ t.tango = b.tango) ∧
      (b.heldLines < 40 → ∃ t : Block, t.stitch.outq = rest ∧ t.tango = b.tango ∧
        exec (.lookaheadEnter dt) s = .next ⟨s.pending, (b.tangoOuts ((Block.tangoCommitted b t).storeLine w)).commitsSettle⟩)) ∧
    (s.upOn dt 1 → b.tango.open_ = true →
      (b.since b.tango.entered < flush → exec (.tangoFlush dt) s = .next ⟨s.pending, b.latResolve⟩) ∧
      (flush ≤ b.since b.tango.entered → ∀ r, b.tango.rows.getLast? = some r → r.closed = false →
        ∃ t : Block, exec (.tangoFlush dt) s = .next ⟨s.pending, (b.tangoOuts t.pagesSettle).latResolve⟩ ∧
          t.tango.open_ = false ∧ t.get uTango F.TANGO.FLAGS_FLUSH = 1 ∧ t.get uTango F.TANGO.CNT_FLUSH_COUNT =
            satAdd F.TANGO.CNT_FLUSH_COUNT.max (b.get uTango F.TANGO.CNT_FLUSH_COUNT) 1 ∧
          ∀ x ∈ t.tango.rows, x.page = r.page → x.row = r.row → x.closed = true ∧ x.flushed = true)) ∧
    (∀ r, s.upOn dt 1 → b.tango.rows.find? (fun r => r.est.isNone) = some r →
      (r.closed = false → exec (.rowEstimated dt) s = .next ⟨s.pending, b⟩) ∧
      (r.closed = true → ∃ t : Block, exec (.rowEstimated dt) s = .next ⟨s.pending, b.tangoOuts t⟩ ∧
        ∀ x ∈ t.tango.rows, x.page = r.page → x.row = r.row → x.est.isSome = true)) ∧
    (∀ r rest w ws, s.upOn dt 1 → b.tango.rows = r :: rest → Block.rowMayLeave r rest = true → r.lines ++ r.late = w :: ws →
      ∃ t : Block, exec (.tangoLineOut dt) s = .next ⟨s.pending, (b.tangoOuts t).commitsSettle⟩ ∧
        ∃ l, t.tango.outq = b.tango.outq ++ [l] ∧ l.w = w) ∧
    (∀ l rest, b.tango.outq = l :: rest →
      ∃ t : Block, exec (.segLine dt) s = .next ⟨s.pending, t.commitsSettle⟩ ∧ t.tango.outq = rest ∧
        (∃ h, t.seg.hist.head? = some h ∧ h.line = l.w.line) ∧
        t.seg.last = some (l.w.page, l.w.pageLine, l.w.line, l.w.stamp, l.w.t0)) ∧
    (∀ q, b.seg.last = some q → b.seg.comps ≠ [] →
      (flush ≤ b.since b.seg.entered → ∃ t : Block, exec (.segFlush dt) s = .next ⟨s.pending, t.latResolve⟩ ∧ t.seg.comps = [] ∧
        t.get uSeg F.SEG.STAT_OPEN = 0) ∧
      (b.since b.seg.entered < flush → exec (.segFlush dt) s = .next ⟨s.pending, b.latResolve⟩))

/-- TAG_CLASSIFY (1) takes the next item SEG has handed on; of a component, by the rules in force for its lines, (2) one whose
rule has no TAG action only counts in its class, (3) another makes a tag, numbered by LOCAL, while its block row has made fewer
than MAX_PER_BLOCK, and (4) after that is folded. TAG_SEQUENCE gives the next tag received the next SEQ, which TAG.SEQ shows;
with (5) no action nothing leaves, (6) LINE alone it is queued for the line port that is UP, (7) MARK alone, in no ring, it goes
to every axis of the device, (8) ALERT alone in RUNNING, with no pulse under way, ALERTn falls for PULSE_US. (9) ALERT_PULSE_END
at its time raises ALERTn. LPORT_DATAGRAM (10) with the line port not UP sends nothing; (11) else takes the records that fit
from the queue and sends them in one datagram. (R394, R395, R397, R398, R399, R400, R404, R405, R406) -/
def Obligations.TagsAreClassifiedAndSent : Prop :=
  ∀ (s : State) (dt : Nat), s.up dt →
    let b := s.now dt
    let q := b.tag.seqNext
    (∀ i rest, b.seg.items = i :: rest →
      ∃ t : Block, exec (.tagClassify dt) s = .next ⟨s.pending, t.segStat⟩ ∧ t.seg.items = rest) ∧
    (∀ c fl line stamp page pageLine t0 rest, b.seg.items = .comp c fl line stamp page pageLine t0 :: rest →
      b.pastOf uTag line = [] →
      let k := (b.valsAt uTag c.line).classify (b.compTag c fl line stamp)
      let made := (b.foldOf page (pageLine / 16)).made
      ∃ t : Block, exec (.tagClassify dt) s = .next ⟨s.pending, t.segStat⟩ ∧ t.getI uTag F.TAG.CLASS_COUNT k.1 =
          satAdd F.TAG.CLASS_COUNT.max (b.getI uTag F.TAG.CLASS_COUNT k.1) 1 ∧
        (bit k.2.1 0 = false → t.tag.localNext = b.tag.localNext ∧ t.tag.inbox = b.tag.inbox ∧ t.tag.folds = b.tag.folds) ∧
        (bit k.2.1 0 = true → made < b.get uTag F.TAG.CFG_MAX_PER_BLOCK → t.tag.localNext = (b.tag.localNext + 1) % 2 ^ 32 ∧
          t.get uTag F.TAG.LOCAL_VALUE = b.tag.localNext % 2 ^ 32) ∧
        (bit k.2.1 0 = true → b.get uTag F.TAG.CFG_MAX_PER_BLOCK ≤ made → t.tag.localNext = b.tag.localNext ∧
          t.get uTag F.TAG.CNT_FOLDED_COUNT = satAdd F.TAG.CNT_FOLDED_COUNT.max (b.get uTag F.TAG.CNT_FOLDED_COUNT) 1)) ∧
    (∀ x t0 rest, b.tag.inbox = (x, t0) :: rest →
      (x.actions = 0 → ∃ t : Block, exec (.tagSequence dt) s = .next ⟨s.pending, t⟩ ∧ t.tag.inbox = rest ∧
        t.get uTag F.TAG.SEQ_VALUE = q % 2 ^ 32 ∧ t.tag.seqNext = (q + 1) % 2 ^ 32 ∧ t.out = b.out) ∧
      (x.actions = 2 → b.lportUp = true → ∃ t : Block, exec (.tagSequence dt) s = .next ⟨s.pending, t⟩ ∧ t.tag.inbox = rest ∧
        t.get uTag F.TAG.SEQ_VALUE = q % 2 ^ 32 ∧ t.tag.lportQ = b.tag.lportQ ++ [.tag { x with seq := q }]) ∧
      (x.actions = 8 → b.ringState = 0 → ∃ t : Block, exec (.tagSequence dt) s = .next ⟨s.pending, t⟩ ∧ t.tag.inbox = rest ∧
        t.get uTag F.TAG.SEQ_VALUE = q % 2 ^ 32 ∧ t.axes = b.axes.map fun y => { y with inbox := y.inbox ++ [{ x with seq := q }] }) ∧
      (x.actions = 32 → b.isRunning = true → b.tag.alertEnd = none →
        ∃ t : Block, exec (.tagSequence dt) s = .next ⟨s.pending, t.latResolve⟩ ∧ t.tag.inbox = rest ∧
          t.get uTag F.TAG.SEQ_VALUE = q % 2 ^ 32 ∧ t.out = .pin .alertn false :: b.out ∧
          t.tag.alertEnd = some ((b.lt + 1000 * b.get uTag F.TAG.ALERT_CFG_PULSE_US) % 2 ^ 64))) ∧
    (∀ e, b.tag.alertEnd = some e → b.since e < 2 ^ 63 →
      ∃ t : Block, exec (.alertPulseEnd dt) s = .next ⟨s.pending, t⟩ ∧ t.tag.alertEnd = none ∧ t.out = .pin .alertn true :: b.out) ∧
    (b.lportUp = false → exec (.lportDatagram dt) s = .next ⟨s.pending, b.latResolve⟩) ∧
    (let rs := Block.dgramTake b.tag.lportQ 45 1456
     b.lportUp = true → rs ≠ [] → b.tag.arpWait = [] →
      ∃ (t : Block) (vlan : Option Nat), exec (.lportDatagram dt) s = .next ⟨s.pending, t.latResolve⟩ ∧
        t.tag.lportQ = b.tag.lportQ.drop rs.length ∧ t.tag.dgram = (b.tag.dgram + 1) % 2 ^ 32 ∧ t.tag.restart = false ∧
        t.out = .datagram b.lportMac b.lportIp (b.get uLport F.LPORT.DST_UDP_SRC)
          (b.get uLport F.LPORT.DST_MAC_HI_OCTETS * 2 ^ 32 + b.get uLport F.LPORT.DST_MAC_LO_OCTETS)
          (b.get uLport F.LPORT.DST_IPV4_ADDR) (b.get uLport F.LPORT.DST_UDP_DST) vlan
          ([0x4B, 0x41, 0x01, rs.length] ++ le 2 b.devAddr ++ le 2 (b2n b.tag.restart) ++ le 4 b.tag.dgram ++
            le 4 (b.egressLt 12 % 2 ^ 32) ++ rs.flatMap Rec.bytes) :: b.out)

/-- Axis a, control core 3 running. (1) HOME of an UNHOMED axis starts homing; (2) STOP of a READY one begins the stop, which is
the newest event to replan the motion, and takes every mark from its queue; (3) RESUME of a STOPPED one makes it READY with no
plan; (4) CLEAR_FAULT in FAULT asks the drive, no register changing; (5) HOME_TIMEOUT of a homing that has lasted HOME_S is a
FAULT of cause 4. (6) AXIS_RESP_TIMEOUT of a status not come in RESP_US counts it, and short of LINK_LOSS_N in a row leaves the
state. AXIS_STATUS: a frame that is due, in time and good, of an unfaulted drive, shows position, status and code; (7) an
UNHOMED axis stays so; (8) a HOMING one whose second homed status it is becomes READY at that position. (R439, R440, R452,
R453) -/
def Obligations.AxesMoveThroughTheirStates : Prop :=
  ∀ (s : State) (dt a : Nat), s.upOn dt 3 → a < 2 → (s.now dt).axes.length = 2 →
    let b := s.now dt
    let u := uAxis a
    let x := b.axis a
    (b.axisState a = 1 → ∃ t : Block, exec (.home dt a) s = .next ⟨s.pending, t⟩ ∧ t.axisState a = 2 ∧ (t.axis a).homeFrom = b.lt) ∧
    (b.axisState a = 3 → ∃ (t : Block) (e : AxisEvent), exec (.stop dt a) s = .next ⟨s.pending, t⟩ ∧ t.axisState a = 4 ∧
      (t.axis a).queue = [] ∧ (t.axis a).replans = x.replans ++ [e] ∧ e.at_ = b.lt ∧ e.stop = true ∧ e.mark = none) ∧
    (b.axisState a = 5 → ∃ t : Block, exec (.resume dt a) s = .next ⟨s.pending, t⟩ ∧ t.axisState a = 3 ∧ (t.axis a).plan = none) ∧
    (b.axisState a = 6 → ∃ t : Block, exec (.clearFault dt a) s = .next ⟨s.pending, t⟩ ∧ (t.axis a).clearing = true ∧ t.regs = b.regs) ∧
    (b.axisState a = 2 → b.get u F.AXIS.TOL_HOME_S * 10 ^ 9 ≤ b.since x.homeFrom →
      ∃ t : Block, exec (.homeTimeout dt a) s = .next ⟨s.pending, t⟩ ∧ t.axisState a = 6 ∧ t.get u F.AXIS.STAT_CAUSE = 4) ∧
    (∀ q, x.period = some q → x.due = true → 1000 * b.get u F.AXIS.CFG_RESP_US ≤ b.since q →
      x.bad + 1 < b.get u F.AXIS.CFG_LINK_LOSS_N →
      ∃ t : Block, exec (.axisRespTimeout dt a) s = .next ⟨s.pending, t⟩ ∧ (t.axis a).bad = x.bad + 1 ∧ (t.axis a).due = false ∧
        t.axisState a = b.axisState a ∧ t.get u F.AXIS.CNT_LINK_ERR_COUNT =
          satAdd F.AXIS.CNT_LINK_ERR_COUNT.max (b.get u F.AXIS.CNT_LINK_ERR_COUNT) 1) ∧
    (∀ f q, x.due = true → x.period = some q → b.since q ≤ 1000 * b.get u F.AXIS.CFG_RESP_US → f.length = 14 → (∀ v ∈ f, v < 256) →
      leAt f 0 1 = 0x5A → leAt f 1 1 = 9 + 16 * b.get u F.AXIS.CFG_DRIVE_ADDR → leAt f 12 2 = Block.crc16 0xFFFF (f.take 12) →
      leAt f 2 1 = (x.k + 255) % 256 → bit (leAt f 3 1) 2 = false →
      (b.axisState a = 1 ∨ b.axisState a = 2 ∧ bit (leAt f 3 1) 1 = true ∧ 1 ≤ x.good →
        ∃ t : Block, exec (.axisStatus dt a f) s = .next ⟨s.pending, t⟩ ∧ t.getS u F.AXIS.ACT_POS_NM = sext 32 (leAt f 4 4) ∧
          t.get u F.AXIS.DRIVE_STATUS = leAt f 3 1 ∧ t.get u F.AXIS.DRIVE_CODE = leAt f 8 2 ∧ (t.axis a).due = false ∧
          (t.axis a).bad = 0 ∧ (b.axisState a = 1 → t.axisState a = 1) ∧
          (b.axisState a = 2 → t.axisState a = 3 ∧ (t.axis a).cmd = sext 32 (leAt f 4 4))))

/-- Axis a, control core 3 running. SERVO_PERIOD, when a period is due, the last status has come and nothing is to be replanned,
sends one set-point frame under AXa_DE: (1) of an UNHOMED axis at the last position reported, CMD 0; (2) of a READY one at rest,
with no plan and no mark, at its commanded position, CMD 1. MARK_TAG takes the oldest tag received: (3) it is ignored without EN,
MARK_EN and its class; (4) one whose target lies outside the virtual limits is counted; (5) of a page not recorded it gets a
record of refusal; (6) in READY, ahead of the web, near no queued mark and with fewer than 64, it is queued by its fire point.
MARK_PULSE: (7) a decided mark whose rise has come leaves with its record, and AXa_MARK rises or stays high for WIDTH_US.
(8) MARK_PULSE_END at its time: AXa_MARK falls. (R437, R438, R442, R443, R444, R448) -/
def Obligations.MarksAreTakenAndFired : Prop :=
  ∀ (s : State) (dt a : Nat), s.upOn dt 3 → a < 2 → (s.now dt).axes.length = 2 →
    let b := s.now dt
    let u := uAxis a
    let x := b.axis a
    (x.due = false → x.replans = [] → (∀ q, x.period = some q → 1000 * b.get u F.AXIS.CFG_PERIOD_US ≤ b.since q) →
      let sent (cmd : Nat) (pos : Int) : Prop :=
        ∃ t : Block, exec (.servoPeriod dt a) s = .next ⟨s.pending, t⟩ ∧ t.out = .pin (.axisDe a) false ::
            .axisFrame a (Block.frameBytes (b.get u F.AXIS.CFG_DRIVE_ADDR) x.k cmd pos 0 0 0) :: .pin (.axisDe a) true :: b.out ∧
          (t.axis a).k = x.k + 1 ∧ (t.axis a).period = some b.lt ∧ (t.axis a).due = true ∧ (t.axis a).cmd = pos
      (b.axisState a = 1 → sent 0 (b.actPos a)) ∧
      (b.axisState a = 3 → x.plan = none → x.queue = [] → b.getS u F.AXIS.VLIM_MIN_NM ≤ x.cmd → x.cmd ≤ b.getS u F.AXIS.VLIM_MAX_NM →
        sent 1 x.cmd)) ∧
    (∀ m rest, x.inbox = m :: rest →
      let on := b.on u F.AXIS.CFG_EN && b.on u F.AXIS.SEL_MARK_EN && (if m.cls < 32 then bit (b.get u F.AXIS.CLASS_LO_MASK) m.cls
        else bit (b.get u F.AXIS.CLASS_HI_MASK) (m.cls - 32))
      let goal : Int := b.getS u F.AXIS.XMAP_ORG_NM + divRound
        (((16 * m.col + m.cenCol : Nat) - (16 * b.get u F.AXIS.XMAP_COL0_COL : Nat)) * b.get u F.AXIS.XMAP_PITCH_PM) 16000
      let inside := b.getS u F.AXIS.VLIM_MIN_NM ≤ goal ∧ goal ≤ b.getS u F.AXIS.VLIM_MAX_NM
      (on = false → ∃ t : Block, exec (.markTag dt a) s = .next ⟨s.pending, t⟩ ∧ (t.axis a).inbox = rest ∧ t.regs = b.regs ∧
        (t.axis a).queue = x.queue ∧ t.out = b.out) ∧
      (on = true → ¬inside → ∃ t : Block, exec (.markTag dt a) s = .next ⟨s.pending, t⟩ ∧ (t.axis a).inbox = rest ∧
        (t.axis a).queue = x.queue ∧ t.get u F.AXIS.CNT_OUTSIDE_COUNT =
          satAdd F.AXIS.CNT_OUTSIDE_COUNT.max (b.get u F.AXIS.CNT_OUTSIDE_COUNT) 1) ∧
      (on = true → inside → x.pages.find? (fun p => p.page == m.page) = none →
        ∃ t : Block, (t.axis a).inbox = rest ∧ (t.axis a).queue = x.queue ∧ exec (.markTag dt a) s =
          .next ⟨s.pending, t.axisRecord a ⟨3, 1, b.devAddr, a, m.seq, b.stamp, goal, 0, 0, 0⟩⟩) ∧
      (∀ p, on = true → inside → x.pages.find? (fun p => p.page == m.page) = some p → b.axisState a = 3 →
        let fire : Int := p.start + divRound ((16 * m.pageLine + m.cenLine + 8 : Nat) * p.pitch : Nat) 16000 +
          1000 * b.get u F.AXIS.STATION_DIST_UM
        b.web.pNow < fire * 65536 → x.queue.length < 64 →
        (∀ k ∈ x.queue, 1000 * b.get u F.AXIS.MERGE_DOWN_UM < (fire - k.f).natAbs ∨
          1000 * b.get u F.AXIS.MERGE_CROSS_UM < (goal - k.x).natAbs) →
        ∃ (t : Block) (k : AxisMark), exec (.markTag dt a) s = .next ⟨s.pending, t⟩ ∧ (t.axis a).inbox = rest ∧
          (t.axis a).queue = Block.insertMark k x.queue ∧ k.f = fire ∧ k.x = goal ∧ k.seq = m.seq)) ∧
    (∀ h rest, x.shots = h :: rest → h.rise ≤ b.lt + 1 →
      ∃ t : Block, exec (.markPulse dt a) s = .next ⟨s.pending, t.axisRecord a h.rec_⟩ ∧ (t.axis a).shots = rest ∧
        (t.axis a).pulseEnd = some (h.rise + 1000 * b.get u F.AXIS.MARK_CFG_WIDTH_US) ∧
        t.out = if x.pulseEnd.isSome then b.out else .pin (.mark a) true :: b.out) ∧
    (∀ e, x.pulseEnd = some e → e ≤ b.lt + 1 →
      ∃ t : Block, exec (.markPulseEnd dt a) s = .next ⟨s.pending, t⟩ ∧ (t.axis a).pulseEnd = none ∧ t.out = .pin (.mark a) false :: b.out)

/-- DRAM_REQUEST within capacity, its queue having room, of a controller that is up: a read changes no byte, and (1) with a
write to its granule queued, or up to two symbols wrong, ECC on if any, answers what the granule holds; (2) with 3 to 14 wrong and ECC on it carries the error mark,
flagged; (3) a write to sound DRAM puts its bytes and is acknowledged. (4) Otherwise it does nothing. (5) REQUEST_URGENT: the
oldest request past its requester's target becomes urgent. (6) PAGE_IDLE_CLOSE closes the rows idle so long, (7) REFRESH those
of its bank. (8) SCRUB_READ of a granule with one or two symbols wrong, no write to it queued, corrects and counts. (9) MR4_POLL
shows every channel's code and flags a hot die. (10) SELF_REFRESH_ENTER: with no request and no trigger for the set time, every
channel enters it. (11) RETRAIN_CHECK: the channels whose drift exceeds the limit ask, and the lowest pauses when it may.
(12) RETRAIN_DONE ends its pause, counted as a retraining, and without an eye as a failure too. (R460, R461, R462, R468, R469,
R470, R471, R472, R473, R474) -/
def Obligations.DramServesAndKeepsItself : Prop :=
  ∀ (s : State) (dt : Nat), s.up dt →
    let b := s.now dt
    let counted (t : Block) (f : Field) : Prop := t.get uDmc f = satAdd f.max (b.get uDmc f) 1
    let fits (q addr : Nat) (write : Bool) : Prop :=
      b.dramUp = true ∧ q ≤ 9 ∧ addr < b.usableBytes ∧ b.queueRoom (addr / 64) write = true
    (∀ q tier hint addr len flips slots, fits q addr false →
      let n := if b.writeQueued (addr / 64) then 0 else b.badOf (addr / 64) + flips
      (n = 0 ∨ n ≤ 2 ∧ b.on uDmc F.DMC.CFG_ECC_EN = true →
        ∃ t : Block, exec (.dramRequest dt q tier hint addr len none flips slots) s = .next ⟨s.pending, t⟩ ∧ t.dmc.mem = b.dmc.mem ∧
          t.out = .dramData q addr false (((b.granule (addr / 64)).drop (addr % 64)).take (Nat.min len (64 - addr % 64))) :: b.out ∧
          (n ≠ 0 → counted t F.DMC.CNT_CE_COUNT ∧ t.get uDmc F.DMC.FLAGS_CE = 1 ∧ t.badOf (addr / 64) = 0)) ∧
      (3 ≤ n → n ≤ 14 → b.on uDmc F.DMC.CFG_ECC_EN = true →
        ∃ (t : Block) (l : List Nat), exec (.dramRequest dt q tier hint addr len none flips slots) s = .next ⟨s.pending, t⟩ ∧
          t.dmc.mem = b.dmc.mem ∧ t.out.head? = some (.dramData q addr true l) ∧ t.get uDmc F.DMC.FLAGS_UE = 1 ∧
          counted t F.DMC.CNT_UE_COUNT)) ∧
    (∀ q tier hint addr len l slots, fits q addr true → b.dmc.bad = [] →
      ∃ t : Block, exec (.dramRequest dt q tier hint addr len (some l) 0 slots) s = .next ⟨s.pending, t⟩ ∧
        t.out = .dramAck q addr false :: b.out ∧
        t.dmc.mem = cellsWrite 0 b.dmc.mem addr (l.take (Nat.min len (64 - addr % 64)))) ∧
    (∀ q tier hint addr len data flips slots, ¬fits q addr data.isSome →
      exec (.dramRequest dt q tier hint addr len data flips slots) s = .next ⟨s.pending, b⟩) ∧
    (let late := fun (r : DramReq) => !r.urgent && b.getI uDmc F.DMC.TARGET_NS r.q != 0 &&
        decide (b.getI uDmc F.DMC.TARGET_NS r.q < b.since r.at_)
     ∀ pre r post, b.dmc.reqs = pre ++ r :: post → late r = true → (∀ x ∈ pre, late x = false) →
      ∃ t : Block, exec (.requestUrgent dt) s = .next ⟨s.pending, t⟩ ∧ t.regs = b.regs ∧
        t.dmc.reqs = b.dmc.reqs.map fun x => if x = r then { x with urgent := true } else x) ∧
    (∃ t : Block, exec (.pageIdleClose dt) s = .next ⟨s.pending, t⟩ ∧ t.regs = b.regs ∧ t.dmc.mem = b.dmc.mem ∧
      ∀ r, r ∈ t.dmc.rows ↔ r ∈ b.dmc.rows ∧ b.since r.at_ < b.get uDmc F.DMC.PAGE_IDLE_CLOSE_NS) ∧
    (∀ c k, ∃ t : Block, exec (.refresh dt c k) s = .next ⟨s.pending, t⟩ ∧ t.regs = b.regs ∧ t.dmc.mem = b.dmc.mem ∧
      ∀ r, r ∈ t.dmc.rows ↔ r ∈ b.dmc.rows ∧ ¬(r.chan = c ∧ r.bank = k)) ∧
    (∀ g n, b.dramUp = true → b.on uDmc F.DMC.CFG_ECC_EN = true → b.get uDmc F.DMC.SCRUB_HOURS ≠ 0 → 64 * g < b.usableBytes →
      b.queueRoom g false = true → b.writeQueued g = false → 1 ≤ b.badOf g + n → b.badOf g + n ≤ 2 →
      ∃ t : Block, exec (.scrubRead dt g n) s = .next ⟨s.pending, t⟩ ∧ t.badOf g = 0 ∧ t.dmc.mem = b.dmc.mem ∧ t.out = b.out ∧
        counted t F.DMC.CNT_CE_COUNT) ∧
    (∀ (codes : List Nat) (hot : Bool), codes.length = 16 → (∀ v ∈ codes, v < 8) → b.dramUp = true →
      ∃ t : Block, exec (.mr4Poll dt codes hot) s = .next ⟨s.pending, t⟩ ∧ (hot = true → t.get uDmc F.DMC.FLAGS_HOT = 1) ∧
        ∀ c v, codes[c]? = some v → t.getI uDmc F.DMC.CH_STAT_MR4 c = v) ∧
    (let idle := 1000 * b.get uDmc F.DMC.PWR_SR_IDLE_US
     b.get uDmc F.DMC.STAT_STATE = 3 → idle ≠ 0 → b.dmc.reqs = [] → (∀ x ∈ b.gov.trigTimes.head?, idle ≤ b.since x) →
      b.dmc.pausing = none → idle ≤ b.since b.dmc.lastReq →
      ∃ t : Block, exec (.selfRefreshEnter dt) s = .next ⟨s.pending, t⟩ ∧ t.get uDmc F.DMC.STAT_STATE = 4 ∧ t.dmc.rows = [] ∧
        t.dmc.mem = b.dmc.mem ∧ counted t F.DMC.CNT_SR_COUNT ∧ ∀ c < 16, t.getI uDmc F.DMC.CH_STAT_STATE c = 1) ∧
    (∀ drifts c d rest, b.dramUp = true →
      ((List.range 16).zip drifts).filter (fun p => decide (b.get uDmc F.DMC.RETRAIN_DRIFT_PS < p.2.natAbs)) = (c, d) :: rest →
      ∃ t : Block, exec (.retrainCheck dt drifts) s = .next ⟨s.pending, t⟩ ∧ t.dmc.wants = (c, d) :: rest ∧
        (b.pauseAllowed = true → t.dmc.pausing = some c ∧ t.getI uDmc F.DMC.CH_STAT_STATE c = 2) ∧
        (b.pauseAllowed = false → t.dmc.pausing = b.dmc.pausing ∧ t.regs = b.regs)) ∧
    (∀ c d, c < 16 → b.dmc.trained.length = 16 → findK c b.dmc.wants = some d → b.dmc.pausing = some c →
      (∃ t : Block, exec (.retrainDone dt c true) s = .next ⟨s.pending, t⟩ ∧ t.dmc.pausing = none ∧
        t.getI uDmc F.DMC.CH_STAT_STATE c = 0 ∧ nth t.dmc.trained c 0 = nth b.dmc.trained c 0 + d ∧ counted t F.DMC.CNT_RETRAIN_COUNT ∧
        t.getI uDmc F.DMC.CH_STAT_RETRAINS c = satAdd F.DMC.CH_STAT_RETRAINS.max (b.getI uDmc F.DMC.CH_STAT_RETRAINS c) 1) ∧
      (∃ t : Block, exec (.retrainDone dt c false) s = .next ⟨s.pending, t⟩ ∧ t.dmc.pausing = none ∧ t.dmc.trained = b.dmc.trained ∧
        t.on uDmc F.DMC.FLAGS_RETRAIN_FAIL = true ∧ counted t F.DMC.CNT_RETRAIN_COUNT ∧ counted t F.DMC.CNT_RETRAIN_FAIL_COUNT))

/-- CONFIG_REQUEST (1) before training does nothing, (2) until the cores are released is answered Retry, (3) then is done, with
the MSI-X Enable, Function Mask and Max_Read_Request_Size it writes, if any. (4) LINK_UP while training, with a reference and
the link down, shows the link with its speed and width. (5) D3HOT_ENTER: the running host channels stop as under a STOP, every
other is as it was. (6) D0_RETURN and (7) MSIX_UNMASK, MSI-X enabled and the function not masked, send every message that is
pending and no longer masked, with its vector's address and data; (8) a vector unmasked in D3hot stays pending. (R78, R481,
R484, R486) -/
def Obligations.HostLinkAndPowerStates : Prop :=
  ∀ (s : State) (dt : Nat),
    let b := s.now dt
    (∀ w, b.host.training = false → exec (.configRequest dt w) s = .next ⟨s.pending, b⟩) ∧
    (∀ w, b.host.training = true → b.cored = false → exec (.configRequest dt w) s = .next ⟨s.pending, b.emit (.cfg .retry)⟩) ∧
    (b.host.training = true → b.cored = true → exec (.configRequest dt none) s = .next ⟨s.pending, b.emit (.cfg .done)⟩) ∧
    (∀ en fm rq, b.host.training = true → b.cored = true →
      ∃ t : Block, exec (.configRequest dt (some (en, fm, rq))) s = .next ⟨s.pending, t⟩ ∧ t.host.msixEnable = en ∧ t.host.functionMask = fm ∧
        t.host.maxReadReq = (if rq ∈ [128, 256, 512, 1024, 2048, 4096] then rq else b.host.maxReadReq) ∧ t.out.head? = some (.cfg .done)) ∧
    (∀ speed width, s.up dt → b.host.training = true → b.on uClk F.CLK.SRC_STAT_REF_OK = true → b.on uHost F.HOST.LINK_UP = false →
      speed ≤ F.HOST.LINK_SPEED.max → width ≤ F.HOST.LINK_WIDTH.max →
      ∃ t : Block, exec (.linkUp dt speed width) s = .next ⟨s.pending, t⟩ ∧ t.get uHost F.HOST.LINK_UP = 1 ∧
        t.get uHost F.HOST.LINK_SPEED = speed ∧ t.get uHost F.HOST.LINK_WIDTH = width ∧ t.host.resync = none) ∧
    (s.up dt → b.dma.chans.length = 64 →
      ∃ t : Block, exec (.d3hotEnter dt) s = .next ⟨s.pending, t⟩ ∧ t.on uHost F.HOST.LINK_D3 = true ∧
        (∀ n < 56, b.chanState n = 1 ∨ b.chanState n = 2 → t.chanState n = 2 ∧ (t.chan n).stopReq = true) ∧
        (∀ n < 56, ¬(b.chanState n = 1 ∨ b.chanState n = 2) → t.chanState n = b.chanState n ∧ t.chan n = b.chan n)) ∧
    (s.up dt → b.on uHost F.HOST.LINK_D3 = true → b.host.msixEnable = true → b.host.functionMask = false →
      ∃ t : Block, exec (.d0Return dt) s = .next ⟨s.pending, t⟩ ∧ t.on uHost F.HOST.LINK_D3 = false ∧
        (∀ v, v ∈ t.host.pba ↔ v ∈ b.host.pba ∧ (nth b.host.msix v ⟨0, 0, true⟩).masked = true) ∧
        (∀ v ∈ b.host.pba, ∀ e, b.host.msix[v]? = some e → e.masked = false → .msix v e.addr e.data ∈ t.out)) ∧
    (∀ v e, s.up dt → v < 64 → b.host.msixEnable = true → b.host.functionMask = false → b.host.msix[v]? = some e →
      ∃ t : Block, exec (.msixUnmask dt v) s = .next ⟨s.pending, t⟩ ∧ t.host.msix[v]? = some { e with masked := false } ∧
        (b.on uHost F.HOST.LINK_D3 = false → v ∉ t.host.pba ∧ (v ∈ b.host.pba → .msix v e.addr e.data ∈ t.out)) ∧
        (b.on uHost F.HOST.LINK_D3 = true → t.host.pba = b.host.pba ∧ t.out = b.out))

/-- Host channel n of the DMA engine, outside D3hot. DMA_GO (1) before RUNNING is held; (2) on an idle or stopped channel starts
a chain at the captured address, and with a free tag its descriptor is read from host memory; (3) on one at work it only moves
the chain. DMA_STOP (4) asks a running channel to stop, and (5) does nothing to another. (6) DMA_REARM is remembered.
DMA_RESPONSE: (7) a late one is counted, (8) an error fails the descriptor, (9) data joins the buffer, (10) a fetch brings the
descriptor. DESCRIPTOR_COMPLETE (11) lets the engine go on, and (12) a finished last descriptor stops its channel with cause 1,
status and sequence number kept. (13) DMA_NOACK after NOACK_MS: the tag goes into quarantine and the descriptor fails with 3;
(14) DMA_TAG_RETURN gives it back as long after. (15) PRIV_DMA_GO starts a transfer of the control cores. (16) STREAM_FLUSH after
FLUSH_US ends a stream descriptor. (17) STREAM_WAITING, a record waiting so long, shows so. (R481, R491, R492, R494, R495,
R496, R497, R498, R499, R500, R502) -/
def Obligations.DmaChannelsRunTheirChains : Prop :=
  ∀ (s : State) (dt n : Nat), s.up dt → (s.now dt).dma.chans.length = 64 → n < 56 →
    let b := s.now dt
    let c := b.chan n
    let st := b.chanState n
    let noack := b.get uDma F.DMA.CFG_NOACK_MS * 1000000
    let flushed := b.get uHost F.HOST.STR_CFG_FLUSH_US * 1000
    let answered (id : Nat) (t : Block) : Prop := id ∉ t.dma.flight.map (·.id)
    (b.on uHost F.HOST.LINK_D3 = false →
      (b.isRunning = false → ∃ t : Block, exec (.dmaGo dt n) s = .next ⟨s.pending, t⟩ ∧ t.regs = b.regs ∧
        t.chan n = { c with heldGo := true, repoint := some (b.goCapture n) }) ∧
      (b.isRunning = true → st = 0 ∨ st = 3 →
        ∃ t : Block, exec (.dmaGo dt n) s = .next ⟨s.pending, t⟩ ∧ t.chanState n = 1 ∧ t.getI uDma F.DMA.CH_STAT_STOP_CAUSE n = 0 ∧
          (t.chan n).fetching = true ∧ (t.chan n).descAddr = (b.goCapture n).1 ∧
          (b.getI uDma F.DMA.CH_CFG_DESC_SPACE n = 0 → b.dma.flight = [] → b.dma.quarantine = [] → b.dmc.reqs = [] →
            b.getI uDma F.DMA.CH_CFG_TAG_MAX n ≠ 0 → t.out = .hostRead b.dma.nextId (b.goCapture n).1 32 :: b.out)) ∧
      (b.isRunning = true → st = 1 ∨ st = 2 →
        ∃ t : Block, exec (.dmaGo dt n) s = .next ⟨s.pending, t⟩ ∧ t.getI uDma F.DMA.CH_STAT_PEND n = 1 ∧ t.chanState n = st ∧
          t.chan n = { c with repoint := some (b.goCapture n), goInStop := st == 2 }) ∧
      (st = 1 ∨ st = 2 →
        ∃ t : Block, exec (.dmaStop dt n) s = .next ⟨s.pending, t⟩ ∧ t.chanState n = 2 ∧ (t.chan n).stopReq = true ∧ t.out = b.out) ∧
      (st = 0 ∨ st = 3 → exec (.dmaStop dt n) s = .next ⟨s.pending, b⟩) ∧
      (∃ t : Block, exec (.dmaRearm dt n) s = .next ⟨s.pending, t⟩ ∧ t.chan n = { c with rearm := true } ∧ t.regs = b.regs)) ∧
    (∀ id err data, b.dma.flight.find? (fun a => a.id == id) = none → b.dma.quarantine.any (·.id == id) = true →
      ∃ t : Block, exec (.dmaResponse dt id err data) s = .next ⟨s.pending, t⟩ ∧ t.dma = b.dma ∧ t.get uDma F.DMA.FLAGS_LATE_RSP = 1 ∧
        t.get uDma F.DMA.CNT_LATE_RSP_COUNT = satAdd F.DMA.CNT_LATE_RSP_COUNT.max (b.get uDma F.DMA.CNT_LATE_RSP_COUNT) 1) ∧
    (∀ id data a, b.dma.flight.find? (fun a => a.id == id) = some a → a.space = 0 → a.chan = n →
      (a.kind = .read → c.error = none →
        ∃ t : Block, exec (.dmaResponse dt id true data) s = .next ⟨s.pending, t.dmaPump⟩ ∧ answered id t ∧
          t.chan n = { c with error := some (1, b.lt), fetching := false }) ∧
      (∀ d, a.kind = .read → c.desc = some d → a.len ≤ data.length →
        ∃ t : Block, exec (.dmaResponse dt id false data) s = .next ⟨s.pending, t.dmaPump⟩ ∧ answered id t ∧
          t.chan n = { c with buffer := c.buffer ++ [(a.addr - d.src, data.take a.len)] }) ∧
      (a.kind = .fetch → 32 ≤ data.length →
        ∃ t : Block, exec (.dmaResponse dt id false data) s = .next ⟨s.pending, t.dmaPump⟩ ∧ answered id t ∧
          (t.chan n).fetching = false ∧ (t.chan n).desc = some (Block.descOf data))) ∧
    (b.dmaPump.descDone n = false → exec (.descriptorComplete dt n) s = .next ⟨s.pending, b.dmaPump.dmaPump⟩) ∧
    (let p := b.dmaPump
     ∀ d, p.descDone n = true → (p.chan n).desc = some d → (p.chan n).error = none → bit d.ctrl 8 = true → bit d.ctrl 10 = false →
      (p.chan n).stopReq = false → (p.chan n).repoint = none → (p.chan n).rearm = false → (p.chan n).chain + 1 < (p.chan n).limit →
      ∃ t : Block, exec (.descriptorComplete dt n) s = .next ⟨s.pending, t.dmaPump⟩ ∧ t.chanState n = 3 ∧
        t.getI uDma F.DMA.CH_STAT_STOP_CAUSE n = 1 ∧ t.getI uDma F.DMA.CH_STAT_STATUS n = 0 ∧
        t.getI uDma F.DMA.CH_STAT_SEQ n = (p.chan n).seq % 2 ^ 16 ∧ (t.chan n).desc = none ∧
        t.getI uDma F.DMA.CH_COUNT_COUNT n = (d.count - (p.chan n).written) % 2 ^ F.DMA.CH_COUNT_COUNT.width) ∧
    (∀ id a, b.dma.flight.find? (fun a => a.id == id) = some a → a.chan = n → a.kind ≠ .fetch → ¬(a.kind = .write ∧ a.space = 0) →
      c.error = none → noack ≤ b.since a.at_ →
      ∃ t : Block, exec (.dmaNoack dt id) s = .next ⟨s.pending, t.dmaPump⟩ ∧ t.on uDma F.DMA.FLAGS_NOACK = true ∧
        t.dma.quarantine = b.dma.quarantine ++ [{ a with at_ := b.lt }] ∧ answered id t ∧ (t.chan n).error = some (3, b.lt)) ∧
    (∀ id a, b.dma.quarantine.find? (fun a => a.id == id) = some a → noack ≤ b.since a.at_ →
      let kept := b.dma.quarantine.filter fun x => x.id != id
      ∃ t : Block, exec (.dmaTagReturn dt id) s = .next ⟨s.pending, t⟩ ∧ t.dma.quarantine = kept ∧
        t.get uHost F.HOST.TAGS_IN_USE = Nat.min 16384 (b.dma.flight.length + kept.length + b.dmc.reqs.length)) ∧
    (∀ m i, i < 8 → b.chanState (56 + i) ≠ 1 → b.getI uDma F.DMA.PCH_CTL_SRC_SPACE i ≠ 3 →
      ∃ t : Block, exec (.privDmaGo dt m i) s = .next ⟨s.pending, t.dmaPump⟩ ∧ t.chanState (56 + i) = 1 ∧
        t.getI uDma F.DMA.PCH_CTL_GO i = 1 ∧ (t.chan (56 + i)).master = m ∧
        (t.chan (56 + i)).desc.map (·.count) = some (b.getI uDma F.DMA.PCH_COUNT_COUNT i)) ∧
    (∀ x, c.streamFirst = some x → flushed ≤ b.since x →
      ∃ t : Block, exec (.streamFlush dt n) s = .next ⟨s.pending, t⟩ ∧ t.chan n = { c with streamEnd := true } ∧ t.regs = b.regs) ∧
    (∀ i x r rest, i < 4 → b.host.streams[i]? = some ⟨r :: rest, none, some x⟩ → flushed ≤ b.since x →
      ∃ t : Block, exec (.streamWaiting dt i) s = .next ⟨s.pending, t⟩ ∧ bit (t.get uHost F.HOST.STR_STAT_WAITING) i = true ∧
        t.host.streams = b.host.streams)

/-- EVENT_ARRIVAL of a producer not raised in the last 10 ns (1) opens a window of the channel it routes to when none takes
arrivals any more, (2) else joins the open one and is coalesced; (3) sooner it only counts. EVENT_DELIVERY (4) with no window,
or before its 10 ns are up, does nothing; (5) then PEND is set and LAST_SRC the lowest producer of the first instant, with
vector 61 if asked; the export and the tasks follow. EXPORT_DROP: (6) an export unsent for 4 ms is discarded, (7) a younger one
stays. SW_HOST, outside D3hot, and SW_FW (8) raise the producer of their one bit, (9) with none do nothing. (10) CLR_COAL zeroes
one count. (11) GPIO_EDGE of a new level in RUNNING shows it, and raises an input's producer on a selected edge.
(12) GPIO_PULSE_END: the ball returns to rest. (13) ERRLOG_SELECT is each master's own. (14) ERRLOG_WRITE of an occurrence that
does not repeat, 20 ns after the last, writes an entry under the next SEQ, over the oldest of 1,024. (R575, R577, R578, R579,
R580, R584, R586, R587, R588, R589, R590, R593) -/
def Obligations.EventsReachTheirChannels : Prop :=
  ∀ (s : State) (dt : Nat), s.up dt →
    let b := s.now dt
    (∀ p src c, Block.producer p = true → c < 128 → b.routes p = [c] → b.onI uEvt F.EVT.CH_CFG_SEC c = false →
      (∀ x ∈ findK p b.evt.asserted, 10 ≤ b.since x) →
      (b.evt.windows.any (b.windowOpen c) = false →
        ∃ t : Block, exec (.eventArrival dt p src) s = .next ⟨s.pending, t⟩ ∧
          t.evt.windows = b.evt.windows ++ [(c, ⟨[(b.lt, p)]⟩)] ∧ findK p t.evt.asserted = some b.lt ∧ t.regs = b.regs ∧ t.out = b.out) ∧
      (∀ w, findK c b.evt.windows = some w → b.windowOpen c (c, w) = true →
        ∃ t : Block, exec (.eventArrival dt p src) s = .next ⟨s.pending, t⟩ ∧
          findK c t.evt.windows = some ⟨w.arrivals ++ [(b.lt, p)]⟩ ∧ t.on uEvt F.EVT.FLAGS_COAL = true ∧
          t.getI uEvt F.EVT.CH_STAT_COAL c = satAdd F.EVT.CH_STAT_COAL.max (b.getI uEvt F.EVT.CH_STAT_COAL c) 1)) ∧
    (∀ p src x, Block.producer p = true → findK p b.evt.asserted = some x → b.since x < 10 →
      exec (.eventArrival dt p src) s = .next ⟨s.pending, (b.routes p).foldl Block.coalesce b⟩) ∧
    (∀ c, (∀ w, findK c b.evt.windows = some w → ∃ a ∈ w.arrivals.head?, b.since a.1 < 10) →
      exec (.eventDelivery dt c) s = .next ⟨s.pending, b⟩) ∧
    (∀ c w, c < 128 → findK c b.evt.windows = some w → (∀ a ∈ w.arrivals.head?, 10 ≤ b.since a.1) → Block.windowSrc w < 512 →
      ∃ t : Block, exec (.eventDelivery dt c) s =
          .next ⟨s.pending, ((List.range 256).filter (t.taskOn c)).foldl Block.taskDeliver (t.exportDelivery c)⟩ ∧
        t.evt.windows = b.evt.windows.erase (c, w) ∧ t.getI uEvt F.EVT.CH_STAT_PEND c = 1 ∧
        t.getI uEvt F.EVT.CH_STAT_LAST_SRC c = Block.windowSrc w ∧
        t.getI uEvt F.EVT.CH_STAT_COAL c = b.getI uEvt F.EVT.CH_STAT_COAL c ∧
        (b.onI uEvt F.EVT.CH_STAT_PEND c = false → b.onI uEvt F.EVT.CH_CFG_OWNER c = false →
          b.onI uEvt F.EVT.CH_CTL_IRQ_EN c = true → 61 ∈ t.host.pba ∨ ∃ a d, t.out = .msix 61 a d :: b.out)) ∧
    (∀ c e, findK c b.evt.exports = some e →
      (4000000 ≤ b.since e.lt → ∃ t : Block, exec (.exportDrop dt c) s = .next ⟨s.pending, t⟩ ∧ t.evt.exports = dropK c b.evt.exports ∧
        t.on uEvt F.EVT.FLAGS_EXPORT_DROP = true) ∧
      (b.since e.lt < 4000000 → exec (.exportDrop dt c) s = .next ⟨s.pending, b⟩)) ∧
    (∀ i < 16, (b.on uHost F.HOST.LINK_D3 = false → exec (.swHost dt (2 ^ i)) s = .next ⟨s.pending, b.raise (212 + i)⟩) ∧
      exec (.swFw dt (2 ^ i)) s = .next ⟨s.pending, b.raise (228 + i)⟩) ∧
    (∀ w, w % 2 ^ 16 = 0 → exec (.swHost dt w) s = .next ⟨s.pending, b⟩ ∧ exec (.swFw dt w) s = .next ⟨s.pending, b⟩) ∧
    (∀ c < 128, ∃ t : Block, exec (.clrCoal dt c) s = .next ⟨s.pending, t⟩ ∧ t.getI uEvt F.EVT.CH_STAT_COAL c = 0 ∧
      t.getI uEvt F.EVT.CH_STAT_PEND c = b.getI uEvt F.EVT.CH_STAT_PEND c ∧
      t.getI uEvt F.EVT.CH_STAT_LAST_SRC c = b.getI uEvt F.EVT.CH_STAT_LAST_SRC c ∧ b.keepsRest t) ∧
    (∀ k high, k < 16 → b.isRunning = true → bit (b.get uEvt F.EVT.GPIO_IN_LEVEL) k ≠ high →
      ∃ t : Block, exec (.gpioEdge dt k high) s = .next ⟨s.pending,
          if b.onI uEvt F.EVT.GPIO_OUT k = false ∧
            bit (b.getI uEvt F.EVT.GPIO_EDGE k) (if (high != b.onI uEvt F.EVT.GPIO_POL k) = true then 0 else 1) = true
          then t.raise (196 + k) else t⟩ ∧ bit (t.get uEvt F.EVT.GPIO_IN_LEVEL) k = high ∧ b.keepsRest t) ∧
    (∀ k, b.evt.gpioPulse.contains k = true →
      ∃ t : Block, exec (.gpioPulseEnd dt k) s = .next ⟨s.pending, t⟩ ∧ k ∉ t.evt.gpioPulse ∧
        t.out = .pin (.gpio k) (b.onI uEvt F.EVT.GPIO_POL k) :: b.out ∧ t.regs = b.regs) ∧
    (∀ m v, b.takes m → ∃ t : Block, exec (.errlogSelect dt m v) s = .next ⟨s.pending, t⟩ ∧
      t.errlog.entries = b.errlog.entries ∧ t.regs = b.regs ∧ t.errlog.sel.get m = v % 2 ^ 32 ∧
      ∀ m', m' ≠ m → m' ≠ .hw → m' ≠ .boot → t.errlog.sel.get m' = b.errlog.sel.get m') ∧
    (∀ o rest, b.errlog.waiting = o :: rest → b.errlogMerges o = false → (∀ x ∈ b.errlog.wrote, 20 ≤ b.since x) →
      let q := b.get uErrlog F.ERRLOG.WR_SEQ_SEQ
      let kept := if 1024 ≤ b.errlog.entries.length then b.errlog.entries.drop 1 else b.errlog.entries
      ∃ t : Block, exec (.errlogWrite dt) s = .next ⟨s.pending, t⟩ ∧ t.errlog.waiting = rest ∧
        t.errlog.entries = kept ++ [⟨q, o.lt, o.unit, o.code, o.master, o.sev, 0, o.arg0, o.arg1, o.arg2⟩] ∧
        t.get uErrlog F.ERRLOG.WR_SEQ_SEQ = (q + 1) % 2 ^ 32)

/-- When the oldest waiting occurrence has the UNIT, CODE, MASTER and ARG0 of the newest entry and comes within 1 ms
of that entry's STAMP or of its last merged occurrence, writing it raises REPEAT of that entry, saturating, and writes
no entry: no sequence number is taken and no event raised. (R591) -/
def Obligations.RepeatedErrorsMerge : Prop :=
  ∀ (s : State) (dt : Nat), s.up dt →
    let b := s.now dt
    ∀ (o : ErrOcc) (waiting : List ErrOcc) (older : List ErrEntry) (e : ErrEntry),
      b.errlog.waiting = o :: waiting → b.errlog.entries = older ++ [e] →
      e.unit = o.unit → e.code = o.code → e.master = o.master → e.arg0 = o.arg0 →
      (o.lt + 2 ^ 64 - e.lt) % 2 ^ 64 ≤ 1000000 ∨ (o.lt + 2 ^ 64 - b.errlog.lastMerge) % 2 ^ 64 ≤ 1000000 →
      exec (.errlogWrite dt) s = .next ⟨s.pending, { b with errlog := { b.errlog with
        waiting := waiting, lastMerge := o.lt, entries := older ++ [{ e with rep := Nat.min 0xFFFF (e.rep + 1) }] } }⟩

/-- (1) A word written to an empty host-to-firmware mailbox other than 0 fills it; (2) to a full one it is discarded, counted and
flagged. (3) A header in mailbox 0 waits while firmware takes nothing, (4) else its request joins those held and its words
leave the mailboxes. F2H_READ gives the bytes it addresses, (5) of an empty mailbox with no effect, (6) of a full one emptying
it, (7) and one of two words, or in D3hot, is an Unsupported Request. (8) In D3hot the host's mailbox writes have no effect.
BLOCK_GO hands over (9) block 2 with its LENGTH and records, (10) block 0; (11) of a block handed over it is discarded and
counted. (12) BLOCK_RELEASE gives a block back. (13) A doorbell without a node raises its producer, with one it first opens
it, (14) before RUNNING it is kept. FW_DOORBELL (15) sets its bit with vector 59, (16) once. (17) A received tunnel record
fills block 3 unless Class B is shed. (18) Block 2's record goes to its port's queue, (19) and a frame under way leaves from it.
(20) A long request's reply is sent. (21) A map whose rows have come becomes READY, with its notice. (R79, R383, R427, R483,
R486, R507, R508, R509, R510, R512, R529, R530) -/
def Obligations.MailboxesAndDoorbells : Prop :=
  ∀ (s : State) (dt : Nat), s.up dt →
    let b := s.now dt
    let full (t : Block) : Prop := t.get uBar2 F.MBXB.CNT_OVERRUN_COUNT =
        satAdd F.MBXB.CNT_OVERRUN_COUNT.max (b.get uBar2 F.MBXB.CNT_OVERRUN_COUNT) 1 ∧ t.on uBar2 F.MBXB.MFLAGS_OVERRUN = true
    (b.on uHost F.HOST.LINK_D3 = false →
      (∀ i w, 1 ≤ i → i < 16 → b.h2fFull i = false →
        ∃ t : Block, exec (.h2fWrite dt i w) s = .next ⟨s.pending, t⟩ ∧ t.getI uBar2 F.MBXB.H2F_DATA i = w % 2 ^ 32 ∧
          t.h2fFull i = true ∧ t.mbx = b.mbx ∧ t.out = b.out) ∧
      (∀ i w, i < 16 → b.h2fFull i = true →
        ∃ t : Block, exec (.h2fWrite dt i w) s = .next ⟨s.pending, t⟩ ∧ t.h2fFull i = true ∧
          t.getI uBar2 F.MBXB.H2F_DATA i = b.getI uBar2 F.MBXB.H2F_DATA i ∧ full t) ∧
      (∀ i w, i = 0 → b.h2fFull i = false → b.mayTake = false →
        ∃ t : Block, exec (.h2fWrite dt i w) s = .next ⟨s.pending, t⟩ ∧ t.getI uBar2 F.MBXB.H2F_DATA 0 = w % 2 ^ 32 ∧
          t.mbx.wordWaiting = some b.lt ∧ t.h2fFull 0 = true) ∧
      (∀ w n, w < 2 ^ 32 → b.h2fFull 0 = false → b.mayTake = true → b.mbx.blockWaiting = none → (∀ x ∈ b.mbx.held.head?, x.ok = true) →
        w / 65536 = 4 * n → n ≤ 15 →
        Block.reqOk (w % 256) (4 * n) ((List.range n).map fun i => b.getI uBar2 F.MBXB.H2F_DATA (i + 1)) = true →
        ∃ t : Block, exec (.h2fWrite dt 0 w) s = .next ⟨s.pending, t⟩ ∧ t.mbx.held = b.mbx.held ++
            [⟨w % 256, w / 256 % 256, (List.range n).map fun i => b.getI uBar2 F.MBXB.H2F_DATA (i + 1), true⟩] ∧
          t.mbx.wordWaiting = none ∧ ∀ i ≤ n, t.h2fFull i = false) ∧
      (∀ r : BoxRead, r.box < 16 → r.words ≤ 1 →
        (b.f2hFull r.box = false →
          exec (.f2hRead dt r) s = .next ⟨s.pending, b.emit (.readData .host (bytesOf r.be (b.getI uBar2 F.MBXB.F2H_DATA r.box)))⟩) ∧
        (b.f2hFull r.box = true → b.mbx.outbox = [] →
          ∃ t : Block, exec (.f2hRead dt r) s = .next ⟨s.pending, t⟩ ∧
            t.out = .readData .host (bytesOf r.be (b.getI uBar2 F.MBXB.F2H_DATA r.box)) :: b.out ∧
            t.f2hFull r.box = false ∧ t.mbx = b.mbx)) ∧
      (∀ w, bit w 31 = true → b.onI uBar2 F.MBXB.BLK_CTL_GO 2 = false →
        ∃ t : Block, exec (.blockGo dt 2 w) s = .next ⟨s.pending, t⟩ ∧ t.onI uBar2 F.MBXB.BLK_CTL_GO 2 = true ∧
          t.getI uBar2 F.MBXB.BLK_CTL_LENGTH 2 = bits w 13 0 ∧
          ∃ bs, bs = (b.blockWords b.mbx.block2 3072 (bits w 13 0)).flatMap (le 4) ∧
            t.mbx.tunTake = Block.tunnelRecords (Config.free (b.freeCtr + 1)) (bs.length / 16 + 1) bs) ∧
      (∀ w, bit w 31 = true → b.onI uBar2 F.MBXB.BLK_CTL_GO 0 = false → b.mayTake = false →
        ∃ t : Block, exec (.blockGo dt 0 w) s = .next ⟨s.pending, t⟩ ∧ t.onI uBar2 F.MBXB.BLK_CTL_GO 0 = true ∧
          t.getI uBar2 F.MBXB.BLK_CTL_LENGTH 0 = bits w 13 0 ∧ t.mbx.blockWaiting = some b.lt) ∧
      (∀ k w, k = 0 ∨ k = 2 → b.onI uBar2 F.MBXB.BLK_CTL_GO k = true →
        ∃ t : Block, exec (.blockGo dt k w) s = .next ⟨s.pending, t⟩ ∧
          t.getI uBar2 F.MBXB.BLK_CTL_LENGTH k = b.getI uBar2 F.MBXB.BLK_CTL_LENGTH k ∧ full t) ∧
      (∀ k, k = 1 ∨ k = 3 → b.onI uBar2 F.MBXB.BLK_CTL_GO k = true → b.mbx.outbox = [] →
        ∃ t : Block, exec (.blockRelease dt k) s = .next ⟨s.pending, t⟩ ∧ t.onI uBar2 F.MBXB.BLK_CTL_GO k = false ∧ b.keepsRest t) ∧
      (∀ d < 32, b.isRunning = true →
        (b.getI uMbx F.MBX.DB_CFG_NODE d = 0 → exec (.doorbellRing dt (2 ^ d)) s = .next ⟨s.pending, b.raise (164 + d)⟩) ∧
        (b.getI uMbx F.MBX.DB_CFG_NODE d ≠ 0 → ∃ u : Block, exec (.doorbellRing dt (2 ^ d)) s =
            .next ⟨s.pending, (u.openGate (b.getI uMbx F.MBX.DB_CFG_NODE d)).raise (164 + d)⟩ ∧ u.clk = b.clk ∧
          (b.clk.closing.contains (b.getI uMbx F.MBX.DB_CFG_NODE d) = false → u = b))) ∧
      (∀ d < 32, b.isRunning = false → d ∉ b.boot.earlyBells →
        ∃ t : Block, exec (.doorbellRing dt (2 ^ d)) s = .next ⟨s.pending, t⟩ ∧ t.boot.earlyBells = b.boot.earlyBells ++ [d] ∧
          t.regs = b.regs)) ∧
    (∀ r : BoxRead, b.on uHost F.HOST.LINK_D3 = true ∨ 1 < r.words →
      exec (.f2hRead dt r) s = .next ⟨s.pending, b.emit .unsupported⟩) ∧
    (b.on uHost F.HOST.LINK_D3 = true → ∀ k w : Nat, ∀ i ∈ [Instr.h2fWrite dt k w, .blockGo dt k w, .blockRelease dt k, .doorbellRing dt w],
      exec i s = .next ⟨s.pending, b⟩) ∧
    (∀ d < 32,
      (bit (b.get uBar2 F.MBXB.DB_PEND_PEND) d = false →
        ∃ t : Block, exec (.fwDoorbell dt d) s = .next ⟨s.pending, t⟩ ∧ bit (t.get uBar2 F.MBXB.DB_PEND_PEND) d = true ∧
          (59 ∈ t.host.pba ∨ ∃ a x, t.out = .msix 59 a x :: b.out)) ∧
      (bit (b.get uBar2 F.MBXB.DB_PEND_PEND) d = true → exec (.fwDoorbell dt d) s = .next ⟨s.pending, b⟩)) ∧
    (∀ k r, k < 12 → b.onI uBar2 F.MBXB.BLK_CTL_GO 3 = false → b.mbx.tunRx = upd (List.replicate 12 []) k (fun _ => [r]) →
      r.frame.length ≤ 9212 →
      (b.shedB = false → ∃ t : Block, exec (.tunnelBlockFill dt) s = .next ⟨s.pending, t⟩ ∧ t.mbx.tunRx = List.replicate 12 [] ∧
        t.mbx.tunLast = k ∧ t.onI uBar2 F.MBXB.BLK_CTL_GO 3 = true ∧
        t.getI uBar2 F.MBXB.BLK_CTL_LENGTH 3 = Block.tunnelBytes r.frame.length) ∧
      (b.shedB = true → exec (.tunnelBlockFill dt) s = .next ⟨s.pending, b⟩)) ∧
    (∀ r, b.onI uBar2 F.MBXB.BLK_CTL_GO 2 = true → b.mbx.tunTake = [r] → b.mbx.tunTx.length = 12 → r.flags % 2 = 1 → r.port < 12 →
      14 ≤ r.frame.length → r.frame.length ≤ 9212 →
      sumN ((nth b.mbx.tunTx r.port []).map fun x => Block.tunnelBytes x.frame.length) + Block.tunnelBytes r.frame.length ≤ 32768 →
      ∃ t : Block, exec (.tunnelBlockSend dt) s = .next ⟨s.pending, t⟩ ∧ t.mbx.tunTake = [] ∧ t.onI uBar2 F.MBXB.BLK_CTL_GO 2 = false ∧
        nth t.mbx.tunTx r.port [] = nth b.mbx.tunTx r.port [] ++ [r]) ∧
    (∀ k r rest, k < 12 → b.mbx.tunTx[k]? = some (r :: rest) → (b.camp k).tunOn = true → (b.camp k).txWait = [] →
      b.onI uBar2 F.MBXB.BLK_CTL_GO 2 = false →
      ∃ t : Block, exec (.tunnelFrameSent dt k) s = .next ⟨s.pending, t⟩ ∧ t.mbx.tunTx[k]? = some rest ∧
        t.out = .frame k (r.frame ++ List.replicate (60 - r.frame.length) 0) :: b.out) ∧
    (∀ typ tag d x, b.mbx.deferred.find? (fun d => d.req.typ == typ && d.req.tag == tag && d.done.isSome) = some d →
      d.done = some x → d.silent = false → d.peer = none →
      ∃ t : Block, exec (.requestDeferredReply dt typ tag) s = .next ⟨s.pending, Block.replyFull t typ tag x.1 0 x.2.1 x.2.2⟩ ∧
        t.mbx.deferred = b.mbx.deferred.erase d ∧ t.regs = b.regs) ∧
    (∀ m, b.refs.maps.find? (fun m => m.state == 1 && m.fed == Block.mapBytes m) = some m →
      ∃ t : Block, exec (.mapLoadComplete dt) s = .next ⟨s.pending, Block.notice t 0xF3 [m.id]⟩ ∧
        (∀ x ∈ t.refs.maps, x.id = m.id → x.state = 2) ∧ t.refs.maps.map (·.id) = b.refs.maps.map (·.id))

/-- From RUNNING a request whose LEN is that of its TYPE has the effect of its TYPE and its reply. (1) GET_STATUS gives six
words. (2) GET_NONCE keeps the nonce it gives. (3) RESET resets 1 ms on. (4) STAGE_COMMIT at a local unit stages its entries
and starts the commit, its reply waiting; (5) STAGE_ONLY only stages; (6) the cancelling form withdraws. (7) CONTROL writes each
entry under its mask. (8) EXPOSE starts an epoch commit of the widths. (9) TIME_STEP steps the clock by the STEP registers.
Before a page, reference or map request the first line of a page that is due comes, then: (10) a PAGE_JOB joins the queue;
(11) REF_LOAD opens an entry; (12) REF_ABORT ends a load; (13) REF_RELEASE frees a reference, or (14) waits for its last
page; (15) MAP_LOAD, (16) MAP_ABORT, (17) MAP_RELEASE do so for maps. (18) TABLE_WRITE writes a bank from host memory, (19)
TABLE_READ and (20) REF_READBACK write to it. (21) IMAGE_UPDATE writes the other slot. (22) A lifecycle request that is
allowed, and signed where it must be, blows its fuses, uses up the nonce and is followed by a device reset, at a time the
model leaves free (log entry 35). (R88, R89, R92, R333, R339, R383, R515, R522, R523, R525, R526, R528) -/
def Obligations.CatalogueRequestsAreServed : Prop :=
  ∀ (s : State) (dt : Nat) (m : Msg) (env : BootEnv), s.up dt → (s.now dt).isRunning = true →
    let r : Nat → Block := fun typ => (s.now dt).serve typ m.tag
    let p : Nat → Block := fun typ => (s.now dt).pageDue.serve typ m.tag
    let w : Nat → Nat := fun i => m.words.getD i 0
    let len : Nat → Prop := fun typ => Block.lenOk typ (4 * m.words.length) m.words = true
    (len 1 → exec (.getStatus dt m) s = .next ⟨s.pending, Block.reply (r 1) 1 m.tag 0 0
        [(r 1).rd uSys F.SYS.BOOT_STAT_PHASE.off, (r 1).rd uSys F.SYS.LIFECYCLE_STATE.off, (r 1).get uSys F.SYS.IMAGE_SEQ_SEQUENCE,
         Config.firmwareVersion % 2 ^ 32, 1 + (r 1).mbx.held.length * 256 + (if (r 1).longRunning then 2 ^ 14 else 0),
         (r 1).rd uSys F.SYS.UNIT_FAIL_CORE.off]⟩) ∧
    (len 2 → ∃ (u : Block) (n : Nat), exec (.getNonce dt m) s =
        .next ⟨s.pending, Block.reply u 2 m.tag 0 0 [n % 2 ^ 32, n / 2 ^ 32 % 2 ^ 32, n / 2 ^ 64 % 2 ^ 32, n / 2 ^ 96 % 2 ^ 32]⟩ ∧
        u.mbx.nonce = some n ∧ n < 2 ^ 128 ∧ u.regs = (r 2).regs) ∧
    (len 3 → ∃ t : Block, exec (.reset dt m env) s = .next ⟨s.pending, t⟩ ∧
      t.boot.resetDue = some (((r 3).lt + 1000000) % 2 ^ 64, 1, env) ∧ t.mbx = (Block.reply (r 3) 3 m.tag 0 0 []).mbx) ∧
    (∀ (k : Nat) (cu : UnitId), let m' := stagingMsg m k
      let x := m'.words.getD 0 0
      let es := entriesOf (m'.words.drop 1)
      Block.lenOk 0x10 (4 * m'.words.length) m'.words = true → unitOfIndex (bits x 9 0) = some cu → cu.exists? = true → cu.ty ≠ .device →
      (k = 0 → firstBad (stageEntryOk cu) es = none → (r 0x10).relatedCommit cu = none →
        ∃ t : Block, exec (.stageCommit dt m) s = .next ⟨s.pending,
            Block.commitStart (Block.stageEntries t es) cu (Boundary.ofCode (bits x 11 10)) m.tag⟩ ∧
          t.staged = (r 0x10).staged ∧ t.regs = (r 0x10).regs ∧ t.out = (r 0x10).out ∧
          t.mbx.deferred.length = (r 0x10).mbx.deferred.length + 1) ∧
      (k = 1 → firstBad (stageEntryOk cu) es = none → (r 0x10).relatedCommit cu = none →
        exec (.stageOnly dt m) s = .next ⟨s.pending, Block.replyFull (Block.stageEntries (r 0x10) es) 0x10 m.tag 0 0 0 [0, 0, 0]⟩) ∧
      (k = 2 → ∀ c, (r 0x10).commits.find? (fun c => c.unit == cu && Block.notEntered c) = some c →
        exec (.stageCommitCancel dt m) s = .next ⟨s.pending,
          Block.replyFull (Block.groupsPoll (Block.commitDrop (r 0x10) c)) 0x10 m.tag 0 0 0 [0, 0, 0]⟩)) ∧
    (len 0x11 → firstBad controlOk (entriesOf (m.words.drop 1)) = none →
      exec (.control dt m) s = .next ⟨s.pending,
        Block.reply ((entriesOf (m.words.drop 1)).foldl Block.controlEntry (r 0x11)) 0x11 m.tag 0 0 []⟩) ∧
    (∀ es, len 0x12 → bit (w 0) 16 = false →
      es = (onesBelow 12 (w 0)).map (fun k => (uTrig.index + F.TRIG.EXPOSE_WIDTH_NS.at k * 1024, 2 ^ 20 - 1, bits (w 1) 19 0)) →
      firstBad (stageEntryOk uTrig) es = none → (r 0x12).relatedCommit uTrig = none →
      ∃ t : Block, exec (.expose dt m) s = .next ⟨s.pending, Block.commitStart (Block.stageEntries t es) uTrig .epoch m.tag⟩ ∧
        t.staged = (r 0x12).staged ∧ t.regs = (r 0x12).regs ∧ t.mbx.deferred.length = (r 0x12).mbx.deferred.length + 1) ∧
    (len 0x13 → ∃ u, exec (.timeStep dt m) s = .next ⟨s.pending, Block.reply (Block.stepGo u) 0x13 m.tag 0 0 []⟩ ∧
      u.get uTime F.TIME.STEP_SEC_LO_SEC = w 0 % 2 ^ 32 ∧ u.get uTime F.TIME.STEP_SEC_HI_SEC = bits (w 1) 15 0 ∧
      u.get uTime F.TIME.STEP_NS_NS = bits (w 2) 29 0 ∧ u.get uTime F.TIME.STEP_NS_NEG = bits (w 2) 31 31 ∧ u.time = (r 0x13).time) ∧
    ((s.now dt).pageDue.isRunning = true →
      (len 0x20 → (p 0x20).refs.jobs.length < 64 →
        ∃ u, exec (.pageJob dt m) s = .next ⟨s.pending, Block.reply u 0x20 m.tag 0 ((p 0x20).refs.jobs.length + 1) []⟩ ∧
          ∃ j : PageJob, u.refs.jobs = (p 0x20).refs.jobs ++ [j] ∧ j.job = w 1 ∧ j.handle = w 2 ∧ j.noref = bit (w 0) 16 ∧
            j.held = (!bit (w 0) 16 && ((p 0x20).refOf (w 2)).isSome)) ∧
      (∀ d, d = loadDesc m.words → len 0x21 → (p 0x21).refOf d.handle = none → ((p 0x21).slot d.slot).handle = none →
        (p 0x21).refs.slots.length = 4 → bit ((p 0x21).get uSys F.SYS.UNIT_FAIL_DMC) 0 = false → d.fmt < 3 → d.ratio < 5 →
        chunksFor d.fmt d.ratio d.width d.lines ≤ (p 0x21).freeChunks.length → (p 0x21).refs.dir.length < 4096 →
        ∃ u, exec (.refLoad dt m) s = .next ⟨s.pending, Block.reply u 0x21 m.tag 0 0 []⟩ ∧ (u.slot d.slot).handle = some d.handle ∧
          ∃ e : RefEntry, u.refs.dir = (p 0x21).refs.dir ++ [e] ∧ e.handle = d.handle ∧ e.state = 1 ∧ e.pin = d.pin ∧
            e.chunks.length = chunksFor d.fmt d.ratio d.width d.lines) ∧
      (∀ e, len 0x22 → (p 0x22).refOf (w 0) = some e → e.state = 1 →
        exec (.refAbort dt m) s = .next ⟨s.pending, Block.reply ((p 0x22).loadAborted (w 0)) 0x22 m.tag 0 0 []⟩) ∧
      (∀ e, len 0x23 → (p 0x23).refOf (w 0) = some e → e.state ≠ 1 →
        (e.use = 0 → exec (.refRelease dt m) s = .next ⟨s.pending, Block.reply ((p 0x23).refFree (w 0)) 0x23 m.tag 0 0 []⟩) ∧
        (e.use ≠ 0 → exec (.refRelease dt m) s = .next ⟨s.pending,
          Block.reply ((p 0x23).setRef (w 0) fun e => { e with state := 3 }) 0x23 m.tag 0 1 []⟩)) ∧
      (len 0x24 → (p 0x24).refs.maps = [] → bit ((p 0x24).get uSys F.SYS.UNIT_FAIL_DMC) 0 = false →
        bits (w 2) 19 0 * ((bits (w 1) 15 0 + 1) / 2) ≤ 65536 * 256 * (p 0x24).get uSeg F.SEG.MAP_SIZE_CHUNKS →
        ∃ u, exec (.mapLoad dt m) s = .next ⟨s.pending, Block.reply u 0x24 m.tag 0 0 []⟩ ∧
          ∃ x : MapEntry, u.refs.maps = [x] ∧ x.id = bits (w 0) 31 16 ∧ x.state = 1 ∧ x.rows = bits (w 2) 19 0 ∧ x.fed = 0) ∧
      (∀ x, len 0x25 → (p 0x25).mapOf (bits (w 0) 15 0) = some x → x.state = 1 →
        exec (.mapAbort dt m) s = .next ⟨s.pending, Block.reply ((p 0x25).mapAborted (bits (w 0) 15 0)) 0x25 m.tag 0 0 []⟩) ∧
      (∀ x, len 0x26 → (p 0x26).mapOf (bits (w 0) 15 0) = some x → x.state ≠ 1 →
        (x.use = 0 → exec (.mapRelease dt m) s =
          .next ⟨s.pending, Block.reply ((p 0x26).mapFree (bits (w 0) 15 0)) 0x26 m.tag 0 0 []⟩) ∧
        (x.use ≠ 0 → exec (.mapRelease dt m) s = .next ⟨s.pending,
          Block.reply ((p 0x26).setMap (bits (w 0) 15 0) fun x => { x with state := 3 }) 0x26 m.tag 0 1 []⟩))) ∧
    (∀ q data, q = Block.tableReq m.words → len 0x30 → (r 0x30).longRunning = false → q.target ≤ 3 → (q.target < 3 → q.ctx < 32) →
      q.space ≠ 1 → (r 0x30).bankLocked q = false → data.length = 4 * q.count →
      exec (.tableWrite dt m data true) s = .next ⟨s.pending, Block.longDone (((List.range q.count).zip
          (Block.wordsOf q.count data)).foldl (fun x p => Block.bankPut x q (q.first + p.1) p.2) (r 0x30))
        0x30 m (if q.target = 3 then 3 else 1) 0 0 []⟩) ∧
    (∀ q, q = Block.tableReq m.words → len 0x31 → (r 0x31).longRunning = false → q.target ≤ 3 → (q.target < 3 → q.ctx < 32) →
      q.space ≠ 1 →
      ∃ t : Block, exec (.tableRead dt m true) s = .next ⟨s.pending, Block.longDone t 0x31 m (if q.target = 3 then 3 else 1) 0 0 []⟩ ∧
        t.out = .hostWrite q.addr (((List.range q.count).map fun i =>
          (r 0x31).bankGet q (q.first + i) ((r 0x31).fresh % 2 ^ 32)).flatMap (le 4)) :: (r 0x31).out) ∧
    (∀ e, len 0x32 → (r 0x32).longRunning = false → (r 0x32).refOf (w 0) = some e → e.state = 2 →
      ∃ (t : Block) (l : List Nat), exec (.refReadback dt m true) s = .next ⟨s.pending, Block.longDone t 0x32 m 1 0 0 []⟩ ∧
        l.length = 64 * e.width ∧ t.out = .hostWrite (w 2 + w 3 * 2 ^ 32) l :: (r 0x32).out) ∧
    (∀ data, len 0x40 → (r 0x40).longRunning = false → bits (w 0) 1 0 ≠ 1 → data.length = w 3 → (r 0x40).imageCheck data = 0 →
      exec (.imageUpdate dt m data true true) s = .next ⟨s.pending,
        Block.longDone ((r 0x40).slotWrite (1 - (r 0x40).bootSlot) data true) 0x40 m 0 0 0
          [1 - (r 0x40).bootSlot, leAt data 0xC 4]⟩) ∧
    (∀ c ∈ ([(0x50, Instr.secure), (0x51, .scrap), (0x52, .rma), (0x53, .keyAdd), (0x54, .keyRevoke), (0x55, .rollback),
        (0x56, .debugDisable)] : List (Nat × (Nat → Msg → Bool → BootEnv → Instr))),
      ∀ f, len c.1 → (r c.1).longRunning = false → Block.lifeAllowed c.1 ((r c.1).get uSys F.SYS.LIFECYCLE_STATE) = true →
      (r c.1).lifeIdent (Block.lifeBytes m) = true →
      (r c.1).lifeSigned c.1 ((r c.1).get uSys F.SYS.LIFECYCLE_STATE) (Block.lifeBytes m) = true →
      (r c.1).lifeAct c.1 (Block.lifeBytes m) = .blow f →
      ∃ t : Block, exec (c.2 dt m true env) s = .next ⟨s.pending, t⟩ ∧ t.fuses = f ∧ t.mbx.nonce = none ∧
        ∃ x, x < 2 ^ 63 ∧ t.boot.resetDue = some (((r c.1).lt + x) % 2 ^ 64, 3, env))

/-- (1) CAL_RUN of each procedure whose precondition holds starts it: it is shown as running, keeps its target, wishes and ARGs,
and its reply is deferred; (2) one whose precondition does not hold is answered FAILED with DETAIL 1 and runs nothing. (3)
CAL_DONE with nothing running has no effect; (4) before all readings are there none either; (5) of a procedure that has what it
needs in time, with plausible values, it ends with RESULT 0; (6) implausible values end it with 10 and FLAGS.FAIL, (7) a table
write refused with 3; (8) one whose precondition has gone or whose time is over with 10. (9) CAL_TIMEOUT ends a procedure once
its maximum time has passed, (10) sooner it has no effect. (11) JOURNAL_COMPACT with no compaction due has no effect; (12) else
the other bank takes the records one generation on. (13) CAL_Q_SELECT is each master's own. (R515, R601, R602, R603, R604, R611,
R616, R618) -/
def Obligations.CalibrationRunsAndRecords : Prop :=
  ∀ (s : State) (dt : Nat), s.up dt →
    let b := s.now dt
    let ends (t : Block) (r : CalRun) (result : Nat) : Prop := t.cal.run = none ∧ t.get uCal F.CAL.STAT_RUN = 0 ∧
        t.get uCal F.CAL.LAST_RESULT = result ∧ t.get uCal F.CAL.LAST_PROC = r.proc % 256 ∧ t.get uCal F.CAL.LAST_TARGET = r.target % 256
    (∀ p ∈ ([(1, Instr.calLane), (2, .calDram), (3, .calSenseOfs), (4, .calSenseGain), (5, .calEncoder), (6, .calThermal),
        (7, .calTempo), (8, .calBlack), (9, .calFlat), (10, .calGeom), (11, .calSeam)] : List (Nat × (Nat → Msg → Instr))),
      ∀ (m : Msg) (w : Nat), let u := b.serve 0x33 m.tag
      b.isRunning = true → m.words.head? = some w → Block.lenOk 0x33 (4 * m.words.length) m.words = true →
      u.longRunning = false → bits w 7 0 = p.1 → bits w 15 8 < calTargets p.1 →
      (u.calPre p.1 (bits w 15 8) (m.words.drop 1) = true →
        ∃ t : Block, exec (p.2 dt m) s = .next ⟨s.pending, t⟩ ∧ t.get uCal F.CAL.STAT_RUN = 1 ∧ t.get uCal F.CAL.STAT_PROC = p.1 ∧
          t.mbx.deferred.length = u.mbx.deferred.length + 1 ∧
          ∃ r : CalRun, t.cal.run = some r ∧ r.proc = p.1 ∧ r.target = bits w 15 8 ∧ r.store = bit w 16 ∧ r.apply = bit w 17 ∧
            r.args = m.words.drop 1 ∧ r.tag = m.tag ∧ r.n = 0 ∧ r.at_ = u.lt) ∧
      (u.calPre p.1 (bits w 15 8) (m.words.drop 1) = false →
        ∃ (t : Block) (ws : List Nat), exec (p.2 dt m) s = .next ⟨s.pending, Block.reply t 0x33 m.tag 10 1 ws⟩ ∧
          t.cal.run = u.cal.run ∧ t.get uCal F.CAL.LAST_PROC = p.1 ∧ t.get uCal F.CAL.LAST_RESULT = 10)) ∧
    (∀ e, b.cal.run = none → exec (.calDone dt e) s = .next ⟨s.pending, b⟩) ∧
    (∀ e r, b.cal.run = some r → b.calBroken r = false → b.calLate r = false →
      (b.calReady r = false → exec (.calDone dt e) s = .next ⟨s.pending, b⟩) ∧
      (b.calReady r = true → b.calRefused r = false → (b.calOut r e).ok = true →
        ∃ t : Block, exec (.calDone dt e) s = .next ⟨s.pending, t⟩ ∧ ends t r 0) ∧
      (b.calReady r = true → b.calRefused r = false → (b.calOut r e).ok = false →
        ∃ t : Block, exec (.calDone dt e) s = .next ⟨s.pending, t⟩ ∧ ends t r 10 ∧ t.on uCal F.CAL.FLAGS_FAIL = true) ∧
      (b.calReady r = true → b.calRefused r = true →
        ∃ t : Block, exec (.calDone dt e) s = .next ⟨s.pending, t⟩ ∧ ends t r 3)) ∧
    (∀ e r, b.cal.run = some r → b.calBroken r = true ∨ b.calLate r = true →
      ∃ t : Block, exec (.calDone dt e) s = .next ⟨s.pending, t⟩ ∧ ends t r 10) ∧
    (∀ r bad, b.cal.run = some r →
      (b.calLimit r ≤ b.since r.at_ → ∃ t : Block, exec (.calTimeout dt bad) s = .next ⟨s.pending, t⟩ ∧ ends t r 10) ∧
      (b.since r.at_ < b.calLimit r → exec (.calTimeout dt bad) s = .next ⟨s.pending, b⟩)) ∧
    (b.get uCal F.CAL.STAT_JSTATE ≠ 2 → exec (.journalCompact dt) s = .next ⟨s.pending, b⟩) ∧
    (b.get uCal F.CAL.STAT_JSTATE = 2 →
      ∃ t : Block, exec (.journalCompact dt) s = .next ⟨s.pending, t⟩ ∧ t.cal.held = [] ∧
        t.get uCal F.CAL.STAT_BANK = 1 - b.get uCal F.CAL.STAT_BANK ∧ t.on uCal F.CAL.FLAGS_COMPACTED = true ∧
        t.get uCal F.CAL.GEN_GEN = (b.get uCal F.CAL.GEN_GEN + 1) % 2 ^ 32 ∧
        t.cal.append = (b.compactRecords (b.get uCal F.CAL.STAT_BANK)).length + b.cal.held.length ∧
        t.get uCal F.CAL.STAT_JSTATE = (if 8184 ≤ t.cal.append then 3 else 1)) ∧
    (∀ m v, b.takes m → ∃ t : Block, exec (.calQSelect dt m v) s = .next ⟨s.pending, t⟩ ∧ t.cal.sel.get m = v % 2 ^ 16 ∧
      t.regs = b.regs ∧ t.cal.index = b.cal.index ∧
      ∀ m', m' ≠ m → m' ≠ .hw → m' ≠ .boot → t.cal.sel.get m' = b.cal.sel.get m')

/-- Commands of the ring, control core 2 running. FLIT_RECEIVE (1) of a flit that cannot be corrected is answered with NAK; (2)
in its turn it is acknowledged with its own number, (3) and its message, once whole, taken; (4) an ACK frees the replay buffer.
(5) LINK_FAIL takes a failing link down and counts it. (6) REEL_START sends a rotation, (7) or notes that one is due. REEL (8)
passes a member, which acts on it (9) once a lap, and (10) ends at the merging device. UPL_CREDIT (11) gives what was freed, (12)
takes what came. IDENT (13) settles the use of the uplink, (14) and of a link. (15) IDENT_RESEND sends it again. (16) ENUM makes a
running member enter ENUM and goes on. (17) ENUM_CUTOFF sends ENUM. (18) RESULT is adopted when newer. (19) INSERT_RETRY tries
again. RING_TIME_EXCHANGE (20) starts an exchange, RING_TIME (21) answers one and (22) notes the answer. POSITION (23) sets what a
member reports, (24) and its decision joins those decided; (25) POSITION_TIMEOUT drops them. (26) SEQ_BEACON_SEND, (27)
SEQ_BEACON. (28) RING_MAILBOX reaches firmware. SYSACC_REQ (29) reads, (30) writes. (31) SYSACC_RSP ends an access. BULK (32)
reads, (33) writes, (34) ends an access. COMMIT_GROUP (35) joins the groups, (36) its withdrawal of an unknown one is answered.
(37) COMMIT_APPLIED is noted. (38) RING_EVENT raises its producer. (R542, R543, R547, R549, R551, R553, R554, R559, R567, R569,
R570, R572) -/
def Obligations.RingLinksAndMessages : Prop :=
  ∀ (s : State) (dt l src dest : Nat) (body : List Nat), s.upOn dt 2 → (s.now dt).ring.links.length = 3 → l < 3 →
    let b := s.now dt
    let taken : Prop := b.linkUp l = true ∧ (b.link l).used = true
    let here : Prop := dest = b.devAddr ∧ b.devAddr < 0x4000
    let from_ := src % 0x4000
    let addr := leAt body 4 8 % 2 ^ 24
    let lap := leAt body 0 2
    (∀ raw : List Nat, b.linkUp l = true → (flitCheck raw).data = none →
      ∃ t : Block, exec (.flitReceive dt l raw) s = .next ⟨s.pending, t⟩ ∧ (t.link l).rxSeq = (b.link l).rxSeq ∧
        t.out = .flit l (b.link l).rxSeq true 0 0 false false 0 [] :: b.out) ∧
    (∀ (raw d : List Nat) (q : Nat), b.linkUp l = true → (flitCheck raw).data = some d → bit (leAt d 2 2) 12 = false →
      leAt d 4 1 % 8 ≠ 0 → q = leAt d 0 2 % 4096 →
      ((b.link l).replay = [] → q = ((b.link l).rxSeq + 1) % 4096 →
        (bit (leAt d 4 1) 4 = false →
          ∃ t : Block, exec (.flitReceive dt l raw) s = .next ⟨s.pending, t⟩ ∧ (t.link l).rxSeq = q ∧
            t.out = .flit l q (b.link l).nak 0 0 false false 0 [] :: b.out) ∧
        (bit (leAt d 4 1) 4 = true → bit (leAt d 4 1) 3 = true →
          ∃ t : Block, exec (.flitReceive dt l raw) s = .next ⟨s.pending, Block.messageIn t l
              (Block.messageOf (leAt d 4 1 % 8) (leAt d 6 2) ((d.drop 8).take (Nat.min 244 (leAt d 5 1))))⟩ ∧
            (t.link l).rxSeq = q ∧ t.out = .flit l q (b.link l).nak 0 0 false false 0 [] :: b.out)) ∧
      (∀ i, (b.link l).replay.findIdx? (fun f => f.seq == leAt d 2 2 % 4096) = some i → (b.link l).queue = [] →
        q ≠ ((b.link l).rxSeq + 1) % 4096 →
        ∃ t : Block, exec (.flitReceive dt l raw) s = .next ⟨s.pending, t⟩ ∧ (t.link l).replay = (b.link l).replay.drop (i + 1) ∧
          (t.link l).rxSeq = (b.link l).rxSeq ∧ t.out = b.out)) ∧
    (b.linkUp l = true → b.linkFailing l = true →
      ∃ t : Block, exec (.linkFail dt l) s = .next ⟨s.pending, Block.portGo t (12 + l) 9⟩ ∧ t.on uRing F.RING.FLAGS_LINK_FAIL = true ∧
        t.get uRing F.RING.CNT_LINK_FAIL_COUNT = satAdd F.RING.CNT_LINK_FAIL_COUNT.max (b.get uRing F.RING.CNT_LINK_FAIL_COUNT) 1) ∧
    (b.ringState = 3 → b.isMerge1 = true →
      (b.ring.reelOut = false → ∃ (t : Block) (es : List (Nat × Nat × Nat)), exec (.reelStart dt) s =
          .next ⟨s.pending, Block.reelOn t false b.ring.lap es⟩ ∧
        t.ring.lap = (b.ring.lap + 1) % 0x10000 ∧ t.ring.reel = es ∧ t.ring.lapSeen = some b.ring.lap) ∧
      (b.ring.reelOut = true → ∃ t : Block, exec (.reelStart dt) s = .next ⟨s.pending, t⟩ ∧ t.ring.reelDue = true ∧
        t.ring.lap = b.ring.lap ∧ t.regs = b.regs ∧ t.out = b.out)) ∧
    (taken → b.ringState = 3 → l ≠ 2 → leAt body 2 2 = b.get uRing F.RING.ENUM_EPOCH →
      (b.isMerge1 = false → b.ring.lapSeen = some lap →
        exec (.reel dt l src dest body) s =
          .next ⟨s.pending, b.reelOn (l == 1) lap (Block.reelEntries body b.ringSize)⟩) ∧
      (b.isMerge1 = false → b.ring.lapSeen ≠ some lap →
        ∃ (t : Block) (es : List (Nat × Nat × Nat)), exec (.reel dt l src dest body) s =
          .next ⟨s.pending, Block.reelOn t (l == 1) lap es⟩ ∧ t.ring.lapSeen = some lap ∧ es.length = b.ringSize ∧
          t.ring.credit.freedB = 0 ∧ t.ring.credit.freedC = 0) ∧
      (b.isMerge1 = true → l = 0 → b.ring.reelDue = false →
        ∃ t : Block, exec (.reel dt l src dest body) s = .next ⟨s.pending, t⟩ ∧ t.ring.reelOut = false ∧
          t.ring.reel = Block.reelEntries body b.ringSize ∧ t.regs = b.regs ∧ t.out = b.out)) ∧
    (b.usedLink 2 = true → ∃ t : Block, exec (.uplCredit dt none) s = .next ⟨s.pending, t⟩ ∧ t.ring.credit.uplB = 0 ∧
      t.ring.credit.uplC = 0 ∧ t.regs = b.regs) ∧
    (b.usedLink 2 = true → b.ring.waiting = [] → ∃ t : Block, exec (.uplCredit dt (some body)) s = .next ⟨s.pending, t⟩ ∧
      lookupD 32 0 t.ring.credit.heldB = lookupD 32 0 b.ring.credit.heldB + leAt body 0 2 ∧
      lookupD 32 0 t.ring.credit.heldC = lookupD 32 0 b.ring.credit.heldC + leAt body 2 2 ∧
      t.ring.uplq = b.ring.uplq.drop (leAt body 4 1) ∧ t.regs = b.regs) ∧
    (b.linkUp l = true →
      (l = 2 → ∃ t : Block, exec (.ident dt l src dest body) s = .next ⟨s.pending, t⟩ ∧
        (t.link 2).ident.map (fun i => (i.deviceId, i.pos)) = some (leAt body 0 8, leAt body 9 1) ∧
        t.on uRing F.RING.LINKS_UPL_USED = (t.link 2).used ∧ (t.link 2).denied = !(t.link 2).used) ∧
      (l ≠ 2 → (b.link l).ident.isSome = true → ∃ t : Block, exec (.ident dt l src dest body) s = .next ⟨s.pending, t⟩ ∧
        (t.link l).ident.map (fun i => (i.deviceId, i.pos)) = some (leAt body 0 8, leAt body 9 1) ∧
        t.on uRing (if l = 0 then F.RING.LINKS_WEST_USED else F.RING.LINKS_EAST_USED) = (t.link l).used ∧
        (t.link l).denied = !(t.link l).used) ∧
      ((b.link l).ident = none → 100000 ≤ b.since (b.link l).identAt →
        ∃ t : Block, exec (.identResend dt l) s = .next ⟨s.pending, t⟩ ∧ (t.link l).identAt = b.lt ∧ t.regs = b.regs)) ∧
    (taken → b.ringState = 3 → l ≠ 2 → bits (leAt body 4 1) 3 2 = 1 → leAt body 2 2 % 0x4000 ≠ b.devAddr →
      ∃ (t : Block) (k : Nat) (m : RingMsg), exec (.enum dt l src dest body) s = .next ⟨s.pending, Block.linkSend t k m⟩ ∧
        t.ringState = 2 ∧ t.ring.sent = true ∧ m.typ = 2 ∧ k = if b.usedLink (1 - l) = true then 1 - l else l) ∧
    (∀ x, b.ring.holdFrom = some x → b.ringState = 2 → b.ring.sent = false → b.ring.inserting = false → 1200000 ≤ b.since x →
      ∃ t : Block, exec (.enumCutoff dt) s = .next ⟨s.pending, Block.enumFinish t⟩ ∧ t.ring.sent = true ∧
        t.ring.epochSeen = (b.ring.epochSeen + 1) % 0x10000) ∧
    (taken → b.ringState = 3 → (resultOf body).level = 1 → bit (resultOf body).live b.ringPos = true →
      Block.resultNewer (resultOf body) (b.ringResult 1) = true → from_ ≠ b.devAddr →
      ∃ t : Block, exec (.result dt l src dest body) s = .next ⟨s.pending, Block.adopt t (resultOf body)⟩ ∧ t.regs = b.regs) ∧
    (∀ x, b.ring.retryFrom = some x → b.get uRing F.RING.TIMING_RETRY_S * 1000000000 ≤ b.since x →
      ∃ t : Block, exec (.insertRetry dt) s = .next ⟨s.pending, Block.ringTryInsert t⟩ ∧ t.ring.retryFrom = none ∧ t.regs = b.regs) ∧
    (b.usedLink l = true → ∃ t : Block, exec (.ringTimeExchange dt l) s = .next ⟨s.pending, t⟩ ∧
      (t.link l).time.seq = ((b.link l).time.seq + 1) % 256 ∧ (t.link l).time.t1 = b.txStamp16 ∧ t.regs = b.regs) ∧
    (taken → (leAt body 0 1 = 0 → exec (.ringTime dt l src dest body) s = .next ⟨s.pending,
        (b.timeSend l (Block.timeBody 2 (leAt body 1 1) 0 0)).timeSend l
          (Block.timeBody 3 (leAt body 1 1) (b.rxStamp16 % 2 ^ 80) b.txStamp16)⟩) ∧
      (leAt body 0 1 = 2 → leAt body 1 1 = (b.link l).time.seq →
        ∃ t : Block, exec (.ringTime dt l src dest body) s = .next ⟨s.pending, t⟩ ∧ (t.link l).time.t4 = b.rxStamp16 % 2 ^ 80 ∧
          t.regs = b.regs ∧ t.out = b.out)) ∧
    (taken → here → 4 ≤ b.web.src → b.on uRing F.RING.POSSRC_VALID = true → from_ = b.get uRing F.RING.POSSRC_ADDR →
      bits (leAt body 0x18 1) 2 0 ≠ 4 →
      (leAt body 0x19 1 = 0 → ∃ t : Block, exec (.position dt l src dest body) s =
          .next ⟨s.pending, Block.marksDecide (Block.cutsSince t b.trig.decided.length)⟩ ∧
        t.ring.posAt = some b.lt ∧ t.on uRing F.RING.STAT_POS_OK = true ∧ t.get uWeb F.WEB.POS_LO_VALUE = leAt body 8 4 % 2 ^ 32 ∧
        t.trig.decided = b.trig.decided) ∧
      (leAt body 0x19 1 = 1 → bit (leAt body 42 1) 0 = false → ∃ (t : Block) (d : Decided), exec (.position dt l src dest body) s =
          .next ⟨s.pending, Block.marksDecide (Block.cutsSince t b.trig.decided.length)⟩ ∧
        t.trig.decided = b.trig.decided ++ [d] ∧ d.line = leAt body 36 6 ∧ d.page = leAt body 44 4 ∧ d.first = false ∧
        t.web.line = (d.line + 1) % 2 ^ 48)) ∧
    (∀ x, b.ring.posAt = some x → 4 ≤ b.web.src → 20000 ≤ b.since x →
      ∃ t : Block, exec (.positionTimeout dt) s = .next ⟨s.pending, Block.axesWebFault t⟩ ∧ t.ring.posAt = none ∧ t.trig.decided = [] ∧
        t.on uRing F.RING.STAT_POS_OK = false ∧ t.on uRing F.RING.FLAGS_POS_LOST = true) ∧
    (b.on uRing F.RING.MERGE_1_VALID = true → b.systemMerge = b.devAddr →
      exec (.seqBeaconSend dt) s = .next ⟨s.pending, b.broadcast b.topScope 6
        (le 4 (b.get uTag F.TAG.SEQ_VALUE) ++ le 2 (b.get uRing F.RING.ENUM_EPOCH) ++ [0, 0])⟩) ∧
    (taken → here → (leAt body 0 4 + 2 ^ 32 - b.get uRing F.RING.SEQ_SEEN_SEQ) % 2 ^ 32 < 2 ^ 31 →
      ∃ t : Block, exec (.seqBeacon dt l src dest body) s = .next ⟨s.pending, t⟩ ∧
        t.get uRing F.RING.SEQ_SEEN_SEQ = leAt body 0 4 % 2 ^ 32 ∧ b.keepsRest t) ∧
    (taken → here → b.ring.inbox.length < 8 →
      ∃ (t : Block) (p : PeerMsg), exec (.ringMailbox dt l src dest body) s = .next ⟨s.pending, Block.takePeers t⟩ ∧
        t.ring.inbox = b.ring.inbox ++ [p] ∧ p.src = from_ ∧ p.hdr = leAt body 4 4) ∧
    (taken → here →
      (bit (leAt body 1 1) 0 = false → exec (.sysaccReq dt l src dest body) s = .next ⟨s.pending,
        Block.sendService (b.busRead .other from_ addr).2 from_ 0x23
          ([leAt body 0 1, b2n (b.shutAt addr), 0, 0] ++ le 4 (b.busRead .other from_ addr).1)⟩) ∧
      (bit (leAt body 1 1) 0 = true → exec (.sysaccReq dt l src dest body) s = .next ⟨s.pending,
        Block.sendService (b.busWrite .other from_ addr (leAt body 12 4)) from_ 0x23
          ([leAt body 0 1, if b.writeRefused .other addr then 2 else 0, 0, 0] ++ le 4 0)⟩)) ∧
    (∀ r, taken → here →
      b.ring.remote.find? (fun r => r.tag == leAt body 0 1 && r.bulk == false && b.outstanding r.access) = some r →
      exec (.sysaccRsp dt l src dest body) s =
        .next ⟨s.pending, b.dmaFinish r.access (leAt body 1 1 != 0) ((body.drop 4).take 4)⟩) ∧
    (∀ (c : Bool) (a : Nat), taken → here → a = leAt body 8 8 % 2 ^ 38 →
      (leAt body 1 1 = 0 → ∃ (t : Block) (d : List Nat) (bad : Bool), exec (.bulk dt l c src dest body) s = .next ⟨s.pending,
          Block.sendBulk t (if c then 6 else 5) from_ (Block.bulkBody (leAt body 0 1) 2 (b2n bad) d.length a d)⟩ ∧
        d.length = 4 * Nat.min (leAt body 4 4 / 4) 4090) ∧
      (leAt body 1 1 = 1 → ∃ (t : Block) (bad : Bool), exec (.bulk dt l c src dest body) s = .next ⟨s.pending,
          Block.sendBulk t (if c then 6 else 5) from_
            (Block.bulkBody (leAt body 0 1) 3 (if bad then 2 else 0) (4 * (leAt body 4 4 / 4)) a [])⟩) ∧
      (leAt body 1 1 = 2 → ∃ t : Block, exec (.bulk dt l c src dest body) s =
          .next ⟨s.pending, Block.remoteAnswer t true (leAt body 0 1) (leAt body 2 1) (body.drop 16)⟩ ∧
        t.dma = b.dma ∧ t.ring.remote = b.ring.remote ∧ t.regs = b.regs)) ∧
    (∀ k, taken → here → k = leAt body 0 2 % 1024 - 0x3FC → 1 ≤ k → k ≤ 3 →
      (bit (leAt body 10 1) 0 = false → (b.ring.groups.all fun g => g.window != k || !(g.applied || g.dropped)) = true →
        ∃ (t : Block) (g : RingGroup), exec (.commitGroup dt l src dest body) s = .next ⟨s.pending, Block.groupTry t g⟩ ∧
          t.ring.groups = b.ring.groups ++ [g] ∧ g.window = k ∧ g.tag = leAt body 3 1 ∧ g.page = leAt body 4 4 ∧ g.src = from_ ∧
          g.started = false) ∧
      (bit (leAt body 10 1) 0 = true →
        (b.ring.groups.find? fun g => g.window == k && g.tag == leAt body 3 1 && g.src == from_) = none →
        exec (.commitGroup dt l src dest body) s = .next ⟨s.pending,
          b.sendService from_ 0x25 ([leAt body 3 1, 4, 0, 0] ++ le 4 (leAt body 4 4))⟩)) ∧
    (∀ g, taken → here → bit (leAt body 1 1) 1 = false →
      b.ring.own.find? (fun g => g.tag == leAt body 0 1 && !(g.applied.contains from_) &&
        (g.window != 1 || g.members.contains from_)) = some g →
      ∃ t : Block, exec (.commitApplied dt l src dest body) s = .next ⟨s.pending, Block.groupSettle t g.window⟩ ∧
        ∃ x ∈ t.ring.own, x.window = g.window ∧ x.applied = g.applied ++ [from_]) ∧
    (taken → here → exec (.ringEvent dt l src dest body) s =
      .next ⟨s.pending, b.raiseFrom (384 + leAt body 0 1 % 128) from_⟩)
end

