-- ==== Sys2Proof/Laws/State.lean ====
section
/-! SUPPORT. What the updates of a block leave as it was, field by field. -/

namespace Sys2Proof.Machine.Block

/-! ## wr -/

@[simp] theorem wr_freeCtr (s : Block) (u : UnitId) (off v : Nat) : (s.wr u off v).freeCtr = s.freeCtr := rfl
@[simp] theorem wr_lt (s : Block) (u : UnitId) (off v : Nat) : (s.wr u off v).lt = s.lt := rfl
@[simp] theorem wr_ltFrac (s : Block) (u : UnitId) (off v : Nat) : (s.wr u off v).ltFrac = s.ltFrac := rfl
@[simp] theorem wr_devAddr (s : Block) (u : UnitId) (off v : Nat) : (s.wr u off v).devAddr = s.devAddr := rfl
@[simp] theorem wr_staged (s : Block) (u : UnitId) (off v : Nat) : (s.wr u off v).staged = s.staged := rfl
@[simp] theorem wr_commits (s : Block) (u : UnitId) (off v : Nat) : (s.wr u off v).commits = s.commits := rfl
@[simp] theorem wr_sram (s : Block) (u : UnitId) (off v : Nat) : (s.wr u off v).sram = s.sram := rfl
@[simp] theorem wr_errlog (s : Block) (u : UnitId) (off v : Nat) : (s.wr u off v).errlog = s.errlog := rfl
@[simp] theorem wr_evt (s : Block) (u : UnitId) (off v : Nat) : (s.wr u off v).evt = s.evt := rfl
@[simp] theorem wr_boot (s : Block) (u : UnitId) (off v : Nat) : (s.wr u off v).boot = s.boot := rfl
@[simp] theorem wr_fuses (s : Block) (u : UnitId) (off v : Nat) : (s.wr u off v).fuses = s.fuses := rfl
@[simp] theorem wr_clk (s : Block) (u : UnitId) (off v : Nat) : (s.wr u off v).clk = s.clk := rfl
@[simp] theorem wr_flash (s : Block) (u : UnitId) (off v : Nat) : (s.wr u off v).flash = s.flash := rfl
@[simp] theorem wr_host (s : Block) (u : UnitId) (off v : Nat) : (s.wr u off v).host = s.host := rfl
@[simp] theorem wr_dma (s : Block) (u : UnitId) (off v : Nat) : (s.wr u off v).dma = s.dma := rfl
@[simp] theorem wr_mbx (s : Block) (u : UnitId) (off v : Nat) : (s.wr u off v).mbx = s.mbx := rfl
@[simp] theorem wr_tag (s : Block) (u : UnitId) (off v : Nat) : (s.wr u off v).tag = s.tag := rfl
@[simp] theorem wr_gov (s : Block) (u : UnitId) (off v : Nat) : (s.wr u off v).gov = s.gov := rfl
@[simp] theorem wr_thm (s : Block) (u : UnitId) (off v : Nat) : (s.wr u off v).thm = s.thm := rfl
@[simp] theorem wr_ser (s : Block) (u : UnitId) (off v : Nat) : (s.wr u off v).ser = s.ser := rfl
@[simp] theorem wr_camps (s : Block) (u : UnitId) (off v : Nat) : (s.wr u off v).camps = s.camps := rfl
@[simp] theorem wr_trig (s : Block) (u : UnitId) (off v : Nat) : (s.wr u off v).trig = s.trig := rfl
@[simp] theorem wr_time (s : Block) (u : UnitId) (off v : Nat) : (s.wr u off v).time = s.time := rfl
@[simp] theorem wr_ring (s : Block) (u : UnitId) (off v : Nat) : (s.wr u off v).ring = s.ring := rfl
@[simp] theorem wr_sense (s : Block) (u : UnitId) (off v : Nat) : (s.wr u off v).sense = s.sense := rfl
@[simp] theorem wr_web (s : Block) (u : UnitId) (off v : Nat) : (s.wr u off v).web = s.web := rfl
@[simp] theorem wr_ctxs (s : Block) (u : UnitId) (off v : Nat) : (s.wr u off v).ctxs = s.ctxs := rfl
@[simp] theorem wr_stitch (s : Block) (u : UnitId) (off v : Nat) : (s.wr u off v).stitch = s.stitch := rfl
@[simp] theorem wr_dmc (s : Block) (u : UnitId) (off v : Nat) : (s.wr u off v).dmc = s.dmc := rfl
@[simp] theorem wr_refs (s : Block) (u : UnitId) (off v : Nat) : (s.wr u off v).refs = s.refs := rfl
@[simp] theorem wr_tango (s : Block) (u : UnitId) (off v : Nat) : (s.wr u off v).tango = s.tango := rfl
@[simp] theorem wr_seg (s : Block) (u : UnitId) (off v : Nat) : (s.wr u off v).seg = s.seg := rfl
@[simp] theorem wr_axes (s : Block) (u : UnitId) (off v : Nat) : (s.wr u off v).axes = s.axes := rfl
@[simp] theorem wr_cal (s : Block) (u : UnitId) (off v : Nat) : (s.wr u off v).cal = s.cal := rfl
@[simp] theorem wr_out (s : Block) (u : UnitId) (off v : Nat) : (s.wr u off v).out = s.out := rfl

/-! ## setI -/

@[simp] theorem setI_freeCtr (s : Block) (u : UnitId) (f : Field) (i v : Nat) : (s.setI u f i v).freeCtr = s.freeCtr := rfl
@[simp] theorem setI_lt (s : Block) (u : UnitId) (f : Field) (i v : Nat) : (s.setI u f i v).lt = s.lt := rfl
@[simp] theorem setI_ltFrac (s : Block) (u : UnitId) (f : Field) (i v : Nat) : (s.setI u f i v).ltFrac = s.ltFrac := rfl
@[simp] theorem setI_devAddr (s : Block) (u : UnitId) (f : Field) (i v : Nat) : (s.setI u f i v).devAddr = s.devAddr := rfl
@[simp] theorem setI_staged (s : Block) (u : UnitId) (f : Field) (i v : Nat) : (s.setI u f i v).staged = s.staged := rfl
@[simp] theorem setI_commits (s : Block) (u : UnitId) (f : Field) (i v : Nat) : (s.setI u f i v).commits = s.commits := rfl
@[simp] theorem setI_sram (s : Block) (u : UnitId) (f : Field) (i v : Nat) : (s.setI u f i v).sram = s.sram := rfl
@[simp] theorem setI_errlog (s : Block) (u : UnitId) (f : Field) (i v : Nat) : (s.setI u f i v).errlog = s.errlog := rfl
@[simp] theorem setI_evt (s : Block) (u : UnitId) (f : Field) (i v : Nat) : (s.setI u f i v).evt = s.evt := rfl
@[simp] theorem setI_boot (s : Block) (u : UnitId) (f : Field) (i v : Nat) : (s.setI u f i v).boot = s.boot := rfl
@[simp] theorem setI_fuses (s : Block) (u : UnitId) (f : Field) (i v : Nat) : (s.setI u f i v).fuses = s.fuses := rfl
@[simp] theorem setI_clk (s : Block) (u : UnitId) (f : Field) (i v : Nat) : (s.setI u f i v).clk = s.clk := rfl
@[simp] theorem setI_flash (s : Block) (u : UnitId) (f : Field) (i v : Nat) : (s.setI u f i v).flash = s.flash := rfl
@[simp] theorem setI_host (s : Block) (u : UnitId) (f : Field) (i v : Nat) : (s.setI u f i v).host = s.host := rfl
@[simp] theorem setI_dma (s : Block) (u : UnitId) (f : Field) (i v : Nat) : (s.setI u f i v).dma = s.dma := rfl
@[simp] theorem setI_mbx (s : Block) (u : UnitId) (f : Field) (i v : Nat) : (s.setI u f i v).mbx = s.mbx := rfl
@[simp] theorem setI_tag (s : Block) (u : UnitId) (f : Field) (i v : Nat) : (s.setI u f i v).tag = s.tag := rfl
@[simp] theorem setI_gov (s : Block) (u : UnitId) (f : Field) (i v : Nat) : (s.setI u f i v).gov = s.gov := rfl
@[simp] theorem setI_thm (s : Block) (u : UnitId) (f : Field) (i v : Nat) : (s.setI u f i v).thm = s.thm := rfl
@[simp] theorem setI_ser (s : Block) (u : UnitId) (f : Field) (i v : Nat) : (s.setI u f i v).ser = s.ser := rfl
@[simp] theorem setI_camps (s : Block) (u : UnitId) (f : Field) (i v : Nat) : (s.setI u f i v).camps = s.camps := rfl
@[simp] theorem setI_trig (s : Block) (u : UnitId) (f : Field) (i v : Nat) : (s.setI u f i v).trig = s.trig := rfl
@[simp] theorem setI_time (s : Block) (u : UnitId) (f : Field) (i v : Nat) : (s.setI u f i v).time = s.time := rfl
@[simp] theorem setI_ring (s : Block) (u : UnitId) (f : Field) (i v : Nat) : (s.setI u f i v).ring = s.ring := rfl
@[simp] theorem setI_sense (s : Block) (u : UnitId) (f : Field) (i v : Nat) : (s.setI u f i v).sense = s.sense := rfl
@[simp] theorem setI_web (s : Block) (u : UnitId) (f : Field) (i v : Nat) : (s.setI u f i v).web = s.web := rfl
@[simp] theorem setI_ctxs (s : Block) (u : UnitId) (f : Field) (i v : Nat) : (s.setI u f i v).ctxs = s.ctxs := rfl
@[simp] theorem setI_stitch (s : Block) (u : UnitId) (f : Field) (i v : Nat) : (s.setI u f i v).stitch = s.stitch := rfl
@[simp] theorem setI_dmc (s : Block) (u : UnitId) (f : Field) (i v : Nat) : (s.setI u f i v).dmc = s.dmc := rfl
@[simp] theorem setI_refs (s : Block) (u : UnitId) (f : Field) (i v : Nat) : (s.setI u f i v).refs = s.refs := rfl
@[simp] theorem setI_tango (s : Block) (u : UnitId) (f : Field) (i v : Nat) : (s.setI u f i v).tango = s.tango := rfl
@[simp] theorem setI_seg (s : Block) (u : UnitId) (f : Field) (i v : Nat) : (s.setI u f i v).seg = s.seg := rfl
@[simp] theorem setI_axes (s : Block) (u : UnitId) (f : Field) (i v : Nat) : (s.setI u f i v).axes = s.axes := rfl
@[simp] theorem setI_cal (s : Block) (u : UnitId) (f : Field) (i v : Nat) : (s.setI u f i v).cal = s.cal := rfl
@[simp] theorem setI_out (s : Block) (u : UnitId) (f : Field) (i v : Nat) : (s.setI u f i v).out = s.out := rfl

/-! ## set -/

@[simp] theorem set_freeCtr (s : Block) (u : UnitId) (f : Field) (v : Nat) : (s.set u f v).freeCtr = s.freeCtr := rfl
@[simp] theorem set_lt (s : Block) (u : UnitId) (f : Field) (v : Nat) : (s.set u f v).lt = s.lt := rfl
@[simp] theorem set_ltFrac (s : Block) (u : UnitId) (f : Field) (v : Nat) : (s.set u f v).ltFrac = s.ltFrac := rfl
@[simp] theorem set_devAddr (s : Block) (u : UnitId) (f : Field) (v : Nat) : (s.set u f v).devAddr = s.devAddr := rfl
@[simp] theorem set_staged (s : Block) (u : UnitId) (f : Field) (v : Nat) : (s.set u f v).staged = s.staged := rfl
@[simp] theorem set_commits (s : Block) (u : UnitId) (f : Field) (v : Nat) : (s.set u f v).commits = s.commits := rfl
@[simp] theorem set_sram (s : Block) (u : UnitId) (f : Field) (v : Nat) : (s.set u f v).sram = s.sram := rfl
@[simp] theorem set_errlog (s : Block) (u : UnitId) (f : Field) (v : Nat) : (s.set u f v).errlog = s.errlog := rfl
@[simp] theorem set_evt (s : Block) (u : UnitId) (f : Field) (v : Nat) : (s.set u f v).evt = s.evt := rfl
@[simp] theorem set_boot (s : Block) (u : UnitId) (f : Field) (v : Nat) : (s.set u f v).boot = s.boot := rfl
@[simp] theorem set_fuses (s : Block) (u : UnitId) (f : Field) (v : Nat) : (s.set u f v).fuses = s.fuses := rfl
@[simp] theorem set_clk (s : Block) (u : UnitId) (f : Field) (v : Nat) : (s.set u f v).clk = s.clk := rfl
@[simp] theorem set_flash (s : Block) (u : UnitId) (f : Field) (v : Nat) : (s.set u f v).flash = s.flash := rfl
@[simp] theorem set_host (s : Block) (u : UnitId) (f : Field) (v : Nat) : (s.set u f v).host = s.host := rfl
@[simp] theorem set_dma (s : Block) (u : UnitId) (f : Field) (v : Nat) : (s.set u f v).dma = s.dma := rfl
@[simp] theorem set_mbx (s : Block) (u : UnitId) (f : Field) (v : Nat) : (s.set u f v).mbx = s.mbx := rfl
@[simp] theorem set_tag (s : Block) (u : UnitId) (f : Field) (v : Nat) : (s.set u f v).tag = s.tag := rfl
@[simp] theorem set_gov (s : Block) (u : UnitId) (f : Field) (v : Nat) : (s.set u f v).gov = s.gov := rfl
@[simp] theorem set_thm (s : Block) (u : UnitId) (f : Field) (v : Nat) : (s.set u f v).thm = s.thm := rfl
@[simp] theorem set_ser (s : Block) (u : UnitId) (f : Field) (v : Nat) : (s.set u f v).ser = s.ser := rfl
@[simp] theorem set_camps (s : Block) (u : UnitId) (f : Field) (v : Nat) : (s.set u f v).camps = s.camps := rfl
@[simp] theorem set_trig (s : Block) (u : UnitId) (f : Field) (v : Nat) : (s.set u f v).trig = s.trig := rfl
@[simp] theorem set_time (s : Block) (u : UnitId) (f : Field) (v : Nat) : (s.set u f v).time = s.time := rfl
@[simp] theorem set_ring (s : Block) (u : UnitId) (f : Field) (v : Nat) : (s.set u f v).ring = s.ring := rfl
@[simp] theorem set_sense (s : Block) (u : UnitId) (f : Field) (v : Nat) : (s.set u f v).sense = s.sense := rfl
@[simp] theorem set_web (s : Block) (u : UnitId) (f : Field) (v : Nat) : (s.set u f v).web = s.web := rfl
@[simp] theorem set_ctxs (s : Block) (u : UnitId) (f : Field) (v : Nat) : (s.set u f v).ctxs = s.ctxs := rfl
@[simp] theorem set_stitch (s : Block) (u : UnitId) (f : Field) (v : Nat) : (s.set u f v).stitch = s.stitch := rfl
@[simp] theorem set_dmc (s : Block) (u : UnitId) (f : Field) (v : Nat) : (s.set u f v).dmc = s.dmc := rfl
@[simp] theorem set_refs (s : Block) (u : UnitId) (f : Field) (v : Nat) : (s.set u f v).refs = s.refs := rfl
@[simp] theorem set_tango (s : Block) (u : UnitId) (f : Field) (v : Nat) : (s.set u f v).tango = s.tango := rfl
@[simp] theorem set_seg (s : Block) (u : UnitId) (f : Field) (v : Nat) : (s.set u f v).seg = s.seg := rfl
@[simp] theorem set_axes (s : Block) (u : UnitId) (f : Field) (v : Nat) : (s.set u f v).axes = s.axes := rfl
@[simp] theorem set_cal (s : Block) (u : UnitId) (f : Field) (v : Nat) : (s.set u f v).cal = s.cal := rfl
@[simp] theorem set_out (s : Block) (u : UnitId) (f : Field) (v : Nat) : (s.set u f v).out = s.out := rfl

/-! ## putSI -/

@[simp] theorem putSI_freeCtr (s : Block) (u : UnitId) (f : Field) (i : Nat) (v : Int) : (s.putSI u f i v).freeCtr = s.freeCtr := rfl
@[simp] theorem putSI_lt (s : Block) (u : UnitId) (f : Field) (i : Nat) (v : Int) : (s.putSI u f i v).lt = s.lt := rfl
@[simp] theorem putSI_ltFrac (s : Block) (u : UnitId) (f : Field) (i : Nat) (v : Int) : (s.putSI u f i v).ltFrac = s.ltFrac := rfl
@[simp] theorem putSI_devAddr (s : Block) (u : UnitId) (f : Field) (i : Nat) (v : Int) : (s.putSI u f i v).devAddr = s.devAddr := rfl
@[simp] theorem putSI_staged (s : Block) (u : UnitId) (f : Field) (i : Nat) (v : Int) : (s.putSI u f i v).staged = s.staged := rfl
@[simp] theorem putSI_commits (s : Block) (u : UnitId) (f : Field) (i : Nat) (v : Int) : (s.putSI u f i v).commits = s.commits := rfl
@[simp] theorem putSI_sram (s : Block) (u : UnitId) (f : Field) (i : Nat) (v : Int) : (s.putSI u f i v).sram = s.sram := rfl
@[simp] theorem putSI_errlog (s : Block) (u : UnitId) (f : Field) (i : Nat) (v : Int) : (s.putSI u f i v).errlog = s.errlog := rfl
@[simp] theorem putSI_evt (s : Block) (u : UnitId) (f : Field) (i : Nat) (v : Int) : (s.putSI u f i v).evt = s.evt := rfl
@[simp] theorem putSI_boot (s : Block) (u : UnitId) (f : Field) (i : Nat) (v : Int) : (s.putSI u f i v).boot = s.boot := rfl
@[simp] theorem putSI_fuses (s : Block) (u : UnitId) (f : Field) (i : Nat) (v : Int) : (s.putSI u f i v).fuses = s.fuses := rfl
@[simp] theorem putSI_clk (s : Block) (u : UnitId) (f : Field) (i : Nat) (v : Int) : (s.putSI u f i v).clk = s.clk := rfl
@[simp] theorem putSI_flash (s : Block) (u : UnitId) (f : Field) (i : Nat) (v : Int) : (s.putSI u f i v).flash = s.flash := rfl
@[simp] theorem putSI_host (s : Block) (u : UnitId) (f : Field) (i : Nat) (v : Int) : (s.putSI u f i v).host = s.host := rfl
@[simp] theorem putSI_dma (s : Block) (u : UnitId) (f : Field) (i : Nat) (v : Int) : (s.putSI u f i v).dma = s.dma := rfl
@[simp] theorem putSI_mbx (s : Block) (u : UnitId) (f : Field) (i : Nat) (v : Int) : (s.putSI u f i v).mbx = s.mbx := rfl
@[simp] theorem putSI_tag (s : Block) (u : UnitId) (f : Field) (i : Nat) (v : Int) : (s.putSI u f i v).tag = s.tag := rfl
@[simp] theorem putSI_gov (s : Block) (u : UnitId) (f : Field) (i : Nat) (v : Int) : (s.putSI u f i v).gov = s.gov := rfl
@[simp] theorem putSI_thm (s : Block) (u : UnitId) (f : Field) (i : Nat) (v : Int) : (s.putSI u f i v).thm = s.thm := rfl
@[simp] theorem putSI_ser (s : Block) (u : UnitId) (f : Field) (i : Nat) (v : Int) : (s.putSI u f i v).ser = s.ser := rfl
@[simp] theorem putSI_camps (s : Block) (u : UnitId) (f : Field) (i : Nat) (v : Int) : (s.putSI u f i v).camps = s.camps := rfl
@[simp] theorem putSI_trig (s : Block) (u : UnitId) (f : Field) (i : Nat) (v : Int) : (s.putSI u f i v).trig = s.trig := rfl
@[simp] theorem putSI_time (s : Block) (u : UnitId) (f : Field) (i : Nat) (v : Int) : (s.putSI u f i v).time = s.time := rfl
@[simp] theorem putSI_ring (s : Block) (u : UnitId) (f : Field) (i : Nat) (v : Int) : (s.putSI u f i v).ring = s.ring := rfl
@[simp] theorem putSI_sense (s : Block) (u : UnitId) (f : Field) (i : Nat) (v : Int) : (s.putSI u f i v).sense = s.sense := rfl
@[simp] theorem putSI_web (s : Block) (u : UnitId) (f : Field) (i : Nat) (v : Int) : (s.putSI u f i v).web = s.web := rfl
@[simp] theorem putSI_ctxs (s : Block) (u : UnitId) (f : Field) (i : Nat) (v : Int) : (s.putSI u f i v).ctxs = s.ctxs := rfl
@[simp] theorem putSI_stitch (s : Block) (u : UnitId) (f : Field) (i : Nat) (v : Int) : (s.putSI u f i v).stitch = s.stitch := rfl
@[simp] theorem putSI_dmc (s : Block) (u : UnitId) (f : Field) (i : Nat) (v : Int) : (s.putSI u f i v).dmc = s.dmc := rfl
@[simp] theorem putSI_refs (s : Block) (u : UnitId) (f : Field) (i : Nat) (v : Int) : (s.putSI u f i v).refs = s.refs := rfl
@[simp] theorem putSI_tango (s : Block) (u : UnitId) (f : Field) (i : Nat) (v : Int) : (s.putSI u f i v).tango = s.tango := rfl
@[simp] theorem putSI_seg (s : Block) (u : UnitId) (f : Field) (i : Nat) (v : Int) : (s.putSI u f i v).seg = s.seg := rfl
@[simp] theorem putSI_axes (s : Block) (u : UnitId) (f : Field) (i : Nat) (v : Int) : (s.putSI u f i v).axes = s.axes := rfl
@[simp] theorem putSI_cal (s : Block) (u : UnitId) (f : Field) (i : Nat) (v : Int) : (s.putSI u f i v).cal = s.cal := rfl
@[simp] theorem putSI_out (s : Block) (u : UnitId) (f : Field) (i : Nat) (v : Int) : (s.putSI u f i v).out = s.out := rfl

/-! ## putS -/

@[simp] theorem putS_freeCtr (s : Block) (u : UnitId) (f : Field) (v : Int) : (s.putS u f v).freeCtr = s.freeCtr := rfl
@[simp] theorem putS_lt (s : Block) (u : UnitId) (f : Field) (v : Int) : (s.putS u f v).lt = s.lt := rfl
@[simp] theorem putS_ltFrac (s : Block) (u : UnitId) (f : Field) (v : Int) : (s.putS u f v).ltFrac = s.ltFrac := rfl
@[simp] theorem putS_devAddr (s : Block) (u : UnitId) (f : Field) (v : Int) : (s.putS u f v).devAddr = s.devAddr := rfl
@[simp] theorem putS_staged (s : Block) (u : UnitId) (f : Field) (v : Int) : (s.putS u f v).staged = s.staged := rfl
@[simp] theorem putS_commits (s : Block) (u : UnitId) (f : Field) (v : Int) : (s.putS u f v).commits = s.commits := rfl
@[simp] theorem putS_sram (s : Block) (u : UnitId) (f : Field) (v : Int) : (s.putS u f v).sram = s.sram := rfl
@[simp] theorem putS_errlog (s : Block) (u : UnitId) (f : Field) (v : Int) : (s.putS u f v).errlog = s.errlog := rfl
@[simp] theorem putS_evt (s : Block) (u : UnitId) (f : Field) (v : Int) : (s.putS u f v).evt = s.evt := rfl
@[simp] theorem putS_boot (s : Block) (u : UnitId) (f : Field) (v : Int) : (s.putS u f v).boot = s.boot := rfl
@[simp] theorem putS_fuses (s : Block) (u : UnitId) (f : Field) (v : Int) : (s.putS u f v).fuses = s.fuses := rfl
@[simp] theorem putS_clk (s : Block) (u : UnitId) (f : Field) (v : Int) : (s.putS u f v).clk = s.clk := rfl
@[simp] theorem putS_flash (s : Block) (u : UnitId) (f : Field) (v : Int) : (s.putS u f v).flash = s.flash := rfl
@[simp] theorem putS_host (s : Block) (u : UnitId) (f : Field) (v : Int) : (s.putS u f v).host = s.host := rfl
@[simp] theorem putS_dma (s : Block) (u : UnitId) (f : Field) (v : Int) : (s.putS u f v).dma = s.dma := rfl
@[simp] theorem putS_mbx (s : Block) (u : UnitId) (f : Field) (v : Int) : (s.putS u f v).mbx = s.mbx := rfl
@[simp] theorem putS_tag (s : Block) (u : UnitId) (f : Field) (v : Int) : (s.putS u f v).tag = s.tag := rfl
@[simp] theorem putS_gov (s : Block) (u : UnitId) (f : Field) (v : Int) : (s.putS u f v).gov = s.gov := rfl
@[simp] theorem putS_thm (s : Block) (u : UnitId) (f : Field) (v : Int) : (s.putS u f v).thm = s.thm := rfl
@[simp] theorem putS_ser (s : Block) (u : UnitId) (f : Field) (v : Int) : (s.putS u f v).ser = s.ser := rfl
@[simp] theorem putS_camps (s : Block) (u : UnitId) (f : Field) (v : Int) : (s.putS u f v).camps = s.camps := rfl
@[simp] theorem putS_trig (s : Block) (u : UnitId) (f : Field) (v : Int) : (s.putS u f v).trig = s.trig := rfl
@[simp] theorem putS_time (s : Block) (u : UnitId) (f : Field) (v : Int) : (s.putS u f v).time = s.time := rfl
@[simp] theorem putS_ring (s : Block) (u : UnitId) (f : Field) (v : Int) : (s.putS u f v).ring = s.ring := rfl
@[simp] theorem putS_sense (s : Block) (u : UnitId) (f : Field) (v : Int) : (s.putS u f v).sense = s.sense := rfl
@[simp] theorem putS_web (s : Block) (u : UnitId) (f : Field) (v : Int) : (s.putS u f v).web = s.web := rfl
@[simp] theorem putS_ctxs (s : Block) (u : UnitId) (f : Field) (v : Int) : (s.putS u f v).ctxs = s.ctxs := rfl
@[simp] theorem putS_stitch (s : Block) (u : UnitId) (f : Field) (v : Int) : (s.putS u f v).stitch = s.stitch := rfl
@[simp] theorem putS_dmc (s : Block) (u : UnitId) (f : Field) (v : Int) : (s.putS u f v).dmc = s.dmc := rfl
@[simp] theorem putS_refs (s : Block) (u : UnitId) (f : Field) (v : Int) : (s.putS u f v).refs = s.refs := rfl
@[simp] theorem putS_tango (s : Block) (u : UnitId) (f : Field) (v : Int) : (s.putS u f v).tango = s.tango := rfl
@[simp] theorem putS_seg (s : Block) (u : UnitId) (f : Field) (v : Int) : (s.putS u f v).seg = s.seg := rfl
@[simp] theorem putS_axes (s : Block) (u : UnitId) (f : Field) (v : Int) : (s.putS u f v).axes = s.axes := rfl
@[simp] theorem putS_cal (s : Block) (u : UnitId) (f : Field) (v : Int) : (s.putS u f v).cal = s.cal := rfl
@[simp] theorem putS_out (s : Block) (u : UnitId) (f : Field) (v : Int) : (s.putS u f v).out = s.out := rfl

/-! ## addI -/

@[simp] theorem addI_freeCtr (s : Block) (u : UnitId) (f : Field) (i n : Nat) : (s.addI u f i n).freeCtr = s.freeCtr := rfl
@[simp] theorem addI_lt (s : Block) (u : UnitId) (f : Field) (i n : Nat) : (s.addI u f i n).lt = s.lt := rfl
@[simp] theorem addI_ltFrac (s : Block) (u : UnitId) (f : Field) (i n : Nat) : (s.addI u f i n).ltFrac = s.ltFrac := rfl
@[simp] theorem addI_devAddr (s : Block) (u : UnitId) (f : Field) (i n : Nat) : (s.addI u f i n).devAddr = s.devAddr := rfl
@[simp] theorem addI_staged (s : Block) (u : UnitId) (f : Field) (i n : Nat) : (s.addI u f i n).staged = s.staged := rfl
@[simp] theorem addI_commits (s : Block) (u : UnitId) (f : Field) (i n : Nat) : (s.addI u f i n).commits = s.commits := rfl
@[simp] theorem addI_sram (s : Block) (u : UnitId) (f : Field) (i n : Nat) : (s.addI u f i n).sram = s.sram := rfl
@[simp] theorem addI_errlog (s : Block) (u : UnitId) (f : Field) (i n : Nat) : (s.addI u f i n).errlog = s.errlog := rfl
@[simp] theorem addI_evt (s : Block) (u : UnitId) (f : Field) (i n : Nat) : (s.addI u f i n).evt = s.evt := rfl
@[simp] theorem addI_boot (s : Block) (u : UnitId) (f : Field) (i n : Nat) : (s.addI u f i n).boot = s.boot := rfl
@[simp] theorem addI_fuses (s : Block) (u : UnitId) (f : Field) (i n : Nat) : (s.addI u f i n).fuses = s.fuses := rfl
@[simp] theorem addI_clk (s : Block) (u : UnitId) (f : Field) (i n : Nat) : (s.addI u f i n).clk = s.clk := rfl
@[simp] theorem addI_flash (s : Block) (u : UnitId) (f : Field) (i n : Nat) : (s.addI u f i n).flash = s.flash := rfl
@[simp] theorem addI_host (s : Block) (u : UnitId) (f : Field) (i n : Nat) : (s.addI u f i n).host = s.host := rfl
@[simp] theorem addI_dma (s : Block) (u : UnitId) (f : Field) (i n : Nat) : (s.addI u f i n).dma = s.dma := rfl
@[simp] theorem addI_mbx (s : Block) (u : UnitId) (f : Field) (i n : Nat) : (s.addI u f i n).mbx = s.mbx := rfl
@[simp] theorem addI_tag (s : Block) (u : UnitId) (f : Field) (i n : Nat) : (s.addI u f i n).tag = s.tag := rfl
@[simp] theorem addI_gov (s : Block) (u : UnitId) (f : Field) (i n : Nat) : (s.addI u f i n).gov = s.gov := rfl
@[simp] theorem addI_thm (s : Block) (u : UnitId) (f : Field) (i n : Nat) : (s.addI u f i n).thm = s.thm := rfl
@[simp] theorem addI_ser (s : Block) (u : UnitId) (f : Field) (i n : Nat) : (s.addI u f i n).ser = s.ser := rfl
@[simp] theorem addI_camps (s : Block) (u : UnitId) (f : Field) (i n : Nat) : (s.addI u f i n).camps = s.camps := rfl
@[simp] theorem addI_trig (s : Block) (u : UnitId) (f : Field) (i n : Nat) : (s.addI u f i n).trig = s.trig := rfl
@[simp] theorem addI_time (s : Block) (u : UnitId) (f : Field) (i n : Nat) : (s.addI u f i n).time = s.time := rfl
@[simp] theorem addI_ring (s : Block) (u : UnitId) (f : Field) (i n : Nat) : (s.addI u f i n).ring = s.ring := rfl
@[simp] theorem addI_sense (s : Block) (u : UnitId) (f : Field) (i n : Nat) : (s.addI u f i n).sense = s.sense := rfl
@[simp] theorem addI_web (s : Block) (u : UnitId) (f : Field) (i n : Nat) : (s.addI u f i n).web = s.web := rfl
@[simp] theorem addI_ctxs (s : Block) (u : UnitId) (f : Field) (i n : Nat) : (s.addI u f i n).ctxs = s.ctxs := rfl
@[simp] theorem addI_stitch (s : Block) (u : UnitId) (f : Field) (i n : Nat) : (s.addI u f i n).stitch = s.stitch := rfl
@[simp] theorem addI_dmc (s : Block) (u : UnitId) (f : Field) (i n : Nat) : (s.addI u f i n).dmc = s.dmc := rfl
@[simp] theorem addI_refs (s : Block) (u : UnitId) (f : Field) (i n : Nat) : (s.addI u f i n).refs = s.refs := rfl
@[simp] theorem addI_tango (s : Block) (u : UnitId) (f : Field) (i n : Nat) : (s.addI u f i n).tango = s.tango := rfl
@[simp] theorem addI_seg (s : Block) (u : UnitId) (f : Field) (i n : Nat) : (s.addI u f i n).seg = s.seg := rfl
@[simp] theorem addI_axes (s : Block) (u : UnitId) (f : Field) (i n : Nat) : (s.addI u f i n).axes = s.axes := rfl
@[simp] theorem addI_cal (s : Block) (u : UnitId) (f : Field) (i n : Nat) : (s.addI u f i n).cal = s.cal := rfl
@[simp] theorem addI_out (s : Block) (u : UnitId) (f : Field) (i n : Nat) : (s.addI u f i n).out = s.out := rfl

/-! ## inc -/

@[simp] theorem inc_freeCtr (s : Block) (u : UnitId) (f : Field) : (s.inc u f).freeCtr = s.freeCtr := rfl
@[simp] theorem inc_lt (s : Block) (u : UnitId) (f : Field) : (s.inc u f).lt = s.lt := rfl
@[simp] theorem inc_ltFrac (s : Block) (u : UnitId) (f : Field) : (s.inc u f).ltFrac = s.ltFrac := rfl
@[simp] theorem inc_devAddr (s : Block) (u : UnitId) (f : Field) : (s.inc u f).devAddr = s.devAddr := rfl
@[simp] theorem inc_staged (s : Block) (u : UnitId) (f : Field) : (s.inc u f).staged = s.staged := rfl
@[simp] theorem inc_commits (s : Block) (u : UnitId) (f : Field) : (s.inc u f).commits = s.commits := rfl
@[simp] theorem inc_sram (s : Block) (u : UnitId) (f : Field) : (s.inc u f).sram = s.sram := rfl
@[simp] theorem inc_errlog (s : Block) (u : UnitId) (f : Field) : (s.inc u f).errlog = s.errlog := rfl
@[simp] theorem inc_evt (s : Block) (u : UnitId) (f : Field) : (s.inc u f).evt = s.evt := rfl
@[simp] theorem inc_boot (s : Block) (u : UnitId) (f : Field) : (s.inc u f).boot = s.boot := rfl
@[simp] theorem inc_fuses (s : Block) (u : UnitId) (f : Field) : (s.inc u f).fuses = s.fuses := rfl
@[simp] theorem inc_clk (s : Block) (u : UnitId) (f : Field) : (s.inc u f).clk = s.clk := rfl
@[simp] theorem inc_flash (s : Block) (u : UnitId) (f : Field) : (s.inc u f).flash = s.flash := rfl
@[simp] theorem inc_host (s : Block) (u : UnitId) (f : Field) : (s.inc u f).host = s.host := rfl
@[simp] theorem inc_dma (s : Block) (u : UnitId) (f : Field) : (s.inc u f).dma = s.dma := rfl
@[simp] theorem inc_mbx (s : Block) (u : UnitId) (f : Field) : (s.inc u f).mbx = s.mbx := rfl
@[simp] theorem inc_tag (s : Block) (u : UnitId) (f : Field) : (s.inc u f).tag = s.tag := rfl
@[simp] theorem inc_gov (s : Block) (u : UnitId) (f : Field) : (s.inc u f).gov = s.gov := rfl
@[simp] theorem inc_thm (s : Block) (u : UnitId) (f : Field) : (s.inc u f).thm = s.thm := rfl
@[simp] theorem inc_ser (s : Block) (u : UnitId) (f : Field) : (s.inc u f).ser = s.ser := rfl
@[simp] theorem inc_camps (s : Block) (u : UnitId) (f : Field) : (s.inc u f).camps = s.camps := rfl
@[simp] theorem inc_trig (s : Block) (u : UnitId) (f : Field) : (s.inc u f).trig = s.trig := rfl
@[simp] theorem inc_time (s : Block) (u : UnitId) (f : Field) : (s.inc u f).time = s.time := rfl
@[simp] theorem inc_ring (s : Block) (u : UnitId) (f : Field) : (s.inc u f).ring = s.ring := rfl
@[simp] theorem inc_sense (s : Block) (u : UnitId) (f : Field) : (s.inc u f).sense = s.sense := rfl
@[simp] theorem inc_web (s : Block) (u : UnitId) (f : Field) : (s.inc u f).web = s.web := rfl
@[simp] theorem inc_ctxs (s : Block) (u : UnitId) (f : Field) : (s.inc u f).ctxs = s.ctxs := rfl
@[simp] theorem inc_stitch (s : Block) (u : UnitId) (f : Field) : (s.inc u f).stitch = s.stitch := rfl
@[simp] theorem inc_dmc (s : Block) (u : UnitId) (f : Field) : (s.inc u f).dmc = s.dmc := rfl
@[simp] theorem inc_refs (s : Block) (u : UnitId) (f : Field) : (s.inc u f).refs = s.refs := rfl
@[simp] theorem inc_tango (s : Block) (u : UnitId) (f : Field) : (s.inc u f).tango = s.tango := rfl
@[simp] theorem inc_seg (s : Block) (u : UnitId) (f : Field) : (s.inc u f).seg = s.seg := rfl
@[simp] theorem inc_axes (s : Block) (u : UnitId) (f : Field) : (s.inc u f).axes = s.axes := rfl
@[simp] theorem inc_cal (s : Block) (u : UnitId) (f : Field) : (s.inc u f).cal = s.cal := rfl
@[simp] theorem inc_out (s : Block) (u : UnitId) (f : Field) : (s.inc u f).out = s.out := rfl

/-! ## incI -/

@[simp] theorem incI_freeCtr (s : Block) (u : UnitId) (f : Field) (i : Nat) : (s.incI u f i).freeCtr = s.freeCtr := rfl
@[simp] theorem incI_lt (s : Block) (u : UnitId) (f : Field) (i : Nat) : (s.incI u f i).lt = s.lt := rfl
@[simp] theorem incI_ltFrac (s : Block) (u : UnitId) (f : Field) (i : Nat) : (s.incI u f i).ltFrac = s.ltFrac := rfl
@[simp] theorem incI_devAddr (s : Block) (u : UnitId) (f : Field) (i : Nat) : (s.incI u f i).devAddr = s.devAddr := rfl
@[simp] theorem incI_staged (s : Block) (u : UnitId) (f : Field) (i : Nat) : (s.incI u f i).staged = s.staged := rfl
@[simp] theorem incI_commits (s : Block) (u : UnitId) (f : Field) (i : Nat) : (s.incI u f i).commits = s.commits := rfl
@[simp] theorem incI_sram (s : Block) (u : UnitId) (f : Field) (i : Nat) : (s.incI u f i).sram = s.sram := rfl
@[simp] theorem incI_errlog (s : Block) (u : UnitId) (f : Field) (i : Nat) : (s.incI u f i).errlog = s.errlog := rfl
@[simp] theorem incI_evt (s : Block) (u : UnitId) (f : Field) (i : Nat) : (s.incI u f i).evt = s.evt := rfl
@[simp] theorem incI_boot (s : Block) (u : UnitId) (f : Field) (i : Nat) : (s.incI u f i).boot = s.boot := rfl
@[simp] theorem incI_fuses (s : Block) (u : UnitId) (f : Field) (i : Nat) : (s.incI u f i).fuses = s.fuses := rfl
@[simp] theorem incI_clk (s : Block) (u : UnitId) (f : Field) (i : Nat) : (s.incI u f i).clk = s.clk := rfl
@[simp] theorem incI_flash (s : Block) (u : UnitId) (f : Field) (i : Nat) : (s.incI u f i).flash = s.flash := rfl
@[simp] theorem incI_host (s : Block) (u : UnitId) (f : Field) (i : Nat) : (s.incI u f i).host = s.host := rfl
@[simp] theorem incI_dma (s : Block) (u : UnitId) (f : Field) (i : Nat) : (s.incI u f i).dma = s.dma := rfl
@[simp] theorem incI_mbx (s : Block) (u : UnitId) (f : Field) (i : Nat) : (s.incI u f i).mbx = s.mbx := rfl
@[simp] theorem incI_tag (s : Block) (u : UnitId) (f : Field) (i : Nat) : (s.incI u f i).tag = s.tag := rfl
@[simp] theorem incI_gov (s : Block) (u : UnitId) (f : Field) (i : Nat) : (s.incI u f i).gov = s.gov := rfl
@[simp] theorem incI_thm (s : Block) (u : UnitId) (f : Field) (i : Nat) : (s.incI u f i).thm = s.thm := rfl
@[simp] theorem incI_ser (s : Block) (u : UnitId) (f : Field) (i : Nat) : (s.incI u f i).ser = s.ser := rfl
@[simp] theorem incI_camps (s : Block) (u : UnitId) (f : Field) (i : Nat) : (s.incI u f i).camps = s.camps := rfl
@[simp] theorem incI_trig (s : Block) (u : UnitId) (f : Field) (i : Nat) : (s.incI u f i).trig = s.trig := rfl
@[simp] theorem incI_time (s : Block) (u : UnitId) (f : Field) (i : Nat) : (s.incI u f i).time = s.time := rfl
@[simp] theorem incI_ring (s : Block) (u : UnitId) (f : Field) (i : Nat) : (s.incI u f i).ring = s.ring := rfl
@[simp] theorem incI_sense (s : Block) (u : UnitId) (f : Field) (i : Nat) : (s.incI u f i).sense = s.sense := rfl
@[simp] theorem incI_web (s : Block) (u : UnitId) (f : Field) (i : Nat) : (s.incI u f i).web = s.web := rfl
@[simp] theorem incI_ctxs (s : Block) (u : UnitId) (f : Field) (i : Nat) : (s.incI u f i).ctxs = s.ctxs := rfl
@[simp] theorem incI_stitch (s : Block) (u : UnitId) (f : Field) (i : Nat) : (s.incI u f i).stitch = s.stitch := rfl
@[simp] theorem incI_dmc (s : Block) (u : UnitId) (f : Field) (i : Nat) : (s.incI u f i).dmc = s.dmc := rfl
@[simp] theorem incI_refs (s : Block) (u : UnitId) (f : Field) (i : Nat) : (s.incI u f i).refs = s.refs := rfl
@[simp] theorem incI_tango (s : Block) (u : UnitId) (f : Field) (i : Nat) : (s.incI u f i).tango = s.tango := rfl
@[simp] theorem incI_seg (s : Block) (u : UnitId) (f : Field) (i : Nat) : (s.incI u f i).seg = s.seg := rfl
@[simp] theorem incI_axes (s : Block) (u : UnitId) (f : Field) (i : Nat) : (s.incI u f i).axes = s.axes := rfl
@[simp] theorem incI_cal (s : Block) (u : UnitId) (f : Field) (i : Nat) : (s.incI u f i).cal = s.cal := rfl
@[simp] theorem incI_out (s : Block) (u : UnitId) (f : Field) (i : Nat) : (s.incI u f i).out = s.out := rfl

/-! ## took -/

@[simp] theorem took_lt (s : Block) : (s.took).lt = s.lt := rfl
@[simp] theorem took_ltFrac (s : Block) : (s.took).ltFrac = s.ltFrac := rfl
@[simp] theorem took_devAddr (s : Block) : (s.took).devAddr = s.devAddr := rfl
@[simp] theorem took_regs (s : Block) : (s.took).regs = s.regs := rfl
@[simp] theorem took_staged (s : Block) : (s.took).staged = s.staged := rfl
@[simp] theorem took_commits (s : Block) : (s.took).commits = s.commits := rfl
@[simp] theorem took_sram (s : Block) : (s.took).sram = s.sram := rfl
@[simp] theorem took_errlog (s : Block) : (s.took).errlog = s.errlog := rfl
@[simp] theorem took_evt (s : Block) : (s.took).evt = s.evt := rfl
@[simp] theorem took_boot (s : Block) : (s.took).boot = s.boot := rfl
@[simp] theorem took_fuses (s : Block) : (s.took).fuses = s.fuses := rfl
@[simp] theorem took_clk (s : Block) : (s.took).clk = s.clk := rfl
@[simp] theorem took_flash (s : Block) : (s.took).flash = s.flash := rfl
@[simp] theorem took_host (s : Block) : (s.took).host = s.host := rfl
@[simp] theorem took_dma (s : Block) : (s.took).dma = s.dma := rfl
@[simp] theorem took_mbx (s : Block) : (s.took).mbx = s.mbx := rfl
@[simp] theorem took_tag (s : Block) : (s.took).tag = s.tag := rfl
@[simp] theorem took_gov (s : Block) : (s.took).gov = s.gov := rfl
@[simp] theorem took_thm (s : Block) : (s.took).thm = s.thm := rfl
@[simp] theorem took_ser (s : Block) : (s.took).ser = s.ser := rfl
@[simp] theorem took_camps (s : Block) : (s.took).camps = s.camps := rfl
@[simp] theorem took_trig (s : Block) : (s.took).trig = s.trig := rfl
@[simp] theorem took_time (s : Block) : (s.took).time = s.time := rfl
@[simp] theorem took_ring (s : Block) : (s.took).ring = s.ring := rfl
@[simp] theorem took_sense (s : Block) : (s.took).sense = s.sense := rfl
@[simp] theorem took_web (s : Block) : (s.took).web = s.web := rfl
@[simp] theorem took_ctxs (s : Block) : (s.took).ctxs = s.ctxs := rfl
@[simp] theorem took_stitch (s : Block) : (s.took).stitch = s.stitch := rfl
@[simp] theorem took_dmc (s : Block) : (s.took).dmc = s.dmc := rfl
@[simp] theorem took_refs (s : Block) : (s.took).refs = s.refs := rfl
@[simp] theorem took_tango (s : Block) : (s.took).tango = s.tango := rfl
@[simp] theorem took_seg (s : Block) : (s.took).seg = s.seg := rfl
@[simp] theorem took_axes (s : Block) : (s.took).axes = s.axes := rfl
@[simp] theorem took_cal (s : Block) : (s.took).cal = s.cal := rfl
@[simp] theorem took_out (s : Block) : (s.took).out = s.out := rfl

/-! ## emit -/

@[simp] theorem emit_freeCtr (s : Block) (o : Output) : (s.emit o).freeCtr = s.freeCtr := rfl
@[simp] theorem emit_lt (s : Block) (o : Output) : (s.emit o).lt = s.lt := rfl
@[simp] theorem emit_ltFrac (s : Block) (o : Output) : (s.emit o).ltFrac = s.ltFrac := rfl
@[simp] theorem emit_devAddr (s : Block) (o : Output) : (s.emit o).devAddr = s.devAddr := rfl
@[simp] theorem emit_regs (s : Block) (o : Output) : (s.emit o).regs = s.regs := rfl
@[simp] theorem emit_staged (s : Block) (o : Output) : (s.emit o).staged = s.staged := rfl
@[simp] theorem emit_commits (s : Block) (o : Output) : (s.emit o).commits = s.commits := rfl
@[simp] theorem emit_sram (s : Block) (o : Output) : (s.emit o).sram = s.sram := rfl
@[simp] theorem emit_errlog (s : Block) (o : Output) : (s.emit o).errlog = s.errlog := rfl
@[simp] theorem emit_evt (s : Block) (o : Output) : (s.emit o).evt = s.evt := rfl
@[simp] theorem emit_boot (s : Block) (o : Output) : (s.emit o).boot = s.boot := rfl
@[simp] theorem emit_fuses (s : Block) (o : Output) : (s.emit o).fuses = s.fuses := rfl
@[simp] theorem emit_clk (s : Block) (o : Output) : (s.emit o).clk = s.clk := rfl
@[simp] theorem emit_flash (s : Block) (o : Output) : (s.emit o).flash = s.flash := rfl
@[simp] theorem emit_host (s : Block) (o : Output) : (s.emit o).host = s.host := rfl
@[simp] theorem emit_dma (s : Block) (o : Output) : (s.emit o).dma = s.dma := rfl
@[simp] theorem emit_mbx (s : Block) (o : Output) : (s.emit o).mbx = s.mbx := rfl
@[simp] theorem emit_tag (s : Block) (o : Output) : (s.emit o).tag = s.tag := rfl
@[simp] theorem emit_gov (s : Block) (o : Output) : (s.emit o).gov = s.gov := rfl
@[simp] theorem emit_thm (s : Block) (o : Output) : (s.emit o).thm = s.thm := rfl
@[simp] theorem emit_ser (s : Block) (o : Output) : (s.emit o).ser = s.ser := rfl
@[simp] theorem emit_camps (s : Block) (o : Output) : (s.emit o).camps = s.camps := rfl
@[simp] theorem emit_trig (s : Block) (o : Output) : (s.emit o).trig = s.trig := rfl
@[simp] theorem emit_time (s : Block) (o : Output) : (s.emit o).time = s.time := rfl
@[simp] theorem emit_ring (s : Block) (o : Output) : (s.emit o).ring = s.ring := rfl
@[simp] theorem emit_sense (s : Block) (o : Output) : (s.emit o).sense = s.sense := rfl
@[simp] theorem emit_web (s : Block) (o : Output) : (s.emit o).web = s.web := rfl
@[simp] theorem emit_ctxs (s : Block) (o : Output) : (s.emit o).ctxs = s.ctxs := rfl
@[simp] theorem emit_stitch (s : Block) (o : Output) : (s.emit o).stitch = s.stitch := rfl
@[simp] theorem emit_dmc (s : Block) (o : Output) : (s.emit o).dmc = s.dmc := rfl
@[simp] theorem emit_refs (s : Block) (o : Output) : (s.emit o).refs = s.refs := rfl
@[simp] theorem emit_tango (s : Block) (o : Output) : (s.emit o).tango = s.tango := rfl
@[simp] theorem emit_seg (s : Block) (o : Output) : (s.emit o).seg = s.seg := rfl
@[simp] theorem emit_axes (s : Block) (o : Output) : (s.emit o).axes = s.axes := rfl
@[simp] theorem emit_cal (s : Block) (o : Output) : (s.emit o).cal = s.cal := rfl

@[simp] theorem took_freeCtr (s : Block) : s.took.freeCtr = s.freeCtr + 1 := rfl
@[simp] theorem emit_out (s : Block) (o : Output) : (s.emit o).out = o :: s.out := rfl

end Sys2Proof.Machine.Block
end

