-- ==== Sys2Proof/Laws/Frame.lean ====
section
/-! SUPPORT. What the shared operations may change, said once for each, and what they leave as it was. -/

namespace Sys2Proof.Machine.Block

/-! ## setBitI -/

theorem setBitI_eq (s : Block) (u : UnitId) (f : Field) (i b : Nat) :
    ∃ re', s.setBitI u f i b = { s with regs := re' } := by
  unfold setBitI
  split
  · exact ⟨_, rfl⟩
  · exact ⟨_, rfl⟩

@[simp] theorem setBitI_freeCtr (s : Block) (u : UnitId) (f : Field) (i b : Nat) : (s.setBitI u f i b).freeCtr = s.freeCtr := by
  obtain ⟨_, h⟩ := s.setBitI_eq u f i b; rw [h]
@[simp] theorem setBitI_lt (s : Block) (u : UnitId) (f : Field) (i b : Nat) : (s.setBitI u f i b).lt = s.lt := by
  obtain ⟨_, h⟩ := s.setBitI_eq u f i b; rw [h]
@[simp] theorem setBitI_ltFrac (s : Block) (u : UnitId) (f : Field) (i b : Nat) : (s.setBitI u f i b).ltFrac = s.ltFrac := by
  obtain ⟨_, h⟩ := s.setBitI_eq u f i b; rw [h]
@[simp] theorem setBitI_devAddr (s : Block) (u : UnitId) (f : Field) (i b : Nat) : (s.setBitI u f i b).devAddr = s.devAddr := by
  obtain ⟨_, h⟩ := s.setBitI_eq u f i b; rw [h]
@[simp] theorem setBitI_staged (s : Block) (u : UnitId) (f : Field) (i b : Nat) : (s.setBitI u f i b).staged = s.staged := by
  obtain ⟨_, h⟩ := s.setBitI_eq u f i b; rw [h]
@[simp] theorem setBitI_commits (s : Block) (u : UnitId) (f : Field) (i b : Nat) : (s.setBitI u f i b).commits = s.commits := by
  obtain ⟨_, h⟩ := s.setBitI_eq u f i b; rw [h]
@[simp] theorem setBitI_sram (s : Block) (u : UnitId) (f : Field) (i b : Nat) : (s.setBitI u f i b).sram = s.sram := by
  obtain ⟨_, h⟩ := s.setBitI_eq u f i b; rw [h]
@[simp] theorem setBitI_errlog (s : Block) (u : UnitId) (f : Field) (i b : Nat) : (s.setBitI u f i b).errlog = s.errlog := by
  obtain ⟨_, h⟩ := s.setBitI_eq u f i b; rw [h]
@[simp] theorem setBitI_evt (s : Block) (u : UnitId) (f : Field) (i b : Nat) : (s.setBitI u f i b).evt = s.evt := by
  obtain ⟨_, h⟩ := s.setBitI_eq u f i b; rw [h]
@[simp] theorem setBitI_boot (s : Block) (u : UnitId) (f : Field) (i b : Nat) : (s.setBitI u f i b).boot = s.boot := by
  obtain ⟨_, h⟩ := s.setBitI_eq u f i b; rw [h]
@[simp] theorem setBitI_fuses (s : Block) (u : UnitId) (f : Field) (i b : Nat) : (s.setBitI u f i b).fuses = s.fuses := by
  obtain ⟨_, h⟩ := s.setBitI_eq u f i b; rw [h]
@[simp] theorem setBitI_clk (s : Block) (u : UnitId) (f : Field) (i b : Nat) : (s.setBitI u f i b).clk = s.clk := by
  obtain ⟨_, h⟩ := s.setBitI_eq u f i b; rw [h]
@[simp] theorem setBitI_flash (s : Block) (u : UnitId) (f : Field) (i b : Nat) : (s.setBitI u f i b).flash = s.flash := by
  obtain ⟨_, h⟩ := s.setBitI_eq u f i b; rw [h]
@[simp] theorem setBitI_host (s : Block) (u : UnitId) (f : Field) (i b : Nat) : (s.setBitI u f i b).host = s.host := by
  obtain ⟨_, h⟩ := s.setBitI_eq u f i b; rw [h]
@[simp] theorem setBitI_dma (s : Block) (u : UnitId) (f : Field) (i b : Nat) : (s.setBitI u f i b).dma = s.dma := by
  obtain ⟨_, h⟩ := s.setBitI_eq u f i b; rw [h]
@[simp] theorem setBitI_mbx (s : Block) (u : UnitId) (f : Field) (i b : Nat) : (s.setBitI u f i b).mbx = s.mbx := by
  obtain ⟨_, h⟩ := s.setBitI_eq u f i b; rw [h]
@[simp] theorem setBitI_tag (s : Block) (u : UnitId) (f : Field) (i b : Nat) : (s.setBitI u f i b).tag = s.tag := by
  obtain ⟨_, h⟩ := s.setBitI_eq u f i b; rw [h]
@[simp] theorem setBitI_gov (s : Block) (u : UnitId) (f : Field) (i b : Nat) : (s.setBitI u f i b).gov = s.gov := by
  obtain ⟨_, h⟩ := s.setBitI_eq u f i b; rw [h]
@[simp] theorem setBitI_thm (s : Block) (u : UnitId) (f : Field) (i b : Nat) : (s.setBitI u f i b).thm = s.thm := by
  obtain ⟨_, h⟩ := s.setBitI_eq u f i b; rw [h]
@[simp] theorem setBitI_ser (s : Block) (u : UnitId) (f : Field) (i b : Nat) : (s.setBitI u f i b).ser = s.ser := by
  obtain ⟨_, h⟩ := s.setBitI_eq u f i b; rw [h]
@[simp] theorem setBitI_camps (s : Block) (u : UnitId) (f : Field) (i b : Nat) : (s.setBitI u f i b).camps = s.camps := by
  obtain ⟨_, h⟩ := s.setBitI_eq u f i b; rw [h]
@[simp] theorem setBitI_trig (s : Block) (u : UnitId) (f : Field) (i b : Nat) : (s.setBitI u f i b).trig = s.trig := by
  obtain ⟨_, h⟩ := s.setBitI_eq u f i b; rw [h]
@[simp] theorem setBitI_time (s : Block) (u : UnitId) (f : Field) (i b : Nat) : (s.setBitI u f i b).time = s.time := by
  obtain ⟨_, h⟩ := s.setBitI_eq u f i b; rw [h]
@[simp] theorem setBitI_ring (s : Block) (u : UnitId) (f : Field) (i b : Nat) : (s.setBitI u f i b).ring = s.ring := by
  obtain ⟨_, h⟩ := s.setBitI_eq u f i b; rw [h]
@[simp] theorem setBitI_sense (s : Block) (u : UnitId) (f : Field) (i b : Nat) : (s.setBitI u f i b).sense = s.sense := by
  obtain ⟨_, h⟩ := s.setBitI_eq u f i b; rw [h]
@[simp] theorem setBitI_web (s : Block) (u : UnitId) (f : Field) (i b : Nat) : (s.setBitI u f i b).web = s.web := by
  obtain ⟨_, h⟩ := s.setBitI_eq u f i b; rw [h]
@[simp] theorem setBitI_ctxs (s : Block) (u : UnitId) (f : Field) (i b : Nat) : (s.setBitI u f i b).ctxs = s.ctxs := by
  obtain ⟨_, h⟩ := s.setBitI_eq u f i b; rw [h]
@[simp] theorem setBitI_stitch (s : Block) (u : UnitId) (f : Field) (i b : Nat) : (s.setBitI u f i b).stitch = s.stitch := by
  obtain ⟨_, h⟩ := s.setBitI_eq u f i b; rw [h]
@[simp] theorem setBitI_dmc (s : Block) (u : UnitId) (f : Field) (i b : Nat) : (s.setBitI u f i b).dmc = s.dmc := by
  obtain ⟨_, h⟩ := s.setBitI_eq u f i b; rw [h]
@[simp] theorem setBitI_refs (s : Block) (u : UnitId) (f : Field) (i b : Nat) : (s.setBitI u f i b).refs = s.refs := by
  obtain ⟨_, h⟩ := s.setBitI_eq u f i b; rw [h]
@[simp] theorem setBitI_tango (s : Block) (u : UnitId) (f : Field) (i b : Nat) : (s.setBitI u f i b).tango = s.tango := by
  obtain ⟨_, h⟩ := s.setBitI_eq u f i b; rw [h]
@[simp] theorem setBitI_seg (s : Block) (u : UnitId) (f : Field) (i b : Nat) : (s.setBitI u f i b).seg = s.seg := by
  obtain ⟨_, h⟩ := s.setBitI_eq u f i b; rw [h]
@[simp] theorem setBitI_axes (s : Block) (u : UnitId) (f : Field) (i b : Nat) : (s.setBitI u f i b).axes = s.axes := by
  obtain ⟨_, h⟩ := s.setBitI_eq u f i b; rw [h]
@[simp] theorem setBitI_cal (s : Block) (u : UnitId) (f : Field) (i b : Nat) : (s.setBitI u f i b).cal = s.cal := by
  obtain ⟨_, h⟩ := s.setBitI_eq u f i b; rw [h]
@[simp] theorem setBitI_out (s : Block) (u : UnitId) (f : Field) (i b : Nat) : (s.setBitI u f i b).out = s.out := by
  obtain ⟨_, h⟩ := s.setBitI_eq u f i b; rw [h]

/-! ## clrBitI -/

theorem clrBitI_eq (s : Block) (u : UnitId) (f : Field) (i b : Nat) :
    ∃ re', s.clrBitI u f i b = { s with regs := re' } := by
  unfold clrBitI
  split
  · exact ⟨_, rfl⟩
  · exact ⟨_, rfl⟩

@[simp] theorem clrBitI_freeCtr (s : Block) (u : UnitId) (f : Field) (i b : Nat) : (s.clrBitI u f i b).freeCtr = s.freeCtr := by
  obtain ⟨_, h⟩ := s.clrBitI_eq u f i b; rw [h]
@[simp] theorem clrBitI_lt (s : Block) (u : UnitId) (f : Field) (i b : Nat) : (s.clrBitI u f i b).lt = s.lt := by
  obtain ⟨_, h⟩ := s.clrBitI_eq u f i b; rw [h]
@[simp] theorem clrBitI_ltFrac (s : Block) (u : UnitId) (f : Field) (i b : Nat) : (s.clrBitI u f i b).ltFrac = s.ltFrac := by
  obtain ⟨_, h⟩ := s.clrBitI_eq u f i b; rw [h]
@[simp] theorem clrBitI_devAddr (s : Block) (u : UnitId) (f : Field) (i b : Nat) : (s.clrBitI u f i b).devAddr = s.devAddr := by
  obtain ⟨_, h⟩ := s.clrBitI_eq u f i b; rw [h]
@[simp] theorem clrBitI_staged (s : Block) (u : UnitId) (f : Field) (i b : Nat) : (s.clrBitI u f i b).staged = s.staged := by
  obtain ⟨_, h⟩ := s.clrBitI_eq u f i b; rw [h]
@[simp] theorem clrBitI_commits (s : Block) (u : UnitId) (f : Field) (i b : Nat) : (s.clrBitI u f i b).commits = s.commits := by
  obtain ⟨_, h⟩ := s.clrBitI_eq u f i b; rw [h]
@[simp] theorem clrBitI_sram (s : Block) (u : UnitId) (f : Field) (i b : Nat) : (s.clrBitI u f i b).sram = s.sram := by
  obtain ⟨_, h⟩ := s.clrBitI_eq u f i b; rw [h]
@[simp] theorem clrBitI_errlog (s : Block) (u : UnitId) (f : Field) (i b : Nat) : (s.clrBitI u f i b).errlog = s.errlog := by
  obtain ⟨_, h⟩ := s.clrBitI_eq u f i b; rw [h]
@[simp] theorem clrBitI_evt (s : Block) (u : UnitId) (f : Field) (i b : Nat) : (s.clrBitI u f i b).evt = s.evt := by
  obtain ⟨_, h⟩ := s.clrBitI_eq u f i b; rw [h]
@[simp] theorem clrBitI_boot (s : Block) (u : UnitId) (f : Field) (i b : Nat) : (s.clrBitI u f i b).boot = s.boot := by
  obtain ⟨_, h⟩ := s.clrBitI_eq u f i b; rw [h]
@[simp] theorem clrBitI_fuses (s : Block) (u : UnitId) (f : Field) (i b : Nat) : (s.clrBitI u f i b).fuses = s.fuses := by
  obtain ⟨_, h⟩ := s.clrBitI_eq u f i b; rw [h]
@[simp] theorem clrBitI_clk (s : Block) (u : UnitId) (f : Field) (i b : Nat) : (s.clrBitI u f i b).clk = s.clk := by
  obtain ⟨_, h⟩ := s.clrBitI_eq u f i b; rw [h]
@[simp] theorem clrBitI_flash (s : Block) (u : UnitId) (f : Field) (i b : Nat) : (s.clrBitI u f i b).flash = s.flash := by
  obtain ⟨_, h⟩ := s.clrBitI_eq u f i b; rw [h]
@[simp] theorem clrBitI_host (s : Block) (u : UnitId) (f : Field) (i b : Nat) : (s.clrBitI u f i b).host = s.host := by
  obtain ⟨_, h⟩ := s.clrBitI_eq u f i b; rw [h]
@[simp] theorem clrBitI_dma (s : Block) (u : UnitId) (f : Field) (i b : Nat) : (s.clrBitI u f i b).dma = s.dma := by
  obtain ⟨_, h⟩ := s.clrBitI_eq u f i b; rw [h]
@[simp] theorem clrBitI_mbx (s : Block) (u : UnitId) (f : Field) (i b : Nat) : (s.clrBitI u f i b).mbx = s.mbx := by
  obtain ⟨_, h⟩ := s.clrBitI_eq u f i b; rw [h]
@[simp] theorem clrBitI_tag (s : Block) (u : UnitId) (f : Field) (i b : Nat) : (s.clrBitI u f i b).tag = s.tag := by
  obtain ⟨_, h⟩ := s.clrBitI_eq u f i b; rw [h]
@[simp] theorem clrBitI_gov (s : Block) (u : UnitId) (f : Field) (i b : Nat) : (s.clrBitI u f i b).gov = s.gov := by
  obtain ⟨_, h⟩ := s.clrBitI_eq u f i b; rw [h]
@[simp] theorem clrBitI_thm (s : Block) (u : UnitId) (f : Field) (i b : Nat) : (s.clrBitI u f i b).thm = s.thm := by
  obtain ⟨_, h⟩ := s.clrBitI_eq u f i b; rw [h]
@[simp] theorem clrBitI_ser (s : Block) (u : UnitId) (f : Field) (i b : Nat) : (s.clrBitI u f i b).ser = s.ser := by
  obtain ⟨_, h⟩ := s.clrBitI_eq u f i b; rw [h]
@[simp] theorem clrBitI_camps (s : Block) (u : UnitId) (f : Field) (i b : Nat) : (s.clrBitI u f i b).camps = s.camps := by
  obtain ⟨_, h⟩ := s.clrBitI_eq u f i b; rw [h]
@[simp] theorem clrBitI_trig (s : Block) (u : UnitId) (f : Field) (i b : Nat) : (s.clrBitI u f i b).trig = s.trig := by
  obtain ⟨_, h⟩ := s.clrBitI_eq u f i b; rw [h]
@[simp] theorem clrBitI_time (s : Block) (u : UnitId) (f : Field) (i b : Nat) : (s.clrBitI u f i b).time = s.time := by
  obtain ⟨_, h⟩ := s.clrBitI_eq u f i b; rw [h]
@[simp] theorem clrBitI_ring (s : Block) (u : UnitId) (f : Field) (i b : Nat) : (s.clrBitI u f i b).ring = s.ring := by
  obtain ⟨_, h⟩ := s.clrBitI_eq u f i b; rw [h]
@[simp] theorem clrBitI_sense (s : Block) (u : UnitId) (f : Field) (i b : Nat) : (s.clrBitI u f i b).sense = s.sense := by
  obtain ⟨_, h⟩ := s.clrBitI_eq u f i b; rw [h]
@[simp] theorem clrBitI_web (s : Block) (u : UnitId) (f : Field) (i b : Nat) : (s.clrBitI u f i b).web = s.web := by
  obtain ⟨_, h⟩ := s.clrBitI_eq u f i b; rw [h]
@[simp] theorem clrBitI_ctxs (s : Block) (u : UnitId) (f : Field) (i b : Nat) : (s.clrBitI u f i b).ctxs = s.ctxs := by
  obtain ⟨_, h⟩ := s.clrBitI_eq u f i b; rw [h]
@[simp] theorem clrBitI_stitch (s : Block) (u : UnitId) (f : Field) (i b : Nat) : (s.clrBitI u f i b).stitch = s.stitch := by
  obtain ⟨_, h⟩ := s.clrBitI_eq u f i b; rw [h]
@[simp] theorem clrBitI_dmc (s : Block) (u : UnitId) (f : Field) (i b : Nat) : (s.clrBitI u f i b).dmc = s.dmc := by
  obtain ⟨_, h⟩ := s.clrBitI_eq u f i b; rw [h]
@[simp] theorem clrBitI_refs (s : Block) (u : UnitId) (f : Field) (i b : Nat) : (s.clrBitI u f i b).refs = s.refs := by
  obtain ⟨_, h⟩ := s.clrBitI_eq u f i b; rw [h]
@[simp] theorem clrBitI_tango (s : Block) (u : UnitId) (f : Field) (i b : Nat) : (s.clrBitI u f i b).tango = s.tango := by
  obtain ⟨_, h⟩ := s.clrBitI_eq u f i b; rw [h]
@[simp] theorem clrBitI_seg (s : Block) (u : UnitId) (f : Field) (i b : Nat) : (s.clrBitI u f i b).seg = s.seg := by
  obtain ⟨_, h⟩ := s.clrBitI_eq u f i b; rw [h]
@[simp] theorem clrBitI_axes (s : Block) (u : UnitId) (f : Field) (i b : Nat) : (s.clrBitI u f i b).axes = s.axes := by
  obtain ⟨_, h⟩ := s.clrBitI_eq u f i b; rw [h]
@[simp] theorem clrBitI_cal (s : Block) (u : UnitId) (f : Field) (i b : Nat) : (s.clrBitI u f i b).cal = s.cal := by
  obtain ⟨_, h⟩ := s.clrBitI_eq u f i b; rw [h]
@[simp] theorem clrBitI_out (s : Block) (u : UnitId) (f : Field) (i b : Nat) : (s.clrBitI u f i b).out = s.out := by
  obtain ⟨_, h⟩ := s.clrBitI_eq u f i b; rw [h]

/-! ## emits -/

theorem emits_eq (s : Block) (os : List Output) :
    ∃ ou', s.emits os = { s with out := ou' } := by
  induction os generalizing s with
  | nil => exact ⟨_, rfl⟩
  | cons o r ih =>
    obtain ⟨o', h⟩ := ih (s.emit o)
    exact ⟨o', h⟩

@[simp] theorem emits_freeCtr (s : Block) (os : List Output) : (s.emits os).freeCtr = s.freeCtr := by
  obtain ⟨_, h⟩ := s.emits_eq os; rw [h]
@[simp] theorem emits_lt (s : Block) (os : List Output) : (s.emits os).lt = s.lt := by
  obtain ⟨_, h⟩ := s.emits_eq os; rw [h]
@[simp] theorem emits_ltFrac (s : Block) (os : List Output) : (s.emits os).ltFrac = s.ltFrac := by
  obtain ⟨_, h⟩ := s.emits_eq os; rw [h]
@[simp] theorem emits_devAddr (s : Block) (os : List Output) : (s.emits os).devAddr = s.devAddr := by
  obtain ⟨_, h⟩ := s.emits_eq os; rw [h]
@[simp] theorem emits_regs (s : Block) (os : List Output) : (s.emits os).regs = s.regs := by
  obtain ⟨_, h⟩ := s.emits_eq os; rw [h]
@[simp] theorem emits_staged (s : Block) (os : List Output) : (s.emits os).staged = s.staged := by
  obtain ⟨_, h⟩ := s.emits_eq os; rw [h]
@[simp] theorem emits_commits (s : Block) (os : List Output) : (s.emits os).commits = s.commits := by
  obtain ⟨_, h⟩ := s.emits_eq os; rw [h]
@[simp] theorem emits_sram (s : Block) (os : List Output) : (s.emits os).sram = s.sram := by
  obtain ⟨_, h⟩ := s.emits_eq os; rw [h]
@[simp] theorem emits_errlog (s : Block) (os : List Output) : (s.emits os).errlog = s.errlog := by
  obtain ⟨_, h⟩ := s.emits_eq os; rw [h]
@[simp] theorem emits_evt (s : Block) (os : List Output) : (s.emits os).evt = s.evt := by
  obtain ⟨_, h⟩ := s.emits_eq os; rw [h]
@[simp] theorem emits_boot (s : Block) (os : List Output) : (s.emits os).boot = s.boot := by
  obtain ⟨_, h⟩ := s.emits_eq os; rw [h]
@[simp] theorem emits_fuses (s : Block) (os : List Output) : (s.emits os).fuses = s.fuses := by
  obtain ⟨_, h⟩ := s.emits_eq os; rw [h]
@[simp] theorem emits_clk (s : Block) (os : List Output) : (s.emits os).clk = s.clk := by
  obtain ⟨_, h⟩ := s.emits_eq os; rw [h]
@[simp] theorem emits_flash (s : Block) (os : List Output) : (s.emits os).flash = s.flash := by
  obtain ⟨_, h⟩ := s.emits_eq os; rw [h]
@[simp] theorem emits_host (s : Block) (os : List Output) : (s.emits os).host = s.host := by
  obtain ⟨_, h⟩ := s.emits_eq os; rw [h]
@[simp] theorem emits_dma (s : Block) (os : List Output) : (s.emits os).dma = s.dma := by
  obtain ⟨_, h⟩ := s.emits_eq os; rw [h]
@[simp] theorem emits_mbx (s : Block) (os : List Output) : (s.emits os).mbx = s.mbx := by
  obtain ⟨_, h⟩ := s.emits_eq os; rw [h]
@[simp] theorem emits_tag (s : Block) (os : List Output) : (s.emits os).tag = s.tag := by
  obtain ⟨_, h⟩ := s.emits_eq os; rw [h]
@[simp] theorem emits_gov (s : Block) (os : List Output) : (s.emits os).gov = s.gov := by
  obtain ⟨_, h⟩ := s.emits_eq os; rw [h]
@[simp] theorem emits_thm (s : Block) (os : List Output) : (s.emits os).thm = s.thm := by
  obtain ⟨_, h⟩ := s.emits_eq os; rw [h]
@[simp] theorem emits_ser (s : Block) (os : List Output) : (s.emits os).ser = s.ser := by
  obtain ⟨_, h⟩ := s.emits_eq os; rw [h]
@[simp] theorem emits_camps (s : Block) (os : List Output) : (s.emits os).camps = s.camps := by
  obtain ⟨_, h⟩ := s.emits_eq os; rw [h]
@[simp] theorem emits_trig (s : Block) (os : List Output) : (s.emits os).trig = s.trig := by
  obtain ⟨_, h⟩ := s.emits_eq os; rw [h]
@[simp] theorem emits_time (s : Block) (os : List Output) : (s.emits os).time = s.time := by
  obtain ⟨_, h⟩ := s.emits_eq os; rw [h]
@[simp] theorem emits_ring (s : Block) (os : List Output) : (s.emits os).ring = s.ring := by
  obtain ⟨_, h⟩ := s.emits_eq os; rw [h]
@[simp] theorem emits_sense (s : Block) (os : List Output) : (s.emits os).sense = s.sense := by
  obtain ⟨_, h⟩ := s.emits_eq os; rw [h]
@[simp] theorem emits_web (s : Block) (os : List Output) : (s.emits os).web = s.web := by
  obtain ⟨_, h⟩ := s.emits_eq os; rw [h]
@[simp] theorem emits_ctxs (s : Block) (os : List Output) : (s.emits os).ctxs = s.ctxs := by
  obtain ⟨_, h⟩ := s.emits_eq os; rw [h]
@[simp] theorem emits_stitch (s : Block) (os : List Output) : (s.emits os).stitch = s.stitch := by
  obtain ⟨_, h⟩ := s.emits_eq os; rw [h]
@[simp] theorem emits_dmc (s : Block) (os : List Output) : (s.emits os).dmc = s.dmc := by
  obtain ⟨_, h⟩ := s.emits_eq os; rw [h]
@[simp] theorem emits_refs (s : Block) (os : List Output) : (s.emits os).refs = s.refs := by
  obtain ⟨_, h⟩ := s.emits_eq os; rw [h]
@[simp] theorem emits_tango (s : Block) (os : List Output) : (s.emits os).tango = s.tango := by
  obtain ⟨_, h⟩ := s.emits_eq os; rw [h]
@[simp] theorem emits_seg (s : Block) (os : List Output) : (s.emits os).seg = s.seg := by
  obtain ⟨_, h⟩ := s.emits_eq os; rw [h]
@[simp] theorem emits_axes (s : Block) (os : List Output) : (s.emits os).axes = s.axes := by
  obtain ⟨_, h⟩ := s.emits_eq os; rw [h]
@[simp] theorem emits_cal (s : Block) (os : List Output) : (s.emits os).cal = s.cal := by
  obtain ⟨_, h⟩ := s.emits_eq os; rw [h]

/-! ## logAt -/

theorem logAt_eq (s : Block) (m : Master) (idx code sev a0 a1 a2 : Nat) :
    ∃ re' er', s.logAt m idx code sev a0 a1 a2 = { s with regs := re', errlog := er' } := by
  unfold logAt
  split
  · exact ⟨_, _, rfl⟩
  · exact ⟨_, _, rfl⟩

@[simp] theorem logAt_freeCtr (s : Block) (m : Master) (idx code sev a0 a1 a2 : Nat) : (s.logAt m idx code sev a0 a1 a2).freeCtr = s.freeCtr := by
  obtain ⟨_, _, h⟩ := s.logAt_eq m idx code sev a0 a1 a2; rw [h]
@[simp] theorem logAt_lt (s : Block) (m : Master) (idx code sev a0 a1 a2 : Nat) : (s.logAt m idx code sev a0 a1 a2).lt = s.lt := by
  obtain ⟨_, _, h⟩ := s.logAt_eq m idx code sev a0 a1 a2; rw [h]
@[simp] theorem logAt_ltFrac (s : Block) (m : Master) (idx code sev a0 a1 a2 : Nat) : (s.logAt m idx code sev a0 a1 a2).ltFrac = s.ltFrac := by
  obtain ⟨_, _, h⟩ := s.logAt_eq m idx code sev a0 a1 a2; rw [h]
@[simp] theorem logAt_devAddr (s : Block) (m : Master) (idx code sev a0 a1 a2 : Nat) : (s.logAt m idx code sev a0 a1 a2).devAddr = s.devAddr := by
  obtain ⟨_, _, h⟩ := s.logAt_eq m idx code sev a0 a1 a2; rw [h]
@[simp] theorem logAt_staged (s : Block) (m : Master) (idx code sev a0 a1 a2 : Nat) : (s.logAt m idx code sev a0 a1 a2).staged = s.staged := by
  obtain ⟨_, _, h⟩ := s.logAt_eq m idx code sev a0 a1 a2; rw [h]
@[simp] theorem logAt_commits (s : Block) (m : Master) (idx code sev a0 a1 a2 : Nat) : (s.logAt m idx code sev a0 a1 a2).commits = s.commits := by
  obtain ⟨_, _, h⟩ := s.logAt_eq m idx code sev a0 a1 a2; rw [h]
@[simp] theorem logAt_sram (s : Block) (m : Master) (idx code sev a0 a1 a2 : Nat) : (s.logAt m idx code sev a0 a1 a2).sram = s.sram := by
  obtain ⟨_, _, h⟩ := s.logAt_eq m idx code sev a0 a1 a2; rw [h]
@[simp] theorem logAt_evt (s : Block) (m : Master) (idx code sev a0 a1 a2 : Nat) : (s.logAt m idx code sev a0 a1 a2).evt = s.evt := by
  obtain ⟨_, _, h⟩ := s.logAt_eq m idx code sev a0 a1 a2; rw [h]
@[simp] theorem logAt_boot (s : Block) (m : Master) (idx code sev a0 a1 a2 : Nat) : (s.logAt m idx code sev a0 a1 a2).boot = s.boot := by
  obtain ⟨_, _, h⟩ := s.logAt_eq m idx code sev a0 a1 a2; rw [h]
@[simp] theorem logAt_fuses (s : Block) (m : Master) (idx code sev a0 a1 a2 : Nat) : (s.logAt m idx code sev a0 a1 a2).fuses = s.fuses := by
  obtain ⟨_, _, h⟩ := s.logAt_eq m idx code sev a0 a1 a2; rw [h]
@[simp] theorem logAt_clk (s : Block) (m : Master) (idx code sev a0 a1 a2 : Nat) : (s.logAt m idx code sev a0 a1 a2).clk = s.clk := by
  obtain ⟨_, _, h⟩ := s.logAt_eq m idx code sev a0 a1 a2; rw [h]
@[simp] theorem logAt_flash (s : Block) (m : Master) (idx code sev a0 a1 a2 : Nat) : (s.logAt m idx code sev a0 a1 a2).flash = s.flash := by
  obtain ⟨_, _, h⟩ := s.logAt_eq m idx code sev a0 a1 a2; rw [h]
@[simp] theorem logAt_host (s : Block) (m : Master) (idx code sev a0 a1 a2 : Nat) : (s.logAt m idx code sev a0 a1 a2).host = s.host := by
  obtain ⟨_, _, h⟩ := s.logAt_eq m idx code sev a0 a1 a2; rw [h]
@[simp] theorem logAt_dma (s : Block) (m : Master) (idx code sev a0 a1 a2 : Nat) : (s.logAt m idx code sev a0 a1 a2).dma = s.dma := by
  obtain ⟨_, _, h⟩ := s.logAt_eq m idx code sev a0 a1 a2; rw [h]
@[simp] theorem logAt_mbx (s : Block) (m : Master) (idx code sev a0 a1 a2 : Nat) : (s.logAt m idx code sev a0 a1 a2).mbx = s.mbx := by
  obtain ⟨_, _, h⟩ := s.logAt_eq m idx code sev a0 a1 a2; rw [h]
@[simp] theorem logAt_tag (s : Block) (m : Master) (idx code sev a0 a1 a2 : Nat) : (s.logAt m idx code sev a0 a1 a2).tag = s.tag := by
  obtain ⟨_, _, h⟩ := s.logAt_eq m idx code sev a0 a1 a2; rw [h]
@[simp] theorem logAt_gov (s : Block) (m : Master) (idx code sev a0 a1 a2 : Nat) : (s.logAt m idx code sev a0 a1 a2).gov = s.gov := by
  obtain ⟨_, _, h⟩ := s.logAt_eq m idx code sev a0 a1 a2; rw [h]
@[simp] theorem logAt_thm (s : Block) (m : Master) (idx code sev a0 a1 a2 : Nat) : (s.logAt m idx code sev a0 a1 a2).thm = s.thm := by
  obtain ⟨_, _, h⟩ := s.logAt_eq m idx code sev a0 a1 a2; rw [h]
@[simp] theorem logAt_ser (s : Block) (m : Master) (idx code sev a0 a1 a2 : Nat) : (s.logAt m idx code sev a0 a1 a2).ser = s.ser := by
  obtain ⟨_, _, h⟩ := s.logAt_eq m idx code sev a0 a1 a2; rw [h]
@[simp] theorem logAt_camps (s : Block) (m : Master) (idx code sev a0 a1 a2 : Nat) : (s.logAt m idx code sev a0 a1 a2).camps = s.camps := by
  obtain ⟨_, _, h⟩ := s.logAt_eq m idx code sev a0 a1 a2; rw [h]
@[simp] theorem logAt_trig (s : Block) (m : Master) (idx code sev a0 a1 a2 : Nat) : (s.logAt m idx code sev a0 a1 a2).trig = s.trig := by
  obtain ⟨_, _, h⟩ := s.logAt_eq m idx code sev a0 a1 a2; rw [h]
@[simp] theorem logAt_time (s : Block) (m : Master) (idx code sev a0 a1 a2 : Nat) : (s.logAt m idx code sev a0 a1 a2).time = s.time := by
  obtain ⟨_, _, h⟩ := s.logAt_eq m idx code sev a0 a1 a2; rw [h]
@[simp] theorem logAt_ring (s : Block) (m : Master) (idx code sev a0 a1 a2 : Nat) : (s.logAt m idx code sev a0 a1 a2).ring = s.ring := by
  obtain ⟨_, _, h⟩ := s.logAt_eq m idx code sev a0 a1 a2; rw [h]
@[simp] theorem logAt_sense (s : Block) (m : Master) (idx code sev a0 a1 a2 : Nat) : (s.logAt m idx code sev a0 a1 a2).sense = s.sense := by
  obtain ⟨_, _, h⟩ := s.logAt_eq m idx code sev a0 a1 a2; rw [h]
@[simp] theorem logAt_web (s : Block) (m : Master) (idx code sev a0 a1 a2 : Nat) : (s.logAt m idx code sev a0 a1 a2).web = s.web := by
  obtain ⟨_, _, h⟩ := s.logAt_eq m idx code sev a0 a1 a2; rw [h]
@[simp] theorem logAt_ctxs (s : Block) (m : Master) (idx code sev a0 a1 a2 : Nat) : (s.logAt m idx code sev a0 a1 a2).ctxs = s.ctxs := by
  obtain ⟨_, _, h⟩ := s.logAt_eq m idx code sev a0 a1 a2; rw [h]
@[simp] theorem logAt_stitch (s : Block) (m : Master) (idx code sev a0 a1 a2 : Nat) : (s.logAt m idx code sev a0 a1 a2).stitch = s.stitch := by
  obtain ⟨_, _, h⟩ := s.logAt_eq m idx code sev a0 a1 a2; rw [h]
@[simp] theorem logAt_dmc (s : Block) (m : Master) (idx code sev a0 a1 a2 : Nat) : (s.logAt m idx code sev a0 a1 a2).dmc = s.dmc := by
  obtain ⟨_, _, h⟩ := s.logAt_eq m idx code sev a0 a1 a2; rw [h]
@[simp] theorem logAt_refs (s : Block) (m : Master) (idx code sev a0 a1 a2 : Nat) : (s.logAt m idx code sev a0 a1 a2).refs = s.refs := by
  obtain ⟨_, _, h⟩ := s.logAt_eq m idx code sev a0 a1 a2; rw [h]
@[simp] theorem logAt_tango (s : Block) (m : Master) (idx code sev a0 a1 a2 : Nat) : (s.logAt m idx code sev a0 a1 a2).tango = s.tango := by
  obtain ⟨_, _, h⟩ := s.logAt_eq m idx code sev a0 a1 a2; rw [h]
@[simp] theorem logAt_seg (s : Block) (m : Master) (idx code sev a0 a1 a2 : Nat) : (s.logAt m idx code sev a0 a1 a2).seg = s.seg := by
  obtain ⟨_, _, h⟩ := s.logAt_eq m idx code sev a0 a1 a2; rw [h]
@[simp] theorem logAt_axes (s : Block) (m : Master) (idx code sev a0 a1 a2 : Nat) : (s.logAt m idx code sev a0 a1 a2).axes = s.axes := by
  obtain ⟨_, _, h⟩ := s.logAt_eq m idx code sev a0 a1 a2; rw [h]
@[simp] theorem logAt_cal (s : Block) (m : Master) (idx code sev a0 a1 a2 : Nat) : (s.logAt m idx code sev a0 a1 a2).cal = s.cal := by
  obtain ⟨_, _, h⟩ := s.logAt_eq m idx code sev a0 a1 a2; rw [h]
@[simp] theorem logAt_out (s : Block) (m : Master) (idx code sev a0 a1 a2 : Nat) : (s.logAt m idx code sev a0 a1 a2).out = s.out := by
  obtain ⟨_, _, h⟩ := s.logAt_eq m idx code sev a0 a1 a2; rw [h]

/-! ## log -/

theorem log_eq (s : Block) (u : UnitId) (code sev a0 a1 a2 : Nat) :
    ∃ re' er', s.log u code sev a0 a1 a2 = { s with regs := re', errlog := er' } := by
  exact logAt_eq s _ _ code sev a0 a1 a2

@[simp] theorem log_freeCtr (s : Block) (u : UnitId) (code sev a0 a1 a2 : Nat) : (s.log u code sev a0 a1 a2).freeCtr = s.freeCtr := by
  obtain ⟨_, _, h⟩ := s.log_eq u code sev a0 a1 a2; rw [h]
@[simp] theorem log_lt (s : Block) (u : UnitId) (code sev a0 a1 a2 : Nat) : (s.log u code sev a0 a1 a2).lt = s.lt := by
  obtain ⟨_, _, h⟩ := s.log_eq u code sev a0 a1 a2; rw [h]
@[simp] theorem log_ltFrac (s : Block) (u : UnitId) (code sev a0 a1 a2 : Nat) : (s.log u code sev a0 a1 a2).ltFrac = s.ltFrac := by
  obtain ⟨_, _, h⟩ := s.log_eq u code sev a0 a1 a2; rw [h]
@[simp] theorem log_devAddr (s : Block) (u : UnitId) (code sev a0 a1 a2 : Nat) : (s.log u code sev a0 a1 a2).devAddr = s.devAddr := by
  obtain ⟨_, _, h⟩ := s.log_eq u code sev a0 a1 a2; rw [h]
@[simp] theorem log_staged (s : Block) (u : UnitId) (code sev a0 a1 a2 : Nat) : (s.log u code sev a0 a1 a2).staged = s.staged := by
  obtain ⟨_, _, h⟩ := s.log_eq u code sev a0 a1 a2; rw [h]
@[simp] theorem log_commits (s : Block) (u : UnitId) (code sev a0 a1 a2 : Nat) : (s.log u code sev a0 a1 a2).commits = s.commits := by
  obtain ⟨_, _, h⟩ := s.log_eq u code sev a0 a1 a2; rw [h]
@[simp] theorem log_sram (s : Block) (u : UnitId) (code sev a0 a1 a2 : Nat) : (s.log u code sev a0 a1 a2).sram = s.sram := by
  obtain ⟨_, _, h⟩ := s.log_eq u code sev a0 a1 a2; rw [h]
@[simp] theorem log_evt (s : Block) (u : UnitId) (code sev a0 a1 a2 : Nat) : (s.log u code sev a0 a1 a2).evt = s.evt := by
  obtain ⟨_, _, h⟩ := s.log_eq u code sev a0 a1 a2; rw [h]
@[simp] theorem log_boot (s : Block) (u : UnitId) (code sev a0 a1 a2 : Nat) : (s.log u code sev a0 a1 a2).boot = s.boot := by
  obtain ⟨_, _, h⟩ := s.log_eq u code sev a0 a1 a2; rw [h]
@[simp] theorem log_fuses (s : Block) (u : UnitId) (code sev a0 a1 a2 : Nat) : (s.log u code sev a0 a1 a2).fuses = s.fuses := by
  obtain ⟨_, _, h⟩ := s.log_eq u code sev a0 a1 a2; rw [h]
@[simp] theorem log_clk (s : Block) (u : UnitId) (code sev a0 a1 a2 : Nat) : (s.log u code sev a0 a1 a2).clk = s.clk := by
  obtain ⟨_, _, h⟩ := s.log_eq u code sev a0 a1 a2; rw [h]
@[simp] theorem log_flash (s : Block) (u : UnitId) (code sev a0 a1 a2 : Nat) : (s.log u code sev a0 a1 a2).flash = s.flash := by
  obtain ⟨_, _, h⟩ := s.log_eq u code sev a0 a1 a2; rw [h]
@[simp] theorem log_host (s : Block) (u : UnitId) (code sev a0 a1 a2 : Nat) : (s.log u code sev a0 a1 a2).host = s.host := by
  obtain ⟨_, _, h⟩ := s.log_eq u code sev a0 a1 a2; rw [h]
@[simp] theorem log_dma (s : Block) (u : UnitId) (code sev a0 a1 a2 : Nat) : (s.log u code sev a0 a1 a2).dma = s.dma := by
  obtain ⟨_, _, h⟩ := s.log_eq u code sev a0 a1 a2; rw [h]
@[simp] theorem log_mbx (s : Block) (u : UnitId) (code sev a0 a1 a2 : Nat) : (s.log u code sev a0 a1 a2).mbx = s.mbx := by
  obtain ⟨_, _, h⟩ := s.log_eq u code sev a0 a1 a2; rw [h]
@[simp] theorem log_tag (s : Block) (u : UnitId) (code sev a0 a1 a2 : Nat) : (s.log u code sev a0 a1 a2).tag = s.tag := by
  obtain ⟨_, _, h⟩ := s.log_eq u code sev a0 a1 a2; rw [h]
@[simp] theorem log_gov (s : Block) (u : UnitId) (code sev a0 a1 a2 : Nat) : (s.log u code sev a0 a1 a2).gov = s.gov := by
  obtain ⟨_, _, h⟩ := s.log_eq u code sev a0 a1 a2; rw [h]
@[simp] theorem log_thm (s : Block) (u : UnitId) (code sev a0 a1 a2 : Nat) : (s.log u code sev a0 a1 a2).thm = s.thm := by
  obtain ⟨_, _, h⟩ := s.log_eq u code sev a0 a1 a2; rw [h]
@[simp] theorem log_ser (s : Block) (u : UnitId) (code sev a0 a1 a2 : Nat) : (s.log u code sev a0 a1 a2).ser = s.ser := by
  obtain ⟨_, _, h⟩ := s.log_eq u code sev a0 a1 a2; rw [h]
@[simp] theorem log_camps (s : Block) (u : UnitId) (code sev a0 a1 a2 : Nat) : (s.log u code sev a0 a1 a2).camps = s.camps := by
  obtain ⟨_, _, h⟩ := s.log_eq u code sev a0 a1 a2; rw [h]
@[simp] theorem log_trig (s : Block) (u : UnitId) (code sev a0 a1 a2 : Nat) : (s.log u code sev a0 a1 a2).trig = s.trig := by
  obtain ⟨_, _, h⟩ := s.log_eq u code sev a0 a1 a2; rw [h]
@[simp] theorem log_time (s : Block) (u : UnitId) (code sev a0 a1 a2 : Nat) : (s.log u code sev a0 a1 a2).time = s.time := by
  obtain ⟨_, _, h⟩ := s.log_eq u code sev a0 a1 a2; rw [h]
@[simp] theorem log_ring (s : Block) (u : UnitId) (code sev a0 a1 a2 : Nat) : (s.log u code sev a0 a1 a2).ring = s.ring := by
  obtain ⟨_, _, h⟩ := s.log_eq u code sev a0 a1 a2; rw [h]
@[simp] theorem log_sense (s : Block) (u : UnitId) (code sev a0 a1 a2 : Nat) : (s.log u code sev a0 a1 a2).sense = s.sense := by
  obtain ⟨_, _, h⟩ := s.log_eq u code sev a0 a1 a2; rw [h]
@[simp] theorem log_web (s : Block) (u : UnitId) (code sev a0 a1 a2 : Nat) : (s.log u code sev a0 a1 a2).web = s.web := by
  obtain ⟨_, _, h⟩ := s.log_eq u code sev a0 a1 a2; rw [h]
@[simp] theorem log_ctxs (s : Block) (u : UnitId) (code sev a0 a1 a2 : Nat) : (s.log u code sev a0 a1 a2).ctxs = s.ctxs := by
  obtain ⟨_, _, h⟩ := s.log_eq u code sev a0 a1 a2; rw [h]
@[simp] theorem log_stitch (s : Block) (u : UnitId) (code sev a0 a1 a2 : Nat) : (s.log u code sev a0 a1 a2).stitch = s.stitch := by
  obtain ⟨_, _, h⟩ := s.log_eq u code sev a0 a1 a2; rw [h]
@[simp] theorem log_dmc (s : Block) (u : UnitId) (code sev a0 a1 a2 : Nat) : (s.log u code sev a0 a1 a2).dmc = s.dmc := by
  obtain ⟨_, _, h⟩ := s.log_eq u code sev a0 a1 a2; rw [h]
@[simp] theorem log_refs (s : Block) (u : UnitId) (code sev a0 a1 a2 : Nat) : (s.log u code sev a0 a1 a2).refs = s.refs := by
  obtain ⟨_, _, h⟩ := s.log_eq u code sev a0 a1 a2; rw [h]
@[simp] theorem log_tango (s : Block) (u : UnitId) (code sev a0 a1 a2 : Nat) : (s.log u code sev a0 a1 a2).tango = s.tango := by
  obtain ⟨_, _, h⟩ := s.log_eq u code sev a0 a1 a2; rw [h]
@[simp] theorem log_seg (s : Block) (u : UnitId) (code sev a0 a1 a2 : Nat) : (s.log u code sev a0 a1 a2).seg = s.seg := by
  obtain ⟨_, _, h⟩ := s.log_eq u code sev a0 a1 a2; rw [h]
@[simp] theorem log_axes (s : Block) (u : UnitId) (code sev a0 a1 a2 : Nat) : (s.log u code sev a0 a1 a2).axes = s.axes := by
  obtain ⟨_, _, h⟩ := s.log_eq u code sev a0 a1 a2; rw [h]
@[simp] theorem log_cal (s : Block) (u : UnitId) (code sev a0 a1 a2 : Nat) : (s.log u code sev a0 a1 a2).cal = s.cal := by
  obtain ⟨_, _, h⟩ := s.log_eq u code sev a0 a1 a2; rw [h]
@[simp] theorem log_out (s : Block) (u : UnitId) (code sev a0 a1 a2 : Nat) : (s.log u code sev a0 a1 a2).out = s.out := by
  obtain ⟨_, _, h⟩ := s.log_eq u code sev a0 a1 a2; rw [h]

/-! ## logBy -/

theorem logBy_eq (s : Block) (m : Master) (u : UnitId) (code sev a0 a1 a2 : Nat) :
    ∃ re' er', s.logBy m u code sev a0 a1 a2 = { s with regs := re', errlog := er' } := by
  exact logAt_eq s _ _ code sev a0 a1 a2

@[simp] theorem logBy_freeCtr (s : Block) (m : Master) (u : UnitId) (code sev a0 a1 a2 : Nat) : (s.logBy m u code sev a0 a1 a2).freeCtr = s.freeCtr := by
  obtain ⟨_, _, h⟩ := s.logBy_eq m u code sev a0 a1 a2; rw [h]
@[simp] theorem logBy_lt (s : Block) (m : Master) (u : UnitId) (code sev a0 a1 a2 : Nat) : (s.logBy m u code sev a0 a1 a2).lt = s.lt := by
  obtain ⟨_, _, h⟩ := s.logBy_eq m u code sev a0 a1 a2; rw [h]
@[simp] theorem logBy_ltFrac (s : Block) (m : Master) (u : UnitId) (code sev a0 a1 a2 : Nat) : (s.logBy m u code sev a0 a1 a2).ltFrac = s.ltFrac := by
  obtain ⟨_, _, h⟩ := s.logBy_eq m u code sev a0 a1 a2; rw [h]
@[simp] theorem logBy_devAddr (s : Block) (m : Master) (u : UnitId) (code sev a0 a1 a2 : Nat) : (s.logBy m u code sev a0 a1 a2).devAddr = s.devAddr := by
  obtain ⟨_, _, h⟩ := s.logBy_eq m u code sev a0 a1 a2; rw [h]
@[simp] theorem logBy_staged (s : Block) (m : Master) (u : UnitId) (code sev a0 a1 a2 : Nat) : (s.logBy m u code sev a0 a1 a2).staged = s.staged := by
  obtain ⟨_, _, h⟩ := s.logBy_eq m u code sev a0 a1 a2; rw [h]
@[simp] theorem logBy_commits (s : Block) (m : Master) (u : UnitId) (code sev a0 a1 a2 : Nat) : (s.logBy m u code sev a0 a1 a2).commits = s.commits := by
  obtain ⟨_, _, h⟩ := s.logBy_eq m u code sev a0 a1 a2; rw [h]
@[simp] theorem logBy_sram (s : Block) (m : Master) (u : UnitId) (code sev a0 a1 a2 : Nat) : (s.logBy m u code sev a0 a1 a2).sram = s.sram := by
  obtain ⟨_, _, h⟩ := s.logBy_eq m u code sev a0 a1 a2; rw [h]
@[simp] theorem logBy_evt (s : Block) (m : Master) (u : UnitId) (code sev a0 a1 a2 : Nat) : (s.logBy m u code sev a0 a1 a2).evt = s.evt := by
  obtain ⟨_, _, h⟩ := s.logBy_eq m u code sev a0 a1 a2; rw [h]
@[simp] theorem logBy_boot (s : Block) (m : Master) (u : UnitId) (code sev a0 a1 a2 : Nat) : (s.logBy m u code sev a0 a1 a2).boot = s.boot := by
  obtain ⟨_, _, h⟩ := s.logBy_eq m u code sev a0 a1 a2; rw [h]
@[simp] theorem logBy_fuses (s : Block) (m : Master) (u : UnitId) (code sev a0 a1 a2 : Nat) : (s.logBy m u code sev a0 a1 a2).fuses = s.fuses := by
  obtain ⟨_, _, h⟩ := s.logBy_eq m u code sev a0 a1 a2; rw [h]
@[simp] theorem logBy_clk (s : Block) (m : Master) (u : UnitId) (code sev a0 a1 a2 : Nat) : (s.logBy m u code sev a0 a1 a2).clk = s.clk := by
  obtain ⟨_, _, h⟩ := s.logBy_eq m u code sev a0 a1 a2; rw [h]
@[simp] theorem logBy_flash (s : Block) (m : Master) (u : UnitId) (code sev a0 a1 a2 : Nat) : (s.logBy m u code sev a0 a1 a2).flash = s.flash := by
  obtain ⟨_, _, h⟩ := s.logBy_eq m u code sev a0 a1 a2; rw [h]
@[simp] theorem logBy_host (s : Block) (m : Master) (u : UnitId) (code sev a0 a1 a2 : Nat) : (s.logBy m u code sev a0 a1 a2).host = s.host := by
  obtain ⟨_, _, h⟩ := s.logBy_eq m u code sev a0 a1 a2; rw [h]
@[simp] theorem logBy_dma (s : Block) (m : Master) (u : UnitId) (code sev a0 a1 a2 : Nat) : (s.logBy m u code sev a0 a1 a2).dma = s.dma := by
  obtain ⟨_, _, h⟩ := s.logBy_eq m u code sev a0 a1 a2; rw [h]
@[simp] theorem logBy_mbx (s : Block) (m : Master) (u : UnitId) (code sev a0 a1 a2 : Nat) : (s.logBy m u code sev a0 a1 a2).mbx = s.mbx := by
  obtain ⟨_, _, h⟩ := s.logBy_eq m u code sev a0 a1 a2; rw [h]
@[simp] theorem logBy_tag (s : Block) (m : Master) (u : UnitId) (code sev a0 a1 a2 : Nat) : (s.logBy m u code sev a0 a1 a2).tag = s.tag := by
  obtain ⟨_, _, h⟩ := s.logBy_eq m u code sev a0 a1 a2; rw [h]
@[simp] theorem logBy_gov (s : Block) (m : Master) (u : UnitId) (code sev a0 a1 a2 : Nat) : (s.logBy m u code sev a0 a1 a2).gov = s.gov := by
  obtain ⟨_, _, h⟩ := s.logBy_eq m u code sev a0 a1 a2; rw [h]
@[simp] theorem logBy_thm (s : Block) (m : Master) (u : UnitId) (code sev a0 a1 a2 : Nat) : (s.logBy m u code sev a0 a1 a2).thm = s.thm := by
  obtain ⟨_, _, h⟩ := s.logBy_eq m u code sev a0 a1 a2; rw [h]
@[simp] theorem logBy_ser (s : Block) (m : Master) (u : UnitId) (code sev a0 a1 a2 : Nat) : (s.logBy m u code sev a0 a1 a2).ser = s.ser := by
  obtain ⟨_, _, h⟩ := s.logBy_eq m u code sev a0 a1 a2; rw [h]
@[simp] theorem logBy_camps (s : Block) (m : Master) (u : UnitId) (code sev a0 a1 a2 : Nat) : (s.logBy m u code sev a0 a1 a2).camps = s.camps := by
  obtain ⟨_, _, h⟩ := s.logBy_eq m u code sev a0 a1 a2; rw [h]
@[simp] theorem logBy_trig (s : Block) (m : Master) (u : UnitId) (code sev a0 a1 a2 : Nat) : (s.logBy m u code sev a0 a1 a2).trig = s.trig := by
  obtain ⟨_, _, h⟩ := s.logBy_eq m u code sev a0 a1 a2; rw [h]
@[simp] theorem logBy_time (s : Block) (m : Master) (u : UnitId) (code sev a0 a1 a2 : Nat) : (s.logBy m u code sev a0 a1 a2).time = s.time := by
  obtain ⟨_, _, h⟩ := s.logBy_eq m u code sev a0 a1 a2; rw [h]
@[simp] theorem logBy_ring (s : Block) (m : Master) (u : UnitId) (code sev a0 a1 a2 : Nat) : (s.logBy m u code sev a0 a1 a2).ring = s.ring := by
  obtain ⟨_, _, h⟩ := s.logBy_eq m u code sev a0 a1 a2; rw [h]
@[simp] theorem logBy_sense (s : Block) (m : Master) (u : UnitId) (code sev a0 a1 a2 : Nat) : (s.logBy m u code sev a0 a1 a2).sense = s.sense := by
  obtain ⟨_, _, h⟩ := s.logBy_eq m u code sev a0 a1 a2; rw [h]
@[simp] theorem logBy_web (s : Block) (m : Master) (u : UnitId) (code sev a0 a1 a2 : Nat) : (s.logBy m u code sev a0 a1 a2).web = s.web := by
  obtain ⟨_, _, h⟩ := s.logBy_eq m u code sev a0 a1 a2; rw [h]
@[simp] theorem logBy_ctxs (s : Block) (m : Master) (u : UnitId) (code sev a0 a1 a2 : Nat) : (s.logBy m u code sev a0 a1 a2).ctxs = s.ctxs := by
  obtain ⟨_, _, h⟩ := s.logBy_eq m u code sev a0 a1 a2; rw [h]
@[simp] theorem logBy_stitch (s : Block) (m : Master) (u : UnitId) (code sev a0 a1 a2 : Nat) : (s.logBy m u code sev a0 a1 a2).stitch = s.stitch := by
  obtain ⟨_, _, h⟩ := s.logBy_eq m u code sev a0 a1 a2; rw [h]
@[simp] theorem logBy_dmc (s : Block) (m : Master) (u : UnitId) (code sev a0 a1 a2 : Nat) : (s.logBy m u code sev a0 a1 a2).dmc = s.dmc := by
  obtain ⟨_, _, h⟩ := s.logBy_eq m u code sev a0 a1 a2; rw [h]
@[simp] theorem logBy_refs (s : Block) (m : Master) (u : UnitId) (code sev a0 a1 a2 : Nat) : (s.logBy m u code sev a0 a1 a2).refs = s.refs := by
  obtain ⟨_, _, h⟩ := s.logBy_eq m u code sev a0 a1 a2; rw [h]
@[simp] theorem logBy_tango (s : Block) (m : Master) (u : UnitId) (code sev a0 a1 a2 : Nat) : (s.logBy m u code sev a0 a1 a2).tango = s.tango := by
  obtain ⟨_, _, h⟩ := s.logBy_eq m u code sev a0 a1 a2; rw [h]
@[simp] theorem logBy_seg (s : Block) (m : Master) (u : UnitId) (code sev a0 a1 a2 : Nat) : (s.logBy m u code sev a0 a1 a2).seg = s.seg := by
  obtain ⟨_, _, h⟩ := s.logBy_eq m u code sev a0 a1 a2; rw [h]
@[simp] theorem logBy_axes (s : Block) (m : Master) (u : UnitId) (code sev a0 a1 a2 : Nat) : (s.logBy m u code sev a0 a1 a2).axes = s.axes := by
  obtain ⟨_, _, h⟩ := s.logBy_eq m u code sev a0 a1 a2; rw [h]
@[simp] theorem logBy_cal (s : Block) (m : Master) (u : UnitId) (code sev a0 a1 a2 : Nat) : (s.logBy m u code sev a0 a1 a2).cal = s.cal := by
  obtain ⟨_, _, h⟩ := s.logBy_eq m u code sev a0 a1 a2; rw [h]
@[simp] theorem logBy_out (s : Block) (m : Master) (u : UnitId) (code sev a0 a1 a2 : Nat) : (s.logBy m u code sev a0 a1 a2).out = s.out := by
  obtain ⟨_, _, h⟩ := s.logBy_eq m u code sev a0 a1 a2; rw [h]

/-! ## msix -/

theorem msix_eq (s : Block) (v : Nat) :
    ∃ ho' ou', s.msix v = { s with host := ho', out := ou' } := by
  unfold msix
  dsimp only
  split
  · split
    · exact ⟨_, _, rfl⟩
    · exact ⟨_, _, rfl⟩
  · exact ⟨_, _, rfl⟩

@[simp] theorem msix_freeCtr (s : Block) (v : Nat) : (s.msix v).freeCtr = s.freeCtr := by
  obtain ⟨_, _, h⟩ := s.msix_eq v; rw [h]
@[simp] theorem msix_lt (s : Block) (v : Nat) : (s.msix v).lt = s.lt := by
  obtain ⟨_, _, h⟩ := s.msix_eq v; rw [h]
@[simp] theorem msix_ltFrac (s : Block) (v : Nat) : (s.msix v).ltFrac = s.ltFrac := by
  obtain ⟨_, _, h⟩ := s.msix_eq v; rw [h]
@[simp] theorem msix_devAddr (s : Block) (v : Nat) : (s.msix v).devAddr = s.devAddr := by
  obtain ⟨_, _, h⟩ := s.msix_eq v; rw [h]
@[simp] theorem msix_regs (s : Block) (v : Nat) : (s.msix v).regs = s.regs := by
  obtain ⟨_, _, h⟩ := s.msix_eq v; rw [h]
@[simp] theorem msix_staged (s : Block) (v : Nat) : (s.msix v).staged = s.staged := by
  obtain ⟨_, _, h⟩ := s.msix_eq v; rw [h]
@[simp] theorem msix_commits (s : Block) (v : Nat) : (s.msix v).commits = s.commits := by
  obtain ⟨_, _, h⟩ := s.msix_eq v; rw [h]
@[simp] theorem msix_sram (s : Block) (v : Nat) : (s.msix v).sram = s.sram := by
  obtain ⟨_, _, h⟩ := s.msix_eq v; rw [h]
@[simp] theorem msix_errlog (s : Block) (v : Nat) : (s.msix v).errlog = s.errlog := by
  obtain ⟨_, _, h⟩ := s.msix_eq v; rw [h]
@[simp] theorem msix_evt (s : Block) (v : Nat) : (s.msix v).evt = s.evt := by
  obtain ⟨_, _, h⟩ := s.msix_eq v; rw [h]
@[simp] theorem msix_boot (s : Block) (v : Nat) : (s.msix v).boot = s.boot := by
  obtain ⟨_, _, h⟩ := s.msix_eq v; rw [h]
@[simp] theorem msix_fuses (s : Block) (v : Nat) : (s.msix v).fuses = s.fuses := by
  obtain ⟨_, _, h⟩ := s.msix_eq v; rw [h]
@[simp] theorem msix_clk (s : Block) (v : Nat) : (s.msix v).clk = s.clk := by
  obtain ⟨_, _, h⟩ := s.msix_eq v; rw [h]
@[simp] theorem msix_flash (s : Block) (v : Nat) : (s.msix v).flash = s.flash := by
  obtain ⟨_, _, h⟩ := s.msix_eq v; rw [h]
@[simp] theorem msix_dma (s : Block) (v : Nat) : (s.msix v).dma = s.dma := by
  obtain ⟨_, _, h⟩ := s.msix_eq v; rw [h]
@[simp] theorem msix_mbx (s : Block) (v : Nat) : (s.msix v).mbx = s.mbx := by
  obtain ⟨_, _, h⟩ := s.msix_eq v; rw [h]
@[simp] theorem msix_tag (s : Block) (v : Nat) : (s.msix v).tag = s.tag := by
  obtain ⟨_, _, h⟩ := s.msix_eq v; rw [h]
@[simp] theorem msix_gov (s : Block) (v : Nat) : (s.msix v).gov = s.gov := by
  obtain ⟨_, _, h⟩ := s.msix_eq v; rw [h]
@[simp] theorem msix_thm (s : Block) (v : Nat) : (s.msix v).thm = s.thm := by
  obtain ⟨_, _, h⟩ := s.msix_eq v; rw [h]
@[simp] theorem msix_ser (s : Block) (v : Nat) : (s.msix v).ser = s.ser := by
  obtain ⟨_, _, h⟩ := s.msix_eq v; rw [h]
@[simp] theorem msix_camps (s : Block) (v : Nat) : (s.msix v).camps = s.camps := by
  obtain ⟨_, _, h⟩ := s.msix_eq v; rw [h]
@[simp] theorem msix_trig (s : Block) (v : Nat) : (s.msix v).trig = s.trig := by
  obtain ⟨_, _, h⟩ := s.msix_eq v; rw [h]
@[simp] theorem msix_time (s : Block) (v : Nat) : (s.msix v).time = s.time := by
  obtain ⟨_, _, h⟩ := s.msix_eq v; rw [h]
@[simp] theorem msix_ring (s : Block) (v : Nat) : (s.msix v).ring = s.ring := by
  obtain ⟨_, _, h⟩ := s.msix_eq v; rw [h]
@[simp] theorem msix_sense (s : Block) (v : Nat) : (s.msix v).sense = s.sense := by
  obtain ⟨_, _, h⟩ := s.msix_eq v; rw [h]
@[simp] theorem msix_web (s : Block) (v : Nat) : (s.msix v).web = s.web := by
  obtain ⟨_, _, h⟩ := s.msix_eq v; rw [h]
@[simp] theorem msix_ctxs (s : Block) (v : Nat) : (s.msix v).ctxs = s.ctxs := by
  obtain ⟨_, _, h⟩ := s.msix_eq v; rw [h]
@[simp] theorem msix_stitch (s : Block) (v : Nat) : (s.msix v).stitch = s.stitch := by
  obtain ⟨_, _, h⟩ := s.msix_eq v; rw [h]
@[simp] theorem msix_dmc (s : Block) (v : Nat) : (s.msix v).dmc = s.dmc := by
  obtain ⟨_, _, h⟩ := s.msix_eq v; rw [h]
@[simp] theorem msix_refs (s : Block) (v : Nat) : (s.msix v).refs = s.refs := by
  obtain ⟨_, _, h⟩ := s.msix_eq v; rw [h]
@[simp] theorem msix_tango (s : Block) (v : Nat) : (s.msix v).tango = s.tango := by
  obtain ⟨_, _, h⟩ := s.msix_eq v; rw [h]
@[simp] theorem msix_seg (s : Block) (v : Nat) : (s.msix v).seg = s.seg := by
  obtain ⟨_, _, h⟩ := s.msix_eq v; rw [h]
@[simp] theorem msix_axes (s : Block) (v : Nat) : (s.msix v).axes = s.axes := by
  obtain ⟨_, _, h⟩ := s.msix_eq v; rw [h]
@[simp] theorem msix_cal (s : Block) (v : Nat) : (s.msix v).cal = s.cal := by
  obtain ⟨_, _, h⟩ := s.msix_eq v; rw [h]

/-! ## coalesce -/

theorem coalesce_eq (s : Block) (c : Nat) :
    ∃ re', s.coalesce c = { s with regs := re' } := by
  exact ⟨_, rfl⟩

@[simp] theorem coalesce_freeCtr (s : Block) (c : Nat) : (s.coalesce c).freeCtr = s.freeCtr := by
  obtain ⟨_, h⟩ := s.coalesce_eq c; rw [h]
@[simp] theorem coalesce_lt (s : Block) (c : Nat) : (s.coalesce c).lt = s.lt := by
  obtain ⟨_, h⟩ := s.coalesce_eq c; rw [h]
@[simp] theorem coalesce_ltFrac (s : Block) (c : Nat) : (s.coalesce c).ltFrac = s.ltFrac := by
  obtain ⟨_, h⟩ := s.coalesce_eq c; rw [h]
@[simp] theorem coalesce_devAddr (s : Block) (c : Nat) : (s.coalesce c).devAddr = s.devAddr := by
  obtain ⟨_, h⟩ := s.coalesce_eq c; rw [h]
@[simp] theorem coalesce_staged (s : Block) (c : Nat) : (s.coalesce c).staged = s.staged := by
  obtain ⟨_, h⟩ := s.coalesce_eq c; rw [h]
@[simp] theorem coalesce_commits (s : Block) (c : Nat) : (s.coalesce c).commits = s.commits := by
  obtain ⟨_, h⟩ := s.coalesce_eq c; rw [h]
@[simp] theorem coalesce_sram (s : Block) (c : Nat) : (s.coalesce c).sram = s.sram := by
  obtain ⟨_, h⟩ := s.coalesce_eq c; rw [h]
@[simp] theorem coalesce_errlog (s : Block) (c : Nat) : (s.coalesce c).errlog = s.errlog := by
  obtain ⟨_, h⟩ := s.coalesce_eq c; rw [h]
@[simp] theorem coalesce_evt (s : Block) (c : Nat) : (s.coalesce c).evt = s.evt := by
  obtain ⟨_, h⟩ := s.coalesce_eq c; rw [h]
@[simp] theorem coalesce_boot (s : Block) (c : Nat) : (s.coalesce c).boot = s.boot := by
  obtain ⟨_, h⟩ := s.coalesce_eq c; rw [h]
@[simp] theorem coalesce_fuses (s : Block) (c : Nat) : (s.coalesce c).fuses = s.fuses := by
  obtain ⟨_, h⟩ := s.coalesce_eq c; rw [h]
@[simp] theorem coalesce_clk (s : Block) (c : Nat) : (s.coalesce c).clk = s.clk := by
  obtain ⟨_, h⟩ := s.coalesce_eq c; rw [h]
@[simp] theorem coalesce_flash (s : Block) (c : Nat) : (s.coalesce c).flash = s.flash := by
  obtain ⟨_, h⟩ := s.coalesce_eq c; rw [h]
@[simp] theorem coalesce_host (s : Block) (c : Nat) : (s.coalesce c).host = s.host := by
  obtain ⟨_, h⟩ := s.coalesce_eq c; rw [h]
@[simp] theorem coalesce_dma (s : Block) (c : Nat) : (s.coalesce c).dma = s.dma := by
  obtain ⟨_, h⟩ := s.coalesce_eq c; rw [h]
@[simp] theorem coalesce_mbx (s : Block) (c : Nat) : (s.coalesce c).mbx = s.mbx := by
  obtain ⟨_, h⟩ := s.coalesce_eq c; rw [h]
@[simp] theorem coalesce_tag (s : Block) (c : Nat) : (s.coalesce c).tag = s.tag := by
  obtain ⟨_, h⟩ := s.coalesce_eq c; rw [h]
@[simp] theorem coalesce_gov (s : Block) (c : Nat) : (s.coalesce c).gov = s.gov := by
  obtain ⟨_, h⟩ := s.coalesce_eq c; rw [h]
@[simp] theorem coalesce_thm (s : Block) (c : Nat) : (s.coalesce c).thm = s.thm := by
  obtain ⟨_, h⟩ := s.coalesce_eq c; rw [h]
@[simp] theorem coalesce_ser (s : Block) (c : Nat) : (s.coalesce c).ser = s.ser := by
  obtain ⟨_, h⟩ := s.coalesce_eq c; rw [h]
@[simp] theorem coalesce_camps (s : Block) (c : Nat) : (s.coalesce c).camps = s.camps := by
  obtain ⟨_, h⟩ := s.coalesce_eq c; rw [h]
@[simp] theorem coalesce_trig (s : Block) (c : Nat) : (s.coalesce c).trig = s.trig := by
  obtain ⟨_, h⟩ := s.coalesce_eq c; rw [h]
@[simp] theorem coalesce_time (s : Block) (c : Nat) : (s.coalesce c).time = s.time := by
  obtain ⟨_, h⟩ := s.coalesce_eq c; rw [h]
@[simp] theorem coalesce_ring (s : Block) (c : Nat) : (s.coalesce c).ring = s.ring := by
  obtain ⟨_, h⟩ := s.coalesce_eq c; rw [h]
@[simp] theorem coalesce_sense (s : Block) (c : Nat) : (s.coalesce c).sense = s.sense := by
  obtain ⟨_, h⟩ := s.coalesce_eq c; rw [h]
@[simp] theorem coalesce_web (s : Block) (c : Nat) : (s.coalesce c).web = s.web := by
  obtain ⟨_, h⟩ := s.coalesce_eq c; rw [h]
@[simp] theorem coalesce_ctxs (s : Block) (c : Nat) : (s.coalesce c).ctxs = s.ctxs := by
  obtain ⟨_, h⟩ := s.coalesce_eq c; rw [h]
@[simp] theorem coalesce_stitch (s : Block) (c : Nat) : (s.coalesce c).stitch = s.stitch := by
  obtain ⟨_, h⟩ := s.coalesce_eq c; rw [h]
@[simp] theorem coalesce_dmc (s : Block) (c : Nat) : (s.coalesce c).dmc = s.dmc := by
  obtain ⟨_, h⟩ := s.coalesce_eq c; rw [h]
@[simp] theorem coalesce_refs (s : Block) (c : Nat) : (s.coalesce c).refs = s.refs := by
  obtain ⟨_, h⟩ := s.coalesce_eq c; rw [h]
@[simp] theorem coalesce_tango (s : Block) (c : Nat) : (s.coalesce c).tango = s.tango := by
  obtain ⟨_, h⟩ := s.coalesce_eq c; rw [h]
@[simp] theorem coalesce_seg (s : Block) (c : Nat) : (s.coalesce c).seg = s.seg := by
  obtain ⟨_, h⟩ := s.coalesce_eq c; rw [h]
@[simp] theorem coalesce_axes (s : Block) (c : Nat) : (s.coalesce c).axes = s.axes := by
  obtain ⟨_, h⟩ := s.coalesce_eq c; rw [h]
@[simp] theorem coalesce_cal (s : Block) (c : Nat) : (s.coalesce c).cal = s.cal := by
  obtain ⟨_, h⟩ := s.coalesce_eq c; rw [h]
@[simp] theorem coalesce_out (s : Block) (c : Nat) : (s.coalesce c).out = s.out := by
  obtain ⟨_, h⟩ := s.coalesce_eq c; rw [h]

/-! ## arrive -/

theorem arrive_eq (s : Block) (p src c : Nat) :
    ∃ re' er' ev', s.arrive p src c = { s with regs := re', errlog := er', evt := ev' } := by
  unfold arrive
  dsimp only
  split
  · exact ⟨_, _, _, rfl⟩
  · split
    · obtain ⟨r, e, h⟩ := (s.set uEvt F.EVT.FLAGS_IMPORT_REFUSED 1).log_eq uEvt 0x000C 2 c src 0
      exact ⟨r, e, s.evt, h⟩
    · split
      · exact ⟨_, _, _, rfl⟩
      · exact ⟨_, _, _, rfl⟩

@[simp] theorem arrive_freeCtr (s : Block) (p src c : Nat) : (s.arrive p src c).freeCtr = s.freeCtr := by
  obtain ⟨_, _, _, h⟩ := s.arrive_eq p src c; rw [h]
@[simp] theorem arrive_lt (s : Block) (p src c : Nat) : (s.arrive p src c).lt = s.lt := by
  obtain ⟨_, _, _, h⟩ := s.arrive_eq p src c; rw [h]
@[simp] theorem arrive_ltFrac (s : Block) (p src c : Nat) : (s.arrive p src c).ltFrac = s.ltFrac := by
  obtain ⟨_, _, _, h⟩ := s.arrive_eq p src c; rw [h]
@[simp] theorem arrive_devAddr (s : Block) (p src c : Nat) : (s.arrive p src c).devAddr = s.devAddr := by
  obtain ⟨_, _, _, h⟩ := s.arrive_eq p src c; rw [h]
@[simp] theorem arrive_staged (s : Block) (p src c : Nat) : (s.arrive p src c).staged = s.staged := by
  obtain ⟨_, _, _, h⟩ := s.arrive_eq p src c; rw [h]
@[simp] theorem arrive_commits (s : Block) (p src c : Nat) : (s.arrive p src c).commits = s.commits := by
  obtain ⟨_, _, _, h⟩ := s.arrive_eq p src c; rw [h]
@[simp] theorem arrive_sram (s : Block) (p src c : Nat) : (s.arrive p src c).sram = s.sram := by
  obtain ⟨_, _, _, h⟩ := s.arrive_eq p src c; rw [h]
@[simp] theorem arrive_boot (s : Block) (p src c : Nat) : (s.arrive p src c).boot = s.boot := by
  obtain ⟨_, _, _, h⟩ := s.arrive_eq p src c; rw [h]
@[simp] theorem arrive_fuses (s : Block) (p src c : Nat) : (s.arrive p src c).fuses = s.fuses := by
  obtain ⟨_, _, _, h⟩ := s.arrive_eq p src c; rw [h]
@[simp] theorem arrive_clk (s : Block) (p src c : Nat) : (s.arrive p src c).clk = s.clk := by
  obtain ⟨_, _, _, h⟩ := s.arrive_eq p src c; rw [h]
@[simp] theorem arrive_flash (s : Block) (p src c : Nat) : (s.arrive p src c).flash = s.flash := by
  obtain ⟨_, _, _, h⟩ := s.arrive_eq p src c; rw [h]
@[simp] theorem arrive_host (s : Block) (p src c : Nat) : (s.arrive p src c).host = s.host := by
  obtain ⟨_, _, _, h⟩ := s.arrive_eq p src c; rw [h]
@[simp] theorem arrive_dma (s : Block) (p src c : Nat) : (s.arrive p src c).dma = s.dma := by
  obtain ⟨_, _, _, h⟩ := s.arrive_eq p src c; rw [h]
@[simp] theorem arrive_mbx (s : Block) (p src c : Nat) : (s.arrive p src c).mbx = s.mbx := by
  obtain ⟨_, _, _, h⟩ := s.arrive_eq p src c; rw [h]
@[simp] theorem arrive_tag (s : Block) (p src c : Nat) : (s.arrive p src c).tag = s.tag := by
  obtain ⟨_, _, _, h⟩ := s.arrive_eq p src c; rw [h]
@[simp] theorem arrive_gov (s : Block) (p src c : Nat) : (s.arrive p src c).gov = s.gov := by
  obtain ⟨_, _, _, h⟩ := s.arrive_eq p src c; rw [h]
@[simp] theorem arrive_thm (s : Block) (p src c : Nat) : (s.arrive p src c).thm = s.thm := by
  obtain ⟨_, _, _, h⟩ := s.arrive_eq p src c; rw [h]
@[simp] theorem arrive_ser (s : Block) (p src c : Nat) : (s.arrive p src c).ser = s.ser := by
  obtain ⟨_, _, _, h⟩ := s.arrive_eq p src c; rw [h]
@[simp] theorem arrive_camps (s : Block) (p src c : Nat) : (s.arrive p src c).camps = s.camps := by
  obtain ⟨_, _, _, h⟩ := s.arrive_eq p src c; rw [h]
@[simp] theorem arrive_trig (s : Block) (p src c : Nat) : (s.arrive p src c).trig = s.trig := by
  obtain ⟨_, _, _, h⟩ := s.arrive_eq p src c; rw [h]
@[simp] theorem arrive_time (s : Block) (p src c : Nat) : (s.arrive p src c).time = s.time := by
  obtain ⟨_, _, _, h⟩ := s.arrive_eq p src c; rw [h]
@[simp] theorem arrive_ring (s : Block) (p src c : Nat) : (s.arrive p src c).ring = s.ring := by
  obtain ⟨_, _, _, h⟩ := s.arrive_eq p src c; rw [h]
@[simp] theorem arrive_sense (s : Block) (p src c : Nat) : (s.arrive p src c).sense = s.sense := by
  obtain ⟨_, _, _, h⟩ := s.arrive_eq p src c; rw [h]
@[simp] theorem arrive_web (s : Block) (p src c : Nat) : (s.arrive p src c).web = s.web := by
  obtain ⟨_, _, _, h⟩ := s.arrive_eq p src c; rw [h]
@[simp] theorem arrive_ctxs (s : Block) (p src c : Nat) : (s.arrive p src c).ctxs = s.ctxs := by
  obtain ⟨_, _, _, h⟩ := s.arrive_eq p src c; rw [h]
@[simp] theorem arrive_stitch (s : Block) (p src c : Nat) : (s.arrive p src c).stitch = s.stitch := by
  obtain ⟨_, _, _, h⟩ := s.arrive_eq p src c; rw [h]
@[simp] theorem arrive_dmc (s : Block) (p src c : Nat) : (s.arrive p src c).dmc = s.dmc := by
  obtain ⟨_, _, _, h⟩ := s.arrive_eq p src c; rw [h]
@[simp] theorem arrive_refs (s : Block) (p src c : Nat) : (s.arrive p src c).refs = s.refs := by
  obtain ⟨_, _, _, h⟩ := s.arrive_eq p src c; rw [h]
@[simp] theorem arrive_tango (s : Block) (p src c : Nat) : (s.arrive p src c).tango = s.tango := by
  obtain ⟨_, _, _, h⟩ := s.arrive_eq p src c; rw [h]
@[simp] theorem arrive_seg (s : Block) (p src c : Nat) : (s.arrive p src c).seg = s.seg := by
  obtain ⟨_, _, _, h⟩ := s.arrive_eq p src c; rw [h]
@[simp] theorem arrive_axes (s : Block) (p src c : Nat) : (s.arrive p src c).axes = s.axes := by
  obtain ⟨_, _, _, h⟩ := s.arrive_eq p src c; rw [h]
@[simp] theorem arrive_cal (s : Block) (p src c : Nat) : (s.arrive p src c).cal = s.cal := by
  obtain ⟨_, _, _, h⟩ := s.arrive_eq p src c; rw [h]
@[simp] theorem arrive_out (s : Block) (p src c : Nat) : (s.arrive p src c).out = s.out := by
  obtain ⟨_, _, _, h⟩ := s.arrive_eq p src c; rw [h]

/-! ## raiseFrom -/

theorem foldl_arrive_eq (p src : Nat) (l : List Nat) (s : Block) :
    ∃ re' er' ev', l.foldl (fun s c => s.arrive p src c) s = { s with regs := re', errlog := er', evt := ev' } := by
  induction l generalizing s with
  | nil => exact ⟨_, _, _, rfl⟩
  | cons c r ih =>
    obtain ⟨a, b, d, h⟩ := ih (s.arrive p src c)
    obtain ⟨a', b', d', h'⟩ := s.arrive_eq p src c
    refine ⟨a, b, d, ?_⟩
    rw [List.foldl_cons, h, h']

theorem foldl_coalesce_eq (l : List Nat) (s : Block) : ∃ re', l.foldl coalesce s = { s with regs := re' } := by
  induction l generalizing s with
  | nil => exact ⟨_, rfl⟩
  | cons c r ih =>
    obtain ⟨a, h⟩ := ih (s.coalesce c)
    exact ⟨a, h⟩
theorem raiseFrom_eq (s : Block) (p src : Nat) :
    ∃ re' er' ev', s.raiseFrom p src = { s with regs := re', errlog := er', evt := ev' } := by
  unfold raiseFrom
  split
  · split
    · obtain ⟨r, h⟩ := foldl_coalesce_eq (s.routes p) s
      exact ⟨r, _, _, h⟩
    · obtain ⟨r, e, v, h⟩ := foldl_arrive_eq p src (s.routes p)
        { s with evt := { s.evt with asserted := bindK p s.lt s.evt.asserted } }
      exact ⟨r, e, v, h⟩
  · obtain ⟨r, e, v, h⟩ := foldl_arrive_eq p src (s.routes p)
      { s with evt := { s.evt with asserted := bindK p s.lt s.evt.asserted } }
    exact ⟨r, e, v, h⟩

@[simp] theorem raiseFrom_freeCtr (s : Block) (p src : Nat) : (s.raiseFrom p src).freeCtr = s.freeCtr := by
  obtain ⟨_, _, _, h⟩ := s.raiseFrom_eq p src; rw [h]
@[simp] theorem raiseFrom_lt (s : Block) (p src : Nat) : (s.raiseFrom p src).lt = s.lt := by
  obtain ⟨_, _, _, h⟩ := s.raiseFrom_eq p src; rw [h]
@[simp] theorem raiseFrom_ltFrac (s : Block) (p src : Nat) : (s.raiseFrom p src).ltFrac = s.ltFrac := by
  obtain ⟨_, _, _, h⟩ := s.raiseFrom_eq p src; rw [h]
@[simp] theorem raiseFrom_devAddr (s : Block) (p src : Nat) : (s.raiseFrom p src).devAddr = s.devAddr := by
  obtain ⟨_, _, _, h⟩ := s.raiseFrom_eq p src; rw [h]
@[simp] theorem raiseFrom_staged (s : Block) (p src : Nat) : (s.raiseFrom p src).staged = s.staged := by
  obtain ⟨_, _, _, h⟩ := s.raiseFrom_eq p src; rw [h]
@[simp] theorem raiseFrom_commits (s : Block) (p src : Nat) : (s.raiseFrom p src).commits = s.commits := by
  obtain ⟨_, _, _, h⟩ := s.raiseFrom_eq p src; rw [h]
@[simp] theorem raiseFrom_sram (s : Block) (p src : Nat) : (s.raiseFrom p src).sram = s.sram := by
  obtain ⟨_, _, _, h⟩ := s.raiseFrom_eq p src; rw [h]
@[simp] theorem raiseFrom_boot (s : Block) (p src : Nat) : (s.raiseFrom p src).boot = s.boot := by
  obtain ⟨_, _, _, h⟩ := s.raiseFrom_eq p src; rw [h]
@[simp] theorem raiseFrom_fuses (s : Block) (p src : Nat) : (s.raiseFrom p src).fuses = s.fuses := by
  obtain ⟨_, _, _, h⟩ := s.raiseFrom_eq p src; rw [h]
@[simp] theorem raiseFrom_clk (s : Block) (p src : Nat) : (s.raiseFrom p src).clk = s.clk := by
  obtain ⟨_, _, _, h⟩ := s.raiseFrom_eq p src; rw [h]
@[simp] theorem raiseFrom_flash (s : Block) (p src : Nat) : (s.raiseFrom p src).flash = s.flash := by
  obtain ⟨_, _, _, h⟩ := s.raiseFrom_eq p src; rw [h]
@[simp] theorem raiseFrom_host (s : Block) (p src : Nat) : (s.raiseFrom p src).host = s.host := by
  obtain ⟨_, _, _, h⟩ := s.raiseFrom_eq p src; rw [h]
@[simp] theorem raiseFrom_dma (s : Block) (p src : Nat) : (s.raiseFrom p src).dma = s.dma := by
  obtain ⟨_, _, _, h⟩ := s.raiseFrom_eq p src; rw [h]
@[simp] theorem raiseFrom_mbx (s : Block) (p src : Nat) : (s.raiseFrom p src).mbx = s.mbx := by
  obtain ⟨_, _, _, h⟩ := s.raiseFrom_eq p src; rw [h]
@[simp] theorem raiseFrom_tag (s : Block) (p src : Nat) : (s.raiseFrom p src).tag = s.tag := by
  obtain ⟨_, _, _, h⟩ := s.raiseFrom_eq p src; rw [h]
@[simp] theorem raiseFrom_gov (s : Block) (p src : Nat) : (s.raiseFrom p src).gov = s.gov := by
  obtain ⟨_, _, _, h⟩ := s.raiseFrom_eq p src; rw [h]
@[simp] theorem raiseFrom_thm (s : Block) (p src : Nat) : (s.raiseFrom p src).thm = s.thm := by
  obtain ⟨_, _, _, h⟩ := s.raiseFrom_eq p src; rw [h]
@[simp] theorem raiseFrom_ser (s : Block) (p src : Nat) : (s.raiseFrom p src).ser = s.ser := by
  obtain ⟨_, _, _, h⟩ := s.raiseFrom_eq p src; rw [h]
@[simp] theorem raiseFrom_camps (s : Block) (p src : Nat) : (s.raiseFrom p src).camps = s.camps := by
  obtain ⟨_, _, _, h⟩ := s.raiseFrom_eq p src; rw [h]
@[simp] theorem raiseFrom_trig (s : Block) (p src : Nat) : (s.raiseFrom p src).trig = s.trig := by
  obtain ⟨_, _, _, h⟩ := s.raiseFrom_eq p src; rw [h]
@[simp] theorem raiseFrom_time (s : Block) (p src : Nat) : (s.raiseFrom p src).time = s.time := by
  obtain ⟨_, _, _, h⟩ := s.raiseFrom_eq p src; rw [h]
@[simp] theorem raiseFrom_ring (s : Block) (p src : Nat) : (s.raiseFrom p src).ring = s.ring := by
  obtain ⟨_, _, _, h⟩ := s.raiseFrom_eq p src; rw [h]
@[simp] theorem raiseFrom_sense (s : Block) (p src : Nat) : (s.raiseFrom p src).sense = s.sense := by
  obtain ⟨_, _, _, h⟩ := s.raiseFrom_eq p src; rw [h]
@[simp] theorem raiseFrom_web (s : Block) (p src : Nat) : (s.raiseFrom p src).web = s.web := by
  obtain ⟨_, _, _, h⟩ := s.raiseFrom_eq p src; rw [h]
@[simp] theorem raiseFrom_ctxs (s : Block) (p src : Nat) : (s.raiseFrom p src).ctxs = s.ctxs := by
  obtain ⟨_, _, _, h⟩ := s.raiseFrom_eq p src; rw [h]
@[simp] theorem raiseFrom_stitch (s : Block) (p src : Nat) : (s.raiseFrom p src).stitch = s.stitch := by
  obtain ⟨_, _, _, h⟩ := s.raiseFrom_eq p src; rw [h]
@[simp] theorem raiseFrom_dmc (s : Block) (p src : Nat) : (s.raiseFrom p src).dmc = s.dmc := by
  obtain ⟨_, _, _, h⟩ := s.raiseFrom_eq p src; rw [h]
@[simp] theorem raiseFrom_refs (s : Block) (p src : Nat) : (s.raiseFrom p src).refs = s.refs := by
  obtain ⟨_, _, _, h⟩ := s.raiseFrom_eq p src; rw [h]
@[simp] theorem raiseFrom_tango (s : Block) (p src : Nat) : (s.raiseFrom p src).tango = s.tango := by
  obtain ⟨_, _, _, h⟩ := s.raiseFrom_eq p src; rw [h]
@[simp] theorem raiseFrom_seg (s : Block) (p src : Nat) : (s.raiseFrom p src).seg = s.seg := by
  obtain ⟨_, _, _, h⟩ := s.raiseFrom_eq p src; rw [h]
@[simp] theorem raiseFrom_axes (s : Block) (p src : Nat) : (s.raiseFrom p src).axes = s.axes := by
  obtain ⟨_, _, _, h⟩ := s.raiseFrom_eq p src; rw [h]
@[simp] theorem raiseFrom_cal (s : Block) (p src : Nat) : (s.raiseFrom p src).cal = s.cal := by
  obtain ⟨_, _, _, h⟩ := s.raiseFrom_eq p src; rw [h]
@[simp] theorem raiseFrom_out (s : Block) (p src : Nat) : (s.raiseFrom p src).out = s.out := by
  obtain ⟨_, _, _, h⟩ := s.raiseFrom_eq p src; rw [h]

/-! ## raise -/

theorem raise_eq (s : Block) (p : Nat) :
    ∃ re' er' ev', s.raise p = { s with regs := re', errlog := er', evt := ev' } := by
  exact s.raiseFrom_eq p 0

@[simp] theorem raise_freeCtr (s : Block) (p : Nat) : (s.raise p).freeCtr = s.freeCtr := by
  obtain ⟨_, _, _, h⟩ := s.raise_eq p; rw [h]
@[simp] theorem raise_lt (s : Block) (p : Nat) : (s.raise p).lt = s.lt := by
  obtain ⟨_, _, _, h⟩ := s.raise_eq p; rw [h]
@[simp] theorem raise_ltFrac (s : Block) (p : Nat) : (s.raise p).ltFrac = s.ltFrac := by
  obtain ⟨_, _, _, h⟩ := s.raise_eq p; rw [h]
@[simp] theorem raise_devAddr (s : Block) (p : Nat) : (s.raise p).devAddr = s.devAddr := by
  obtain ⟨_, _, _, h⟩ := s.raise_eq p; rw [h]
@[simp] theorem raise_staged (s : Block) (p : Nat) : (s.raise p).staged = s.staged := by
  obtain ⟨_, _, _, h⟩ := s.raise_eq p; rw [h]
@[simp] theorem raise_commits (s : Block) (p : Nat) : (s.raise p).commits = s.commits := by
  obtain ⟨_, _, _, h⟩ := s.raise_eq p; rw [h]
@[simp] theorem raise_sram (s : Block) (p : Nat) : (s.raise p).sram = s.sram := by
  obtain ⟨_, _, _, h⟩ := s.raise_eq p; rw [h]
@[simp] theorem raise_boot (s : Block) (p : Nat) : (s.raise p).boot = s.boot := by
  obtain ⟨_, _, _, h⟩ := s.raise_eq p; rw [h]
@[simp] theorem raise_fuses (s : Block) (p : Nat) : (s.raise p).fuses = s.fuses := by
  obtain ⟨_, _, _, h⟩ := s.raise_eq p; rw [h]
@[simp] theorem raise_clk (s : Block) (p : Nat) : (s.raise p).clk = s.clk := by
  obtain ⟨_, _, _, h⟩ := s.raise_eq p; rw [h]
@[simp] theorem raise_flash (s : Block) (p : Nat) : (s.raise p).flash = s.flash := by
  obtain ⟨_, _, _, h⟩ := s.raise_eq p; rw [h]
@[simp] theorem raise_host (s : Block) (p : Nat) : (s.raise p).host = s.host := by
  obtain ⟨_, _, _, h⟩ := s.raise_eq p; rw [h]
@[simp] theorem raise_dma (s : Block) (p : Nat) : (s.raise p).dma = s.dma := by
  obtain ⟨_, _, _, h⟩ := s.raise_eq p; rw [h]
@[simp] theorem raise_mbx (s : Block) (p : Nat) : (s.raise p).mbx = s.mbx := by
  obtain ⟨_, _, _, h⟩ := s.raise_eq p; rw [h]
@[simp] theorem raise_tag (s : Block) (p : Nat) : (s.raise p).tag = s.tag := by
  obtain ⟨_, _, _, h⟩ := s.raise_eq p; rw [h]
@[simp] theorem raise_gov (s : Block) (p : Nat) : (s.raise p).gov = s.gov := by
  obtain ⟨_, _, _, h⟩ := s.raise_eq p; rw [h]
@[simp] theorem raise_thm (s : Block) (p : Nat) : (s.raise p).thm = s.thm := by
  obtain ⟨_, _, _, h⟩ := s.raise_eq p; rw [h]
@[simp] theorem raise_ser (s : Block) (p : Nat) : (s.raise p).ser = s.ser := by
  obtain ⟨_, _, _, h⟩ := s.raise_eq p; rw [h]
@[simp] theorem raise_camps (s : Block) (p : Nat) : (s.raise p).camps = s.camps := by
  obtain ⟨_, _, _, h⟩ := s.raise_eq p; rw [h]
@[simp] theorem raise_trig (s : Block) (p : Nat) : (s.raise p).trig = s.trig := by
  obtain ⟨_, _, _, h⟩ := s.raise_eq p; rw [h]
@[simp] theorem raise_time (s : Block) (p : Nat) : (s.raise p).time = s.time := by
  obtain ⟨_, _, _, h⟩ := s.raise_eq p; rw [h]
@[simp] theorem raise_ring (s : Block) (p : Nat) : (s.raise p).ring = s.ring := by
  obtain ⟨_, _, _, h⟩ := s.raise_eq p; rw [h]
@[simp] theorem raise_sense (s : Block) (p : Nat) : (s.raise p).sense = s.sense := by
  obtain ⟨_, _, _, h⟩ := s.raise_eq p; rw [h]
@[simp] theorem raise_web (s : Block) (p : Nat) : (s.raise p).web = s.web := by
  obtain ⟨_, _, _, h⟩ := s.raise_eq p; rw [h]
@[simp] theorem raise_ctxs (s : Block) (p : Nat) : (s.raise p).ctxs = s.ctxs := by
  obtain ⟨_, _, _, h⟩ := s.raise_eq p; rw [h]
@[simp] theorem raise_stitch (s : Block) (p : Nat) : (s.raise p).stitch = s.stitch := by
  obtain ⟨_, _, _, h⟩ := s.raise_eq p; rw [h]
@[simp] theorem raise_dmc (s : Block) (p : Nat) : (s.raise p).dmc = s.dmc := by
  obtain ⟨_, _, _, h⟩ := s.raise_eq p; rw [h]
@[simp] theorem raise_refs (s : Block) (p : Nat) : (s.raise p).refs = s.refs := by
  obtain ⟨_, _, _, h⟩ := s.raise_eq p; rw [h]
@[simp] theorem raise_tango (s : Block) (p : Nat) : (s.raise p).tango = s.tango := by
  obtain ⟨_, _, _, h⟩ := s.raise_eq p; rw [h]
@[simp] theorem raise_seg (s : Block) (p : Nat) : (s.raise p).seg = s.seg := by
  obtain ⟨_, _, _, h⟩ := s.raise_eq p; rw [h]
@[simp] theorem raise_axes (s : Block) (p : Nat) : (s.raise p).axes = s.axes := by
  obtain ⟨_, _, _, h⟩ := s.raise_eq p; rw [h]
@[simp] theorem raise_cal (s : Block) (p : Nat) : (s.raise p).cal = s.cal := by
  obtain ⟨_, _, _, h⟩ := s.raise_eq p; rw [h]
@[simp] theorem raise_out (s : Block) (p : Nat) : (s.raise p).out = s.out := by
  obtain ⟨_, _, _, h⟩ := s.raise_eq p; rw [h]

/-! ## flag -/

theorem flag_eq (s : Block) (u : UnitId) (f : Field) :
    ∃ re' er' ev', s.flag u f = { s with regs := re', errlog := er', evt := ev' } := by
  unfold flag
  split
  · exact ⟨_, _, _, rfl⟩
  · split
    · obtain ⟨r, e, v, h⟩ := (s.set u f 1).raise_eq ‹Nat›
      exact ⟨r, e, v, h⟩
    · exact ⟨_, _, _, rfl⟩

@[simp] theorem flag_freeCtr (s : Block) (u : UnitId) (f : Field) : (s.flag u f).freeCtr = s.freeCtr := by
  obtain ⟨_, _, _, h⟩ := s.flag_eq u f; rw [h]
@[simp] theorem flag_lt (s : Block) (u : UnitId) (f : Field) : (s.flag u f).lt = s.lt := by
  obtain ⟨_, _, _, h⟩ := s.flag_eq u f; rw [h]
@[simp] theorem flag_ltFrac (s : Block) (u : UnitId) (f : Field) : (s.flag u f).ltFrac = s.ltFrac := by
  obtain ⟨_, _, _, h⟩ := s.flag_eq u f; rw [h]
@[simp] theorem flag_devAddr (s : Block) (u : UnitId) (f : Field) : (s.flag u f).devAddr = s.devAddr := by
  obtain ⟨_, _, _, h⟩ := s.flag_eq u f; rw [h]
@[simp] theorem flag_staged (s : Block) (u : UnitId) (f : Field) : (s.flag u f).staged = s.staged := by
  obtain ⟨_, _, _, h⟩ := s.flag_eq u f; rw [h]
@[simp] theorem flag_commits (s : Block) (u : UnitId) (f : Field) : (s.flag u f).commits = s.commits := by
  obtain ⟨_, _, _, h⟩ := s.flag_eq u f; rw [h]
@[simp] theorem flag_sram (s : Block) (u : UnitId) (f : Field) : (s.flag u f).sram = s.sram := by
  obtain ⟨_, _, _, h⟩ := s.flag_eq u f; rw [h]
@[simp] theorem flag_boot (s : Block) (u : UnitId) (f : Field) : (s.flag u f).boot = s.boot := by
  obtain ⟨_, _, _, h⟩ := s.flag_eq u f; rw [h]
@[simp] theorem flag_fuses (s : Block) (u : UnitId) (f : Field) : (s.flag u f).fuses = s.fuses := by
  obtain ⟨_, _, _, h⟩ := s.flag_eq u f; rw [h]
@[simp] theorem flag_clk (s : Block) (u : UnitId) (f : Field) : (s.flag u f).clk = s.clk := by
  obtain ⟨_, _, _, h⟩ := s.flag_eq u f; rw [h]
@[simp] theorem flag_flash (s : Block) (u : UnitId) (f : Field) : (s.flag u f).flash = s.flash := by
  obtain ⟨_, _, _, h⟩ := s.flag_eq u f; rw [h]
@[simp] theorem flag_host (s : Block) (u : UnitId) (f : Field) : (s.flag u f).host = s.host := by
  obtain ⟨_, _, _, h⟩ := s.flag_eq u f; rw [h]
@[simp] theorem flag_dma (s : Block) (u : UnitId) (f : Field) : (s.flag u f).dma = s.dma := by
  obtain ⟨_, _, _, h⟩ := s.flag_eq u f; rw [h]
@[simp] theorem flag_mbx (s : Block) (u : UnitId) (f : Field) : (s.flag u f).mbx = s.mbx := by
  obtain ⟨_, _, _, h⟩ := s.flag_eq u f; rw [h]
@[simp] theorem flag_tag (s : Block) (u : UnitId) (f : Field) : (s.flag u f).tag = s.tag := by
  obtain ⟨_, _, _, h⟩ := s.flag_eq u f; rw [h]
@[simp] theorem flag_gov (s : Block) (u : UnitId) (f : Field) : (s.flag u f).gov = s.gov := by
  obtain ⟨_, _, _, h⟩ := s.flag_eq u f; rw [h]
@[simp] theorem flag_thm (s : Block) (u : UnitId) (f : Field) : (s.flag u f).thm = s.thm := by
  obtain ⟨_, _, _, h⟩ := s.flag_eq u f; rw [h]
@[simp] theorem flag_ser (s : Block) (u : UnitId) (f : Field) : (s.flag u f).ser = s.ser := by
  obtain ⟨_, _, _, h⟩ := s.flag_eq u f; rw [h]
@[simp] theorem flag_camps (s : Block) (u : UnitId) (f : Field) : (s.flag u f).camps = s.camps := by
  obtain ⟨_, _, _, h⟩ := s.flag_eq u f; rw [h]
@[simp] theorem flag_trig (s : Block) (u : UnitId) (f : Field) : (s.flag u f).trig = s.trig := by
  obtain ⟨_, _, _, h⟩ := s.flag_eq u f; rw [h]
@[simp] theorem flag_time (s : Block) (u : UnitId) (f : Field) : (s.flag u f).time = s.time := by
  obtain ⟨_, _, _, h⟩ := s.flag_eq u f; rw [h]
@[simp] theorem flag_ring (s : Block) (u : UnitId) (f : Field) : (s.flag u f).ring = s.ring := by
  obtain ⟨_, _, _, h⟩ := s.flag_eq u f; rw [h]
@[simp] theorem flag_sense (s : Block) (u : UnitId) (f : Field) : (s.flag u f).sense = s.sense := by
  obtain ⟨_, _, _, h⟩ := s.flag_eq u f; rw [h]
@[simp] theorem flag_web (s : Block) (u : UnitId) (f : Field) : (s.flag u f).web = s.web := by
  obtain ⟨_, _, _, h⟩ := s.flag_eq u f; rw [h]
@[simp] theorem flag_ctxs (s : Block) (u : UnitId) (f : Field) : (s.flag u f).ctxs = s.ctxs := by
  obtain ⟨_, _, _, h⟩ := s.flag_eq u f; rw [h]
@[simp] theorem flag_stitch (s : Block) (u : UnitId) (f : Field) : (s.flag u f).stitch = s.stitch := by
  obtain ⟨_, _, _, h⟩ := s.flag_eq u f; rw [h]
@[simp] theorem flag_dmc (s : Block) (u : UnitId) (f : Field) : (s.flag u f).dmc = s.dmc := by
  obtain ⟨_, _, _, h⟩ := s.flag_eq u f; rw [h]
@[simp] theorem flag_refs (s : Block) (u : UnitId) (f : Field) : (s.flag u f).refs = s.refs := by
  obtain ⟨_, _, _, h⟩ := s.flag_eq u f; rw [h]
@[simp] theorem flag_tango (s : Block) (u : UnitId) (f : Field) : (s.flag u f).tango = s.tango := by
  obtain ⟨_, _, _, h⟩ := s.flag_eq u f; rw [h]
@[simp] theorem flag_seg (s : Block) (u : UnitId) (f : Field) : (s.flag u f).seg = s.seg := by
  obtain ⟨_, _, _, h⟩ := s.flag_eq u f; rw [h]
@[simp] theorem flag_axes (s : Block) (u : UnitId) (f : Field) : (s.flag u f).axes = s.axes := by
  obtain ⟨_, _, _, h⟩ := s.flag_eq u f; rw [h]
@[simp] theorem flag_cal (s : Block) (u : UnitId) (f : Field) : (s.flag u f).cal = s.cal := by
  obtain ⟨_, _, _, h⟩ := s.flag_eq u f; rw [h]
@[simp] theorem flag_out (s : Block) (u : UnitId) (f : Field) : (s.flag u f).out = s.out := by
  obtain ⟨_, _, _, h⟩ := s.flag_eq u f; rw [h]

/-! ## flagRaise -/

theorem flagRaise_eq (s : Block) (u : UnitId) (f : Field) :
    ∃ re' er' ev', s.flagRaise u f = { s with regs := re', errlog := er', evt := ev' } := by
  unfold flagRaise
  split
  · obtain ⟨r, e, v, h⟩ := (s.set u f 1).raise_eq ‹Nat›
    exact ⟨r, e, v, h⟩
  · exact ⟨_, _, _, rfl⟩

@[simp] theorem flagRaise_freeCtr (s : Block) (u : UnitId) (f : Field) : (s.flagRaise u f).freeCtr = s.freeCtr := by
  obtain ⟨_, _, _, h⟩ := s.flagRaise_eq u f; rw [h]
@[simp] theorem flagRaise_lt (s : Block) (u : UnitId) (f : Field) : (s.flagRaise u f).lt = s.lt := by
  obtain ⟨_, _, _, h⟩ := s.flagRaise_eq u f; rw [h]
@[simp] theorem flagRaise_ltFrac (s : Block) (u : UnitId) (f : Field) : (s.flagRaise u f).ltFrac = s.ltFrac := by
  obtain ⟨_, _, _, h⟩ := s.flagRaise_eq u f; rw [h]
@[simp] theorem flagRaise_devAddr (s : Block) (u : UnitId) (f : Field) : (s.flagRaise u f).devAddr = s.devAddr := by
  obtain ⟨_, _, _, h⟩ := s.flagRaise_eq u f; rw [h]
@[simp] theorem flagRaise_staged (s : Block) (u : UnitId) (f : Field) : (s.flagRaise u f).staged = s.staged := by
  obtain ⟨_, _, _, h⟩ := s.flagRaise_eq u f; rw [h]
@[simp] theorem flagRaise_commits (s : Block) (u : UnitId) (f : Field) : (s.flagRaise u f).commits = s.commits := by
  obtain ⟨_, _, _, h⟩ := s.flagRaise_eq u f; rw [h]
@[simp] theorem flagRaise_sram (s : Block) (u : UnitId) (f : Field) : (s.flagRaise u f).sram = s.sram := by
  obtain ⟨_, _, _, h⟩ := s.flagRaise_eq u f; rw [h]
@[simp] theorem flagRaise_boot (s : Block) (u : UnitId) (f : Field) : (s.flagRaise u f).boot = s.boot := by
  obtain ⟨_, _, _, h⟩ := s.flagRaise_eq u f; rw [h]
@[simp] theorem flagRaise_fuses (s : Block) (u : UnitId) (f : Field) : (s.flagRaise u f).fuses = s.fuses := by
  obtain ⟨_, _, _, h⟩ := s.flagRaise_eq u f; rw [h]
@[simp] theorem flagRaise_clk (s : Block) (u : UnitId) (f : Field) : (s.flagRaise u f).clk = s.clk := by
  obtain ⟨_, _, _, h⟩ := s.flagRaise_eq u f; rw [h]
@[simp] theorem flagRaise_flash (s : Block) (u : UnitId) (f : Field) : (s.flagRaise u f).flash = s.flash := by
  obtain ⟨_, _, _, h⟩ := s.flagRaise_eq u f; rw [h]
@[simp] theorem flagRaise_host (s : Block) (u : UnitId) (f : Field) : (s.flagRaise u f).host = s.host := by
  obtain ⟨_, _, _, h⟩ := s.flagRaise_eq u f; rw [h]
@[simp] theorem flagRaise_dma (s : Block) (u : UnitId) (f : Field) : (s.flagRaise u f).dma = s.dma := by
  obtain ⟨_, _, _, h⟩ := s.flagRaise_eq u f; rw [h]
@[simp] theorem flagRaise_mbx (s : Block) (u : UnitId) (f : Field) : (s.flagRaise u f).mbx = s.mbx := by
  obtain ⟨_, _, _, h⟩ := s.flagRaise_eq u f; rw [h]
@[simp] theorem flagRaise_tag (s : Block) (u : UnitId) (f : Field) : (s.flagRaise u f).tag = s.tag := by
  obtain ⟨_, _, _, h⟩ := s.flagRaise_eq u f; rw [h]
@[simp] theorem flagRaise_gov (s : Block) (u : UnitId) (f : Field) : (s.flagRaise u f).gov = s.gov := by
  obtain ⟨_, _, _, h⟩ := s.flagRaise_eq u f; rw [h]
@[simp] theorem flagRaise_thm (s : Block) (u : UnitId) (f : Field) : (s.flagRaise u f).thm = s.thm := by
  obtain ⟨_, _, _, h⟩ := s.flagRaise_eq u f; rw [h]
@[simp] theorem flagRaise_ser (s : Block) (u : UnitId) (f : Field) : (s.flagRaise u f).ser = s.ser := by
  obtain ⟨_, _, _, h⟩ := s.flagRaise_eq u f; rw [h]
@[simp] theorem flagRaise_camps (s : Block) (u : UnitId) (f : Field) : (s.flagRaise u f).camps = s.camps := by
  obtain ⟨_, _, _, h⟩ := s.flagRaise_eq u f; rw [h]
@[simp] theorem flagRaise_trig (s : Block) (u : UnitId) (f : Field) : (s.flagRaise u f).trig = s.trig := by
  obtain ⟨_, _, _, h⟩ := s.flagRaise_eq u f; rw [h]
@[simp] theorem flagRaise_time (s : Block) (u : UnitId) (f : Field) : (s.flagRaise u f).time = s.time := by
  obtain ⟨_, _, _, h⟩ := s.flagRaise_eq u f; rw [h]
@[simp] theorem flagRaise_ring (s : Block) (u : UnitId) (f : Field) : (s.flagRaise u f).ring = s.ring := by
  obtain ⟨_, _, _, h⟩ := s.flagRaise_eq u f; rw [h]
@[simp] theorem flagRaise_sense (s : Block) (u : UnitId) (f : Field) : (s.flagRaise u f).sense = s.sense := by
  obtain ⟨_, _, _, h⟩ := s.flagRaise_eq u f; rw [h]
@[simp] theorem flagRaise_web (s : Block) (u : UnitId) (f : Field) : (s.flagRaise u f).web = s.web := by
  obtain ⟨_, _, _, h⟩ := s.flagRaise_eq u f; rw [h]
@[simp] theorem flagRaise_ctxs (s : Block) (u : UnitId) (f : Field) : (s.flagRaise u f).ctxs = s.ctxs := by
  obtain ⟨_, _, _, h⟩ := s.flagRaise_eq u f; rw [h]
@[simp] theorem flagRaise_stitch (s : Block) (u : UnitId) (f : Field) : (s.flagRaise u f).stitch = s.stitch := by
  obtain ⟨_, _, _, h⟩ := s.flagRaise_eq u f; rw [h]
@[simp] theorem flagRaise_dmc (s : Block) (u : UnitId) (f : Field) : (s.flagRaise u f).dmc = s.dmc := by
  obtain ⟨_, _, _, h⟩ := s.flagRaise_eq u f; rw [h]
@[simp] theorem flagRaise_refs (s : Block) (u : UnitId) (f : Field) : (s.flagRaise u f).refs = s.refs := by
  obtain ⟨_, _, _, h⟩ := s.flagRaise_eq u f; rw [h]
@[simp] theorem flagRaise_tango (s : Block) (u : UnitId) (f : Field) : (s.flagRaise u f).tango = s.tango := by
  obtain ⟨_, _, _, h⟩ := s.flagRaise_eq u f; rw [h]
@[simp] theorem flagRaise_seg (s : Block) (u : UnitId) (f : Field) : (s.flagRaise u f).seg = s.seg := by
  obtain ⟨_, _, _, h⟩ := s.flagRaise_eq u f; rw [h]
@[simp] theorem flagRaise_axes (s : Block) (u : UnitId) (f : Field) : (s.flagRaise u f).axes = s.axes := by
  obtain ⟨_, _, _, h⟩ := s.flagRaise_eq u f; rw [h]
@[simp] theorem flagRaise_cal (s : Block) (u : UnitId) (f : Field) : (s.flagRaise u f).cal = s.cal := by
  obtain ⟨_, _, _, h⟩ := s.flagRaise_eq u f; rw [h]
@[simp] theorem flagRaise_out (s : Block) (u : UnitId) (f : Field) : (s.flagRaise u f).out = s.out := by
  obtain ⟨_, _, _, h⟩ := s.flagRaise_eq u f; rw [h]

/-! ## hostIrq -/

theorem hostIrq_eq (s : Block) (f : Field) :
    ∃ re' ho' ou', s.hostIrq f = { s with regs := re', host := ho', out := ou' } := by
  unfold hostIrq
  dsimp only
  split
  · exact ⟨_, _, _, rfl⟩
  · obtain ⟨h, o, e⟩ := (s.set uHost f 1).msix_eq 0
    exact ⟨_, h, o, e⟩

@[simp] theorem hostIrq_freeCtr (s : Block) (f : Field) : (s.hostIrq f).freeCtr = s.freeCtr := by
  obtain ⟨_, _, _, h⟩ := s.hostIrq_eq f; rw [h]
@[simp] theorem hostIrq_lt (s : Block) (f : Field) : (s.hostIrq f).lt = s.lt := by
  obtain ⟨_, _, _, h⟩ := s.hostIrq_eq f; rw [h]
@[simp] theorem hostIrq_ltFrac (s : Block) (f : Field) : (s.hostIrq f).ltFrac = s.ltFrac := by
  obtain ⟨_, _, _, h⟩ := s.hostIrq_eq f; rw [h]
@[simp] theorem hostIrq_devAddr (s : Block) (f : Field) : (s.hostIrq f).devAddr = s.devAddr := by
  obtain ⟨_, _, _, h⟩ := s.hostIrq_eq f; rw [h]
@[simp] theorem hostIrq_staged (s : Block) (f : Field) : (s.hostIrq f).staged = s.staged := by
  obtain ⟨_, _, _, h⟩ := s.hostIrq_eq f; rw [h]
@[simp] theorem hostIrq_commits (s : Block) (f : Field) : (s.hostIrq f).commits = s.commits := by
  obtain ⟨_, _, _, h⟩ := s.hostIrq_eq f; rw [h]
@[simp] theorem hostIrq_sram (s : Block) (f : Field) : (s.hostIrq f).sram = s.sram := by
  obtain ⟨_, _, _, h⟩ := s.hostIrq_eq f; rw [h]
@[simp] theorem hostIrq_errlog (s : Block) (f : Field) : (s.hostIrq f).errlog = s.errlog := by
  obtain ⟨_, _, _, h⟩ := s.hostIrq_eq f; rw [h]
@[simp] theorem hostIrq_evt (s : Block) (f : Field) : (s.hostIrq f).evt = s.evt := by
  obtain ⟨_, _, _, h⟩ := s.hostIrq_eq f; rw [h]
@[simp] theorem hostIrq_boot (s : Block) (f : Field) : (s.hostIrq f).boot = s.boot := by
  obtain ⟨_, _, _, h⟩ := s.hostIrq_eq f; rw [h]
@[simp] theorem hostIrq_fuses (s : Block) (f : Field) : (s.hostIrq f).fuses = s.fuses := by
  obtain ⟨_, _, _, h⟩ := s.hostIrq_eq f; rw [h]
@[simp] theorem hostIrq_clk (s : Block) (f : Field) : (s.hostIrq f).clk = s.clk := by
  obtain ⟨_, _, _, h⟩ := s.hostIrq_eq f; rw [h]
@[simp] theorem hostIrq_flash (s : Block) (f : Field) : (s.hostIrq f).flash = s.flash := by
  obtain ⟨_, _, _, h⟩ := s.hostIrq_eq f; rw [h]
@[simp] theorem hostIrq_dma (s : Block) (f : Field) : (s.hostIrq f).dma = s.dma := by
  obtain ⟨_, _, _, h⟩ := s.hostIrq_eq f; rw [h]
@[simp] theorem hostIrq_mbx (s : Block) (f : Field) : (s.hostIrq f).mbx = s.mbx := by
  obtain ⟨_, _, _, h⟩ := s.hostIrq_eq f; rw [h]
@[simp] theorem hostIrq_tag (s : Block) (f : Field) : (s.hostIrq f).tag = s.tag := by
  obtain ⟨_, _, _, h⟩ := s.hostIrq_eq f; rw [h]
@[simp] theorem hostIrq_gov (s : Block) (f : Field) : (s.hostIrq f).gov = s.gov := by
  obtain ⟨_, _, _, h⟩ := s.hostIrq_eq f; rw [h]
@[simp] theorem hostIrq_thm (s : Block) (f : Field) : (s.hostIrq f).thm = s.thm := by
  obtain ⟨_, _, _, h⟩ := s.hostIrq_eq f; rw [h]
@[simp] theorem hostIrq_ser (s : Block) (f : Field) : (s.hostIrq f).ser = s.ser := by
  obtain ⟨_, _, _, h⟩ := s.hostIrq_eq f; rw [h]
@[simp] theorem hostIrq_camps (s : Block) (f : Field) : (s.hostIrq f).camps = s.camps := by
  obtain ⟨_, _, _, h⟩ := s.hostIrq_eq f; rw [h]
@[simp] theorem hostIrq_trig (s : Block) (f : Field) : (s.hostIrq f).trig = s.trig := by
  obtain ⟨_, _, _, h⟩ := s.hostIrq_eq f; rw [h]
@[simp] theorem hostIrq_time (s : Block) (f : Field) : (s.hostIrq f).time = s.time := by
  obtain ⟨_, _, _, h⟩ := s.hostIrq_eq f; rw [h]
@[simp] theorem hostIrq_ring (s : Block) (f : Field) : (s.hostIrq f).ring = s.ring := by
  obtain ⟨_, _, _, h⟩ := s.hostIrq_eq f; rw [h]
@[simp] theorem hostIrq_sense (s : Block) (f : Field) : (s.hostIrq f).sense = s.sense := by
  obtain ⟨_, _, _, h⟩ := s.hostIrq_eq f; rw [h]
@[simp] theorem hostIrq_web (s : Block) (f : Field) : (s.hostIrq f).web = s.web := by
  obtain ⟨_, _, _, h⟩ := s.hostIrq_eq f; rw [h]
@[simp] theorem hostIrq_ctxs (s : Block) (f : Field) : (s.hostIrq f).ctxs = s.ctxs := by
  obtain ⟨_, _, _, h⟩ := s.hostIrq_eq f; rw [h]
@[simp] theorem hostIrq_stitch (s : Block) (f : Field) : (s.hostIrq f).stitch = s.stitch := by
  obtain ⟨_, _, _, h⟩ := s.hostIrq_eq f; rw [h]
@[simp] theorem hostIrq_dmc (s : Block) (f : Field) : (s.hostIrq f).dmc = s.dmc := by
  obtain ⟨_, _, _, h⟩ := s.hostIrq_eq f; rw [h]
@[simp] theorem hostIrq_refs (s : Block) (f : Field) : (s.hostIrq f).refs = s.refs := by
  obtain ⟨_, _, _, h⟩ := s.hostIrq_eq f; rw [h]
@[simp] theorem hostIrq_tango (s : Block) (f : Field) : (s.hostIrq f).tango = s.tango := by
  obtain ⟨_, _, _, h⟩ := s.hostIrq_eq f; rw [h]
@[simp] theorem hostIrq_seg (s : Block) (f : Field) : (s.hostIrq f).seg = s.seg := by
  obtain ⟨_, _, _, h⟩ := s.hostIrq_eq f; rw [h]
@[simp] theorem hostIrq_axes (s : Block) (f : Field) : (s.hostIrq f).axes = s.axes := by
  obtain ⟨_, _, _, h⟩ := s.hostIrq_eq f; rw [h]
@[simp] theorem hostIrq_cal (s : Block) (f : Field) : (s.hostIrq f).cal = s.cal := by
  obtain ⟨_, _, _, h⟩ := s.hostIrq_eq f; rw [h]

end Sys2Proof.Machine.Block
end

