-- ==== Sys2Proof/Laws/Store.lean ====
section
/-! SUPPORT. Laws of the sparse memories: read after write, the canonical form and what keeps it. -/

namespace Sys2Proof.Machine

section Drop
variable {α : Type} {d : Nat → α}

theorem storeDrop_cons (p : Nat → Bool) (e : Nat × α) (r : List (Nat × α)) :
    storeDrop p (e :: r) = if p e.1 then storeDrop p r else e :: storeDrop p r := by
  unfold storeDrop
  by_cases h : p e.1 <;> simp [h]

/-- A dropped address reads as an unlisted one. -/
theorem storeRead_storeDrop_of {p : Nat → Bool} {a : Nat} (h : p a = true) :
    ∀ m : List (Nat × α), storeRead d (storeDrop p m) a = d a
  | [] => rfl
  | (k, v) :: r => by
    rw [storeDrop_cons]
    split
    · exact storeRead_storeDrop_of h r
    · next hk =>
      have : a ≠ k := fun e => hk (e ▸ h)
      simp [storeRead, this, storeRead_storeDrop_of h r]

/-- Every other address reads as before. -/
theorem storeRead_storeDrop_not {p : Nat → Bool} {a : Nat} (h : p a = false) :
    ∀ m : List (Nat × α), storeRead d (storeDrop p m) a = storeRead d m a
  | [] => rfl
  | (k, v) :: r => by
    rw [storeDrop_cons]
    split
    · next hk =>
      have : a ≠ k := fun e => by simp [← e, h] at hk
      simp [storeRead, this, storeRead_storeDrop_not h r]
    · simp [storeRead, storeRead_storeDrop_not h r]

theorem storeRead_append {a : Nat} {l : List (Nat × α)} (h : ∀ e ∈ l, e.1 ≠ a) (m : List (Nat × α)) :
    storeRead d (l ++ m) a = storeRead d m a := by
  induction l with
  | nil => rfl
  | cons e r ih =>
    have he := h e (by simp)
    simp [storeRead, Ne.symm he, ih fun e' h' => h e' (by simp [h'])]

end Drop

variable {α : Type} [DecidableEq α] {d : Nat → α}

/-- Reading back what was written. -/
@[simp] theorem storeRead_storeWrite_same (a : Nat) (v : α) :
    ∀ m : List (Nat × α), storeRead d (storeWrite d m a v) a = v
  | [] => by
    unfold storeWrite
    split <;> simp [storeRead, *]
  | (k, w) :: r => by
    unfold storeWrite
    split
    · next h => simp [storeRead, Nat.ne_of_gt h, storeRead_storeWrite_same a v r]
    · dsimp only
      split
      · next hv => rw [storeRead_storeDrop_of (by simp), hv]
      · simp [storeRead]

/-- A write leaves every other address as it was. -/
theorem storeRead_storeWrite_ne {a b : Nat} (hab : b ≠ a) (v : α) :
    ∀ m : List (Nat × α), storeRead d (storeWrite d m a v) b = storeRead d m b
  | [] => by
    unfold storeWrite
    split <;> simp [storeRead, hab]
  | (k, w) :: r => by
    unfold storeWrite
    split
    · simp only [storeRead, storeRead_storeWrite_ne hab v r]
    · have hr : storeRead d (if a = k then r else (k, w) :: r) b = storeRead d ((k, w) :: r) b := by
        split
        · next he => simp [storeRead, ← he, hab]
        · rfl
      dsimp only
      split
      · rw [storeRead_storeDrop_not (by simpa using hab), hr]
      · rw [storeRead, if_neg hab, hr]

/-! ## The canonical form -/

theorem storeWfFrom_mono {n k : Nat} (h : n ≤ k) :
    ∀ {m : List (Nat × α)}, storeWfFrom d k m = true → storeWfFrom d n m = true
  | [], _ => rfl
  | (a, v) :: r, hw => by
    simp only [storeWfFrom, Bool.and_eq_true, decide_eq_true_eq] at hw ⊢
    exact ⟨⟨h.trans hw.1.1, hw.1.2⟩, hw.2⟩

/-- The canonical form again, with the list split in two. -/
theorem storeWfFrom_append {k : Nat} {m' : List (Nat × α)} (hw' : storeWfFrom d k m' = true) :
    ∀ {m : List (Nat × α)} {n : Nat}, n ≤ k → storeWfFrom d n m = true → (∀ e ∈ m, e.1 < k) →
      storeWfFrom d n (m ++ m') = true
  | [], _, hn, _, _ => storeWfFrom_mono hn hw'
  | (a, v) :: r, n, _, hw, h => by
    simp only [storeWfFrom, Bool.and_eq_true, decide_eq_true_eq, List.cons_append] at hw ⊢
    exact ⟨hw.1, storeWfFrom_append hw' (h (a, v) (by simp)) hw.2 fun e he => h e (by simp [he])⟩

theorem storeWfFrom_filter (p : Nat × α → Bool) :
    ∀ {m : List (Nat × α)} {n : Nat}, storeWfFrom d n m = true → storeWfFrom d n (m.filter p) = true
  | [], _, _ => rfl
  | (k, v) :: r, n, hw => by
    simp only [storeWfFrom, Bool.and_eq_true, decide_eq_true_eq] at hw
    rw [List.filter_cons]
    split
    · simp only [storeWfFrom, Bool.and_eq_true, decide_eq_true_eq]
      exact ⟨hw.1, storeWfFrom_filter p hw.2⟩
    · exact storeWfFrom_mono (Nat.le_succ_of_le hw.1.1) (storeWfFrom_filter p hw.2)

/-- Dropping entries keeps the canonical form. -/
theorem storeWf_storeDrop {m : List (Nat × α)} (p : Nat → Bool) (h : storeWf d m = true) :
    storeWf d (storeDrop p m) = true := storeWfFrom_filter _ h

theorem storeWfFrom_storeWrite (a : Nat) (v : α) :
    ∀ {m : List (Nat × α)} {n : Nat}, n ≤ a → storeWfFrom d n m = true → storeWfFrom d n (storeWrite d m a v) = true
  | [], n, ha, _ => by
    unfold storeWrite
    split
    · rfl
    · next h => simp [storeWfFrom, ha, h]
  | (k, w) :: r, n, ha, hw => by
    simp only [storeWfFrom, Bool.and_eq_true, decide_eq_true_eq] at hw
    unfold storeWrite
    split
    · next h =>
      simp only [storeWfFrom, Bool.and_eq_true, decide_eq_true_eq]
      exact ⟨hw.1, storeWfFrom_storeWrite a v (Nat.succ_le_of_lt h) hw.2⟩
    · next h =>
      have hr : storeWfFrom d (a + 1) (if a = k then r else (k, w) :: r) = true := by
        split
        · next he => exact he ▸ hw.2
        · next he =>
          simp only [storeWfFrom, Bool.and_eq_true, decide_eq_true_eq]
          exact ⟨⟨by omega, hw.1.2⟩, hw.2⟩
      dsimp only
      split
      · exact storeWfFrom_mono (by omega) (storeWfFrom_filter _ hr)
      · next hv => simp [storeWfFrom, ha, hv, hr]

/-- A write keeps the canonical form. -/
theorem storeWf_storeWrite {m : List (Nat × α)} (h : storeWf d m = true) (a : Nat) (v : α) :
    storeWf d (storeWrite d m a v) = true := storeWfFrom_storeWrite a v (Nat.zero_le a) h

theorem storeWf_nil : storeWf d ([] : List (Nat × α)) = true := rfl

/-- Several writes keep the canonical form. -/
theorem storeWf_storeWriteN : ∀ (l : List α) {m : List (Nat × α)} (a : Nat),
    storeWf d m = true → storeWf d (storeWriteN d m a l) = true
  | [], _, _, h => h
  | v :: r, _, a, h => storeWf_storeWriteN r (a + 1) (storeWf_storeWrite h a v)

theorem storeWfFrom_ge {k : Nat} : ∀ {m : List (Nat × α)} {n : Nat}, storeWfFrom d n m = true →
    (∀ e ∈ m, k ≤ e.1) → storeWfFrom d k m = true
  | [], _, _, _ => rfl
  | (a, v) :: r, _, hw, h => by
    simp only [storeWfFrom, Bool.and_eq_true, decide_eq_true_eq] at hw ⊢
    exact ⟨⟨h (a, v) (by simp), hw.1.2⟩, hw.2⟩

theorem storeWfFrom_fresh : ∀ (l : List α) (a i : Nat),
    storeWfFrom d (a + i) ((((List.range' i l.length).map (a + ·)).zip l).filter fun e => decide (e.2 ≠ d e.1)) = true
  | [], _, _ => rfl
  | v :: r, a, i => by
    have ih := storeWfFrom_fresh r a (i + 1)
    simp only [List.length_cons, List.range'_succ, List.map_cons, List.zip_cons_cons, List.filter_cons]
    split
    · next h => simpa [storeWfFrom, Nat.add_assoc] using ⟨by simpa using h, by simpa [Nat.add_assoc] using ih⟩
    · exact storeWfFrom_mono (by omega) ih

/-- Putting a list over a range keeps the canonical form. -/
theorem storeWf_storePut {m : List (Nat × α)} (h : storeWf d m = true) (a : Nat) (l : List α) :
    storeWf d (storePut d m a l) = true := by
  unfold storePut
  have h1 := storeWfFrom_ge (k := a + l.length) (storeWfFrom_filter (fun e => decide (a + l.length ≤ e.1)) h)
    (by intro e he; simpa using (List.mem_filter.1 he).2)
  have h2 := storeWfFrom_fresh (d := d) l a 0
  rw [← List.range_eq_range'] at h2
  have h3 : storeWfFrom d 0 (m.filter fun e => decide (e.1 < a)) = true := storeWfFrom_filter _ h
  have h4 := storeWfFrom_append h1 (n := a) (by omega) (by simpa using h2) (by
    intro e he
    have := List.mem_filter.1 he
    obtain ⟨i, hi, hie⟩ := List.mem_map.1 (List.of_mem_zip (a := e.1) (b := e.2) this.1).1
    have := List.mem_range.1 hi
    omega)
  have h5 := storeWfFrom_append h4 (n := 0) (Nat.zero_le a) h3 (by
    intro e he; simpa using (List.mem_filter.1 he).2)
  simpa [storeWf, List.append_assoc] using h5

/-- Two canonical memories that read alike everywhere are equal. -/
theorem store_ext : ∀ {m m' : List (Nat × α)} {n : Nat}, storeWfFrom d n m = true → storeWfFrom d n m' = true →
    (∀ a, n ≤ a → storeRead d m a = storeRead d m' a) → m = m'
  | [], [], _, _, _, _ => rfl
  | [], (k, v) :: r, n, _, hw, h => by
    simp only [storeWfFrom, Bool.and_eq_true, decide_eq_true_eq] at hw
    have := h k hw.1.1
    simp only [storeRead, if_true] at this
    exact absurd this.symm hw.1.2
  | (k, v) :: r, [], n, hw, _, h => by
    simp only [storeWfFrom, Bool.and_eq_true, decide_eq_true_eq] at hw
    have := h k hw.1.1
    simp only [storeRead, if_true] at this
    exact absurd this hw.1.2
  | (k, v) :: r, (k', v') :: r', n, hw, hw', h => by
    have below : ∀ {m : List (Nat × α)} {n a : Nat}, a < n → storeWfFrom d n m = true → storeRead d m a = d a := by
      intro m
      induction m with
      | nil => intros; rfl
      | cons e r ih =>
        intro n a ha hw
        simp only [storeWfFrom, Bool.and_eq_true, decide_eq_true_eq] at hw
        rw [storeRead, if_neg (by omega)]
        exact ih (n := e.1 + 1) (by omega) hw.2
    simp only [storeWfFrom, Bool.and_eq_true, decide_eq_true_eq] at hw hw'
    rcases Nat.lt_trichotomy k k' with hk | hk | hk
    · have := h k hw.1.1
      rw [storeRead, if_pos rfl, storeRead, if_neg (by omega), below (n := k' + 1) (by omega) hw'.2] at this
      exact absurd this hw.1.2
    · subst hk
      have hv := h k hw.1.1
      rw [storeRead, if_pos rfl, storeRead, if_pos rfl] at hv
      have := store_ext hw.2 hw'.2 fun a ha => by
        have := h a (by omega)
        rwa [storeRead, if_neg (by omega), storeRead, if_neg (by omega)] at this
      rw [hv, this]
    · have := h k' hw'.1.1
      rw [storeRead, if_neg (by omega), below (n := k + 1) (by omega) hw.2, storeRead, if_pos rfl] at this
      exact absurd this.symm hw'.1.2

end Sys2Proof.Machine
end

