-- ==== Sys2Proof/Laws/Regs.lean ====
section
/-! SUPPORT. Laws of bit fields and of the register file: reading a field after a register or a field was written. -/

namespace Sys2Proof.Machine

/-! ## Bit fields -/

theorem bits_lt (v hi lo : Nat) : bits v hi lo < 2 ^ (hi + 1 - lo) := Nat.mod_lt _ (by positivity)

theorem bits_eq_of_lt {v lo n : Nat} (h : v < 2 ^ n) : bits (v * 2 ^ lo) (lo + n - 1) lo = v := by
  unfold bits
  rw [Nat.mul_div_cancel _ (by positivity)]
  apply Nat.mod_eq_of_lt
  have : n ≤ lo + n - 1 + 1 - lo := by omega
  exact h.trans_le (Nat.pow_le_pow_right (by norm_num) this)

/-- `putBits` splits a word in three: what lies below the field, the field, what lies above. -/
theorem putBits_eq (v hi lo x : Nat) (h : lo ≤ hi + 1) :
    putBits v hi lo x = v % 2 ^ lo + (x % 2 ^ (hi + 1 - lo)) * 2 ^ lo + v / 2 ^ (hi + 1) * 2 ^ (hi + 1) := by
  unfold putBits bits
  have hp : (2 : Nat) ^ (hi + 1) = 2 ^ lo * 2 ^ (hi + 1 - lo) := by rw [← pow_add]; congr 1; omega
  have h1 := Nat.mod_add_div v (2 ^ lo)
  have h2 := Nat.mod_add_div (v / 2 ^ lo) (2 ^ (hi + 1 - lo))
  have h3 : v / 2 ^ (hi + 1) = v / 2 ^ lo / 2 ^ (hi + 1 - lo) := by rw [hp, Nat.div_div_eq_div_mul]
  rw [h3, hp]
  set q := v / 2 ^ lo with hq
  set c := q / 2 ^ (hi + 1 - lo) with hc
  set b := q % 2 ^ (hi + 1 - lo) with hb
  have h4 : v = v % 2 ^ lo + b * 2 ^ lo + c * (2 ^ lo * 2 ^ (hi + 1 - lo)) := by
    calc v = v % 2 ^ lo + 2 ^ lo * q := h1.symm
      _ = v % 2 ^ lo + 2 ^ lo * (b + 2 ^ (hi + 1 - lo) * c) := by rw [h2]
      _ = _ := by ring
  omega

/-- The field reads as what was put. -/
theorem bits_putBits_same (v hi lo x : Nat) (h : lo ≤ hi + 1) :
    bits (putBits v hi lo x) hi lo = x % 2 ^ (hi + 1 - lo) := by
  rw [putBits_eq v hi lo x h]
  unfold bits
  have hp : (2 : Nat) ^ (hi + 1) = 2 ^ lo * 2 ^ (hi + 1 - lo) := by rw [← pow_add]; congr 1; omega
  rw [hp]
  have e : v % 2 ^ lo + x % 2 ^ (hi + 1 - lo) * 2 ^ lo + v / (2 ^ lo * 2 ^ (hi + 1 - lo)) * (2 ^ lo * 2 ^ (hi + 1 - lo)) =
      v % 2 ^ lo + 2 ^ lo * (x % 2 ^ (hi + 1 - lo) + 2 ^ (hi + 1 - lo) * (v / (2 ^ lo * 2 ^ (hi + 1 - lo)))) := by ring
  rw [e, Nat.add_mul_div_left _ _ (by positivity), Nat.div_eq_of_lt (Nat.mod_lt _ (by positivity)), Nat.zero_add,
    Nat.add_mul_mod_self_left, Nat.mod_mod]

/-- A field above the one written reads as before. -/
theorem bits_putBits_above (v hi lo x hi' lo' : Nat) (h : lo ≤ hi + 1) (hd : hi < lo') :
    bits (putBits v hi lo x) hi' lo' = bits v hi' lo' := by
  rw [putBits_eq v hi lo x h]
  unfold bits
  congr 1
  have hp : (2 : Nat) ^ lo' = 2 ^ (hi + 1) * 2 ^ (lo' - (hi + 1)) := by rw [← pow_add]; congr 1; omega
  have hb : v % 2 ^ lo + x % 2 ^ (hi + 1 - lo) * 2 ^ lo < 2 ^ (hi + 1) := by
    have h1 : v % 2 ^ lo < 2 ^ lo := Nat.mod_lt _ (by positivity)
    have h2 : x % 2 ^ (hi + 1 - lo) < 2 ^ (hi + 1 - lo) := Nat.mod_lt _ (by positivity)
    have hp' : (2 : Nat) ^ (hi + 1) = 2 ^ (hi + 1 - lo) * 2 ^ lo := by rw [← pow_add]; congr 1; omega
    rw [hp']
    calc _ < 2 ^ lo + x % 2 ^ (hi + 1 - lo) * 2 ^ lo := by omega
      _ = (x % 2 ^ (hi + 1 - lo) + 1) * 2 ^ lo := by ring
      _ ≤ _ := Nat.mul_le_mul_right _ h2
  rw [hp, ← Nat.div_div_eq_div_mul, ← Nat.div_div_eq_div_mul, Nat.add_mul_div_right _ _ (by positivity),
    Nat.div_eq_of_lt hb, Nat.zero_add]

/-- A field below the one written reads as before. -/
theorem bits_putBits_below (v hi lo x hi' lo' : Nat) (h : lo ≤ hi + 1) (hd : hi' < lo) :
    bits (putBits v hi lo x) hi' lo' = bits v hi' lo' := by
  rcases Nat.lt_or_ge hi' lo' with hz | hz
  · have : hi' + 1 - lo' = 0 := by omega
    simp [bits, this, Nat.mod_one]
  rw [putBits_eq v hi lo x h]
  unfold bits
  have e1 : (2 : Nat) ^ lo = 2 ^ lo' * 2 ^ (lo - lo') := by rw [← pow_add]; congr 1; omega
  have e2 : (2 : Nat) ^ (hi + 1) = 2 ^ lo * 2 ^ (hi + 1 - lo) := by rw [← pow_add]; congr 1; omega
  have e3 : (2 : Nat) ^ (lo - lo') = 2 ^ (hi' + 1 - lo') * 2 ^ (lo - (hi' + 1)) := by
    rw [← pow_add]; congr 1; omega
  have e4 : v % 2 ^ lo + x % 2 ^ (hi + 1 - lo) * 2 ^ lo + v / 2 ^ (hi + 1) * 2 ^ (hi + 1) =
      v % 2 ^ lo + 2 ^ lo' * (2 ^ (lo - lo') * (x % 2 ^ (hi + 1 - lo) + v / 2 ^ (hi + 1) * 2 ^ (hi + 1 - lo))) := by
    rw [e2, e1]; ring
  rw [e4, Nat.add_mul_div_left _ _ (by positivity)]
  have e5 : v / 2 ^ lo' % 2 ^ (hi' + 1 - lo') = v % 2 ^ lo / 2 ^ lo' % 2 ^ (hi' + 1 - lo') := by
    conv_lhs => rw [← Nat.mod_add_div v (2 ^ lo)]
    rw [show 2 ^ lo * (v / 2 ^ lo) = 2 ^ lo' * (2 ^ (lo - lo') * (v / 2 ^ lo)) by rw [e1]; ring,
      Nat.add_mul_div_left _ _ (by positivity), e3, Nat.mul_assoc, Nat.add_mul_mod_self_left]
  rw [e5, e3, Nat.mul_assoc, Nat.add_mul_mod_self_left]

theorem putBits_lt {v hi lo x n : Nat} (h : lo ≤ hi + 1) (hn : hi < n) (hv : v < 2 ^ n) : putBits v hi lo x < 2 ^ n := by
  rw [putBits_eq v hi lo x h]
  have hp : (2 : Nat) ^ n = 2 ^ (hi + 1) * 2 ^ (n - (hi + 1)) := by rw [← pow_add]; congr 1; omega
  have h1 : v % 2 ^ lo < 2 ^ lo := Nat.mod_lt _ (by positivity)
  have h2 : x % 2 ^ (hi + 1 - lo) < 2 ^ (hi + 1 - lo) := Nat.mod_lt _ (by positivity)
  have hp' : (2 : Nat) ^ (hi + 1) = 2 ^ (hi + 1 - lo) * 2 ^ lo := by rw [← pow_add]; congr 1; omega
  have h3 : v % 2 ^ lo + x % 2 ^ (hi + 1 - lo) * 2 ^ lo < 2 ^ (hi + 1) := by
    rw [hp']
    calc _ < 2 ^ lo + x % 2 ^ (hi + 1 - lo) * 2 ^ lo := by omega
      _ = (x % 2 ^ (hi + 1 - lo) + 1) * 2 ^ lo := by ring
      _ ≤ _ := Nat.mul_le_mul_right _ h2
  have h4 : v / 2 ^ (hi + 1) < 2 ^ (n - (hi + 1)) := by
    apply Nat.div_lt_of_lt_mul; rwa [← hp]
  calc _ < 2 ^ (hi + 1) + v / 2 ^ (hi + 1) * 2 ^ (hi + 1) := by omega
    _ = 2 ^ (hi + 1) * (v / 2 ^ (hi + 1) + 1) := by ring
    _ ≤ 2 ^ (hi + 1) * 2 ^ (n - (hi + 1)) := Nat.mul_le_mul_left _ h4
    _ = 2 ^ n := hp.symm

/-! ## Registers -/

namespace Block

theorem rd_lt (s : Block) (u : UnitId) (off : Nat) : s.rd u off < 2 ^ 32 := (storeRead resetOfKey s.regs (regKey u off)).isLt

/-- A register reads as what was written, 32 bits of it. -/
theorem rd_wr_same (s : Block) (u : UnitId) (off v : Nat) : (s.wr u off v).rd u off = v % 2 ^ 32 := by
  simp [rd, wr]

/-- Writing a register leaves every other as it was. -/
theorem rd_wr_ne (s : Block) {u u' : UnitId} {off off' : Nat} (h : regKey u' off' ≠ regKey u off) (v : Nat) :
    (s.wr u off v).rd u' off' = s.rd u' off' := by
  simp [rd, wr, storeRead_storeWrite_ne h]

theorem rd_setI_ne (s : Block) {u u' : UnitId} {f : Field} {i off' : Nat} (h : regKey u' off' ≠ regKey u (f.at i)) (v : Nat) :
    (s.setI u f i v).rd u' off' = s.rd u' off' := rd_wr_ne s h _

theorem getI_lt (s : Block) (u : UnitId) (f : Field) (i : Nat) : s.getI u f i < 2 ^ f.width := bits_lt _ _ _

/-- A field reads as what it was set to, wrapped at its width. -/
theorem getI_setI_same (s : Block) (u : UnitId) (f : Field) (i v : Nat) (h : f.lo ≤ f.hi ∧ f.hi < 32) :
    (s.setI u f i v).getI u f i = v % 2 ^ f.width := by
  have hl := putBits_lt (x := v) (show f.lo ≤ f.hi + 1 by omega) h.2 (s.rd_lt u (f.at i))
  rw [getI, setI, rd_wr_same, Nat.mod_eq_of_lt hl, bits_putBits_same _ _ _ _ (by omega)]
  rfl

/-- Setting a field leaves the fields of every other register as they were. -/
theorem getI_setI_reg (s : Block) {u u' : UnitId} {f g : Field} {i j : Nat}
    (h : regKey u' (g.at j) ≠ regKey u (f.at i)) (v : Nat) : (s.setI u f i v).getI u' g j = s.getI u' g j := by
  rw [getI, rd_setI_ne s h]; rfl

/-- Setting a field leaves the other fields of its register as they were. -/
theorem getI_setI_bits (s : Block) (u : UnitId) {f g : Field} {i j : Nat} (ho : g.at j = f.at i)
    (h : f.lo ≤ f.hi ∧ f.hi < 32) (hd : f.hi < g.lo ∨ g.hi < f.lo) (v : Nat) :
    (s.setI u f i v).getI u g j = s.getI u g j := by
  have hl := putBits_lt (x := v) (show f.lo ≤ f.hi + 1 by omega) h.2 (s.rd_lt u (f.at i))
  rw [getI, getI, setI, ho, rd_wr_same, Nat.mod_eq_of_lt hl]
  rcases hd with hd | hd
  · exact bits_putBits_above _ _ _ _ _ _ (by omega) hd
  · exact bits_putBits_below _ _ _ _ _ _ (by omega) hd

/-- Two fields do not overlap: they lie in different registers, or in different bits of one. -/
def apart (u : UnitId) (f : Field) (i : Nat) (u' : UnitId) (g : Field) (j : Nat) : Bool :=
  decide (regKey u' (g.at j) ≠ regKey u (f.at i)) ||
    (u' == u && decide (g.at j = f.at i) && decide (f.lo ≤ f.hi) && decide (f.hi < 32) &&
      (decide (f.hi < g.lo) || decide (g.hi < f.lo)))

/-- Setting a field leaves every field apart from it as it was. -/
theorem getI_setI_apart (s : Block) {u u' : UnitId} {f g : Field} {i j : Nat} (h : apart u f i u' g j = true) (v : Nat) :
    (s.setI u f i v).getI u' g j = s.getI u' g j := by
  simp only [apart, Bool.or_eq_true, Bool.and_eq_true, decide_eq_true_eq, beq_iff_eq] at h
  rcases h with h | ⟨⟨⟨⟨rfl, ho⟩, h1⟩, h2⟩, hd⟩
  · exact getI_setI_reg s h v
  · exact getI_setI_bits s u' ho ⟨h1, h2⟩ hd v

theorem ofCode_code (t : UnitType) : UnitType.ofCode t.code = some t := by cases t <;> rfl

/-- Keys of different units differ. -/
theorem regKey_ne {u u' : UnitId} {off off' : Nat} (hu : u ≠ u') (hi : u.inst < 256) (hi' : u'.inst < 256)
    (ho : off < 0x4000) (ho' : off' < 0x4000) : regKey u off ≠ regKey u' off' := by
  have ar : ∀ a b i j o p : Nat, i < 256 → j < 256 → o < 16384 → p < 16384 →
      (a * 256 + i) * 16384 + o = (b * 256 + j) * 16384 + p → a = b ∧ i = j := by omega
  intro h
  obtain ⟨hc, hi2⟩ := ar _ _ _ _ _ _ hi hi' ho ho' h
  have ht : u.ty = u'.ty := by
    have := congrArg UnitType.ofCode hc
    rwa [ofCode_code, ofCode_code, Option.some.injEq] at this
  exact hu (by cases u; cases u'; simp_all)

/-- Another field of the same instance of a register. -/
theorem getI_setI_field (s : Block) (u : UnitId) {f g : Field} (i : Nat)
    (h : (f.off == g.off && f.stride == g.stride && decide (f.lo ≤ f.hi) && decide (f.hi < 32) &&
      (decide (f.hi < g.lo) || decide (g.hi < f.lo))) = true) (v : Nat) :
    (s.setI u f i v).getI u g i = s.getI u g i := by
  simp only [Bool.and_eq_true, Bool.or_eq_true, decide_eq_true_eq, beq_iff_eq] at h
  obtain ⟨⟨⟨⟨h1, h2⟩, h3⟩, h4⟩, h5⟩ := h
  exact getI_setI_bits s u (by simp [Field.at, h1, h2]) ⟨h3, h4⟩ h5 v

/-- A field of another instance of the same register. -/
theorem getI_setI_inst (s : Block) (u : UnitId) {f g : Field} {i j : Nat} (hij : j ≠ i)
    (h : (f.off == g.off && f.stride == g.stride && decide (f.stride ≠ 0)) = true) (v : Nat) :
    (s.setI u f i v).getI u g j = s.getI u g j := by
  simp only [Bool.and_eq_true, decide_eq_true_eq, beq_iff_eq] at h
  obtain ⟨⟨h1, h2⟩, h3⟩ := h
  refine getI_setI_reg s (fun e => hij ?_) v
  have := Nat.add_left_cancel e
  rw [Field.at, Field.at, h1, h2] at this
  exact Nat.eq_of_mul_eq_mul_left (Nat.pos_of_ne_zero (h2 ▸ h3)) (Nat.add_left_cancel this)

/-- A field whose registers interleave with those of the one set. -/
theorem getI_setI_stride (s : Block) (u : UnitId) {f g : Field} {i j : Nat}
    (h : (f.stride == g.stride && decide (f.off % f.stride ≠ g.off % f.stride)) = true) (v : Nat) :
    (s.setI u f i v).getI u g j = s.getI u g j := by
  simp only [Bool.and_eq_true, decide_eq_true_eq, beq_iff_eq] at h
  refine getI_setI_reg s (fun e => h.2 ?_) v
  have := Nat.add_left_cancel e
  rw [Field.at, Field.at, ← h.1] at this
  have := congrArg (· % f.stride) this
  simpa [Nat.add_mul_mod_self_left] using this.symm

/-- A field whose registers lie wholly after, or wholly before, those of the one set. -/
theorem getI_setI_range (s : Block) (u : UnitId) {f g : Field} {i j : Nat} (hi : i < f.count) (hj : j < g.count)
    (h : (decide (f.off + f.stride * (f.count - 1) < g.off) || decide (g.off + g.stride * (g.count - 1) < f.off)) = true)
    (v : Nat) : (s.setI u f i v).getI u g j = s.getI u g j := by
  simp only [Bool.or_eq_true, decide_eq_true_eq] at h
  have h1 : f.stride * i ≤ f.stride * (f.count - 1) := Nat.mul_le_mul_left _ (by omega)
  have h2 : g.stride * j ≤ g.stride * (g.count - 1) := Nat.mul_le_mul_left _ (by omega)
  refine getI_setI_reg s (fun e => ?_) v
  have := Nat.add_left_cancel e
  rw [Field.at, Field.at] at this
  omega

/-- A field of another unit. -/
theorem getI_setI_unit (s : Block) {u u' : UnitId} {f g : Field} {i j : Nat} (hu : u' ≠ u) (hi : u.inst < 256)
    (hi' : u'.inst < 256) (ho : f.at i < 0x4000) (ho' : g.at j < 0x4000) (v : Nat) :
    (s.setI u f i v).getI u' g j = s.getI u' g j := getI_setI_reg s (regKey_ne hu hi' hi ho' ho) v

end Block
end Sys2Proof.Machine
end

