-- ==== Sys2Proof/Laws/Ops.lean ====
section
/-! SUPPORT. What the shared operations leave of the register file: logging, raising producers, flags, vectors. -/

namespace Sys2Proof.Machine.Block

/-- A field is read from the register file alone. -/
theorem getI_congr {s t : Block} (h : t.regs = s.regs) (u : UnitId) (f : Field) (i : Nat) : t.getI u f i = s.getI u f i := by
  simp [getI, rd, h]

theorem rd_congr {s t : Block} (h : t.regs = s.regs) (u : UnitId) (off : Nat) : t.rd u off = s.rd u off := by
  simp [rd, h]

@[simp] theorem rd_emit (s : Block) (o : Output) (u : UnitId) (off : Nat) : (s.emit o).rd u off = s.rd u off := rfl
@[simp] theorem getI_emit (s : Block) (o : Output) (u : UnitId) (f : Field) (i : Nat) : (s.emit o).getI u f i = s.getI u f i := rfl
@[simp] theorem getI_took (s : Block) (u : UnitId) (f : Field) (i : Nat) : s.took.getI u f i = s.getI u f i := rfl
@[simp] theorem getI_emits (s : Block) (os : List Output) (u : UnitId) (f : Field) (i : Nat) :
    (s.emits os).getI u f i = s.getI u f i := getI_congr (emits_regs s os) u f i
@[simp] theorem getI_msix (s : Block) (v : Nat) (u : UnitId) (f : Field) (i : Nat) :
    (s.msix v).getI u f i = s.getI u f i := getI_congr (msix_regs s v) u f i

/-- A register of another unit. -/
theorem rd_setI_unit (s : Block) {u u' : UnitId} {f : Field} {i off : Nat} (hu : u' ≠ u) (hi : u.inst < 256)
    (hi' : u'.inst < 256) (ho : f.at i < 0x4000) (ho' : off < 0x4000) (v : Nat) :
    (s.setI u f i v).rd u' off = s.rd u' off := rd_setI_ne s (regKey_ne hu hi' hi ho' ho) v

theorem rd_logAt (s : Block) {u : UnitId} {off : Nat} (hu : u ≠ uErrlog) (hi : u.inst < 256) (ho : off < 0x4000)
    (m : Master) (idx code sev a0 a1 a2 : Nat) : (s.logAt m idx code sev a0 a1 a2).rd u off = s.rd u off := by
  unfold logAt
  split
  · rfl
  · rw [set, rd_setI_unit _ hu (by decide) hi (by decide) ho, inc, addI, rd_setI_unit _ hu (by decide) hi (by decide) ho]

theorem rd_log (s : Block) {u : UnitId} {off : Nat} (hu : u ≠ uErrlog) (hi : u.inst < 256) (ho : off < 0x4000)
    (v : UnitId) (code sev a0 a1 a2 : Nat) : (s.log v code sev a0 a1 a2).rd u off = s.rd u off :=
  rd_logAt s hu hi ho _ _ _ _ _ _ _

theorem rd_coalesce (s : Block) {u : UnitId} {off : Nat} (hu : u ≠ uEvt) (hi : u.inst < 256) (ho : off < 0x4000)
    {c : Nat} (hc : c < 128) : (s.coalesce c).rd u off = s.rd u off := by
  unfold coalesce
  rw [set, rd_setI_unit _ hu (by decide) hi (by decide) ho, incI, addI,
    rd_setI_unit _ hu (by decide) hi (by simp only [Field.at, F.EVT.CH_STAT_COAL]; omega) ho]

/-- The channels of a producer's routes are channels. -/
theorem routes_lt (s : Block) (p : Nat) : ∀ c ∈ s.routes p, c < 128 := by
  have h (f : Field) (hf : f.width = 7) (i : Nat) : s.getI uEvt f i < 128 := by
    have := s.getI_lt uEvt f i
    rwa [hf] at this
  intro c hc
  have hA := h F.EVT.PROD_CH_A (by decide) (p / 2)
  have hB := h F.EVT.PROD_CH_B (by decide) (p / 2)
  have hA1 := h F.EVT.PROD_CH_A1 (by decide) (p / 2)
  have hB1 := h F.EVT.PROD_CH_B1 (by decide) (p / 2)
  unfold routes at hc
  dsimp only at hc
  rcases Nat.mod_two_eq_zero_or_one p with hp | hp <;> simp only [hp] at hc <;>
    rcases List.mem_append.1 hc with hc | hc <;> split at hc <;> simp at hc <;> omega

theorem rd_arrive (s : Block) {u : UnitId} {off : Nat} (hu : u ≠ uEvt) (hu' : u ≠ uErrlog) (hi : u.inst < 256)
    (ho : off < 0x4000) (p src : Nat) {c : Nat} (hc : c < 128) : (s.arrive p src c).rd u off = s.rd u off := by
  unfold arrive
  dsimp only
  split
  · rfl
  · split
    · rw [rd_log _ hu' hi ho, set, rd_setI_unit _ hu (by decide) hi (by decide) ho]
    · split
      · rw [rd_coalesce _ hu hi ho hc]; rfl
      · rfl

theorem rd_raiseFrom (s : Block) {u : UnitId} {off : Nat} (hu : u ≠ uEvt) (hu' : u ≠ uErrlog) (hi : u.inst < 256)
    (ho : off < 0x4000) (p src : Nat) : (s.raiseFrom p src).rd u off = s.rd u off := by
  have h1 (l : List Nat) (hl : ∀ c ∈ l, c < 128) (t : Block) : (l.foldl coalesce t).rd u off = t.rd u off := by
    induction l generalizing t with
    | nil => rfl
    | cons c r ih =>
      rw [List.foldl_cons, ih fun d hd => hl d (by simp [hd]), rd_coalesce _ hu hi ho (hl c (by simp))]
  have h2 (l : List Nat) (hl : ∀ c ∈ l, c < 128) (t : Block) :
      (l.foldl (fun s c => s.arrive p src c) t).rd u off = t.rd u off := by
    induction l generalizing t with
    | nil => rfl
    | cons c r ih =>
      rw [List.foldl_cons, ih fun d hd => hl d (by simp [hd]), rd_arrive _ hu hu' hi ho _ _ (hl c (by simp))]
  unfold raiseFrom
  split
  · split
    · exact h1 _ (routes_lt s p) s
    · exact h2 _ (routes_lt s p) _
  · exact h2 _ (routes_lt s p) _

theorem rd_raise (s : Block) {u : UnitId} {off : Nat} (hu : u ≠ uEvt) (hu' : u ≠ uErrlog) (hi : u.inst < 256)
    (ho : off < 0x4000) (p : Nat) : (s.raise p).rd u off = s.rd u off := rd_raiseFrom s hu hu' hi ho p 0

/-! Fields of units other than EVT and ERRLOG. -/

theorem getI_log (s : Block) {u : UnitId} {f : Field} {i : Nat} (hu : u ≠ uErrlog) (hi : u.inst < 256) (ho : f.at i < 0x4000)
    (v : UnitId) (code sev a0 a1 a2 : Nat) : (s.log v code sev a0 a1 a2).getI u f i = s.getI u f i := by
  rw [getI, rd_log s hu hi ho]; rfl

theorem getI_logBy (s : Block) {u : UnitId} {f : Field} {i : Nat} (hu : u ≠ uErrlog) (hi : u.inst < 256) (ho : f.at i < 0x4000)
    (m : Master) (v : UnitId) (code sev a0 a1 a2 : Nat) : (s.logBy m v code sev a0 a1 a2).getI u f i = s.getI u f i := by
  rw [getI, logBy, rd_logAt s hu hi ho]; rfl

theorem getI_raiseFrom (s : Block) {u : UnitId} {f : Field} {i : Nat} (hu : u ≠ uEvt) (hu' : u ≠ uErrlog) (hi : u.inst < 256)
    (ho : f.at i < 0x4000) (p src : Nat) : (s.raiseFrom p src).getI u f i = s.getI u f i := by
  rw [getI, rd_raiseFrom s hu hu' hi ho]; rfl

theorem getI_raise (s : Block) {u : UnitId} {f : Field} {i : Nat} (hu : u ≠ uEvt) (hu' : u ≠ uErrlog) (hi : u.inst < 256)
    (ho : f.at i < 0x4000) (p : Nat) : (s.raise p).getI u f i = s.getI u f i := getI_raiseFrom s hu hu' hi ho p 0

/-- A FLAGS bit that has been set reads 1. -/
theorem on_flag (s : Block) {u : UnitId} {f : Field} (hu : u ≠ uEvt) (hu' : u ≠ uErrlog) (hi : u.inst < 256)
    (hf : f.lo ≤ f.hi ∧ f.hi < 32) (hw : f.width = 1) (ho : f.at 0 < 0x4000) : (s.flag u f).getI u f 0 = 1 := by
  have h1 : (s.set u f 1).getI u f 0 = 1 := by simp [set, getI_setI_same _ _ _ _ _ hf, hw]
  unfold flag
  split
  · next h =>
    have := s.getI_lt u f 0
    rw [hw] at this
    simp only [on, bne_iff_ne, ne_eq] at h
    omega
  · split
    · rw [getI_raise _ hu hu' hi ho, h1]
    · exact h1

/-- Setting a FLAGS bit leaves the fields apart from it, but for those of EVT and ERRLOG. -/
theorem getI_flag (s : Block) {u u' : UnitId} {f g : Field} {j : Nat} (hu : u' ≠ uEvt) (hu' : u' ≠ uErrlog)
    (hi : u'.inst < 256) (ho : g.at j < 0x4000) (ha : apart u f 0 u' g j = true) :
    (s.flag u f).getI u' g j = s.getI u' g j := by
  unfold flag
  split
  · rfl
  · split
    · rw [getI_raise _ hu hu' hi ho, set, getI_setI_apart _ ha]
    · rw [set, getI_setI_apart _ ha]

theorem getI_hostIrq (s : Block) {u : UnitId} {f g : Field} {i : Nat} (ha : apart uHost f 0 u g i = true) :
    (s.hostIrq f).getI u g i = s.getI u g i := by
  unfold hostIrq
  dsimp only
  split
  · rw [set, getI_setI_apart _ ha]
  · rw [getI_msix, set, getI_setI_apart _ ha]

end Sys2Proof.Machine.Block
end

