-- ==== Sys2Proof/Laws/Access.lean ====
section
/-! SUPPORT. Accesses at a register's address: which unit and offset they meet. -/

namespace Sys2Proof.Machine

theorem unitOfIndex_index {u : UnitId} (hu : u.exists? = true) (hb : u.ty ≠ .mbxBar2) : unitOfIndex u.index = some u := by
  obtain ⟨t, i⟩ := u
  have hi : i < t.instances := by simpa [UnitId.exists?] using hu
  have key : ∀ t : UnitType, t ≠ .mbxBar2 → ∀ i < t.instances, unitOfIndex (UnitId.index ⟨t, i⟩) = some ⟨t, i⟩ := by
    intro t; cases t <;> decide +kernel
  exact key t hb i hi

theorem index_lt {u : UnitId} (hu : u.exists? = true) : u.index < 1024 := by
  obtain ⟨t, i⟩ := u
  have hi : i < t.instances := by simpa [UnitId.exists?] using hu
  have key : ∀ t : UnitType, ∀ i < t.instances, UnitId.index ⟨t, i⟩ < 1024 := by
    intro t; cases t <;> decide +kernel
  exact key t i hi

theorem regAddress_unit {u : UnitId} (hu : u.exists? = true) {off : Nat} (ho : off < 0x4000) :
    regAddress u off / 0x4000 % 1024 = u.index := by
  have h := index_lt hu
  unfold regAddress
  omega

theorem regAddress_off (u : UnitId) {off : Nat} (ho : off < 0x4000) : regAddress u off % 0x4000 = off := by
  unfold regAddress
  omega

namespace Block

/-- The unit at a register's address. -/
theorem unitAt_regAddress (b : Block) {u : UnitId} (hu : u.exists? = true) (hb : u.ty ≠ .mbxBar2) (hd : u.ty ≠ .device)
    {off : Nat} (ho : off < 0x4000) : b.unitAt (regAddress u off) = some u := by
  rw [unitAt, regAddress_unit hu ho, unitOfIndex_index hu hb]
  simp [windowLive, hd, hu]

/-- The island of every unit but the lanes is always open. -/
theorem shut_open (b : Block) {u : UnitId} (hu : u.ty ≠ .lane) (off : Nat) : b.shut u off = false := by
  simp [shut, unitOpen, unitNode, hu]

/-- A read that the host port does not turn away meets the unit at the register's address. -/
theorem readAt_eq (b : Block) {r : Reader} (hm : r.master ≠ .hw ∧ r.master ≠ .boot)
    (hr : r.master = .host → b.on uHost F.HOST.LINK_D3 = false ∧ r.words ≤ 1) {u : UnitId} (hu : u.exists? = true)
    (hb : u.ty ≠ .mbxBar2) (dev off : Nat) :
    b.readAt r dev u off = (b.busRead r.master dev (regAddress u off)).2.emit
      (.readData r.master (bytesOf r.be (b.busRead r.master dev (regAddress u off)).1)) := by
  have ha : accessible r.master u = true := by simp [accessible, hm, hu, hb]
  have hn : ¬ (r.master = .host ∧ (b.on uHost F.HOST.LINK_D3 = true ∨ 1 < r.words)) := by
    rintro ⟨h, h'⟩
    have := hr h
    rcases h' with h' | h'
    · simp [this.1] at h'
    · omega
  rw [readAt, if_neg hn, if_pos ha]

theorem writeAt_eq (b : Block) {m : Master} (hm : m ≠ .hw ∧ m ≠ .boot) (hd : m = .host → b.on uHost F.HOST.LINK_D3 = false)
    {u : UnitId} (hu : u.exists? = true) (hb : u.ty ≠ .mbxBar2) (dev off w : Nat) :
    b.writeAt m dev u off w = b.busWrite m dev (regAddress u off) (w % 2 ^ 32) := by
  have ha : accessible m u = true := by simp [accessible, hm, hu, hb]
  have hn : ¬ (m = .host ∧ b.on uHost F.HOST.LINK_D3 = true) := fun h => by simp [hd h.1] at h
  rw [writeAt, if_neg hn, if_pos ha]

/-- The fields of a register that a master may write. -/
def mineAt (b : Block) (m : Master) (u : UnitId) (off : Nat) : List Field :=
  (u.ty.fieldsAt off).filter fun f => b.mayWrite m u f ((f.instanceAt off).getD 0)

theorem mayWrite_ro (b : Block) (m : Master) (u : UnitId) {f : Field} (h : f.acc = .ro) (i : Nat) :
    b.mayWrite m u f i = false := by simp [mayWrite, h]

/-- A write that no rule discards reaches the register: some field is the master's to write, none of those is SEAL or
STAGE, the island is open, and the register is not COMMIT. -/
theorem busWrite_reg (b : Block) {m : Master} {u : UnitId} (hu : u.exists? = true)
    (hb : u.ty ≠ .mbxBar2) (hd : u.ty ≠ .device) {off : Nat} (h4 : off % 4 = 0) (ho : 0x40 ≤ off ∧ off < 0x1000 ∧ off ≠ 0x44)
    (hs : b.shut u off = false) (hbar : ¬ (m = .host ∧ u.ty.owner = 1)) (hmine : b.mineAt m u off ≠ [])
    (hseal : ∀ f ∈ b.mineAt m u off, f.acc ≠ .seal ∧ f.acc ≠ .stage) (dev w : Nat) :
    b.busWrite m dev (regAddress u off) w = b.regWrite m dev u off w (b.mineAt m u off) := by
  have hoff : regAddress u off % 0x4000 / 4 * 4 = off := by rw [regAddress_off _ (by omega)]; omega
  have hsub : ∀ f ∈ b.mineAt m u off, f ∈ u.ty.fieldsAt off ∧ f.acc ≠ .ro := by
    intro f hf
    obtain ⟨h1, h2⟩ := List.mem_filter.1 hf
    exact ⟨h1, fun h => by rw [mayWrite_ro _ _ _ h] at h2; cases h2⟩
  obtain ⟨f0, hf0⟩ := List.exists_mem_of_ne_nil _ hmine
  have hfs : u.ty.fieldsAt off ≠ [] := fun h => by have := (hsub f0 hf0).1; rw [h] at this; cases this
  have hro : ((u.ty.fieldsAt off).all fun f => f.acc == .ro) = false := by
    rw [List.all_eq_false]
    exact ⟨f0, (hsub f0 hf0).1, by simpa using (hsub f0 hf0).2⟩
  have hbar' : (m == .host && u.ty.owner == 1) = false := by
    rw [Bool.and_eq_false_iff]
    by_cases h : m = .host
    · right; simpa using fun h' => hbar ⟨h, h'⟩
    · left; simpa using h
  have c1 : ¬ (off < 0x40 ∨ 0x1000 ≤ off ∧ off < 0x2000) := by omega
  have c2 : ¬ 0x2000 ≤ off := by omega
  have s1 : ((b.mineAt m u off).any fun f => f.acc == .seal) = false := by
    rw [List.any_eq_false]; intro f hf; simpa using (hseal f hf).1
  have s2 : ((b.mineAt m u off).any fun f => f.acc == .stage) = false := by
    rw [List.any_eq_false]; intro f hf; simpa using (hseal f hf).2
  unfold busWrite
  rw [unitAt_regAddress b hu hb hd (by omega)]
  dsimp only
  have himp : b.implements u off = true := by
    unfold implements
    rw [if_neg (by omega), if_pos ho.2.1]
    simpa using hfs
  rw [hoff, hbar', hro]
  change (if _ then _ else if _ then _ else if _ then _ else if _ then _ else if _ then _ else if _ then _ else
    if (b.mineAt m u off).isEmpty = true then _ else _) = _
  simp only [hs, himp, Bool.not_true, Bool.and_false, Bool.false_eq_true, if_false, c1, c2, List.isEmpty_iff, hmine]
  change (if m ≠ .boot ∧ ((b.mineAt m u off).any fun f => f.acc == .seal) = true then _ else
    if m ≠ .boot ∧ ((b.mineAt m u off).any fun f => f.acc == .stage) = true then _ else _) = _
  simp [s1, s2, ho.2.2]
  rfl

end Block
end Sys2Proof.Machine
end

