-- ==== Sys2Proof/Laws/Commit.lean ====
section
/-! SUPPORT. What bringing staged values into force changes. -/

namespace Sys2Proof.Machine.Block

/-- Whole words written to registers of one unit change the register file alone. -/
theorem foldl_wr_eq (u : UnitId) (g : Block → Nat × Word → Nat) (l : List (Nat × Word)) (b : Block) :
    ∃ r, l.foldl (fun s p => s.wr u (p.1 % 0x4000) (g s p)) b = { b with regs := r } := by
  induction l generalizing b with
  | nil => exact ⟨_, rfl⟩
  | cons a r ih =>
    obtain ⟨r', h⟩ := ih (b.wr u (a.1 % 0x4000) (g b a))
    exact ⟨r', h⟩

/-- Staged values of a unit come into force: the register file changes, and the unit's entries leave the staged image. -/
theorem applyStaged_eq (b : Block) (u : UnitId) :
    ∃ r, b.applyStaged u = { b with regs := r, staged := b.staged.filter fun p => (keyUnit p.1) != some u } := by
  unfold applyStaged
  obtain ⟨r, h⟩ := foldl_wr_eq u
    (fun s p => stageMerge u.ty (p.1 % 0x4000) (s.rd u (p.1 % 0x4000)) p.2.toNat)
    (b.staged.filter fun p => (keyUnit p.1) == some u)
    { b with staged := b.staged.filter fun p => (keyUnit p.1) != some u }
  exact ⟨r, h⟩

/-- With nothing staged in the unit no register changes. -/
theorem applyStaged_none (b : Block) (u : UnitId) (h : (b.staged.filter fun p => (keyUnit p.1) == some u) = []) :
    b.applyStaged u = { b with staged := b.staged.filter fun p => (keyUnit p.1) != some u } := by
  simp [applyStaged, h]

theorem regKey_mod (u : UnitId) {off : Nat} (h : off < 0x4000) : regKey u off % 0x4000 = off := by
  unfold regKey; omega

/-- One staged register: its STAGE fields take the staged values. -/
theorem applyStaged_one (b : Block) (u : UnitId) {reg : Nat} (hr : reg < 0x4000) (w : Word)
    (h : (b.staged.filter fun p => (keyUnit p.1) == some u) = [(regKey u reg, w)]) :
    b.applyStaged u = ({ b with staged := b.staged.filter fun p => (keyUnit p.1) != some u } : Block).wr u reg
      (stageMerge u.ty reg (b.rd u reg) w.toNat) := by
  unfold applyStaged
  rw [h]
  simp only [List.foldl, regKey_mod u hr]
  rfl

theorem regKey_off_ne (u : UnitId) {a c : Nat} (h : a ≠ c) : regKey u a ≠ regKey u c := fun e => h (Nat.add_left_cancel e)

end Sys2Proof.Machine.Block
end

