-- ==== Sys2Proof/Laws/Run.lean ====
section
/-! SUPPORT. What the three ways a command acts answer: always a next state, the queue as it was. -/

namespace Sys2Proof.Machine.State

/-- A command that acts in every state of the device. -/
theorem run_eq (s : State) (dt : Nat) (f : Block → Block) :
    s.run dt f = .next { s with blk := f (s.now dt) } := rfl

/-- A command of the released device, once the cores are released. -/
theorem live_cored {s : State} {dt : Nat} (h : (s.now dt).cored = true) (f : Block → Block) :
    s.live dt f = .next { s with blk := f (s.now dt) } := by
  simp [live, run, h]

/-- Before, and in a hold, it changes nothing but the time. -/
theorem live_held {s : State} {dt : Nat} (h : (s.now dt).cored = false) (f : Block → Block) :
    s.live dt f = .next { s with blk := s.now dt } := by
  simp [live, run, h]

/-- A command of core k's firmware, while the core runs. -/
theorem liveOn_runs {s : State} {k dt : Nat} (h : (s.now dt).cored = true) (hk : nth (s.now dt).boot.cores k false = true)
    (f : Block → Block) : s.liveOn k dt f = .next { s with blk := f (s.now dt) } := by
  simp [liveOn, live, run, h, hk]

theorem liveOn_held {s : State} {k dt : Nat} (h : (s.now dt).cored = false) (f : Block → Block) :
    s.liveOn k dt f = .next { s with blk := s.now dt } := by
  simp [liveOn, live, run, h]

/-- Time passes in the fields that tell it. -/
theorem advance_eq (b : Block) (n : Nat) : ∃ l f, b.advance n = { b with lt := l, ltFrac := f } := by
  unfold Block.advance
  split
  · exact ⟨_, _, rfl⟩
  · exact ⟨_, _, rfl⟩

@[simp] theorem advance_boot (b : Block) (n : Nat) : (b.advance n).boot = b.boot := by
  obtain ⟨_, _, h⟩ := advance_eq b n; rw [h]

theorem cored_held {b : Block} (h : b.boot.hold ≠ .none) : b.cored = false := by
  simp [Block.cored, h]

/-- In a hold no device reset comes due. -/
theorem dueReset_held {b : Block} (h : b.boot.hold ≠ .none) : b.dueReset = b := by
  unfold Block.dueReset
  split
  · rfl
  · split
    · simp [Block.deviceReset, h]
    · rfl

/-- Before the cores are released no ring commit is in force. -/
theorem membersSettle_held {b : Block} (h : b.cored = false) : b.membersSettle = b := by
  simp [Block.membersSettle, h]

theorem now_held {s : State} (h : s.blk.boot.hold ≠ .none) (dt : Nat) : s.now dt = s.blk.advance dt := by
  have h' : (s.blk.advance dt).boot.hold ≠ .none := by rwa [advance_boot]
  rw [now, dueReset_held h', membersSettle_held (cored_held h')]

/-- With no device reset due and no ring commit received the present is the block after the time that has passed. -/
theorem now_noReset {s : State} (h : s.blk.boot.resetDue = none) (hg : s.blk.ring.groups = []) (dt : Nat) :
    s.now dt = s.blk.advance dt := by
  obtain ⟨l, f, ha⟩ := advance_eq s.blk dt
  have hr : (s.blk.advance dt).dueReset = s.blk.advance dt := by simp [Block.dueReset, h]
  rw [now, hr, ha]
  simp [Block.membersSettle, hg]

/-- A command of the released device in a hold. -/
theorem live_hold {s : State} (h : s.blk.boot.hold ≠ .none) (dt : Nat) (f : Block → Block) :
    s.live dt f = .next { s with blk := s.blk.advance dt } := by
  rw [live_held, now_held h]
  exact cored_held (by rw [now_held h, advance_boot]; exact h)

theorem liveOn_hold {s : State} (h : s.blk.boot.hold ≠ .none) (k dt : Nat) (f : Block → Block) :
    s.liveOn k dt f = .next { s with blk := s.blk.advance dt } := live_hold h dt _

end Sys2Proof.Machine.State
end

