-- ==== Sys2Proof/Laws/Exec.lean ====
section
/-! SUPPORT. What each command does, and when: in every state (`run`), in a released device (`live`), while a core runs
(`liveOn`). -/

namespace Sys2Proof.Machine

theorem exec_registerWrite (dt : Nat) (m : Master) (dev : Nat) (bar2 : Bool) (addr be n w : Nat) (s : State) :
    exec (.registerWrite dt m dev bar2 addr be n w) s = s.live dt fun (b : Block) =>
      b.registerWrite m dev bar2 addr be n w := rfl
theorem exec_stagedWrite (dt : Nat) (m : Master) (u : UnitId) (reg w : Nat) (s : State) :
    exec (.stagedWrite dt m u reg w) s = s.live dt fun (b : Block) =>
      b.writeAt m 0 u (0x2000 + reg) w := rfl
theorem exec_commit (dt : Nat) (m : Master) (u : UnitId) (bnd : Boundary) (tag : Nat) (s : State) :
    exec (.commit dt m u bnd tag) s = s.live dt fun (b : Block) =>
      b.writeAt m 0 u 0x44 (bnd.rank + tag % 256 * 256) := rfl
theorem exec_commitCancel (dt : Nat) (m : Master) (u : UnitId) (s : State) :
    exec (.commitCancel dt m u) s = s.live dt fun (b : Block) =>
      b.writeAt m 0 u 0x44 4 := rfl
theorem exec_commitApply (dt : Nat) (u : UnitId) (line page pageLine : Nat) (first : Bool) (s : State) :
    exec (.commitApply dt u line page pageLine first) s = s.live dt fun (b : Block) =>
      b.commitReached u line page pageLine first := rfl
theorem exec_semRead (dt : Nat) (m : Reader) (dev n : Nat) (s : State) :
    exec (.semRead dt m dev n) s = s.live dt fun (b : Block) =>
      b.readAt m dev uLock (F.LOCK.SEM_RESULT.at n) := rfl
theorem exec_semRelease (dt : Nat) (m : Master) (dev n w : Nat) (s : State) :
    exec (.semRelease dt m dev n w) s = s.live dt fun (b : Block) =>
      b.writeAt m dev uLock (F.LOCK.SEM_RESULT.at n) w := rfl
theorem exec_sramScrub (dt : Nat) (u : UnitId) (a : Nat) (errs : Upset) (s : State) :
    exec (.sramScrub dt u a errs) s = s.live dt fun (b : Block) =>
      b.sramScrub u a errs := rfl
theorem exec_powerOn (dt : Nat) (env : BootEnv) (s : State) :
    exec (.powerOn dt env) s = s.run dt fun (b : Block) =>
      b.powerOn env := rfl
theorem exec_oscStableTimeout (dt : Nat) (s : State) :
    exec (.oscStableTimeout dt) s = s.run dt fun (b : Block) =>
      b.oscTimeout := rfl
theorem exec_flashTimeout (dt : Nat) (s : State) :
    exec (.flashTimeout dt) s = s.run dt fun (b : Block) =>
      b.flashTimeout := rfl
theorem exec_alive (dt : Nat) (flashOk : Bool) (s : State) :
    exec (.alive dt flashOk) s = s.live dt fun (b : Block) =>
      b.bootAlive flashOk := rfl
theorem exec_aliveTimeout (dt : Nat) (s : State) :
    exec (.aliveTimeout dt) s = s.run dt fun (b : Block) =>
      b.aliveTimeout := rfl
theorem exec_seal (dt : Nat) (s : State) :
    exec (.seal dt) s = s.live dt fun (b : Block) =>
      b.bootSeal false := rfl
theorem exec_sealDeadline (dt : Nat) (s : State) :
    exec (.sealDeadline dt) s = s.live dt fun (b : Block) =>
      b.sealDeadline := rfl
theorem exec_dramTrainingDone (dt : Nat) (ok : Bool) (eyes : List (Nat × Nat)) (s : State) :
    exec (.dramTrainingDone dt ok eyes) s = s.live dt fun (b : Block) =>
      b.bootTraining ok eyes := rfl
theorem exec_dramWipeDone (dt : Nat) (s : State) :
    exec (.dramWipeDone dt) s = s.live dt fun (b : Block) =>
      b.bootWipe := rfl
theorem exec_running (dt : Nat) (s : State) :
    exec (.running dt) s = s.live dt fun (b : Block) =>
      b.running := rfl
theorem exec_perstnRise (dt : Nat) (s : State) :
    exec (.perstnRise dt) s = s.run dt fun (b : Block) =>
      b.perstnRise := rfl
theorem exec_porFall (dt : Nat) (s : State) :
    exec (.porFall dt) s = s.run dt fun (b : Block) =>
      b.porFall := rfl
theorem exec_supplyOutOfRange (dt : Nat) (s : State) :
    exec (.supplyOutOfRange dt) s = s.run dt fun (b : Block) =>
      b.supplyOut := rfl
theorem exec_supplyRestored (dt : Nat) (env : BootEnv) (s : State) :
    exec (.supplyRestored dt env) s = s.run dt fun (b : Block) =>
      b.supplyBack env := rfl
theorem exec_devReset (dt : Nat) (env : BootEnv) (s : State) :
    exec (.devReset dt env) s = s.live dt fun (b : Block) =>
      b.deviceReset 4 env := rfl
theorem exec_coreWatchdog (dt : Nat) (c : Nat) (env : BootEnv) (s : State) :
    exec (.coreWatchdog dt c env) s = s.live dt fun (b : Block) =>
      if nth b.boot.cores c false then b.deviceReset 2 env else b := rfl
theorem exec_coreReset (dt : Nat) (c : Nat) (s : State) :
    exec (.coreReset dt c) s = s.live dt fun (b : Block) =>
      b.coreReset c := rfl
theorem exec_hostPortReset (dt : Nat) (kind : Nat) (s : State) :
    exec (.hostPortReset dt kind) s = s.live dt fun (b : Block) =>
      b.hostPortReset kind := rfl
theorem exec_itoFail (dt : Nat) (s : State) :
    exec (.itoFail dt) s = s.run dt fun (b : Block) =>
      b.itoFail := rfl
theorem exec_watchFail (dt : Nat) (s : State) :
    exec (.watchFail dt) s = s.run dt fun (b : Block) =>
      b.watchFail := rfl
theorem exec_xtalFail (dt : Nat) (s : State) :
    exec (.xtalFail dt) s = s.run dt fun (b : Block) =>
      b.xtalFail := rfl
theorem exec_pllFail (dt : Nat) (ddr : Bool) (s : State) :
    exec (.pllFail dt ddr) s = s.run dt fun (b : Block) =>
      b.pllFail ddr := rfl
theorem exec_refFail (dt : Nat) (s : State) :
    exec (.refFail dt) s = s.run dt fun (b : Block) =>
      b.refFail := rfl
theorem exec_refRecovered (dt : Nat) (s : State) :
    exec (.refRecovered dt) s = s.run dt fun (b : Block) =>
      b.refRecovered := rfl
theorem exec_gateClose (dt : Nat) (g : Nat) (busy : Bool) (s : State) :
    exec (.gateClose dt g busy) s = s.live dt fun (b : Block) =>
      b.gateClose g busy := rfl
theorem exec_gateClosed (dt : Nat) (g : Nat) (s : State) :
    exec (.gateClosed dt g) s = s.live dt fun (b : Block) =>
      b.gateClosed g := rfl
theorem exec_gateTimeout (dt : Nat) (g : Nat) (s : State) :
    exec (.gateTimeout dt g) s = s.live dt fun (b : Block) =>
      b.gateTimeout g := rfl
theorem exec_gateOpen (dt : Nat) (g : Nat) (s : State) :
    exec (.gateOpen dt g) s = s.live dt fun (b : Block) =>
      b.openGate g := rfl
theorem exec_tmonWindow (dt : Nat) (raw loads : List Nat) (s : State) :
    exec (.tmonWindow dt raw loads) s = s.live dt fun (b : Block) =>
      (b.tmonWindow raw).stripLoads loads := rfl
theorem exec_governorDescend (dt : Nat) (s : State) :
    exec (.governorDescend dt) s = s.live dt fun (b : Block) =>
      b.governorDescend := rfl
theorem exec_clearMin (dt : Nat) (s : State) :
    exec (.clearMin dt) s = s.live dt fun (b : Block) =>
      b.clearMin := rfl
theorem exec_pstateTarget (dt : Nat) (req : Option Nat) (s : State) :
    exec (.pstateTarget dt req) s = s.live dt fun (b : Block) =>
      match req with
      | some p => b.pstateReq p
      | none => b.retarget := rfl
theorem exec_pstateChangeDone (dt : Nat) (s : State) :
    exec (.pstateChangeDone dt) s = s.live dt fun (b : Block) =>
      b.pstateDone := rfl
theorem exec_tempoShort (dt : Nat) (s : State) :
    exec (.tempoShort dt) s = s.live dt fun (b : Block) =>
      b.tempoShort := rfl
theorem exec_avsFail (dt : Nat) (cmd step : Nat) (s : State) :
    exec (.avsFail dt cmd step) s = s.live dt fun (b : Block) =>
      b.avsFail cmd step := rfl
theorem exec_avsAlert (dt : Nat) (faults : Nat) (s : State) :
    exec (.avsAlert dt faults) s = s.live dt fun (b : Block) =>
      b.avsAlert faults := rfl
theorem exec_avsPoll (dt : Nat) (mv raw : Nat) (s : State) :
    exec (.avsPoll dt mv raw) s = s.live dt fun (b : Block) =>
      b.avsPoll mv raw := rfl
theorem exec_thmConversion (dt : Nat) (results : List (Option Int)) (s : State) :
    exec (.thmConversion dt results) s = s.run dt fun (b : Block) =>
      b.thmConversion results := rfl
theorem exec_sensorTimeout (dt : Nat) (k : Nat) (s : State) :
    exec (.sensorTimeout dt k) s = s.run dt fun (b : Block) =>
      b.sensorTimeout k := rfl
theorem exec_graceExpired (dt : Nat) (s : State) :
    exec (.graceExpired dt) s = s.live dt fun (b : Block) =>
      b.graceExpired := rfl
theorem exec_relaxStep (dt : Nat) (s : State) :
    exec (.relaxStep dt) s = s.live dt fun (b : Block) =>
      b.relaxStep := rfl
theorem exec_clearPeak (dt : Nat) (strip : Option Nat) (s : State) :
    exec (.clearPeak dt strip) s = s.live dt fun (b : Block) =>
      match strip with
      | some k => if k < 8 then b.stripClear k else b
      | none => b.clearSensorPeaks := rfl
theorem exec_portEnable (dt : Nat) (p : Nat) (s : State) :
    exec (.portEnable dt p) s = s.live dt fun (b : Block) =>
      if p < 16 then b.portEnable p else b := rfl
theorem exec_signalQualified (dt : Nat) (p : Nat) (s : State) :
    exec (.signalQualified dt p) s = s.live dt fun (b : Block) =>
      b.signalQualified p := rfl
theorem exec_cdrLocked (dt : Nat) (p : Nat) (s : State) :
    exec (.cdrLocked dt p) s = s.live dt fun (b : Block) =>
      b.cdrLocked p := rfl
theorem exec_trainingFrame (dt : Nat) (p l : Nat) (frame : List Nat) (s : State) :
    exec (.trainingFrame dt p l frame) s = s.live dt fun (b : Block) =>
      b.trainingFrame p l frame := rfl
theorem exec_trainingComplete (dt : Nat) (p : Nat) (eq : List (Nat × Nat × Nat × Nat)) (s : State) :
    exec (.trainingComplete dt p eq) s = s.live dt fun (b : Block) =>
      b.trainingComplete p eq := rfl
theorem exec_adaptConverged (dt : Nat) (p : Nat) (ctle : List Nat) (s : State) :
    exec (.adaptConverged dt p ctle) s = s.live dt fun (b : Block) =>
      b.adaptConverged p ctle := rfl
theorem exec_blockLock (dt : Nat) (p : Nat) (seen : List LaneSeen) (s : State) :
    exec (.blockLock dt p seen) s = s.live dt fun (b : Block) =>
      b.blockLock p seen := rfl
theorem exec_alignDone (dt : Nat) (p : Nat) (order : List Nat) (fec : Bool) (deskew : Nat) (s : State) :
    exec (.alignDone dt p order fec deskew) s = s.live dt fun (b : Block) =>
      b.alignDone p order fec deskew := rfl
theorem exec_check (dt : Nat) (p : Nat) (figs : List (Nat × Nat × Nat)) (s : State) :
    exec (.check dt p figs) s = s.live dt fun (b : Block) =>
      b.linkCheck p figs := rfl
theorem exec_bringupTimeout (dt : Nat) (p : Nat) (s : State) :
    exec (.bringupTimeout dt p) s = s.live dt fun (b : Block) =>
      b.bringupTimeout p := rfl
theorem exec_linkDown (dt : Nat) (p : Nat) (s : State) :
    exec (.linkDown dt p) s = s.live dt fun (b : Block) =>
      b.linkDown p := rfl
theorem exec_holdoffExpired (dt : Nat) (p : Nat) (s : State) :
    exec (.holdoffExpired dt p) s = s.live dt fun (b : Block) =>
      b.holdoffExpired p := rfl
theorem exec_bypassOpen (dt : Nat) (vbyp : Nat) (s : State) :
    exec (.bypassOpen dt vbyp) s = s.liveOn 2 dt fun (b : Block) =>
      b.bypassOpen vbyp := rfl
theorem exec_bypassClose (dt : Nat) (forced : Bool) (s : State) :
    exec (.bypassClose dt forced) s = s.live dt fun (b : Block) =>
      b.bypassClose forced := rfl
theorem exec_clearCnt (dt : Nat) (u : UnitId) (s : State) :
    exec (.clearCnt dt u) s = s.live dt fun (b : Block) =>
      b.counterClear u := rfl
theorem exec_camFrame (dt : Nat) (k : Nat) (frame : List Nat) (fcsOk overflow : Bool) (s : State) :
    exec (.camFrame dt k frame fcsOk overflow) s = s.live dt fun (b : Block) =>
      if b.getI uSerdes F.SERDES.PORT_STAT_STATE k = 8 then b.camFrame k frame fcsOk overflow else b := rfl
theorem exec_gvspLeader (dt : Nat) (k id ts : Nat) (ld : Leader) (s : State) :
    exec (.gvspLeader dt k id ts ld) s = s.live dt fun (b : Block) =>
      if k < 12 then b.gvspLeader k id ts ld else b := rfl
theorem exec_gvspPayload (dt : Nat) (k id pid : Nat) (data : List Nat) (overflow : Bool) (s : State) :
    exec (.gvspPayload dt k id pid data overflow) s = s.live dt fun (b : Block) =>
      if k < 12 then b.gvspPayload k id pid data overflow else b := rfl
theorem exec_gvspTrailer (dt : Nat) (k id pid sizeY : Nat) (s : State) :
    exec (.gvspTrailer dt k id pid sizeY) s = s.live dt fun (b : Block) =>
      if k < 12 then b.gvspTrailer k id pid sizeY else b := rfl
theorem exec_entryTimeout (dt : Nat) (k : Nat) (s : State) :
    exec (.entryTimeout dt k) s = s.live dt fun (b : Block) =>
      if k < 12 then b.entryTimeout k else b := rfl
theorem exec_triggerPulse (dt : Nat) (s : State) :
    exec (.triggerPulse dt) s = s.liveOn 3 dt fun (b : Block) =>
      b.triggerPulse := rfl
theorem exec_triggerPulseEnd (dt : Nat) (k : Nat) (s : State) :
    exec (.triggerPulseEnd dt k) s = s.live dt fun (b : Block) =>
      if k < 12 then b.pulseEnd k else b := rfl
theorem exec_lportFrame (dt : Nat) (raw : List Nat) (fcsOk : Bool) (o : TrackerOut) (s : State) :
    exec (.lportFrame dt raw fcsOk o) s = s.live dt fun (b : Block) =>
      if b.lportUp then b.lportFrame raw fcsOk o else b := rfl
theorem exec_ptpSync (dt : Nat) (d sender seq : Nat) (logInterval : Int) (twoStep : Bool) (o : TrackerOut) (s : State) :
    exec (.ptpSync dt d sender seq logInterval twoStep o) s = s.liveOn 2 dt fun (b : Block) =>
      if d < 2 then b.ptpSync d sender seq logInterval twoStep o else b := rfl
theorem exec_ptpFollowUp (dt : Nat) (d sender seq : Nat) (s : State) :
    exec (.ptpFollowUp dt d sender seq) s = s.liveOn 2 dt fun (b : Block) =>
      if d < 2 then b.ptpFollowUp d sender seq else b := rfl
theorem exec_ptpDelayResp (dt : Nat) (d : Nat) (r : DelayResp) (s : State) :
    exec (.ptpDelayResp dt d r) s = s.liveOn 2 dt fun (b : Block) =>
      if d < 2 then b.ptpDelayResp d r else b := rfl
theorem exec_ptpAnnounce (dt : Nat) (d : Nat) (info : MasterInfo) (s : State) :
    exec (.ptpAnnounce dt d info) s = s.liveOn 2 dt fun (b : Block) =>
      if d < 2 then b.ptpAnnounce d info else b := rfl
theorem exec_announceTimeout (dt : Nat) (d : Nat) (s : State) :
    exec (.announceTimeout dt d) s = s.liveOn 2 dt fun (b : Block) =>
      if d < 2 then b.announceTimeout d else b := rfl
theorem exec_holdoverExpired (dt : Nat) (s : State) :
    exec (.holdoverExpired dt) s = s.liveOn 2 dt fun (b : Block) =>
      b.holdoverExpired := rfl
theorem exec_revertExpired (dt : Nat) (s : State) :
    exec (.revertExpired dt) s = s.liveOn 2 dt fun (b : Block) =>
      b.revertExpired := rfl
theorem exec_slewDone (dt : Nat) (s : State) :
    exec (.slewDone dt) s = s.liveOn 2 dt fun (b : Block) =>
      b.slewDone := rfl
theorem exec_delayReqSend (dt : Nat) (d : Nat) (s : State) :
    exec (.delayReqSend dt d) s = s.liveOn 2 dt fun (b : Block) =>
      if d < 2 then b.delayReqSend d else b := rfl
theorem exec_camSyncSend (dt : Nat) (k : Nat) (s : State) :
    exec (.camSyncSend dt k) s = s.live dt fun (b : Block) =>
      b.camSyncSend k := rfl
theorem exec_camAnnounceSend (dt : Nat) (k : Nat) (s : State) :
    exec (.camAnnounceSend dt k) s = s.live dt fun (b : Block) =>
      b.camAnnounceSend k := rfl
theorem exec_delayReq (dt : Nat) (k seq requester : Nat) (back : Option (Nat × Nat)) (s : State) :
    exec (.delayReq dt k seq requester back) s = s.live dt fun (b : Block) =>
      if k < 12 then b.camDelayReq k seq requester back else b := rfl
theorem exec_stepGo (dt : Nat) (s : State) :
    exec (.stepGo dt) s = s.live dt fun (b : Block) =>
      b.stepGo := rfl
theorem exec_domainForce (dt : Nat) (v : Nat) (s : State) :
    exec (.domainForce dt v) s = s.live dt fun (b : Block) =>
      b.domainForce v := rfl
theorem exec_nowLatch (dt : Nat) (m : Reader) (s : State) :
    exec (.nowLatch dt m) s = s.live dt fun (b : Block) =>
      b.readAt m 0 uTime F.TIME.NOW_LT_LO_VALUE.off := rfl
theorem exec_tsqPop (dt : Nat) (m : Reader) (p : Nat) (s : State) :
    exec (.tsqPop dt m p) s = s.live dt fun (b : Block) =>
      b.readAt m 0 uTime (F.TIME.TSQ_W3_SEC.at p) := rfl
theorem exec_timeAnchor (dt : Nat) (s : State) :
    exec (.timeAnchor dt) s = s.live dt fun (b : Block) =>
      b.timeAnchor := rfl
theorem exec_senseOutput (dt : Nat) (c : Nat) (mods : List Nat) (s : State) :
    exec (.senseOutput dt c mods) s = s.liveOn 3 dt fun (b : Block) =>
      b.senseOutput c mods := rfl
theorem exec_ssGo (dt : Nat) (c : Nat) (s : State) :
    exec (.ssGo dt c) s = s.liveOn 3 dt fun (b : Block) =>
      b.ssTrigger c := rfl
theorem exec_ssDone (dt : Nat) (c : Nat) (mods : List Nat) (s : State) :
    exec (.ssDone dt c mods) s = s.liveOn 3 dt fun (b : Block) =>
      b.ssDone c mods := rfl
theorem exec_modOverload (dt : Nat) (c : Nat) (s : State) :
    exec (.modOverload dt c) s = s.liveOn 3 dt fun (b : Block) =>
      if c < 16 then b.modOverload c else b := rfl
theorem exec_virtualValue (dt : Nat) (c n : Nat) (s : State) :
    exec (.virtualValue dt c n) s = s.liveOn 3 dt fun (b : Block) =>
      if c < 16 then b.virtualValue c n else b := rfl
theorem exec_senseStale (dt : Nat) (c : Nat) (s : State) :
    exec (.senseStale dt c) s = s.liveOn 3 dt fun (b : Block) =>
      if c < 16 then b.senseStale c else b := rfl
theorem exec_bankSwap (dt : Nat) (sel : Nat) (s : State) :
    exec (.bankSwap dt sel) s = s.live dt fun (b : Block) =>
      b.bankSwap (sel % 2) := rfl
theorem exec_observerUpdate (dt : Nat) (e0 e1 : EncIn) (s : State) :
    exec (.observerUpdate dt e0 e1) s = s.run dt fun (b : Block) =>
      b.passed [.encoderSinCos 0 e0.sin e0.cos, .encoderSinCos 1 e1.sin e1.cos] 3 fun t => t.observerUpdate e0 e1 := rfl
theorem exec_coastTimeout (dt : Nat) (s : State) :
    exec (.coastTimeout dt) s = s.liveOn 3 dt fun (b : Block) =>
      b.coastEnd := rfl
theorem exec_pageSync (dt : Nat) (ago : Nat) (s : State) :
    exec (.pageSync dt ago) s = s.liveOn 3 dt fun (b : Block) =>
      b.pageSync ago := rfl
theorem exec_zIndex (dt : Nat) (e : Nat) (s : State) :
    exec (.zIndex dt e) s = s.run dt fun (b : Block) =>
      b.passed (if e < 2 then [.encoderZ e] else []) 3 fun t => t.zIndex e := rfl
theorem exec_webPosLatch (dt : Nat) (m : Reader) (s : State) :
    exec (.webPosLatch dt m) s = s.live dt fun (b : Block) =>
      b.readAt m 0 uWeb F.WEB.POS_LO_VALUE.off := rfl
theorem exec_webHwmLatch (dt : Nat) (m : Reader) (s : State) :
    exec (.webHwmLatch dt m) s = s.live dt fun (b : Block) =>
      b.readAt m 0 uWeb F.WEB.HWM_LO_VALUE.off := rfl
theorem exec_webLineLatch (dt : Nat) (m : Reader) (s : State) :
    exec (.webLineLatch dt m) s = s.live dt fun (b : Block) =>
      b.readAt m 0 uWeb F.WEB.LINE_LO_VALUE.off := rfl
theorem exec_encZposLatch (dt : Nat) (m : Reader) (e : Nat) (s : State) :
    exec (.encZposLatch dt m e) s = s.live dt fun (b : Block) =>
      b.readAt m 0 uWeb (F.WEB.ENC_ZPOS_LO_VALUE.at e) := rfl
theorem exec_stripLine (dt : Nat) (strip : Nat) (s : State) :
    exec (.stripLine dt strip) s = s.liveOn 1 dt fun (b : Block) =>
      (b.stripLine strip).commitsSettle := rfl
theorem exec_tblDataWrite (dt : Nat) (m : Master) (x w : Nat) (s : State) :
    exec (.tblDataWrite dt m x w) s = s.live dt fun (b : Block) =>
      b.writeAt m 0 (uCtx x) F.CTX.TBL_DATA_WORD.off w := rfl
theorem exec_tblDataRead (dt : Nat) (m : Reader) (x : Nat) (s : State) :
    exec (.tblDataRead dt m x) s = s.live dt fun (b : Block) =>
      b.readAt m 0 (uCtx x) F.CTX.TBL_DATA_WORD.off := rfl
theorem exec_geoDataWrite (dt : Nat) (m : Master) (x w : Nat) (s : State) :
    exec (.geoDataWrite dt m x w) s = s.live dt fun (b : Block) =>
      b.writeAt m 0 (uCtx x) F.CTX.GEO_DATA_WORD.off w := rfl
theorem exec_geoDataRead (dt : Nat) (m : Reader) (x : Nat) (s : State) :
    exec (.geoDataRead dt m x) s = s.live dt fun (b : Block) =>
      b.readAt m 0 (uCtx x) F.CTX.GEO_DATA_WORD.off := rfl
theorem exec_stitchDeliver (dt : Nat) (x : Nat) (s : State) :
    exec (.stitchDeliver dt x) s = s.live dt fun (b : Block) =>
      (b.stitchDeliver x).commitsSettle := rfl
theorem exec_stitchLineOut (dt : Nat) (s : State) :
    exec (.stitchLineOut dt) s = s.live dt fun (b : Block) =>
      b.stitchLineOut.commitsSettle.latResolve := rfl
theorem exec_overlap (dt : Nat) (l src dest : Nat) (body : List Nat) (s : State) :
    exec (.overlap dt l src dest body) s = s.live dt fun (b : Block) =>
      b.typedIn l 0x11 src dest body := rfl
theorem exec_overlapTimeout (dt : Nat) (s : State) :
    exec (.overlapTimeout dt) s = s.live dt fun (b : Block) =>
      b.overlapTimeout := rfl
theorem exec_ingestData (dt : Nat) (port : Nat) (bytes : List Nat) (s : State) :
    exec (.ingestData dt port bytes) s = s.live dt fun (b : Block) =>
      b.ingest port bytes := rfl
theorem exec_encodeBlock (dt : Nat) (s : State) :
    exec (.encodeBlock dt) s = s.live dt fun (b : Block) =>
      b.encodeNext := rfl
theorem exec_loadComplete (dt : Nat) (i : Nat) (s : State) :
    exec (.loadComplete dt i) s = s.live dt fun (b : Block) =>
      if i < 4 then b.loadComplete i else b := rfl
theorem exec_bandFill (dt : Nat) (s : State) :
    exec (.bandFill dt) s = s.live dt fun (b : Block) =>
      b.bandFill := rfl
theorem exec_lookaheadEnter (dt : Nat) (s : State) :
    exec (.lookaheadEnter dt) s = s.liveOn 1 dt fun (b : Block) =>
      (b.tangoOuts b.lookaheadEnter).commitsSettle := rfl
theorem exec_tangoFlush (dt : Nat) (s : State) :
    exec (.tangoFlush dt) s = s.liveOn 1 dt fun (b : Block) =>
      (b.tangoOuts b.tangoFlush).latResolve := rfl
theorem exec_rowEstimated (dt : Nat) (s : State) :
    exec (.rowEstimated dt) s = s.liveOn 1 dt fun (b : Block) =>
      b.tangoOuts b.rowEstimated := rfl
theorem exec_tangoLineOut (dt : Nat) (s : State) :
    exec (.tangoLineOut dt) s = s.liveOn 1 dt fun (b : Block) =>
      (b.tangoOuts b.tangoLineOut).commitsSettle := rfl
theorem exec_segLine (dt : Nat) (s : State) :
    exec (.segLine dt) s = s.live dt fun (b : Block) =>
      b.segLine.commitsSettle := rfl
theorem exec_segFlush (dt : Nat) (s : State) :
    exec (.segFlush dt) s = s.live dt fun (b : Block) =>
      b.segFlush.latResolve := rfl
theorem exec_tagClassify (dt : Nat) (s : State) :
    exec (.tagClassify dt) s = s.live dt fun (b : Block) =>
      b.tagClassify := rfl
theorem exec_tagSequence (dt : Nat) (s : State) :
    exec (.tagSequence dt) s = s.live dt fun (b : Block) =>
      b.tagSequence := rfl
theorem exec_alertPulseEnd (dt : Nat) (s : State) :
    exec (.alertPulseEnd dt) s = s.live dt fun (b : Block) =>
      b.alertPulseEnd := rfl
theorem exec_lportDatagram (dt : Nat) (s : State) :
    exec (.lportDatagram dt) s = s.live dt fun (b : Block) =>
      b.lportDatagram := rfl
theorem exec_servoPeriod (dt : Nat) (a : Nat) (s : State) :
    exec (.servoPeriod dt a) s = s.liveOn 3 dt fun (b : Block) =>
      if a < 2 then b.servoPeriod a else b := rfl
theorem exec_axisStatus (dt : Nat) (a : Nat) (bytes : List Nat) (s : State) :
    exec (.axisStatus dt a bytes) s = s.liveOn 3 dt fun (b : Block) =>
      if a < 2 then b.axisStatus a bytes else b := rfl
theorem exec_axisRespTimeout (dt : Nat) (a : Nat) (s : State) :
    exec (.axisRespTimeout dt a) s = s.liveOn 3 dt fun (b : Block) =>
      if a < 2 then b.axisRespTimeout a else b := rfl
theorem exec_markTag (dt : Nat) (a : Nat) (s : State) :
    exec (.markTag dt a) s = s.liveOn 3 dt fun (b : Block) =>
      if a < 2 then b.markTag a else b := rfl
theorem exec_markPulse (dt : Nat) (a : Nat) (s : State) :
    exec (.markPulse dt a) s = s.liveOn 3 dt fun (b : Block) =>
      if a < 2 then b.markPulse a else b := rfl
theorem exec_markPulseEnd (dt : Nat) (a : Nat) (s : State) :
    exec (.markPulseEnd dt a) s = s.live dt fun (b : Block) =>
      if a < 2 then b.markPulseEnd a else b := rfl
theorem exec_home (dt : Nat) (a : Nat) (s : State) :
    exec (.home dt a) s = s.liveOn 3 dt fun (b : Block) =>
      if a < 2 then b.axisHome a else b := rfl
theorem exec_stop (dt : Nat) (a : Nat) (s : State) :
    exec (.stop dt a) s = s.liveOn 3 dt fun (b : Block) =>
      if a < 2 then b.axisStop a else b := rfl
theorem exec_resume (dt : Nat) (a : Nat) (s : State) :
    exec (.resume dt a) s = s.liveOn 3 dt fun (b : Block) =>
      if a < 2 then b.axisResume a else b := rfl
theorem exec_clearFault (dt : Nat) (a : Nat) (s : State) :
    exec (.clearFault dt a) s = s.liveOn 3 dt fun (b : Block) =>
      if a < 2 then b.axisClearFault a else b := rfl
theorem exec_homeTimeout (dt : Nat) (a : Nat) (s : State) :
    exec (.homeTimeout dt a) s = s.liveOn 3 dt fun (b : Block) =>
      if a < 2 then b.homeTimeout a else b := rfl
theorem exec_dramRequest (dt : Nat) (q tier : Nat) (hint : Option Bool) (addr len : Nat) (data : Option (List Nat)) (flips slots : Nat) (s : State) :
    exec (.dramRequest dt q tier hint addr len data flips slots) s = s.live dt fun (b : Block) =>
      b.dramRequest q tier hint addr len data flips slots := rfl
theorem exec_requestUrgent (dt : Nat) (s : State) :
    exec (.requestUrgent dt) s = s.live dt fun (b : Block) =>
      b.requestUrgent := rfl
theorem exec_pageIdleClose (dt : Nat) (s : State) :
    exec (.pageIdleClose dt) s = s.live dt fun (b : Block) =>
      b.pageIdleClose := rfl
theorem exec_scrubRead (dt : Nat) (g flips : Nat) (s : State) :
    exec (.scrubRead dt g flips) s = s.live dt fun (b : Block) =>
      b.scrubRead g flips := rfl
theorem exec_refresh (dt : Nat) (c bank : Nat) (s : State) :
    exec (.refresh dt c bank) s = s.live dt fun (b : Block) =>
      b.dramRefresh c bank := rfl
theorem exec_mr4Poll (dt : Nat) (codes : List Nat) (hot : Bool) (s : State) :
    exec (.mr4Poll dt codes hot) s = s.live dt fun (b : Block) =>
      b.mr4Poll codes hot := rfl
theorem exec_selfRefreshEnter (dt : Nat) (s : State) :
    exec (.selfRefreshEnter dt) s = s.live dt fun (b : Block) =>
      b.selfRefresh := rfl
theorem exec_retrainCheck (dt : Nat) (drifts : List Int) (s : State) :
    exec (.retrainCheck dt drifts) s = s.live dt fun (b : Block) =>
      b.retrainCheck drifts := rfl
theorem exec_retrainDone (dt : Nat) (c : Nat) (eye : Bool) (s : State) :
    exec (.retrainDone dt c eye) s = s.live dt fun (b : Block) =>
      b.retrainDone c eye := rfl
theorem exec_configRequest (dt : Nat) (w : Option (Bool × Bool × Nat)) (s : State) :
    exec (.configRequest dt w) s = s.run dt fun (b : Block) =>
      b.configRequest w := rfl
theorem exec_linkUp (dt : Nat) (speed width : Nat) (s : State) :
    exec (.linkUp dt speed width) s = s.live dt fun (b : Block) =>
      b.hostLinkUp speed width := rfl
theorem exec_d3hotEnter (dt : Nat) (s : State) :
    exec (.d3hotEnter dt) s = s.live dt fun (b : Block) =>
      b.d3Enter := rfl
theorem exec_d0Return (dt : Nat) (s : State) :
    exec (.d0Return dt) s = s.live dt fun (b : Block) =>
      b.d0Return := rfl
theorem exec_msixUnmask (dt : Nat) (v : Nat) (s : State) :
    exec (.msixUnmask dt v) s = s.live dt fun (b : Block) =>
      if v < 64 then b.msixUnmask v else b := rfl
theorem exec_dmaGo (dt : Nat) (n : Nat) (s : State) :
    exec (.dmaGo dt n) s = s.live dt fun (b : Block) =>
      b.hostBar fun (b : Block) => b.dmaGo n := rfl
theorem exec_dmaStop (dt : Nat) (n : Nat) (s : State) :
    exec (.dmaStop dt n) s = s.live dt fun (b : Block) =>
      if n < 56 then b.hostBar fun (b : Block) => b.dmaStop n else b := rfl
theorem exec_dmaRearm (dt : Nat) (n : Nat) (s : State) :
    exec (.dmaRearm dt n) s = s.live dt fun (b : Block) =>
      if n < 56 then b.hostBar fun (b : Block) => b.dmaRearm n else b := rfl
theorem exec_dmaResponse (dt : Nat) (id : Nat) (err : Bool) (data : List Nat) (s : State) :
    exec (.dmaResponse dt id err data) s = s.live dt fun (b : Block) =>
      b.dmaResponse id err data := rfl
theorem exec_descriptorComplete (dt : Nat) (n : Nat) (s : State) :
    exec (.descriptorComplete dt n) s = s.live dt fun (b : Block) =>
      if n < 64 then b.descriptorComplete n else b := rfl
theorem exec_dmaNoack (dt : Nat) (id : Nat) (s : State) :
    exec (.dmaNoack dt id) s = s.live dt fun (b : Block) =>
      b.noackPump id := rfl
theorem exec_dmaTagReturn (dt : Nat) (id : Nat) (s : State) :
    exec (.dmaTagReturn dt id) s = s.live dt fun (b : Block) =>
      b.dmaTagReturn id := rfl
theorem exec_privDmaGo (dt : Nat) (m : Master) (i : Nat) (s : State) :
    exec (.privDmaGo dt m i) s = s.live dt fun (b : Block) =>
      (b.privGo m i).dmaPump := rfl
theorem exec_streamFlush (dt : Nat) (n : Nat) (s : State) :
    exec (.streamFlush dt n) s = s.live dt fun (b : Block) =>
      if n < 64 then b.streamFlush n else b := rfl
theorem exec_streamWaiting (dt : Nat) (i : Nat) (s : State) :
    exec (.streamWaiting dt i) s = s.live dt fun (b : Block) =>
      if i < 4 then b.streamWaiting i else b := rfl
theorem exec_h2fWrite (dt : Nat) (i w : Nat) (s : State) :
    exec (.h2fWrite dt i w) s = s.live dt fun (b : Block) =>
      b.hostBar fun (b : Block) => b.h2fWrite i (w % 2 ^ 32) := rfl
theorem exec_f2hRead (dt : Nat) (i : BoxRead) (s : State) :
    exec (.f2hRead dt i) s = s.live dt fun (b : Block) =>
      b.f2hFetch i := rfl
theorem exec_blockGo (dt : Nat) (k w : Nat) (s : State) :
    exec (.blockGo dt k w) s = s.live dt fun (b : Block) =>
      b.hostBar fun (b : Block) => b.blockCtl k w := rfl
theorem exec_blockRelease (dt : Nat) (k : Nat) (s : State) :
    exec (.blockRelease dt k) s = s.live dt fun (b : Block) =>
      b.hostBar fun (b : Block) => b.blockRelease k := rfl
theorem exec_doorbellRing (dt : Nat) (w : Nat) (s : State) :
    exec (.doorbellRing dt w) s = s.live dt fun (b : Block) =>
      b.hostBar fun (b : Block) => b.doorbellRing w := rfl
theorem exec_fwDoorbell (dt : Nat) (d : Nat) (s : State) :
    exec (.fwDoorbell dt d) s = s.live dt fun (b : Block) =>
      b.fwDoorbell d := rfl
theorem exec_tunnelBlockFill (dt : Nat) (s : State) :
    exec (.tunnelBlockFill dt) s = s.live dt fun (b : Block) =>
      b.tunnelFill := rfl
theorem exec_tunnelBlockSend (dt : Nat) (s : State) :
    exec (.tunnelBlockSend dt) s = s.live dt fun (b : Block) =>
      b.tunnelSendBlock := rfl
theorem exec_requestDeferredReply (dt : Nat) (typ tag : Nat) (s : State) :
    exec (.requestDeferredReply dt typ tag) s = s.live dt fun (b : Block) =>
      b.deferredReply typ tag := rfl
theorem exec_getStatus (dt : Nat) (m : Msg) (s : State) :
    exec (.getStatus dt m) s = s.live dt fun (b : Block) =>
      b.request 0x01 m fun (b : Block) => b.getStatus m := rfl
theorem exec_getNonce (dt : Nat) (m : Msg) (s : State) :
    exec (.getNonce dt m) s = s.live dt fun (b : Block) =>
      b.request 0x02 m fun (b : Block) => b.getNonce m := rfl
theorem exec_reset (dt : Nat) (m : Msg) (env : BootEnv) (s : State) :
    exec (.reset dt m env) s = s.live dt fun (b : Block) =>
      b.request 0x03 m fun (b : Block) => b.resetReq m env := rfl
theorem exec_stageCommit (dt : Nat) (m : Msg) (s : State) :
    exec (.stageCommit dt m) s = s.live dt fun (b : Block) =>
      b.request 0x10 (stagingMsg m 0) fun (b : Block) => b.stageCommit (stagingMsg m 0) none := rfl
theorem exec_stageOnly (dt : Nat) (m : Msg) (s : State) :
    exec (.stageOnly dt m) s = s.live dt fun (b : Block) =>
      b.request 0x10 (stagingMsg m 1) fun (b : Block) => b.stageCommit (stagingMsg m 1) none := rfl
theorem exec_stageCommitCancel (dt : Nat) (m : Msg) (s : State) :
    exec (.stageCommitCancel dt m) s = s.live dt fun (b : Block) =>
      b.request 0x10 (stagingMsg m 2) fun (b : Block) => b.stageCommit (stagingMsg m 2) none := rfl
theorem exec_control (dt : Nat) (m : Msg) (s : State) :
    exec (.control dt m) s = s.live dt fun (b : Block) =>
      b.request 0x11 m fun (b : Block) => b.control m := rfl
theorem exec_expose (dt : Nat) (m : Msg) (s : State) :
    exec (.expose dt m) s = s.live dt fun (b : Block) =>
      b.request 0x12 m fun (b : Block) => b.expose m none := rfl
theorem exec_timeStep (dt : Nat) (m : Msg) (s : State) :
    exec (.timeStep dt m) s = s.live dt fun (b : Block) =>
      b.request 0x13 m fun (b : Block) => b.timeStepReq m := rfl
theorem exec_pageJob (dt : Nat) (m : Msg) (s : State) :
    exec (.pageJob dt m) s = s.live dt fun (b : Block) =>
      b.pageDue.request 0x20 m fun (b : Block) => b.pageJobReq m := rfl
theorem exec_refLoad (dt : Nat) (m : Msg) (s : State) :
    exec (.refLoad dt m) s = s.live dt fun (b : Block) =>
      b.pageDue.request 0x21 m fun (b : Block) => b.refLoadReq m := rfl
theorem exec_refAbort (dt : Nat) (m : Msg) (s : State) :
    exec (.refAbort dt m) s = s.live dt fun (b : Block) =>
      b.pageDue.request 0x22 m fun (b : Block) => b.refAbortReq m := rfl
theorem exec_refRelease (dt : Nat) (m : Msg) (s : State) :
    exec (.refRelease dt m) s = s.live dt fun (b : Block) =>
      b.pageDue.request 0x23 m fun (b : Block) => b.refReleaseReq m := rfl
theorem exec_mapLoad (dt : Nat) (m : Msg) (s : State) :
    exec (.mapLoad dt m) s = s.live dt fun (b : Block) =>
      b.pageDue.request 0x24 m fun (b : Block) => b.mapLoadReq m := rfl
theorem exec_mapAbort (dt : Nat) (m : Msg) (s : State) :
    exec (.mapAbort dt m) s = s.live dt fun (b : Block) =>
      b.pageDue.request 0x25 m fun (b : Block) => b.mapAbortReq m := rfl
theorem exec_mapRelease (dt : Nat) (m : Msg) (s : State) :
    exec (.mapRelease dt m) s = s.live dt fun (b : Block) =>
      b.pageDue.request 0x26 m fun (b : Block) => b.mapReleaseReq m := rfl
theorem exec_mapLoadComplete (dt : Nat) (s : State) :
    exec (.mapLoadComplete dt) s = s.live dt fun (b : Block) =>
      b.mapDone := rfl
theorem exec_tableWrite (dt : Nat) (m : Msg) (data : List Nat) (ok : Bool) (s : State) :
    exec (.tableWrite dt m data ok) s = s.live dt fun (b : Block) =>
      b.request 0x30 m fun (b : Block) => b.tableWrite m data ok := rfl
theorem exec_tableRead (dt : Nat) (m : Msg) (ok : Bool) (s : State) :
    exec (.tableRead dt m ok) s = s.live dt fun (b : Block) =>
      b.request 0x31 m fun (b : Block) => b.tableRead m ok := rfl
theorem exec_refReadback (dt : Nat) (m : Msg) (ok : Bool) (s : State) :
    exec (.refReadback dt m ok) s = s.live dt fun (b : Block) =>
      b.request 0x32 m fun (b : Block) => b.refReadback m ok := rfl
theorem exec_imageUpdate (dt : Nat) (m : Msg) (data : List Nat) (ok flashOk : Bool) (s : State) :
    exec (.imageUpdate dt m data ok flashOk) s = s.live dt fun (b : Block) =>
      b.request 0x40 m fun (b : Block) => b.imageUpdate m data ok flashOk := rfl
theorem exec_secure (dt : Nat) (m : Msg) (vfuse : Bool) (env : BootEnv) (s : State) :
    exec (.secure dt m vfuse env) s = s.live dt fun (b : Block) =>
      b.request 0x50 m fun (b : Block) => b.lifeReq 0x50 m vfuse env := rfl
theorem exec_scrap (dt : Nat) (m : Msg) (vfuse : Bool) (env : BootEnv) (s : State) :
    exec (.scrap dt m vfuse env) s = s.live dt fun (b : Block) =>
      b.request 0x51 m fun (b : Block) => b.lifeReq 0x51 m vfuse env := rfl
theorem exec_rma (dt : Nat) (m : Msg) (vfuse : Bool) (env : BootEnv) (s : State) :
    exec (.rma dt m vfuse env) s = s.live dt fun (b : Block) =>
      b.request 0x52 m fun (b : Block) => b.lifeReq 0x52 m vfuse env := rfl
theorem exec_keyAdd (dt : Nat) (m : Msg) (vfuse : Bool) (env : BootEnv) (s : State) :
    exec (.keyAdd dt m vfuse env) s = s.live dt fun (b : Block) =>
      b.request 0x53 m fun (b : Block) => b.lifeReq 0x53 m vfuse env := rfl
theorem exec_keyRevoke (dt : Nat) (m : Msg) (vfuse : Bool) (env : BootEnv) (s : State) :
    exec (.keyRevoke dt m vfuse env) s = s.live dt fun (b : Block) =>
      b.request 0x54 m fun (b : Block) => b.lifeReq 0x54 m vfuse env := rfl
theorem exec_rollback (dt : Nat) (m : Msg) (vfuse : Bool) (env : BootEnv) (s : State) :
    exec (.rollback dt m vfuse env) s = s.live dt fun (b : Block) =>
      b.request 0x55 m fun (b : Block) => b.lifeReq 0x55 m vfuse env := rfl
theorem exec_debugDisable (dt : Nat) (m : Msg) (vfuse : Bool) (env : BootEnv) (s : State) :
    exec (.debugDisable dt m vfuse env) s = s.live dt fun (b : Block) =>
      b.request 0x56 m fun (b : Block) => b.lifeReq 0x56 m vfuse env := rfl
theorem exec_calLane (dt : Nat) (m : Msg) (s : State) :
    exec (.calLane dt m) s = s.live dt fun (b : Block) =>
      b.calRun 1 m := rfl
theorem exec_calDram (dt : Nat) (m : Msg) (s : State) :
    exec (.calDram dt m) s = s.live dt fun (b : Block) =>
      b.calRun 2 m := rfl
theorem exec_calSenseOfs (dt : Nat) (m : Msg) (s : State) :
    exec (.calSenseOfs dt m) s = s.live dt fun (b : Block) =>
      b.calRun 3 m := rfl
theorem exec_calSenseGain (dt : Nat) (m : Msg) (s : State) :
    exec (.calSenseGain dt m) s = s.live dt fun (b : Block) =>
      b.calRun 4 m := rfl
theorem exec_calEncoder (dt : Nat) (m : Msg) (s : State) :
    exec (.calEncoder dt m) s = s.live dt fun (b : Block) =>
      b.calRun 5 m := rfl
theorem exec_calThermal (dt : Nat) (m : Msg) (s : State) :
    exec (.calThermal dt m) s = s.live dt fun (b : Block) =>
      b.calRun 6 m := rfl
theorem exec_calTempo (dt : Nat) (m : Msg) (s : State) :
    exec (.calTempo dt m) s = s.live dt fun (b : Block) =>
      b.calRun 7 m := rfl
theorem exec_calBlack (dt : Nat) (m : Msg) (s : State) :
    exec (.calBlack dt m) s = s.live dt fun (b : Block) =>
      b.calRun 8 m := rfl
theorem exec_calFlat (dt : Nat) (m : Msg) (s : State) :
    exec (.calFlat dt m) s = s.live dt fun (b : Block) =>
      b.calRun 9 m := rfl
theorem exec_calGeom (dt : Nat) (m : Msg) (s : State) :
    exec (.calGeom dt m) s = s.live dt fun (b : Block) =>
      b.calRun 10 m := rfl
theorem exec_calSeam (dt : Nat) (m : Msg) (s : State) :
    exec (.calSeam dt m) s = s.live dt fun (b : Block) =>
      b.calRun 11 m := rfl
theorem exec_calDone (dt : Nat) (e : CalEnd) (s : State) :
    exec (.calDone dt e) s = s.live dt fun (b : Block) =>
      b.calDone e := rfl
theorem exec_journalCompact (dt : Nat) (s : State) :
    exec (.journalCompact dt) s = s.live dt fun (b : Block) =>
      b.journalCompact := rfl
theorem exec_calQSelect (dt : Nat) (m : Master) (v : Nat) (s : State) :
    exec (.calQSelect dt m v) s = s.live dt fun (b : Block) =>
      b.writeAt m 0 uCal F.CAL.Q_SEL_PROC.off v := rfl
theorem exec_flitReceive (dt : Nat) (l : Nat) (raw : List Nat) (s : State) :
    exec (.flitReceive dt l raw) s = s.live dt fun (b : Block) =>
      b.flitReceive l raw := rfl
theorem exec_linkFail (dt : Nat) (l : Nat) (s : State) :
    exec (.linkFail dt l) s = s.live dt fun (b : Block) =>
      b.linkFail l := rfl
theorem exec_reelStart (dt : Nat) (s : State) :
    exec (.reelStart dt) s = s.liveOn 2 dt fun (b : Block) =>
      b.reelStart := rfl
theorem exec_reel (dt : Nat) (l src dest : Nat) (body : List Nat) (s : State) :
    exec (.reel dt l src dest body) s = s.live dt fun (b : Block) =>
      b.typedIn l 0x01 src dest body := rfl
theorem exec_uplCredit (dt : Nat) (received : Option (List Nat)) (s : State) :
    exec (.uplCredit dt received) s = s.liveOn 2 dt fun (b : Block) =>
      match received with
      | some body => b.typedIn 2 0x07 0 0 body
      | none => b.uplCreditSend := rfl
theorem exec_ident (dt : Nat) (l src dest : Nat) (body : List Nat) (s : State) :
    exec (.ident dt l src dest body) s = s.live dt fun (b : Block) =>
      b.typedIn l 0x08 src dest body := rfl
theorem exec_identResend (dt : Nat) (l : Nat) (s : State) :
    exec (.identResend dt l) s = s.liveOn 2 dt fun (b : Block) =>
      b.identResend l := rfl
theorem exec_enum (dt : Nat) (l src dest : Nat) (body : List Nat) (s : State) :
    exec (.enum dt l src dest body) s = s.live dt fun (b : Block) =>
      b.typedIn l 0x02 src dest body := rfl
theorem exec_enumCutoff (dt : Nat) (s : State) :
    exec (.enumCutoff dt) s = s.liveOn 2 dt fun (b : Block) =>
      b.enumCutoff := rfl
theorem exec_result (dt : Nat) (l src dest : Nat) (body : List Nat) (s : State) :
    exec (.result dt l src dest body) s = s.live dt fun (b : Block) =>
      b.typedIn l 0x03 src dest body := rfl
theorem exec_insertRetry (dt : Nat) (s : State) :
    exec (.insertRetry dt) s = s.liveOn 2 dt fun (b : Block) =>
      b.insertRetry := rfl
theorem exec_ringTimeExchange (dt : Nat) (l : Nat) (s : State) :
    exec (.ringTimeExchange dt l) s = s.liveOn 2 dt fun (b : Block) =>
      b.timeExchange l := rfl
theorem exec_ringTime (dt : Nat) (l src dest : Nat) (body : List Nat) (s : State) :
    exec (.ringTime dt l src dest body) s = s.live dt fun (b : Block) =>
      b.typedIn l 0x04 src dest body := rfl
theorem exec_position (dt : Nat) (l src dest : Nat) (body : List Nat) (s : State) :
    exec (.position dt l src dest body) s = s.live dt fun (b : Block) =>
      b.typedIn l 0x05 src dest body := rfl
theorem exec_positionTimeout (dt : Nat) (s : State) :
    exec (.positionTimeout dt) s = s.live dt fun (b : Block) =>
      b.positionTimeout := rfl
theorem exec_seqBeaconSend (dt : Nat) (s : State) :
    exec (.seqBeaconSend dt) s = s.liveOn 2 dt fun (b : Block) =>
      b.beaconSend := rfl
theorem exec_seqBeacon (dt : Nat) (l src dest : Nat) (body : List Nat) (s : State) :
    exec (.seqBeacon dt l src dest body) s = s.live dt fun (b : Block) =>
      b.typedIn l 0x06 src dest body := rfl
theorem exec_ringMailbox (dt : Nat) (l src dest : Nat) (body : List Nat) (s : State) :
    exec (.ringMailbox dt l src dest body) s = s.live dt fun (b : Block) =>
      b.typedIn l 0x20 src dest body := rfl
theorem exec_sysaccReq (dt : Nat) (l src dest : Nat) (body : List Nat) (s : State) :
    exec (.sysaccReq dt l src dest body) s = s.live dt fun (b : Block) =>
      b.typedIn l 0x22 src dest body := rfl
theorem exec_sysaccRsp (dt : Nat) (l src dest : Nat) (body : List Nat) (s : State) :
    exec (.sysaccRsp dt l src dest body) s = s.live dt fun (b : Block) =>
      b.typedIn l 0x23 src dest body := rfl
theorem exec_bulk (dt : Nat) (l : Nat) (c : Bool) (src dest : Nat) (body : List Nat) (s : State) :
    exec (.bulk dt l c src dest body) s = s.live dt fun (b : Block) =>
      b.typedIn l (if c then 0x31 else 0x30) src dest body := rfl
theorem exec_commitGroup (dt : Nat) (l src dest : Nat) (body : List Nat) (s : State) :
    exec (.commitGroup dt l src dest body) s = s.live dt fun (b : Block) =>
      b.typedIn l 0x24 src dest body := rfl
theorem exec_commitApplied (dt : Nat) (l src dest : Nat) (body : List Nat) (s : State) :
    exec (.commitApplied dt l src dest body) s = s.live dt fun (b : Block) =>
      b.typedIn l 0x25 src dest body := rfl
theorem exec_eventArrival (dt : Nat) (p src : Nat) (s : State) :
    exec (.eventArrival dt p src) s = s.live dt fun (b : Block) =>
      if Block.producer p then b.raiseFrom p src else b := rfl
theorem exec_eventDelivery (dt : Nat) (c : Nat) (s : State) :
    exec (.eventDelivery dt c) s = s.live dt fun (b : Block) =>
      b.eventDelivery c := rfl
theorem exec_ringEvent (dt : Nat) (l src dest : Nat) (body : List Nat) (s : State) :
    exec (.ringEvent dt l src dest body) s = s.live dt fun (b : Block) =>
      b.typedIn l 0x21 src dest body := rfl
theorem exec_exportDrop (dt : Nat) (c : Nat) (s : State) :
    exec (.exportDrop dt c) s = s.live dt fun (b : Block) =>
      b.exportDrop c := rfl
theorem exec_swHost (dt : Nat) (w : Nat) (s : State) :
    exec (.swHost dt w) s = s.live dt fun (b : Block) =>
      b.hostBar fun (b : Block) => b.swRaise 212 w := rfl
theorem exec_swFw (dt : Nat) (w : Nat) (s : State) :
    exec (.swFw dt w) s = s.live dt fun (b : Block) =>
      b.swRaise 228 w := rfl
theorem exec_clrCoal (dt : Nat) (c : Nat) (s : State) :
    exec (.clrCoal dt c) s = s.live dt fun (b : Block) =>
      if c < 128 then b.clrCoal c else b := rfl
theorem exec_gpioEdge (dt : Nat) (k : Nat) (high : Bool) (s : State) :
    exec (.gpioEdge dt k high) s = s.live dt fun (b : Block) =>
      b.gpioEdge k high := rfl
theorem exec_gpioPulseEnd (dt : Nat) (k : Nat) (s : State) :
    exec (.gpioPulseEnd dt k) s = s.live dt fun (b : Block) =>
      b.gpioPulseEnd k := rfl
theorem exec_errlogWrite (dt : Nat) (s : State) :
    exec (.errlogWrite dt) s = s.live dt fun (b : Block) =>
      b.errlogWrite := rfl
theorem exec_errlogSelect (dt : Nat) (m : Master) (v : Nat) (s : State) :
    exec (.errlogSelect dt m v) s = s.live dt fun (b : Block) =>
      b.writeAt m 0 uErrlog F.ERRLOG.SEL_SEQ.off v := rfl
theorem exec_shutdownLatchClear (dt : Nat) (s : State) :
    exec (.shutdownLatchClear dt) s = s.run dt fun (b : Block) =>
      b.latchClear := rfl
theorem exec_perstnFallBeforeRunning (dt : Nat) (s : State) :
    exec (.perstnFallBeforeRunning dt) s = s.run dt fun (b : Block) =>
      b.perstnFallEarly := rfl
theorem exec_quadratureEdge (dt : Nat) (e : Nat) (a z : Bool) (s : State) :
    exec (.quadratureEdge dt e a z) s = s.run dt fun (b : Block) =>
      b.passed (if e < 2 then [.encoderAB e a z] else []) 3 fun t => t.quadratureEdge e a z := rfl
theorem exec_laneEyeUpdate (dt : Nat) (p l h w loss symerr cor unc : Nat) (s : State) :
    exec (.laneEyeUpdate dt p l h w loss symerr cor unc) s = s.live dt fun (b : Block) =>
      b.laneEye p l h w loss symerr cor unc := rfl
theorem exec_tunnelFrameSent (dt : Nat) (k : Nat) (s : State) :
    exec (.tunnelFrameSent dt k) s = s.live dt fun (b : Block) =>
      if k < 12 then b.tunnelFrameSent k else b := rfl
theorem exec_bypassConnected (dt : Nat) (s : State) :
    exec (.bypassConnected dt) s = s.live dt fun (b : Block) =>
      b.bypassConnected := rfl
theorem exec_calTimeout (dt : Nat) (bad : Nat) (s : State) :
    exec (.calTimeout dt bad) s = s.live dt fun (b : Block) =>
      b.calTimeout bad := rfl

/-- Every other command acts only in a released device. -/
theorem exec_released : ∀ c : Instr, actsUnreleased c = false → ∃ dt f, ∀ s : State, exec c s = s.live dt f
  | .registerWrite dt m dev bar2 addr be n w, _ => ⟨_, _, exec_registerWrite dt m dev bar2 addr be n w⟩
  | .stagedWrite dt m u reg w, _ => ⟨_, _, exec_stagedWrite dt m u reg w⟩
  | .commit dt m u bnd tag, _ => ⟨_, _, exec_commit dt m u bnd tag⟩
  | .commitCancel dt m u, _ => ⟨_, _, exec_commitCancel dt m u⟩
  | .commitApply dt u line page pageLine first, _ => ⟨_, _, exec_commitApply dt u line page pageLine first⟩
  | .semRead dt m dev n, _ => ⟨_, _, exec_semRead dt m dev n⟩
  | .semRelease dt m dev n w, _ => ⟨_, _, exec_semRelease dt m dev n w⟩
  | .sramScrub dt u a errs, _ => ⟨_, _, exec_sramScrub dt u a errs⟩
  | .powerOn _ _, h => nomatch h
  | .oscStableTimeout _, h => nomatch h
  | .flashTimeout _, h => nomatch h
  | .alive dt flashOk, _ => ⟨_, _, exec_alive dt flashOk⟩
  | .aliveTimeout _, h => nomatch h
  | .seal dt, _ => ⟨_, _, exec_seal dt⟩
  | .sealDeadline dt, _ => ⟨_, _, exec_sealDeadline dt⟩
  | .dramTrainingDone dt ok eyes, _ => ⟨_, _, exec_dramTrainingDone dt ok eyes⟩
  | .dramWipeDone dt, _ => ⟨_, _, exec_dramWipeDone dt⟩
  | .running dt, _ => ⟨_, _, exec_running dt⟩
  | .perstnRise _, h => nomatch h
  | .porFall _, h => nomatch h
  | .supplyOutOfRange _, h => nomatch h
  | .supplyRestored _ _, h => nomatch h
  | .devReset dt env, _ => ⟨_, _, exec_devReset dt env⟩
  | .coreWatchdog dt c env, _ => ⟨_, _, exec_coreWatchdog dt c env⟩
  | .coreReset dt c, _ => ⟨_, _, exec_coreReset dt c⟩
  | .hostPortReset dt kind, _ => ⟨_, _, exec_hostPortReset dt kind⟩
  | .itoFail _, h => nomatch h
  | .watchFail _, h => nomatch h
  | .xtalFail _, h => nomatch h
  | .pllFail _ _, h => nomatch h
  | .refFail _, h => nomatch h
  | .refRecovered _, h => nomatch h
  | .gateClose dt g busy, _ => ⟨_, _, exec_gateClose dt g busy⟩
  | .gateClosed dt g, _ => ⟨_, _, exec_gateClosed dt g⟩
  | .gateTimeout dt g, _ => ⟨_, _, exec_gateTimeout dt g⟩
  | .gateOpen dt g, _ => ⟨_, _, exec_gateOpen dt g⟩
  | .tmonWindow dt raw loads, _ => ⟨_, _, exec_tmonWindow dt raw loads⟩
  | .governorDescend dt, _ => ⟨_, _, exec_governorDescend dt⟩
  | .clearMin dt, _ => ⟨_, _, exec_clearMin dt⟩
  | .pstateTarget dt req, _ => ⟨_, _, exec_pstateTarget dt req⟩
  | .pstateChangeDone dt, _ => ⟨_, _, exec_pstateChangeDone dt⟩
  | .tempoShort dt, _ => ⟨_, _, exec_tempoShort dt⟩
  | .avsFail dt cmd step, _ => ⟨_, _, exec_avsFail dt cmd step⟩
  | .avsAlert dt faults, _ => ⟨_, _, exec_avsAlert dt faults⟩
  | .avsPoll dt mv raw, _ => ⟨_, _, exec_avsPoll dt mv raw⟩
  | .thmConversion _ _, h => nomatch h
  | .sensorTimeout _ _, h => nomatch h
  | .graceExpired dt, _ => ⟨_, _, exec_graceExpired dt⟩
  | .relaxStep dt, _ => ⟨_, _, exec_relaxStep dt⟩
  | .clearPeak dt strip, _ => ⟨_, _, exec_clearPeak dt strip⟩
  | .portEnable dt p, _ => ⟨_, _, exec_portEnable dt p⟩
  | .signalQualified dt p, _ => ⟨_, _, exec_signalQualified dt p⟩
  | .cdrLocked dt p, _ => ⟨_, _, exec_cdrLocked dt p⟩
  | .trainingFrame dt p l frame, _ => ⟨_, _, exec_trainingFrame dt p l frame⟩
  | .trainingComplete dt p eq, _ => ⟨_, _, exec_trainingComplete dt p eq⟩
  | .adaptConverged dt p ctle, _ => ⟨_, _, exec_adaptConverged dt p ctle⟩
  | .blockLock dt p seen, _ => ⟨_, _, exec_blockLock dt p seen⟩
  | .alignDone dt p order fec deskew, _ => ⟨_, _, exec_alignDone dt p order fec deskew⟩
  | .check dt p figs, _ => ⟨_, _, exec_check dt p figs⟩
  | .bringupTimeout dt p, _ => ⟨_, _, exec_bringupTimeout dt p⟩
  | .linkDown dt p, _ => ⟨_, _, exec_linkDown dt p⟩
  | .holdoffExpired dt p, _ => ⟨_, _, exec_holdoffExpired dt p⟩
  | .bypassOpen dt vbyp, _ => ⟨_, _, exec_bypassOpen dt vbyp⟩
  | .bypassClose dt forced, _ => ⟨_, _, exec_bypassClose dt forced⟩
  | .clearCnt dt u, _ => ⟨_, _, exec_clearCnt dt u⟩
  | .camFrame dt k frame fcsOk overflow, _ => ⟨_, _, exec_camFrame dt k frame fcsOk overflow⟩
  | .gvspLeader dt k id ts ld, _ => ⟨_, _, exec_gvspLeader dt k id ts ld⟩
  | .gvspPayload dt k id pid data overflow, _ => ⟨_, _, exec_gvspPayload dt k id pid data overflow⟩
  | .gvspTrailer dt k id pid sizeY, _ => ⟨_, _, exec_gvspTrailer dt k id pid sizeY⟩
  | .entryTimeout dt k, _ => ⟨_, _, exec_entryTimeout dt k⟩
  | .triggerPulse dt, _ => ⟨_, _, exec_triggerPulse dt⟩
  | .triggerPulseEnd dt k, _ => ⟨_, _, exec_triggerPulseEnd dt k⟩
  | .lportFrame dt raw fcsOk o, _ => ⟨_, _, exec_lportFrame dt raw fcsOk o⟩
  | .ptpSync dt d sender seq logInterval twoStep o, _ => ⟨_, _, exec_ptpSync dt d sender seq logInterval twoStep o⟩
  | .ptpFollowUp dt d sender seq, _ => ⟨_, _, exec_ptpFollowUp dt d sender seq⟩
  | .ptpDelayResp dt d r, _ => ⟨_, _, exec_ptpDelayResp dt d r⟩
  | .ptpAnnounce dt d info, _ => ⟨_, _, exec_ptpAnnounce dt d info⟩
  | .announceTimeout dt d, _ => ⟨_, _, exec_announceTimeout dt d⟩
  | .holdoverExpired dt, _ => ⟨_, _, exec_holdoverExpired dt⟩
  | .revertExpired dt, _ => ⟨_, _, exec_revertExpired dt⟩
  | .slewDone dt, _ => ⟨_, _, exec_slewDone dt⟩
  | .delayReqSend dt d, _ => ⟨_, _, exec_delayReqSend dt d⟩
  | .camSyncSend dt k, _ => ⟨_, _, exec_camSyncSend dt k⟩
  | .camAnnounceSend dt k, _ => ⟨_, _, exec_camAnnounceSend dt k⟩
  | .delayReq dt k seq requester back, _ => ⟨_, _, exec_delayReq dt k seq requester back⟩
  | .stepGo dt, _ => ⟨_, _, exec_stepGo dt⟩
  | .domainForce dt v, _ => ⟨_, _, exec_domainForce dt v⟩
  | .nowLatch dt m, _ => ⟨_, _, exec_nowLatch dt m⟩
  | .tsqPop dt m p, _ => ⟨_, _, exec_tsqPop dt m p⟩
  | .timeAnchor dt, _ => ⟨_, _, exec_timeAnchor dt⟩
  | .senseOutput dt c mods, _ => ⟨_, _, exec_senseOutput dt c mods⟩
  | .ssGo dt c, _ => ⟨_, _, exec_ssGo dt c⟩
  | .ssDone dt c mods, _ => ⟨_, _, exec_ssDone dt c mods⟩
  | .modOverload dt c, _ => ⟨_, _, exec_modOverload dt c⟩
  | .virtualValue dt c n, _ => ⟨_, _, exec_virtualValue dt c n⟩
  | .senseStale dt c, _ => ⟨_, _, exec_senseStale dt c⟩
  | .bankSwap dt sel, _ => ⟨_, _, exec_bankSwap dt sel⟩
  | .observerUpdate _ _ _, h => nomatch h
  | .coastTimeout dt, _ => ⟨_, _, exec_coastTimeout dt⟩
  | .pageSync dt ago, _ => ⟨_, _, exec_pageSync dt ago⟩
  | .zIndex _ _, h => nomatch h
  | .webPosLatch dt m, _ => ⟨_, _, exec_webPosLatch dt m⟩
  | .webHwmLatch dt m, _ => ⟨_, _, exec_webHwmLatch dt m⟩
  | .webLineLatch dt m, _ => ⟨_, _, exec_webLineLatch dt m⟩
  | .encZposLatch dt m e, _ => ⟨_, _, exec_encZposLatch dt m e⟩
  | .stripLine dt strip, _ => ⟨_, _, exec_stripLine dt strip⟩
  | .tblDataWrite dt m x w, _ => ⟨_, _, exec_tblDataWrite dt m x w⟩
  | .tblDataRead dt m x, _ => ⟨_, _, exec_tblDataRead dt m x⟩
  | .geoDataWrite dt m x w, _ => ⟨_, _, exec_geoDataWrite dt m x w⟩
  | .geoDataRead dt m x, _ => ⟨_, _, exec_geoDataRead dt m x⟩
  | .stitchDeliver dt x, _ => ⟨_, _, exec_stitchDeliver dt x⟩
  | .stitchLineOut dt, _ => ⟨_, _, exec_stitchLineOut dt⟩
  | .overlap dt l src dest body, _ => ⟨_, _, exec_overlap dt l src dest body⟩
  | .overlapTimeout dt, _ => ⟨_, _, exec_overlapTimeout dt⟩
  | .ingestData dt port bytes, _ => ⟨_, _, exec_ingestData dt port bytes⟩
  | .encodeBlock dt, _ => ⟨_, _, exec_encodeBlock dt⟩
  | .loadComplete dt i, _ => ⟨_, _, exec_loadComplete dt i⟩
  | .bandFill dt, _ => ⟨_, _, exec_bandFill dt⟩
  | .lookaheadEnter dt, _ => ⟨_, _, exec_lookaheadEnter dt⟩
  | .tangoFlush dt, _ => ⟨_, _, exec_tangoFlush dt⟩
  | .rowEstimated dt, _ => ⟨_, _, exec_rowEstimated dt⟩
  | .tangoLineOut dt, _ => ⟨_, _, exec_tangoLineOut dt⟩
  | .segLine dt, _ => ⟨_, _, exec_segLine dt⟩
  | .segFlush dt, _ => ⟨_, _, exec_segFlush dt⟩
  | .tagClassify dt, _ => ⟨_, _, exec_tagClassify dt⟩
  | .tagSequence dt, _ => ⟨_, _, exec_tagSequence dt⟩
  | .alertPulseEnd dt, _ => ⟨_, _, exec_alertPulseEnd dt⟩
  | .lportDatagram dt, _ => ⟨_, _, exec_lportDatagram dt⟩
  | .servoPeriod dt a, _ => ⟨_, _, exec_servoPeriod dt a⟩
  | .axisStatus dt a bytes, _ => ⟨_, _, exec_axisStatus dt a bytes⟩
  | .axisRespTimeout dt a, _ => ⟨_, _, exec_axisRespTimeout dt a⟩
  | .markTag dt a, _ => ⟨_, _, exec_markTag dt a⟩
  | .markPulse dt a, _ => ⟨_, _, exec_markPulse dt a⟩
  | .markPulseEnd dt a, _ => ⟨_, _, exec_markPulseEnd dt a⟩
  | .home dt a, _ => ⟨_, _, exec_home dt a⟩
  | .stop dt a, _ => ⟨_, _, exec_stop dt a⟩
  | .resume dt a, _ => ⟨_, _, exec_resume dt a⟩
  | .clearFault dt a, _ => ⟨_, _, exec_clearFault dt a⟩
  | .homeTimeout dt a, _ => ⟨_, _, exec_homeTimeout dt a⟩
  | .dramRequest dt q tier hint addr len data flips slots, _ => ⟨_, _, exec_dramRequest dt q tier hint addr len data flips slots⟩
  | .requestUrgent dt, _ => ⟨_, _, exec_requestUrgent dt⟩
  | .pageIdleClose dt, _ => ⟨_, _, exec_pageIdleClose dt⟩
  | .scrubRead dt g flips, _ => ⟨_, _, exec_scrubRead dt g flips⟩
  | .refresh dt c bank, _ => ⟨_, _, exec_refresh dt c bank⟩
  | .mr4Poll dt codes hot, _ => ⟨_, _, exec_mr4Poll dt codes hot⟩
  | .selfRefreshEnter dt, _ => ⟨_, _, exec_selfRefreshEnter dt⟩
  | .retrainCheck dt drifts, _ => ⟨_, _, exec_retrainCheck dt drifts⟩
  | .retrainDone dt c eye, _ => ⟨_, _, exec_retrainDone dt c eye⟩
  | .configRequest _ _, h => nomatch h
  | .linkUp dt speed width, _ => ⟨_, _, exec_linkUp dt speed width⟩
  | .d3hotEnter dt, _ => ⟨_, _, exec_d3hotEnter dt⟩
  | .d0Return dt, _ => ⟨_, _, exec_d0Return dt⟩
  | .msixUnmask dt v, _ => ⟨_, _, exec_msixUnmask dt v⟩
  | .dmaGo dt n, _ => ⟨_, _, exec_dmaGo dt n⟩
  | .dmaStop dt n, _ => ⟨_, _, exec_dmaStop dt n⟩
  | .dmaRearm dt n, _ => ⟨_, _, exec_dmaRearm dt n⟩
  | .dmaResponse dt id err data, _ => ⟨_, _, exec_dmaResponse dt id err data⟩
  | .descriptorComplete dt n, _ => ⟨_, _, exec_descriptorComplete dt n⟩
  | .dmaNoack dt id, _ => ⟨_, _, exec_dmaNoack dt id⟩
  | .dmaTagReturn dt id, _ => ⟨_, _, exec_dmaTagReturn dt id⟩
  | .privDmaGo dt m i, _ => ⟨_, _, exec_privDmaGo dt m i⟩
  | .streamFlush dt n, _ => ⟨_, _, exec_streamFlush dt n⟩
  | .streamWaiting dt i, _ => ⟨_, _, exec_streamWaiting dt i⟩
  | .h2fWrite dt i w, _ => ⟨_, _, exec_h2fWrite dt i w⟩
  | .f2hRead dt i, _ => ⟨_, _, exec_f2hRead dt i⟩
  | .blockGo dt k w, _ => ⟨_, _, exec_blockGo dt k w⟩
  | .blockRelease dt k, _ => ⟨_, _, exec_blockRelease dt k⟩
  | .doorbellRing dt w, _ => ⟨_, _, exec_doorbellRing dt w⟩
  | .fwDoorbell dt d, _ => ⟨_, _, exec_fwDoorbell dt d⟩
  | .tunnelBlockFill dt, _ => ⟨_, _, exec_tunnelBlockFill dt⟩
  | .tunnelBlockSend dt, _ => ⟨_, _, exec_tunnelBlockSend dt⟩
  | .requestDeferredReply dt typ tag, _ => ⟨_, _, exec_requestDeferredReply dt typ tag⟩
  | .getStatus dt m, _ => ⟨_, _, exec_getStatus dt m⟩
  | .getNonce dt m, _ => ⟨_, _, exec_getNonce dt m⟩
  | .reset dt m env, _ => ⟨_, _, exec_reset dt m env⟩
  | .stageCommit dt m, _ => ⟨_, _, exec_stageCommit dt m⟩
  | .stageOnly dt m, _ => ⟨_, _, exec_stageOnly dt m⟩
  | .stageCommitCancel dt m, _ => ⟨_, _, exec_stageCommitCancel dt m⟩
  | .control dt m, _ => ⟨_, _, exec_control dt m⟩
  | .expose dt m, _ => ⟨_, _, exec_expose dt m⟩
  | .timeStep dt m, _ => ⟨_, _, exec_timeStep dt m⟩
  | .pageJob dt m, _ => ⟨_, _, exec_pageJob dt m⟩
  | .refLoad dt m, _ => ⟨_, _, exec_refLoad dt m⟩
  | .refAbort dt m, _ => ⟨_, _, exec_refAbort dt m⟩
  | .refRelease dt m, _ => ⟨_, _, exec_refRelease dt m⟩
  | .mapLoad dt m, _ => ⟨_, _, exec_mapLoad dt m⟩
  | .mapAbort dt m, _ => ⟨_, _, exec_mapAbort dt m⟩
  | .mapRelease dt m, _ => ⟨_, _, exec_mapRelease dt m⟩
  | .mapLoadComplete dt, _ => ⟨_, _, exec_mapLoadComplete dt⟩
  | .tableWrite dt m data ok, _ => ⟨_, _, exec_tableWrite dt m data ok⟩
  | .tableRead dt m ok, _ => ⟨_, _, exec_tableRead dt m ok⟩
  | .refReadback dt m ok, _ => ⟨_, _, exec_refReadback dt m ok⟩
  | .imageUpdate dt m data ok flashOk, _ => ⟨_, _, exec_imageUpdate dt m data ok flashOk⟩
  | .secure dt m vfuse env, _ => ⟨_, _, exec_secure dt m vfuse env⟩
  | .scrap dt m vfuse env, _ => ⟨_, _, exec_scrap dt m vfuse env⟩
  | .rma dt m vfuse env, _ => ⟨_, _, exec_rma dt m vfuse env⟩
  | .keyAdd dt m vfuse env, _ => ⟨_, _, exec_keyAdd dt m vfuse env⟩
  | .keyRevoke dt m vfuse env, _ => ⟨_, _, exec_keyRevoke dt m vfuse env⟩
  | .rollback dt m vfuse env, _ => ⟨_, _, exec_rollback dt m vfuse env⟩
  | .debugDisable dt m vfuse env, _ => ⟨_, _, exec_debugDisable dt m vfuse env⟩
  | .calLane dt m, _ => ⟨_, _, exec_calLane dt m⟩
  | .calDram dt m, _ => ⟨_, _, exec_calDram dt m⟩
  | .calSenseOfs dt m, _ => ⟨_, _, exec_calSenseOfs dt m⟩
  | .calSenseGain dt m, _ => ⟨_, _, exec_calSenseGain dt m⟩
  | .calEncoder dt m, _ => ⟨_, _, exec_calEncoder dt m⟩
  | .calThermal dt m, _ => ⟨_, _, exec_calThermal dt m⟩
  | .calTempo dt m, _ => ⟨_, _, exec_calTempo dt m⟩
  | .calBlack dt m, _ => ⟨_, _, exec_calBlack dt m⟩
  | .calFlat dt m, _ => ⟨_, _, exec_calFlat dt m⟩
  | .calGeom dt m, _ => ⟨_, _, exec_calGeom dt m⟩
  | .calSeam dt m, _ => ⟨_, _, exec_calSeam dt m⟩
  | .calDone dt e, _ => ⟨_, _, exec_calDone dt e⟩
  | .journalCompact dt, _ => ⟨_, _, exec_journalCompact dt⟩
  | .calQSelect dt m v, _ => ⟨_, _, exec_calQSelect dt m v⟩
  | .flitReceive dt l raw, _ => ⟨_, _, exec_flitReceive dt l raw⟩
  | .linkFail dt l, _ => ⟨_, _, exec_linkFail dt l⟩
  | .reelStart dt, _ => ⟨_, _, exec_reelStart dt⟩
  | .reel dt l src dest body, _ => ⟨_, _, exec_reel dt l src dest body⟩
  | .uplCredit dt received, _ => ⟨_, _, exec_uplCredit dt received⟩
  | .ident dt l src dest body, _ => ⟨_, _, exec_ident dt l src dest body⟩
  | .identResend dt l, _ => ⟨_, _, exec_identResend dt l⟩
  | .enum dt l src dest body, _ => ⟨_, _, exec_enum dt l src dest body⟩
  | .enumCutoff dt, _ => ⟨_, _, exec_enumCutoff dt⟩
  | .result dt l src dest body, _ => ⟨_, _, exec_result dt l src dest body⟩
  | .insertRetry dt, _ => ⟨_, _, exec_insertRetry dt⟩
  | .ringTimeExchange dt l, _ => ⟨_, _, exec_ringTimeExchange dt l⟩
  | .ringTime dt l src dest body, _ => ⟨_, _, exec_ringTime dt l src dest body⟩
  | .position dt l src dest body, _ => ⟨_, _, exec_position dt l src dest body⟩
  | .positionTimeout dt, _ => ⟨_, _, exec_positionTimeout dt⟩
  | .seqBeaconSend dt, _ => ⟨_, _, exec_seqBeaconSend dt⟩
  | .seqBeacon dt l src dest body, _ => ⟨_, _, exec_seqBeacon dt l src dest body⟩
  | .ringMailbox dt l src dest body, _ => ⟨_, _, exec_ringMailbox dt l src dest body⟩
  | .sysaccReq dt l src dest body, _ => ⟨_, _, exec_sysaccReq dt l src dest body⟩
  | .sysaccRsp dt l src dest body, _ => ⟨_, _, exec_sysaccRsp dt l src dest body⟩
  | .bulk dt l c src dest body, _ => ⟨_, _, exec_bulk dt l c src dest body⟩
  | .commitGroup dt l src dest body, _ => ⟨_, _, exec_commitGroup dt l src dest body⟩
  | .commitApplied dt l src dest body, _ => ⟨_, _, exec_commitApplied dt l src dest body⟩
  | .eventArrival dt p src, _ => ⟨_, _, exec_eventArrival dt p src⟩
  | .eventDelivery dt c, _ => ⟨_, _, exec_eventDelivery dt c⟩
  | .ringEvent dt l src dest body, _ => ⟨_, _, exec_ringEvent dt l src dest body⟩
  | .exportDrop dt c, _ => ⟨_, _, exec_exportDrop dt c⟩
  | .swHost dt w, _ => ⟨_, _, exec_swHost dt w⟩
  | .swFw dt w, _ => ⟨_, _, exec_swFw dt w⟩
  | .clrCoal dt c, _ => ⟨_, _, exec_clrCoal dt c⟩
  | .gpioEdge dt k high, _ => ⟨_, _, exec_gpioEdge dt k high⟩
  | .gpioPulseEnd dt k, _ => ⟨_, _, exec_gpioPulseEnd dt k⟩
  | .errlogWrite dt, _ => ⟨_, _, exec_errlogWrite dt⟩
  | .errlogSelect dt m v, _ => ⟨_, _, exec_errlogSelect dt m v⟩
  | .shutdownLatchClear _, h => nomatch h
  | .perstnFallBeforeRunning _, h => nomatch h
  | .quadratureEdge _ _ _ _, h => nomatch h
  | .laneEyeUpdate dt p l h w loss symerr cor unc, _ => ⟨_, _, exec_laneEyeUpdate dt p l h w loss symerr cor unc⟩
  | .tunnelFrameSent dt k, _ => ⟨_, _, exec_tunnelFrameSent dt k⟩
  | .bypassConnected dt, _ => ⟨_, _, exec_bypassConnected dt⟩
  | .calTimeout dt bad, _ => ⟨_, _, exec_calTimeout dt bad⟩

end Sys2Proof.Machine
end

