-- ==== Sys2Proof/Laws/Hold.lean ====
section
/-! SUPPORT. What the commands of an unreleased device do to the hold and the shutdown latch. -/

namespace Sys2Proof.Machine.Block

variable {b : Block}

theorem oscTimeout_held (h : b.boot.hold ≠ .none) : b.oscTimeout = b := by simp [oscTimeout, h]
theorem flashTimeout_held (h : b.boot.hold ≠ .none) : b.flashTimeout = b := by simp [flashTimeout, h]
theorem aliveTimeout_held (h : b.boot.hold ≠ .none) : b.aliveTimeout = b := by
  simp [aliveTimeout, State.cored_held h]
theorem armed_held (h : b.boot.hold ≠ .none) : b.armed = false := by simp [armed, h]
theorem itoFail_held (h : b.boot.hold ≠ .none) : b.itoFail = b := by simp [itoFail, armed_held h]
theorem watchFail_held (h : b.boot.hold ≠ .none) : b.watchFail = b := by simp [watchFail, armed_held h]
theorem xtalFail_held (h : b.boot.hold ≠ .none) : b.xtalFail = b := by simp [xtalFail, armed_held h]
theorem pllFail_held (h : b.boot.hold ≠ .none) (d : Bool) : b.pllFail d = b := by simp [pllFail, armed_held h]
theorem thmWorks_held (h : b.boot.hold ≠ .none) : b.thmWorks = false := by simp [thmWorks, h]
theorem thmConversion_held (h : b.boot.hold ≠ .none) (l : List (Option Int)) : b.thmConversion l = b := by
  simp [thmConversion, thmWorks_held h]
theorem sensorTimeout_held (h : b.boot.hold ≠ .none) (k : Nat) : b.sensorTimeout k = b := by
  simp [sensorTimeout, thmWorks_held h]

/-- In a hold a command at an encoder shows its outputs, and nothing else (R270). -/
theorem passed_held (h : b.boot.hold ≠ .none) (os : List Output) (k : Nat) (f : Block → Block) :
    b.passed os k f = b.emits os := by
  have h' : (b.emits os).boot.hold ≠ .none := by simpa using h
  simp [passed, State.cored_held h']

theorem refFail_held (h : b.boot.hold ≠ .none) : b.refFail = b := by simp [refFail, armed_held h]
theorem refRecovered_held (h : b.boot.hold ≠ .none) : b.refRecovered = b := by simp [refRecovered, armed_held h]

theorem wiped_boot (b : Block) (h : Hold) : (b.wiped h).boot =
    { Block.initial.boot with
      hold := h, latch := b.boot.latch, porn := b.boot.porn, perstn := b.boot.perstn, supplies := b.boot.supplies } := by
  simp [wiped, heldOutputs, outputsLow, gpioRelease]

theorem porFall_boot (b : Block) : b.porFall.boot.latch = b.boot.latch ∧
    b.porFall.boot.hold = if b.boot.latch then b.boot.hold else .por := by
  unfold porFall
  cases h : b.boot.latch <;> simp [wiped_boot, h]

theorem supplyOut_boot (b : Block) : b.supplyOut.boot.latch = b.boot.latch ∧
    b.supplyOut.boot.hold = if b.boot.latch then b.boot.hold else if b.boot.porn then .supply else .por := by
  unfold supplyOut
  cases h : b.boot.latch <;> simp [wiped_boot, h]

theorem latchClear_boot (b : Block) : b.latchClear.boot.latch = false ∧
    b.latchClear.boot.hold = if b.boot.porn then .supply else .por := by
  simp [latchClear, wiped_boot]

theorem powerOn_latched (h : b.boot.latch = true) (e : BootEnv) :
    (b.powerOn e).boot.latch = true ∧ (b.powerOn e).boot.hold = b.boot.hold := by
  unfold powerOn
  cases b.boot.porn <;> simp [h]

theorem supplyBack_latched (h : b.boot.latch = true) (e : BootEnv) :
    (b.supplyBack e).boot.latch = true ∧ (b.supplyBack e).boot.hold = b.boot.hold := by
  unfold supplyBack
  cases b.boot.supplies <;> simp [h]

theorem perstnRise_boot (b : Block) : b.perstnRise.boot.latch = b.boot.latch ∧ b.perstnRise.boot.hold = b.boot.hold := by
  unfold perstnRise trainingEnable
  dsimp only
  split <;> [split; skip] <;> simp

theorem unitFail_boot (b : Block) (f : Field) (n : Nat) : (b.unitFail f n).boot = b.boot := by
  unfold unitFail
  dsimp only
  split
  · rfl
  · split <;> simp

theorem perstnFallEarly_boot (b : Block) :
    b.perstnFallEarly.boot.latch = b.boot.latch ∧ b.perstnFallEarly.boot.hold = b.boot.hold := by
  unfold perstnFallEarly endpointReset hostLinkDown
  dsimp only
  split
  · simp
  · split <;> simp [unitFail_boot]

theorem configRequest_held (h : b.boot.hold ≠ .none) (w : Option (Bool × Bool × Nat)) :
    (b.configRequest w).boot = b.boot := by
  unfold configRequest
  rw [State.cored_held h]
  cases b.host.training <;> simp

end Sys2Proof.Machine.Block
end

