-- ==== Sys2Proof/Laws/Keep.lean ====
section
/-! SUPPORT. What functions that join several units leave of the register file. -/

namespace Sys2Proof.Machine.Block

/-- A register that no step of a fold writes. -/
theorem rd_foldl {α : Type} {f : Block → α → Block} {u : UnitId} {off : Nat} (l : List α)
    (h : ∀ a ∈ l, ∀ t : Block, (f t a).rd u off = t.rd u off) (s : Block) : (l.foldl f s).rd u off = s.rd u off := by
  induction l generalizing s with
  | nil => rfl
  | cons a r ih => rw [List.foldl_cons, ih (fun b hb => h b (by simp [hb])), h a (by simp)]

/-- A field that no step of a fold writes. -/
theorem getI_foldl {α : Type} {f : Block → α → Block} {u : UnitId} {g : Field} {i : Nat} (l : List α)
    (h : ∀ a ∈ l, ∀ t : Block, (f t a).getI u g i = t.getI u g i) (s : Block) : (l.foldl f s).getI u g i = s.getI u g i := by
  induction l generalizing s with
  | nil => rfl
  | cons a r ih => rw [List.foldl_cons, ih (fun b hb => h b (by simp [hb])), h a (by simp)]

theorem getI_of_rd {s t : Block} {u : UnitId} {f : Field} {i : Nat} (h : t.rd u (f.at i) = s.rd u (f.at i)) :
    t.getI u f i = s.getI u f i := by rw [getI, getI, h]

@[simp] theorem rd_emits (s : Block) (os : List Output) (u : UnitId) (off : Nat) : (s.emits os).rd u off = s.rd u off :=
  rd_congr (emits_regs s os) u off
@[simp] theorem rd_msix (s : Block) (v : Nat) (u : UnitId) (off : Nat) : (s.msix v).rd u off = s.rd u off :=
  rd_congr (msix_regs s v) u off

theorem rd_setBitI_unit (s : Block) {u u' : UnitId} {f : Field} {i off : Nat} (hu : u' ≠ u) (hi : u.inst < 256)
    (hi' : u'.inst < 256) (ho : f.at i < 0x4000) (ho' : off < 0x4000) (n : Nat) :
    (s.setBitI u f i n).rd u' off = s.rd u' off := by
  unfold setBitI
  split
  · rfl
  · exact rd_setI_unit s hu hi hi' ho ho' _

theorem rd_clrBitI_unit (s : Block) {u u' : UnitId} {f : Field} {i off : Nat} (hu : u' ≠ u) (hi : u.inst < 256)
    (hi' : u'.inst < 256) (ho : f.at i < 0x4000) (ho' : off < 0x4000) (n : Nat) :
    (s.clrBitI u f i n).rd u' off = s.rd u' off := by
  unfold clrBitI
  split
  · exact rd_setI_unit s hu hi hi' ho ho' _
  · rfl

theorem rd_hostIrq (s : Block) {u : UnitId} {off : Nat} (hu : u ≠ uHost) (hi : u.inst < 256) (ho : off < 0x4000)
    {f : Field} (hf : f.at 0 < 0x4000) : (s.hostIrq f).rd u off = s.rd u off := by
  unfold hostIrq
  dsimp only
  split
  · exact rd_setI_unit s hu (by decide) hi hf ho _
  · rw [rd_msix]; exact rd_setI_unit s hu (by decide) hi hf ho _

/-- A UNIT_FAIL bit set: SYS, HOST and ERRLOG alone. -/
theorem rd_unitFail_unit (s : Block) {u : UnitId} {off : Nat} (hs : u ≠ uSys) (hh : u ≠ uHost) (he : u ≠ uErrlog)
    (hi : u.inst < 256) (ho : off < 0x4000) {f : Field} (hf : f.at 0 < 0x4000) (n : Nat) :
    (s.unitFail f n).rd u off = s.rd u off := by
  unfold unitFail
  dsimp only
  split
  · rfl
  · split
    · rw [rd_hostIrq _ hh hi ho (by decide), rd_log _ he hi ho, rd_setBitI_unit _ hs (by decide) hi hf ho]
    · rw [rd_log _ he hi ho, rd_setBitI_unit _ hs (by decide) hi hf ho]

/-- Stores of the outbox touch the BAR2 registers alone. -/
theorem rd_pumpOut (n : Nat) (s : Block) {u : UnitId} {off : Nat} (hu : u ≠ uBar2) (hi : u.inst < 256) (ho : off < 0x4000)
    (hm : ∀ m w, OutStore.word m w ∈ s.mbx.outbox → m < 16) : (s.pumpOut n).rd u off = s.rd u off := by
  induction n generalizing s with
  | zero => rfl
  | succ n ih =>
    unfold pumpOut
    split
    · rfl
    · next m w rest hb =>
      have hm' : m < 16 := hm m w (by rw [hb]; simp)
      split
      · rfl
      · dsimp only
        have key : ∀ t : Block, t.mbx = { s.mbx with outbox := rest } → (t.pumpOut n).rd u off = t.rd u off := by
          intro t ht
          apply ih
          intro m w hmw
          rw [ht] at hmw
          exact hm m w (by rw [hb]; exact List.mem_cons_of_mem _ hmw)
        have h0 : F.MBXB.F2H_DATA.at m < 0x4000 := by simp only [Field.at, F.MBXB.F2H_DATA]; omega
        split
        · rw [key _ (by simp), rd_msix, rd_setBitI_unit _ hu (by decide) hi (by decide) ho,
            rd_setI_unit _ hu (by decide) hi h0 ho]
          rfl
        · rw [key _ (by simp), rd_setBitI_unit _ hu (by decide) hi (by decide) ho,
            rd_setI_unit _ hu (by decide) hi h0 ho]
          rfl
    · next ws rest hb =>
      split
      · rfl
      · dsimp only
        rw [ih, rd_msix, rd_setI_unit _ hu (by decide) hi (by decide) ho, rd_setI_unit _ hu (by decide) hi (by decide) ho]
        · rfl
        · intro m w hmw
          simp only [msix_mbx, setI_mbx] at hmw
          exact hm m w (by rw [hb]; exact List.mem_cons_of_mem _ hmw)

/-- A message to the host touches the BAR2 registers alone, where the stores that wait name word mailboxes. -/
theorem rd_send (s : Block) {u : UnitId} {off : Nat} (hu : u ≠ uBar2) (hi : u.inst < 256) (ho : off < 0x4000)
    (hm : ∀ m w, OutStore.word m w ∈ s.mbx.outbox → m < 16) (typ tag : Nat) (payload : List Nat) :
    (s.send typ tag payload).rd u off = s.rd u off := by
  unfold send post
  dsimp only
  rw [rd_pumpOut _ _ hu hi ho]
  · rfl
  · intro m w hmw
    rcases List.mem_append.1 hmw with h | h
    · exact hm m w h
    · unfold messageStores at h
      dsimp only at h
      split at h
      · next hp =>
        rcases List.mem_append.1 h with h | h
        · obtain ⟨i, h1, h2⟩ := List.mem_map.1 h
          have := List.mem_range.1 h1
          injection h2 with h3
          omega
        · simp at h; omega
      · simp at h

end Sys2Proof.Machine.Block
end

