-- ==== Sys2Proof/Laws/Memory.lean ====
section
/-! SUPPORT. The block's memories keep their canonical form: at reset, and under the operations that write them. -/

namespace Sys2Proof.Machine

/-- No memory lists anything at reset. -/
theorem reset_memWf : State.reset.blk.memWf = true := by decide

namespace Block

/-- What the canonical form of every memory says of each. -/
theorem memWf_iff (b : Block) : b.memWf = true ↔ storeWf resetOfKey b.regs = true ∧ storeWf (fun _ => (0xFF : Byte)) b.flash = true ∧
    storeWf (fun _ => (0 : Byte)) b.dmc.mem = true ∧ storeWf (fun _ => (0 : Byte)) b.boot.coreMem = true ∧
    (∀ c ∈ b.ctxs, storeWf (fun _ => 0) c.tbl = true) ∧ storeWf (fun _ => 0) b.mbx.block0 = true ∧
    storeWf (fun _ => 0) b.mbx.block1 = true ∧ storeWf (fun _ => 0) b.mbx.block2 = true ∧
    storeWf (fun _ => 0) b.mbx.block3 = true := by
  simp [memWf, and_assoc]

/-- A register written. -/
theorem wr_memWf {b : Block} (h : b.memWf = true) (u : UnitId) (off v : Nat) : (b.wr u off v).memWf = true := by
  rw [memWf_iff] at *
  exact ⟨storeWf_storeWrite h.1 _ _, h.2⟩

/-- A field written. -/
theorem set_memWf {b : Block} (h : b.memWf = true) (u : UnitId) (f : Field) (v : Nat) : (b.set u f v).memWf = true :=
  wr_memWf h u _ _

/-- Bytes of the flash written. -/
theorem flashWrite_memWf {b : Block} (h : b.memWf = true) (a : Nat) (l : List Nat) : (b.flashWrite a l).memWf = true := by
  rw [memWf_iff] at *
  exact ⟨h.1, storeWf_storePut h.2.1 _ _, h.2.2⟩

/-- What holds of every element, and of a changed one, holds after one has changed. -/
theorem forall_mem_upd {α : Type} {P : α → Prop} {f : α → α} (hf : ∀ a, P a → P (f a)) :
    ∀ (l : List α) (i : Nat), (∀ a ∈ l, P a) → ∀ a ∈ upd l i f, P a
  | [], _, _ => by simp [upd]
  | a :: r, 0, h => by
    intro c hc
    rcases List.mem_cons.1 (by simpa [upd] using hc) with rfl | hr
    · exact hf _ (h a (by simp))
    · exact h c (by simp [hr])
  | a :: r, i + 1, h => by
    intro c hc
    rcases List.mem_cons.1 (by simpa [upd] using hc) with rfl | hr
    · exact h _ (by simp)
    · exact forall_mem_upd hf r i (fun x hx => h x (by simp [hx])) c hr

/-- A table word of a context written. -/
theorem setTbl_memWf {b : Block} (h : b.memWf = true) (x a v : Nat) : (b.setTbl x a v).memWf = true := by
  rw [memWf_iff] at *
  exact ⟨h.1, h.2.1, h.2.2.1, h.2.2.2.1, forall_mem_upd (fun c hc => storeWf_storeWrite hc _ _) _ _ h.2.2.2.2.1,
    h.2.2.2.2.2⟩

/-- A section of an image loaded into the control cores' SRAM. -/
theorem sectionLoad_memWf {b : Block} (h : b.memWf = true) (k : Nat) (x : Section) : (b.sectionLoad k x).memWf = true := by
  unfold sectionLoad
  split
  · exact h
  · rw [memWf_iff] at *
    exact ⟨h.1, h.2.1, h.2.2.1, storeWf_storePut h.2.2.2.1 _ _, h.2.2.2.2⟩

/-- An area of it wiped. -/
theorem coreWipe_memWf {b : Block} (h : b.memWf = true) (base size : Nat) : (b.coreWipe base size).memWf = true := by
  rw [memWf_iff] at *
  exact ⟨h.1, h.2.1, h.2.2.1,
    storeWf_storeDrop (fun a => decide (base ≤ a) && decide (a < base + size)) h.2.2.2.1, h.2.2.2.2⟩

end Block
end Sys2Proof.Machine
end

