-- ==== Sys2Proof/WellFormed.lean ====
section
/-! DEFINITION. Which operands a command can have: the ranges of indices, words and bytes. The meanings are total on
every operand; these are the commands the surroundings of the device can send. -/

namespace Sys2Proof

namespace Machine

/-- A master that sends commands (R647): not the hardware and not the boot controller. -/
def sends (m : Master) : Bool := m != .hw && m != .boot

/-- A reader (R7): a master that sends commands, byte enables of a word, at least one word. -/
def Reader.wf (r : Reader) : Bool := sends r.master && decide (r.be < 16) && decide (0 < r.words)

/-- A list of bytes. -/
def bytes (l : List Nat) : Bool := l.all fun b => decide (b < 256)

/-- A catalogue request (R514): a tag of eight bits and 32-bit words, at most the words of a block. -/
def Msg.wf (m : Msg) : Bool := decide (m.tag < 256) && m.words.all fun w => decide (w < 2 ^ 32)

end Machine

open Machine

/-- The operands lie in their ranges. -/
def Instr.wf : Instr → Bool
  | .registerWrite _ m _ _ addr be n w =>
    sends m && decide (addr < 2 ^ 32) && decide (be < 16) && decide (0 < n) && decide (w < 2 ^ 32)
  | .stagedWrite _ m u reg w => sends m && u.exists? && decide (reg % 4 = 0) && decide (w < 2 ^ 32)
  | .commit _ m u _ tag => sends m && u.exists? && decide (tag < 256)
  | .commitCancel _ m u => sends m && u.exists?
  | .commitApply _ u line page _ _ => u.exists? && decide (line < 2 ^ 64) && decide (page < 2 ^ 32)
  | .semRead _ m _ n => m.wf && decide (n < 64)
  | .semRelease _ m _ n w => sends m && decide (n < 64) && decide (w < 2 ^ 32)
  | .sramScrub _ u _ e => u.exists? && decide (e.flips < 2 ^ 39)
  | .powerOn _ _ => true
  | .oscStableTimeout _ => true
  | .flashTimeout _ => true
  | .alive _ _ => true
  | .aliveTimeout _ => true
  | .seal _ => true
  | .sealDeadline _ => true
  | .dramTrainingDone _ _ _ => true
  | .dramWipeDone _ => true
  | .running _ => true
  | .perstnRise _ => true
  | .porFall _ => true
  | .supplyOutOfRange _ => true
  | .supplyRestored _ _ => true
  | .devReset _ _ => true
  | .coreWatchdog _ c _ => decide (c < 4)
  | .coreReset _ c => decide (c < 4)
  | .hostPortReset _ kind => decide (kind < 4)
  | .itoFail _ => true
  | .watchFail _ => true
  | .xtalFail _ => true
  | .pllFail _ _ => true
  | .refFail _ => true
  | .refRecovered _ => true
  | .gateClose _ g _ => decide (g < 42)
  | .gateClosed _ g => decide (g < 42)
  | .gateTimeout _ g => decide (g < 42)
  | .gateOpen _ g => decide (g < 42)
  | .tmonWindow _ raw loads => decide (raw.length = 25) && decide (loads.length = 8)
  | .governorDescend _ => true
  | .clearMin _ => true
  | .pstateTarget _ req => req.all fun p => decide (p < 4)
  | .pstateChangeDone _ => true
  | .tempoShort _ => true
  | .avsFail _ _ _ => true
  | .avsAlert _ _ => true
  | .avsPoll _ mv raw => decide (mv < 2 ^ 16) && decide (raw < 2 ^ 16)
  | .thmConversion _ results => decide (results.length = 24)
  | .sensorTimeout _ k => decide (k < 24)
  | .graceExpired _ => true
  | .relaxStep _ => true
  | .clearPeak _ strip => strip.all fun k => decide (k < 8)
  | .portEnable _ p => decide (p < 16)
  | .signalQualified _ p => decide (p < 16)
  | .cdrLocked _ p => decide (p < 16)
  | .trainingFrame _ p _ frame => decide (p < 16) && bytes frame
  | .trainingComplete _ p _ => decide (p < 16)
  | .adaptConverged _ p _ => decide (p < 16)
  | .blockLock _ p _ => decide (p < 16)
  | .alignDone _ p _ _ _ => decide (p < 16)
  | .check _ p _ => decide (p < 16)
  | .bringupTimeout _ p => decide (p < 16)
  | .linkDown _ p => decide (p < 16)
  | .holdoffExpired _ p => decide (p < 16)
  | .bypassOpen _ _ => true
  | .bypassClose _ _ => true
  | .clearCnt _ u => u.exists?
  | .camFrame _ k frame _ _ => decide (k < 12) && bytes frame
  | .gvspLeader _ k _ _ _ => decide (k < 12)
  | .gvspPayload _ k _ _ data _ => decide (k < 12) && bytes data
  | .gvspTrailer _ k _ _ _ => decide (k < 12)
  | .entryTimeout _ k => decide (k < 12)
  | .triggerPulse _ => true
  | .triggerPulseEnd _ k => decide (k < 12)
  | .lportFrame _ raw _ _ => bytes raw
  | .ptpSync _ d _ _ _ _ _ => decide (d < 2)
  | .ptpFollowUp _ d _ _ => decide (d < 2)
  | .ptpDelayResp _ d _ => decide (d < 2)
  | .ptpAnnounce _ d _ => decide (d < 2)
  | .announceTimeout _ d => decide (d < 2)
  | .holdoverExpired _ => true
  | .revertExpired _ => true
  | .slewDone _ => true
  | .delayReqSend _ d => decide (d < 2)
  | .camSyncSend _ k => decide (k < 12)
  | .camAnnounceSend _ k => decide (k < 12)
  | .delayReq _ k _ _ _ => decide (k < 12)
  | .stepGo _ => true
  | .domainForce _ v => decide (v < 4)
  | .nowLatch _ m => m.wf
  | .tsqPop _ m p => m.wf && decide (p < 13)
  | .timeAnchor _ => true
  | .senseOutput _ c _ => decide (c < 16)
  | .ssGo _ c => decide (c < 16)
  | .ssDone _ c _ => decide (c < 16)
  | .modOverload _ c => decide (c < 16)
  | .virtualValue _ c _ => decide (8 ≤ c) && decide (c < 16)
  | .senseStale _ c => decide (c < 16)
  | .bankSwap _ sel => decide (sel < 2)
  | .observerUpdate _ _ _ => true
  | .coastTimeout _ => true
  | .pageSync _ _ => true
  | .zIndex _ e => decide (e < 2)
  | .webPosLatch _ m => m.wf
  | .webHwmLatch _ m => m.wf
  | .webLineLatch _ m => m.wf
  | .encZposLatch _ m e => m.wf && decide (e < 2)
  | .stripLine _ strip => decide (strip < 8)
  | .tblDataWrite _ m x w => sends m && decide (x < 32) && decide (w < 2 ^ 32)
  | .tblDataRead _ m x => m.wf && decide (x < 32)
  | .geoDataWrite _ m x w => sends m && decide (x < 32) && decide (w < 2 ^ 32)
  | .geoDataRead _ m x => m.wf && decide (x < 32)
  | .stitchDeliver _ x => decide (x < 32)
  | .stitchLineOut _ => true
  | .overlap _ l _ _ body => decide (l < 3) && bytes body
  | .overlapTimeout _ => true
  | .ingestData _ port bytes => decide (port < 4) && Machine.bytes bytes
  | .encodeBlock _ => true
  | .loadComplete _ i => decide (i < 4)
  | .bandFill _ => true
  | .lookaheadEnter _ => true
  | .tangoFlush _ => true
  | .rowEstimated _ => true
  | .tangoLineOut _ => true
  | .segLine _ => true
  | .segFlush _ => true
  | .tagClassify _ => true
  | .tagSequence _ => true
  | .alertPulseEnd _ => true
  | .lportDatagram _ => true
  | .servoPeriod _ a => decide (a < 2)
  | .axisStatus _ a bytes => decide (a < 2) && Machine.bytes bytes
  | .axisRespTimeout _ a => decide (a < 2)
  | .markTag _ a => decide (a < 2)
  | .markPulse _ a => decide (a < 2)
  | .markPulseEnd _ a => decide (a < 2)
  | .home _ a => decide (a < 2)
  | .stop _ a => decide (a < 2)
  | .resume _ a => decide (a < 2)
  | .clearFault _ a => decide (a < 2)
  | .homeTimeout _ a => decide (a < 2)
  | .dramRequest _ q tier _ _ _ data _ _ => decide (q < 10) && decide (tier < 6) && data.all bytes
  | .requestUrgent _ => true
  | .pageIdleClose _ => true
  | .scrubRead _ _ _ => true
  | .refresh _ c bank => decide (c < 16) && decide (bank < 16)
  | .mr4Poll _ codes _ => bytes codes
  | .selfRefreshEnter _ => true
  | .retrainCheck _ drifts => decide (drifts.length = 16)
  | .retrainDone _ c _ => decide (c < 16)
  | .configRequest _ _ => true
  | .linkUp _ _ _ => true
  | .d3hotEnter _ => true
  | .d0Return _ => true
  | .msixUnmask _ v => decide (v < 64)
  | .dmaGo _ n => decide (n < 56)
  | .dmaStop _ n => decide (n < 56)
  | .dmaRearm _ n => decide (n < 56)
  | .dmaResponse _ _ _ data => bytes data
  | .descriptorComplete _ n => decide (n < 64)
  | .dmaNoack _ _ => true
  | .dmaTagReturn _ _ => true
  | .privDmaGo _ m i => sends m && decide (i < 8)
  | .streamFlush _ n => decide (n < 64)
  | .streamWaiting _ i => decide (i < 4)
  | .h2fWrite _ i w => decide (i < 16) && decide (w < 2 ^ 32)
  | .f2hRead _ i => decide (i.box < 16) && decide (i.be < 16) && decide (0 < i.words)
  | .blockGo _ k w => decide (k < 4) && decide (w < 2 ^ 32)
  | .blockRelease _ k => decide (k < 4)
  | .doorbellRing _ w => decide (w < 2 ^ 32)
  | .fwDoorbell _ d => decide (d < 32)
  | .tunnelBlockFill _ => true
  | .tunnelBlockSend _ => true
  | .requestDeferredReply _ _ _ => true
  | .getStatus _ m => m.wf
  | .getNonce _ m => m.wf
  | .reset _ m _ => m.wf
  | .stageCommit _ m => m.wf
  | .stageOnly _ m => m.wf
  | .stageCommitCancel _ m => m.wf
  | .control _ m => m.wf
  | .expose _ m => m.wf
  | .timeStep _ m => m.wf
  | .pageJob _ m => m.wf
  | .refLoad _ m => m.wf
  | .refAbort _ m => m.wf
  | .refRelease _ m => m.wf
  | .mapLoad _ m => m.wf
  | .mapAbort _ m => m.wf
  | .mapRelease _ m => m.wf
  | .mapLoadComplete _ => true
  | .tableWrite _ m data _ => m.wf && bytes data
  | .tableRead _ m _ => m.wf
  | .refReadback _ m _ => m.wf
  | .imageUpdate _ m data _ _ => m.wf && bytes data
  | .secure _ m _ _ => m.wf
  | .scrap _ m _ _ => m.wf
  | .rma _ m _ _ => m.wf
  | .keyAdd _ m _ _ => m.wf
  | .keyRevoke _ m _ _ => m.wf
  | .rollback _ m _ _ => m.wf
  | .debugDisable _ m _ _ => m.wf
  | .calLane _ m => m.wf
  | .calDram _ m => m.wf
  | .calSenseOfs _ m => m.wf
  | .calSenseGain _ m => m.wf
  | .calEncoder _ m => m.wf
  | .calThermal _ m => m.wf
  | .calTempo _ m => m.wf
  | .calBlack _ m => m.wf
  | .calFlat _ m => m.wf
  | .calGeom _ m => m.wf
  | .calSeam _ m => m.wf
  | .calDone _ _ => true
  | .journalCompact _ => true
  | .calQSelect _ m v => sends m && decide (v < 2 ^ 32)
  | .flitReceive _ l raw => decide (l < 3) && bytes raw
  | .linkFail _ l => decide (l < 3)
  | .reelStart _ => true
  | .reel _ l _ _ body => decide (l < 3) && bytes body
  | .uplCredit _ received => received.all bytes
  | .ident _ l _ _ body => decide (l < 3) && bytes body
  | .identResend _ l => decide (l < 3)
  | .enum _ l _ _ body => decide (l < 3) && bytes body
  | .enumCutoff _ => true
  | .result _ l _ _ body => decide (l < 3) && bytes body
  | .insertRetry _ => true
  | .ringTimeExchange _ l => decide (l < 3)
  | .ringTime _ l _ _ body => decide (l < 3) && bytes body
  | .position _ l _ _ body => decide (l < 3) && bytes body
  | .positionTimeout _ => true
  | .seqBeaconSend _ => true
  | .seqBeacon _ l _ _ body => decide (l < 3) && bytes body
  | .ringMailbox _ l _ _ body => decide (l < 3) && bytes body
  | .sysaccReq _ l _ _ body => decide (l < 3) && bytes body
  | .sysaccRsp _ l _ _ body => decide (l < 3) && bytes body
  | .bulk _ l _ _ _ body => decide (l < 3) && bytes body
  | .commitGroup _ l _ _ body => decide (l < 3) && bytes body
  | .commitApplied _ l _ _ body => decide (l < 3) && bytes body
  | .eventArrival _ p _ => decide (p < 512)
  | .eventDelivery _ c => decide (c < 128)
  | .ringEvent _ l _ _ body => decide (l < 3) && bytes body
  | .exportDrop _ c => decide (c < 128)
  | .swHost _ w => decide (w < 2 ^ 32)
  | .swFw _ w => decide (w < 2 ^ 32)
  | .clrCoal _ c => decide (c < 128)
  | .gpioEdge _ k _ => decide (k < 16)
  | .gpioPulseEnd _ k => decide (k < 16)
  | .errlogWrite _ => true
  | .errlogSelect _ m v => sends m && decide (v < 2 ^ 32)
  | .shutdownLatchClear _ => true
  | .perstnFallBeforeRunning _ => true
  | .quadratureEdge _ e _ _ => decide (e < 2)
  | .laneEyeUpdate _ p l _ _ _ _ _ _ => decide (p < 16) && decide (l < 4)
  | .tunnelFrameSent _ k => decide (k < 12)
  | .bypassConnected _ => true
  | .calTimeout _ _ => true

end Sys2Proof
end

