-- ==== Sys2Proof/Tests/Slice0.lean ====
section
/-! SUPPORT. The model's own tests: ill-formed commands refused, worked examples of the spec, and for every statement
with hypotheses a state that meets them. -/

namespace Sys2Proof.Tests

-- Each test waits for the kernel, so elaborating them side by side holds a thread, and its stack, for every one of them.
set_option Elab.async false

open Sys2Proof Sys2Proof.Machine

/-- A device in operation: RUNNING, every core running. -/
def up : State :=
  ⟨[], (({ Block.initial with boot := { Block.initial.boot with
      hold := .none, porn := true, perstn := true, supplies := true, cores := [true, true, true, true] } } : Block).set
    uSys F.SYS.BOOT_STAT_PHASE 10)⟩

/-- A state with its block changed. -/
def onBlk (s : State) (f : Block → Block) : State := { s with blk := f s.blk }

/-- A held state with a command waiting, which a step answers, and a command that does not act in a hold, meet the hypotheses of
HeldDeviceStaysHeld and HeldDeviceDoesNothing. -/
theorem test_wit_Held : State.HeldFast ⟨[.running 0], Block.initial⟩ ∧
    (match step ⟨[.running 0], Block.initial⟩ with
     | .next t => decide (t = ⟨[], Block.initial⟩)
     | _ => false) = true ∧
    Block.initial.boot.hold ≠ .none ∧ actsInHold (.running 0) = false := by
  refine ⟨⟨by decide, by simp [bootsDevice]⟩, ?_, by decide, rfl⟩
  decide +kernel

/-- The invariant of LatchedShutdownStays holds in a state. -/
theorem test_wit_LatchedShutdownStays :
    State.LatchedFast ⟨[], { Block.initial with boot := { Block.initial.boot with hold := .shutdown, latch := true } }⟩ := by
  refine ⟨rfl, rfl, ?_⟩
  simp

/-- A semaphore held by the host. -/
def upSem : State := { up with blk := up.blk.setI uLock F.LOCK.SEM_HOLDER 63 1 }

/-- States and operands that meet the hypotheses of SemaphoreReadTakesAFreeSemaphore: a semaphore free, and held. -/
theorem test_wit_SemaphoreRead : State.up up 0 ∧ (up.now 0).answers ⟨.core1, 15, 1⟩ ∧ (up.now 0).answers ⟨.host, 3, 1⟩ ∧
    holderCode .core1 = some 3 ∧ holderCode .other = some 6 ∧ (up.now 0).getI uLock F.LOCK.SEM_HOLDER 63 = 0 ∧ State.up upSem 0 ∧
    (upSem.now 0).getI uLock F.LOCK.SEM_HOLDER 63 ≠ 0 := by decide +kernel

/-- And those of SemaphoreReleaseByItsHolder, with and without the semaphore. -/
theorem test_wit_SemaphoreRelease : State.up upSem 0 ∧ (upSem.now 0).answers ⟨.host, 15, 1⟩ ∧ holderCode .host = some 1 ∧
    (upSem.now 0).semHeld .host 0 63 = true ∧ (upSem.now 0).semHeld .host 0 5 = false := by decide +kernel

/-- A state that meets the hypotheses of RegisterWriteReachesALiveField and of AccessesThatAreDiscarded, sealed too. -/
theorem test_wit_RegisterWrite : State.up up 0 ∧ (up.now 0).get uHost F.HOST.LINK_D3 = 0 ∧
    (({ up with blk := up.blk.set uSys F.SYS.BOOT_STAT_SEALED 1 } : State).now 0).get uSys F.SYS.BOOT_STAT_SEALED = 1 := by decide +kernel

/-- States and operands that meet the hypotheses of StagedWriteChangesNothingInForce, with and without a commit. -/
theorem test_wit_StagedWrite : State.up up 0 ∧ (up.now 0).unitOpen uHost = true ∧
    ((UnitType.host.fieldsAt 0x118).any fun f => f.acc == .stage) = true ∧ (up.now 0).coveringCommit uHost = none ∧
    (({ up with blk := up.blk.commitStart uHost .page 0 } : State).now 0).coveringCommit uHost ≠ none := by
  decide +kernel

/-- States that meet the hypotheses of CommitStartsOrIsRefused, in both cases. -/
theorem test_wit_Commit : State.up up 0 ∧ (up.now 0).relatedCommit (uStrip 7) = none ∧
    (({ up with blk := up.blk.commitStart (uStrip 7) .page 0 } : State).now 0).relatedCommit (uCtx 31) ≠ none := by
  decide +kernel

/-- States that meet the hypotheses of CommitWithdrawn, in both cases. -/
theorem test_wit_CommitCancel : State.up up 0 ∧ (up.now 0).mbx.deferred = [] ∧ (up.now 0).ring.groups = [] ∧
    ((({ up with blk := up.blk.commitStart uSeg .page 0 } : State).now 0).commits.find? fun c =>
      c.unit == uSeg && Block.notEntered c) ≠ none := by
  decide +kernel

/-- States that meet the hypotheses of ScrubberCountsAndMarks: an upset of no bit, of one and of two, with a visit. -/
theorem test_wit_Scrub : State.up up 0 ∧
    (∀ e ∈ [(⟨0, true⟩, 0), (⟨2 ^ 38, true⟩, 1), (⟨3, true⟩, 2)],
      (((up.now 0).sramPut (uCtx 3) 7 (Upset.flips e.1)).sramWeight (uCtx 3) 7) = e.2) := by decide +kernel

/-- `up` with output 2 pulsing for line 4 until LT 100 and line 5, the first of page 1, decided for LT 50. -/
def upTrig : State :=
  { up with blk := { (up.blk.setI uTrig F.TRIG.OUT_EN 2 1) with
    trig := { up.blk.trig with decided := [⟨5, 50, 1, 0, true, 0, 42000000, 0⟩], pulses := [⟨2, 4, 0, 100, false⟩] } } }

/-- A commit of a unit pending since LT 0, with a staged word, and no other. -/
def pendAt (s : State) (u : UnitId) (bnd : Boundary) (eff : Option (Nat × Nat)) (key : Nat) : State :=
  { s with blk := { s.blk with commits := [⟨u, bnd, eff, [u], false, none, 0, 0⟩], staged := [(key, 7)] } }

/-- A line of page 1 in flight that stands at SEG. -/
def upFlying : State :=
  { up with blk := { up.blk with
    trig := { up.blk.trig with lines := [⟨16, 0, 1, 16, false, 0, 42000000, 0⟩] }
    tango := { up.blk.tango with outq := [⟨⟨16, 0, 0, 1, 16, 0, 0, false, false, true, 0, 0, []⟩, 0, [], []⟩] } } }

/-- States and operands that meet the hypotheses of CommitTakesEffectAtItsLine: at a due line, at a line in flight, and no such
line. -/
theorem test_wit_CommitApply :
    (let s := pendAt upTrig uThm .page none (regKey uThm 0x104)
     let b := s.now 50
     State.up s 50 ∧ b.trig.decided ≠ [] ∧ uThm.exists? = true ∧ b.commits = [⟨uThm, .page, none, [uThm], false, none, 0, 0⟩] ∧
     Block.atTrigger uThm = true ∧ Block.onBoundary .page 0 true = true ∧
     ((b.dueLine.toList ++ b.trig.lines).find? fun x => x.line == 5) = some ⟨5, 50, 1, 0, true, 0, 42000000, 0⟩ ∧
     b.atDoor uThm 5 = true ∧ b.mbx.deferred = [] ∧ b.ring.groups = [] ∧ (∀ x < 32, (b.ctx x).off = none) ∧
     (b.staged.map Prod.fst).Nodup ∧ (∀ d ∈ b.dueLine.toList ++ b.trig.lines, d.line ≠ 6)) ∧
    (let s := pendAt upFlying uSeg .block (some (16, 1)) (regKey uSeg 0x104)
     let b := s.now 0
     State.up s 0 ∧ b.refs.binds = [] ∧ uSeg ∉ [uDevice, uWeb, uTango] ∧ b.commits = [⟨uSeg, .block, some (16, 1), [uSeg], false, none, 0, 0⟩] ∧
     ((b.dueLine.toList ++ b.trig.lines).find? fun x => x.line == 16) = some ⟨16, 0, 1, 16, false, 0, 42000000, 0⟩ ∧
     b.atDoor uSeg 16 = true ∧ b.mbx.deferred = [] ∧ b.ring.groups = [] ∧ (∀ x < 32, (b.ctx x).off = none)) := by decide +kernel

/-- Surroundings in which everything is good but the flash does not answer yet. -/
def slowFlash : BootEnv := ⟨true, true, true, true, false, true, 1, 9, 900, 300, 0, 0⟩

/-- A device whose supplies went out. -/
def upOut : State := { up with blk := up.blk.supplyOut }

/-- States and surroundings that meet the hypotheses of PowerOnBootsToTheFlash, PORn low and a supply out. -/
theorem test_wit_PowerOn : (State.reset.now 0).boot.latch = false ∧ slowFlash.bootsel % 4 ≠ 3 ∧
    (State.reset.now 0).fuses.lifeOk = true ∧ (State.reset.now 0).fuses.life ≠ 7 ∧ (State.reset.now 0).boot.porn = false ∧
    (upOut.now 0).boot.porn = true ∧ (upOut.now 0).boot.supplies = false ∧ (upOut.now 0).boot.latch = false := by decide +kernel

/-- A scrapped device, and one whose lifecycle pattern is invalid. -/
def scrapped : State := onBlk State.reset fun b => { b with fuses := { b.fuses with lifeA := 7 } }
def broken : State := onBlk State.reset fun b => { b with fuses := { b.fuses with lifeB := 5 } }

/-- States that meet the hypotheses of BootStopsWithItsCode. -/
theorem test_wit_BootStops : (State.reset.now 0).boot.latch = false ∧ (State.reset.now 0).boot.porn = false ∧
    (State.reset.now 0).fuses.lifeOk = true ∧ (State.reset.now 0).fuses.life ≠ 7 ∧ (scrapped.now 0).boot.porn = false ∧
    (scrapped.now 0).fuses.lifeOk = true ∧ (scrapped.now 0).fuses.life = 7 ∧ (broken.now 0).fuses.lifeOk = false := by decide +kernel

/-- A state that meets the hypotheses of DeviceResetWipesAndBoots. -/
theorem test_wit_DeviceReset : State.up up 0 ∧ nth (up.now 0).boot.cores 3 false = true ∧
    (up.now 0).fuses.lifeOk = true ∧ (up.now 0).fuses.life ≠ 7 := by decide +kernel

/-- A state that meets the hypothesis of PowerLossWipes. -/
theorem test_wit_PowerLoss : (up.now 0).boot.latch = false := by decide +kernel

/-- States that meet the hypotheses of PerstnStartsAndStopsTheLink. -/
theorem test_wit_Perstn : (State.reset.now 0).isRunning = false ∧
    (let s := onBlk up fun b => { b with boot := { b.boot with sigSeen := true } }
     (s.now 0).boot.hold = .none ∧ (s.now 0).boot.sigSeen = true) := by decide +kernel

/-- States that meet the hypotheses of BootTimeoutsHold: at PHASE 1, at PHASE 4, 100 ms after the release of the cores. -/
theorem test_wit_BootTimeouts :
    (∀ ph ∈ [1, 4], let b := (onBlk up (·.set uSys F.SYS.BOOT_STAT_PHASE ph)).now 0
      b.boot.hold = .none ∧ b.get uSys F.SYS.BOOT_STAT_PHASE = ph) ∧
    (let b := up.now 50000000
     8 ≤ b.get uSys F.SYS.BOOT_STAT_PHASE ∧ b.on uSys F.SYS.BOOT_CTL_ALIVE = false ∧ b.boot.began = false ∧
     b.since b.boot.coreLt = 100000000 ∧ (∀ p < 16, b.portState p ≠ 8) ∧ b.ser.opening = false ∧
     b.on uSerdes F.SERDES.BYPASS_STAT_OPEN = false) := by decide +kernel

/-- States that meet the hypotheses of SealFixesTheConfiguration, unsealed at the deadline and sealed. -/
theorem test_wit_Seal :
    (let s := onBlk up (·.set uSys F.SYS.SEAL_DEADLINE_MS 10)
     State.up s 5000000 ∧ (s.now 5000000).on uSys F.SYS.BOOT_STAT_SEALED = false ∧
     1000000 * (s.now 5000000).get uSys F.SYS.SEAL_DEADLINE_MS = (s.now 5000000).since (s.now 5000000).boot.coreLt) ∧
    ((onBlk up (·.set uSys F.SYS.BOOT_STAT_SEALED 1)).now 0).on uSys F.SYS.BOOT_STAT_SEALED = true := by decide +kernel

/-- States that meet the hypotheses of AliveBringsTheFirmwareUp, before firmware has begun and after. -/
theorem test_wit_Alive : State.up up 0 ∧ (up.now 0).boot.began = false ∧
    ((onBlk up fun b => { b with boot := { b.boot with began := true } }).now 0).boot.began = true := by decide +kernel

/-- `up` whose firmware has begun, with the DRAM in a state. -/
def upBegun (dram : Nat) : State := onBlk up fun b => { b.set uDmc F.DMC.STAT_STATE dram with boot := { b.boot with began := true } }

/-- States that meet the hypotheses of DramComesUpInBoot. -/
theorem test_wit_Dram : State.up (upBegun 1) 0 ∧ ((upBegun 1).now 0).boot.began = true ∧
    ((upBegun 1).now 0).get uDmc F.DMC.STAT_STATE ≤ 1 ∧ State.up (upBegun 2) 0 ∧ ((upBegun 2).now 0).get uDmc F.DMC.STAT_STATE = 2 := by
  decide +kernel

/-- A device that may run: begun, sealed, alive, DRAM unavailable, no reference, nothing configured. -/
def ready : State :=
  onBlk (upBegun 5) fun b => ((b.set uSys F.SYS.BOOT_STAT_PHASE 9).set uSys F.SYS.BOOT_STAT_SEALED 1).set uClk F.CLK.SRC_STAT_REF_OK 0

/-- It meets the hypotheses of RunningIsPhaseTen. -/
theorem test_wit_Running : State.up ready 0 ∧ (ready.now 0).mayRun = true ∧ (∀ n < 56, ((ready.now 0).chan n).heldGo = false) ∧
    (ready.now 0).mbx.wordWaiting = none ∧ (ready.now 0).mbx.blockWaiting = none ∧ (ready.now 0).mbx.outbox = [] ∧
    (ready.now 0).boot.earlyBells = [] ∧ (ready.now 0).ring.inbox = [] ∧
    (ready.now 0).zoneAt F.THM.HIGH_THR_THROTTLE = none ∧ (ready.now 0).on uClk F.CLK.SRC_STAT_REF_OK = false ∧
    (ready.now 0).on uRing F.RING.CFG_EN = false := by decide +kernel

/-- States that meet the hypotheses of CoreAndHostPortResets. -/
theorem test_wit_Resets : State.up up 0 ∧ ((up.now 0).mbx.deferred.filter fun d => d.core == 3) = [] ∧
    ((onBlk up (·.set uHost F.HOST.LINK_UP 1)).now 0).on uHost F.HOST.LINK_UP = true ∧
    (up.now 0).isRunning = true ∧ (up.now 0).boot.perstn = true := by decide +kernel

/-- `up` with the clock monitor armed 25 ms ago and the reference good, or not and core 2 stopped. -/
def upArmed : State := onBlk up fun b =>
  { ((((b.set uClk F.CLK.SRC_STAT_ARMED 1).set uClk F.CLK.SRC_STAT_REF_OK 1).set uClk F.CLK.SRC_STAT_WATCH_OK 1).set
      uClk F.CLK.SRC_STAT_XTAL_OK 1).set uClk F.CLK.SRC_STAT_SYS_LOCK 1 with boot := { b.boot with armUs := 1000000 } }
def upNoRef : State := onBlk upArmed fun b =>
  { b.set uClk F.CLK.SRC_STAT_REF_OK 0 with boot := { b.boot with cores := [true, true, false, true] } }
def upBare : State := onBlk upArmed fun b => (b.set uClk F.CLK.SRC_STAT_WATCH_OK 0).set uClk F.CLK.SRC_STAT_XTAL_OK 0

/-- States that meet the hypotheses of ClockFailuresAreMarked. -/
theorem test_wit_ClockFailures :
    (let b := upArmed.now 0
     b.armed = true ∧ b.on uClk F.CLK.SRC_STAT_WATCH_OK = true ∧ b.graceOver = true ∧ b.on uClk F.CLK.SRC_STAT_XTAL_OK = true ∧
     b.pllWatched false = true ∧ b.pllWatched true = true ∧ b.on uClk F.CLK.SRC_STAT_REF_OK = true) ∧
    (let b := upNoRef.now 0
     b.armed = true ∧ b.on uClk F.CLK.SRC_STAT_REF_OK = false ∧ nth b.boot.cores 2 false = false) ∧
    (let b := upBare.now 0
     b.armed = true ∧ b.on uClk F.CLK.SRC_STAT_WATCH_OK = false ∧ b.on uClk F.CLK.SRC_STAT_XTAL_OK = false) := by decide +kernel

/-- `up` with a close of node 7 waiting since LT 0. -/
def upClosing : State := onBlk up fun b => { b with clk := { b.clk with closing := [7], closingAt := [(7, 0)] } }

/-- States that meet the hypotheses of GateRequestsOpenAndClose: node 6 with its children running, node 7 without, and
node 7 waiting for 1 ms. -/
theorem test_wit_Gates : State.up up 0 ∧ gateable 6 = true ∧ (up.now 0).nodeOpen 6 = true ∧ (up.now 0).clk.closing.contains 6 = false ∧
    (∃ c ∈ gateChildren 6, (up.now 0).nodeOpen c = true) ∧ gateable 7 = true ∧ (up.now 0).nodeOpen 7 = true ∧
    (up.now 0).clk.closing.contains 7 = false ∧ (∀ c ∈ gateChildren 7, (up.now 0).nodeOpen c = false) ∧ State.up upClosing 500000 ∧
    (upClosing.now 500000).clk.closing.contains 7 = true ∧
    (upClosing.now 500000).since (lookupD 7 0 (upClosing.now 500000).clk.closingAt) = 1000000 := by decide +kernel

/-- `up` with the governor enabled at level 2, its lower level fitting since LT 0, monitor 3 gated. -/
def upLow : State :=
  onBlk up fun b => { ((b.set uLatgov F.LATGOV.CFG_EN 1).set uLatgov F.LATGOV.STAT_LEVEL 2).setI uClk F.CLK.TMON_GATED 3 1 with
    gov := { b.gov with relaxSince := some 0 } }

/-- States that meet the hypotheses of TempoIsMeasuredAndKept. -/
theorem test_wit_Tempo : State.up upLow 5000000000 ∧
    (let b := upLow.now 5000000000
     b.onI uClk F.CLK.TMON_GATED 24 = false ∧ b.onI uClk F.CLK.TMON_GATED 3 = true ∧
     b.gov.relaxSince = some 0 ∧ b.on uLatgov F.LATGOV.CFG_EN = true ∧ 0 < b.get uLatgov F.LATGOV.STAT_LEVEL ∧
     b.get uLatgov F.LATGOV.CFG_RELAX_MS * 1000000 ≤ b.since 0) := by decide +kernel

/-- `up` whose firmware has begun, with a change of P-state in progress since LT 0 and some good windows, lines triggered or not. -/
def upChange (c p wins trig : Nat) : State :=
  onBlk up fun b => { ((((b.set uClk F.CLK.PSTATE_CURRENT c).set uClk F.CLK.PSTATE_TARGET p).set uClk F.CLK.PSTATE_REQ_REQ p).set
      uClk F.CLK.PSTATE_BUSY 1).set uWeb F.WEB.STATE_TRIG_OK trig with
    boot := { b.boot with began := true }, clk := { b.clk with change := some (c, p), goodWins := wins } }
def upIdle : State := onBlk up fun b => { b with boot := { b.boot with began := true } }

/-- States that meet the hypotheses of PstateChanges. -/
theorem test_wit_Pstate : State.up upIdle 0 ∧ (upIdle.now 0).boot.began = true ∧ (upIdle.now 0).clk.stopped = false ∧
    (upIdle.now 0).on uClk F.CLK.PSTATE_BUSY = false ∧ (upIdle.now 0).clk.abandoned = none ∧ (upIdle.now 0).clk.change = none ∧
    (upIdle.now 0).clk.finishing = false ∧
    (∀ x ∈ [(0, 3, 0, 0), (1, 0, 2, 0), (1, 0, 2, 1), (1, 0, 1, 0)], let b := (upChange x.1 x.2.1 x.2.2.1 x.2.2.2).now 1000000
      State.up (upChange x.1 x.2.1 x.2.2.1 x.2.2.2) 1000000 ∧ b.boot.began = true ∧ b.clk.change = some (x.1, x.2.1) ∧
      b.get uClk F.CLK.PSTATE_TARGET = x.2.1 ∧ b.clk.govNext = none ∧ b.clk.goodWins = x.2.2.1 ∧
      b.on uWeb F.WEB.STATE_TRIG_OK = (x.2.2.2 == 1) ∧ b.settledAfter x.2.1 + 100000 ≤ b.since b.clk.changeAt) := by decide +kernel

/-- `up` with the grace time and the relax period running since LT 0 and a cap. -/
def upWarm : State :=
  { up with blk := { (((((up.blk.set uThm F.THM.STATE_REQ 1).set uClk F.CLK.PSTATE_CAP 2).setI uThm F.THM.SENSOR_BROKEN 4 1).setI
    uThm F.THM.SENSOR_BROKEN 5 1).setI uThm F.THM.SENSOR_BROKEN 6 1) with
    thm := { up.blk.thm with graceFrom := some 0, relaxFrom := some 0 } } }

/-- States that meet the hypotheses of ThermalServices. -/
theorem test_wit_Thermal : State.up upWarm 50000000000 ∧
    (let b := upWarm.now 50000000000
     b.onI uThm F.THM.SENSOR_BROKEN 0 = false ∧ -320 ≤ (480 : Int) + b.getSI uCal F.CAL.THM_OFS_OFS 0 ∧
     (480 : Int) + b.getSI uCal F.CAL.THM_OFS_OFS 0 ≤ 1120 ∧ 150000 ≤ b.since (nth b.thm.lastConv 0 0) ∧
     150000 ≤ b.since (nth b.thm.lastConv 7 0) ∧
     (∀ i < 4, 4 * (7 / 4) + i ≠ 7 → b.onI uThm F.THM.SENSOR_BROKEN (4 * (7 / 4) + i) = true) ∧
     (∃ i < 4, 4 * (0 / 4) + i ≠ 0 ∧ b.onI uThm F.THM.SENSOR_BROKEN (4 * (0 / 4) + i) = false) ∧
     b.thm.graceFrom = some 0 ∧ b.on uThm F.THM.STATE_REQ = true ∧
     b.get uThm F.THM.TIMING_GRACE * 100000000 ≤ b.since 0 ∧ b.zoneAt F.THM.HIGH_THR_ENFORCE = none ∧
     b.thm.relaxFrom = some 0 ∧ 0 < b.get uClk F.CLK.PSTATE_CAP ∧
     b.get uThm F.THM.TIMING_RELAX * 1000000000 ≤ b.since 0) := by decide +kernel

/-- `up` with port p in a bring-up state since LT 0, the serial reference and the lane table good. -/
def upPort (p st : Nat) : State := onBlk up fun b =>
  (((b.setI uSerdes F.SERDES.PORT_STAT_STATE p st).setI uSerdes F.SERDES.PORT_CFG_MODE p 1).set
    uClk F.CLK.SRC_STAT_REF_OK 1).set uSerdes F.SERDES.TABLE_STAT_MATCH 1

/-- Port 12 of `upPort` with every lane trained alike and, where wanted, its lanes in order. -/
def upSid (st : Nat) (lane : SidLane) (ordered : Bool) : State := onBlk (upPort 12 st) fun b =>
  let b : Block := { b with ser := { b.ser with sid := List.replicate 12 lane } }
  if ordered then (List.range 4).foldl (fun b l => b.set (Block.laneOf 12 l) F.LANE.STAT_RX_LOGICAL l) b else b

/-- States that meet the hypotheses of PortStateMachine, at each time's boundary: the qualification of a signal on a camera
port and on a Sidias port, a step at its timeout and just past it, the holdoff, and the wait of CHECK. -/
theorem test_wit_Ports : (∀ st < 10, State.up (upPort 3 st) 0 ∧ ((upPort 3 st).now 0).portState 3 = st) ∧
    ((upPort 3 0).now 0).portMayStart 3 = true ∧ ((upPort 3 3).now 0).isRunning = true ∧
    ((upPort 3 1).now 50000).portAge 3 = 100000 ∧ ((upPort 3 1).now 49999).portAge 3 < 100000 ∧
    ((upPort 12 1).now 5000).portAge 12 = 10000 ∧ ((upPort 12 1).now 5000).portState 12 = 1 ∧
    (∀ st < 7, 2 ≤ st → ((upPort 3 st).now 2500000).portLate 3 = false) ∧
    (∀ st < 7, 2 ≤ st → ((upPort 3 st).now 250000001).portLate 3 = true) ∧
    ((upPort 3 6).now 5000000).portTimeout 3 = some 10000000 ∧ ((upPort 3 6).now 5000000).portAge 3 = 10000000 ∧
    ((upPort 12 9).now 25000).portState 12 = 9 ∧ ((upPort 12 9).now 25000).portAge 12 = 50000 ∧
    ((upPort 3 6).now 0).fecOn 3 = true ∧
    ((upPort 3 9).now 1000000000).get uSerdes F.SERDES.LINK_CFG_HOLDOFF_MS * 1000000 ≤ ((upPort 3 9).now 1000000000).portAge 3 := by
  decide +kernel

theorem test_wit_Ports_sidias :
    (let b := (upSid 3 ⟨16, 16, true, 1⟩ true).now 0
     b.portState 12 = 3 ∧ b.portLate 12 = false ∧ ∀ l < 4, 16 ≤ (b.sidLane 12 l).readyIn ∧ 16 ≤ (b.sidLane 12 l).readyOut) ∧
    (let b := (upSid 5 ⟨16, 16, true, 1⟩ true).now 25000
     b.portState 12 = 5 ∧ b.portLate 12 = false ∧ ∀ l < 4, (b.sidLane 12 l).found = true) ∧
    (let b := (upSid 5 ⟨16, 16, false, 1⟩ true).now 0
     b.portState 12 = 5 ∧ b.portLate 12 = false ∧ ∃ l < 4, (b.sidLane 12 l).found = false) ∧
    (let b := (upSid 6 ⟨16, 16, true, 0⟩ true).now 0
     b.portState 12 = 6 ∧ b.portLate 12 = false ∧ ∃ l < 4, (b.sidLane 12 l).heard ≠ Block.expectedPeer 12) ∧
    (let b := (upSid 6 ⟨16, 16, true, 1⟩ true).now 0
     b.portState 12 = 6 ∧ (∀ l < 4, (b.sidLane 12 l).heard = Block.expectedPeer 12) ∧
     ((List.range 4).map fun l => b.get (Block.laneOf 12 l) F.LANE.STAT_RX_LOGICAL).eraseDups.length = 4) ∧
    (let b := (upSid 6 ⟨16, 16, true, 1⟩ false).now 0
     b.portState 12 = 6 ∧ ((List.range 4).map fun l => b.get (Block.laneOf 12 l) F.LANE.STAT_RX_LOGICAL).eraseDups.length ≠ 4) := by
  decide +kernel

theorem test_wit_Ports_check : ((upPort 12 7).now 10000).portState 12 = 7 ∧ ((upPort 12 7).now 10000).portAge 12 = 20000 ∧
    ((upPort 12 7).now 9999).portAge 12 < 20000 ∧
    (∀ l < 4, ((upPort 12 7).now 0).get uSerdes F.SERDES.LINK_CFG_SID_EYE_MIN ≤
        ((List.replicate 4 (255, 255, 0)).getD l (0, 0, 255)).1 % 2 ^ F.LANE.EYE_HEIGHT.width ∧
      Nat.min 255 ((List.replicate 4 (255, 255, 0)).getD l (0, 0, 255)).2.2 ≤
        ((upPort 12 7).now 0).get uSerdes F.SERDES.LINK_CFG_SID_LOSS_MAX) ∧
    (0, 0, 255).1 % 2 ^ F.LANE.EYE_HEIGHT.width < ((upPort 12 7).now 0).get uSerdes F.SERDES.LINK_CFG_SID_EYE_MIN := by
  decide +kernel

/-- A training frame with a step up of PRE and a step down of MAIN asked for, its CRC computed as R152 says. -/
def goodFrame : List Nat :=
  let l := [0x7E, 0x3C, 0xA5, 0x0F, 0, 0b001001, 0, 0, 0, 0, 0, 0, 0, 0]
  l ++ [Block.crc16 0xFFFF l % 256, Block.crc16 0xFFFF l / 256]


/-- `upPort 3 5` with the bypass's opening under way. -/
def upOpening : State := onBlk (upPort 3 5) fun b => { b with ser := { b.ser with opening := true } }

/-- States that meet the hypotheses of LanesAndBypass: a lane in TRAIN and one in LOCK, a lane measured, the bypass at rest
and opening, and every unit with counters to clear. -/
theorem test_wit_Lanes : goodFrame.length = 16 ∧ Block.crc16 0xFFFF (goodFrame.take 14) = ofLe (goodFrame.drop 14) ∧
    goodFrame.take 4 = [0x7E, 0x3C, 0xA5, 0x0F] ∧ (∀ x ∈ goodFrame, x < 256) ∧
    State.up (upPort 12 3) 0 ∧ ((upPort 12 3).now 0).portState 12 = 3 ∧ ((upPort 12 5).now 0).portState 12 = 5 ∧
    ((upPort 3 5).now 0).portState 3 = 5 ∧ ((upPort 3 8).now 0).portState 3 = 8 ∧
    (((upPort 3 5).now 0).portLanes 3).contains 0 = true := by decide +kernel

theorem test_wit_Bypass : State.upOn (upPort 3 5) 0 2 ∧ ((upPort 3 5).now 0).isRunning = true ∧
    ((upPort 3 5).now 0).on uClk F.CLK.SRC_STAT_REF_OK = true ∧ ((upPort 3 5).now 0).on uSerdes F.SERDES.BYPASS_STAT_OPEN = false ∧
    State.up upOpening 0 ∧ (upOpening.now 0).ser.opening = true ∧
    (∀ ty ∈ [UnitType.camp, .trig, .web, .ctx, .stitch, .refs, .codec, .tango, .seg, .tag, .latgov, .axis],
      (clearCnt ty).isSome = true ∧ (⟨ty, 0⟩ : UnitId).exists? = true) := by decide +kernel

/-- An ARP request for address 0, and a frame of another type. -/
def arpFrame : List Nat := List.replicate 12 1 ++ [8, 6] ++ List.replicate 6 0 ++ [0, 1] ++ List.replicate 38 0
def otherFrame : List Nat := List.replicate 12 1 ++ [9, 9] ++ List.replicate 46 0

/-- A UDP datagram to the address 0 of a camera port with a header of h words, an IPv4 checksum, a destination port and 26
bytes of payload, the UDP checksum absent. -/
def udpFrame (h sum port : Nat) (payload : List Nat) : List Nat :=
  List.replicate 12 1 ++ [8, 0, 0x40 + h, 0, 0, 54] ++ List.replicate 5 0 ++ [17] ++ be 2 sum ++ List.replicate 8 0 ++ List.replicate (4 * h - 20) 0 ++
    [0, 0] ++ be 2 port ++ [0, 34, 0, 0] ++ payload ++ List.replicate (26 - payload.length) 0

/-- `upPort 3 8` with the GVSP stream at port 0, and with a tunnel frame begun on the wire. -/
def upStream : State := onBlk (upPort 3 8) fun b =>
  (b.set (uCamp 3) F.CAMP.STREAM_PORT_UDP 0).setCamp 3 { b.camp 3 with tunOn := true }

/-- States that meet the hypotheses of CameraFramesAreSorted: an ARP request with and without a tunnel frame begun, a
Delay_Req, a GVSP packet of bad and of good form, another frame with reception on and off and at the queue's last room. -/
theorem test_wit_CamFrame : State.up (upPort 3 8) 0 ∧
    (let b := (upPort 3 8).now 0
     b.portState 3 = 8 ∧ 60 ≤ arpFrame.length ∧ frameNum arpFrame 12 2 ≠ 0x8808 ∧ (b.camp 3).tunOn = false ∧
     ((upStream.now 0).camp 3).tunOn = true ∧ b.isRunning = true ∧
     arpFor arpFrame (b.campIp 3) = true ∧ b.isCamPtp 3 arpFrame = false ∧ 60 ≤ otherFrame.length ∧
     b.isCamPtp 3 otherFrame = false ∧ arpFor otherFrame (b.campIp 3) = false ∧ b.isGvsp 3 otherFrame = false ∧
     b.on (uCamp 3) F.CAMP.TUNNEL_CFG_RX_EN = true ∧ (nth b.mbx.tunRx 3 []) = [] ∧ Block.tunnelBytes 9212 ≤ 32768 ∧
     b.isCamPtp 3 (udpFrame 5 0 319 [1, 0x12, 0, 0, 0]) = true ∧
     (b.set (uCamp 3) F.CAMP.TUNNEL_CFG_RX_EN 0).on (uCamp 3) F.CAMP.TUNNEL_CFG_RX_EN = false) := by decide +kernel

theorem test_wit_CamFrame_gvsp :
    let b := upStream.now 0
    b.portState 3 = 8 ∧
    (∀ f ∈ [udpFrame 6 0 0 [], udpFrame 5 0xBAB8 0 [0, 0, 0, 7, 0x83]], 60 ≤ f.length ∧ b.isCamPtp 3 f = false ∧
      arpFor f (b.campIp 3) = false ∧ b.isGvsp 3 f = true) ∧
    Block.gvspFrameOk (udpFrame 6 0 0 []) = false ∧ Block.gvspFrameOk (udpFrame 5 0xBAB8 0 [0, 0, 0, 7, 0x83]) = true := by
  decide +kernel

/-- `up` with camera port 3 streaming, a block of 4 lines of 8 bytes in progress, an entry open since LT 0. -/
def upCam : State :=
  let v := up.blk.campVals 3
  { up with blk := { up.blk.set (uCamp 3) F.CAMP.STAT_STATE 3 with
    camps := upd up.blk.camps 3 fun c => { c with
      entries := [⟨0, 7, 0, 0, 8, false, v⟩], nextNo := 1, armedLeader := true, lastId := some 5
      block := some ⟨5, ⟨1, 0x01080001, 8, 4, 0⟩, 0, 4, 8, 8, 16, false, 0, 0, none, 0, [], [], false⟩ } } }

/-- It meets the hypotheses of ReassemblyTakesPackets. -/
theorem test_wit_Reassembly : State.up upCam 10000000 ∧
    (let b := upCam.now 10000000
     2 ≤ b.campState 3 ∧ Block.blockOld (b.camp 3) 6 = false ∧ (b.camp 3).armedLeader = true ∧
     (b.camp 3).block.map (fun c => (c.id, c.ended, c.lastPid)) = some (5, false, 0) ∧
     Block.packetLength (4 * 8) 16 1 = some 16 ∧ (b.camp 3).entries.length = 1 ∧
     (∀ e ∈ (b.camp 3).entries, e.edge + e.vals.timeout * 1000 ≤ b.lt) ∧ (up.now 0).campState 3 < 2 ∧ (upCam.now 9999999).campState 3 = 3 ∧
     (b.camp 3).entries.length ≤ 1024) := by decide +kernel

/-- It meets the hypotheses of TriggersPulseTheOutputs. -/
theorem test_wit_Triggers : State.upOn upTrig 50 3 ∧ (upTrig.now 50).dueLine = some ⟨5, 50, 1, 0, true, 0, 42000000, 0⟩ ∧
    ((upTrig.now 50).trig.pulses.reverse.find? fun p => p.k == 2 && !p.done) = some ⟨2, 4, 0, 100, false⟩ ∧
    100 ≤ (upTrig.now 50).lt + 1 ∧ (upTrig.now 50).commits = [] ∧ (upTrig.now 50).onI uTrig F.TRIG.OUT_EN 2 = true := by decide +kernel

/-- `up` with domain A following master 9, whose Sync 4 is to have a Follow_Up, Delay_Reqs 7 and 8
waiting, the timestamp of the second lost, and the line port up for PTP on layer 2. -/
def upPtp : State := onBlk up fun b =>
  { (b.setI uSerdes F.SERDES.PORT_STAT_STATE 15 8).set uLport F.LPORT.PTP_CFG_TRANSPORT 0 with
    time := { b.time with trackA := { b.time.trackA with
      master := some 9, foreign := [⟨⟨9, 128, 6, 33, 0, 128, 9, 0, 3, 37, 0, 32⟩, 0, some 0⟩], due := some 4, lastSync := some 0, reqs := [(7, false), (8, true)] } } }

/-- An Announce of domain 0 on layer 2. -/
def announceFrame : List Nat := List.replicate 12 1 ++ [0x88, 0xF7, 0x0B, 2, 0, 64, 0] ++ List.replicate 60 0

/-- It meets the hypotheses of PtpOnTheLinePort: a Sync after a gap and without one, responses kept, lost and to no request,
a frame dropped and one taken. -/
theorem test_wit_Ptp : State.upOn upPtp 0 2 ∧ ((upPtp.now 0).tracker 0).master = some 9 ∧
    ((upPtp.now 0).tracker 0).due = some 4 ∧ (upPtp.now 0).servoRuns = true ∧ (upPtp.now 0).syncGap 0 = false ∧
    (upPtp.now 5000000000).syncGap 0 = true ∧
    (((upPtp.now 5000000000).announceTimeout 0).tracker 0).master = some 9 ∧
    ((upPtp.now 5000000000).announceTimeout 0).servoRuns = true ∧
    (∀ q ∈ [(7, false), (8, true)], (((upPtp.now 0).tracker 0).reqs.find? fun x => x.1 == q.1) = some q) ∧
    (((upPtp.now 0).tracker 0).reqs.find? fun x => x.1 == 6) = none ∧ (upPtp.now 0).lportUp = true := by
  decide +kernel

theorem test_wit_Ptp_frame : 60 ≤ announceFrame.length ∧ arpFor (Block.untag announceFrame) (upPtp.now 0).lportIp = false ∧
    (upPtp.now 0).lportPtp (Block.untag announceFrame) = some (announceFrame.drop 14) ∧
    (announceFrame.drop 14).getD 1 0 % 16 = 2 ∧ (upPtp.now 0).lportPtp (Block.untag otherFrame) = none ∧
    arpFor (Block.untag otherFrame) (upPtp.now 0).lportIp = false ∧
    (upPtp.now 0).domainOf ((announceFrame.drop 14).getD 4 256) = some 0 := by decide +kernel

/-- `up` in a time state, domain B usable and primary since LT 0, a slew of 5 ns in progress; and its core 2 stopped. -/
def upTime (st : Nat) : State := onBlk up fun b =>
  { (((b.set uTime F.TIME.STATE_STATE st).set uTime F.TIME.DOMAIN_CFG_PRIMARY 1).set
      uTime F.TIME.DOMAIN_CFG_REVERT 1).set uTime F.TIME.STATE_USABLE_B 1 with
    time := { b.time with slew := some (0, 5), trackB := { b.time.trackB with usableSince := some 0 } } }
def upTimeLost : State := onBlk (upTime 2) fun b => { b with boot := { b.boot with cores := [true, true, false, true] } }

/-- They meet the hypotheses of TimeStateMachine. -/
theorem test_wit_TimeState :
    (let b := (upTime 3).now 50000000000000
     b.servoRuns = true ∧ State.up (upTime 3) 50000000000000 ∧ b.get uTime F.TIME.STATE_STATE = 3 ∧
     b.on uClk F.CLK.SRC_STAT_ON_ITO = false ∧ b.get uTime F.TIME.HOLD_CFG_HOLDOVER_S * 10 ^ 9 ≤ b.since b.time.holdFrom ∧
     (let c := (onBlk (upTime 3) fun b => b.set uClk F.CLK.SRC_STAT_ON_ITO 1).now 500000000
      c.on uClk F.CLK.SRC_STAT_ON_ITO = true ∧ Nat.min 1 (c.get uTime F.TIME.HOLD_CFG_HOLDOVER_S) * 10 ^ 9 ≤ c.since c.time.holdFrom)) ∧
    (∀ st ∈ [1, 2],
      let b := (upTime st).now 50000000000000
      b.servoRuns = true ∧ b.get uTime F.TIME.STATE_STATE = st ∧ b.mayLeave = true ∧ b.on uTime F.TIME.DOMAIN_CFG_REVERT = true ∧
      b.selected ≠ 1 ∧ b.get uTime F.TIME.DOMAIN_CFG_PRIMARY = 1 ∧ b.usable 1 = true ∧ (b.tracker 1).usableSince = some 0 ∧
      b.get uTime F.TIME.HOLD_CFG_REVERT_S * 10 ^ 9 ≤ b.since 0 ∧ b.time.slew = some (0, 5) ∧
      5 * 10 ^ 7 ≤ b.since 0 * b.get uTime F.TIME.SERVO_CFG_SLEW) ∧
    State.up upTimeLost 0 ∧ (upTimeLost.now 0).servoRuns = false := by decide +kernel

/-- `up` with camera port 3 up and armed, the line port up, two timestamps queued on camera port 3; with a tunnel frame
begun on it when asked. -/
def upCamPtp (tun : Bool) : State := onBlk up fun b =>
  { ((b.set (uCamp 3) F.CAMP.STAT_STATE 2).setI uSerdes F.SERDES.PORT_STAT_STATE 3 8).setI
      uSerdes F.SERDES.PORT_STAT_STATE 15 8 with
    camps := upd b.camps 3 fun c => { c with tunOn := tun }
    time := { b.time with tsq := upd b.time.tsq 3 fun _ => [⟨0, 0, 1, 0, 5, 6⟩, ⟨1, 0, 2, 0, 7, 8⟩] } }

/-- It meets the hypotheses of PtpOnTheCameraPorts; the device clock passes whole seconds at LT 0 and 2 and not at 4. -/
theorem test_wit_CamPtp : (∀ tun ∈ [false, true], State.upOn (upCamPtp tun) 0 2 ∧
    (let b := (upCamPtp tun).now 0
     (b.camp 3).tunOn = tun ∧
     b.camPtp 3 = true ∧ b.intervalDue (nth b.time.syncAt 3 none) (b.getS uTime F.TIME.CAM_MSG_LOG_SYNC) = true ∧
     b.intervalDue (nth b.time.annAt 3 none) (b.getS uTime F.TIME.CAM_MSG_LOG_ANNOUNCE) = true ∧
     nth b.time.dreq 3 (0, 0) = (0, b.lt / 10 ^ 9) ∧ 0 < b.get uTime F.TIME.CAM_MSG_DREQ_LIMIT ∧
     (b.set uTime F.TIME.CAM_MSG_DREQ_LIMIT 0).get uTime F.TIME.CAM_MSG_DREQ_LIMIT = 0 ∧
     b.servoRuns = true ∧ b.lportUp = true ∧ b.tsq 3 = [⟨0, 0, 1, 0, 5, 6⟩, ⟨1, 0, 2, 0, 7, 8⟩] ∧ b.tsq 4 = [] ∧
     b.isRunning = true ∧ b.answers ⟨.host, 15, 1⟩ ∧ b.answers ⟨.core2, 3, 1⟩)) ∧
    (let passes (b : Block) : Bool :=
      b.isRunning && decide (b.devClock % 10 ^ 9 ≤ 2) && decide (b.time.anchorSec ≠ some (b.devClock / 10 ^ 9))
     passes ((upCamPtp false).now 0) = true ∧ passes ((upCamPtp false).now 1) = true ∧ passes ((upCamPtp false).now 2) = false) := by
  decide +kernel

/-- `up` with channel 2 converting single steps, busy when asked, channel 1 a physical one, channel 9 a virtual one with two
values offered and an input held over, channel 10 one that passes the lost value offered over. -/
def upSense (busy : Bool) : State := onBlk up fun b =>
  { (((b.setI uSense F.SENSE.CH_CFG_MODE 2 5).setI uSense F.SENSE.CH_CFG_MODE 1 1).setI
      uSense F.SENSE.CH_CFG_MODE 9 1).setI uSense F.SENSE.CH_VIRT_SKIP_FLAGGED 9 0 with
    sense := { b.sense with chans := (upd (upd (upd b.sense.chans 2 fun c => { c with busy := busy }) 9
      fun c => { c with offers := [⟨40000, true, 3, 0⟩, ⟨1, false, 3, 0⟩], queued := [(256, 2)] }) 10
      fun c => { c with offers := [⟨5, true, 3, 0⟩, ⟨6, false, 3, 0⟩] }) } }

/-- It meets the hypotheses of SenseChannelsConvert. -/
theorem test_wit_Sense : State.upOn (upSense false) 500000 3 ∧
    (let b := (upSense false).now 500000
     b.sense.chans.length = 16 ∧ b.smode 1 = 1 ∧ b.senseFed 1 = true ∧ b.smode 2 = 5 ∧ b.senseFed 2 = true ∧
     (b.sch 2).busy = false ∧ (((upSense true).now 0).sch 2).busy = true ∧
     (b.sch 9).offers = [⟨40000, true, 3, 0⟩, ⟨1, false, 3, 0⟩] ∧ b.onI uSense F.SENSE.CH_VIRT_SKIP_FLAGGED 9 = false ∧
     (b.sch 10).offers = [⟨5, true, 3, 0⟩, ⟨6, false, 3, 0⟩] ∧ b.onI uSense F.SENSE.CH_VIRT_SKIP_FLAGGED 10 = true ∧ b.smode 9 = 1 ∧
     3 + b.sget F.SENSE.CH_CFG_SS_N 2 = 67 ∧
     1000000 = b.since (b.sch 9).lastAccept ∧ b.on uSense F.SENSE.BANK_STAT_PENDING = false ∧
     (∀ k < 16, b.sget F.SENSE.CH_CFG_USER k = 0 ∨ b.smode k = 0 ∨ 4 < b.smode k)) := by decide +kernel

/-- `up` with the observer in a state since LT 0 and reported so at LT 0, nothing measured but a count of 0 by the digital
source 1. -/
def upObs (st : Nat) : State := onBlk up fun b =>
  { b.set uWeb F.WEB.STATE_OBS st with web := { b.web with src := 1, past := [⟨0, 70000, 5, st⟩] } }

/-- It meets the hypotheses of WebPositionIsTracked, as the reset state does those of a core that does not run. -/
theorem test_wit_Web : State.upOn (upObs 3) 25000000 3 ∧ ((upObs 3).now 25000000).web.encs.length = 2 ∧
    ((State.reset.now 0).cored && nth (State.reset.now 0).boot.cores 3 false) = false ∧
    ((upObs 3).now 25000000).obsState = 3 ∧ ((upObs 3).now 25000000).since ((upObs 3).now 25000000).web.coastFrom = 50000000 ∧
    (let m := (((upObs 2).now 0).emits [.encoderSinCos 0 [] [], .encoderSinCos 1 [] []]).webMeasure ⟨[], [], false⟩ ⟨[], [], false⟩
     m.obsState = 2 ∧ m.srcFault m.web.src = false ∧ m.srcMeas m.web.src = some 0 ∧ m.web.src = 1) := by decide +kernel

theorem test_wit_Web_sync :
    (let b := (upObs 2).now 5000
     0 < b.get uWeb F.WEB.PAGE_CFG_SYNC_FILT * 100 ∧ b.get uWeb F.WEB.PAGE_CFG_SYNC_FILT * 100 ≤ 10000 ∧ b.web.src < 4 ∧
     b.web.mode1 = false ∧ b.webPast 10000 = some ⟨0, 70000, 5, 2⟩ ∧ b.webPast 10001 = none ∧
     b.web.lastStart = none ∧ b.web.pend.length < 8) ∧
    (∀ st ∈ [0, 4], ((upObs st).now 5000).webPast 10000 = some ⟨0, 70000, 5, st⟩) := by decide +kernel

theorem test_wit_Web_quad : ((upObs 2).now 0).enc 1 = ((upObs 2).now 0).enc 0 ∧ (((upObs 2).now 0).enc 1).a = false ∧
    (((upObs 2).now 0).enc 1).b = false := by decide +kernel

/-- A state that meets the hypotheses of WebReadsLatch, for the host and a core. -/
theorem test_wit_WebReads : State.up up 0 ∧ (up.now 0).answers ⟨.host, 15, 1⟩ ∧ (up.now 0).answers ⟨.core3, 6, 1⟩ := by
  decide +kernel

/-- `up` with both windows of context 5 at word w of bank k, and with a commit that changes both banks pending when asked;
bank 0 is in force. -/
def upTable (k w : Nat) (pending : Bool) : State := onBlk up fun b =>
  let b := (((b.set (uCtx 5) F.CTX.TBL_ADDR_BANK k).set (uCtx 5) F.CTX.TBL_ADDR_WORD w).set (uCtx 5) F.CTX.GEO_ADDR_BANK k).set
    (uCtx 5) F.CTX.GEO_ADDR_WORD w
  if pending then
    { b with commits := [⟨uCtx 5, .line, none, [uCtx 5], false, none, 0, 0⟩]
             staged := [(regKey (uCtx 5) F.CTX.TABLE_BANK.off, 255), (regKey (uCtx 5) F.CTX.GEO_CFG_GEO_BANK.off, 255)] }
  else b

/-- States that meet the hypotheses of TableAccessesByWord, the address at the other bank, at its last word and past it, at
the bank in force, and with a commit pending. -/
theorem test_wit_Tables : State.up (upTable 1 0 false) 0 ∧ ((upTable 1 0 false).now 0).ctxs.length = 32 ∧
    (∀ m ∈ [Master.core1, .host], ((upTable 1 0 false).now 0).takes m ∧
      (m = .core1 → ((upTable 1 0 false).now 0).mayWrite m (uCtx 5) F.CTX.TBL_DATA_WORD 0 = true ∧
        ((upTable 1 0 false).now 0).mayWrite m (uCtx 5) F.CTX.GEO_DATA_WORD 0 = true)) ∧
    ((upTable 1 0 false).now 0).answers ⟨.core1, 12, 1⟩ ∧
    (∀ w ∈ [0, 49151, 49152, 65535],
      let b := (upTable 1 w false).now 0
      b.get (uCtx 5) F.CTX.TBL_ADDR_WORD = w ∧ b.get (uCtx 5) F.CTX.TBL_ADDR_BANK ≠ b.get (uCtx 5) F.CTX.TABLE_BANK ∧
      b.bankPending 5 F.CTX.TABLE_BANK = false) ∧
    (∀ w ∈ [0, 24575, 24576, 32767],
      let b := (upTable 1 w false).now 0
      b.get (uCtx 5) F.CTX.GEO_ADDR_WORD = w ∧ b.get (uCtx 5) F.CTX.GEO_ADDR_BANK ≠ b.get (uCtx 5) F.CTX.GEO_CFG_GEO_BANK ∧
      b.bankPending 5 F.CTX.GEO_CFG_GEO_BANK = false ∧ (b.geoTarget 5).isSome = decide (w < 24576)) ∧
    (let b := (upTable 1 0 true).now 0
     b.bankPending 5 F.CTX.TABLE_BANK = true ∧ b.bankPending 5 F.CTX.GEO_CFG_GEO_BANK = true) ∧
    (let b := (upTable 0 0 false).now 0
     b.get (uCtx 5) F.CTX.TBL_ADDR_BANK = b.get (uCtx 5) F.CTX.TABLE_BANK ∧
     b.get (uCtx 5) F.CTX.GEO_ADDR_BANK = b.get (uCtx 5) F.CTX.GEO_CFG_GEO_BANK) := by decide +kernel

/-- A line of context 3 and the web line 7 it belongs to. -/
def ctxLine : CtxLine := ⟨7, 0, 0, 1, 0, false, false, false, 0, false, true, 3, 8, 0, 0, 64, 0, []⟩
def webLine7 : StitchLine := ⟨7, 0, 0, 1, 0, [3], [], none, false, some 0⟩

/-- `up` with port 3 having emitted line 7, context 3 taking from it and one line at its output, WEST up to the ring's
first position, the left neighbour. -/
def upLines (lines : List StitchLine) : State := onBlk up fun b =>
  let b := (((((b.set (uCtx 3) F.CTX.SRC_EN 1).set (uCtx 3) F.CTX.SRC_CAMP 3).set (uCtx 3) F.CTX.GEO_KEEP_COUNT 64).set
      uStitch F.STITCH.RING_CFG_LEFT_PORT 1).set uStitch F.STITCH.RING_CFG_OVL_L 8).set uLatgov F.LATGOV.CFG_EN 0
  { ((b.setI uSerdes F.SERDES.PORT_STAT_STATE 12 8).set uRing F.RING.CFG_POS 1).set uRing F.RING.CFG_SIZE 4 with
    devAddr := 1
    ring := { b.ring with links := [{ RingLink.fresh with used := true }, RingLink.fresh, RingLink.fresh] }
    camps := upd b.camps 3 fun c => { c with lines := [⟨7, 0, 0, 8, false, false, false, 0, 0, [], 0⟩] }
    trig := { b.trig with lines := [⟨7, 0, 1, 0, false, 0, 42000000, 0⟩] }
    ctxs := upd b.ctxs 3 fun c => { c with outbox := [ctxLine] }
    stitch := { b.stitch with lines := lines } }

/-- The header of an OVERLAP message for line 7 of two columns. -/
def ovlBody : List Nat := le 6 7 ++ le 2 2

/-- It meets the hypotheses of LinesReachTheStitcher. -/
theorem test_wit_Lines : State.upOn (upLines [webLine7]) 0 1 ∧
    (let b := (upLines [webLine7]).now 500000
     b.ctxs.length = 32 ∧ (b.nextReady 0).map (fun p => (p.1, p.2.line)) = some (3, 7) ∧ b.nextReady 1 = none ∧
     (b.lineInfo 7).isSome = true ∧ b.keptOut 7 = false ∧ (b.ctx 3).outbox = [ctxLine] ∧
     b.stitch.lines.find? (fun e => e.line == 7) = some webLine7 ∧ b.awaited webLine7 3 = true ∧ findK 3 webLine7.got = none ∧
     b.stitchOpen < 8 ∧ b.lineComplete webLine7 = false ∧ b.stitch.lines.find? b.overlapDue = some webLine7 ∧
     ((upLines []).now 0).stitch.lines.find? (fun e => e.line == 7) = none ∧
     b.awaited { webLine7 with ports := [4] } 3 = false ∧
     b.lineComplete { webLine7 with got := [(3, ctxLine)], gaveUp := true } = true ∧
     b.lineComplete { webLine7 with ports := [], ovl := some [] } = true) := by decide +kernel

theorem test_wit_Lines_overlap :
    let b := (upLines [webLine7]).now 0
    b.linkUp 0 = true ∧ (b.link 0).used = true ∧ 0 / 32 = b.devAddr / 32 ∧ b.ringPos = (0 % 32 + 1) % b.ringSize ∧
    leAt ovlBody 0 6 = 7 ∧ (b.valsAt uStitch 7).get uStitch F.STITCH.RING_CFG_LEFT_PORT = 1 ∧ b.stitch.nextOut ≤ 7 ∧
    b.stitch.lines = [webLine7] ∧ webLine7.ovl = none ∧ webLine7.gaveUp = false := by decide +kernel

/-- A directory entry of 64 by 16 pixels, 8-bit grey, in a state. -/
def entry7 (state : Nat) : RefEntry := ⟨7, state, 0, false, 0, 1, 64, 16, 0, [0], 0, 1⟩

/-- `up` with reference 7 in the directory, loading in slot 2 with `blocks` written, a page job for it waiting, a map of 4
groups by 2 rows loading and n band buffers full. -/
def upRef (state blocks : Nat) (buf : List Nat) (n : Nat) : State := onBlk up fun b =>
  { b with refs := { b.refs with
      dir := [entry7 state], jobs := [⟨false, 1, 7, 0, 0, true, false⟩]
      maps := [⟨9, 1, 0, 4, 2, [0], 0⟩], bands := List.replicate n ⟨1, none, 0, []⟩
      slots := upd b.refs.slots 2 fun _ => ⟨some 7, 0, buf, blocks, []⟩ } }

/-- It meets the hypotheses of ReferencesAreLoaded: a load short of bytes, blocks and buffers and one with all of them. -/
theorem test_wit_Refs : State.up (upRef 1 0 [] 0) 0 ∧
    (let b := (upRef 1 0 [] 0).now 0
     b.refs.slots.length = 4 ∧ (b.slot 2).handle = some 7 ∧ b.refOf 7 = some (entry7 1) ∧ b.encReady = none ∧
     (b.slot 0).handle = none ∧ b.refs.maps.find? (fun m => m.state == 1) = some ⟨9, 1, 0, 4, 2, [0], 0⟩ ∧
     Block.mapBytes ⟨9, 1, 0, 4, 2, [0], 0⟩ = 4 ∧ (∀ m ∈ (up.now 0).refs.maps, m.state ≠ 1) ∧
     (entry7 1).streamBytes = 1024 ∧ (entry7 1).bandCount * (entry7 1).blocksPer = 1 ∧
     (((upRef 1 1 [] 0).now 0).slot 2).blocks = 1 ∧
     ((upRef 1 0 (List.replicate 4096 5) 0).now 0).encReady = some (2, entry7 1)) := by decide +kernel

theorem test_wit_Refs_bands :
    let f (b : Block) : Block := { b with refs := { b.refs with bands := b.refs.bands.filter fun q => !b.bandFree q } }
    (f ((upRef 2 1 [] 0).now 0)).bandNext = some (entry7 2, 0, none) ∧ (f ((upRef 2 1 [] 0).now 0)).refs.bands = [] ∧
    (f ((upRef 2 1 [] 4).now 0)).refs.bands.length = 4 ∧ (f ((upRef 1 1 [] 0).now 0)).bandNext = none := by decide +kernel

/-- An open component of page 1. -/
def comp0 : Comp :=
  { id := 0, page := 1, profile := 0, line := 0, pageLine := 0, stamp := 0, col0 := 0, lo := 0, hi := 0, last := 0, lines := 0,
    area := 0, strong := 0, dMax := 0, pkLine := 0, pkCol := 0, pkZone := 0, dSum := 0, dlSum := 0, colSum := 0, lineSum := 0,
    live := (0, 0, 0), ref := (0, 0, 0), confMin := 255, unref := 0, seam := false, sat := false, fillAdj := false, cont := false,
    merged := false, edgeR := false, base := 0, cols := [], window := none }

/-- A web line of page 1 without columns, a row of it, and `up` with the line at the stitcher's output and n rows in store. -/
def webLine (pl : Nat) : WebLine := ⟨pl, 0, 0, 1, pl, 0, 0, false, false, true, 0, 0, []⟩
def row0 (closed : Bool) (est : Option (Int × List TangoNode)) : TangoRow :=
  ⟨1, 0, 0, [webLine 0, webLine 1], [], closed, closed, est, 0⟩
def upTango (closed : Bool) (est : Option (Int × List TangoNode)) (n : Nat) : State := onBlk up fun b =>
  { b with
    stitch := { b.stitch with outq := [webLine 2] }
    tango := { b.tango with rows := List.replicate n (row0 closed est), open_ := true, outq := [⟨webLine 3, 0, [], []⟩] }
    seg := { b.seg with last := some (1, 0, 0, 0, 0), comps := [comp0] } }

/-- It meets the hypotheses of LinesGoThroughTango, the flush time just over and not yet. -/
theorem test_wit_Tango : State.upOn (upTango false none 1) 0 1 ∧
    (let b := (upTango false none 1).now 0
     b.stitch.outq = [webLine 2] ∧ b.heldLines < 40 ∧ b.tango.open_ = true ∧
     0 < 1000 * b.get uTango F.TANGO.TIMING_FLUSH_US ∧ b.since b.tango.entered = 0 ∧ b.since b.seg.entered = 0 ∧
     b.tango.rows.getLast? = some (row0 false none) ∧ b.tango.rows.find? (fun r => r.est.isNone) = some (row0 false none) ∧
     b.tango.outq = [⟨webLine 3, 0, [], []⟩] ∧ b.seg.last.isSome = true ∧ b.seg.comps ≠ []) ∧
    ((upTango true none 20).now 0).heldLines = 40 ∧
    ((upTango true none 1).now 0).tango.rows.find? (fun r => r.est.isNone) = some (row0 true none) ∧
    Block.rowMayLeave (row0 true (some (0, []))) [] = true := by decide +kernel

theorem test_wit_Tango_flush : State.upOn (upTango false none 1) 100000 1 ∧
    (let b := (upTango false none 1).now 100000
     1000 * b.get uTango F.TANGO.TIMING_FLUSH_US = b.since b.tango.entered ∧ b.since b.seg.entered = b.since b.tango.entered) := by
  decide +kernel

/-- A tag with actions, and `up` with it received, an item to classify, a pulse ending and an alarm queued, the default rule's
actions and the tags of a block row given. -/
def tagOf (actions : Nat) : TagRec :=
  { cls := 0, actions := actions, device := 0, flags := 0, seq := 0, loc := 0, stamp := 0, stampClose := 0, line := 0, height := 1,
    page := 1, job := 0, pageLine := 0, col := 0, width := 1, area := 1, deMax := 0, deMean := 0, dlMean := 0, strong := 1,
    cenCol := 0, cenLine := 0, peakCol := 0, peakLine := 0, live := 0, ref := 0, zone := 0, profile := 0, confMin := 0, folded := 0,
    closeLine := 0 }
def upTags (actions dflt max : Nat) : State := onBlk up fun b =>
  { ((b.setI uSerdes F.SERDES.PORT_STAT_STATE 15 8).set uTag F.TAG.DEFAULT_ACTIONS dflt).set uTag F.TAG.CFG_MAX_PER_BLOCK max with
    seg := { b.seg with items := [.comp comp0 0 3 0 1 0 0, .rowEnd 1 0 0 0 0] }
    tag := { b.tag with inbox := [(tagOf actions, 0)], alertEnd := some 0, lportQ := [.alarm ⟨5, 0, 0, 0, 0, 0, 0, 0, 0⟩] } }

/-- It meets the hypotheses of TagsAreClassifiedAndSent: a component without a TAG action, one tagged, one folded. -/
theorem test_wit_Tags : State.up (upTags 0 7 64) 0 ∧
    (let b := (upTags 0 7 64).now 0
     b.seg.items.length = 2 ∧ b.pastOf uTag 3 = [] ∧ b.tag.inbox = [(tagOf 0, 0)] ∧
     (∀ x ∈ [2, 8, 32], ((upTags x 7 64).now 0).tag.inbox = [(tagOf x, 0)]) ∧
     bit ((b.valsAt uTag 0).classify (b.compTag comp0 0 3 0)).2.1 0 = true ∧
     (b.foldOf 1 (0 / 16)).made < b.get uTag F.TAG.CFG_MAX_PER_BLOCK ∧ ((upTags 0 7 0).now 0).get uTag F.TAG.CFG_MAX_PER_BLOCK = 0 ∧
     (let c := (upTags 0 6 64).now 0
      bit ((c.valsAt uTag 0).classify (c.compTag comp0 0 3 0)).2.1 0 = false) ∧
     b.ringState = 0 ∧ b.tag.alertEnd = some 0 ∧ (up.now 0).tag.alertEnd = none ∧ b.isRunning = true ∧ b.since 0 < 2 ^ 63 ∧
     b.lportUp = true ∧ (up.now 0).lportUp = false ∧ b.tag.arpWait = [] ∧ Block.dgramTake b.tag.lportQ 45 1456 ≠ []) := by
  decide +kernel

/-- `up` with axis 1 in a state, waiting for a status since LT 0, a good one just received, one mark queued. -/
def upAxis (st : Nat) : State := onBlk up fun b =>
  { b.set (uAxis 1) F.AXIS.STAT_STATE st with
    axes := upd b.axes 1 fun x => { x with period := some 0, due := true, good := 1, queue := [⟨0, 0, 0, 0, false, false, none, false⟩] } }

/-- A good status of a drive for frame 255, with a DRIVE_STATUS. -/
def statusFrame (addr status : Nat) : List Nat :=
  let l := [0x5A, 9 + 16 * addr, 255, status, 1, 2, 3, 4, 5, 6, 0, 0]
  l ++ [Block.crc16 0xFFFF l % 256, Block.crc16 0xFFFF l / 256]

/-- It meets the hypotheses of AxesMoveThroughTheirStates, a status at the response time being both in time and, when it has
not come, overdue. -/
theorem test_wit_Axes : State.upOn (upAxis 1) 0 3 ∧ (∀ st < 7, ((upAxis st).now 0).axisState 1 = st) ∧
    (let b := (upAxis 2).now 50000000000
     b.axes.length = 2 ∧ b.get (uAxis 1) F.AXIS.TOL_HOME_S * 10 ^ 9 ≤ b.since (b.axis 1).homeFrom ∧ (b.axis 1).period = some 0 ∧
     (b.axis 1).due = true ∧ (b.axis 1).bad + 1 < b.get (uAxis 1) F.AXIS.CFG_LINK_LOSS_N) ∧
    (∀ status ∈ [0, 2],
      let b := (upAxis 2).now 30000
      b.since 0 = 1000 * b.get (uAxis 1) F.AXIS.CFG_RESP_US ∧ 1 ≤ (b.axis 1).good ∧
      (let f := statusFrame (b.get (uAxis 1) F.AXIS.CFG_DRIVE_ADDR) status
       f.length = 14 ∧ (∀ v ∈ f, v < 256) ∧ leAt f 0 1 = 0x5A ∧ leAt f 1 1 = 9 + 16 * b.get (uAxis 1) F.AXIS.CFG_DRIVE_ADDR ∧
       leAt f 12 2 = Block.crc16 0xFFFF (f.take 12) ∧ leAt f 2 1 = ((b.axis 1).k + 255) % 256 ∧ bit (leAt f 3 1) 2 = false ∧
       bit (leAt f 3 1) 1 = (status == 2))) := by decide +kernel

/-- `up` with axis 1 in a state, marking class 0 when asked within virtual limits of 1 µm, page 1 recorded, a tag that many
columns along in its inbox, a shot due and a pulse ending when asked. -/
def upMark (st : Nat) (on : Bool) (col page : Nat) (pulse : Option Nat) : State := onBlk up fun b =>
  let b := (((((b.set (uAxis 1) F.AXIS.STAT_STATE st).set (uAxis 1) F.AXIS.CFG_EN (b2n on)).set
    (uAxis 1) F.AXIS.SEL_MARK_EN 1).set (uAxis 1) F.AXIS.CLASS_LO_MASK 1).set (uAxis 1) F.AXIS.VLIM_MAX_NM 1000).set
    (uAxis 1) F.AXIS.XMAP_PITCH_PM 1000000
  { b with
    axes := upd b.axes 1 fun x => { x with
      inbox := [{ tagOf 8 with col := col, page := page }], pulseEnd := pulse, pages := [⟨1, 10, 42000000⟩]
      shots := [⟨0, ⟨0, 0, 0, 1, 0, 0, 0, 0, 0, 0⟩⟩] } }

/-- It meets the hypotheses of MarksAreTakenAndFired: a period due, a tag ignored, outside, of an unknown page and queued, a
pulse that rises, that stays and that ends. -/
theorem test_wit_Marks : State.upOn (upMark 1 false 0 1 none) 0 3 ∧
    (let b := (upMark 1 false 0 1 none).now 0
     b.axes.length = 2 ∧ (b.axis 1).due = false ∧ (b.axis 1).replans = [] ∧ (b.axis 1).period = none ∧ b.axisState 1 = 1 ∧
     (b.axis 1).inbox = [tagOf 8] ∧
     (b.on (uAxis 1) F.AXIS.CFG_EN && b.on (uAxis 1) F.AXIS.SEL_MARK_EN) = false ∧
     (b.axis 1).shots.map AxisShot.rise = [0] ∧ 0 ≤ b.lt + 1 ∧ (b.axis 1).pulseEnd = none ∧
     (((upMark 1 false 0 1 (some 1)).now 0).axis 1).pulseEnd = some 1) ∧
    (let b := (upMark 3 true 1 1 none).now 0
     b.axisState 1 = 3 ∧ (b.axis 1).plan = none ∧ (b.axis 1).queue = [] ∧ b.getS (uAxis 1) F.AXIS.VLIM_MIN_NM ≤ (b.axis 1).cmd ∧
     (b.axis 1).cmd ≤ b.getS (uAxis 1) F.AXIS.VLIM_MAX_NM ∧
     (b.on (uAxis 1) F.AXIS.CFG_EN && b.on (uAxis 1) F.AXIS.SEL_MARK_EN && bit (b.get (uAxis 1) F.AXIS.CLASS_LO_MASK) 0) = true ∧
     (b.axis 1).pages.map AxisPage.page = [1] ∧ b.web.pNow < 10 * 65536) := by decide +kernel

/-- The target of a tag at column 1 lies on the limit, that of one at column 2 outside. -/
theorem test_wit_Marks_goal :
    let goal (b : Block) (col : Nat) : Int := b.getS (uAxis 1) F.AXIS.XMAP_ORG_NM + divRound
      (((16 * col : Nat) - (16 * b.get (uAxis 1) F.AXIS.XMAP_COL0_COL : Nat)) * b.get (uAxis 1) F.AXIS.XMAP_PITCH_PM) 16000
    let b := (upMark 3 true 1 1 none).now 0
    goal b 1 = b.getS (uAxis 1) F.AXIS.VLIM_MAX_NM ∧ b.getS (uAxis 1) F.AXIS.VLIM_MAX_NM < goal b 2 ∧
    b.getS (uAxis 1) F.AXIS.VLIM_MIN_NM ≤ goal b 1 := by decide +kernel

/-- `up` with the DRAM running, scrubbing on, requests, symbols in error, two rows open, channel 3 asking for a pause. -/
def upDram (pause : Option Nat) (reqs : List DramReq) (bad : List (Nat × Nat)) : State := onBlk up fun b =>
  let b := (((b.set uDmc F.DMC.STAT_STATE 3).set uDmc F.DMC.CFG_ECC_EN 1).set uDmc F.DMC.SCRUB_HOURS 1).set
    uDmc F.DMC.PWR_SR_IDLE_US 5
  { b.setI uDmc F.DMC.TARGET_NS 2 10 with dmc := { b.dmc with
      reqs := reqs, rows := [⟨0, 0, 0, 5, 0⟩, ⟨1, 0, 2, 5, 0⟩], wants := [(3, 7)], pausing := pause, bad := bad } }

/-- It meets the hypotheses of DramServesAndKeepsItself: granules with 0, 1, 2, 3 and 14 symbols in error, one with a write
queued, a full write queue, a late request. -/
theorem test_wit_DramServes : State.up (upDram none [] []) 0 ∧
    (let b := (upDram none [] [(2, 1)]).now 500000
     b.dramUp = true ∧ 192 < b.usableBytes ∧ b.badOf 2 = 1 ∧ b.badOf 1 = 0 ∧ b.writeQueued 2 = false ∧
     b.queueRoom 2 false = true ∧ b.queueRoom 2 true = true ∧ 3 ≤ b.badOf 2 + 2 ∧ b.badOf 2 + 13 ≤ 14 ∧
     b.on uDmc F.DMC.CFG_ECC_EN = true ∧ b.get uDmc F.DMC.SCRUB_HOURS ≠ 0 ∧ b.get uDmc F.DMC.STAT_STATE = 3 ∧
     b.get uDmc F.DMC.PWR_SR_IDLE_US ≠ 0 ∧ b.dmc.reqs = [] ∧ b.gov.trigTimes = [] ∧ b.dmc.pausing = none ∧
     1000 * b.get uDmc F.DMC.PWR_SR_IDLE_US ≤ b.since b.dmc.lastReq ∧ b.pauseAllowed = true ∧ b.dmc.trained.length = 16 ∧
     findK 3 b.dmc.wants = some 7 ∧
     ((List.range 16).zip [0, 0, 900, -5000]).filter (fun p => decide (b.get uDmc F.DMC.RETRAIN_DRIFT_PS < p.2.natAbs)) ≠ []) ∧
    ((upDram none [] []).now 0).dmc.bad = [] ∧ ((upDram (some 3) [] []).now 0).dmc.pausing = some 3 ∧
    ((upDram (some 3) [] []).now 0).pauseAllowed = false ∧ ((up.now 0).dramUp = false) := by decide +kernel

theorem test_wit_DramServes_queue :
    (let r : DramReq := ⟨2, 2, false, false, 5, 0, 0, false⟩
     let b := (upDram none [r, { r with order := 1 }] []).now 6
     b.getI uDmc F.DMC.TARGET_NS r.q ≠ 0 ∧ b.getI uDmc F.DMC.TARGET_NS r.q < b.since r.at_ ∧
     ¬ b.getI uDmc F.DMC.TARGET_NS r.q < (((upDram none [r] []).now 5).since r.at_)) ∧
    (let w : DramReq := ⟨2, 2, false, true, 2, 0, 0, false⟩
     ((upDram none [w] [(2, 20)]).now 0).writeQueued 2 = true ∧
     ((upDram none (List.replicate 63 w) []).now 0).queueRoom 2 true = true ∧
     ((upDram none (List.replicate 64 w) []).now 0).queueRoom 2 true = false) := by decide +kernel

/-- `up` with the host's link training or up, in D3hot or not, MSI-X on, messages 1 and 2 pending, channels 4 and 5 in states. -/
def upHost (link d3 : Nat) : State := onBlk up fun b =>
  let b := ((((b.set uHost F.HOST.LINK_UP link).set uHost F.HOST.LINK_D3 d3).set uClk F.CLK.SRC_STAT_REF_OK 1).setI
    uDma F.DMA.CH_STAT_STATE 4 1).setI uDma F.DMA.CH_STAT_STATE 5 3
  { b with host := { b.host with
      training := true, msixEnable := true, functionMask := false, pba := [1, 2]
      msix := upd b.host.msix 1 fun (e : MsixEntry) => { e with addr := 64, data := 9, masked := false } } }

/-- The reset state with its link training. -/
def unreleased : State := onBlk State.reset fun b => { b with host := { b.host with training := true } }

/-- They meet the hypotheses of HostLinkAndPowerStates. -/
theorem test_wit_HostLink : State.up (upHost 0 0) 0 ∧
    ((upHost 0 0).now 0).host.training = true ∧ ((upHost 0 0).now 0).cored = true ∧ (up.now 0).host.training = false ∧
    ((upHost 0 0).now 0).on uClk F.CLK.SRC_STAT_REF_OK = true ∧ ((upHost 0 0).now 0).on uHost F.HOST.LINK_UP = false ∧
    5 ≤ F.HOST.LINK_SPEED.max ∧ 16 ≤ F.HOST.LINK_WIDTH.max ∧
    ((upHost 0 0).now 0).dma.chans.length = 64 ∧ ((upHost 0 0).now 0).chanState 4 = 1 ∧ ((upHost 0 0).now 0).chanState 5 = 3 ∧
    ((upHost 1 1).now 0).on uHost F.HOST.LINK_D3 = true ∧ ((upHost 0 0).now 0).on uHost F.HOST.LINK_D3 = false ∧
    ((upHost 0 0).now 0).host.msix.length = 64 ∧ ((upHost 1 1).now 0).host.msixEnable = true ∧
    ((upHost 1 1).now 0).host.functionMask = false ∧
    (unreleased.now 0).host.training = true ∧ (unreleased.now 0).cored = false := by decide +kernel

/-- `up` in a phase, with channel 4 in a state and holding a finished last descriptor, access 7 of a kind in flight for channel
5, which is filling one, access 8 in quarantine, a record waiting in stream 1. -/
def upDma (phase st : Nat) (kind : DmaKind) : State := onBlk up fun b =>
  let b := (b.set uSys F.SYS.BOOT_STAT_PHASE phase).setI uDma F.DMA.CH_STAT_STATE 4 st
  { b with
    dma := { b.dma with
      chans := upd (upd b.dma.chans 5 fun (c : DmaChan) => { c with desc := some ⟨0, 64, 0, 0, 0⟩, requested := 64 }) 4
        fun (c : DmaChan) => { c with desc := some ⟨256, 64, 0, 0, 0⟩, requested := 64, written := 64, limit := 9, streamFirst := some 0 }
      flight := [⟨7, 5, kind, 0, 0, 64, 0, [], false⟩], quarantine := [⟨8, 5, .read, 0, 0, 64, 0, [], false⟩] }
    host := { b.host with streams := upd b.host.streams 1 fun _ => ⟨[.alarm ⟨5, 0, 0, 0, 0, 0, 0, 0, 0⟩], none, some 0⟩ } }

/-- `upDma` at rest, with channel 4 to start from host memory. -/
def upDmaIdle (st : Nat) : State := onBlk (upDma 10 st .read) fun b =>
  { b.setI uDma F.DMA.CH_CFG_TAG_MAX 4 2 with dma := { b.dma with flight := [], quarantine := [] } }

/-- They meet the hypotheses of DmaChannelsRunTheirChains: requests to a channel before RUNNING and in each state, answers of
each kind, a finished descriptor and one that is not, times at their ends. -/
theorem test_wit_DmaChannels : State.up (upDma 10 0 .read) 0 ∧
    (∀ kind ∈ [DmaKind.read, .fetch],
      let b := (upDma 10 0 kind).now 50000000000
      b.dma.chans.length = 64 ∧ b.dma.flight.find? (fun a => a.id == 8) = none ∧ b.dma.quarantine.any (·.id == 8) = true ∧
      b.dma.flight.find? (fun a => a.id == 7) = some ⟨7, 5, kind, 0, 0, 64, 0, [], false⟩ ∧
      b.dma.quarantine.find? (fun a => a.id == 8) = some ⟨8, 5, .read, 0, 0, 64, 0, [], false⟩ ∧ (b.chan 5).error = none ∧
      (b.chan 5).desc = some ⟨0, 64, 0, 0, 0⟩ ∧ b.get uDma F.DMA.CFG_NOACK_MS * 1000000 ≤ b.since 0) ∧
    ((upDma 8 0 .read).now 0).isRunning = false ∧ ((upDma 8 0 .read).now 0).on uHost F.HOST.LINK_D3 = false ∧
    (∀ st < 4, ((upDmaIdle st).now 0).isRunning = true ∧ ((upDmaIdle st).now 0).chanState 4 = st) ∧
    (let b := (upDmaIdle 0).now 0
     b.getI uDma F.DMA.CH_CFG_DESC_SPACE 4 = 0 ∧ b.dma.flight = [] ∧ b.dma.quarantine = [] ∧ b.dmc.reqs = [] ∧
     b.getI uDma F.DMA.CH_CFG_TAG_MAX 4 = 2) := by decide +kernel

theorem test_wit_DmaDescriptors :
    (let p := ((upDma 10 1 .read).now 0).dmaPump
     p.descDone 4 = true ∧ (p.chan 4).desc = some ⟨256, 64, 0, 0, 0⟩ ∧ (p.chan 4).error = none ∧ (p.chan 4).stopReq = false ∧
     (p.chan 4).repoint = none ∧ (p.chan 4).rearm = false ∧ (p.chan 4).chain + 1 < (p.chan 4).limit ∧ p.descDone 6 = false) ∧
    (let b := (upDma 10 0 .read).now 50000
     b.chanState 56 ≠ 1 ∧ b.getI uDma F.DMA.PCH_CTL_SRC_SPACE 0 ≠ 3 ∧ (b.chan 4).streamFirst = some 0 ∧
     b.get uHost F.HOST.STR_CFG_FLUSH_US * 1000 = b.since 0 ∧
     b.host.streams[1]? = some ⟨[.alarm ⟨5, 0, 0, 0, 0, 0, 0, 0, 0⟩], none, some 0⟩) := by decide +kernel

/-- `up` with producer 3 routed to channel 5, asserted or not, windows of the channel, an export of it unsent, GPIO 4 an input
for rising edges and in a pulse. -/
def upEvents (asserted : List (Nat × Nat)) (windows : List (Nat × EvtWindow)) : State := onBlk up fun b =>
  let b := (((((b.setI uEvt F.EVT.PROD_CH_A1 1 5).setI uEvt F.EVT.PROD_EN_A1 1 1).setI uEvt F.EVT.CH_CFG_OWNER 5 0).setI
    uEvt F.EVT.CH_CTL_IRQ_EN 5 1).setI uEvt F.EVT.GPIO_EDGE 4 1)
  { b with evt := { b.evt with
      asserted := asserted, windows := windows, exports := [(5, ⟨0, 0⟩)], gpioPulse := [4] } }

/-- It meets the hypotheses of EventsReachTheirChannels: no window, one that still takes arrivals, one that has closed; an
assertion 8 ns and 10 ns ago; an export just short of 4 ms old and of that age. -/
theorem test_wit_Events : State.up (upEvents [] []) 0 ∧
    (let b := (upEvents [] []).now 0
     Block.producer 3 = true ∧ b.routes 3 = [5] ∧ b.onI uEvt F.EVT.CH_CFG_SEC 5 = false ∧ findK 3 b.evt.asserted = none ∧
     b.evt.windows.any (b.windowOpen 5) = false ∧ findK 5 b.evt.windows = none ∧
     findK 5 b.evt.exports = some ⟨0, 0⟩ ∧ b.isRunning = true ∧ bit (b.get uEvt F.EVT.GPIO_IN_LEVEL) 4 ≠ true ∧
     b.evt.gpioPulse.contains 4 = true ∧ b.on uHost F.HOST.LINK_D3 = false) ∧
    (let b := (upEvents [(3, 0)] [(5, ⟨[(0, 4)]⟩)]).now 4
     b.since 0 = 8 ∧ findK 3 b.evt.asserted = some 0 ∧ b.windowOpen 5 (5, ⟨[(0, 4)]⟩) = true ∧ findK 2 b.evt.asserted = none) ∧
    (let b := (upEvents [(3, 0)] [(5, ⟨[(0, 3)]⟩)]).now 5
     b.since 0 = 10 ∧ b.evt.windows.any (b.windowOpen 5) = true ∧
     ((upEvents [(3, 0)] [(5, ⟨[(0, 3)]⟩)]).now 11).evt.windows.any (((upEvents [] []).now 11).windowOpen 5) = false ∧ findK 5 b.evt.windows = some ⟨[(0, 3)]⟩ ∧
     Block.windowSrc ⟨[(0, 3)]⟩ < 512 ∧ b.onI uEvt F.EVT.CH_STAT_PEND 5 = false ∧ b.onI uEvt F.EVT.CH_CFG_OWNER 5 = false ∧
     b.onI uEvt F.EVT.CH_CTL_IRQ_EN 5 = true) ∧
    ((upEvents [] []).now 2000000).since 0 = 4000000 ∧ ((upEvents [] []).now 1999999).since 0 < 4000000 ∧
    (∀ m ∈ [Master.host, .core0, .other], (up.now 0).takes m) := by decide +kernel

/-- An occurrence waits, the last entry having been written 20 ns ago. -/
def upErrNew : State := onBlk up fun b => { b with errlog := { b.errlog with
  waiting := [⟨0, 5, 2, .host, 2, 7, 0, 0⟩], entries := List.replicate 1024 ⟨0, 0, 5, 3, .host, 2, 0, 7, 1, 1⟩, wrote := some 0 } }

theorem test_wit_Events_errlog : State.up upErrNew 10 ∧ (upErrNew.now 10).since 0 = 20 ∧
    (∀ o ∈ (upErrNew.now 10).errlog.waiting, (upErrNew.now 10).errlogMerges o = false) ∧
    (upErrNew.now 10).errlog.waiting.length = 1 ∧ (upErrNew.now 10).errlog.wrote = some 0 := by decide +kernel

/-- `up` with an entry in the error log and an occurrence like it waiting that came some ns after it. -/
def upErr (lt merge : Nat) : State := onBlk up fun b => { b with errlog := { b.errlog with
  waiting := [⟨lt, 5, 2, .host, 2, 7, 0, 0⟩], entries := [⟨0, 0, 5, 2, .host, 2, 0, 7, 1, 1⟩], lastMerge := merge } }

/-- It meets the hypotheses of RepeatedErrorsMerge: 1 ms after the entry, and after the last one merged. -/
theorem test_wit_Errlog : State.up (upErr 1000000 0) 0 ∧
    (upErr 1000000 0).blk.errlog.waiting = [⟨1000000, 5, 2, .host, 2, 7, 0, 0⟩] ∧
    (upErr 1000000 0).blk.errlog.entries = [] ++ [⟨0, 0, 5, 2, .host, 2, 0, 7, 1, 1⟩] ∧
    (1000000 + 2 ^ 64 - 0) % 2 ^ 64 ≤ 1000000 ∧ (3000000 + 2 ^ 64 - (upErr 3000000 2000000).blk.errlog.lastMerge) % 2 ^ 64 ≤ 1000000 := by
  decide +kernel

/-- A tunnel record of port 2 with a frame of 60 bytes. -/
def tunOf : TunnelRec := ⟨2, 1, 0, 0, List.replicate 60 0⟩

/-- `up` in a phase, mailboxes of a mask full in both directions, blocks with GO, tunnel records, one of them begun on the wire,
a long request done, a map loaded. -/
def upMail (phase full : Nat) (go : List Nat) : State := onBlk up fun b =>
  let b := go.foldl (fun (b : Block) k => b.setI uBar2 F.MBXB.BLK_CTL_GO k 1)
    (((b.set uSys F.SYS.BOOT_STAT_PHASE phase).set uBar2 F.MBXB.WSTAT_H2F_FULL full).set uBar2 F.MBXB.WSTAT_F2H_FULL full)
  { b with
      mbx := { b.mbx with tunRx := upd (List.replicate 12 []) 2 (fun _ => [tunOf]), tunTx := upd (List.replicate 12 []) 2 (fun _ => [tunOf])
                          tunTake := [tunOf], deferred := [⟨⟨0x30, 5, [], true⟩, none, 1, false, none, none, some (0, 0, [])⟩] }
      camps := upd b.camps 2 fun c => { c with tunOn := true }
      refs := { b.refs with maps := [⟨7, 1, 0, 2, 3, [0], 3⟩] } }

/-- It meets the hypotheses of MailboxesAndDoorbells: mailboxes and blocks empty and full, the longest and the shortest frame
of block 3 and 2, D3hot, Class B shed. -/
theorem test_wit_Mail : State.up (upMail 10 0 []) 0 ∧
    (let b := (upMail 10 0 []).now 0
     b.on uHost F.HOST.LINK_D3 = false ∧ b.isRunning = true ∧ b.h2fFull 1 = false ∧ b.f2hFull 1 = false ∧
     b.h2fFull 0 = false ∧ b.mayTake = true ∧ b.mbx.blockWaiting = none ∧ b.mbx.held = [] ∧ Block.reqOk 0x01 0 [] = true ∧
     b.onI uBar2 F.MBXB.BLK_CTL_GO 2 = false ∧ b.onI uBar2 F.MBXB.BLK_CTL_GO 3 = false ∧
     bit (b.get uBar2 F.MBXB.DB_PEND_PEND) 3 = false ∧ b.shedB = false ∧ (b.set uLatgov F.LATGOV.STAT_LEVEL 2).shedB = true ∧
     b.mbx.tunRx = upd (List.replicate 12 []) 2 (fun _ => [tunOf]) ∧ b.mbx.tunTx[2]? = some [tunOf] ∧ b.mbx.tunTx.length = 12 ∧
     (b.camp 2).tunOn = true ∧ (b.camp 2).txWait = [] ∧
     b.mbx.deferred.find? (fun d => d.req.typ == 0x30 && d.req.tag == 5 && d.done.isSome) =
       some ⟨⟨0x30, 5, [], true⟩, none, 1, false, none, none, some (0, 0, [])⟩ ∧
     (b.refs.maps.find? (fun m => m.state == 1 && m.fed == Block.mapBytes m)).isSome = true) ∧
    (let b := (upMail 10 0xFFFF [0, 1, 2, 3]).now 0
     b.h2fFull 15 = true ∧ b.f2hFull 15 = true ∧ b.mbx.outbox = [] ∧ b.onI uBar2 F.MBXB.BLK_CTL_GO 0 = true ∧
     b.onI uBar2 F.MBXB.BLK_CTL_GO 1 = true ∧ b.onI uBar2 F.MBXB.BLK_CTL_GO 2 = true ∧ b.onI uBar2 F.MBXB.BLK_CTL_GO 3 = true ∧
     b.mbx.tunTake = [tunOf] ∧
     sumN ((nth b.mbx.tunTx 2 []).map fun x => Block.tunnelBytes x.frame.length) + Block.tunnelBytes 60 ≤ 32768) ∧
    (let b := (upMail 8 0 []).now 0
     b.isRunning = false ∧ b.mayTake = false ∧ 3 ∉ b.boot.earlyBells ∧ b.h2fFull 0 = false ∧
     b.onI uBar2 F.MBXB.BLK_CTL_GO 0 = false) := by decide +kernel

/-- Doorbell 3 without a node, with node 7 open, and with node 7 about to close. -/
def upBell (node : Nat) (closing : List Nat) : State := onBlk (upMail 10 0 []) fun b =>
  { b.setI uMbx F.MBX.DB_CFG_NODE 3 node with clk := { b.clk with closing := closing } }

theorem test_wit_Mail_bells : ((upBell 0 []).now 0).getI uMbx F.MBX.DB_CFG_NODE 3 = 0 ∧
    ((upBell 7 []).now 0).getI uMbx F.MBX.DB_CFG_NODE 3 = 7 ∧ ((upBell 7 []).now 0).clk.closing.contains 7 = false ∧
    ((upBell 7 [7]).now 0).clk.closing.contains 7 = true ∧
    (let s := onBlk (upMail 10 0 []) fun b => (b.set uHost F.HOST.LINK_D3 1).set uBar2 F.MBXB.DB_PEND_PEND 8
     State.up s 0 ∧ (s.now 0).on uHost F.HOST.LINK_D3 = true ∧ bit ((s.now 0).get uBar2 F.MBXB.DB_PEND_PEND) 3 = true) := by
  decide +kernel

/-- `up` with reference 5 and map 9 in a state and with a use count, region and map space, lifecycle state 1, a nonce; in state
0 no map and a line commit at TRIG. -/
def upCat (st use : Nat) : State := onBlk up fun b =>
  let b := (((b.set uRefs F.REFS.REGION_SIZE_CHUNKS 4).set uSeg F.SEG.MAP_SIZE_CHUNKS 1).set uSys F.SYS.LIFECYCLE_STATE 1).set
    uDmc F.DMC.STAT_STATE 3
  { b with
      refs := { b.refs with dir := [⟨5, st, use, false, 0, 0, 64, 16, 0, [0], 0, 0⟩]
                            maps := if st = 0 then [] else [⟨9, st, use, 2, 3, [0], 0⟩] }
      commits := if st = 0 then [⟨uTrig, .line, none, Block.commitUnits uTrig, false, none, 0, 0⟩] else []
      mbx := { b.mbx with nonce := some 0 } }

/-- What `upCat` holds once firmware has taken a request of a type with tag 1, after a page that is due when there is one. -/
def served (st typ : Nat) : Block := ((upCat st 0).now 0).serve typ 1
def servedPage (st use typ : Nat) : Block := ((upCat st use).now 0).pageDue.serve typ 1

/-- An image with an empty firmware section and no configuration records, unsigned. -/
def imageOf : List Nat :=
  let put (a : Nat) (x : List Nat) (l : List Nat) : List Nat := l.take a ++ x ++ l.drop (a + x.length)
  put 0x140 ([0x10, 0, 0, 0] ++ le 4 0x560) (put 0x100 ([1, 0, 0, 0] ++ le 4 0x560) (put 0 ([0x4B, 0x52, 0x4B, 0x49] ++ le 2 1 ++
    le 2 2 ++ le 4 0x560 ++ le 4 7 ++ le 2 0 ++ le 2 0x4812) (List.replicate 0x560 0)))

/-- They meet the hypotheses of CatalogueRequestsAreServed: lengths, commits, entries. -/
theorem test_wit_Catalogue : State.up (upCat 0 0) 0 ∧ ((upCat 0 0).now 0).isRunning = true ∧
    (∀ typ ∈ [1, 2, 3], Block.lenOk typ 0 [] = true) ∧
    (let e := [F.TRIG.EXPOSE_WIDTH_NS.at 2 * 1024 + uTrig.index, 255, 7]
     ∀ k ∈ [0, 1], (let m := stagingMsg ⟨1, (uTrig.index + 2 ^ 24) :: e⟩ k
       Block.lenOk 0x10 (4 * m.words.length) m.words = true ∧ unitOfIndex (bits (m.words.getD 0 0) 9 0) = some uTrig ∧ uTrig.exists? = true ∧
       uTrig.ty ≠ .device ∧ firstBad (stageEntryOk uTrig) (entriesOf (m.words.drop 1)) = none ∧
       (served 2 0x10).relatedCommit uTrig = none)) ∧
    (let m := stagingMsg ⟨1, [uTrig.index]⟩ 2
     Block.lenOk 0x10 (4 * m.words.length) m.words = true ∧
     ((served 0 0x10).commits.find? (fun c => c.unit == uTrig && Block.notEntered c)).isSome = true) ∧
    (let e := [F.THM.CTL_CLEAR_PEAK.at 0 * 1024 + uThm.index, 2 ^ F.THM.CTL_CLEAR_PEAK.lo, 1]
     Block.lenOk 0x11 16 (1 :: e) = true ∧ firstBad controlOk (entriesOf e) = none) ∧
    Block.lenOk 0x12 8 [0xFFF, 500] = true ∧
    firstBad (stageEntryOk uTrig) ((onesBelow 12 0xFFF).map fun k => (uTrig.index + F.TRIG.EXPOSE_WIDTH_NS.at k * 1024, 2 ^ 20 - 1, 500)) =
      none ∧ (served 2 0x12).relatedCommit uTrig = none ∧ Block.lenOk 0x13 12 [1, 2, 3] = true := by decide +kernel

/-- And those of its references, maps, tables and bands. -/
theorem test_wit_CatalogueLoads :
    ((upCat 2 0).now 0).pageDue.isRunning = true ∧
    Block.lenOk 0x20 32 [0, 1, 5, 0, 0, 0, 0, 0] = true ∧ (servedPage 2 0 0x20).refs.jobs.length < 64 ∧
    (let ws := [0, 6, 64, 16, 0, 0, 0, 0]
     let d := loadDesc ws
     let p := servedPage 2 0 0x21
     Block.lenOk 0x21 32 ws = true ∧ p.refOf d.handle = none ∧ (p.slot d.slot).handle = none ∧
     p.refs.slots.length = 4 ∧ bit (p.get uSys F.SYS.UNIT_FAIL_DMC) 0 = false ∧ d.fmt < 3 ∧ d.ratio < 5 ∧
     chunksFor d.fmt d.ratio d.width d.lines ≤ p.freeChunks.length ∧ p.refs.dir.length < 4096) ∧
    Block.lenOk 0x22 4 [5] = true ∧ ((servedPage 1 0 0x22).refOf 5).map (·.state) = some 1 ∧ Block.lenOk 0x23 4 [5] = true ∧
    (∀ use ∈ [0, 1], ((servedPage 2 use 0x23).refOf 5).map (fun e => (e.state, e.use)) = some (2, use) ∧
      ((servedPage 2 use 0x26).mapOf 9).map (fun x => (x.state, x.use)) = some (2, use)) ∧
    Block.lenOk 0x24 16 [9 * 2 ^ 16, 2, 3, 0] = true ∧ (servedPage 0 0 0x24).refs.maps = [] ∧
    3 * ((2 + 1) / 2) ≤ 65536 * 256 * (servedPage 0 0 0x24).get uSeg F.SEG.MAP_SIZE_CHUNKS ∧
    Block.lenOk 0x25 4 [9] = true ∧ Block.lenOk 0x26 4 [9] = true ∧ ((servedPage 1 0 0x25).mapOf 9).map (·.state) = some 1 ∧
    (let ws := [0x1_0000, 3, 2, 0, 64, 0]
     let q := Block.tableReq ws
     Block.lenOk 0x30 24 ws = true ∧ Block.lenOk 0x31 24 ws = true ∧ (served 2 0x30).longRunning = false ∧ q.target ≤ 3 ∧ q.ctx < 32 ∧
     q.space = 0 ∧ q.count = 2 ∧ (served 2 0x30).bankLocked q = false) ∧
    Block.lenOk 0x32 16 [5, 0, 0, 0] = true ∧ ((served 2 0x32).refOf 5).map (·.state) = some 2 := by decide +kernel

/-- And those of IMAGE_UPDATE, of an image whose signatures hold: no program computes a signature here. -/
theorem test_wit_CatalogueImage
    (h : (served 2 0x40).signed ((served 2 0x40).get uSys F.SYS.LIFECYCLE_STATE) (imageOf.take 0x560) = true) :
    Block.lenOk 0x40 16 [0, 0, 0, 0x560] = true ∧ imageOf.length = 0x560 ∧ (served 2 0x40).imageCheck imageOf = 0 := by
  have h1 : imageOf.length = 0x560 ∧ leAt (imageOf.take 0x560) 0x8 4 = 0x560 ∧ structural (imageOf.take 0x560) = true ∧
      (((sectionsOf (imageOf.take 0x560)).find? fun x => x.ty == 0x10).bind
        fun x => recordsOf ((imageOf.drop x.off).take x.size)).isNone = false ∧
      (served 2 0x40).rollbackOk (imageOf.take 0x560) = true := by decide +kernel
  refine ⟨by decide, h1.1, ?_⟩
  simp only [Block.imageCheck, h1.1, h1.2.1, h1.2.2.1, h1.2.2.2.1, h1.2.2.2.2, h]
  decide

/-- And those of the lifecycle requests that need no signature: SCRAP, ROLLBACK and DEBUG_DISABLE in state 1. -/
theorem test_wit_CatalogueLife :
    (let ws := List.replicate 66 0
     Block.lenOk 0x51 264 ws = true ∧ (served 2 0x51).longRunning = false ∧ ws.length = 66 ∧
     Block.lifeAllowed 0x51 ((served 2 0x51).get uSys F.SYS.LIFECYCLE_STATE) = true ∧
     (served 2 0x51).lifeIdent (Block.lifeBytes ⟨1, ws⟩) = true ∧
     (served 2 0x51).lifeSigned 0x51 ((served 2 0x51).get uSys F.SYS.LIFECYCLE_STATE) (Block.lifeBytes ⟨1, ws⟩) = true ∧
     (∀ typ ∈ [0x51, 0x56], (match (served 2 typ).lifeAct typ (Block.lifeBytes ⟨1, ws⟩) with
       | .blow _ => true
       | .reply _ _ => false) = true)) := by decide +kernel

/-- `up` with the preconditions of all procedures at target 0 held or gone, a procedure running or none, a journal state. -/
def upCal (ok : Bool) (run : Option CalRun) (j : Nat) : State := onBlk up fun b =>
  let k := if ok then 1 else 0
  let c := uCtx 0
  let b := [(uDmc, F.DMC.STAT_STATE, 3 * k), (uClk, F.CLK.PSTATE_CURRENT, 3 * k), (uClk, F.CLK.SRC_STAT_XTAL_OK, k),
    (uSense, F.SENSE.CH_CFG_MODE, k), (uSerdes, F.SERDES.PORT_STAT_STATE, 8 * k), (uWeb, F.WEB.ENC_PITCH_PM, 1000000),
    (uWeb, F.WEB.ENC_SPEED_UM_S, 50), (c, F.CTX.SRC_EN, k), (c, F.CTX.GEO_KEEP_COUNT, 4), (uCtx 1, F.CTX.SRC_EN, k),
    (uCtx 1, F.CTX.GEO_KEEP_COUNT, 4), (uCtx 1, F.CTX.GEO_OUT_FIRST, 3), (uCal, F.CAL.STAT_JSTATE, j)].foldl
      (fun b (e : UnitId × Field × Nat) => b.set e.1 e.2.1 e.2.2) b
  { b with staged := if ok then [] else [(regKey c F.CTX.GEO_CFG_GEO_BANK.off, BitVec.ofNat 32 (2 ^ F.CTX.GEO_CFG_GEO_BANK.lo))]
           commits := if ok then [] else [⟨c, .line, none, Block.commitUnits c, false, none, 0, 0⟩]
           web := { b.web with encs := b.web.encs.map fun e => { e with mA := some 1, bad := if ok then 3 else 4 } }
           cal := { b.cal with run := run, held := [], eyes := [(40, 40)] } }

/-- A procedure that began at LT 0, `n` readings taken of one wanted, the mean of them 0 or too large. -/
def calRunOf (proc n : Nat) (fail big : Bool) : CalRun :=
  ⟨proc, 0, false, false, [1], 1, 0, fail, if proc = 3 then [1] else [], none, n, [(if big then 65537 else 65536, 1)], [], []⟩

def calEnd0 : CalEnd := ⟨[], 0, 0, 0, 0⟩

/-- They meet the hypotheses of CalibrationRunsAndRecords. -/
theorem test_wit_Cal : State.up (upCal true none 1) 0 ∧ State.up (upCal false none 1) 0 ∧
    ((upCal true none 1).now 0).isRunning = true ∧
    (((upCal true none 1).now 0).serve 0x33 1).longRunning = false ∧
    (∀ p ∈ List.range' 1 11, Block.lenOk 0x33 4 [p] = true ∧ bits p 7 0 = p ∧ bits p 15 8 < calTargets p ∧
      (((upCal true none 1).now 0).serve 0x33 1).calPre p 0 [0, 100000] = true ∧
      (((upCal false none 1).now 0).serve 0x33 1).calPre p 0 [0, 99999] = false) := by decide +kernel

theorem test_wit_CalEnds :
    (∀ q ∈ [(2, 0, true), (3, 0, false), (3, 1, true)], let r := calRunOf q.1 q.2.1 false false; let b := (upCal true (some r) 1).now 0
      b.calBroken r = false ∧ b.calLate r = false ∧ b.calReady r = q.2.2 ∧ b.calRefused r = false ∧
      (b.calOut r calEnd0).ok = true) ∧
    (let r := calRunOf 3 1 false true; let b := (upCal true (some r) 1).now 0
     b.calBroken r = false ∧ b.calReady r = true ∧ (b.calOut r calEnd0).ok = false ∧ b.calLimit r = 10327680 ∧
       b.calBroken (calRunOf 3 1 true false) = true ∧ b.since r.at_ < b.calLimit r) ∧
    (let r := calRunOf 10 0 false false; let b := (upCal false (some r) 1).now 0
     b.calBroken r = false ∧ b.calLate r = false ∧ b.calReady r = true ∧ b.calRefused r = true) ∧
    (let r := calRunOf 3 0 false false
     ((upCal true (some r) 1).now (10327680 / 2)).calLate r = false ∧ ((upCal true (some r) 1).now (10327680 / 2 + 1)).calLate r = true ∧
     (let b := (upCal true (some r) 1).now (10327680 / 2); b.calLimit r ≤ b.since r.at_)) ∧
    ((upCal true none 2).now 0).get uCal F.CAL.STAT_JSTATE = 2 ∧ ((upCal true none 1).now 0).get uCal F.CAL.STAT_JSTATE = 1 := by
  decide +kernel

/-- `up` in a ring of which it holds the second position, its state, links and merging device given. -/
def upRing (st : Nat) (k : RingLink) (merge : Nat) : State :=
  let b := [12, 13, 14].foldl (fun (b : Block) p => b.setI uSerdes F.SERDES.PORT_STAT_STATE p 8) up.blk
  let b := ((((b.set uRing F.RING.STAT_STATE st).set uRing F.RING.CFG_POS 1).set uRing F.RING.CFG_SIZE 4).set
    uRing F.RING.MEMBERS_LIVE 3).set uRing F.RING.MERGE_1_VALID 1
  let b := ((b.set uRing F.RING.MERGE_1_ADDR merge).set uRing F.RING.POSSRC_VALID 1).set uRing F.RING.POSSRC_ADDR 5
  { up with blk := { b with
      devAddr := 1, web := { b.web with src := 4 }
      ring := { b.ring with links := [k, k, k], holdFrom := some 0, retryFrom := some 0, posAt := some 0, lapSeen := some 0
                            remote := [⟨0, 4, 7, false⟩], own := [⟨1, .line, 0, 0, [], [5], 0, [], [], false, false⟩]
                            uplq := [⟨4, 1, 0x23, 0, [1]⟩], credit := { b.ring.credit with uplB := 1, uplC := 1 } }
      dma := { b.dma with flight := [⟨7, 4, .read, 2, 0, 4, 0, [], false⟩] } } }

/-- A used link whose partner has sent IDENT, or none. -/
def usedRing : RingLink := { RingLink.fresh with used := true, nakCount := 3, ident := some ⟨0, 0, 0, 4, 0, 0, 0, 0, 0, 0, 0, 0⟩ }
def newRing : RingLink := { RingLink.fresh with nakCount := 3 }

/-- The same with its Reel out and due. -/
def upReel (out due : Bool) (merge : Nat) : State := onBlk (upRing 3 usedRing merge) fun b =>
  { b with ring := { b.ring with reelOut := out, reelDue := due, lapSeen := some 1 } }

/-- A flit of class 2 with SEQ 0, ACK 0 and no payload, and one of class 1 that is a whole message of TYPE 6 from device 5; CRC and
parity by R541. -/
def goodFlit : List Nat :=
  [0, 0, 0, 0, 2, 0, 0, 0] ++ List.replicate 244 0 ++ [82, 123, 170, 175,
    147, 59, 65, 162, 176, 115, 230, 147, 93, 52, 202, 20, 136, 22, 163, 102, 87, 240, 82, 69, 126, 222, 25, 61, 229, 23, 234,
    250, 171, 8, 4, 78]
def wholeFlit : List Nat :=
  [0, 0, 0, 0, 0x19, 8, 1, 0, 6, 0, 0, 0, 5] ++ List.replicate 239 0 ++ [114, 129, 146, 211,
    206, 96, 36, 85, 74, 95, 71, 12, 75, 144, 12, 143, 21, 178, 68, 250, 193, 23, 147, 147, 252, 47, 24, 120, 24, 97, 255, 88,
    223, 202, 132, 75]

/-- Sound flits, and one whose CRC does not match (R541). -/
theorem test_wit_RingFlits : (flitCheck goodFlit).data = some (goodFlit.take 256) ∧
    (flitCheck wholeFlit).data = some (wholeFlit.take 256) ∧ (flitCheck (List.replicate 288 0)).data = none := by decide +kernel

/-- They meet the hypotheses of RingLinksAndMessages for flits: in turn, whole, acknowledging. -/
theorem test_wit_RingTurns :
    (∀ d ∈ [goodFlit, wholeFlit], bit (leAt d 2 2) 12 = false ∧ leAt d 4 1 % 8 ≠ 0 ∧
      leAt d 0 2 % 4096 = (usedRing.rxSeq + 1) % 4096) ∧
    bit (leAt goodFlit 4 1) 4 = false ∧ bit (leAt wholeFlit 4 1) 4 = true ∧ bit (leAt wholeFlit 4 1) 3 = true ∧
    usedRing.replay = [] ∧
    (let k : RingLink := { usedRing with rxSeq := 0, replay := [⟨0xFFF, 1, true, true, 0, []⟩, ⟨0, 1, true, true, 0, []⟩, ⟨1, 1, true, true, 0, []⟩] }
     k.replay.findIdx? (fun f => f.seq == leAt goodFlit 2 2 % 4096) = some 1 ∧ k.queue = [] ∧
       leAt goodFlit 0 2 % 4096 ≠ (k.rxSeq + 1) % 4096) := by decide +kernel

/-- For links, roles and times. -/
theorem test_wit_Ring : State.upOn (upRing 3 usedRing 1) 0 2 ∧
    (let b := (upRing 3 usedRing 1).now 50000000000
     b.ring.links.length = 3 ∧ b.devAddr = 1 ∧ b.ringState = 3 ∧ b.isMerge1 = true ∧ b.ring.reelOut = false ∧ b.web.src = 4 ∧
     (∀ l < 3, b.linkUp l = true ∧ (b.link l).used = true ∧ b.usedLink l = true ∧ b.linkFailing l = true ∧ (b.link l).ident.isSome = true) ∧
     b.ring.waiting = [] ∧ b.ring.retryFrom = some 0 ∧ b.get uRing F.RING.TIMING_RETRY_S * 1000000000 ≤ b.since 0 ∧
     b.ring.posAt = some 0 ∧ 20000 ≤ b.since 0 ∧ b.on uRing F.RING.POSSRC_VALID = true ∧ b.get uRing F.RING.POSSRC_ADDR = 5 ∧
     b.on uRing F.RING.MERGE_1_VALID = true ∧ b.systemMerge = b.devAddr ∧ b.ring.inbox.length < 8) ∧
    (let b := (upRing 3 usedRing 1).now 10000; 20000 ≤ b.since 0) ∧
    (let b := (upReel true false 1).now 0
     b.isMerge1 = true ∧ b.ring.reelOut = true ∧ b.ring.reelDue = false ∧ leAt (le 16 0) 2 2 = b.get uRing F.RING.ENUM_EPOCH) ∧
    (let b := (upReel false false 0).now 0
     b.isMerge1 = false ∧ b.ring.lapSeen = some (leAt (le 16 1) 0 2) ∧ b.ring.lapSeen ≠ some (leAt (le 16 0) 0 2)) ∧
    (let b := (upRing 2 newRing 1).now 600000
     b.ring.holdFrom = some 0 ∧ b.ringState = 2 ∧ b.ring.sent = false ∧ b.ring.inserting = false ∧ 1200000 ≤ b.since 0 ∧
       b.linkUp 0 = true ∧ (b.link 0).ident = none ∧ 100000 ≤ b.since (b.link 0).identAt) := by
  decide +kernel

/-- And for its messages: ENUM, RESULT, TIME, POSITION, beacons, accesses, transfers, groups. -/
theorem test_wit_RingMessages :
    (let e := le 2 0 ++ le 2 5 ++ [4, 0, 0, 0]
     bits (leAt e 4 1) 3 2 = 1 ∧ leAt e 2 2 % 0x4000 ≠ 1) ∧
    (let e := le 4 0 ++ [1, 0, 0, 0] ++ le 4 2
     (resultOf e).level = 1 ∧ bit (resultOf e).live 1 = true ∧
       Block.resultNewer (resultOf e) (((upRing 3 usedRing 1).now 0).ringResult 1) = true) ∧
    ((upRing 3 usedRing 1).now 0).ringPos = 1 ∧ (((upRing 3 usedRing 1).now 0).link 0).time.seq = 0 ∧
    leAt [2, 0] 0 1 = 2 ∧ leAt [2, 0] 1 1 = 0 ∧
    (let p := List.replicate 24 0 ++ [3, 1] ++ List.replicate 42 0
     bits (leAt p 0x18 1) 2 0 ≠ 4 ∧ leAt p 0x19 1 = 1 ∧ bit (leAt p 42 1) 0 = false ∧ leAt (le 32 0) 0x19 1 = 0) ∧
    (leAt (le 4 (2 ^ 31 - 1)) 0 4 + 2 ^ 32 - ((upRing 3 usedRing 1).now 0).get uRing F.RING.SEQ_SEEN_SEQ) % 2 ^ 32 < 2 ^ 31 ∧
    bit (leAt [0, 1] 1 1) 0 = true ∧ leAt [0, 2] 1 1 = 2 ∧
    (∀ w ∈ [0x3FD, 0x3FF], 1 ≤ leAt (le 2 w) 0 2 % 1024 - 0x3FC ∧ leAt (le 2 w) 0 2 % 1024 - 0x3FC ≤ 3) ∧
    bit (leAt (le 12 0) 10 1) 0 = false ∧ bit (leAt (le 10 0 ++ [1]) 10 1) 0 = true ∧
    (let b := (upRing 3 usedRing 1).now 0
     b.ring.groups = [] ∧
     b.ring.remote.find? (fun r => r.tag == 0 && r.bulk == false && b.outstanding r.access) = some ⟨0, 4, 7, false⟩ ∧
     (b.ring.own.find? (fun g => g.tag == 0 && !(g.applied.contains 5) && (g.window != 1 || g.members.contains 5))).isSome = true) := by
  decide +kernel

/-! ## Well-formed commands -/

/-- Surroundings in which a boot succeeds. -/
def soundBoot : BootEnv := ⟨true, true, true, true, true, true, 0, 0, 0, 0, 0, 0⟩

/-- A catalogue request with a tag too wide, one with a word too wide, and a sound one. -/
def wideTag : Msg := ⟨256, []⟩
def wideWord : Msg := ⟨1, [2 ^ 32]⟩
def soundMsg : Msg := ⟨255, [2 ^ 32 - 1]⟩

/-- Commands to registers, resets, clocks and heat with one operand out of its range each. -/
theorem test_wf_refuses_registers :
    ([.registerWrite 0 .hw 0 false 0 15 1 0, .registerWrite 0 .host 0 false (2 ^ 32) 15 1 0, .registerWrite 0 .host 0 false 0 16 1 0,
      .registerWrite 0 .host 0 false 0 15 0 0, .registerWrite 0 .host 0 false 0 15 1 (2 ^ 32), .stagedWrite 0 .boot uTrig 0x100 0,
      .stagedWrite 0 .core1 ⟨.axis, 2⟩ 0x100 0, .stagedWrite 0 .core1 uTrig 0x102 0, .stagedWrite 0 .core1 uTrig 0x100 (2 ^ 32),
      .commit 0 .hw uTrig .line 0, .commit 0 .core1 ⟨.axis, 2⟩ .line 0, .commit 0 .core1 uTrig .line 256, .commitCancel 0 .boot uTrig,
      .commitCancel 0 .core1 ⟨.axis, 2⟩, .commitApply 0 ⟨.axis, 2⟩ 0 0 0 false, .commitApply 0 uTrig (2 ^ 64) 0 0 false,
      .commitApply 0 uTrig 0 (2 ^ 32) 0 false, .semRead 0 ⟨.hw, 15, 1⟩ 0 0, .semRead 0 ⟨.host, 15, 1⟩ 0 64,
      .semRead 0 ⟨.host, 16, 1⟩ 0 0, .semRead 0 ⟨.host, 15, 0⟩ 0 0, .semRelease 0 .hw 0 0 0,
      .semRelease 0 .host 0 64 0, .semRelease 0 .host 0 0 (2 ^ 32), .sramScrub 0 ⟨.axis, 2⟩ 0 ⟨0, true⟩, .sramScrub 0 uTrig 0 ⟨2 ^ 39, true⟩, .coreWatchdog 0 4 soundBoot,
      .coreReset 0 4, .hostPortReset 0 4, .gateClose 0 42 false, .gateClosed 0 42, .gateTimeout 0 42, .gateOpen 0 42,
      .tmonWindow 0 [] [], .pstateTarget 0 (some 4), .avsPoll 0 (2 ^ 16) 0, .avsPoll 0 0 (2 ^ 16), .thmConversion 0 [],
      .sensorTimeout 0 24, .clearPeak 0 (some 8), .clearCnt 0 ⟨.axis, 2⟩] : List Instr).all (!Instr.wf ·) = true := by decide

/-- Commands of ports, cameras, time, SENSE, web and pipeline with one operand out of its range each. -/
theorem test_wf_refuses_streams :
    ([.portEnable 0 16, .signalQualified 0 16, .cdrLocked 0 16, .trainingFrame 0 16 0 [], .trainingFrame 0 0 0 [256],
      .trainingComplete 0 16 [], .adaptConverged 0 16 [], .blockLock 0 16 [], .alignDone 0 16 [] true 0, .check 0 16 [], .bringupTimeout 0 16,
      .linkDown 0 16, .holdoffExpired 0 16, .laneEyeUpdate 0 16 0 0 0 0 0 0 0, .laneEyeUpdate 0 0 4 0 0 0 0 0 0,
      .camFrame 0 12 [] true false, .camFrame 0 0 [256] true false, .gvspLeader 0 12 0 0 ⟨0, 0, 0, 0, 0⟩, .gvspPayload 0 12 0 0 [] false,
      .gvspPayload 0 0 0 0 [256] false, .gvspTrailer 0 12 0 0 0, .entryTimeout 0 12, .triggerPulseEnd 0 12,
      .lportFrame 0 [256] true ⟨0, 0, 0⟩, .ptpFollowUp 0 2 0 0, .ptpDelayResp 0 2 ⟨0, 0, 0⟩, .announceTimeout 0 2, .delayReqSend 0 2,
      .camSyncSend 0 12, .camAnnounceSend 0 12, .delayReq 0 12 0 0 none, .domainForce 0 4, .nowLatch 0 ⟨.hw, 15, 1⟩, .tsqPop 0 ⟨.host, 15, 1⟩ 13,
      .tsqPop 0 ⟨.boot, 15, 1⟩ 0, .senseOutput 0 16 [], .ssGo 0 16, .ssDone 0 16 [], .modOverload 0 16, .virtualValue 0 7 0, .virtualValue 0 16 0,
      .senseStale 0 16, .bankSwap 0 2, .zIndex 0 2, .quadratureEdge 0 2 false false, .webPosLatch 0 ⟨.hw, 15, 1⟩, .webHwmLatch 0 ⟨.hw, 15, 1⟩,
      .webLineLatch 0 ⟨.hw, 15, 1⟩, .encZposLatch 0 ⟨.hw, 15, 1⟩ 0, .encZposLatch 0 ⟨.host, 15, 1⟩ 2, .stripLine 0 8, .tblDataWrite 0 .hw 0 0,
      .tblDataWrite 0 .core1 32 0, .tblDataRead 0 ⟨.core1, 15, 1⟩ 32, .geoDataWrite 0 .core1 0 (2 ^ 32), .geoDataRead 0 ⟨.boot, 15, 1⟩ 0,
      .stitchDeliver 0 32, .overlap 0 3 0 0 [], .overlap 0 0 0 0 [256], .ingestData 0 4 [], .ingestData 0 0 [256], .loadComplete 0 4,
      .servoPeriod 0 2, .axisStatus 0 2 [], .axisStatus 0 0 [256], .axisRespTimeout 0 2, .markTag 0 2, .markPulse 0 2,
      .markPulseEnd 0 2, .home 0 2, .stop 0 2, .resume 0 2, .clearFault 0 2, .homeTimeout 0 2] : List Instr).all
      (!Instr.wf ·) = true := by decide

/-- Commands of DRAM, host port, events, mailboxes and ring with one operand out of its range each. -/
theorem test_wf_refuses_services :
    ([.dramRequest 0 10 0 none 0 0 none 0 0, .dramRequest 0 0 6 none 0 0 none 0 0, .dramRequest 0 0 0 none 0 0 (some [256]) 0 0,
      .refresh 0 16 0, .refresh 0 0 16, .mr4Poll 0 [256] false, .retrainCheck 0 [], .retrainDone 0 16 true, .msixUnmask 0 64,
      .dmaGo 0 56, .dmaStop 0 56, .dmaRearm 0 56, .dmaResponse 0 0 false [256], .descriptorComplete 0 64, .privDmaGo 0 .hw 0,
      .privDmaGo 0 .core0 8, .streamFlush 0 64, .streamWaiting 0 4, .eventArrival 0 512 0, .eventDelivery 0 128, .exportDrop 0 128,
      .swHost 0 (2 ^ 32), .swFw 0 (2 ^ 32), .clrCoal 0 128, .gpioEdge 0 16 true, .gpioPulseEnd 0 16, .errlogSelect 0 .hw 0,
      .errlogSelect 0 .host (2 ^ 32), .h2fWrite 0 16 0, .h2fWrite 0 0 (2 ^ 32), .f2hRead 0 ⟨16, 15, 1⟩, .f2hRead 0 ⟨0, 16, 1⟩, .f2hRead 0 ⟨0, 15, 0⟩, .blockGo 0 4 0, .blockGo 0 0 (2 ^ 32),
      .blockRelease 0 4, .doorbellRing 0 (2 ^ 32), .fwDoorbell 0 32, .tunnelFrameSent 0 12, .calQSelect 0 .hw 0,
      .calQSelect 0 .host (2 ^ 32), .flitReceive 0 3 [], .flitReceive 0 0 [256], .linkFail 0 3, .uplCredit 0 (some [256]),
      .identResend 0 3, .ringTimeExchange 0 3] : List Instr).all (!Instr.wf ·) = true ∧
    ([.reel, .ident, .enum, .result, .ringTime, .position, .seqBeacon, .ringMailbox, .sysaccReq, .sysaccRsp, (.bulk · · true),
      .commitGroup, .commitApplied, .ringEvent] : List (Nat → Nat → Nat → Nat → List Nat → Instr)).all
      (fun c => !(c 0 3 0 0 []).wf && !(c 0 0 0 0 [256]).wf && (c 0 2 0 0 [255]).wf) = true := by decide

/-- Catalogue requests with a tag or a word too wide. -/
theorem test_wf_refuses_requests :
    ([.getStatus, .getNonce, (.reset · · soundBoot), .stageCommit, .stageOnly, .stageCommitCancel, .control, .expose, .timeStep, .pageJob,
      .refLoad, .refAbort, .refRelease, .mapLoad, .mapAbort, .mapRelease, (.tableWrite · · [] true), (.tableRead · · true),
      (.refReadback · · true), (.imageUpdate · · [] true true), (.secure · · true soundBoot), (.scrap · · true soundBoot),
      (.rma · · true soundBoot), (.keyAdd · · true soundBoot), (.keyRevoke · · true soundBoot), (.rollback · · true soundBoot),
      (.debugDisable · · true soundBoot), .calLane, .calDram, .calSenseOfs, .calSenseGain, .calEncoder, .calThermal, .calTempo,
      .calBlack, .calFlat, .calGeom, .calSeam] : List (Nat → Msg → Instr)).all
      (fun c => !(c 0 wideTag).wf && !(c 0 wideWord).wf && (c 0 soundMsg).wf) = true ∧
    (Instr.tableWrite 0 soundMsg [256] true).wf = false ∧ (Instr.imageUpdate 0 soundMsg [256] true true).wf = false := by decide

/-! ## Worked examples of the spec -/

/-- The usable address 0x4_1234_5640 of two ranks of 32 Gb dies with ECC (the example after R464). -/
theorem test_dram_place :
    ((Block.initial.set uDmc F.DMC.CFG_RANKS 1).set uDmc F.DMC.CFG_ECC_EN 1).dramPlace
      (0x412345640 / 64) = ⟨14, 0, 12, 20843, 21⟩ := by decide +kernel

/-- The pixel of the noise-reduction example (after R290): spatial 39,163, temporal 39,160, black 36,824, flat 40,754. -/
theorem test_front_pixel :
    (let cfg : FrontCfg := { comps := 1, fill := 0, spEn := true, tpEn := true, defExcl := true, tw := [8, 4, 2, 1, 1], thr := fun _ => 512
                             black := -64 * 16 + 960, gain := fun _ => 16896, corr := fun _ _ => ⟨150, 17583, 0⟩
                             rawBad := fun _ _ _ => false, spatBad := fun _ _ _ => false, wild := fun _ _ => 0 }
     let px (l : List Int) : List FrontPx := l.map fun x => some (x, 0, 0)
     let lines := [px [39040, 39168, 44800], px [39104, 39360, 44928], px [38912, 39232, 44736]]
     let past := [px [0, 39150, 0], px [0, 39190, 0], px [0, 38500, 0], px [0, 39120, 0]]
     (spatial cfg lines 1 0 39168, temporal cfg past 1 0 39163, flat cfg 1 0 36824)) = (39163, 39160, 40754) := by decide +kernel

/-- The header of the EXPOSE reply of the example after R534 is 0x0010_2A92, the word of RESULT 0, boundary 3, epoch 8
0x0008_0300. -/
theorem test_expose_reply :
    (match (Block.messageStores 0x92 0x2A [Block.replyWord 0 3 8, 0xFDB00, 0, 22]).getLast? with
     | some (.word 0 h) => h
     | _ => 0) = 0x102A92 ∧ Block.replyWord 0 3 8 = 0x80300 := by decide

end Sys2Proof.Tests
end

/-! # Accesses at a register: what the bus does at an address of the map -/

namespace Sys2Proof.Machine

/-- The register of number i at its offset. -/
theorem Field.instanceAt_at (f : Field) (hs : f.stride ≠ 0) {i : Nat} (hi : i < f.count) :
    f.instanceAt (f.at i) = some i := by
  have h0 : ¬ f.off + f.stride * i < f.off := by omega
  have h1 : f.off + f.stride * i - f.off = f.stride * i := by omega
  simp [Field.instanceAt, Field.at, h0, h1, hs, Nat.mul_div_cancel_left i (Nat.pos_of_ne_zero hs), hi]

/-- A unit of this device below DEVICE, with a window of its own that no gate node closes. -/
abbrev UnitId.plain (u : UnitId) : Prop := u.exists? = true ∧ u.ty ≠ .mbxBar2 ∧ u.ty ≠ .device ∧ u.ty ≠ .lane

/-- The offset of a register of the map of a unit type. -/
abbrev UnitType.mapped (t : UnitType) (off : Nat) : Prop := off % 4 = 0 ∧ 0x40 ≤ off ∧ off < 0x1000 ∧ t.fieldsAt off ≠ []

/-- The bus cuts an address to the device's space and to a whole word; a register's address stays as it is. -/
theorem regAddress_word {u : UnitId} (hu : u.exists? = true) {off : Nat} (h4 : off % 4 = 0) (ho : off < 0x4000) :
    regAddress u off % 0x1000000 / 4 * 4 = regAddress u off := by
  have := index_lt hu
  unfold regAddress
  omega

/-- A command of the released device leaves the block that its meaning leaves. -/
theorem State.up.exec_next {s : State} {dt : Nat} (hup : s.up dt) {c : Instr} {f : Block → Block} {t : Block}
    (hc : exec c s = s.live dt f) (hf : f (s.now dt) = t) : exec c s = .next ⟨s.pending, t⟩ := by
  rw [hc, State.live_cored hup, hf]

namespace Block

/-- A whole word written at a register by a master other than the boot controller: which rule discards the write, or that
it reaches the register (R38-R40, R42). -/
theorem busWrite_mapped (b : Block) {m : Master} (hm : m ≠ .boot) {u : UnitId} (hu : u.plain) {off : Nat}
    (ho : u.ty.mapped off) (dev w : Nat) :
    b.busWrite m dev (regAddress u off) w =
      if m = .host ∧ u.ty.owner = 1 then b.notOwner m u off w
      else if ((u.ty.fieldsAt off).all fun f => f.acc == .ro) = true then b
      else if b.mineAt m u off = [] then b.notOwner m u off w
      else if ((b.mineAt m u off).any fun f => f.acc == .seal) = true then
        (if b.on uSys F.SYS.BOOT_STAT_SEALED = true then b.logBy m u 3 2 (regAddress u off) 0 w else b)
      else if ((b.mineAt m u off).any fun f => f.acc == .stage) = true then b.logBy m u 4 2 (regAddress u off) 0 w
      else if off = 0x44 then b.commitReq m u w
      else b.regWrite m dev u off w (b.mineAt m u off) := by
  obtain ⟨hex, hbar, hdev, hlane⟩ := hu
  obtain ⟨h4, hlo, hhi, hf⟩ := ho
  have hoff : regAddress u off % 0x4000 / 4 * 4 = off := by rw [regAddress_off _ (by omega)]; omega
  have himp : b.implements u off = true := by
    rw [implements, if_neg (by omega), if_pos hhi]
    simpa using hf
  have hdesc : ¬ (off < 0x40 ∨ 0x1000 ≤ off ∧ off < 0x2000) := by omega
  have himage : ¬ 0x2000 ≤ off := by omega
  unfold busWrite
  rw [unitAt_regAddress b hex hbar hdev (by omega)]
  simp [hoff, himp, hdesc, himage, hm, shut_open b hlane, mineAt]

/-- The host's write to a register of a unit that firmware owns is discarded (R38). -/
theorem busWrite_notOwner (b : Block) {u : UnitId} (hu : u.plain) (hown : u.ty.owner = 1) {off : Nat}
    (ho : u.ty.mapped off) (dev w : Nat) : b.busWrite .host dev (regAddress u off) w = b.notOwner .host u off w := by
  rw [busWrite_mapped b (by decide) hu ho, if_pos ⟨rfl, hown⟩]

/-- After the seal firmware's write to a register with a SEAL field of its own is discarded (R39). -/
theorem busWrite_sealed (b : Block) (hs : b.on uSys F.SYS.BOOT_STAT_SEALED = true) {m : Master} (hm : m ≠ .boot ∧ m ≠ .host)
    {u : UnitId} (hu : u.plain) {off : Nat} (ho : u.ty.mapped off) {f : Field} (hf : f ∈ b.mineAt m u off)
    (hseal : f.acc = .seal) (dev w : Nat) :
    b.busWrite m dev (regAddress u off) w = b.logBy m u 3 2 (regAddress u off) 0 w := by
  have hro : ¬ ((u.ty.fieldsAt off).all fun f => f.acc == .ro) = true := fun h => by
    simpa [hseal] using List.all_eq_true.1 h f (List.mem_filter.1 hf).1
  have hany : ((b.mineAt m u off).any fun f => f.acc == .seal) = true := List.any_eq_true.2 ⟨f, hf, by simp [hseal]⟩
  rw [busWrite_mapped b hm.1 hu ho, if_neg (fun h => hm.2 h.1), if_neg hro, if_neg (List.ne_nil_of_mem hf), if_pos hany,
    if_pos hs]

/-- A write to a register with a STAGE field of the master's own, and no SEAL field of its own, is discarded (R40). -/
theorem busWrite_stageAtOwn (b : Block) {m : Master} (hm : m ≠ .boot ∧ m ≠ .host) {u : UnitId} (hu : u.plain) {off : Nat}
    (ho : u.ty.mapped off) {f : Field} (hf : f ∈ b.mineAt m u off) (hstage : f.acc = .stage)
    (hseal : ¬ ((b.mineAt m u off).any fun f => f.acc == .seal) = true) (dev w : Nat) :
    b.busWrite m dev (regAddress u off) w = b.logBy m u 4 2 (regAddress u off) 0 w := by
  have hro : ¬ ((u.ty.fieldsAt off).all fun f => f.acc == .ro) = true := fun h => by
    simpa [hstage] using List.all_eq_true.1 h f (List.mem_filter.1 hf).1
  have hany : ((b.mineAt m u off).any fun f => f.acc == .stage) = true := List.any_eq_true.2 ⟨f, hf, by simp [hstage]⟩
  rw [busWrite_mapped b hm.1 hu ho, if_neg (fun h => hm.2 h.1), if_neg hro, if_neg (List.ne_nil_of_mem hf), if_neg hseal,
    if_pos hany]

/-- A host write that changes no DMA channel. -/
theorem registerWrite_host (b : Block) (dev : Nat) (bar2 : Bool) (addr be n w : Nat) {t : Block}
    (h : b.hostWrite bar2 addr be n w = t) (hdma : t.dma = b.dma) :
    b.registerWrite .host dev bar2 addr be n w = t := by
  simp [registerWrite, dmaFollow, h, hdma]

/-- Firmware's write to a register, one that changes no DMA channel. -/
theorem registerWrite_core1 (b : Block) {u : UnitId} (hu : u.exists? = true) {off : Nat} (h4 : off % 4 = 0) (ho : off < 0x4000)
    (dev : Nat) (bar2 : Bool) (be n : Nat) {w : Nat} (hw : w < 2 ^ 32) {t : Block}
    (h : b.busWrite .core1 dev (regAddress u off) w = t) (hdma : t.dma = b.dma) :
    b.registerWrite .core1 dev bar2 (regAddress u off) be n w = t := by
  simp only [registerWrite, regAddress_word hu h4 ho, Nat.mod_eq_of_lt hw, h, dmaFollow, hdma, if_true]

/-- A whole word that the host writes through BAR0 outside D3hot goes on the bus (R483, R486). -/
theorem hostWrite_word (b : Block) (hd3 : b.get uHost F.HOST.LINK_D3 = 0) {u : UnitId} (hu : u.exists? = true) {off : Nat}
    (h4 : off % 4 = 0) (ho : off < 0x4000) {w : Nat} (hw : w < 2 ^ 32) :
    b.hostWrite false (regAddress u off) 15 1 w = b.busWrite .host 0 (regAddress u off) w := by
  have hon : b.on uHost F.HOST.LINK_D3 = false := by simpa [on, get] using hd3
  have hw' : w % 4294967296 = w := Nat.mod_eq_of_lt hw
  simp [hostWrite, regAddress_word hu h4 ho, hon, hw']

/-- A host write of a word with a byte enable missing is discarded (R6). -/
theorem hostWrite_partial (b : Block) (hd3 : b.get uHost F.HOST.LINK_D3 = 0) {addr be : Nat} (ha : addr < 2 ^ 24)
    (h4 : addr % 4 = 0) (hbe : be < 15) (n w : Nat) :
    b.hostWrite false addr be n w = b.logAt .host (addr / 0x4000) 1 2 addr be w := by
  have hon : b.on uHost F.HOST.LINK_D3 = false := by simpa [on, get] using hd3
  have hadr : addr % 16777216 / 4 * 4 = addr := by omega
  have hbe' : be % 16 = be := by omega
  simp [hostWrite, hadr, hon, hbe', Nat.ne_of_lt hbe]

end Block

/-! # A write that takes effect and writes that are discarded -/

/-- Settles O11: no rule discards the write, IRQ_EN is the one field of the register, and a LIVE field takes its bits. -/
theorem registerWriteReachesALiveField : Obligations.RegisterWriteReachesALiveField := by
  intro s dt dev w hup hw hd3
  have hbus : (s.now dt).busWrite .host 0 (regAddress uErrlog 0x11C) w =
      (s.now dt).regWrite .host 0 uErrlog 0x11C w [F.ERRLOG.HOST_CFG_IRQ_EN] := by
    rw [Block.busWrite_mapped _ (by decide) (by decide) (by decide)]
    rfl
  have hbit : bits w 0 0 = w % 2 := by simp [bits]
  have hreg : (s.now dt).regWrite .host 0 uErrlog 0x11C w [F.ERRLOG.HOST_CFG_IRQ_EN] =
      (s.now dt).set uErrlog F.ERRLOG.HOST_CFG_IRQ_EN (w % 2) := by
    rw [← hbit]; rfl
  refine hup.exec_next (exec_registerWrite ..) (Block.registerWrite_host _ _ _ _ _ _ _ ?_ (Block.set_dma ..))
  rw [Block.hostWrite_word _ hd3 (by decide) (by decide) (by decide) hw, hbus, hreg]

/-- Settles O12: each write is followed through the host port and the bus to the rule that discards it. -/
theorem accessesThatAreDiscarded : Obligations.AccessesThatAreDiscarded := by
  intro s dt dev w hup hw hd3
  refine ⟨fun addr be n ha h4 hbe => ?byteMissing, ?firmwareOwns, fun hseal => ?afterSeal, ?stageAtOwn⟩
  case byteMissing =>
    exact hup.exec_next (exec_registerWrite ..) (Block.registerWrite_host _ _ _ _ _ _ _
      (Block.hostWrite_partial _ hd3 ha h4 hbe n w) (Block.logAt_dma ..))
  case firmwareOwns =>
    refine hup.exec_next (exec_registerWrite ..) (Block.registerWrite_host _ _ _ _ _ _ _ ?_ (Block.logBy_dma ..))
    rw [Block.hostWrite_word _ hd3 (by decide) (by decide) (by decide) hw]
    exact Block.busWrite_notOwner _ (by decide) (by decide) (by decide) 0 w
  case afterSeal =>
    have hon : (s.now dt).on uSys F.SYS.BOOT_STAT_SEALED = true := by
      have : (s.now dt).getI uSys F.SYS.BOOT_STAT_SEALED 0 = 1 := hseal
      simp [Block.on, this]
    have hmine : F.THM.LOW_THR_LOW_WARN ∈ (s.now dt).mineAt .core1 uThm F.THM.LOW_THR_LOW_WARN.off :=
      List.mem_filter.2 ⟨by decide, rfl⟩
    exact hup.exec_next (exec_registerWrite ..) (Block.registerWrite_core1 _ (by decide) (by decide) (by decide) _ _ _ _ hw
      (Block.busWrite_sealed _ hon (by decide) (by decide) (by decide) hmine rfl dev w) (Block.logBy_dma ..))
  case stageAtOwn =>
    have hmine : F.HOST.ARCH_CFG_EN ∈ (s.now dt).mineAt .core1 uHost F.HOST.ARCH_CFG_EN.off :=
      List.mem_filter.2 ⟨by decide, rfl⟩
    have hseal : ((s.now dt).mineAt .core1 uHost F.HOST.ARCH_CFG_EN.off).any (fun f => f.acc == .seal) = false := rfl
    exact hup.exec_next (exec_registerWrite ..) (Block.registerWrite_core1 _ (by decide) (by decide) (by decide) _ _ _ _ hw
      (Block.busWrite_stageAtOwn _ (by decide) (by decide) (by decide) hmine rfl (by simp [hseal]) dev w)
      (Block.logBy_dma ..))

end Sys2Proof.Machine

/-! # Reads with side effects -/

namespace Sys2Proof.Machine
namespace Block

/-- A read that is not turned away and has its effect at the register: the bytes it addresses leave the block (R7). -/
theorem readAt_busRead (b : Block) {r : Reader} (hr : b.answers r) {u : UnitId} (hu : u.plain) (dev off : Nat)
    {v : Nat} {t : Block} (h : b.busRead r.master dev (regAddress u off) = (v, t)) :
    b.readAt r dev u off = t.emit (.readData r.master (bytesOf r.be v)) := by
  obtain ⟨hhw, hboot, hhost⟩ := hr
  obtain ⟨hex, hbar, -, -⟩ := hu
  rw [readAt_eq b ⟨hhw, hboot⟩ hhost hex hbar, h]

/-- A read of a semaphore's register (R51). -/
theorem busRead_sem (b : Block) (m : Master) (dev : Nat) {n : Nat} (hn : n < 64) :
    b.busRead m dev (regAddress uLock (F.LOCK.SEM_RESULT.at n)) = b.semRead m dev n := by
  have hat : F.LOCK.SEM_RESULT.at n = 0x100 + 4 * n := rfl
  have hoff : regAddress uLock (F.LOCK.SEM_RESULT.at n) % 0x4000 / 4 * 4 = F.LOCK.SEM_RESULT.at n := by
    rw [regAddress_off _ (by omega)]; omega
  have hi : F.LOCK.SEM_RESULT.instanceAt (F.LOCK.SEM_RESULT.at n) = some n := Field.instanceAt_at _ (by decide) hn
  unfold busRead
  rw [unitAt_regAddress b (by decide) (by decide) (by decide) (by omega)]
  simp only [hoff, shut_open b (show uLock.ty ≠ .lane by decide), hi]
  rfl

/-- A read of the last word of a timestamp queue's oldest entry (R221). -/
theorem busRead_tsq (b : Block) (m : Master) (dev : Nat) {p : Nat} (hp : p < 13) :
    b.busRead m dev (regAddress uTime (F.TIME.TSQ_W3_SEC.at p)) = b.tsqPop p := by
  have hat : F.TIME.TSQ_W3_SEC.at p = 0x20C + 16 * p := rfl
  have hoff : regAddress uTime (F.TIME.TSQ_W3_SEC.at p) % 0x4000 / 4 * 4 = F.TIME.TSQ_W3_SEC.at p := by
    rw [regAddress_off _ (by omega)]; omega
  have hnow : ¬ F.TIME.TSQ_W3_SEC.at p = F.TIME.NOW_LT_LO_VALUE.off := by
    simp only [hat, F.TIME.NOW_LT_LO_VALUE]; omega
  have hi : F.TIME.TSQ_W3_SEC.instanceAt (F.TIME.TSQ_W3_SEC.at p) = some p := Field.instanceAt_at _ (by decide) hp
  unfold busRead
  rw [unitAt_regAddress b (by decide) (by decide) (by decide) (by omega)]
  simp only [hoff, shut_open b (show uTime.ty ≠ .lane by decide), hi, if_neg hnow]
  rfl

theorem busRead_nowLt (b : Block) (m : Master) (dev : Nat) :
    b.busRead m dev (regAddress uTime F.TIME.NOW_LT_LO_VALUE.off) = b.nowLatch m := rfl

theorem busRead_posLo (b : Block) (m : Master) (dev : Nat) :
    b.busRead m dev (regAddress uWeb F.WEB.POS_LO_VALUE.off) = b.posLatch m := rfl

theorem busRead_hwmLo (b : Block) (m : Master) (dev : Nat) :
    b.busRead m dev (regAddress uWeb F.WEB.HWM_LO_VALUE.off) = b.hwmLatch m := rfl

theorem busRead_lineLo (b : Block) (m : Master) (dev : Nat) :
    b.busRead m dev (regAddress uWeb F.WEB.LINE_LO_VALUE.off) = b.lineLatch m := rfl

theorem busRead_zposLo (b : Block) (m : Master) (dev : Nat) {e : Nat} (he : e < 2) :
    b.busRead m dev (regAddress uWeb (F.WEB.ENC_ZPOS_LO_VALUE.at e)) = b.zposLatch m e := by
  interval_cases e <;> rfl

/-! ## Semaphores -/

theorem holderCode_lt {m : Master} {h : Nat} (hm : holderCode m = some h) : 0 < h ∧ h < 7 := by
  cases m <;> simp [holderCode] at hm <;> omega

theorem semHeld_eq (b : Block) {m : Master} {h : Nat} (hm : holderCode m = some h) (dev n : Nat) :
    b.semHeld m dev n = (b.getI uLock F.LOCK.SEM_HOLDER n == h &&
      (h != 6 || b.getI uLock F.LOCK.SEM_HOLDER_DEV n == dev)) := by
  simp [semHeld, hm]

/-- Semaphore n taken for the holder h of device d. -/
def semTaken (b : Block) (n h d : Nat) : Block := (b.setI uLock F.LOCK.SEM_HOLDER n h).setI uLock F.LOCK.SEM_HOLDER_DEV n d

theorem semTaken_holder (b : Block) {h : Nat} (hh : h < 16) (n d : Nat) :
    (b.semTaken n h d).getI uLock F.LOCK.SEM_HOLDER n = h := by
  rw [semTaken, getI_setI_field _ _ _ (by decide), getI_setI_same _ _ _ _ _ (by decide)]
  exact Nat.mod_eq_of_lt hh

theorem semTaken_holderDev (b : Block) {d : Nat} (hd : d < 2 ^ 14) (n h : Nat) :
    (b.semTaken n h d).getI uLock F.LOCK.SEM_HOLDER_DEV n = d := by
  rw [semTaken, getI_setI_same _ _ _ _ _ (by decide)]
  exact Nat.mod_eq_of_lt hd

/-- A read of a free semaphore takes it for the reader (R51). -/
theorem semRead_free (b : Block) {m : Master} {h : Nat} (hm : holderCode m = some h) {dev n : Nat} (hn : n < 64)
    (hd : dev < 2 ^ 14) (hfree : b.getI uLock F.LOCK.SEM_HOLDER n = 0) :
    b.semRead m dev n = (1 + h * 16 + (if h = 6 then dev else 0) * 256, b.semTaken n h (if h = 6 then dev else 0)) := by
  have hh := holderCode_lt hm
  have hd' : (if h = 6 then dev else 0) < 2 ^ 14 := by split <;> omega
  have hholder := b.semTaken_holder (show h < 16 by omega) n (if h = 6 then dev else 0)
  have hdev := b.semTaken_holderDev hd' n h
  have hheld : (b.semTaken n h (if h = 6 then dev else 0)).semHeld m dev n = true := by
    rw [semHeld_eq _ hm, hholder, hdev]
    by_cases h6 : h = 6 <;> simp [h6]
  rw [semTaken] at *
  simp [semRead, hm, Nat.not_le.2 hn, hfree, hheld, hholder, hdev, b2n]

/-- A read of a held semaphore tells its holder and changes nothing (R51, R52). -/
theorem semRead_held (b : Block) {m : Master} {h : Nat} (hm : holderCode m = some h) (dev : Nat) {n : Nat} (hn : n < 64)
    (hheld : b.getI uLock F.LOCK.SEM_HOLDER n ≠ 0) :
    b.semRead m dev n = ((if b.semHeld m dev n then 1 else 0) + b.getI uLock F.LOCK.SEM_HOLDER n * 16 +
      b.getI uLock F.LOCK.SEM_HOLDER_DEV n * 256, b) := by
  simp [semRead, hm, Nat.not_le.2 hn, hheld, b2n]

end Block

/-- Settles O9: the read reaches the semaphore, whose two cases say what it does. -/
theorem semaphoreReadTakesAFreeSemaphore : Obligations.SemaphoreReadTakesAFreeSemaphore := by
  intro s dt r dev n h hup hr hn hd hm
  have reads {v : Nat} {t : Block} (hv : (s.now dt).semRead r.master dev n = (v, t)) :
      exec (.semRead dt r dev n) s = .next ⟨s.pending, t.emit (.readData r.master (bytesOf r.be v))⟩ :=
    hup.exec_next (exec_semRead ..)
      (Block.readAt_busRead _ hr (by decide) dev _ ((Block.busRead_sem _ _ _ hn).trans hv))
  exact ⟨fun hfree => reads (Block.semRead_free _ hm hn hd hfree), fun hheld => reads (Block.semRead_held _ hm dev hn hheld)⟩

/-- Settles O44: each of the five reads reaches the register whose read latches. -/
theorem webReadsLatch : Obligations.WebReadsLatch := by
  intro s dt r hup hr
  have reads {c : Instr} {off v : Nat} {t : Block} (hc : exec c s = s.live dt fun b => b.readAt r 0 uWeb off)
      (hv : (s.now dt).busRead r.master 0 (regAddress uWeb off) = (v, t)) :
      exec c s = .next ⟨s.pending, t.emit (.readData r.master (bytesOf r.be v))⟩ :=
    hup.exec_next hc (Block.readAt_busRead _ hr (by decide) 0 off hv)
  exact ⟨reads (exec_webPosLatch ..) (Block.busRead_posLo ..), reads (exec_webHwmLatch ..) (Block.busRead_hwmLo ..),
    reads (exec_webLineLatch ..) (Block.busRead_lineLo ..), reads (exec_encZposLatch ..) (Block.busRead_zposLo _ _ _ (by decide)),
    reads (exec_encZposLatch ..) (Block.busRead_zposLo _ _ _ (by decide))⟩

end Sys2Proof.Machine

/-! # Context tables through their windows -/

namespace Sys2Proof.Machine

theorem nth_upd_same {α : Type} (f : α → α) (d : α) : ∀ (l : List α) (i : Nat), i < l.length →
    nth (upd l i f) i d = f (nth l i d)
  | _ :: _, 0, _ => rfl
  | _ :: r, i + 1, h => nth_upd_same f d r i (Nat.lt_of_succ_lt_succ h)

/-- A word put whole into an empty one. -/
theorem putBits_whole {w : Nat} (hw : w < 2 ^ 32) : putBits 0 31 0 (bits w 31 0) = w := by
  rw [putBits_eq _ _ _ _ (by decide)]
  simp only [bits]
  omega

/-- A field of a register that is not repeated, inside its unit's window and inside the word. -/
abbrev Field.single (f : Field) : Prop := f.stride = 0 ∧ f.off < 0x4000 ∧ f.lo ≤ f.hi ∧ f.hi < 32

namespace Block

/-! ## Table words -/

theorem tblWord_congr {s t : Block} (h : t.ctxs = s.ctxs) (x a : Nat) : t.tblWord x a = s.tblWord x a := by
  simp [tblWord, ctx, h]

theorem sramBad_congr {s t : Block} (h : t.sram = s.sram) (u : UnitId) (a : Nat) : t.sramBad u a = s.sramBad u a := by
  unfold sramBad sramWeight sramFlips
  rw [h]

theorem setTbl_tbl (b : Block) {x : Nat} (hx : x < b.ctxs.length) (a v : Nat) :
    ((b.setTbl x a v).ctx x).tbl = storeWrite (fun _ => 0) (b.ctx x).tbl a v := by
  simp [setTbl, sramFresh, setCtx, ctx, nth_upd_same _ _ _ _ hx]

theorem tblWord_setTbl_same (b : Block) {x : Nat} (hx : x < b.ctxs.length) (a v : Nat) :
    (b.setTbl x a v).tblWord x a = v := by
  rw [tblWord, setTbl_tbl b hx, storeRead_storeWrite_same]

theorem tblWord_setTbl_ne (b : Block) {x : Nat} (hx : x < b.ctxs.length) {a k : Nat} (hk : k ≠ a) (v : Nat) :
    (b.setTbl x a v).tblWord x k = b.tblWord x k := by
  rw [tblWord, setTbl_tbl b hx, storeRead_storeWrite_ne hk, tblWord]

/-- A word written whole holds no error (R54). -/
theorem sramBad_setTbl (b : Block) (x a v : Nat) : (b.setTbl x a v).sramBad (uCtx x) a = false := by
  have hflips : (b.setTbl x a v).sramFlips (uCtx x) a = 0 := by
    have : ((b.setTbl x a v).sram.flips.find? fun e => e.1 == (uCtx x, a)) = none := by
      simp [setTbl, sramFresh]
    rw [sramFlips, this]
    rfl
  have hnone : onesBelow 39 0 = [] := by decide
  simp [sramBad, sramWeight, hflips, hnone]

@[simp] theorem setTbl_regs (b : Block) (x a v : Nat) : (b.setTbl x a v).regs = b.regs := rfl

/-! ## What reading a word of on-chip memory leaves as it was -/

theorem sramRead_ctxs (b : Block) (u : UnitId) (a : Nat) : (b.sramRead u a).ctxs = b.ctxs := by
  unfold sramRead
  split <;> simp [sramPut]

theorem rd_sramRead (b : Block) {u : UnitId} {off : Nat} (hu : u ≠ uErrlog) (hi : u.inst < 256) (ho : off < 0x4000)
    (v : UnitId) (a : Nat) : (b.sramRead v a).rd u off = b.rd u off := by
  unfold sramRead
  split
  · rfl
  · rw [inc, addI, rd_setI_unit _ hu (by decide) hi (by decide) ho]
    rfl
  · rw [rd_log _ hu hi ho, inc, addI, rd_setI_unit _ hu (by decide) hi (by decide) ho]

theorem sramSeen_ctxs (b : Block) (u : UnitId) (p : Nat → Bool) : (b.sramSeen u p).ctxs = b.ctxs := by
  unfold sramSeen
  generalize b.sram.flips.filter _ = l
  induction l generalizing b with
  | nil => rfl
  | cons e r ih => rw [List.foldl_cons, ih, sramRead_ctxs]

theorem rd_sramSeen (b : Block) {u : UnitId} {off : Nat} (hu : u ≠ uErrlog) (hi : u.inst < 256) (ho : off < 0x4000)
    (v : UnitId) (p : Nat → Bool) : (b.sramSeen v p).rd u off = b.rd u off :=
  rd_foldl _ (fun e _ t => rd_sramRead t hu hi ho e.1.1 e.1.2) b

/-! ## The address register moves on -/

theorem autoInc_ctxs (b : Block) (x : Nat) (word inc : Field) : (b.autoInc x word inc).ctxs = b.ctxs := by
  unfold autoInc
  split <;> simp

theorem autoInc_sram (b : Block) (x : Nat) (word inc : Field) : (b.autoInc x word inc).sram = b.sram := by
  unfold autoInc
  split <;> simp

theorem get_autoInc_word (b : Block) (x : Nat) {word : Field} (hw : word.single) (inc : Field) :
    (b.autoInc x word inc).get (uCtx x) word =
      if b.on (uCtx x) inc then (b.get (uCtx x) word + 1) % 2 ^ word.width else b.get (uCtx x) word := by
  unfold autoInc
  split
  · exact getI_setI_same _ _ _ _ _ hw.2.2
  · rfl

theorem rd_autoInc (b : Block) {x : Nat} (hx : x < 32) {word : Field} (hw : word.single) (inc : Field) {u : UnitId}
    {off : Nat} (hi : u.inst < 256) (ho : off < 0x4000) (hne : (u, off) ≠ (uCtx x, word.off)) :
    (b.autoInc x word inc).rd u off = b.rd u off := by
  obtain ⟨hs, hoff, -, -⟩ := hw
  have hat : word.at 0 = word.off := rfl
  have hkey : regKey u off ≠ regKey (uCtx x) (word.at 0) := by
    rw [hat]
    by_cases hu : u = uCtx x
    · subst hu
      exact regKey_off_ne _ fun h => hne (by rw [h])
    · exact regKey_ne hu hi (by show x < 256; omega) ho hoff
  unfold autoInc
  split
  · exact rd_setI_ne b hkey _
  · rfl

/-! ## The word a window names -/

/-- The table address TBL_ADDR names, if there is one. -/
def tblTarget (b : Block) (x : Nat) : Option Nat :=
  if b.get (uCtx x) F.CTX.TBL_ADDR_WORD < 49152 then
    some (corrAddr (b.get (uCtx x) F.CTX.TBL_ADDR_BANK) (b.get (uCtx x) F.CTX.TBL_ADDR_WORD)) else none

/-- The word at an address stored, if there is an address. -/
def storeAt (b : Block) (x : Nat) (a : Option Nat) (v : Nat) : Block :=
  match a with
  | some a => b.setTbl x a v
  | none => b

/-- The word at an address seen by the error correction, if there is an address. -/
def seenAt (b : Block) (x : Nat) (a : Option Nat) : Block :=
  match a with
  | some a => b.sramSeen (uCtx x) (· == a)
  | none => b

/-- What a window shows of the word at an address (R55). -/
def shownAt (b : Block) (x : Nat) (a : Option Nat) : Nat :=
  (a.map fun k => if b.sramBad (uCtx x) k then 0 else b.tblWord x k).getD 0

theorem storeAt_regs (b : Block) (x : Nat) (a : Option Nat) (v : Nat) : (b.storeAt x a v).regs = b.regs := by
  cases a <;> rfl

theorem seenAt_ctxs (b : Block) (x : Nat) (a : Option Nat) : (b.seenAt x a).ctxs = b.ctxs := by
  cases a
  · rfl
  · exact sramSeen_ctxs ..

theorem rd_seenAt (b : Block) {u : UnitId} {off : Nat} (hu : u ≠ uErrlog) (hi : u.inst < 256) (ho : off < 0x4000)
    (x : Nat) (a : Option Nat) : (b.seenAt x a).rd u off = b.rd u off := by
  cases a
  · rfl
  · exact rd_sramSeen b hu hi ho _ _

/-- A write of a window's word: the word and no other is stored, free of error, and no register but the address changes. -/
theorem storeAt_autoInc (b : Block) {x : Nat} (hx : x < 32) (hlen : b.ctxs.length = 32) (a : Option Nat) (v : Nat)
    {word : Field} (hw : word.single) (inc : Field) :
    ((b.storeAt x a v).autoInc x word inc).get (uCtx x) word =
        (if b.on (uCtx x) inc then (b.get (uCtx x) word + 1) % 2 ^ word.width else b.get (uCtx x) word) ∧
      b.keepsRegs ((b.storeAt x a v).autoInc x word inc) [(uCtx x, word.off)] ∧
      (∀ k, some k = a → ((b.storeAt x a v).autoInc x word inc).tblWord x k = v ∧
        ((b.storeAt x a v).autoInc x word inc).sramBad (uCtx x) k = false) ∧
      ∀ k, some k ≠ a → ((b.storeAt x a v).autoInc x word inc).tblWord x k = b.tblWord x k := by
  have hregs := b.storeAt_regs x a v
  have hlen' : x < b.ctxs.length := by omega
  refine ⟨?_, fun u off hi ho hne => ?_, ?_, fun k hk => ?_⟩
  · rw [get_autoInc_word _ _ hw, on, on, get, get, getI_congr hregs, getI_congr hregs]
  · rw [rd_autoInc _ hx hw _ hi ho (by simpa using hne), rd_congr hregs]
  · rintro k rfl
    rw [tblWord_congr (autoInc_ctxs ..), sramBad_congr (autoInc_sram ..)]
    exact ⟨tblWord_setTbl_same b hlen' k v, sramBad_setTbl b x k v⟩
  · rw [tblWord_congr (autoInc_ctxs ..)]
    cases a with
    | none => rfl
    | some a => exact tblWord_setTbl_ne b hlen' (fun h => hk (by rw [h])) v

/-- A refused write of a window's word: no table changes and the flag is set. -/
theorem refused_autoInc (b : Block) {x : Nat} (hx : x < 32) {refused : Field} (hr : refused.single) (h1 : refused.width = 1)
    {word : Field} (hw : word.single) (hne : refused.off ≠ word.off) (inc : Field) (m : Master) (v : UnitId)
    (code sev a0 a1 a2 : Nat) :
    let t := ((b.flag (uCtx x) refused).logBy m v code sev a0 a1 a2).autoInc x word inc
    t.ctxs = b.ctxs ∧ t.get (uCtx x) refused = 1 := by
  have hi : (uCtx x).inst < 256 := by show x < 256; omega
  have ho : refused.at 0 < 0x4000 := hr.2.1
  refine ⟨by simp [autoInc_ctxs], ?_⟩
  rw [get, getI_of_rd (rd_autoInc _ hx hw _ hi ho fun h => hne (Prod.mk.inj h).2), getI_logBy _ (by simp) hi ho,
    on_flag b (by simp) (by simp) hi hr.2.2 h1 ho]

/-- A read of a window's word: no table changes, and of the context's registers the address alone moves. -/
theorem seenAt_autoInc (b : Block) {x : Nat} (hx : x < 32) (a : Option Nat) {word inc : Field} (hw : word.single)
    (hinc : inc.single) :
    ((b.seenAt x a).autoInc x word inc).ctxs = b.ctxs ∧
      ((b.seenAt x a).autoInc x word inc).get (uCtx x) word =
        if b.on (uCtx x) inc then (b.get (uCtx x) word + 1) % 2 ^ word.width else b.get (uCtx x) word := by
  have keeps {f : Field} (hf : f.single) : (b.seenAt x a).getI (uCtx x) f 0 = b.getI (uCtx x) f 0 :=
    getI_of_rd (rd_seenAt b (by simp) (by show x < 256; omega) hf.2.1 x a)
  refine ⟨by rw [autoInc_ctxs, seenAt_ctxs], ?_⟩
  rw [get_autoInc_word _ _ hw, on, on, get, get, keeps hw, keeps hinc]

/-! ## The two windows -/

theorem tblWrite_open (b : Block) (m : Master) {x : Nat} (v : Nat)
    (h : b.get (uCtx x) F.CTX.TBL_ADDR_BANK ≠ b.get (uCtx x) F.CTX.TABLE_BANK)
    (hp : b.bankPending x F.CTX.TABLE_BANK = false) :
    b.tblWrite m x v = (b.storeAt x (b.tblTarget x) v).autoInc x F.CTX.TBL_ADDR_WORD F.CTX.TBL_ADDR_AUTO_INC := by
  unfold tblWrite tblTarget storeAt
  by_cases hw : b.get (uCtx x) F.CTX.TBL_ADDR_WORD < 49152 <;> simp [h, hp, hw]

theorem tblWrite_shut (b : Block) (m : Master) {x : Nat} (v : Nat)
    (h : b.get (uCtx x) F.CTX.TBL_ADDR_BANK = b.get (uCtx x) F.CTX.TABLE_BANK ∨ b.bankPending x F.CTX.TABLE_BANK = true) :
    b.tblWrite m x v = ((b.flag (uCtx x) F.CTX.FLAGS_TBL_REFUSED).logBy m (uCtx x) 9 2 (regAddress (uCtx x) 0x1B4) 0 v).autoInc
      x F.CTX.TBL_ADDR_WORD F.CTX.TBL_ADDR_AUTO_INC :=
  congrArg (fun t : Block => t.autoInc x F.CTX.TBL_ADDR_WORD F.CTX.TBL_ADDR_AUTO_INC) (if_pos h)

theorem tblRead_eq (b : Block) (x : Nat) : b.tblRead x = (b.shownAt x (b.tblTarget x),
    (b.seenAt x (b.tblTarget x)).autoInc x F.CTX.TBL_ADDR_WORD F.CTX.TBL_ADDR_AUTO_INC) := by
  unfold tblRead tblTarget seenAt shownAt
  by_cases hw : b.get (uCtx x) F.CTX.TBL_ADDR_WORD < 49152 <;> simp [hw, tblFetch]

/-- The field that says which bank of the table GEO_ADDR names is in force. -/
def geoBankField (b : Block) (x : Nat) : Field :=
  if b.on (uCtx x) F.CTX.GEO_ADDR_TABLE then F.CTX.GEO_CFG_LIN_BANK else F.CTX.GEO_CFG_GEO_BANK

theorem geoWrite_open (b : Block) (m : Master) {x : Nat} (v : Nat)
    (h : b.get (uCtx x) F.CTX.GEO_ADDR_BANK ≠ b.get (uCtx x) (b.geoBankField x))
    (hp : b.bankPending x (b.geoBankField x) = false) :
    b.geoWrite m x v = (b.storeAt x (b.geoTarget x) v).autoInc x F.CTX.GEO_ADDR_WORD F.CTX.GEO_ADDR_AUTO_INC :=
  congrArg (fun t : Block => t.autoInc x F.CTX.GEO_ADDR_WORD F.CTX.GEO_ADDR_AUTO_INC)
    (if_neg fun hor => hor.elim h (Bool.eq_false_iff.1 hp))

theorem geoWrite_shut (b : Block) (m : Master) {x : Nat} (v : Nat)
    (h : b.get (uCtx x) F.CTX.GEO_ADDR_BANK = b.get (uCtx x) (b.geoBankField x) ∨ b.bankPending x (b.geoBankField x) = true) :
    b.geoWrite m x v = ((b.flag (uCtx x) F.CTX.GC_FLAGS_REFUSED).logBy m (uCtx x) 9 2 (regAddress (uCtx x) 0x814) 0 v).autoInc
      x F.CTX.GEO_ADDR_WORD F.CTX.GEO_ADDR_AUTO_INC :=
  congrArg (fun t : Block => t.autoInc x F.CTX.GEO_ADDR_WORD F.CTX.GEO_ADDR_AUTO_INC) (if_pos h)

theorem geoRead_eq (b : Block) (x : Nat) : b.geoRead x = (b.shownAt x (b.geoTarget x),
    (b.seenAt x (b.geoTarget x)).autoInc x F.CTX.GEO_ADDR_WORD F.CTX.GEO_ADDR_AUTO_INC) := by
  unfold geoRead seenAt shownAt
  cases b.geoTarget x <;> rfl

/-! ## Accesses at the data registers -/

theorem uCtx_plain {x : Nat} (hx : x < 32) : (uCtx x).plain := ⟨decide_eq_true hx, by simp⟩

/-- A field that the host may not write and the master may, in a register of its own, takes the master's word. -/
theorem busWrite_ctxWord (b : Block) {m : Master} (hm : m ≠ .boot) {x : Nat} (hx : x < 32) {f : Field}
    (hf : UnitType.ctx.fieldsAt f.off = [f]) (hmap : UnitType.ctx.mapped f.off) (hc : f.off ≠ 0x44) (hi : f.instanceAt f.off = some 0)
    (hacc : f.acc = .rw) (hmay : b.mayWrite m (uCtx x) f 0 = true) (dev w : Nat) :
    b.busWrite m dev (regAddress (uCtx x) f.off) w = b.regWrite m dev (uCtx x) f.off w [f] := by
  have hmine : b.mineAt m (uCtx x) f.off = [f] := by
    have : (uCtx x).ty.fieldsAt f.off = [f] := hf
    simp [mineAt, this, hi, hmay]
  have hhost : m ≠ .host := by
    rintro rfl
    simp [mayWrite, anyField, hostField, hacc] at hmay
  have hfs : (uCtx x).ty.fieldsAt f.off = [f] := hf
  rw [busWrite_mapped b hm (uCtx_plain hx) hmap, if_neg (fun h => hhost h.1), hmine, hfs]
  simp [hacc, hc]

theorem busWrite_tblData (b : Block) {m : Master} (hm : m ≠ .boot) {x : Nat} (hx : x < 32)
    (hmay : b.mayWrite m (uCtx x) F.CTX.TBL_DATA_WORD 0 = true) (dev : Nat) {w : Nat} (hw : w < 2 ^ 32) :
    b.busWrite m dev (regAddress (uCtx x) F.CTX.TBL_DATA_WORD.off) w = b.tblWrite m x w := by
  rw [busWrite_ctxWord b hm hx (by decide) (by decide) (by decide) (by decide) rfl hmay]
  exact congrArg (b.tblWrite m x) (putBits_whole hw)

theorem busWrite_geoData (b : Block) {m : Master} (hm : m ≠ .boot) {x : Nat} (hx : x < 32)
    (hmay : b.mayWrite m (uCtx x) F.CTX.GEO_DATA_WORD 0 = true) (dev : Nat) {w : Nat} (hw : w < 2 ^ 32) :
    b.busWrite m dev (regAddress (uCtx x) F.CTX.GEO_DATA_WORD.off) w = b.geoWrite m x w := by
  rw [busWrite_ctxWord b hm hx (by decide) (by decide) (by decide) (by decide) rfl hmay]
  exact congrArg (b.geoWrite m x) (putBits_whole hw)

theorem busRead_tblData (b : Block) (m : Master) (dev : Nat) {x : Nat} (hx : x < 32) :
    b.busRead m dev (regAddress (uCtx x) F.CTX.TBL_DATA_WORD.off) = b.tblRead x := by
  obtain ⟨hex, hbar, hdev, hlane⟩ := uCtx_plain hx
  unfold busRead
  rw [unitAt_regAddress b hex hbar hdev (by decide)]
  simp only [regAddress_off _ (show F.CTX.TBL_DATA_WORD.off < 0x4000 by decide), shut_open b hlane]
  rfl

theorem busRead_geoData (b : Block) (m : Master) (dev : Nat) {x : Nat} (hx : x < 32) :
    b.busRead m dev (regAddress (uCtx x) F.CTX.GEO_DATA_WORD.off) = b.geoRead x := by
  obtain ⟨hex, hbar, hdev, hlane⟩ := uCtx_plain hx
  unfold busRead
  rw [unitAt_regAddress b hex hbar hdev (by decide)]
  simp only [regAddress_off _ (show F.CTX.GEO_DATA_WORD.off < 0x4000 by decide), shut_open b hlane]
  rfl

/-- A write that is not turned away goes on the bus. -/
theorem writeAt_busWrite (b : Block) {m : Master} (hm : b.takes m) {u : UnitId} (hu : u.plain) (dev off : Nat) {w : Nat}
    (hw : w < 2 ^ 32) : b.writeAt m dev u off w = b.busWrite m dev (regAddress u off) w := by
  obtain ⟨hhw, hboot, hhost⟩ := hm
  obtain ⟨hex, hbar, -, -⟩ := hu
  rw [writeAt_eq b ⟨hhw, hboot⟩ hhost hex hbar, Nat.mod_eq_of_lt hw]

end Block

/-- Settles O45: at both windows the access reaches the table data register, and what the shared store, refusal and read of
a word do is said once for the two. -/
theorem tableAccessesByWord : Obligations.TableAccessesByWord := by
  intro s dt x hup hx hlen
  have puts {c : Instr} {m : Master} {off v : Nat} {t : Block} (hm : (s.now dt).takes m) (hv : v < 2 ^ 32)
      (hc : exec c s = s.live dt fun b => b.writeAt m 0 (uCtx x) off v)
      (ht : (s.now dt).busWrite m 0 (regAddress (uCtx x) off) v = t) : exec c s = .next ⟨s.pending, t⟩ :=
    hup.exec_next hc ((Block.writeAt_busWrite _ hm (Block.uCtx_plain hx) 0 off hv).trans ht)
  have reads {c : Instr} {r : Reader} {off v : Nat} {t : Block} (hr : (s.now dt).answers r)
      (hc : exec c s = s.live dt fun b => b.readAt r 0 (uCtx x) off)
      (hv : (s.now dt).busRead r.master 0 (regAddress (uCtx x) off) = (v, t)) :
      exec c s = .next ⟨s.pending, t.emit (.readData r.master (bytesOf r.be v))⟩ :=
    hup.exec_next hc (Block.readAt_busRead _ hr (Block.uCtx_plain hx) 0 off hv)
  refine ⟨⟨fun m v hm hmay hv => ⟨fun hb hp => ?tblStored, fun hno => ?tblRefused⟩, fun r hr => ?tblRead⟩,
    ⟨fun m v hm hmay hv => ⟨fun hb hp => ?geoStored, fun hno => ?geoRefused⟩, fun r hr => ?geoRead⟩⟩
  case tblStored =>
    exact ⟨_, puts hm hv (exec_tblDataWrite ..) ((Block.busWrite_tblData _ hm.2.1 hx hmay 0 hv).trans
      (Block.tblWrite_open _ m v hb hp)), Block.storeAt_autoInc _ hx hlen _ v (by decide) _⟩
  case tblRefused =>
    exact ⟨_, puts hm hv (exec_tblDataWrite ..) ((Block.busWrite_tblData _ hm.2.1 hx hmay 0 hv).trans
      (Block.tblWrite_shut _ m v hno)),
      Block.refused_autoInc _ hx (by decide) (by decide) (by decide) (by decide) _ _ _ _ _ _ _ _⟩
  case tblRead =>
    obtain ⟨hctxs, hmoved⟩ := Block.seenAt_autoInc (s.now dt) hx ((s.now dt).tblTarget x)
      (show F.CTX.TBL_ADDR_WORD.single by decide) (show F.CTX.TBL_ADDR_AUTO_INC.single by decide)
    exact ⟨_, hctxs, hmoved, reads hr (exec_tblDataRead ..)
      ((Block.busRead_tblData _ _ _ hx).trans (Block.tblRead_eq ..))⟩
  case geoStored =>
    exact ⟨_, puts hm hv (exec_geoDataWrite ..) ((Block.busWrite_geoData _ hm.2.1 hx hmay 0 hv).trans
      (Block.geoWrite_open _ m v hb hp)), Block.storeAt_autoInc _ hx hlen _ v (by decide) _⟩
  case geoRefused =>
    exact ⟨_, puts hm hv (exec_geoDataWrite ..) ((Block.busWrite_geoData _ hm.2.1 hx hmay 0 hv).trans
      (Block.geoWrite_shut _ m v hno)),
      Block.refused_autoInc _ hx (by decide) (by decide) (by decide) (by decide) _ _ _ _ _ _ _ _⟩
  case geoRead =>
    obtain ⟨hctxs, hmoved⟩ := Block.seenAt_autoInc (s.now dt) hx ((s.now dt).geoTarget x)
      (show F.CTX.GEO_ADDR_WORD.single by decide) (show F.CTX.GEO_ADDR_AUTO_INC.single by decide)
    exact ⟨_, hctxs, hmoved, reads hr (exec_geoDataRead ..)
      ((Block.busRead_geoData _ _ _ hx).trans (Block.geoRead_eq ..))⟩

end Sys2Proof.Machine

/-! # PTP on the camera ports, timestamp queues and anchors -/

namespace Sys2Proof.Machine
namespace Block

/-! ## What queueing a timestamp leaves as it was -/

theorem getI_setBitI_apart (b : Block) {u u' : UnitId} {f g : Field} {i j : Nat} (h : apart u f i u' g j = true) (n : Nat) :
    (b.setBitI u f i n).getI u' g j = b.getI u' g j := by
  unfold setBitI
  split
  · rfl
  · exact getI_setI_apart b h _

/-- A timestamp that finds its queue full sets two registers; any other changes none. -/
theorem tsqPush_cases (b : Block) (p typ seq dom : Nat) :
    ∃ ti : TimeSt, (b.tsqPush p typ seq dom = { b with time := ti } ∨ b.tsqPush p typ seq dom =
        (({ b with time := ti } : Block).setBitI uTime F.TIME.TSQ_OVF_PORT 0 p).set uTime F.TIME.FLAGS_TSQ_OVF 1) ∧
      ti.syncAt = b.time.syncAt := by
  unfold tsqPush
  dsimp only
  split
  · exact ⟨_, .inr rfl, rfl⟩
  · exact ⟨_, .inl rfl, rfl⟩

theorem tsqPush_out (b : Block) (p typ seq dom : Nat) : (b.tsqPush p typ seq dom).out = b.out := by
  obtain ⟨ti, h | h, -⟩ := b.tsqPush_cases p typ seq dom <;> simp [h]

theorem tsqPush_syncAt (b : Block) (p typ seq dom : Nat) : (b.tsqPush p typ seq dom).time.syncAt = b.time.syncAt := by
  obtain ⟨ti, h | h, hti⟩ := b.tsqPush_cases p typ seq dom <;> simp [h, hti]

theorem getI_tsqPush (b : Block) (p typ seq dom : Nat) {u : UnitId} {g : Field} {i : Nat}
    (hovf : apart uTime F.TIME.TSQ_OVF_PORT 0 u g i = true) (hflag : apart uTime F.TIME.FLAGS_TSQ_OVF 0 u g i = true) :
    (b.tsqPush p typ seq dom).getI u g i = b.getI u g i := by
  obtain ⟨ti, h | h, -⟩ := b.tsqPush_cases p typ seq dom
  · rw [h]; rfl
  · rw [h, set, getI_setI_apart _ hflag, getI_setBitI_apart _ hovf]; rfl

theorem tsqPush_camDomain (b : Block) (p typ seq dom : Nat) : (b.tsqPush p typ seq dom).camDomain = b.camDomain :=
  getI_tsqPush b p typ seq dom (by decide) (by decide)

/-- A field of another unit than TIME. -/
theorem getI_tsqPush_unit (b : Block) (p typ seq dom : Nat) {u : UnitId} {g : Field} (hu : u ≠ uTime) (hi : u.inst < 256)
    (hg : g.at 0 < 0x4000) : (b.tsqPush p typ seq dom).getI u g 0 = b.getI u g 0 := by
  have hkey {f : Field} (hf : f.at 0 < 0x4000) : apart uTime f 0 u g 0 = true := by
    simp [apart, regKey_ne hu hi (by decide) hg hf]
  exact getI_tsqPush b p typ seq dom (hkey (by decide)) (hkey (by decide))

theorem tsqPush_camPath (b : Block) (p typ seq dom : Nat) {k : Nat} (hk : k < 12) (back : Option (Nat × Nat)) (port : Nat) :
    (b.tsqPush p typ seq dom).camPath k back port = b.camPath k back port := by
  have camp {g : Field} (hg : g.at 0 < 0x4000) : (b.tsqPush p typ seq dom).getI (uCamp k) g 0 = b.getI (uCamp k) g 0 :=
    getI_tsqPush_unit b p typ seq dom (by simp) (by show k < 256; omega) hg
  have lport {g : Field} (hg : g.at 0 < 0x4000) : (b.tsqPush p typ seq dom).getI uLport g 0 = b.getI uLport g 0 :=
    getI_tsqPush_unit b p typ seq dom (by simp) (by decide) hg
  have hmac : (b.tsqPush p typ seq dom).campMac k = b.campMac k := by
    simp only [campMac, get, camp (show F.CAMP.MAC_HI_OCTETS.at 0 < 0x4000 by decide),
      camp (show F.CAMP.MAC_LO_OCTETS.at 0 < 0x4000 by decide)]
  have hip : (b.tsqPush p typ seq dom).campIp k = b.campIp k := camp (by decide)
  have hclk : (b.tsqPush p typ seq dom).clockId = b.clockId := by
    simp only [clockId, lportMac, get, lport (show F.LPORT.MAC_HI_OCTETS.at 0 < 0x4000 by decide),
      lport (show F.LPORT.MAC_LO_OCTETS.at 0 < 0x4000 by decide)]
  simp only [camPath, hmac, hip, hclk]

/-! ## Frames a port originates -/

theorem txSend_idle (b : Block) {k : Nat} (h : (b.camp k).tunOn = false) (j : TxJob) : b.txSend k j = b.txRun k j :=
  if_neg (by simp [h])

/-- A job waits behind the tunnel frame; `b` is the block before the job was noted. -/
theorem txSend_waits {b : Block} (t : Block) {k : Nat} (hc : t.camps = b.camps) (ho : t.out = b.out) (h : (b.camp k).tunOn = true)
    (j : TxJob) : (t.txSend k j).out = b.out ∧
      (t.txSend k j).camps = upd b.camps k fun _ => { b.camp k with txWait := (b.camp k).txWait ++ [j] } := by
  have hcamp : t.camp k = b.camp k := by simp [camp, hc]
  have hsend : t.txSend k j = t.setCamp k { t.camp k with txWait := (t.camp k).txWait ++ [j] } := if_pos (hcamp ▸ h)
  rw [hsend, hcamp]
  exact ⟨ho, by rw [setCamp, hc]⟩

/-- A Sync goes, and its Follow_Up with the egress timestamp (R218). -/
theorem txRun_sync_out (b : Block) {k : Nat} (hk : k < 12) (seq : Nat) :
    (b.txRun k (.sync seq)).out = .ptp k none (b.camPath k none 320) (.followUp b.camDomain seq (b.egressStamp k).1
      (b.egressStamp k).2.1 (b.egressStamp k).2.2) :: .ptp k none (b.camPath k none 319) (.sync b.camDomain seq) :: b.out := by
  simp only [txRun, emit_out, tsqPush_out, tsqPush_camPath _ _ _ _ _ hk, tsqPush_camDomain]
  rfl

theorem txRun_sync_syncAt (b : Block) (k seq : Nat) : (b.txRun k (.sync seq)).time.syncAt = b.time.syncAt := by
  simp only [txRun, emit_time, tsqPush_syncAt]

/-! ## What a camera port sends -/

/-- The Sync of port k noted: the next sequenceId, the instant. -/
def syncNoted (b : Block) (k : Nat) : Block :=
  { b with time := { b.time with
    syncSeq := upd b.time.syncSeq k fun n => (n + 1) % 0x10000
    syncAt := upd b.time.syncAt k fun _ => some b.lt } }

/-- The Announce of port k noted. -/
def annNoted (b : Block) (k : Nat) : Block :=
  { b with time := { b.time with
    annSeq := upd b.time.annSeq k fun n => (n + 1) % 0x10000
    annAt := upd b.time.annAt k fun _ => some b.lt } }

/-- Delay_Req messages that port k has answered in the present second (R217). -/
def dreqUsed (b : Block) (k : Nat) : Nat :=
  if (nth b.time.dreq k (0, 0)).2 = b.lt / 10 ^ 9 then (nth b.time.dreq k (0, 0)).1 else 0

/-- One more answered. -/
def dreqNoted (b : Block) (k : Nat) : Block :=
  { b with time := { b.time with dreq := upd b.time.dreq k fun _ => (b.dreqUsed k + 1, b.lt / 10 ^ 9) } }

theorem camSyncSend_due (b : Block) {k : Nat} (hk : k < 12) (hp : b.camPtp k = true)
    (hdue : b.intervalDue (nth b.time.syncAt k none) (b.getS uTime F.TIME.CAM_MSG_LOG_SYNC) = true) :
    b.camSyncSend k = (b.syncNoted k).txSend k (.sync (nth b.time.syncSeq k 0)) := if_pos (by simp [hk, hp, hdue])

theorem camAnnounceSend_due (b : Block) {k : Nat} (hk : k < 12) (hp : b.camPtp k = true)
    (hdue : b.intervalDue (nth b.time.annAt k none) (b.getS uTime F.TIME.CAM_MSG_LOG_ANNOUNCE) = true) :
    b.camAnnounceSend k = (b.annNoted k).txSend k (.general (b.camPath k none 320) (b.camAnnounce (nth b.time.annSeq k 0))) :=
  if_pos (by simp [hk, hp, hdue])

/-- A Delay_Req at a port that serves as master: counted beyond the limit of the second, else answered (R217). -/
theorem camDelayReq_eq (b : Block) {k : Nat} (hk : k < 12) (hp : b.camPtp k = true) (q req : Nat) (back : Option (Nat × Nat)) :
    b.camDelayReq k q req back =
      if b.get uTime F.TIME.CAM_MSG_DREQ_LIMIT ≤ b.dreqUsed k then b.incI uTime F.TIME.DREQ_DROP_COUNT k
      else (b.dreqNoted k).txSend k (.general (b.camPath k back 320)
        (.delayResp b.camDomain q req (b.ingressStamp k).1 (b.ingressStamp k).2.1 (b.ingressStamp k).2.2)) :=
  if_pos (by simp [hk, hp])

/-- With no tunnel frame begun a due Sync goes at once (R215). -/
theorem camSyncSend_goes (b : Block) {k : Nat} (hk : k < 12) (hp : b.camPtp k = true) (htun : (b.camp k).tunOn = false)
    (hdue : b.intervalDue (nth b.time.syncAt k none) (b.getS uTime F.TIME.CAM_MSG_LOG_SYNC) = true) :
    (b.camSyncSend k).out =
      .ptp k none (b.camPath k none 320) (.followUp b.camDomain (nth b.time.syncSeq k 0) (b.egressStamp k).1
        (b.egressStamp k).2.1 (b.egressStamp k).2.2) ::
      .ptp k none (b.camPath k none 319) (.sync b.camDomain (nth b.time.syncSeq k 0)) :: b.out ∧
    (b.camSyncSend k).time.syncAt = upd b.time.syncAt k fun _ => some b.lt := by
  rw [camSyncSend_due b hk hp hdue, txSend_idle (b.syncNoted k) htun]
  exact ⟨txRun_sync_out (b.syncNoted k) hk _, txRun_sync_syncAt (b.syncNoted k) k _⟩

/-- And a due Announce. -/
theorem camAnnounceSend_goes (b : Block) {k : Nat} (hk : k < 12) (hp : b.camPtp k = true) (htun : (b.camp k).tunOn = false)
    (hdue : b.intervalDue (nth b.time.annAt k none) (b.getS uTime F.TIME.CAM_MSG_LOG_ANNOUNCE) = true) :
    (b.camAnnounceSend k).out =
        .ptp k none (b.camPath k none 320) (b.camAnnounce (nth b.time.annSeq k 0)) :: b.out ∧
      (b.camAnnounceSend k).regs = b.regs ∧ (b.camAnnounceSend k).time.annAt = upd b.time.annAt k fun _ => some b.lt := by
  rw [camAnnounceSend_due b hk hp hdue, txSend_idle (b.annNoted k) htun]
  exact ⟨rfl, rfl, rfl⟩

/-- And the answer to a Delay_Req within the limit. -/
theorem camDelayReq_goes (b : Block) {k : Nat} (hk : k < 12) (hp : b.camPtp k = true) (htun : (b.camp k).tunOn = false)
    (q req : Nat) (back : Option (Nat × Nat)) (hlim : b.dreqUsed k < b.get uTime F.TIME.CAM_MSG_DREQ_LIMIT) :
    (b.camDelayReq k q req back).out = .ptp k none (b.camPath k back 320)
        (.delayResp b.camDomain q req (b.ingressStamp k).1 (b.ingressStamp k).2.1 (b.ingressStamp k).2.2) :: b.out ∧
      (b.camDelayReq k q req back).regs = b.regs := by
  rw [camDelayReq_eq b hk hp, if_neg (Nat.not_le.2 hlim), txSend_idle (b.dreqNoted k) htun]
  exact ⟨rfl, rfl⟩

theorem delayReqSend_runs (b : Block) {d : Nat} (hd : d < 2) (hs : b.servoRuns = true) (hl : b.lportUp = true)
    (hr : b.isRunning = true) :
    let dom := if d = 0 then b.get uTime F.TIME.DOMAIN_CFG_DOMAIN_A else b.get uTime F.TIME.DOMAIN_CFG_DOMAIN_B
    ∃ t : Block, b.delayReqSend d = (t.tsqPush 12 1 (nth b.time.reqSeq d 0) dom).timeUpdate d ∧
      t.out = .ptp 12 (b.lportTag 7) b.linePath (.delayReq dom (nth b.time.reqSeq d 0)) :: b.out := by
  refine ⟨_, if_pos (by simp [hs, hl, hr]), ?_⟩
  interval_cases d <;> rfl

/-- The passage of the device clock's nanoseconds through 0 that sends an anchor (R224). -/
theorem anchorDue_iff (b : Block) :
    (b.isRunning && decide (b.devClock % 10 ^ 9 ≤ 2) && b.time.anchorSec != some (b.devClock / 10 ^ 9)) = true ↔
      b.isRunning = true ∧ b.devClock % 10 ^ 9 ≤ 2 ∧ b.time.anchorSec ≠ some (b.devClock / 10 ^ 9) := by
  rw [Bool.and_eq_true, Bool.and_eq_true, decide_eq_true_iff, bne_iff_ne, and_assoc]

/-- A saturating counter raised by one reads one more, up to its largest value (R598). -/
theorem getI_incI (b : Block) (u : UnitId) {f : Field} (hf : f.lo ≤ f.hi ∧ f.hi < 32) (i : Nat) :
    (b.incI u f i).getI u f i = satAdd f.max (b.getI u f i) 1 := by
  have hlt : satAdd f.max (b.getI u f i) 1 < 2 ^ f.width := by
    have := Nat.two_pow_pos f.width
    simp only [satAdd, Field.max]
    omega
  rw [incI, addI, getI_setI_same _ _ _ _ _ hf, Nat.mod_eq_of_lt hlt]

end Block

/-- Settles O41: each command's meaning is one equation, and what leaves the port or waits is said by the job it sends. -/
theorem ptpOnTheCameraPorts : Obligations.PtpOnTheCameraPorts := by
  intro s dt k hup hk
  have reads {c : Instr} {r : Reader} {off v : Nat} {t : Block} (hr : (s.now dt).answers r)
      (hc : exec c s = s.live dt fun b => b.readAt r 0 uTime off)
      (hv : (s.now dt).busRead r.master 0 (regAddress uTime off) = (v, t)) :
      exec c s = .next ⟨s.pending, t.emit (.readData r.master (bytesOf r.be v))⟩ :=
    hup.exec_next hc (Block.readAt_busRead _ hr (by decide) 0 off hv)
  have delayReq {q req : Nat} {back : Option (Nat × Nat)} {t : Block} (ht : (s.now dt).camDelayReq k q req back = t) :
      exec (.delayReq dt k q req back) s = .next ⟨s.pending, t⟩ :=
    hup.exec_next (exec_delayReq ..) ((if_pos hk).trans ht)
  refine ⟨fun hp htun => ⟨fun hdue => ?syncGoes, fun hdue => ?announceGoes, fun q req back hlim => ?delayRespGoes⟩,
    fun hp htun => ⟨fun hdue => ?syncWaits, fun hdue => ?announceWaits, fun q req back hlim => ?delayRespWaits⟩,
    fun q req back hp hlim => ?beyondLimit, fun d hd hs hl hr => ?delayReqSend, fun r hr => ?nowLatch,
    fun r p hr hp => ⟨fun e rest he => ?tsqPop, fun he => ?tsqEmpty⟩, fun hpass => ?anchorSent, fun hno => ?noAnchor⟩
  case syncGoes =>
    exact ⟨_, hup.exec_next (exec_camSyncSend ..) rfl, Block.camSyncSend_goes (s.now dt) hk hp htun hdue⟩
  case announceGoes =>
    exact ⟨_, hup.exec_next (exec_camAnnounceSend ..) rfl, Block.camAnnounceSend_goes (s.now dt) hk hp htun hdue⟩
  case delayRespGoes =>
    exact ⟨_, delayReq rfl, Block.camDelayReq_goes (s.now dt) hk hp htun q req back hlim⟩
  case syncWaits =>
    exact ⟨_, hup.exec_next (exec_camSyncSend ..) (Block.camSyncSend_due _ hk hp hdue),
      Block.txSend_waits ((s.now dt).syncNoted k) rfl rfl htun _⟩
  case announceWaits =>
    exact ⟨_, hup.exec_next (exec_camAnnounceSend ..) (Block.camAnnounceSend_due _ hk hp hdue),
      Block.txSend_waits ((s.now dt).annNoted k) rfl rfl htun _⟩
  case delayRespWaits =>
    exact ⟨_, delayReq ((Block.camDelayReq_eq _ hk hp q req back).trans (if_neg (Nat.not_le.2 hlim))),
      Block.txSend_waits ((s.now dt).dreqNoted k) rfl rfl htun _⟩
  case beyondLimit =>
    exact ⟨_, delayReq ((Block.camDelayReq_eq _ hk hp q req back).trans (if_pos hlim)), rfl,
      Block.getI_incI _ _ (by decide) k⟩
  case delayReqSend =>
    obtain ⟨t, ht, hout⟩ := Block.delayReqSend_runs (s.now dt) hd hs hl hr
    refine ⟨t, ?_, hout⟩
    rw [exec_delayReqSend, State.liveOn_runs hup hs, if_pos hd, ht]
  case nowLatch => exact reads hr (exec_nowLatch ..) (Block.busRead_nowLt ..)
  case tsqPop =>
    exact reads hr (exec_tsqPop ..) ((Block.busRead_tsq _ _ _ hp).trans (by rw [Block.tsqPop, he]))
  case tsqEmpty =>
    exact reads hr (exec_tsqPop ..) ((Block.busRead_tsq _ _ _ hp).trans (by rw [Block.tsqPop, he]))
  case anchorSent =>
    exact hup.exec_next (exec_timeAnchor ..) (if_pos ((Block.anchorDue_iff _).2 hpass))
  case noAnchor =>
    exact hup.exec_next (exec_timeAnchor ..) (if_neg (mt (Block.anchorDue_iff _).1 hno))

end Sys2Proof.Machine

/-! # Semaphores written, staged writes, commits begun and taken back -/

namespace Sys2Proof.Machine
namespace Block

/-! ## Semaphores -/

theorem semHeld_holder {b : Block} {m : Master} {h : Nat} (hm : holderCode m = some h) {dev n : Nat}
    (hheld : b.semHeld m dev n = true) : b.getI uLock F.LOCK.SEM_HOLDER n = h := by
  rw [semHeld_eq b hm, Bool.and_eq_true] at hheld
  exact beq_iff_eq.1 hheld.1

/-- The register of semaphore n: RESULT, which every master writes, HOLDER and HOLDER_DEV (R50). -/
theorem lock_fieldsAt {n : Nat} (hn : n < 64) : UnitType.lock.fieldsAt (F.LOCK.SEM_RESULT.at n) =
    [F.LOCK.SEM_RESULT, F.LOCK.SEM_HOLDER, F.LOCK.SEM_HOLDER_DEV] := by
  interval_cases n <;> rfl

/-- A write at a semaphore's register (R52). -/
theorem busWrite_sem (b : Block) {m : Master} (hm : m ≠ .boot) (dev : Nat) {n : Nat} (hn : n < 64) (w : Nat) :
    b.busWrite m dev (regAddress uLock (F.LOCK.SEM_RESULT.at n)) w = b.semWrite m dev n (w % 2) := by
  have hat : F.LOCK.SEM_RESULT.at n = 0x100 + 4 * n := rfl
  have hfs : uLock.ty.fieldsAt (F.LOCK.SEM_RESULT.at n) = _ := lock_fieldsAt hn
  have hmine : b.mineAt m uLock (F.LOCK.SEM_RESULT.at n) = [F.LOCK.SEM_RESULT] := by
    rw [mineAt, hfs]
    simp [mayWrite, hm, anyField, F.LOCK.SEM_RESULT, F.LOCK.SEM_HOLDER, F.LOCK.SEM_HOLDER_DEV]
  have hi : F.LOCK.SEM_RESULT.instanceAt (F.LOCK.SEM_RESULT.at n) = some n := Field.instanceAt_at _ (by decide) hn
  have hbit : putBits 0 0 0 (bits w 0 0) = w % 2 := by simp [putBits, bits]
  rw [busWrite_mapped b hm (by decide) ⟨by omega, by omega, by omega, by simp [hfs]⟩, hmine, hfs,
    if_neg (by simp [UnitType.owner])]
  simp only [regWrite, writeEffect, hi, List.foldl]
  rw [if_neg (by decide), if_neg (by simp), if_neg (by decide), if_neg (by decide), if_neg (by omega)]
  exact congrArg (b.semWrite m dev n) hbit

theorem semWrite_eq (b : Block) {m : Master} {h : Nat} (hm : holderCode m = some h) (dev : Nat) {n : Nat} (hn : n < 64)
    (w : Nat) : b.semWrite m dev n w =
      if b.semHeld m dev n = true then (if w % 2 = 0 then b.semFree n else b) else b.logBy m uLock 0x0008 2 n h 0 := by
  simp [semWrite, hm, Nat.not_le.2 hn]

end Block

/-- Settles O10: read and write reach the semaphore; who holds it decides what they do. -/
theorem semaphoreReleaseByItsHolder : Obligations.SemaphoreReleaseByItsHolder := by
  intro s dt r dev n w h hup hr hn hw hm
  refine ⟨fun hheld => ?holderReads, ?written⟩
  case holderReads =>
    have hholder : (s.now dt).getI uLock F.LOCK.SEM_HOLDER n ≠ 0 := by
      rw [Block.semHeld_holder hm hheld]
      exact (Block.holderCode_lt hm).1.ne'
    have hread := Block.semRead_held (s.now dt) hm dev hn hholder
    rw [if_pos hheld] at hread
    exact hup.exec_next (exec_semRead ..)
      (Block.readAt_busRead _ hr (by decide) dev _ ((Block.busRead_sem _ _ _ hn).trans hread))
  case written =>
    obtain ⟨hhw, hboot, hhost⟩ := hr
    have hbus := (Block.writeAt_busWrite (s.now dt) ⟨hhw, hboot, fun e => (hhost e).1⟩ (by decide) dev
      (F.LOCK.SEM_RESULT.at n) hw).trans (Block.busWrite_sem _ hboot dev hn w)
    refine hup.exec_next (exec_semRelease ..) (hbus.trans ?_)
    rw [Block.semWrite_eq _ hm dev hn, Nat.mod_mod]
    rfl

namespace Block

/-! ## Writes by firmware to the staged image and to COMMIT -/

theorem firmware_sends {m : Master} (hm : m.isFirmware = true) : m ≠ .hw ∧ m ≠ .boot ∧ m ≠ .host := by
  cases m <;> simp_all [Master.isFirmware]

/-- A word written by firmware at a unit's register goes on the bus. -/
theorem writeAt_firmware (b : Block) {m : Master} (hm : m.isFirmware = true) {u : UnitId} (hu : u.exists? = true)
    (hbar : u.ty ≠ .mbxBar2) (dev off : Nat) {w : Nat} (hw : w < 2 ^ 32) :
    b.writeAt m dev u off w = b.busWrite m dev (regAddress u off) w := by
  obtain ⟨hhw, hboot, hhost⟩ := firmware_sends hm
  rw [writeAt_eq b ⟨hhw, hboot⟩ (fun e => absurd e hhost) hu hbar, Nat.mod_eq_of_lt hw]

/-- A staged write by firmware meets the register's staged image where the unit answers (R41, R105). -/
theorem busWrite_staged (b : Block) {m : Master} (hm : m.isFirmware = true) {u : UnitId} (hu : u.exists? = true)
    (hdev : u.ty ≠ .device) (hbar : u.ty ≠ .mbxBar2) (hopen : b.unitOpen u = true) {reg : Nat} (hreg : reg < 0x1000)
    (h4 : reg % 4 = 0) (hstage : ((u.ty.fieldsAt reg).any fun f => f.acc == .stage) = true) (dev w : Nat) :
    b.busWrite m dev (regAddress u (0x2000 + reg)) w = b.stagedWrite m u reg w := by
  obtain ⟨-, hboot, hhost⟩ := firmware_sends hm
  have hoff : regAddress u (0x2000 + reg) % 0x4000 / 4 * 4 = 0x2000 + reg := by rw [regAddress_off _ (by omega)]; omega
  have himp : b.implements u (0x2000 + reg) = true := by
    rw [implements, if_neg (by omega), if_neg (by omega), if_neg (by omega), Nat.add_sub_cancel_left]
    exact hstage
  have hdesc : ¬ 0x2000 + reg < 0x40 := by omega
  unfold busWrite
  rw [unitAt_regAddress b hu hbar hdev (by omega)]
  simp [hoff, himp, hdesc, shut, hopen, hboot, hhost]

/-- Where no commit covers the unit the staged word is bound; where one does the write is refused (R41, R46). -/
theorem stagedWrite_eq (b : Block) (m : Master) {u : UnitId} {reg : Nat}
    (hstage : ((u.ty.fieldsAt reg).any fun f => f.acc == .stage) = true) (w : Nat) :
    b.stagedWrite m u reg w = match b.coveringCommit u with
      | some c => b.refuseCommit m u (0x2000 + reg) c.unit 0
      | none => b.stagePut u reg w := by
  refine (if_pos hstage).trans ?_
  cases b.coveringCommit u <;> rfl

theorem commit_fieldsAt {t : UnitType} (hbar : t ≠ .mbxBar2) :
    t.fieldsAt 0x44 = [F.COMMON.COMMIT_BOUNDARY, F.COMMON.COMMIT_CANCEL, F.COMMON.COMMIT_TAG] := by
  rw [UnitType.fieldsAt, if_pos ⟨by decide, hbar⟩]
  decide

/-- The fields of COMMIT are firmware's to write. -/
theorem mineAt_commit (b : Block) {m : Master} (hm : m.isFirmware = true) {u : UnitId} (hbar : u.ty ≠ .mbxBar2) :
    b.mineAt m u 0x44 = [F.COMMON.COMMIT_BOUNDARY, F.COMMON.COMMIT_CANCEL, F.COMMON.COMMIT_TAG] := by
  obtain ⟨-, hboot, hhost⟩ := firmware_sends hm
  have hall : ∀ f ∈ [F.COMMON.COMMIT_BOUNDARY, F.COMMON.COMMIT_CANCEL, F.COMMON.COMMIT_TAG], ∀ i,
      b.mayWrite m u f i = true := by
    have key : ∀ t : UnitType, t ≠ .mbxBar2 →
        ∀ f ∈ [F.COMMON.COMMIT_BOUNDARY, F.COMMON.COMMIT_CANCEL, F.COMMON.COMMIT_TAG],
          hostField t f = false ∧ ownerField f = false ∧ (f.acc == .ro) = false := by
      intro t; cases t <;> decide
    intro f hf i
    obtain ⟨hh, ho, hro⟩ := key _ hbar f hf
    simp [mayWrite, hro, hboot, hhost, ho, hm, hh]
  rw [mineAt, commit_fieldsAt hbar]
  exact List.filter_eq_self.2 fun f hf => hall f hf _

/-- Firmware's write to COMMIT (R42). -/
theorem busWrite_commit (b : Block) {m : Master} (hm : m.isFirmware = true) {u : UnitId} (hu : u.exists? = true)
    (hdev : u.ty ≠ .device) (hbar : u.ty ≠ .mbxBar2) (dev w : Nat) :
    b.busWrite m dev (regAddress u 0x44) w = b.commitReq m u w := by
  obtain ⟨-, hboot, hhost⟩ := firmware_sends hm
  have hoff : regAddress u 0x44 % 0x4000 / 4 * 4 = 0x44 := by rw [regAddress_off _ (by decide)]
  have hmine := b.mineAt_commit hm hbar
  have hro : ((u.ty.fieldsAt 0x44).all fun f => f.acc == .ro) = false := by rw [commit_fieldsAt hbar]; rfl
  have himp : b.implements u 0x44 = true := by
    rw [implements, if_neg (by decide), if_pos (by decide), commit_fieldsAt hbar]
    rfl
  rw [mineAt] at hmine
  unfold busWrite
  rw [unitAt_regAddress b hu hbar hdev (by decide)]
  simp only [hoff, himp, hmine, hro]
  simp [hhost, shut, F.COMMON.COMMIT_BOUNDARY, F.COMMON.COMMIT_CANCEL, F.COMMON.COMMIT_TAG]

end Block

/-- Settles O13: the write reaches the staged image, and whether a commit covers the unit decides. -/
theorem stagedWriteChangesNothingInForce : Obligations.StagedWriteChangesNothingInForce := by
  intro s dt m u reg w hup hm hu hdev hbar hopen hreg h4 hw hstage
  refine hup.exec_next (exec_stagedWrite ..) ?_
  rw [Block.writeAt_firmware _ hm hu hbar 0 _ hw, Block.busWrite_staged _ hm hu hdev hbar hopen hreg h4 hstage,
    Block.stagedWrite_eq _ m hstage]
  rfl

namespace Block

/-! ## A commit begun -/

theorem commitReq_start (b : Block) (m : Master) {u : UnitId} (hdev : u.ty ≠ .device) (bnd : Boundary) {tag : Nat}
    (htag : tag < 256) : b.commitReq m u (bnd.rank + tag % 256 * 256) = b.commitWrite m u bnd tag := by
  have hrank : bnd.rank < 4 := by cases bnd <;> decide
  have hcancel : bit (bnd.rank + tag % 256 * 256) 2 = false := by
    simp only [bit, beq_eq_false_iff_ne]
    omega
  have hbnd : Boundary.ofCode (bits (bnd.rank + tag % 256 * 256) 1 0) = bnd := by
    have : bits (bnd.rank + tag % 256 * 256) 1 0 = bnd.rank := by simp only [bits]; omega
    rw [this]; cases bnd <;> rfl
  have htag' : bits (bnd.rank + tag % 256 * 256) 15 8 = tag := by simp only [bits]; omega
  simp [commitReq, hcancel, hbnd, htag', commitReg, hdev]

theorem commitReq_cancel (b : Block) (m : Master) {u : UnitId} (hdev : u.ty ≠ .device) :
    b.commitReq m u 4 = (b.commitCancel m u).groupsPoll := by
  simp [commitReq, show bit 4 2 = true by decide, cancelReg, hdev]

/-- COMMIT_STAT of a unit whose commit has been accepted (R43, R45). -/
def commitShown (b : Block) (u : UnitId) (bnd : Boundary) (tag : Nat) : Block :=
  ((b.set u F.COMMON.COMMIT_STAT_PENDING 1).set u F.COMMON.COMMIT_STAT_BOUNDARY bnd.rank).set u F.COMMON.COMMIT_STAT_TAG tag

/-- The commit that an accepted write to COMMIT leaves waiting. -/
def commitOf (b : Block) (u : UnitId) (bnd : Boundary) (eff : Option (Nat × Nat)) : Commit :=
  ⟨u, bnd, eff, commitUnits u, false, none, 0, b.lt⟩

/-- The line in flight that an accepted commit takes for its effective line. -/
def effAtOnce (b : Block) (u : UnitId) (bnd : Boundary) (tag : Nat) : Option Decided :=
  (b.commitShown u bnd tag).effInFlight (b.commitOf u bnd none)

/-- The accepted commit waits; COMMIT_STAT shows it, and COMMIT_LINE and COMMIT_PAGE the line it has taken. -/
def commitBegun (b : Block) (u : UnitId) (bnd : Boundary) (tag : Nat) : Option Decided → Block
  | none => { b.commitShown u bnd tag with commits := b.commits ++ [b.commitOf u bnd none] }
  | some d => { (b.commitShown u bnd tag).commitFix u d.line d.page with
      commits := b.commits ++ [b.commitOf u bnd (some (d.line, d.page))] }

theorem commitStart_eq (b : Block) (u : UnitId) (bnd : Boundary) (tag : Nat) : b.commitStart u bnd tag =
    b.commitBegun u (b.commitBoundary u bnd) tag (b.effAtOnce u (b.commitBoundary u bnd) tag) := by
  change (match b.effAtOnce u (b.commitBoundary u bnd) tag with
    | none => _
    | some d => _) = _
  cases b.effAtOnce u (b.commitBoundary u bnd) tag <;> rfl

theorem begun_commits (b : Block) (u : UnitId) (bnd : Boundary) (tag : Nat) (d : Option Decided) :
    (b.commitBegun u bnd tag d).commits = b.commits ++ [b.commitOf u bnd (d.map fun d => (d.line, d.page))] := by
  cases d <;> rfl

theorem begun_staged (b : Block) (u : UnitId) (bnd : Boundary) (tag : Nat) (d : Option Decided) :
    (b.commitBegun u bnd tag d).staged = b.staged := by
  cases d <;> simp [commitBegun, commitShown, commitFix]

/-- The registers written for a commit begun. -/
def commitRegs (b : Block) (u : UnitId) (bnd : Boundary) (tag : Nat) (d : Option Decided) : Block :=
  d.elim (b.commitShown u bnd tag) fun d => (b.commitShown u bnd tag).commitFix u d.line d.page

theorem begun_regs (b : Block) (u : UnitId) (bnd : Boundary) (tag : Nat) (d : Option Decided) :
    (b.commitBegun u bnd tag d).regs = (b.commitRegs u bnd tag d).regs := by
  cases d <;> rfl

/-- No line in flight, or an epoch commit: no effective line at once (R42). -/
theorem effAtOnce_none {b : Block} {u : UnitId} {bnd : Boundary} (tag : Nat) (h : b.trig.lines = [] ∨ bnd = .epoch) :
    b.effAtOnce u bnd tag = none := by
  rcases h with h | h <;> simp [effAtOnce, effInFlight, commitOf, commitShown, h]

theorem getI_shown_pending (b : Block) (u : UnitId) (bnd : Boundary) (tag : Nat) :
    (b.commitShown u bnd tag).getI u F.COMMON.COMMIT_STAT_PENDING 0 = 1 := by
  rw [commitShown, set, getI_setI_field _ _ _ (by decide), set, getI_setI_field _ _ _ (by decide), set,
    getI_setI_same _ _ _ _ _ (by decide)]
  rfl

theorem getI_shown_boundary (b : Block) (u : UnitId) (bnd : Boundary) (tag : Nat) :
    (b.commitShown u bnd tag).getI u F.COMMON.COMMIT_STAT_BOUNDARY 0 = bnd.rank := by
  rw [commitShown, set, getI_setI_field _ _ _ (by decide), set, getI_setI_same _ _ _ _ _ (by decide)]
  cases bnd <;> rfl

theorem getI_shown_tag (b : Block) (u : UnitId) (bnd : Boundary) {tag : Nat} (htag : tag < 256) :
    (b.commitShown u bnd tag).getI u F.COMMON.COMMIT_STAT_TAG 0 = tag := by
  rw [commitShown, set, getI_setI_same _ _ _ _ _ (by decide)]
  exact Nat.mod_eq_of_lt htag

/-- A write at COMMIT_STAT leaves every other register. -/
theorem rd_shown (b : Block) (u : UnitId) (bnd : Boundary) (tag : Nat) {v : UnitId} {off : Nat}
    (h : regKey v off ≠ regKey u 0x48) : (b.commitShown u bnd tag).rd v off = b.rd v off := by
  rw [commitShown, set, rd_setI_ne _ h, set, rd_setI_ne _ h, set, rd_setI_ne _ h]

/-- COMMIT_LINE and COMMIT_PAGE of a commit whose effective line is fixed (R43). -/
theorem rd_commitFix (b : Block) (u : UnitId) (line page : Nat) :
    (b.commitFix u line page).rd u 0x4C = line % 2 ^ 32 ∧ (b.commitFix u line page).rd u 0x50 = line / 2 ^ 32 % 2 ^ 16 ∧
      (b.commitFix u line page).rd u 0x54 = page % 2 ^ 32 := by
  have ne {a c : Nat} (h : a ≠ c) := regKey_off_ne u h
  refine ⟨?_, ?_, rd_wr_same ..⟩
  · rw [commitFix, rd_wr_ne _ (ne (by decide)), rd_wr_ne _ (ne (by decide)), rd_wr_same, Nat.mod_mod]
  · rw [commitFix, rd_wr_ne _ (ne (by decide)), rd_wr_same]
    exact Nat.mod_eq_of_lt (by omega)

theorem rd_commitFix_ne (b : Block) (u : UnitId) (line page : Nat) {v : UnitId} {off : Nat}
    (h : ∀ o ∈ [0x4C, 0x50, 0x54], regKey v off ≠ regKey u o) : (b.commitFix u line page).rd v off = b.rd v off := by
  rw [commitFix, rd_wr_ne _ (h _ (by simp)), rd_wr_ne _ (h _ (by simp)), rd_wr_ne _ (h _ (by simp))]

/-- COMMIT_STAT stays when the effective line is fixed. -/
theorem getI_commitFix_stat (b : Block) (u : UnitId) (line page : Nat) {f : Field} (hf : f.at 0 = 0x48) :
    (b.commitFix u line page).getI u f 0 = b.getI u f 0 := by
  refine getI_of_rd (rd_commitFix_ne b u line page ?_)
  rw [hf]
  intro o ho
  refine regKey_off_ne u ?_
  simp only [List.mem_cons, List.not_mem_nil, or_false] at ho
  omega

/-- Registers of two places of the map have different keys. -/
theorem regKey_ne_of_place {u v : UnitId} {a c : Nat} (h : (v, a) ≠ (u, c)) (hv : v.inst < 256) (hu : u.inst < 256)
    (ha : a < 0x4000) (hc : c < 0x4000) : regKey v a ≠ regKey u c := by
  by_cases e : v = u
  · subst e
    exact regKey_off_ne v fun hac => h (by rw [hac])
  · exact regKey_ne e hv hu ha hc

/-- COMMIT_STAT of the unit of a commit begun is the one shown. -/
theorem getI_begun (b : Block) (u : UnitId) (bnd : Boundary) (tag : Nat) (d : Option Decided) {f : Field} (hf : f.at 0 = 0x48) :
    (b.commitBegun u bnd tag d).getI u f 0 = (b.commitShown u bnd tag).getI u f 0 := by
  rw [getI_congr (begun_regs b u bnd tag d)]
  cases d with
  | none => rfl
  | some d => exact getI_commitFix_stat _ u d.line d.page hf

theorem inst_lt {u : UnitId} (hu : u.exists? = true) : u.inst < 256 := by
  have h : u.inst < u.ty.instances := by simpa [UnitId.exists?] using hu
  have : u.ty.instances ≤ 256 := by cases u.ty <;> decide
  omega

end Block

/-- Settles O14: the write asks for a commit; a related one refuses it, else the one begun waits with the line in flight
that it takes, if there is one. -/
theorem commitStartsOrIsRefused : Obligations.CommitStartsOrIsRefused := by
  intro s dt m u bnd tag hup hm hu hdev hbar htag
  dsimp only
  have hw : bnd.rank + tag % 256 * 256 < 2 ^ 32 := by
    have : bnd.rank < 4 := by cases bnd <;> decide
    omega
  have writes {t : Block} (ht : (s.now dt).commitWrite m u bnd tag = t) :
      exec (.commit dt m u bnd tag) s = .next ⟨s.pending, t⟩ :=
    hup.exec_next (exec_commit ..) (by
      rw [Block.writeAt_firmware _ hm hu hbar 0 _ hw, Block.busWrite_commit _ hm hu hdev hbar,
        Block.commitReq_start _ m hdev bnd htag, ht])
  refine ⟨fun c hc => writes (by rw [Block.commitWrite, hc]; rfl), fun hnone => ?begun⟩
  case begun =>
    set bnd' := (s.now dt).commitBoundary u bnd
    set d := (s.now dt).effAtOnce u bnd' tag
    have hstart : (s.now dt).commitWrite m u bnd tag = (s.now dt).commitBegun u bnd' tag d := by
      rw [Block.commitWrite, hnone]
      exact Block.commitStart_eq _ u bnd tag
    refine ⟨_, d.map fun d => (d.line, d.page), writes hstart, Block.begun_commits .., Block.begun_staged ..,
      (Block.getI_begun _ u bnd' tag d (by decide)).trans (Block.getI_shown_pending ..),
      (Block.getI_begun _ u bnd' tag d (by decide)).trans (Block.getI_shown_boundary ..),
      (Block.getI_begun _ u bnd' tag d (by decide)).trans (Block.getI_shown_tag _ _ _ htag), fun h => ?noLine,
      fun heff v off hv ho hout => ?noOtherRegister, fun line page heff => ?lineShown⟩
    case noLine => rw [show d = none from Block.effAtOnce_none tag h]; rfl
    case noOtherRegister =>
      rw [Option.map_eq_none_iff] at heff
      rw [Block.rd_congr (Block.begun_regs _ u bnd' tag d), heff]
      exact Block.rd_shown _ _ _ _ (Block.regKey_ne_of_place (fun e => hout (List.mem_singleton.2 e)) hv
        (Block.inst_lt hu) ho (by decide))
    case lineShown =>
      obtain ⟨e, he, hline⟩ := Option.map_eq_some_iff.1 heff
      cases hline
      have hregs := Block.rd_congr (Block.begun_regs (s.now dt) u bnd' tag d) u
      rw [hregs, hregs, hregs, he]
      exact Block.rd_commitFix ..

namespace Block

/-! ## A commit taken back -/

/-- With no request that waits, a withdrawal takes the commit from those that wait and shows it (R47). -/
theorem commitDrop_eq (b : Block) (c : Commit) (hdef : b.mbx.deferred = []) : b.commitDrop c =
    { (b.set c.unit F.COMMON.COMMIT_STAT_PENDING 0).set c.unit F.COMMON.COMMIT_STAT_CANCELLED 1 with
      commits := b.commits.erase c } := by
  simp only [commitDrop, commitReply, set_mbx, hdef, List.filter_nil, List.foldl_nil]
  rfl

theorem groupsPoll_none {b : Block} (h : b.ring.groups = []) : b.groupsPoll = b := by rw [groupsPoll, h]; rfl

/-- A withdrawal at a unit, with no request that waits (R47). -/
theorem commitCancel_eq (b : Block) (m : Master) (u : UnitId) (hdef : b.mbx.deferred = []) :
    b.commitCancel m u = match b.commits.find? fun c => c.unit == u && notEntered c with
      | some c => { (b.set u F.COMMON.COMMIT_STAT_PENDING 0).set u F.COMMON.COMMIT_STAT_CANCELLED 1 with
          commits := b.commits.erase c }
      | none => b.refuseCommit m u 0x44 (((b.relatedCommit u).map Commit.unit).getD u) 1 := by
  cases hfind : b.commits.find? fun c => c.unit == u && notEntered c with
  | none => rw [commitCancel, hfind]
  | some c =>
    have hunit : c.unit = u := by
      have := List.find?_some hfind
      rw [Bool.and_eq_true, beq_iff_eq] at this
      exact this.1
    rw [commitCancel, hfind]
    exact hunit ▸ commitDrop_eq b c hdef

theorem commitCancel_ring (b : Block) (m : Master) (u : UnitId) (hdef : b.mbx.deferred = []) :
    (b.commitCancel m u).ring = b.ring := by
  rw [commitCancel_eq b m u hdef]
  split
  · rfl
  · rw [refuseCommit, logBy_ring, set_ring]

end Block

/-- Settles O15: CANCEL asks for the withdrawal, whose two cases are those of the statement. -/
theorem commitWithdrawn : Obligations.CommitWithdrawn := by
  intro s dt m u hup hm hu hdev hbar hdef hgrp
  refine hup.exec_next (exec_commitCancel ..) ?_
  have hring : ((s.now dt).commitCancel m u).ring.groups = [] := by rw [Block.commitCancel_ring _ _ _ hdef, hgrp]
  rw [Block.writeAt_firmware _ hm hu hbar 0 _ (by decide), Block.busWrite_commit _ hm hu hdev hbar,
    Block.commitReq_cancel _ m hdev, Block.groupsPoll_none hring, Block.commitCancel_eq _ _ _ hdef]
  rfl

/-! # Upsets of on-chip memory and the scrubber -/

namespace Block

/-- The flips listed after those of a word have been replaced: those of the other words, and the word's if it has any. -/
theorem sramPut_find (b : Block) (u : UnitId) (a p : Nat) (k : UnitId × Nat) :
    (b.sramPut u a p).sram.flips.find? (fun e => e.1 == k) =
      if k = (u, a) then (if p % 2 ^ 39 = 0 then none else some ((u, a), p % 2 ^ 39))
      else b.sram.flips.find? fun e => e.1 == k := by
  have hput : (b.sramPut u a p).sram.flips = if p % 2 ^ 39 = 0 then b.sram.flips.filter fun e => e.1 != (u, a)
    else (b.sram.flips.filter fun e => e.1 != (u, a)) ++ [((u, a), p % 2 ^ 39)] := rfl
  have hrest : (b.sram.flips.filter fun e => e.1 != (u, a)).find? (fun e => e.1 == k) =
      if k = (u, a) then none else b.sram.flips.find? fun e => e.1 == k := by
    rw [List.find?_filter]
    split
    · next hk => simp [hk]
    · next hk =>
      congr 1
      funext e
      by_cases he : e.1 = k <;> simp [he, hk]
  rw [hput]
  generalize p % 2 ^ 39 = q
  by_cases hq : q = 0
  · rw [if_pos hq, if_pos hq, hrest]
  · rw [if_neg hq, if_neg hq, List.find?_append, hrest]
    by_cases hk : k = (u, a)
    · simp [hk]
    · simp [hk, Ne.symm hk]

theorem sramFlips_put_same (b : Block) (u : UnitId) (a p : Nat) : (b.sramPut u a p).sramFlips u a = p % 2 ^ 39 := by
  rw [sramFlips, sramPut_find, if_pos rfl]
  split
  · next h => exact h.symm
  · rfl

theorem sramFlips_put_ne (b : Block) {u v : UnitId} {a c : Nat} (h : (v, c) ≠ (u, a)) (p : Nat) :
    (b.sramPut u a p).sramFlips v c = b.sramFlips v c := by
  rw [sramFlips, sramPut_find, if_neg h, sramFlips]

/-- The block after an upset of a word: the flips of R54. -/
def upsetOf (b : Block) (u : UnitId) (a flips : Nat) : Block :=
  if flips % 2 ^ 39 = 0 then b else b.sramPut u a (Nat.xor (b.sramFlips u a) (flips % 2 ^ 39))

theorem sramScrub_eq (b : Block) (u : UnitId) (a : Nat) (e : Upset) :
    b.sramScrub u a e = if e.visit then (b.upsetOf u a e.flips).sramRead u a else b.upsetOf u a e.flips := rfl

theorem upsetOf_flips (b : Block) (u : UnitId) (a flips : Nat) : (b.upsetOf u a flips).sramFlips u a =
    if flips % 2 ^ 39 = 0 then b.sramFlips u a else Nat.xor (b.sramFlips u a) (flips % 2 ^ 39) % 2 ^ 39 := by
  unfold upsetOf
  split
  · rfl
  · exact sramFlips_put_same ..

theorem upsetOf_flips_ne (b : Block) {u v : UnitId} {a c : Nat} (h : (v, c) ≠ (u, a)) (flips : Nat) :
    (b.upsetOf u a flips).sramFlips v c = b.sramFlips v c := by
  unfold upsetOf
  split
  · rfl
  · exact sramFlips_put_ne b h _

theorem upsetOf_rest (b : Block) (u : UnitId) (a flips : Nat) : { b.upsetOf u a flips with sram := b.sram } = b := by
  unfold upsetOf
  split <;> rfl

theorem sramRead_clean {b : Block} {u : UnitId} {a : Nat} (h : b.sramWeight u a = 0) : b.sramRead u a = b := by
  simp only [sramRead, h]

theorem sramRead_one {b : Block} {u : UnitId} {a : Nat} (h : b.sramWeight u a = 1) :
    b.sramRead u a = (b.sramPut u a 0).inc uErrlog F.ERRLOG.CNT_SRAM_CE_COUNT := by
  simp only [sramRead, h]

theorem sramRead_many {b : Block} {u : UnitId} {a : Nat} (h : 2 ≤ b.sramWeight u a) :
    b.sramRead u a = (b.inc uErrlog F.ERRLOG.CNT_SRAM_UE_COUNT).log u 0x0010 2 a 0 0 := by
  rw [sramRead]
  split <;> [omega; omega; rfl]

end Block

/-- Settles O16: the upset, then the read that the scrubber's visit is, by the word's weight. -/
theorem scrubberCountsAndMarks : Obligations.ScrubberCountsAndMarks := by
  intro s dt u a e hup
  have scrubs {t : Block} (h : (s.now dt).sramScrub u a e = t) : exec (.sramScrub dt u a e) s = .next ⟨s.pending, t⟩ :=
    hup.exec_next (exec_sramScrub ..) h
  have visits (hv : e.visit = true) : (s.now dt).sramScrub u a e = ((s.now dt).upsetOf u a e.flips).sramRead u a := by
    rw [Block.sramScrub_eq, if_pos hv]
  refine ⟨(s.now dt).upsetOf u a e.flips, Block.upsetOf_rest .., Block.upsetOf_flips ..,
    fun v c h => Block.upsetOf_flips_ne _ h _,
    fun hv => scrubs ?notVisited, fun hv h0 => scrubs ((visits hv).trans (Block.sramRead_clean h0)),
    fun hv h1 => ⟨((s.now dt).upsetOf u a e.flips).sramPut u a 0, scrubs ((visits hv).trans (Block.sramRead_one h1)), rfl,
      Block.sramFlips_put_same .., fun v c h => Block.sramFlips_put_ne _ h _⟩,
    fun hv h2 => scrubs ((visits hv).trans (Block.sramRead_many h2))⟩
  case notVisited => rw [Block.sramScrub_eq, hv]; rfl

end Sys2Proof.Machine

/-! # Resets of the control cores and of the host port -/

namespace Sys2Proof.Machine

/-- What no step of a fold changes, the fold leaves as it was. -/
theorem foldl_keeps {α β γ : Type} (g : β → γ) {f : β → α → β} (l : List α)
    (h : ∀ a ∈ l, ∀ t, g (f t a) = g t) (s : β) :
    g (l.foldl f s) = g s := by
  induction l generalizing s with
  | nil => rfl
  | cons a r ih => rw [List.foldl_cons, ih fun c hc => h c (List.mem_cons_of_mem a hc), h a List.mem_cons_self]

namespace Block

/-! ## Semaphores of a master that goes away -/

theorem semFree_holder (b : Block) (k n : Nat) : (b.semFree k).getI uLock F.LOCK.SEM_HOLDER n =
    if n = k then 0 else b.getI uLock F.LOCK.SEM_HOLDER n := by
  unfold semFree
  split
  · next h => rw [h, getI_setI_field _ _ _ (by decide), getI_setI_same _ _ _ _ _ (by decide)]; rfl
  · next h => rw [getI_setI_inst _ _ h (by decide), getI_setI_inst _ _ h (by decide)]

theorem semRelease_step (b : Block) (h k n : Nat) :
    (if b.getI uLock F.LOCK.SEM_HOLDER k = h then b.semFree k else b).getI uLock F.LOCK.SEM_HOLDER n =
      if n = k ∧ b.getI uLock F.LOCK.SEM_HOLDER n = h then 0 else b.getI uLock F.LOCK.SEM_HOLDER n := by
  by_cases hk : n = k
  · subst hk
    split <;> simp_all [semFree_holder]
  · split <;> simp [semFree_holder, hk]

/-- The part of semRelease that looks at the semaphores of a list. -/
def semReleaseIn (b : Block) (h : Nat) (l : List Nat) : Block :=
  l.foldl (fun s k => if s.getI uLock F.LOCK.SEM_HOLDER k = h then s.semFree k else s) b

theorem semReleaseIn_holder (h n : Nat) (l : List Nat) (b : Block) : (b.semReleaseIn h l).getI uLock F.LOCK.SEM_HOLDER n =
    if n ∈ l ∧ b.getI uLock F.LOCK.SEM_HOLDER n = h then 0 else b.getI uLock F.LOCK.SEM_HOLDER n := by
  induction l generalizing b with
  | nil => simp [semReleaseIn]
  | cons k r ih =>
    have hstep := b.semRelease_step h k n
    by_cases hk : n = k ∧ b.getI uLock F.LOCK.SEM_HOLDER n = h
    · rw [if_pos hk] at hstep
      rw [if_pos ⟨by simp [hk.1], hk.2⟩]
      refine (ih _).trans ?_
      rw [hstep, ite_self]
    · rw [if_neg hk] at hstep
      refine (ih _).trans ?_
      rw [hstep]
      by_cases hh : b.getI uLock F.LOCK.SEM_HOLDER n = h
      · have hne : n ≠ k := fun e => hk ⟨e, hh⟩
        simp [hne, hh]
      · rw [if_neg fun e => hh e.2, if_neg fun e => hh e.2]

/-- A master's semaphores are released, and no other (R53). -/
theorem semRelease_holder (b : Block) (h : Nat) {n : Nat} (hn : n < 64) : (b.semRelease h).getI uLock F.LOCK.SEM_HOLDER n =
    if b.getI uLock F.LOCK.SEM_HOLDER n = h then 0 else b.getI uLock F.LOCK.SEM_HOLDER n := by
  have := semReleaseIn_holder h n (List.range 64) b
  simp only [List.mem_range, hn, true_and] at this
  exact this

theorem semRelease_evt (b : Block) (h : Nat) : (b.semRelease h).evt = b.evt :=
  foldl_keeps evt _ (fun k _ t => by split <;> rfl) b

theorem semRelease_mbx (b : Block) (h : Nat) : (b.semRelease h).mbx = b.mbx :=
  foldl_keeps mbx _ (fun k _ t => by split <;> rfl) b

/-! ## CORE_RESET -/

/-- With no request waiting in the core its reset takes the nonce alone from the mailboxes (R519, R532). -/
theorem mbxCoreReset_none {b : Block} {c : Nat} (h : (b.mbx.deferred.filter fun d => d.core == c) = []) :
    b.mbxCoreReset c = { b with mbx := { b.mbx with nonce := none } } := by
  simp [mbxCoreReset, h]

theorem getI_withMbx (b : Block) (m : MbxSt) (u : UnitId) (f : Field) (i : Nat) :
    { b with mbx := m }.getI u f i = b.getI u f i := rfl

theorem evtCoreReset_getI (b : Block) (c : Nat) (u : UnitId) (f : Field) (i : Nat) :
    (b.evtCoreReset c).getI u f i = b.getI u f i := rfl

theorem coreWipe_getI (b : Block) (a n : Nat) (u : UnitId) (f : Field) (i : Nat) :
    (b.coreWipe a n).getI u f i = b.getI u f i := rfl

theorem evtCoreReset_evt (b : Block) (c : Nat) :
    (b.evtCoreReset c).evt = { b.evt with irqLines := b.evt.irqLines.filter fun n => n / 32 != c } := rfl

theorem coreWipe_evt (b : Block) (a n : Nat) : (b.coreWipe a n).evt = b.evt := rfl

/-- The reset of core 1 or 3 with no request waiting in it. -/
theorem coreReset_idle {b : Block} (hup : b.cored = true) {c : Nat} (hc : c = 1 ∨ c = 3)
    (h : (b.mbx.deferred.filter fun d => d.core == c) = []) :
    b.coreReset c = (({ b.semRelease (c + 2) with mbx := { b.mbx with nonce := none } } : Block).evtCoreReset c).coreWipe
      (c * 0x200000) 0x200000 := by
  have hmbx := b.semRelease_mbx (c + 2)
  have hm := mbxCoreReset_none (b := b.semRelease (c + 2)) (c := c) (by rw [hmbx]; exact h)
  have hin : [1, 2, 3].contains c = true := by rcases hc with rfl | rfl <;> rfl
  have hne : ¬ c = 2 := by omega
  rw [coreReset, if_pos (by rw [hup, hin]; rfl)]
  dsimp only
  rw [if_neg hne, hm, hmbx]

theorem coreReset_two {b : Block} (hup : b.cored = true) : ∃ t : Block, b.coreReset 2 = t.timeCoreLost := by
  rw [coreReset, hup]
  exact ⟨_, rfl⟩

theorem timeCoreLost_usable (b : Block) : b.timeCoreLost.get uTime F.TIME.STATE_USABLE_A = 0 ∧
    b.timeCoreLost.get uTime F.TIME.STATE_USABLE_B = 0 := by
  unfold timeCoreLost get set
  dsimp only
  refine ⟨?_, ?_⟩
  · rw [getI_setI_field _ _ _ (by decide), getI_setI_same _ _ _ _ _ (by decide)]; rfl
  · rw [getI_setI_same _ _ _ _ _ (by decide)]; rfl

/-! ## HOST_PORT_RESET -/

theorem resetAll_mbx (b : Block) (u : UnitId) (fs : List Field) : (b.resetAll u fs).mbx = b.mbx :=
  foldl_keeps mbx fs (fun f _ t => foldl_keeps mbx (List.range f.count) (fun _ _ _ => setI_mbx ..) t) b

theorem evtHostReset_mbx (b : Block) : b.evtHostReset.mbx = b.mbx :=
  foldl_keeps mbx _ (fun _ _ t => by split <;> rfl) b

theorem errlogHostReset_mbx (b : Block) : b.errlogHostReset.mbx = b.mbx := resetAll_mbx ..

/-- A host-port reset empties what waits for the host or from it (R519). -/
theorem mbxHostReset_empty (b : Block) : b.mbxHostReset.mbx.held = [] ∧ b.mbxHostReset.mbx.outbox = [] := by
  simp [mbxHostReset, dropBells, addI]

theorem hostReset_mbx (b : Block) : b.hostReset.mbx.held = [] ∧ b.hostReset.mbx.outbox = [] := by
  have hend (t : Block) : t.endpointReset.mbx = t.mbx := rfl
  unfold hostReset
  dsimp only
  rw [hend, errlogHostReset_mbx, evtHostReset_mbx]
  exact mbxHostReset_empty _

theorem hostReset_msix (b : Block) : b.hostReset.host.msixEnable = false ∧ b.hostReset.host.functionMask = false ∧
    b.hostReset.host.msix = Block.initial.host.msix := ⟨rfl, rfl, rfl⟩

/-- The link's going down touches the endpoint's pending bits alone. -/
theorem msix_host (b : Block) (v : Nat) : ∃ p, (b.msix v).host = { b.host with pba := p } := by
  unfold msix
  dsimp only
  split
  · split <;> exact ⟨_, rfl⟩
  · exact ⟨_, rfl⟩

theorem hostIrq_host (b : Block) (f : Field) : ∃ p, (b.hostIrq f).host = { b.host with pba := p } := by
  unfold hostIrq
  dsimp only
  split
  · exact ⟨_, rfl⟩
  · exact msix_host _ 0

theorem unitFail_host (b : Block) (f : Field) (n : Nat) : ∃ p, (b.unitFail f n).host = { b.host with pba := p } := by
  have hlog : ((b.setBitI uSys f 0 n).log uSys 0x0040 2 (f.lo + n) 0 0).host = b.host := by rw [log_host, setBitI_host]
  unfold unitFail
  dsimp only
  split
  · exact ⟨_, rfl⟩
  · split
    · rw [← hlog]; exact hostIrq_host _ _
    · exact ⟨_, hlog⟩

theorem hostLinkDown_host (b : Block) : ∃ p, b.hostLinkDown.host = { b.host with pba := p } := by
  unfold hostLinkDown
  dsimp only
  split
  · exact unitFail_host _ _ _
  · exact ⟨_, rfl⟩

theorem unitFail_mbx (b : Block) (f : Field) (n : Nat) : (b.unitFail f n).mbx = b.mbx := by
  unfold unitFail
  dsimp only
  split
  · rfl
  · split <;> simp

theorem hostLinkDown_mbx (b : Block) : b.hostLinkDown.mbx = b.mbx := by
  unfold hostLinkDown
  dsimp only
  split
  · exact unitFail_mbx _ _ _
  · rfl

/-- UNIT_FAIL writes no field of HOST but IRQ_STAT. -/
theorem getI_unitFail_host (b : Block) {f g : Field} {n i : Nat} (hf : f.at 0 < 0x4000) (hg : g.at i < 0x4000)
    (ha : apart uHost F.HOST.IRQ_STAT_UNIT_FAIL 0 uHost g i = true) : (b.unitFail f n).getI uHost g i = b.getI uHost g i := by
  have hlog : ((b.setBitI uSys f 0 n).log uSys 0x0040 2 (f.lo + n) 0 0).getI uHost g i = b.getI uHost g i := by
    rw [getI_log _ (by decide) (by decide) hg]
    exact getI_of_rd (rd_setBitI_unit b (by decide) (by decide) (by decide) hf hg n)
  unfold unitFail
  dsimp only
  split
  · rfl
  · split
    · rw [getI_hostIrq _ ha, hlog]
    · exact hlog

theorem hostLinkDown_linkUp (b : Block) : b.hostLinkDown.get uHost F.HOST.LINK_UP = 0 := by
  have hset : (((b.set uHost F.HOST.LINK_UP 0).set uHost F.HOST.LINK_SPEED 0).set uHost F.HOST.LINK_WIDTH 0).getI uHost
      F.HOST.LINK_UP 0 = 0 := by
    rw [set, getI_setI_field _ _ _ (by decide), set, getI_setI_field _ _ _ (by decide), set,
      getI_setI_same _ _ _ _ _ (by decide)]
    rfl
  unfold hostLinkDown get
  dsimp only
  split
  · rw [getI_unitFail_host _ (by decide) (by decide) (by decide), hset]
  · exact hset

end Block

/-- What a host-port reset leaves of MSI-X, of the requests held and of the stores that wait. -/
def Block.HostCleared (b : Block) : Prop :=
  b.host.msixEnable = false ∧ b.host.functionMask = false ∧ b.host.msix = Block.initial.host.msix ∧
    b.mbx.held = [] ∧ b.mbx.outbox = []

namespace Block

theorem HostCleared.of_same {b t : Block} (h : b.HostCleared) {p : List Nat} {tr : Bool}
    (hhost : t.host = { b.host with pba := p, training := tr }) (hmbx : t.mbx = b.mbx) : t.HostCleared := by
  obtain ⟨hen, hmask, htab, hheld, hout⟩ := h
  exact ⟨by rw [hhost]; exact hen, by rw [hhost]; exact hmask, by rw [hhost]; exact htab, hmbx ▸ hheld, hmbx ▸ hout⟩

theorem hostReset_cleared (b : Block) : b.hostReset.HostCleared := by
  obtain ⟨hen, hmask, htab⟩ := b.hostReset_msix
  obtain ⟨hheld, hout⟩ := b.hostReset_mbx
  exact ⟨hen, hmask, htab, hheld, hout⟩

theorem hostLinkDown_cleared {b : Block} (h : b.HostCleared) : b.hostLinkDown.HostCleared := by
  obtain ⟨p, hp⟩ := b.hostLinkDown_host
  exact h.of_same hp b.hostLinkDown_mbx

end Block

/-- Settles O28: what each reset does is said step by step; of the host port's, that the link's going down keeps what
the reset has cleared. -/
theorem coreAndHostPortResets : Obligations.CoreAndHostPortResets := by
  intro s dt hup
  refine ⟨fun c hc hidle => ?coreOneOrThree, ?coreTwo, fun kind hkind => ?hostPort⟩
  case coreOneOrThree =>
    refine ⟨_, hup.exec_next (exec_coreReset ..) (Block.coreReset_idle hup hc hidle), fun n hn => ?_, ?_⟩
    · rw [Block.coreWipe_getI, Block.evtCoreReset_getI, Block.getI_withMbx, Block.semRelease_holder _ _ hn]
    · rw [Block.coreWipe_evt, Block.evtCoreReset_evt]
      dsimp only
      rw [Block.semRelease_evt]
  case coreTwo =>
    obtain ⟨t, ht⟩ := Block.coreReset_two hup
    exact ⟨_, hup.exec_next (exec_coreReset ..) ht, t.timeCoreLost_usable⟩
  case hostPort =>
    have resets {t : Block} (ht : (s.now dt).hostPortReset kind = t) (hc : t.HostCleared)
        (hd : kind ≠ 1 → t.get uHost F.HOST.LINK_UP = 0) :
        ∃ b : Block, exec (.hostPortReset dt kind) s = .next ⟨s.pending, b⟩ ∧ b.host.msixEnable = false ∧
          b.host.functionMask = false ∧ b.host.msix = Block.initial.host.msix ∧ b.mbx.held = [] ∧ b.mbx.outbox = [] ∧
          (kind ≠ 1 → b.get uHost F.HOST.LINK_UP = 0) := by
      obtain ⟨hen, hmask, htab, hheld, hout⟩ := hc
      exact ⟨t, hup.exec_next (exec_hostPortReset ..) ht, hen, hmask, htab, hheld, hout, hd⟩
    have hdown := Block.hostLinkDown_cleared (s.now dt).hostReset_cleared
    have hlink := (s.now dt).hostReset.hostLinkDown_linkUp
    rcases hkind with ⟨hle, hl⟩ | ⟨rfl, hrun, hperst⟩
    · have hgo : ((s.now dt).cored && (s.now dt).on uHost F.HOST.LINK_UP) = true := by
        rw [show (s.now dt).cored = true from hup, hl]; rfl
      interval_cases kind
      · exact resets (if_pos hgo) hdown fun _ => hlink
      · exact resets (if_pos hgo) (s.now dt).hostReset_cleared fun h => absurd rfl h
      · exact resets (if_pos hgo) hdown fun _ => (Block.getI_setI_apart _ (by decide) _).trans hlink
    · have hgo : ((s.now dt).isRunning && (s.now dt).boot.perstn) = true := by rw [hrun, hperst]; rfl
      exact resets (if_pos hgo) (hdown.of_same rfl rfl) fun _ => hlink

end Sys2Proof.Machine

/-! # A commit comes into force at its line -/

namespace Sys2Proof.Machine

/-- A key names its unit and its offset. -/
theorem keyUnit_regKey {u : UnitId} (hu : u.exists? = true) {off : Nat} (ho : off < 0x4000) : keyUnit (regKey u off) = some u := by
  have hi := Block.inst_lt hu
  have hcode : regKey u off / 0x4000 / 256 = u.ty.code := by unfold regKey; omega
  have hinst : regKey u off / 0x4000 % 256 = u.inst := by unfold regKey; omega
  rw [keyUnit, hcode, hinst, Block.ofCode_code]
  rfl

theorem regKey_of_keyUnit {k : Nat} {u : UnitId} (h : keyUnit k = some u) : regKey u (k % 0x4000) = k := by
  obtain ⟨t, ht, hu⟩ := Option.map_eq_some_iff.1 h
  have hcode : t.code = k / 0x4000 / 256 := by simpa using List.find?_some ht
  subst hu
  simp only [regKey, hcode]
  omega

namespace Block

/-! ## Staged values come into force -/

/-- One staged word brought into force. -/
def stageWord (u : UnitId) (b : Block) (p : Nat × Word) : Block :=
  b.wr u (p.1 % 0x4000) (stageMerge u.ty (p.1 % 0x4000) (b.rd u (p.1 % 0x4000)) p.2.toNat)

/-- A register with no word among those brought into force. -/
theorem rd_stageWords_other {u : UnitId} {reg : Nat} (l : List (Nat × Word)) (hl : ∀ p ∈ l, keyUnit p.1 = some u)
    (h : ∀ w, (regKey u reg, w) ∉ l) (b : Block) : (l.foldl (stageWord u) b).rd u reg = b.rd u reg := by
  refine rd_foldl l (fun p hp t => rd_wr_ne t ?_ _) b
  rw [regKey_of_keyUnit (hl p hp)]
  exact fun e => h p.2 (by rw [e]; exact hp)

/-- A register with one. -/
theorem rd_stageWords {u : UnitId} {reg : Nat} (hreg : reg < 0x4000) {w : Word} (l : List (Nat × Word))
    (hl : ∀ p ∈ l, keyUnit p.1 = some u) (hkeys : (l.map Prod.fst).Nodup) (hw : (regKey u reg, w) ∈ l) (b : Block) :
    (l.foldl (stageWord u) b).rd u reg = stageMerge u.ty reg (b.rd u reg) w.toNat % 2 ^ 32 := by
  induction l generalizing b with
  | nil => cases hw
  | cons p r ih =>
    obtain ⟨hp, hr⟩ := List.nodup_cons.1 hkeys
    have hlr : ∀ q ∈ r, keyUnit q.1 = some u := fun q hq => hl q (List.mem_cons_of_mem p hq)
    rcases List.mem_cons.1 hw with rfl | hmem
    · have hother : ∀ v, (regKey u reg, v) ∉ r := fun v hv => hp (List.mem_map.2 ⟨_, hv, rfl⟩)
      rw [List.foldl_cons, rd_stageWords_other r hlr hother, stageWord, regKey_mod u hreg, rd_wr_same]
    · have hne : regKey u reg ≠ p.1 := fun e => hp (List.mem_map.2 ⟨_, hmem, e⟩)
      rw [List.foldl_cons, ih hlr hr hmem, stageWord, rd_wr_ne]
      rwa [regKey_of_keyUnit (hl p List.mem_cons_self)]

/-- The staged words of a unit. -/
def stagedOf (b : Block) (u : UnitId) : List (Nat × Word) := b.staged.filter fun p => keyUnit p.1 == some u

theorem stagedOf_unit {b : Block} {u : UnitId} : ∀ p ∈ b.stagedOf u, keyUnit p.1 = some u := fun _ hp =>
  beq_iff_eq.1 (List.mem_filter.1 hp).2

/-- The commits that wait have no part in it. -/
theorem applyStaged_commits (b : Block) (u : UnitId) (l : List Commit) :
    ({ b with commits := l } : Block).applyStaged u = { b.applyStaged u with commits := l } := by
  have key (ws : List (Nat × Word)) : ∀ t : Block,
      ws.foldl (stageWord u) { t with commits := l } = { ws.foldl (stageWord u) t with commits := l } := by
    induction ws with
    | nil => intro t; rfl
    | cons p r ih => exact fun t => ih (stageWord u t p)
  exact key (b.stagedOf u) { b with staged := b.staged.filter fun p => keyUnit p.1 != some u }

theorem rd_applyStaged (b : Block) {u : UnitId} (hu : u.exists? = true) (hkeys : (b.staged.map Prod.fst).Nodup) {reg : Nat}
    (hreg : reg < 0x4000) {w : Word} (hw : (regKey u reg, w) ∈ b.staged) :
    (b.applyStaged u).rd u reg = stageMerge u.ty reg (b.rd u reg) w.toNat % 2 ^ 32 :=
  rd_stageWords hreg (b.stagedOf u) stagedOf_unit (hkeys.sublist (List.filter_sublist.map _))
    (List.mem_filter.2 ⟨hw, by simp [keyUnit_regKey hu hreg]⟩) _

theorem rd_applyStaged_other (b : Block) {u : UnitId} {reg : Nat} (h : ∀ w, (regKey u reg, w) ∉ b.staged) :
    (b.applyStaged u).rd u reg = b.rd u reg :=
  rd_stageWords_other (b.stagedOf u) stagedOf_unit (fun w hw => h w (List.mem_filter.1 hw).1) _

/-! ## A line brings the one commit that pends into force -/

/-- A commit of one unit alone, none of whose lines has entered it. -/
def loneCommit (u : UnitId) (bnd : Boundary) (eff : Option (Nat × Nat)) (at_ : Nat) : Commit :=
  ⟨u, bnd, eff, [u], false, none, 0, at_⟩

theorem commitTrigger_fixed {b : Block} {u : UnitId} {bnd : Boundary} {e : Nat × Nat} {at_ : Nat} (hb : bnd ≠ .epoch)
    (hc : b.commits = [loneCommit u bnd (some e) at_]) (d : Decided) : b.commitTrigger d = b := by
  simp [commitTrigger, hc, loneCommit, takesTrigger, hb]

theorem commitTrigger_takes {b : Block} {u : UnitId} {bnd : Boundary} {at_ : Nat} (hb : bnd ≠ .epoch)
    (hc : b.commits = [loneCommit u bnd none at_]) {d : Decided} (hat : at_ < d.at_)
    (hon : onBoundary bnd d.pageLine d.first = true) : b.commitTrigger d =
      { b.commitFix u d.line d.page with commits := [loneCommit u bnd (some (d.line, d.page)) at_] } := by
  simp [commitTrigger, hc, loneCommit, takesTrigger, mayBeEff, hat, hon, hb, commitSet, commitFix]

/-- The units where new values in force start nothing more. -/
abbrev UnitId.quiet (u : UnitId) : Prop := u.ty ∉ [.device, .mbxBar2, .ctx, .camp, .sense, .web, .tango, .axis]

theorem committed_quiet {u : UnitId} (hu : UnitId.quiet u) (old s : Block) (line : Nat) : committed old s u line = s := by
  obtain ⟨t, i⟩ := u
  cases t <;> simp_all [UnitId.quiet, committed]

/-- The unit's staged values in force, and COMMIT_STAT of its commit done (R45). -/
def commitInForce (b : Block) (u : UnitId) : Block :=
  ((b.applyStaged u).set u F.COMMON.COMMIT_STAT_PENDING 0).set u F.COMMON.COMMIT_STAT_DONE 1

theorem commitDone_eq (b : Block) (c : Commit) (skew : Bool) (hdef : b.mbx.deferred = []) : b.commitDone c skew =
    { (b.set c.unit F.COMMON.COMMIT_STAT_PENDING 0).set c.unit F.COMMON.COMMIT_STAT_DONE 1 with
      commits := b.commits.erase c } := by
  simp only [commitDone, commitReply, set_mbx, hdef, List.filter_nil, List.foldl_nil]
  rfl

/-- The commit once it has reached a unit. -/
def reachedOf (c : Commit) (u : UnitId) : Commit := { c with todo := c.todo.erase u, entered := true }

/-- The unit's staged values in force, and what its registers held kept for older lines. -/
def unitReached (b : Block) (c : Commit) (u : UnitId) (past : List PastVals) : Block :=
  { (b.applyStaged u).commitSet c (reachedOf c u) with trig := { (b.applyStaged u).trig with past := past } }

/-- A commit that has reached its last unit is done, unless the members of a ring have still to answer (R45, R48). -/
theorem commitReach_eq (b : Block) (c : Commit) (u : UnitId) : ∃ past, b.commitReach c u =
    if ((c.todo.erase u).isEmpty && c.page.isNone) = true then (b.unitReached c u past).commitDone (reachedOf c u) false
    else b.unitReached c u past := by
  obtain ⟨v, bnd, eff, todo, entered, page, epoch, at_⟩ := c
  unfold commitReach
  by_cases hend : ((todo.erase u).isEmpty && page.isNone) = true
  · simp only [if_pos hend]
    cases atTrigger u <;> cases eff <;> exact ⟨_, rfl⟩
  · simp only [if_neg hend]
    cases atTrigger u <;> cases eff <;> exact ⟨_, rfl⟩

theorem applyStaged_kept (b : Block) (u : UnitId) : (b.applyStaged u).commits = b.commits ∧ (b.applyStaged u).trig = b.trig ∧
    (b.applyStaged u).mbx = b.mbx := by
  obtain ⟨r, hr⟩ := b.applyStaged_eq u
  rw [hr]
  exact ⟨rfl, rfl, rfl⟩

theorem commitReach_lone {b : Block} {u : UnitId} {bnd : Boundary} {e : Nat × Nat} {at_ : Nat} (hdef : b.mbx.deferred = [])
    (hc : b.commits = [loneCommit u bnd (some e) at_]) : ∃ past, b.commitReach (loneCommit u bnd (some e) at_) u =
      { b.commitInForce u with commits := [], trig := { b.trig with past := past } } := by
  set c := loneCommit u bnd (some e) at_ with hcdef
  have hlast : c.todo.erase u = [] := by simp [hcdef, loneCommit]
  obtain ⟨past, hreach⟩ := b.commitReach_eq c u
  obtain ⟨hcommits, htrig, hmbx⟩ := b.applyStaged_kept u
  refine ⟨past, ?_⟩
  have hgone : ((b.unitReached c u past).commits.erase (reachedOf c u)) = [] := by
    simp [unitReached, commitSet, hcommits, hc]
  rw [hreach, if_pos (by rw [hlast]; rfl), commitDone_eq _ _ _ (by rw [← hdef, ← hmbx]; rfl), ← htrig]
  exact congrArg (fun l => { b.commitInForce u with
    commits := l, trig := { (b.applyStaged u).trig with past := past } }) hgone

theorem lineEnters_lone {b : Block} {u : UnitId} (hu : UnitId.quiet u) {bnd : Boundary} {line page at_ : Nat}
    (hdef : b.mbx.deferred = []) (hc : b.commits = [loneCommit u bnd (some (line, page)) at_]) :
    ∃ past, b.lineEnters u line = { b.commitInForce u with commits := [], trig := { b.trig with past := past } } := by
  have hbrings : brings (loneCommit u bnd (some (line, page)) at_) u line = true := by
    simp [brings, loneCommit, lineFrom]
  have hent : b.enters u line = true := by rw [enters, hc]; simp [hbrings]
  have hreach : b.enterUnit u line = b.commitReach (loneCommit u bnd (some (line, page)) at_) u := by
    rw [enterUnit, hc]; simp [hbrings]
  rw [lineEnters, if_pos hent, committed_quiet hu, hreach]
  exact commitReach_lone hdef hc

/-- With nothing that pends, no group of the ring and no record that waits nothing is left to settle. -/
theorem commitsSettle_none {b : Block} (hc : b.commits = []) (hg : b.ring.groups = []) (hoff : ∀ x < 32, (b.ctx x).off = none) :
    b.commitsSettle = b := by
  have hctx : (List.range 32).foldl ctxOff b = b := by
    have key (l : List Nat) (hl : ∀ x ∈ l, (b.ctx x).off = none) : l.foldl ctxOff b = b := by
      induction l with
      | nil => rfl
      | cons x r ih =>
        have hx : b.ctxOff x = b := by rw [ctxOff, hl x List.mem_cons_self]
        rw [List.foldl_cons, hx, ih fun y hy => hl y (List.mem_cons_of_mem x hy)]
    exact key _ fun x hx => hoff x (List.mem_range.1 hx)
  rw [commitsSettle, hc]
  simp only [List.foldl_nil, hctx]
  rw [groupsReached, hc]
  exact groupsPoll_none hg

/-- With a line decided, or no page in progress, no page ends. -/
theorem pageOver_none {b : Block} (h : b.trig.decided ≠ [] ∨ b.refs.binds = []) : b.pageOver = b := by
  rcases h with h | h
  · simp [pageOver, h]
  · simp [pageOver, pageEnd, h]

/-- A line that is neither in flight nor due brings nothing. -/
theorem commitApply_noLine {b : Block} {line : Nat} (h : ∀ d ∈ b.dueLine.toList ++ b.trig.lines, d.line ≠ line)
    (u : UnitId) (page pageLine : Nat) (first : Bool) : b.commitApply u line page pageLine first = b := by
  have hnone : (b.dueLine.toList ++ b.trig.lines).find? (fun d => d.line == line) = none :=
    List.find?_eq_none.2 fun d hd => by simpa using h d hd
  rw [commitApply, hnone]

/-- The block in which the line enters: triggered now, where the unit is one that lines enter then. -/
def triggeredAt (b : Block) (u : UnitId) (d : Decided) : Block := if atTrigger u then b.commitTrigger d else b

theorem commitApply_line {b : Block} {line : Nat} {d : Decided}
    (hd : (b.dueLine.toList ++ b.trig.lines).find? (fun x => x.line == line) = some d) {u : UnitId}
    (hdoor : b.atDoor u line = true) :
    b.commitApply u line d.page d.pageLine d.first = ((b.triggeredAt u d).lineEnters u line).commitsSettle := by
  rw [commitApply, hd]
  exact if_pos ⟨rfl, rfl, rfl, hdoor⟩

/-- The registers a commit's unit has once the line has been triggered: COMMIT_LINE and COMMIT_PAGE show the line where it
has become the effective line with its trigger. -/
def triggeredRegs (b : Block) (u : UnitId) (eff : Option (Nat × Nat)) (d : Decided) : Block :=
  if eff = none then b.commitFix u d.line d.page else b

theorem triggeredAt_lone {b : Block} {u : UnitId} {bnd : Boundary} {eff : Option (Nat × Nat)} {at_ : Nat} {d : Decided}
    (hb : bnd ≠ .epoch) (hc : b.commits = [loneCommit u bnd eff at_])
    (hline : eff = some (d.line, d.page) ∨
      eff = none ∧ atTrigger u = true ∧ at_ < d.at_ ∧ onBoundary bnd d.pageLine d.first = true) :
    b.triggeredAt u d =
      { b.triggeredRegs u eff d with commits := [loneCommit u bnd (some (d.line, d.page)) at_] } := by
  rcases hline with rfl | ⟨rfl, htrig, hat, hon⟩
  · have hsame : b.triggeredAt u d = b := by
      unfold triggeredAt
      split
      · exact commitTrigger_fixed hb hc d
      · rfl
    rw [hsame, ← hc]
    rfl
  · rw [triggeredAt, if_pos htrig, commitTrigger_takes hb hc hat hon]
    rfl

theorem triggeredRegs_kept (b : Block) (u : UnitId) (eff : Option (Nat × Nat)) (d : Decided) :
    ∃ r, b.triggeredRegs u eff d = { b with regs := r } := by
  unfold triggeredRegs
  split <;> exact ⟨_, rfl⟩

theorem rd_triggeredRegs (b : Block) (u : UnitId) (eff : Option (Nat × Nat)) (d : Decided) {reg : Nat} (hreg : 0x100 ≤ reg) :
    (b.triggeredRegs u eff d).rd u reg = b.rd u reg := by
  unfold triggeredRegs
  split
  · refine rd_commitFix_ne b u d.line d.page fun o ho => regKey_off_ne u ?_
    simp only [List.mem_cons, List.not_mem_nil, or_false] at ho
    omega
  · rfl

/-- COMMIT_STAT alone is written after the staged values have come into force. -/
theorem rd_commitInForce (b : Block) (u : UnitId) {reg : Nat} (hreg : reg ≠ 0x48) :
    (b.commitInForce u).rd u reg = (b.applyStaged u).rd u reg := by
  have hne : regKey u reg ≠ regKey u 0x48 := regKey_off_ne u hreg
  rw [commitInForce, set, rd_setI_ne _ hne, set, rd_setI_ne _ hne]

theorem commitInForce_stat (b : Block) (u : UnitId) : (b.commitInForce u).getI u F.COMMON.COMMIT_STAT_PENDING 0 = 0 ∧
    (b.commitInForce u).getI u F.COMMON.COMMIT_STAT_DONE 0 = 1 := by
  refine ⟨?_, ?_⟩
  · rw [commitInForce, set, getI_setI_field _ _ _ (by decide), set, getI_setI_same _ _ _ _ _ (by decide)]; rfl
  · rw [commitInForce, set, getI_setI_same _ _ _ _ _ (by decide)]; rfl

theorem commitInForce_staged (b : Block) (u : UnitId) :
    (b.commitInForce u).staged = b.staged.filter fun p => keyUnit p.1 != some u := by
  obtain ⟨r, hr⟩ := b.applyStaged_eq u
  rw [commitInForce, hr]
  rfl

/-- What COMMIT_APPLY at its line makes of a block in which one commit of one quiet unit pends. -/
theorem commitReached_lone {b : Block} {u : UnitId} {bnd : Boundary} {eff : Option (Nat × Nat)} {at_ : Nat} {d : Decided}
    (hu : UnitId.quiet u) (hb : bnd ≠ .epoch) (hc : b.commits = [loneCommit u bnd eff at_])
    (hline : eff = some (d.line, d.page) ∨
      eff = none ∧ atTrigger u = true ∧ at_ < d.at_ ∧ onBoundary bnd d.pageLine d.first = true)
    (hd : (b.dueLine.toList ++ b.trig.lines).find? (fun x => x.line == d.line) = some d) (hdoor : b.atDoor u d.line = true)
    (hdef : b.mbx.deferred = []) (hg : b.ring.groups = []) (hoff : ∀ x < 32, (b.ctx x).off = none)
    (hpage : b.trig.decided ≠ [] ∨ b.refs.binds = []) :
    ∃ past, b.commitReached u d.line d.page d.pageLine d.first =
      { (b.triggeredRegs u eff d).commitInForce u with commits := [], trig := { b.trig with past := past } } := by
  obtain ⟨r, hr⟩ := b.triggeredRegs_kept u eff d
  obtain ⟨past, hpast⟩ := lineEnters_lone (b := { b.triggeredRegs u eff d with
    commits := [loneCommit u bnd (some (d.line, d.page)) at_] }) hu (by rw [hr]; exact hdef) rfl
  have htrig : (b.triggeredRegs u eff d).trig = b.trig := by rw [hr]
  obtain ⟨r', hr'⟩ := (b.triggeredRegs u eff d).applyStaged_eq u
  have hkept : ∃ r'' st, (b.triggeredRegs u eff d).commitInForce u = { b with regs := r'', staged := st } := by
    rw [commitInForce, hr', hr]
    exact ⟨_, _, rfl⟩
  obtain ⟨r'', st, hforce⟩ := hkept
  have henters : (b.triggeredAt u d).lineEnters u d.line =
      { (b.triggeredRegs u eff d).commitInForce u with commits := [], trig := { b.trig with past := past } } := by
    rw [triggeredAt_lone hb hc hline, hpast, commitInForce, applyStaged_commits, ← htrig]
    rfl
  refine ⟨past, ?_⟩
  rw [commitReached, commitApply_line hd hdoor, henters, commitsSettle_none rfl, pageOver_none]
  · rw [hforce]; exact hpage
  · rw [hforce]; exact hg
  · rw [hforce]; exact hoff

end Block

/-- Settles O17: the line fixes the commit where it has none, enters the unit, and nothing is left to settle after it. -/
theorem commitTakesEffectAtItsLine : Obligations.CommitTakesEffectAtItsLine := by
  intro s dt u line page pageLine first hup
  dsimp only
  intro hpage
  refine ⟨fun bnd eff d at_ hex hquiet hb hc heff hd hdp hdl hdf hdoor hdef hg hoff hkeys => ?effect, fun hno => ?noLine⟩
  case noLine =>
    exact hup.exec_next (exec_commitApply ..) (by
      rw [Block.commitReached, Block.commitApply_noLine hno, Block.pageOver_none hpage])
  case effect =>
    obtain rfl : d.line = line := by simpa using List.find?_some hd
    subst hdp hdl hdf
    obtain ⟨past, hb'⟩ := Block.commitReached_lone hquiet hb hc heff hd hdoor hdef hg hoff hpage
    set t := (s.now dt).triggeredRegs u eff d with ht
    obtain ⟨hpend, hdone⟩ := t.commitInForce_stat u
    have hstaged : t.staged = (s.now dt).staged := by
      obtain ⟨r, hr⟩ := (s.now dt).triggeredRegs_kept u eff d
      rw [ht, hr]
    refine ⟨_, hup.exec_next (exec_commitApply ..) hb', rfl, hpend, hdone, ?_, fun reg w hlo hhi hw => ?_,
      fun reg hlo hhi hno => ?_, fun hnone hno => ?_⟩
    · rw [← hstaged]
      exact t.commitInForce_staged u
    · refine (t.rd_commitInForce u (by omega)).trans ?_
      rw [Block.rd_applyStaged t hex (by rw [hstaged]; exact hkeys) (by omega) (by rw [hstaged]; exact hw),
        Block.rd_triggeredRegs _ _ _ _ hlo]
    · refine (t.rd_commitInForce u (by omega)).trans ?_
      rw [Block.rd_applyStaged_other t (by rw [hstaged]; exact hno), Block.rd_triggeredRegs _ _ _ _ hlo]
    · have hfix : t = (s.now dt).commitFix u d.line d.page := if_pos hnone
      have hshown {reg : Nat} (hreg : reg ≠ 0x48) (h : ∀ w, (regKey u reg, w) ∉ (s.now dt).staged) :
          (t.commitInForce u).rd u reg = ((s.now dt).commitFix u d.line d.page).rd u reg := by
        rw [t.rd_commitInForce u hreg, Block.rd_applyStaged_other t (by rw [hstaged]; exact h), hfix]
      obtain ⟨hlo, hhi, hpg⟩ := (s.now dt).rd_commitFix u d.line d.page
      exact ⟨(hshown (by decide) fun w => (hno w).1).trans hlo, (hshown (by decide) fun w => (hno w).2.1).trans hhi,
        (hshown (by decide) fun w => (hno w).2.2).trans hpg⟩

end Sys2Proof.Machine

/-! # Lines on their way to the stitch -/

namespace Sys2Proof.Machine
namespace Block

/-! ## What lines on their way are made of, and the work that leaves it as it was -/

/-- The lines in flight, the governor's rows, the stitch and the contexts. -/
def lineWay (b : Block) : List Decided × GovSt × StitchSt × List CtxSt := (b.trig.lines, b.gov, b.stitch, b.ctxs)

theorem lineWay_eq_iff {s t : Block} : t.lineWay = s.lineWay ↔
    t.trig.lines = s.trig.lines ∧ t.gov = s.gov ∧ t.stitch = s.stitch ∧ t.ctxs = s.ctxs := by
  simp [lineWay]

@[simp] theorem incI_lineWay (b : Block) (u : UnitId) (f : Field) (i : Nat) : (b.incI u f i).lineWay = b.lineWay := rfl
@[simp] theorem emit_lineWay (b : Block) (o : Output) : (b.emit o).lineWay = b.lineWay := rfl

@[simp] theorem setBitI_lineWay (b : Block) (u : UnitId) (f : Field) (i n : Nat) :
    (b.setBitI u f i n).lineWay = b.lineWay := by simp [lineWay]

@[simp] theorem msix_lineWay (b : Block) (v : Nat) : (b.msix v).lineWay = b.lineWay := by simp [lineWay]

@[simp] theorem hostIrq_lineWay (b : Block) (f : Field) : (b.hostIrq f).lineWay = b.lineWay := by simp [lineWay]

/-- Stores to the host. -/
theorem pumpOut_lineWay (n : Nat) (b : Block) : (b.pumpOut n).lineWay = b.lineWay := by
  induction n generalizing b with
  | zero => rfl
  | succ n ih =>
    unfold pumpOut
    split
    · rfl
    · split
      · rfl
      · dsimp only
        rw [ih]
        split
        · rw [msix_lineWay, setBitI_lineWay]; rfl
        · rw [setBitI_lineWay]; rfl
    · split
      · rfl
      · dsimp only
        rw [ih, msix_lineWay]; rfl

theorem replyFull_lineWay (b : Block) (typ tag result second detail : Nat) (extra : List Nat) :
    (b.replyFull typ tag result second detail extra).lineWay = b.lineWay := by
  have hsend (t : Block) : (t.send (typ + 0x80) tag (replyWord result second detail :: extra)).lineWay = t.lineWay :=
    pumpOut_lineWay _ _
  unfold replyFull
  dsimp only
  rw [hsend]
  split <;> rfl

/-- Replies that waited. -/
theorem replyDeferred_lineWay (b : Block) (d : Deferred) (result second detail : Nat) (extra : List Nat) :
    (b.replyDeferred d result second detail extra).lineWay = b.lineWay := by
  unfold replyDeferred answer
  dsimp only
  split
  · rfl
  · split
    · rw [replyFull_lineWay]; rfl
    · rfl

theorem commitDone_lineWay (b : Block) (c : Commit) (skew : Bool) : (b.commitDone c skew).lineWay = b.lineWay := by
  unfold commitDone commitReply
  dsimp only
  rw [foldl_keeps lineWay]
  · rfl
  · intro d _ t
    exact (replyDeferred_lineWay ..)

theorem applyStaged_lineWay (b : Block) (u : UnitId) : (b.applyStaged u).lineWay = b.lineWay := by
  obtain ⟨r, hr⟩ := b.applyStaged_eq u
  rw [hr]
  rfl

/-- Commits that a line brings into force at a unit. -/
theorem commitReach_lineWay (b : Block) (c : Commit) (u : UnitId) : (b.commitReach c u).lineWay = b.lineWay := by
  obtain ⟨past, hreach⟩ := b.commitReach_eq c u
  have hset : (b.unitReached c u past).lineWay = b.lineWay := b.applyStaged_lineWay u
  rw [hreach]
  split
  · exact (commitDone_lineWay ..).trans hset
  · exact hset

theorem enterUnit_lineWay (b : Block) (u : UnitId) (line : Nat) : (b.enterUnit u line).lineWay = b.lineWay :=
  foldl_keeps lineWay _ (fun c _ t => by
    split
    · exact t.commitReach_lineWay c u
    · rfl) b

theorem noteIn_lineWay (b : Block) (u : UnitId) (line : Nat) : (b.noteIn u line).lineWay = b.lineWay := by
  unfold noteIn
  dsimp only
  split <;> split <;> rfl

theorem lineInto_lineWay (b : Block) (u : UnitId) (line : Nat) : (b.lineInto u line).lineWay = b.lineWay :=
  (noteIn_lineWay ..).trans (enterUnit_lineWay ..)

theorem ctx_of_way {s t : Block} (h : t.lineWay = s.lineWay) (x : Nat) : t.ctx x = s.ctx x := by
  rw [ctx, (lineWay_eq_iff.1 h).2.2.2, ctx]

theorem lineInto_stitch (b : Block) (u : UnitId) (line : Nat) : (b.lineInto u line).stitch = b.stitch :=
  (lineWay_eq_iff.1 (b.lineInto_lineWay u line)).2.2.1

/-! ## Records to the host -/

@[simp] theorem access_lineWay (b : Block) (n : Nat) (k : DmaKind) (space addr len : Nat) (data : List Nat) (err : Bool) :
    (b.access n k space addr len data err).lineWay = b.lineWay := by
  unfold access tagsUpdate
  dsimp only
  split <;> rfl

@[simp] theorem setCount_lineWay (b : Block) (n v : Nat) : (b.setCount n v).lineWay = b.lineWay := by
  unfold setCount
  split <;> rfl

theorem issueHost_lineWay (n fuel : Nat) (b : Block) : (b.issueHost n fuel).lineWay = b.lineWay := by
  induction fuel generalizing b with
  | zero => rfl
  | succ fuel ih =>
    unfold issueHost
    dsimp only
    split
    · split
      · rfl
      · split
        · rfl
        · rw [ih, access_lineWay, emit_lineWay, setCount_lineWay]; rfl
    · rfl

theorem streamFeed_lineWay (i fuel : Nat) (b : Block) : (b.streamFeed i fuel).lineWay = b.lineWay := by
  induction fuel generalizing b with
  | zero => rfl
  | succ fuel ih =>
    unfold streamFeed
    dsimp only
    split
    · split
      · rfl
      · split
        · split
          · rw [ih, incI_lineWay]; rfl
          · split
            · rfl
            · rw [ih, issueHost_lineWay]; rfl
        · rfl
    · rfl

theorem classB_lineWay (b : Block) (i : Nat) (r : Rec) : (b.classB i r).lineWay = b.lineWay := by
  unfold classB pushStream
  dsimp only
  split
  · rfl
  · split
    · rw [hostIrq_lineWay, incI_lineWay]
    · rw [streamFeed_lineWay]; rfl

/-! ## A context takes a line -/

/-- As the way of the lines, but of the contexts only how many they are. -/
def wayAround (b : Block) : List Decided × GovSt × StitchSt × Nat := (b.trig.lines, b.gov, b.stitch, b.ctxs.length)

theorem wayAround_of_way {s t : Block} (h : t.lineWay = s.lineWay) : t.wayAround = s.wayAround := by
  obtain ⟨hlines, hgov, hstitch, hctxs⟩ := lineWay_eq_iff.1 h
  simp [wayAround, hlines, hgov, hstitch, hctxs]

theorem length_upd {α : Type} (f : α → α) : ∀ (l : List α) (i : Nat), (upd l i f).length = l.length
  | [], _ => rfl
  | _ :: _, 0 => rfl
  | _ :: r, i + 1 => by rw [upd, List.length_cons, length_upd f r i, List.length_cons]

/-- What a change of an element keeps of it. -/
theorem nth_upd_keeps {α β : Type} (g : α → β) {f : α → α} (hf : ∀ a, g (f a) = g a) (d : α) :
    ∀ (l : List α) (i : Nat), g (nth (upd l i f) i d) = g (nth l i d)
  | [], _ => rfl
  | a :: _, 0 => hf a
  | _ :: r, i + 1 => nth_upd_keeps g hf d r i

theorem setCtx_around (b : Block) (x : Nat) (f : CtxSt → CtxSt) : (b.setCtx x f).wayAround = b.wayAround := by
  simp [wayAround, setCtx, length_upd]

theorem setCtx_nextLine (b : Block) (x : Nat) {f : CtxSt → CtxSt} (hf : ∀ c, (f c).nextLine = c.nextLine) :
    ((b.setCtx x f).ctx x).nextLine = (b.ctx x).nextLine := nth_upd_keeps CtxSt.nextLine hf _ b.ctxs x

theorem ctx_setCtx (b : Block) {x : Nat} (hx : x < b.ctxs.length) (f : CtxSt → CtxSt) : (b.setCtx x f).ctx x = f (b.ctx x) :=
  nth_upd_same f _ b.ctxs x hx

theorem levelEmit_around (b : Block) (x : Nat) (r : LevelRec) : (b.levelEmit x r).wayAround = b.wayAround := by
  unfold levelEmit
  dsimp only
  split
  · rw [wayAround_of_way (classB_lineWay ..)]
    exact b.setCtx_around x _
  · rfl

theorem levelEmit_nextLine (b : Block) (x : Nat) (r : LevelRec) :
    ((b.levelEmit x r).ctx x).nextLine = (b.ctx x).nextLine := by
  unfold levelEmit
  dsimp only
  split
  · rw [ctx_of_way (classB_lineWay ..)]
    exact setCtx_nextLine b x fun _ => rfl
  · rfl

theorem levelClose_around (b : Block) (x flag : Nat) : (b.levelClose x flag).wayAround = b.wayAround := by
  unfold levelClose
  split
  · rfl
  · exact (levelEmit_around ..).trans (setCtx_around ..)

theorem levelClose_nextLine (b : Block) (x flag : Nat) : ((b.levelClose x flag).ctx x).nextLine = (b.ctx x).nextLine := by
  unfold levelClose
  split
  · rfl
  · exact (levelEmit_nextLine ..).trans (setCtx_nextLine b x fun _ => rfl)

theorem ctxOff_around (b : Block) (x : Nat) : (b.ctxOff x).wayAround = b.wayAround := by
  unfold ctxOff
  split
  · rfl
  · split
    · rfl
    · exact (setCtx_around ..).trans (levelClose_around ..)

/-- A record that EN = 0 closes leaves the counter of the lines taken. -/
theorem ctxOff_nextLine (b : Block) (x : Nat) : ((b.ctxOff x).ctx x).nextLine = (b.ctx x).nextLine := by
  unfold ctxOff
  split
  · rfl
  · split
    · rfl
    · exact (setCtx_nextLine (b.levelClose x 1) x (f := fun c => { c with off := none }) fun _ => rfl).trans
        (levelClose_nextLine ..)

theorem ctxCommitted_around (old b : Block) (x line : Nat) : (ctxCommitted old b x line).wayAround = b.wayAround := by
  have hoff (t : Block) (f : CtxSt → CtxSt) : ((t.setCtx x f).ctxOff x).wayAround = t.wayAround :=
    (ctxOff_around ..).trans (setCtx_around ..)
  unfold ctxCommitted
  dsimp only
  split <;> split <;> simp only [setCtx_around, hoff]

theorem enterCtx_around (b : Block) (x line : Nat) : (b.enterCtx x line).wayAround = b.wayAround := by
  unfold enterCtx
  split
  · exact (ctxCommitted_around ..).trans (wayAround_of_way (enterUnit_lineWay ..))
  · rfl

/-- A line taken by a context: the values it brings are in force, the line has entered, and the context's counter has
passed it. -/
def lineTaken (b : Block) (x line : Nat) : Block :=
  ((((b.enterCtx x line).noteIn (uCtx x) line).setCtx x fun c => { c with nextLine := line + 1 }).ctxOff x)

theorem lineTaken_around (b : Block) (x line : Nat) : (b.lineTaken x line).wayAround = b.wayAround := by
  rw [lineTaken, ctxOff_around, setCtx_around, wayAround_of_way (noteIn_lineWay _ _ _), enterCtx_around]

theorem length_of_around {s t : Block} (h : t.wayAround = s.wayAround) : t.ctxs.length = s.ctxs.length := by
  simp only [wayAround, Prod.mk.injEq] at h
  exact h.2.2.2

theorem lineTaken_nextLine (b : Block) {x : Nat} (hx : x < b.ctxs.length) (line : Nat) :
    ((b.lineTaken x line).ctx x).nextLine = line + 1 := by
  have hlen : ((b.enterCtx x line).noteIn (uCtx x) line).ctxs.length = b.ctxs.length := by
    rw [length_of_around (wayAround_of_way (noteIn_lineWay _ _ _)), length_of_around (enterCtx_around b x line)]
  rw [lineTaken, ctxOff_nextLine, ctx_setCtx _ (hlen ▸ hx)]

/-- The strip's longest wait noted (R298). -/
def waitNoted (b : Block) (k w : Nat) : Block :=
  if b.get (uStrip k) F.STRIP.WAIT_MAX_NS < w then b.set (uStrip k) F.STRIP.WAIT_MAX_NS w else b

theorem waitNoted_lineWay (b : Block) (k w : Nat) : (b.waitNoted k w).lineWay = b.lineWay := by
  unfold waitNoted
  split <;> rfl

theorem stripLine_none {b : Block} {k : Nat} (h : b.nextReady k = none) : b.stripLine k = b := by rw [stripLine, h]

theorem stripLine_some {b : Block} {k x : Nat} {l : CamLine} {d : Decided} (h : b.nextReady k = some (x, l))
    (hd : b.lineInfo l.line = some d) (hout : b.keptOut l.line = false) :
    ∃ w, b.stripLine k = ((b.lineTaken x l.line).waitNoted k w).atLine (uCtx x) l.line fun t => t.frontLine x l d := by
  have hway := b.lineTaken_around x l.line
  simp only [wayAround, Prod.mk.injEq] at hway
  obtain ⟨hlines, hgov, -, -⟩ := hway
  have hinfo : (b.lineTaken x l.line).lineInfo l.line = some d := by rw [lineInfo, hlines]; exact hd
  have hkept : (b.lineTaken x l.line).keptOut l.line = false := by rw [keptOut, rowOf, hgov]; exact hout
  refine ⟨Nat.min 65535 ((b.lineTaken x l.line).since l.t0), ?_⟩
  rw [stripLine, h]
  unfold lineTaken at hinfo hkept ⊢
  simp only [hinfo, hkept, Bool.false_eq_true, if_false, waitNoted]

/-- The element a search from the left picks is one of the list. -/
theorem foldl_pick_mem {α : Type} (f : Option α → α → Option α) (hf : ∀ o a, f o a = o ∨ f o a = some a)
    (l : List α) :
    ∀ (o : Option α) (p : α), l.foldl f o = some p → o = some p ∨ p ∈ l := by
  induction l with
  | nil => exact fun o p h => .inl h
  | cons a r ih =>
    intro o p h
    rcases ih _ p h with h1 | h1
    · rcases hf o a with h2 | h2
      · exact .inl (h2 ▸ h1)
      · exact .inr (by simp [Option.some.inj (h2 ▸ h1)])
    · exact .inr (List.mem_cons_of_mem a h1)

/-- The line a strip takes next is one of its contexts'. -/
theorem nextReady_ctx {b : Block} {k x : Nat} {l : CamLine} (h : b.nextReady k = some (x, l)) : x < 4 * k + 4 := by
  refine (foldl_pick_mem _ (fun o p => ?_) _ none (x, l) h).elim nofun fun hmem => ?_
  · cases o with
    | none => exact .inr rfl
    | some q =>
      dsimp only
      split
      · exact .inr rfl
      · exact .inl rfl
  · obtain ⟨j, hj, hp⟩ := List.mem_filterMap.1 hmem
    obtain ⟨l', -, hx⟩ := Option.map_eq_some_iff.1 hp
    have := List.mem_range.1 hj
    cases hx
    omega

end Block
end Sys2Proof.Machine

namespace Sys2Proof.Machine
namespace Block

/-! ## A line joins its web line -/

theorem findK_bindK {α : Type} (k : Nat) (v : α) : ∀ l : List (Nat × α), findK k (bindK k v l) = some v
  | [] => if_pos rfl
  | (j, w) :: r => by
    rw [bindK]
    split
    · exact if_pos rfl
    · next h => rw [findK, if_neg h, findK_bindK k v r]

/-- A FLAGS bit of the stitch raised and an event counted. -/
theorem flag_inc_stitch (b : Block) {f g : Field} (hf : f.lo ≤ f.hi ∧ f.hi < 32) (hw : f.width = 1) (ho : f.at 0 < 0x4000)
    (hg : g.lo ≤ g.hi ∧ g.hi < 32) (ho' : g.at 0 < 0x4000) (hfg : apart uStitch f 0 uStitch g 0 = true)
    (hgf : apart uStitch g 0 uStitch f 0 = true) :
    ((b.flag uStitch f).inc uStitch g).get uStitch f = 1 ∧
      ((b.flag uStitch f).inc uStitch g).get uStitch g = satAdd g.max (b.get uStitch g) 1 := by
  constructor
  · exact (getI_setI_apart _ hgf _).trans (on_flag b (by decide) (by decide) (by decide) hf hw ho)
  · refine (getI_incI _ uStitch hg 0).trans ?_
    rw [getI_flag b (by decide) (by decide) (by decide) ho' hfg, get]

theorem stray_spec (b : Block) : b.stray.stitch = b.stitch ∧ b.stray.ctxs = b.ctxs ∧
    b.stray.get uStitch F.STITCH.FLAGS_STRAY = 1 ∧
    b.stray.get uStitch F.STITCH.CNT_STRAY_COUNT =
      satAdd F.STITCH.CNT_STRAY_COUNT.max (b.get uStitch F.STITCH.CNT_STRAY_COUNT) 1 :=
  ⟨flag_stitch .., flag_ctxs .., flag_inc_stitch b (by decide) (by decide) (by decide) (by decide) (by decide)
    (by decide) (by decide)⟩

/-- The context has given its oldest line to the stitch. -/
def taken (b : Block) (x : Nat) (rest : List CtxLine) : Block := b.setCtx x fun c => { c with outbox := rest }

theorem ctx_withStitch (b : Block) (st : StitchSt) (x : Nat) : { b with stitch := st }.ctx x = b.ctx x := rfl

theorem taken_outbox (b : Block) {x : Nat} (hx : x < b.ctxs.length) (rest : List CtxLine) :
    ((b.taken x rest).ctx x).outbox = rest := by rw [taken, ctx_setCtx b hx]

theorem stitchDeliver_stray {b : Block} {x : Nat} {l : CtxLine} {rest : List CtxLine} (ho : (b.ctx x).outbox = l :: rest)
    (h : ∀ e, b.stitch.lines.find? (fun e => e.line == l.line) = some e → b.awaited e x = false) :
    b.stitchDeliver x = (b.taken x rest).stray := by
  rw [stitchDeliver, ho]
  cases hfind : b.stitch.lines.find? (fun e => e.line == l.line) with
  | none => simp only [hfind, taken]
  | some e => simp only [hfind, taken, h e hfind, Bool.not_false, Bool.true_or, if_true]

/-- The line in assembly with context x's line. -/
def joined (b : Block) (x : Nat) (rest : List CtxLine) (l : CtxLine) (e : StitchLine) : StitchLine :=
  ((b.taken x rest).lineInto uStitch l.line).noteDone { e with got := bindK x l e.got }

theorem noteDone_line (b : Block) (e : StitchLine) : (b.noteDone e).line = e.line := by
  unfold noteDone
  split <;> rfl

theorem noteDone_got (b : Block) (e : StitchLine) : (b.noteDone e).got = e.got := by
  unfold noteDone
  split <;> rfl

theorem stitchDeliver_awaited {b : Block} {x : Nat} {l : CtxLine} {rest : List CtxLine} {e : StitchLine}
    (ho : (b.ctx x).outbox = l :: rest) (hfind : b.stitch.lines.find? (fun e => e.line == l.line) = some e)
    (ha : b.awaited e x = true) (hnew : findK x e.got = none) (hroom : e.got ≠ [] ∨ b.stitchOpen < 8) :
    let t := (b.taken x rest).lineInto uStitch l.line
    b.stitchDeliver x = { t with stitch := { t.stitch with
      lines := t.stitch.lines.map fun y => if y.line = l.line then b.joined x rest l e else y } } := by
  have hopen : (e.got.isEmpty && decide (8 ≤ b.stitchOpen)) = false := by
    rcases hroom with hgot | hfew
    · simp [hgot]
    · simp [hfew]
  rw [stitchDeliver, ho]
  simp only [hfind, ha, hnew, hopen, taken, joined, Bool.not_true, Option.isSome_none, Bool.or_self, Bool.false_eq_true,
    if_false]

/-! ## A complete line leaves -/

/-- What the stitch still has to assemble, and what it has given to Tango. -/
def lineOut (b : Block) : List StitchLine × Nat × List WebLine := (b.stitch.lines, b.stitch.nextOut, b.stitch.outq)

theorem lineOut_of_stitch {s t : Block} (h : t.stitch = s.stitch) : t.lineOut = s.lineOut := by rw [lineOut, h, lineOut]

theorem seamStore_stitch (b : Block) (k : Nat) (a : SeamAcc) : (b.seamStore k a).stitch = b.stitch := by
  unfold seamStore
  dsimp only
  split <;> rfl

theorem seamLine_lineOut (b : Block) (page row : Nat) (l : List (Nat × List (LabPx × LabPx))) :
    (b.seamLine page row l).lineOut = b.lineOut := by
  have hold (old : List (Nat × SeamAcc)) : (old.foldl (fun t p => t.seamStore p.1 p.2) b).lineOut = b.lineOut :=
    foldl_keeps lineOut old (fun p _ t => lineOut_of_stitch (t.seamStore_stitch p.1 p.2)) b
  exact hold _

theorem calSeam_stitch (b : Block) (k epoch : Nat) (use : Bool) (d : Int) (a n : Nat) :
    (b.calSeam k epoch use d a n).stitch = b.stitch := by
  unfold calSeam
  split
  · split
    · split
      · rfl
      · split <;> rfl
    · rfl
  · rfl

theorem pumpLink_stitch (l fuel : Nat) (b : Block) : (b.pumpLink l fuel).stitch = b.stitch := by
  induction fuel generalizing b with
  | zero => rfl
  | succ fuel ih =>
    unfold pumpLink
    dsimp only
    split
    · rfl
    · split
      · rfl
      · rw [ih]; rfl

theorem linkSend_stitch (b : Block) (l : Nat) (m : RingMsg) : (b.linkSend l m).stitch = b.stitch := by
  unfold linkSend linkPut
  split
  · rfl
  · split
    · exact pumpLink_stitch ..
    · rfl

theorem overlapSend_stitch (b : Block) (line : Nat) (cols : List LabPx) : (b.overlapSend line cols).stitch = b.stitch := by
  unfold overlapSend
  dsimp only
  split
  · exact linkSend_stitch ..
  · rfl

/-- The oldest line has left the stitch for Tango, with its line number and its page. -/
def HasLeft (b : Block) (e : StitchLine) (rest : List StitchLine) (v : List StitchLine × Nat × List WebLine) : Prop :=
  ∃ w : WebLine, v = (rest, e.line + 1, b.stitch.outq ++ [w]) ∧ w.line = e.line ∧ w.page = e.page

theorem hasLeft_of_stitch {b t : Block} (h : t.stitch = b.stitch) {e : StitchLine} {rest : List StitchLine}
    {v : List StitchLine × Nat × List WebLine} (hv : t.HasLeft e rest v) : b.HasLeft e rest v := by
  rw [HasLeft, ← h]
  exact hv

theorem lineLeaves_lineOut (e : StitchLine) (rest : List StitchLine) (b : Block) :
    b.HasLeft e rest (lineLeaves e rest b).lineOut := by
  have hgap (c : Prop) [Decidable c] (t : Block) :
      (if c then (t.flag uStitch F.STITCH.FLAGS_GAP).inc uStitch F.STITCH.CNT_GAP_COUNT else t).lineOut = t.lineOut := by
    split
    · exact lineOut_of_stitch ((inc_stitch ..).trans (flag_stitch ..))
    · rfl
  unfold HasLeft lineLeaves
  dsimp only
  rw [lineOut_of_stitch (overlapSend_stitch _ _ _), foldl_keeps lineOut _ fun p _ t => lineOut_of_stitch (calSeam_stitch ..),
    seamLine_lineOut, hgap, lineOut_of_stitch (inc_stitch _ _ _)]
  exact ⟨_, rfl, rfl, rfl⟩

theorem wrAll_stitch (b : Block) (u : UnitId) (l : List (Nat × Nat)) (v : Nat × Nat → Nat) :
    (l.foldl (fun t w => t.wr u w.1 (v w)) b).stitch = b.stitch :=
  foldl_keeps stitch (f := fun t w => t.wr u w.1 (v w)) l (fun _ _ _ => rfl) b

theorem valsAt_stitch (b : Block) (u : UnitId) (line : Nat) : (b.valsAt u line).stitch = b.stitch := by
  unfold valsAt
  split
  · exact (lineWay_eq_iff.1 (b.applyStaged_lineWay u)).2.2.1
  · exact foldl_keeps stitch _ (fun p _ t => wrAll_stitch t u p.words Prod.snd) b

/-- What work on a line leaves to the stitch, it leaves by the values in force for the line. -/
theorem atLine_lineOut (b : Block) (u : UnitId) (line : Nat) {f : Block → Block}
    {P : List StitchLine × Nat × List WebLine → Prop} (hf : ∀ t : Block, t.stitch = b.stitch → P (f t).lineOut) :
    P (b.atLine u line f).lineOut := by
  unfold atLine
  split
  · exact hf b rfl
  · rw [lineOut_of_stitch (wrAll_stitch _ u _ fun w => b.rd u w.1)]
    exact hf _ (b.valsAt_stitch u line)

theorem stitchLineOut_incomplete {b : Block} {e : StitchLine} {rest : List StitchLine} (h : b.stitch.lines = e :: rest)
    (hopen : b.lineComplete e = false) : b.stitchLineOut = b := by
  rw [stitchLineOut, h]
  exact if_neg (by simp [hopen])

theorem stitchLineOut_complete {b : Block} {e : StitchLine} {rest : List StitchLine} (h : b.stitch.lines = e :: rest)
    (hcomplete : b.lineComplete e = true) : b.HasLeft e rest b.stitchLineOut.lineOut := by
  have hout : b.stitchLineOut = (b.lineInto uStitch e.line).atLine uStitch e.line (lineLeaves e rest) := by
    rw [stitchLineOut, h]
    exact if_pos hcomplete
  rw [hout]
  exact atLine_lineOut (P := b.HasLeft e rest) _ _ _ fun t ht =>
    hasLeft_of_stitch (ht.trans (lineInto_stitch ..)) (lineLeaves_lineOut e rest t)

/-! ## The overlap of the ring neighbour -/

/-- An OVERLAP on a used link is taken here (R562). -/
theorem typedIn_overlap {b : Block} {l src : Nat} (hl : l < 3) (hup : b.linkUp l = true) (hused : (b.link l).used = true)
    (hsrc : src < 0x4000) (dest : Nat) (body : List Nat) : b.typedIn l 0x11 src dest body = b.overlapMsg l src body := by
  have htakes : b.linkTakes l 0x11 = true := by simp [linkTakes, hl, hup, hused]
  have hpass (m : RingMsg) (hm : m.typ = 0x11) : b.passage l m = ⟨true, [], false⟩ := by simp [passage, hm]
  simp only [typedIn, messageIn, htakes, hpass, deliver, ringClass, Nat.mod_eq_of_lt hsrc]
  rfl

/-- The columns of an OVERLAP message (R565). -/
def overlapCols (body : List Nat) : List LabPx := (List.range (leAt body 6 2)).map fun i =>
  let f := leAt body (16 + 4 * leAt body 6 2 + i / 4) 1
  labOfWord (leAt body (16 + 4 * i) 4) (bit f (2 * (i % 4))) (bit f (2 * (i % 4) + 1))

theorem length_overlapCols (body : List Nat) : (overlapCols body).length = leAt body 6 2 := by simp [overlapCols]

/-- A line of the stitch with the columns of an OVERLAP message, when they are its own. -/
def withOverlap (body : List Nat) (e : StitchLine) : StitchLine :=
  if e.line = leAt body 0 6 && e.ovl.isNone && !e.gaveUp then { e with ovl := some (overlapCols body) } else e

theorem overlapMsg_neighbour {b : Block} {l src : Nat} {body : List Nat} (hl : l < 2) (hring : src / 32 = b.devAddr / 32)
    (hpos : b.ringPos = (if l = 0 then src % 32 + 1 else src % 32 + b.ringSize - 1) % b.ringSize)
    (hport : (b.valsAt uStitch (leAt body 0 6)).get uStitch F.STITCH.RING_CFG_LEFT_PORT = l + 1)
    (hnext : b.stitch.nextOut ≤ leAt body 0 6) :
    b.overlapMsg l src body = { b with stitch := { b.stitch with lines := b.stitch.lines.map (withOverlap body) } } := by
  have hexp : b.ringPos = if l = 0 then (src % 32 + 1) % b.ringSize else (src % 32 + b.ringSize - 1) % b.ringSize := by
    rw [hpos]
    split <;> rfl
  have hsame : ¬ (src / 32 ≠ b.devAddr / 32 ∨ b.ringPos ≠
      (if l = 0 then (src % 32 + 1) % b.ringSize else (src % 32 + b.ringSize - 1) % b.ringSize) ∨ 1 < l) := by
    simp only [hring, ← hexp, ne_eq, not_true_eq_false, false_or]
    omega
  unfold overlapMsg
  dsimp only
  rw [if_neg hsame, if_neg (not_not.2 hport), if_neg (Nat.not_lt.2 hnext)]
  rfl

/-! ## The overlap that does not come -/

theorem overlapTimeout_due {b : Block} {e : StitchLine} (h : b.stitch.lines.find? b.overlapDue = some e) :
    b.overlapTimeout.stitch.lines = b.stitch.lines.map (fun y => if y.line = e.line then { y with gaveUp := true } else y) ∧
      b.overlapTimeout.get uStitch F.STITCH.FLAGS_SEAM_MISS = 1 ∧ b.overlapTimeout.get uStitch F.STITCH.CNT_SEAM_MISS_COUNT =
        satAdd F.STITCH.CNT_SEAM_MISS_COUNT.max (b.get uStitch F.STITCH.CNT_SEAM_MISS_COUNT) 1 := by
  rw [overlapTimeout, h]
  refine ⟨?_, flag_inc_stitch _ (by decide) (by decide) (by decide) (by decide) (by decide) (by decide) (by decide)⟩
  dsimp only
  rw [inc_stitch, flag_stitch]

end Block

/-- Settles O46, command by command: each lets the commits and the tags settle on a block of which only the lines on their
way, the counter of a context and the flags of the stitch are told. -/
theorem linesReachTheStitcher : Obligations.LinesReachTheStitcher := by
  unfold Obligations.LinesReachTheStitcher
  intro s dt hup hctxs
  refine ⟨fun k hcore hk => ⟨?stripIdle, ?stripLine⟩, fun x l rest hx ho => ⟨?stray, ?awaited⟩,
    fun e rest hlines => ⟨?complete, ?incomplete⟩, ?overlap, ?timeout⟩
  case stripIdle =>
    intro hnone
    rw [exec_stripLine, State.liveOn_runs hup hcore.2, Block.stripLine_none hnone]
  case stripLine =>
    intro x l d hready hinfo hout
    obtain ⟨w, hw⟩ := Block.stripLine_some hready hinfo hout
    have hx : x < (s.now dt).ctxs.length := by
      have := Block.nextReady_ctx hready
      omega
    refine ⟨((s.now dt).lineTaken x l.line).waitNoted k w, ?_, ?_⟩
    · rw [Block.ctx_of_way (Block.waitNoted_lineWay _ _ _), Block.lineTaken_nextLine _ hx]
    · rw [exec_stripLine, State.liveOn_runs hup hcore.2, hw]
  case stray =>
    intro hnot
    obtain ⟨hstitch, hkept, hflag, hcount⟩ := ((s.now dt).taken x rest).stray_spec
    refine ⟨_, hup.exec_next (exec_stitchDeliver ..) (by rw [Block.stitchDeliver_stray ho hnot]), ?_, hstitch, hflag, hcount⟩
    rw [Block.ctx, hkept]
    exact Block.taken_outbox _ (hctxs ▸ hx) rest
  case awaited =>
    intro e hfind ha hnew hroom
    refine ⟨_, hup.exec_next (exec_stitchDeliver ..) (by rw [Block.stitchDeliver_awaited ho hfind ha hnew hroom]), ?_,
      (s.now dt).joined x rest l e, ?_, ?_, ?_⟩
    · rw [Block.ctx_withStitch, Block.ctx_of_way (Block.lineInto_lineWay _ _ _), Block.taken_outbox _ (hctxs ▸ hx)]
    · refine List.mem_map.2 ⟨e, ?_, if_pos (by simpa using List.find?_some hfind)⟩
      rw [Block.lineInto_stitch]
      exact List.mem_of_find?_eq_some hfind
    · exact (Block.noteDone_line ..).trans (by simpa using List.find?_some hfind)
    · rw [Block.joined, Block.noteDone_got]
      exact Block.findK_bindK ..
  case complete =>
    intro hcomplete
    obtain ⟨w, hout, hline, hpage⟩ := Block.stitchLineOut_complete hlines hcomplete
    simp only [Block.lineOut, Prod.mk.injEq] at hout
    obtain ⟨hrest, hnext, hoq⟩ := hout
    exact ⟨_, hup.exec_next (exec_stitchLineOut ..) rfl, hrest, hnext, w, hoq, hline, hpage⟩
  case incomplete =>
    intro hopen
    exact hup.exec_next (exec_stitchLineOut ..) (by rw [Block.stitchLineOut_incomplete hlines hopen])
  case overlap =>
    intro l src dest body e hlink hused hl hsrc hring hpos hport hnext he hline hovl hgave
    refine ⟨_, Block.overlapCols body, hup.exec_next (exec_overlap ..)
      ((Block.typedIn_overlap (by omega) hlink hused hsrc dest body).trans (Block.overlapMsg_neighbour hl hring
        hpos hport hnext)), Block.length_overlapCols body, ?_, rfl⟩
    exact List.mem_map.2 ⟨e, he, if_pos (by simp [hline, hovl, hgave])⟩
  case timeout =>
    intro e hdue
    exact ⟨_, hup.exec_next (exec_overlapTimeout ..) rfl, Block.overlapTimeout_due hdue⟩

end Sys2Proof.Machine

/-! # Holds: what ends one, and what acts in one -/

namespace Sys2Proof.Machine

/-- In a hold a command that is not listed in `actsInHold` lets time pass and does nothing else (R82, R137). -/
theorem exec_idle_in_hold {s : State} (h : s.blk.boot.hold ≠ .none) {c : Instr} (hc : actsInHold c = false) :
    ∃ n : Nat, exec c s = .next { s with blk := s.blk.advance n } := by
  have keeps {dt : Nat} {f : Block → Block} (he : exec c s = s.run dt f)
      (hf : ∀ b : Block, b.boot.hold ≠ .none → f b = b) : ∃ n : Nat, exec c s = .next { s with blk := s.blk.advance n } := by
    have hadv : (s.blk.advance dt).boot.hold ≠ .none := by rwa [State.advance_boot]
    exact ⟨dt, by rw [he, State.run_eq, State.now_held h, hf _ hadv]⟩
  cases hu : actsUnreleased c with
  | false =>
    obtain ⟨dt, f, hf⟩ := exec_released c hu
    exact ⟨dt, (hf s).trans (State.live_hold h dt f)⟩
  | true =>
    have hboth : (actsUnreleased c && !actsInHold c) = true := by rw [hu, hc]; rfl
    cases c with
    | oscStableTimeout dt => exact keeps (exec_oscStableTimeout ..) fun _ => Block.oscTimeout_held
    | flashTimeout dt => exact keeps (exec_flashTimeout ..) fun _ => Block.flashTimeout_held
    | aliveTimeout dt => exact keeps (exec_aliveTimeout ..) fun _ => Block.aliveTimeout_held
    | itoFail dt => exact keeps (exec_itoFail ..) fun _ => Block.itoFail_held
    | watchFail dt => exact keeps (exec_watchFail ..) fun _ => Block.watchFail_held
    | xtalFail dt => exact keeps (exec_xtalFail ..) fun _ => Block.xtalFail_held
    | pllFail dt ddr => exact keeps (exec_pllFail ..) fun _ hb => Block.pllFail_held hb ddr
    | refFail dt => exact keeps (exec_refFail ..) fun _ => Block.refFail_held
    | refRecovered dt => exact keeps (exec_refRecovered ..) fun _ => Block.refRecovered_held
    | thmConversion dt results => exact keeps (exec_thmConversion ..) fun _ hb => Block.thmConversion_held hb results
    | sensorTimeout dt k => exact keeps (exec_sensorTimeout ..) fun _ hb => Block.sensorTimeout_held hb k
    | _ => cases hboth

namespace Block

variable {b : Block}

theorem porFall_holds (h : b.boot.hold ≠ .none) : b.porFall.boot.hold ≠ .none := by
  rw [b.porFall_boot.2]
  split <;> simp [h]

theorem supplyOut_holds (h : b.boot.hold ≠ .none) : b.supplyOut.boot.hold ≠ .none := by
  rw [b.supplyOut_boot.2]
  split <;> [exact h; (split <;> simp)]

theorem latchClear_holds (b : Block) : b.latchClear.boot.hold ≠ .none := by
  rw [b.latchClear_boot.2]
  split <;> simp

/-- The outputs of an encoder that are shown in a hold leave it (R270). -/
theorem passed_holds (h : b.boot.hold ≠ .none) (os : List Output) (k : Nat) (f : Block → Block) :
    (b.passed os k f).boot.hold ≠ .none := by
  rwa [passed_held h, emits_boot]

end Block

/-- A command that does not boot the device leaves it in its hold (R82, R124, R137, R138). -/
theorem exec_keeps_hold {s t : State} (h : s.blk.boot.hold ≠ .none) {c : Instr} (hc : bootsDevice c = false)
    (ht : exec c s = .next t) : t.pending = s.pending ∧ t.blk.boot.hold ≠ .none := by
  have hnow (dt : Nat) : (s.now dt).boot.hold ≠ .none := by rwa [State.now_held h, State.advance_boot]
  have holds {dt : Nat} {f : Block → Block} (he : exec c s = s.run dt f) (hf : (f (s.now dt)).boot.hold ≠ .none) :
      t.pending = s.pending ∧ t.blk.boot.hold ≠ .none := by
    rw [he, State.run_eq] at ht
    cases ht
    exact ⟨rfl, hf⟩
  cases ha : actsInHold c with
  | false =>
    obtain ⟨n, hn⟩ := exec_idle_in_hold h ha
    rw [hn] at ht
    cases ht
    exact ⟨rfl, by rwa [State.advance_boot]⟩
  | true =>
    have hboth : (actsInHold c && !bootsDevice c) = true := by rw [ha, hc]; rfl
    cases c with
    | porFall dt => exact holds (exec_porFall ..) (Block.porFall_holds (hnow dt))
    | supplyOutOfRange dt => exact holds (exec_supplyOutOfRange ..) (Block.supplyOut_holds (hnow dt))
    | shutdownLatchClear dt => exact holds (exec_shutdownLatchClear ..) (Block.latchClear_holds _)
    | perstnRise dt => exact holds (exec_perstnRise ..) ((s.now dt).perstnRise_boot.2 ▸ hnow dt)
    | perstnFallBeforeRunning dt =>
      exact holds (exec_perstnFallBeforeRunning ..) ((s.now dt).perstnFallEarly_boot.2 ▸ hnow dt)
    | configRequest dt w =>
      exact holds (exec_configRequest ..) (by rw [Block.configRequest_held (hnow dt)]; exact hnow dt)
    | observerUpdate dt e0 e1 => exact holds (exec_observerUpdate ..) (Block.passed_holds (hnow dt) _ _ _)
    | zIndex dt e => exact holds (exec_zIndex ..) (Block.passed_holds (hnow dt) _ _ _)
    | quadratureEdge dt e a z => exact holds (exec_quadratureEdge ..) (Block.passed_holds (hnow dt) _ _ _)
    | _ => cases hboth

/-- Settles O4: a step of a held device lets time pass, or is one of the commands that act in a hold, none of which but
the two that boot ends it. -/
theorem heldDeviceStaysHeld : Obligations.HeldDeviceStaysHeld := by
  intro s t ⟨hhold, hpend⟩ hstep
  obtain ⟨pending, b⟩ := s
  cases pending with
  | nil =>
    cases hstep
    exact ⟨hhold, hpend⟩
  | cons c rest =>
    obtain ⟨hc, hrest⟩ := List.forall_mem_cons.1 hpend
    obtain ⟨hqueue, hheld⟩ := exec_keeps_hold (s := ⟨rest, b⟩) hhold hc hstep
    exact ⟨hheld, by rwa [hqueue]⟩

/-- Settles O5: PORn is low after reset, and the queue is empty. -/
theorem resetIsHeldFast : Obligations.ResetIsHeldFast := ⟨by decide, fun _ h => nomatch h⟩

/-- Settles O8. -/
theorem heldDeviceDoesNothing : Obligations.HeldDeviceDoesNothing := fun _ _ h hc => exec_idle_in_hold h hc

end Sys2Proof.Machine

/-! # Power, PERSTn and the seal -/

namespace Sys2Proof.Machine

/-- A command that acts in every state leaves the block that its meaning leaves. -/
theorem State.exec_run {s : State} {dt : Nat} {c : Instr} {f : Block → Block} {t : Block}
    (hc : exec c s = s.run dt f) (hf : f (s.now dt) = t) : exec c s = .next ⟨s.pending, t⟩ := by
  rw [hc, State.run_eq, hf]

namespace Block

/-- The outputs of a device that is not RUNNING are all that is driven (R76). -/
theorem heldOutputs_eq (b : Block) : ∃ o, b.heldOutputs = { b with out := o } := by
  obtain ⟨o₁, h₁⟩ := b.emits_eq ((List.range 12).map (fun k => .pin (.trig k) false) ++
    [.pin (.axisDe 0) false, .pin (.axisDe 1) false])
  obtain ⟨o₂, h₂⟩ := b.outputsLow.emits_eq [.pin .faultn false, .pin .alertn true, .pin .throttleReqn true]
  obtain ⟨o₃, h₃⟩ := (b.outputsLow.emits [.pin .faultn false, .pin .alertn true, .pin .throttleReqn true]).emits_eq
    ((List.range (16 - 0)).map fun k => .release (.gpio (0 + k)))
  refine ⟨o₃, ?_⟩
  rw [heldOutputs, gpioRelease, h₃, h₂, outputsLow, h₁]

/-- The boot state that a wipe leaves (R85). -/
def wipedBoot (b : Block) (h : Hold) : BootSt :=
  { Block.initial.boot with
    hold := h, latch := b.boot.latch, porn := b.boot.porn, perstn := b.boot.perstn, supplies := b.boot.supplies }

/-- What a wipe leaves (R85, R86), the outputs apart. -/
theorem wiped_eq (b : Block) (h : Hold) : ∃ o, b.wiped h = { Block.initial with
    freeCtr := b.freeCtr, fuses := b.fuses, flash := b.flash, out := o, boot := b.wipedBoot h
    dma := { Block.initial.dma with nextId := b.dma.nextId } } := by
  obtain ⟨o, ho⟩ := heldOutputs_eq { Block.initial with
    freeCtr := b.freeCtr, fuses := b.fuses, flash := b.flash, out := b.out, boot := b.wipedBoot h
    dma := { Block.initial.dma with nextId := b.dma.nextId } }
  exact ⟨o, ho⟩

/-- What a wipe keeps: the fuses, the flash, and of the rest what power-on leaves. -/
theorem wiped_spec (b : Block) (h : Hold) : (b.wiped h).fuses = b.fuses ∧ (b.wiped h).flash = b.flash ∧
    { b.wiped h with
      fuses := Block.initial.fuses, flash := Block.initial.flash, out := Block.initial.out, boot := Block.initial.boot
      freeCtr := Block.initial.freeCtr, dma := { (b.wiped h).dma with nextId := Block.initial.dma.nextId } } = Block.initial := by
  obtain ⟨o, ho⟩ := b.wiped_eq h
  rw [ho]
  exact ⟨rfl, rfl, rfl⟩

end Block

/-- Settles O7: clearing the latch wipes the device into the hold that its inputs give. -/
theorem latchClearEndsShutdown : Obligations.LatchClearEndsShutdown := by
  intro s dt
  obtain ⟨hlatch, hhold⟩ := (s.now dt).latchClear_boot
  refine ⟨_, State.exec_run (exec_shutdownLatchClear ..) rfl, hlatch, hhold, ?_⟩
  set b := s.now dt
  obtain ⟨o, ho⟩ := Block.wiped_eq { b with boot := { b.boot with latch := false, supplies := false } }
    (if b.boot.porn then .supply else .por)
  rw [Block.latchClear, ho]
  exact ⟨rfl, rfl, rfl⟩

/-- Settles O21: without the latch each of the two wipes the device into its hold. -/
theorem powerLossWipes : Obligations.PowerLossWipes := by
  intro s dt hlatch
  dsimp only
  set b := s.now dt
  refine ⟨⟨_, State.exec_run (exec_porFall ..) (if_neg (by simp [b, hlatch])), ?_, ?_, Block.wiped_spec _ _⟩,
    ⟨_, State.exec_run (exec_supplyOutOfRange ..) (if_neg (by simp [b, hlatch])), ?_, ?_, Block.wiped_spec _ _⟩⟩
  all_goals rw [Block.wiped_boot]

namespace Block

theorem perstnRise_trains {b : Block} (hhold : b.boot.hold = .none) (hseen : b.boot.sigSeen = true) : b.perstnRise =
    { b with boot := { b.boot with perstn := true }, host := { b.host with training := true } } := by
  simp [perstnRise, trainingEnable, hhold, hseen]

/-- Before RUNNING the fall of PERSTn resets the endpoint and takes its link down (R480). -/
theorem perstnFallEarly_eq {b : Block} (h : b.isRunning = false) : b.perstnFallEarly =
    { b.endpointReset.hostLinkDown with
      boot := { b.endpointReset.hostLinkDown.boot with perstn := false }
      host := { b.endpointReset.hostLinkDown.host with training := false } } := by
  rw [perstnFallEarly, h]
  rfl

theorem isRunning_endpointReset (b : Block) : b.endpointReset.isRunning = b.isRunning := by
  have : b.endpointReset.get uSys F.SYS.BOOT_STAT_PHASE = b.get uSys F.SYS.BOOT_STAT_PHASE :=
    getI_setI_apart b (by decide) 0
  rw [isRunning, this, isRunning]

/-- Before RUNNING the link's going down is no failure of the host port (R83). -/
theorem hostLinkDown_early {b : Block} (h : b.isRunning = false) :
    b.hostLinkDown = ((b.set uHost F.HOST.LINK_UP 0).set uHost F.HOST.LINK_SPEED 0).set uHost F.HOST.LINK_WIDTH 0 := by
  have hrun : (((b.set uHost F.HOST.LINK_UP 0).set uHost F.HOST.LINK_SPEED 0).set uHost F.HOST.LINK_WIDTH 0).isRunning =
      false := by
    rw [← h, isRunning, isRunning, get, get, set, getI_setI_apart _ (by decide), set, getI_setI_apart _ (by decide), set,
      getI_setI_apart _ (by decide)]
  exact if_neg (by rw [hrun]; decide)

end Block

/-- Settles O22: the two equations of PERSTn. -/
theorem perstnStartsAndStopsTheLink : Obligations.PerstnStartsAndStopsTheLink := by
  intro s dt
  refine ⟨fun hhold hseen => State.exec_run (exec_perstnRise ..) (Block.perstnRise_trains hhold hseen), fun hrun => ?fall⟩
  case fall =>
    refine ⟨_, State.exec_run (exec_perstnFallBeforeRunning ..) (Block.perstnFallEarly_eq hrun), rfl, rfl, ?_⟩
    have hup := (s.now dt).endpointReset.hostLinkDown_linkUp
    rw [Block.hostLinkDown_early ((s.now dt).isRunning_endpointReset.trans hrun)] at hup ⊢
    exact ⟨rfl, rfl, hup⟩

namespace Block

theorem bootSeal_sealed {b : Block} (h : b.on uSys F.SYS.BOOT_STAT_SEALED = true) (deadline : Bool) :
    b.bootSeal deadline = b := if_pos h

/-- The seal of an operating device (R80). -/
theorem bootSeal_open {b : Block} (hup : b.cored = true) (h : b.on uSys F.SYS.BOOT_STAT_SEALED = false) (deadline : Bool) :
    b.bootSeal deadline = ((b.set uSys F.SYS.BOOT_STAT_SEALED 1).set uSys F.SYS.BOOT_STAT_DEADLINE (b2n deadline)).set uSys
      F.SYS.BOOT_STAT_PHASE 9 := by
  have hcored : ((b.set uSys F.SYS.BOOT_STAT_SEALED 1).set uSys F.SYS.BOOT_STAT_DEADLINE (b2n deadline)).cored = true := by
    rw [← hup, cored, cored, get, get, set, getI_setI_apart _ (by decide), set, getI_setI_apart _ (by decide)]
    rfl
  exact (if_neg (by simp [h])).trans (if_pos hcored)

end Block

/-- Settles O24: what the seal does is one equation, whoever brings it. -/
theorem sealFixesTheConfiguration : Obligations.SealFixesTheConfiguration := by
  intro s dt hup
  refine ⟨fun hopen => ⟨hup.exec_next (exec_seal ..) (Block.bootSeal_open hup hopen false), fun hdue => ?deadline⟩,
    fun hsealed => ⟨hup.exec_next (exec_seal ..) (Block.bootSeal_sealed hsealed false), ?sealed⟩⟩
  case deadline =>
    exact hup.exec_next (exec_sealDeadline ..) ((if_pos ⟨hup, hdue⟩).trans (Block.bootSeal_open hup hopen true))
  case sealed =>
    refine hup.exec_next (exec_sealDeadline ..) ?_
    rw [Block.sealDeadline, Block.bootSeal_sealed hsealed, ite_self]

end Sys2Proof.Machine

/-! # Boot up to the flash, and the holds that end it -/

namespace Sys2Proof.Machine
namespace Block

/-! ## Fields of the register file, in the spelling of `get` and `set` -/

theorem get_set_apart (b : Block) {u u' : UnitId} {f g : Field} (h : apart u f 0 u' g 0 = true) (v : Nat) :
    (b.set u f v).get u' g = b.get u' g := getI_setI_apart b h v

theorem get_set_same (b : Block) (u : UnitId) {f : Field} (h : f.lo ≤ f.hi ∧ f.hi < 32) (v : Nat) :
    (b.set u f v).get u f = v % 2 ^ f.width := getI_setI_same b u f 0 v h

theorem get_congr {s t : Block} (h : t.regs = s.regs) (u : UnitId) (f : Field) : t.get u f = s.get u f := getI_congr h u f 0

/-- The last outputs of several that leave in order are the first of the list of outputs. -/
theorem emits_out (b : Block) (os : List Output) : (b.emits os).out = os.reverse ++ b.out := by
  induction os generalizing b with
  | nil => rfl
  | cons o r ih => rw [emits, List.foldl_cons, ← emits, ih, emit_out]; simp

/-! ## Work that writes registers alone -/

theorem keepsRest_refl (b : Block) : b.keepsRest b := rfl

@[simp] theorem keepsRest_setI (b t : Block) (u : UnitId) (f : Field) (i v : Nat) :
    b.keepsRest (t.setI u f i v) ↔ b.keepsRest t := Iff.rfl

@[simp] theorem keepsRest_set (b t : Block) (u : UnitId) (f : Field) (v : Nat) : b.keepsRest (t.set u f v) ↔ b.keepsRest t :=
  Iff.rfl

@[simp] theorem keepsRest_phase (b t : Block) (p : Nat) : b.keepsRest (t.phase p) ↔ b.keepsRest t := Iff.rfl

theorem keepsRest.trans {a b t : Block} (h : a.keepsRest b) (h' : b.keepsRest t) : a.keepsRest t := by
  have hb : ({ b with regs := a.regs } : Block) = a := h
  have ht : ({ t with regs := b.regs } : Block) = b := h'
  rw [keepsRest, ← hb, ← ht]

/-- Outputs and a boot state on top of that. -/
theorem keepsRest.rest {b t x : Block} (h : b.keepsRest t) {os : List Output} {bt : BootSt}
    (hx : x = { t.emits os with boot := bt }) : { x with regs := b.regs, out := b.out, boot := b.boot } = b := by
  have ht : ({ t with regs := b.regs } : Block) = b := h
  obtain ⟨o, ho⟩ := t.emits_eq os
  calc ({ x with regs := b.regs, out := b.out, boot := b.boot } : Block)
      = { ({ t with regs := b.regs } : Block) with out := b.out, boot := b.boot } := by rw [hx, ho]
    _ = b := by rw [ht]

theorem keepsRest_foldl {α : Type} {b : Block} {f : Block → α → Block} (l : List α)
    (h : ∀ a ∈ l, ∀ t, b.keepsRest t → b.keepsRest (f t a)) {s : Block} (hs : b.keepsRest s) : b.keepsRest (l.foldl f s) := by
  induction l generalizing s with
  | nil => exact hs
  | cons a r ih =>
    exact ih (fun c hc => h c (List.mem_cons_of_mem a hc)) (h a List.mem_cons_self s hs)

/-- What is not read from the register file is as before. -/
theorem keepsRest.same {α : Type} {b t : Block} (h : b.keepsRest t) (g : Block → α)
    (hg : ∀ (s : Block) (r : List (Nat × Word)), g { s with regs := r } = g s) : g t = g b := by
  rw [← hg t b.regs, show ({ t with regs := b.regs } : Block) = b from h]

/-! ## The hold with a BOOTFAIL code -/

theorem holdFail_hold (b : Block) (code : Nat) : (b.holdFail code).boot.hold = .bootfail code := rfl

/-- The code of a hold is the last thing shown, on GPIO[15:12] (R82). -/
theorem holdFail_out (b : Block) (code : Nat) : (b.holdFail code).out.take 4 =
    [.pin (.gpio 15) (bit code 3), .pin (.gpio 14) (bit code 2), .pin (.gpio 13) (bit code 1), .pin (.gpio 12) (bit code 0)] := by
  unfold holdFail
  dsimp only
  rw [emits_out]
  rfl

theorem heldOutputs_regs (b : Block) : b.heldOutputs.regs = b.regs := by
  obtain ⟨o, h⟩ := b.heldOutputs_eq
  rw [h]

/-- The registers of a hold: those of the ports off, the link down. -/
theorem holdFail_regs (b : Block) (code : Nat) : (b.holdFail code).regs = (b.portsOff.set uHost F.HOST.LINK_UP 0).regs := by
  unfold holdFail
  dsimp only
  rw [emits_regs, heldOutputs_regs]

theorem holdFail_link (b : Block) (code : Nat) : (b.holdFail code).get uHost F.HOST.LINK_UP = 0 := by
  rw [get_congr (b.holdFail_regs code), get_set_same _ _ (by decide)]
  rfl

/-! ## Steps 2 to 5 of a boot that waits for its flash (R75) -/

/-- The clock sources good and the clock monitor armed (R96, R97). -/
def clocksGood (b : Block) : Block :=
  [F.CLK.SRC_STAT_ITO_OK, F.CLK.SRC_STAT_WATCH_OK, F.CLK.SRC_STAT_XTAL_OK, F.CLK.SRC_STAT_REF_OK, F.CLK.SRC_STAT_SYS_LOCK,
    F.CLK.SRC_STAT_DDR_LOCK, F.CLK.SRC_STAT_ARMED].foldl (fun s f => s.set uClk f 1) b

theorem bootOsc_stable (b : Block) {env : BootEnv} (h : env.oscStable = true) :
    b.bootOsc env = (b.phase 1).clocksGood.bootFuses env := by
  rw [bootOsc, if_pos h]
  rfl

theorem bootOsc_waits (b : Block) {env : BootEnv} (h : env.oscStable = false) : b.bootOsc env = b.phase 1 := by
  rw [bootOsc, if_neg (by simp [h])]

/-- Showing the fuses writes registers alone. -/
theorem fuseRegs_keepsRest (b : Block) : b.keepsRest b.fuseRegs := by
  unfold fuseRegs
  extract_lets f mask s₁ s₂ s₃ s₄ s₅ s₆
  have h₅ : b.keepsRest s₅ := by simp only [s₅, s₄, s₃, s₂, s₁, keepsRest_set, keepsRest_refl]
  refine keepsRest_foldl _ (fun m _ t ht => (keepsRest_setI ..).2 ht) ?_
  unfold s₆
  split <;> simp only [keepsRest_set, h₅]

/-- The registers of a unit that shows no fused value. -/
theorem get_fuseRegs (b : Block) {u : UnitId} {f' : Field} (h : ∀ g ∈ [F.SYS.LIFECYCLE_STATE, F.SYS.LIFECYCLE_DEBUG_DISABLED,
      F.SYS.LIFECYCLE_KEY_FUSED, F.SYS.LIFECYCLE_KEY_REVOKED, F.SYS.LIFECYCLE_AQZIA_KEY0_REVOKED, F.SYS.LIFECYCLE_GRADE,
      F.SYS.LIFECYCLE_ROLLBACK, F.SYS.DEVICE_ID_LO_ID, F.SYS.DEVICE_ID_HI_ID], apart uSys g 0 u f' 0 = true)
    (hthm : apart uThm F.THM.LOW_THR_LOW_WARN 0 u f' 0 = true ∧ apart uThm F.THM.LOW_THR_LOW_INHIBIT 0 u f' 0 = true)
    (hcal : ∀ m < 25, apart uCal F.CAL.TMON_SCALE_SCALE m u f' 0 = true) : b.fuseRegs.get u f' = b.get u f' := by
  unfold fuseRegs
  extract_lets f mask s₁ s₂ s₃ s₄ s₅ s₆
  have h₅ : s₅.get u f' = b.get u f' := by
    simp only [List.forall_mem_cons] at h
    obtain ⟨h1, h2, h3, h4, h5, h6, h7, h8, h9, -⟩ := h
    simp only [s₅, s₄, s₃, s₂, s₁, get_set_apart _ h9, get_set_apart _ h8, get_set_apart _ h7, get_set_apart _ h6,
      get_set_apart _ h5, get_set_apart _ h4, get_set_apart _ h3, get_set_apart _ h2, get_set_apart _ h1]
  have h₆ : s₆.get u f' = s₅.get u f' := by
    unfold s₆
    split
    · rw [get_set_apart _ hthm.2, get_set_apart _ hthm.1]
    · rfl
  exact ((getI_foldl _ (fun m hm t => getI_setI_apart t (hcal m (List.mem_range.1 hm)) _) _).trans h₆).trans h₅

/-- The lifecycle state shown is that of the fuses. -/
theorem get_fuseRegs_state (b : Block) : b.fuseRegs.get uSys F.SYS.LIFECYCLE_STATE = b.fuses.life % 8 := by
  unfold fuseRegs
  extract_lets f mask s₁ s₂ s₃ s₄ s₅ s₆
  have h₅ : s₅.get uSys F.SYS.LIFECYCLE_STATE = f.life % 8 := by
    simp (disch := decide) only [s₅, s₄, s₃, s₂, s₁, get_set_apart, get_set_same]
    rfl
  have h₆ : s₆.get uSys F.SYS.LIFECYCLE_STATE = s₅.get uSys F.SYS.LIFECYCLE_STATE := by
    unfold s₆
    split
    · rw [get_set_apart _ (by decide), get_set_apart _ (by decide)]
    · rfl
  refine (getI_foldl _ (fun m hm t => getI_setI_apart t ?_ _) _).trans (h₆.trans h₅)
  have := List.mem_range.1 hm
  interval_cases m <;> decide

/-- The registers at the end of step 4's first act, the reset of a flash that does not answer. -/
def flashWaits (b : Block) : Block := ((b.phase 2).fuseRegs.phase 3).phase 4

theorem flashWaits_keepsRest (b : Block) : b.keepsRest b.flashWaits :=
  (keepsRest_phase ..).2 ((keepsRest_phase ..).2 (((keepsRest_phase ..).2 (keepsRest_refl b)).trans (fuseRegs_keepsRest _)))

/-- Good fuses and a good wipe, and a flash that does not answer: the boot waits at PHASE 4 with the flash reset; registers
and outputs apart it changes the boot state alone (R75). -/
theorem bootFuses_toFlash (b : Block) {env : BootEnv} (hfuse : env.fuseOk = true) (hok : b.fuses.lifeOk = true)
    (hlife : b.fuses.life ≠ 7) (hwipe : env.wipeOk = true) (hflash : env.flashUp = false) :
    b.bootFuses env = { b.flashWaits.emits [.pin .xspiResetn false, .pin .xspiResetn true] with
      boot := { b.boot with preUs := env.preUs, armUs := env.armUs, debug := b.fuses.debugOpen, xspi := .single } } := by
  have hkeep : b.keepsRest (b.phase 2).fuseRegs := ((keepsRest_phase ..).2 (keepsRest_refl b)).trans (fuseRegs_keepsRest _)
  have hfuses := hkeep.same Block.fuses fun _ _ => rfl
  have hboot := hkeep.same Block.boot fun _ _ => rfl
  have hok' : ((b.phase 2).fuses.lifeOk) = true := hok
  unfold bootFuses flashWaits
  dsimp only
  generalize (b.phase 2).fuseRegs = F at hfuses hboot
  rw [if_neg (by simp [hfuse]), if_neg (by simp [hok'])]
  rw [if_neg (by rw [← hfuses] at hlife; exact hlife), bootFlash, if_neg (by simp [hwipe]), if_pos (by simp [hflash]), ← hfuses, ← hboot]
  rfl

/-- A field that no step from the fuses to the flash writes. -/
theorem get_flashWaits (b : Block) {u : UnitId} {f : Field} (hphase : apart uSys F.SYS.BOOT_STAT_PHASE 0 u f 0 = true)
    (h : ∀ g ∈ [F.SYS.LIFECYCLE_STATE, F.SYS.LIFECYCLE_DEBUG_DISABLED, F.SYS.LIFECYCLE_KEY_FUSED, F.SYS.LIFECYCLE_KEY_REVOKED,
      F.SYS.LIFECYCLE_AQZIA_KEY0_REVOKED, F.SYS.LIFECYCLE_GRADE, F.SYS.LIFECYCLE_ROLLBACK, F.SYS.DEVICE_ID_LO_ID,
      F.SYS.DEVICE_ID_HI_ID], apart uSys g 0 u f 0 = true)
    (hthm : apart uThm F.THM.LOW_THR_LOW_WARN 0 u f 0 = true ∧ apart uThm F.THM.LOW_THR_LOW_INHIBIT 0 u f 0 = true)
    (hcal : ∀ m < 25, apart uCal F.CAL.TMON_SCALE_SCALE m u f 0 = true) : b.flashWaits.get u f = b.get u f := by
  rw [flashWaits, phase, get_set_apart _ hphase, phase, get_set_apart _ hphase, get_fuseRegs _ h hthm hcal, phase,
    get_set_apart _ hphase]

/-- A device that has booted from `b` on to the reset of its flash, and waits for it at PHASE 4 (R75). -/
structure AtFlash (b t : Block) : Prop where
  hold : t.boot.hold = b.boot.hold
  porn : t.boot.porn = b.boot.porn
  supplies : t.boot.supplies = b.boot.supplies
  phase : t.get uSys F.SYS.BOOT_STAT_PHASE = 4
  lifecycle : t.get uSys F.SYS.LIFECYCLE_STATE = b.fuses.life
  armed : t.get uClk F.CLK.SRC_STAT_ARMED = 1
  bootsel : t.get uSys F.SYS.STRAPS_BOOTSEL = b.get uSys F.SYS.STRAPS_BOOTSEL
  cause : t.get uSys F.SYS.RST_CAUSE_CAUSE = b.get uSys F.SYS.RST_CAUSE_CAUSE
  rest : { t with regs := b.regs, out := b.out, boot := b.boot } = b

theorem clocksGood_keepsRest (b : Block) : b.keepsRest b.clocksGood :=
  keepsRest_foldl _ (fun _ _ _ ht => (keepsRest_set ..).2 ht) (keepsRest_refl b)

theorem clocksGood_armed (b : Block) : b.clocksGood.get uClk F.CLK.SRC_STAT_ARMED = 1 := by
  simp only [clocksGood, List.foldl]
  rw [get_set_same _ _ (by decide)]
  rfl

theorem get_clocksGood (b : Block) {f : Field} (hf : f.at 0 < 0x4000) : b.clocksGood.get uSys f = b.get uSys f :=
  getI_foldl _ (fun g hg t => getI_setI_unit t (by decide) (by decide) (by decide)
    (by simp only [List.mem_cons, List.not_mem_nil, or_false] at hg; rcases hg with rfl | rfl | rfl | rfl | rfl | rfl | rfl <;> decide)
    hf 1) b

theorem life_lt {f : Fuses} (h : f.lifeOk = true) : f.life < 8 := by
  simp only [Fuses.lifeOk, Bool.and_eq_true, List.contains_iff_mem, List.mem_cons, List.not_mem_nil, or_false] at h
  unfold Fuses.life
  exact max_lt (by omega) (by omega)

theorem bootFuses_atFlash {b c : Block} (hkeep : b.keepsRest c) (harmed : c.get uClk F.CLK.SRC_STAT_ARMED = 1)
    (hbootsel : c.get uSys F.SYS.STRAPS_BOOTSEL = b.get uSys F.SYS.STRAPS_BOOTSEL)
    (hcause : c.get uSys F.SYS.RST_CAUSE_CAUSE = b.get uSys F.SYS.RST_CAUSE_CAUSE) {env : BootEnv}
    (hfuse : env.fuseOk = true) (hok : b.fuses.lifeOk = true) (hlife : b.fuses.life ≠ 7) (hwipe : env.wipeOk = true)
    (hflash : env.flashUp = false) : b.AtFlash (c.bootFuses env) := by
  have hfuses := hkeep.same Block.fuses fun _ _ => rfl
  have hboot := hkeep.same Block.boot fun _ _ => rfl
  have hend := c.bootFuses_toFlash hfuse (hfuses ▸ hok) (hfuses ▸ hlife) hwipe hflash
  have hregs (u : UnitId) (f : Field) : (c.bootFuses env).get u f = c.flashWaits.get u f :=
    get_congr (by simp only [hend, emits_regs]) u f
  have hbt : (c.bootFuses env).boot = { b.boot with
      preUs := env.preUs, armUs := env.armUs, debug := c.fuses.debugOpen, xspi := .single } := by simp only [hend, hboot]
  have hother {u : UnitId} {f : Field} (h : c.flashWaits.get u f = c.get u f) : (c.bootFuses env).get u f = c.get u f :=
    (hregs u f).trans h
  refine ⟨by rw [hbt], by rw [hbt], by rw [hbt], ?phase, ?lifecycle, (hother ?_).trans harmed,
    (hother ?_).trans hbootsel, (hother ?_).trans hcause, (hkeep.trans c.flashWaits_keepsRest).rest hend⟩
  case phase => rw [hregs, flashWaits, phase, get_set_same _ _ (by decide)]; rfl
  case lifecycle =>
    rw [hregs, flashWaits, phase, get_set_apart _ (by decide), phase, get_set_apart _ (by decide), get_fuseRegs_state]
    exact (Nat.mod_eq_of_lt (life_lt (hfuses ▸ hok))).trans (congrArg Fuses.life hfuses)
  all_goals exact get_flashWaits _ (by decide) (by decide) (by decide) (by decide)

theorem bootOsc_atFlash (b : Block) {env : BootEnv} (hosc : env.oscStable = true) (hfuse : env.fuseOk = true)
    (hok : b.fuses.lifeOk = true) (hlife : b.fuses.life ≠ 7) (hwipe : env.wipeOk = true) (hflash : env.flashUp = false) :
    b.AtFlash (b.bootOsc env) := by
  have hsys {f : Field} (hf : f.at 0 < 0x4000) (ha : apart uSys F.SYS.BOOT_STAT_PHASE 0 uSys f 0 = true) :
      (b.phase 1).clocksGood.get uSys f = b.get uSys f := by
    rw [get_clocksGood _ hf, phase, get_set_apart _ ha]
  rw [b.bootOsc_stable hosc]
  exact bootFuses_atFlash (((keepsRest_phase ..).2 (keepsRest_refl b)).trans (clocksGood_keepsRest _)) (clocksGood_armed _)
    (hsys (by decide) (by decide)) (hsys (by decide) (by decide)) hfuse hok hlife hwipe hflash

end Block
end Sys2Proof.Machine

namespace Sys2Proof.Machine
namespace Block

@[simp] theorem keepsRest_wr (b t : Block) (u : UnitId) (off v : Nat) : b.keepsRest (t.wr u off v) ↔ b.keepsRest t := Iff.rfl

/-- What is neither register nor output nor boot state is as the boot found it. -/
theorem AtFlash.same {α : Type} {b t : Block} (h : b.AtFlash t) (g : Block → α)
    (hg : ∀ (s : Block) (r : List (Nat × Word)) (o : List Output) (bt : BootSt),
      g { s with regs := r, out := o, boot := bt } = g s) : g t = g b := by
  rw [← hg t b.regs b.out b.boot, h.rest]

/-- The block from which boot goes on at step 2: wiped, with the straps taken (R64, R75). -/
def strapped (b : Block) (env : BootEnv) : Block :=
  ((b.wiped .none).set uSys F.SYS.STRAPS_BOOTSEL env.bootsel).set uSys F.SYS.STRAPS_BOARD_ID env.boardId

theorem strapped_bootsel (b : Block) (env : BootEnv) : (b.strapped env).get uSys F.SYS.STRAPS_BOOTSEL = env.bootsel % 4 := by
  rw [strapped, get_set_apart _ (by decide), get_set_same _ _ (by decide)]
  rfl

theorem strapped_boot (b : Block) (env : BootEnv) : (b.strapped env).boot = b.wipedBoot .none := by
  rw [strapped, set_boot, set_boot, wiped_boot, wipedBoot]

theorem strapped_kept (b : Block) (env : BootEnv) : (b.strapped env).fuses = b.fuses ∧ (b.strapped env).flash = b.flash := by
  obtain ⟨hfuses, hflash, -⟩ := b.wiped_spec .none
  rw [strapped, set_fuses, set_fuses, set_flash, set_flash]
  exact ⟨hfuses, hflash⟩

theorem bootStraps_eq (b : Block) (env : BootEnv) : b.bootStraps env =
    if env.supplies = false then (b.strapped env).holdFail 1
    else if env.bootsel % 4 = 3 then (b.strapped env).xspiRelease.holdFail 0xC
    else (b.strapped env).bootOsc env := by
  rw [← b.strapped_bootsel env]
  unfold bootStraps strapped
  dsimp only
  generalize ((b.wiped .none).set uSys F.SYS.STRAPS_BOOTSEL env.bootsel).set uSys F.SYS.STRAPS_BOARD_ID env.boardId = t
  cases env.supplies <;> rfl

end Block

/-- The surroundings of a boot in which all is well but the flash, which does not answer. -/
structure BootEnv.FlashAway (env : BootEnv) (f : Fuses) : Prop where
  osc : env.oscStable = true
  fuse : env.fuseOk = true
  lifeOk : f.lifeOk = true
  life : f.life ≠ 7
  wipe : env.wipeOk = true
  flash : env.flashUp = false

namespace Block

theorem bootOsc_away (b : Block) {env : BootEnv} (h : env.FlashAway b.fuses) : b.AtFlash (b.bootOsc env) :=
  b.bootOsc_atFlash h.osc h.fuse h.lifeOk h.life h.wipe h.flash

/-- What a boot from step 1 that waits for its flash shows. -/
theorem bootStraps_away (b : Block) {env : BootEnv} (hsup : env.supplies = true) (hsel : env.bootsel % 4 ≠ 3)
    (h : env.FlashAway b.fuses) :
    let t := b.bootStraps env
    t.boot.porn = b.boot.porn ∧ t.boot.supplies = b.boot.supplies ∧ t.get uSys F.SYS.STRAPS_BOOTSEL = env.bootsel % 4 ∧
      t.boot.hold = .none ∧ t.get uSys F.SYS.BOOT_STAT_PHASE = 4 ∧ t.get uSys F.SYS.LIFECYCLE_STATE = b.fuses.life ∧
      t.get uClk F.CLK.SRC_STAT_ARMED = 1 ∧ t.fuses = b.fuses ∧ t.flash = b.flash := by
  obtain ⟨hfuses, hflash⟩ := b.strapped_kept env
  have hboot := b.strapped_boot env
  have hbootsel := b.strapped_bootsel env
  rw [b.bootStraps_eq env, if_neg (by simp [hsup]), if_neg hsel]
  generalize b.strapped env = c at *
  have hat := c.bootOsc_away (env := env) (by rw [hfuses]; exact h)
  generalize c.bootOsc env = t at *
  exact ⟨by rw [hat.porn, hboot, wipedBoot], by rw [hat.supplies, hboot, wipedBoot], hat.bootsel.trans hbootsel,
    by rw [hat.hold, hboot, wipedBoot], hat.phase, by rw [hat.lifecycle, hfuses], hat.armed,
    (hat.same fuses fun _ _ _ _ => rfl).trans hfuses, (hat.same flash fun _ _ _ _ => rfl).trans hflash⟩

/-- PORn has risen and the supplies are in range. -/
def powered (b : Block) : Block := { b with boot := { b.boot with porn := true, supplies := true } }

theorem powered_fuses (b : Block) : b.powered.fuses = b.fuses := rfl

theorem powerOn_boots {b : Block} (hporn : b.boot.porn = false) (hlatch : b.boot.latch = false) (env : BootEnv) :
    b.powerOn env = b.powered.bootStraps env := by
  rw [powerOn, if_neg (by simp [hporn])]
  exact if_neg (by simp [hlatch])

theorem supplyBack_boots {b : Block} (hporn : b.boot.porn = true) (hsup : b.boot.supplies = false) (hlatch : b.boot.latch = false)
    (env : BootEnv) : b.supplyBack env = b.powered.bootStraps env := by
  rw [supplyBack, if_neg (by simp [hsup])]
  dsimp only
  rw [if_neg (by simp [hlatch, hporn]), powered, ← hporn]

end Block

/-- Settles O18: both commands boot from step 1, and what that boot shows is said once. -/
theorem powerOnBootsToTheFlash : Obligations.PowerOnBootsToTheFlash := by
  intro s dt env hlatch hsup hsel hosc hfuse hok hlife hwipe hflash
  have hon := State.exec_run (exec_powerOn dt env s) rfl
  have hback := State.exec_run (exec_supplyRestored dt env s) rfl
  generalize s.now dt = b at *
  obtain ⟨hporn', hsup', hrest⟩ := b.powered.bootStraps_away hsup hsel
    ⟨hosc, hfuse, b.powered_fuses ▸ hok, b.powered_fuses ▸ hlife, hwipe, hflash⟩
  exact ⟨fun hporn => ⟨_, (Block.powerOn_boots hporn hlatch env) ▸ hon, hporn', hrest⟩,
    fun hporn hout => ⟨_, (Block.supplyBack_boots hporn hout hlatch env) ▸ hback, hsup', hrest⟩⟩

namespace Block

/-- Step 3 and on, by what fails first (R75, R82). -/
theorem bootFuses_fails (b : Block) (env : BootEnv) {code : Nat}
    (h : env.fuseOk = false ∧ code = 3 ∨ env.fuseOk = true ∧
      (b.fuses.lifeOk = false ∧ code = 4 ∨ b.fuses.lifeOk = true ∧
        (b.fuses.life = 7 ∧ code = 0xF ∨ b.fuses.life ≠ 7 ∧
          (env.wipeOk = false ∧ code = 0xB ∨ env.wipeOk = true ∧ env.flashUp = true ∧ env.flashTable = false ∧ code = 5)))) :
    ∃ t : Block, b.bootFuses env = t.holdFail code := by
  unfold bootFuses
  extract_lets s₁ s₂ boot₃ s₃
  have h₁ : s₁.fuses = b.fuses := set_fuses ..
  have h₂ : s₂.fuses = b.fuses := by
    rw [← h₁, ← (fuseRegs_keepsRest s₁).same Block.fuses fun _ _ => rfl]
    exact set_fuses ..
  clear_value s₂ s₁
  have h₃ : s₃.fuses = b.fuses := h₂
  clear_value s₃
  rcases h with ⟨hfuse, rfl⟩ | ⟨hfuse, h⟩
  · exact ⟨_, if_pos (by simp [hfuse])⟩
  rw [if_neg (by simp [hfuse])]
  rcases h with ⟨hok, rfl⟩ | ⟨hok, h⟩
  · exact ⟨_, if_pos (by simp [h₁, hok])⟩
  rw [if_neg (by simp [h₁, hok])]
  rcases h with ⟨hlife, rfl⟩ | ⟨hlife, h⟩
  · exact ⟨_, if_pos (by rw [h₃, hlife])⟩
  rw [if_neg (by rwa [h₃]), bootFlash]
  rcases h with ⟨hwipe, rfl⟩ | ⟨hwipe, hup, htab, rfl⟩
  · exact ⟨_, if_pos (by simp [hwipe])⟩
  · exact ⟨_, (if_neg (by simp [hwipe])).trans ((if_neg (by simp [hup])).trans (if_pos (by simp [htab])))⟩

end Block

/-- Settles O19: the boot waits for its oscillator, or ends in the hold of the first step that fails. -/
theorem bootStopsWithItsCode : Obligations.BootStopsWithItsCode := by
  intro s dt env hlatch hporn
  have hon := State.exec_run (exec_powerOn dt env s) rfl
  generalize s.now dt = b at *
  rw [Block.powerOn_boots hporn hlatch env] at hon
  have hfuses : (b.powered.strapped env).fuses = b.fuses := (b.powered.strapped_kept env).1.trans b.powered_fuses
  generalize b.powered = p at hon hfuses
  refine ⟨fun hsup hsel hosc => ?waits, fun code hcode => ?fails⟩
  case waits =>
    rw [p.bootStraps_eq env, if_neg (by simp [hsup]), if_neg hsel, Block.bootOsc_waits _ hosc] at hon
    refine ⟨_, hon, ?_, ?_⟩
    · rw [Block.phase, Block.set_boot, p.strapped_boot env]
      rfl
    · rw [Block.phase, Block.get_set_same _ _ (by decide)]
      rfl
  case fails =>
    have hend : ∃ t : Block, p.bootStraps env = t.holdFail code := by
      rw [p.bootStraps_eq env]
      rcases hcode with ⟨hsup, rfl⟩ | ⟨hsup, hsel, rfl⟩ | ⟨hsup, hsel, hosc, h⟩
      · exact ⟨_, if_pos hsup⟩
      · exact ⟨_, by rw [if_neg (by simp [hsup]), if_pos hsel]⟩
      · rw [if_neg (by simp [hsup]), if_neg hsel, Block.bootOsc_stable _ hosc]
        refine Block.bootFuses_fails _ env ?_
        rw [(Block.clocksGood_keepsRest _).same Block.fuses fun _ _ => rfl, Block.phase, Block.set_fuses, hfuses]
        exact h
    obtain ⟨t, ht⟩ := hend
    exact ⟨_, ht ▸ hon, t.holdFail_hold code, t.holdFail_out code⟩

namespace Block

/-- The block from which a device reset boots: wiped, with the straps as they were and the cause shown (R84, R85). -/
def resetFrom (b : Block) (cause : Nat) : Block :=
  ((b.wiped .none).wr uSys F.SYS.STRAPS_BOOTSEL.off (b.rd uSys F.SYS.STRAPS_BOOTSEL.off)).set uSys F.SYS.RST_CAUSE_CAUSE cause

theorem deviceReset_eq {b : Block} (h : b.boot.hold = .none) (cause : Nat) (env : BootEnv) :
    b.deviceReset cause env = (b.resetFrom cause).bootOsc env := if_pos h

theorem resetFrom_bootsel (b : Block) (cause : Nat) :
    (b.resetFrom cause).get uSys F.SYS.STRAPS_BOOTSEL = b.get uSys F.SYS.STRAPS_BOOTSEL := by
  rw [resetFrom, get_set_apart _ (by decide)]
  exact congrArg (fun v => v / 2 ^ F.SYS.STRAPS_BOOTSEL.lo % 2 ^ F.SYS.STRAPS_BOOTSEL.width)
    ((rd_wr_same ..).trans (Nat.mod_eq_of_lt (rd_lt ..)))

theorem resetFrom_cause (b : Block) (cause : Nat) : (b.resetFrom cause).get uSys F.SYS.RST_CAUSE_CAUSE = cause % 8 := by
  rw [resetFrom, get_set_same _ _ (by decide)]
  rfl

/-- Everything but the registers is as the wipe left it. -/
theorem resetFrom_keepsRest (b : Block) (cause : Nat) : (b.wiped .none).keepsRest (b.resetFrom cause) := by
  rw [resetFrom, keepsRest_set, keepsRest_wr]
  exact keepsRest_refl _

theorem cored_hold {b : Block} (h : b.cored = true) : b.boot.hold = .none := by
  by_contra hne
  rw [State.cored_held hne] at h
  cases h

end Block

/-- Settles O20: either command is a device reset, which wipes, keeps the straps, shows its cause and boots to the flash. -/
theorem deviceResetWipesAndBoots : Obligations.DeviceResetWipesAndBoots := by
  intro s dt k env hup hosc hfuse hok hlife hwipe hflash c cause hc
  have hdev := State.up.exec_next hup (exec_devReset dt env s) rfl
  have hdog := State.up.exec_next hup (exec_coreWatchdog dt k env s) rfl
  have hhold := Block.cored_hold hup
  generalize s.now dt = b at *
  have hcause : cause < 8 := by rcases hc with ⟨-, rfl⟩ | ⟨-, -, rfl⟩ <;> decide
  have hexec : exec c s = .next ⟨s.pending, (b.resetFrom cause).bootOsc env⟩ := by
    rw [← Block.deviceReset_eq hhold cause env]
    rcases hc with ⟨rfl, rfl⟩ | ⟨rfl, hruns, rfl⟩
    · exact hdev
    · rwa [if_pos hruns] at hdog
  obtain ⟨hfuses', hflash', hwiped⟩ := b.wiped_spec .none
  have hw {α : Type} (g : Block → α) (hg : ∀ (s : Block) (r : List (Nat × Word)), g { s with regs := r } = g s) :
      g (b.resetFrom cause) = g (b.wiped .none) := (b.resetFrom_keepsRest cause).same g hg
  have hfuses : (b.resetFrom cause).fuses = b.fuses := (hw Block.fuses fun _ _ => rfl).trans hfuses'
  have hat := (b.resetFrom cause).bootOsc_away (env := env)
    ⟨hosc, hfuse, by rw [hfuses]; exact hok, by rw [hfuses]; exact hlife, hwipe, hflash⟩
  have hsame {α : Type} (g : Block → α) (hg : ∀ (s : Block) (r : List (Nat × Word)) (o : List Output) (bt : BootSt),
      g { s with regs := r, out := o, boot := bt } = g s) : g ((b.resetFrom cause).bootOsc env) = g (b.wiped .none) :=
    (hat.same g hg).trans (hw g fun t r => hg t r t.out t.boot)
  have hinit {α : Type} (g : Block → α) (hg : ∀ (s : Block) (r : List (Nat × Word)) (o : List Output) (bt : BootSt),
      g { s with regs := r, out := o, boot := bt } = g s)
      (hi : ∀ (s : Block) (f : Fuses) (l : List Host.Cell) (o : List Output) (bt : BootSt) (n m : Nat), 
        g { s with fuses := f, flash := l, out := o, boot := bt, freeCtr := n, dma := { s.dma with nextId := m } } = g s) :
      g ((b.resetFrom cause).bootOsc env) = g Block.initial :=
    (hsame g hg).trans ((hi _ _ _ _ _ _ _).symm.trans (congrArg g hwiped))
  refine ⟨_, hexec, hat.cause.trans ((b.resetFrom_cause cause).trans (Nat.mod_eq_of_lt hcause)),
    hat.bootsel.trans (b.resetFrom_bootsel cause), hinit Block.staged ?_ ?_, hinit Block.commits ?_ ?_, hinit Block.mbx ?_ ?_,
    hinit (fun b => b.dma.flight) ?_ ?_, hinit Block.dmc ?_ ?_, hat.hold.trans ?hold, hat.phase,
    hat.lifecycle.trans (congrArg Fuses.life hfuses), hat.armed, (hsame Block.fuses ?_).trans hfuses',
    (hsame Block.flash ?_).trans hflash'⟩
  case hold => rw [hw Block.boot fun _ _ => rfl, b.wiped_boot .none]
  all_goals intros; rfl

end Sys2Proof.Machine

/-! # Boot steps that time out -/

namespace Sys2Proof.Machine
namespace Block

theorem portState_congr {s t : Block} (h : t.regs = s.regs) (q : Nat) : t.portState q = s.portState q := getI_congr h ..

theorem portLanes_lt {b : Block} {p l : Nat} (h : l ∈ b.portLanes p) : l < 4 := by
  unfold portLanes at h
  split at h <;> simp at h <;> omega

/-- A port's LANE registers are no part of its state. -/
theorem portState_setLanes (b : Block) {p q : Nat} (hp : p < 16) (hq : q < 16) {f : Field} (hf : f.at 0 < 0x4000) (v : Nat) :
    (b.setLanes p f v).portState q = b.portState q := by
  refine getI_foldl _ (fun l hl t => getI_setI_unit t (fun h => UnitType.noConfusion (congrArg UnitId.ty h)) ?_ (by decide) hf ?_ v) b
  · have := portLanes_lt hl
    change 4 * p + l < 256
    omega
  · change 0x140 + 0x4 * q < 0x4000
    omega

theorem sidLanes_regs (b : Block) (p : Nat) (f : SidLane → SidLane) : (b.sidLanes p f).regs = b.regs := by
  unfold sidLanes
  split <;> rfl

/-- What is found on a port's lanes is forgotten; its state is not touched (R165). -/
theorem portState_portClear (b : Block) {p q : Nat} (hp : p < 16) (hq : q < 16) : (b.portClear p).portState q = b.portState q := by
  have hstate {f : Field} (hoff : f.off = 0x140 ∧ f.stride = 4) (hbits : 3 < f.lo ∧ f.lo ≤ f.hi ∧ f.hi < 32) (t : Block) (v : Nat) :
      (t.setI uSerdes f p v).portState q = t.portState q := by
    by_cases h : q = p
    · subst h
      exact getI_setI_field t uSerdes q (by simp [hoff, hbits, F.SERDES.PORT_STAT_STATE]) v
    · exact getI_setI_inst t uSerdes h (by simp [hoff, F.SERDES.PORT_STAT_STATE]) v
  unfold portClear
  dsimp only
  rw [portState_congr (sidLanes_regs ..), portState_setLanes _ hp hq (by decide), portState_setLanes _ hp hq (by decide),
    portState_setLanes _ hp hq (by decide), hstate (by decide) (by decide), hstate (by decide) (by decide)]

theorem portEnter_zero (b : Block) (p : Nat) : b.portEnter p 0 = b.portClear p := by simp [portEnter]

theorem ctleArm_regs (b : Block) (p : Nat) : (b.ctleArm p).regs = b.regs := rfl

/-- A port that carries nothing goes OFF, and no other port changes its state. -/
theorem portState_portOff {b : Block} {p q : Nat} (hp : p < 16) (hq : q < 16) (hup : b.portState p ≠ 8) :
    (b.portOff p).portState q = if q = p then 0 else b.portState q := by
  unfold portOff
  split
  case isTrue h =>
    split
    · subst q; exact h
    · rfl
  case isFalse h =>
    have hset (t : Block) : (t.setI uSerdes F.SERDES.PORT_STAT_STATE p 0).portState q = if q = p then 0 else t.portState q := by
      split
      case isTrue h => subst h; exact getI_setI_same t uSerdes _ q 0 (by decide)
      case isFalse h => exact getI_setI_inst t uSerdes h (by decide) 0
    have hoff : ∃ t : Block, t.regs = (b.setI uSerdes F.SERDES.PORT_STAT_STATE p 0).regs ∧
        b.portGo p 0 = (t.portClear p).ctleArm p := by
      unfold portGo
      rw [if_neg (by simp), if_neg (by simp [hup]), if_pos rfl]
      dsimp only
      rw [portEnter_zero]
      exact ⟨_, by dsimp only, rfl⟩
    obtain ⟨t, ht, hgo⟩ := hoff
    rw [hgo, portState_congr (ctleArm_regs ..), portState_portClear _ hp hq, portState_congr ht, hset]

/-- Ports that carry nothing go OFF one after the other, and no other changes its state. -/
theorem portState_foldl_portOff {l : List Nat} (hl : ∀ p ∈ l, p < 16) {b : Block} (hup : ∀ p < 16, b.portState p ≠ 8) {q : Nat}
    (hq : q < 16) : (l.foldl portOff b).portState q = if q ∈ l then 0 else b.portState q := by
  induction l generalizing b with
  | nil => simp
  | cons p r ih =>
    obtain ⟨hp, hr⟩ := List.forall_mem_cons.1 hl
    have hoff {i : Nat} (hi : i < 16) := portState_portOff hp hi (hup p hp)
    have hup' : ∀ i < 16, (b.portOff p).portState i ≠ 8 := fun i hi => by
      rw [hoff hi]
      split
      · decide
      · exact hup i hi
    rw [List.foldl_cons, ih hr hup', hoff hq]
    simp only [List.mem_cons]
    split <;> split <;> simp_all

/-- Of a bypass that is neither open nor opening nothing but its two ports is closed. -/
theorem bypassClose_shut {b : Block} (hopening : b.ser.opening = false) (hopen : b.on uSerdes F.SERDES.BYPASS_STAT_OPEN = false)
    (forced : Bool) : ∃ t : Block, b.bypassClose forced = [12, 13].foldl portOff t ∧
      t.regs = ((b.set uSerdes F.SERDES.BYPASS_CTL_OPEN 0).set uSerdes F.SERDES.BYPASS_STAT_OPEN 0).regs := by
  unfold bypassClose
  simp only [hopening, hopen, Bool.or_self, Bool.and_false, Bool.false_eq_true, if_false]
  exact ⟨_, rfl, rfl⟩

/-- Ports of which none carries traffic all go OFF, the bypass being shut. -/
theorem portState_portsOff {b : Block} (hopening : b.ser.opening = false)
    (hopen : b.on uSerdes F.SERDES.BYPASS_STAT_OPEN = false) (hup : ∀ p < 16, b.portState p ≠ 8) {q : Nat} (hq : q < 16) :
    b.portsOff.portState q = 0 := by
  obtain ⟨t, hclose, hregs⟩ := bypassClose_shut hopening hopen true
  have ht : ∀ p < 16, t.portState p ≠ 8 := fun p hp => by
    have hset {f : Field} (hf : f.count = 1 ∧ 0x17c < f.off) (x : Block) : (x.set uSerdes f 0).portState p = x.portState p :=
      getI_setI_range x uSerdes (by omega) hp (by simp [hf, F.SERDES.PORT_STAT_STATE]) 0
    rw [portState_congr hregs, hset (by decide), hset (by decide)]
    exact hup p hp
  rw [portsOff, hclose, ← List.foldl_append, portState_foldl_portOff (by decide) ht hq]
  exact if_pos (List.mem_append_right _ (List.mem_range.2 hq))

/-- A hold finds every port OFF of which none carried traffic. -/
theorem holdFail_ports {b : Block} (code : Nat) (hopening : b.ser.opening = false)
    (hopen : b.on uSerdes F.SERDES.BYPASS_STAT_OPEN = false) (hup : ∀ p < 16, b.portState p ≠ 8) {q : Nat} (hq : q < 16) :
    (b.holdFail code).portState q = 0 := by
  have hlink : (b.portsOff.set uHost F.HOST.LINK_UP 0).portState q = b.portsOff.portState q :=
    getI_setI_unit _ (by decide) (by decide) (by decide) (by decide) (by change 0x140 + 0x4 * q < 0x4000; omega) 0
  rw [portState_congr (holdFail_regs b code), hlink, portState_portsOff hopening hopen hup hq]

end Block

/-- Settles O23: each of the three is a hold with its code under its own condition. -/
theorem bootTimeoutsHold : Obligations.BootTimeoutsHold := by
  intro s dt hhold c code hc
  have hosc := State.exec_run (exec_oscStableTimeout dt s) rfl
  have hflash := State.exec_run (exec_flashTimeout dt s) rfl
  have halive := State.exec_run (exec_aliveTimeout dt s) rfl
  generalize s.now dt = b at *
  have hexec : exec c s = .next ⟨s.pending, b.holdFail code⟩ := by
    rcases hc with ⟨rfl, hphase, rfl⟩ | ⟨rfl, hphase, rfl⟩ | ⟨rfl, hphase, hseen, hbegan, hlong, rfl⟩
    · rwa [Block.oscTimeout, if_pos ⟨hhold, hphase⟩] at hosc
    · rwa [Block.flashTimeout, if_pos ⟨hhold, hphase⟩] at hflash
    · have hcored : b.cored = true := by simp [Block.cored, hhold, hphase]
      rwa [Block.aliveTimeout, if_pos (by simp [hcored, hseen, hbegan, hlong])] at halive
  exact ⟨_, hexec, b.holdFail_hold code, b.holdFail_link code,
    fun hup hopening hopen q hq => Block.holdFail_ports code hopening hopen hup hq, b.holdFail_out code⟩

end Sys2Proof.Machine

/-! # The first ALIVE -/

namespace Sys2Proof.Machine
namespace Block

/-- Firmware shows itself: ALIVE set, and the second copies of the fuses completed (R75, R91). -/
def aliveSeen (b : Block) : Block :=
  { b.set uSys F.SYS.BOOT_CTL_ALIVE 1 with
    boot := { b.boot with began := true }
    fuses := { b.fuses with
      lifeB := b.fuses.lifeA
      keys := b.fuses.keys.map fun k => { k with fusedB := k.fused, revokedB := k.revoked } } }

theorem fuseCopies_alive (b : Block) : { (b.set uSys F.SYS.BOOT_CTL_ALIVE 1).fuseCopies with
    boot := { (b.set uSys F.SYS.BOOT_CTL_ALIVE 1).fuseCopies.boot with began := true } } = b.aliveSeen := rfl

theorem getI_aliveSeen (b : Block) {u : UnitId} {f : Field} {i : Nat} (h : apart uSys F.SYS.BOOT_CTL_ALIVE 0 u f i = true) :
    b.aliveSeen.getI u f i = b.getI u f i :=
  (getI_congr rfl u f i).trans (getI_setI_apart b h 1)

/-- ALIVE of firmware that has shown itself does nothing. -/
theorem bootAlive_begun {b : Block} (h : b.boot.began = true) (flashOk : Bool) : b.bootAlive flashOk = b := if_neg (by simp [h])

/-- The AVSBus asked for control, the slew rate and P1's voltage, which is the set point from then on (R113, R119). -/
def aliveVoltage (b : Block) (slew mv : Nat) : Block :=
  let t := b.emits [.avs 15 none, .avs 1 (some slew), .avs 0 (some mv)]
  { t with clk := { b.clk with vcore := mv } }

theorem bootAlive_first {b : Block} (hup : b.cored = true) (h : b.boot.began = false) (flashOk : Bool) :
    b.bootAlive flashOk =
      (((((b.aliveSeen.aliveVoltage (b.get uClk F.CLK.PSTATE_CFG_SLEW) (b.getI uClk F.CLK.PVOLT_MV 1)).voltageRead.pstateReq 1).set
        uDmc F.DMC.STAT_STATE 1).laneTables).journalRead flashOk).portsEnable := by
  have hmv : b.aliveSeen.getI uClk F.CLK.PVOLT_MV 1 = b.getI uClk F.CLK.PVOLT_MV 1 := getI_aliveSeen b (by decide)
  have hslew : b.aliveSeen.get uClk F.CLK.PSTATE_CFG_SLEW = b.get uClk F.CLK.PSTATE_CFG_SLEW := getI_aliveSeen b (by decide)
  unfold bootAlive
  rw [if_pos (by simp [hup, h])]
  extract_lets s₁ boot₁ s₂ mv s₃ clk₃ s₄ s₅
  have hseen : s₂ = b.aliveSeen := fuseCopies_alive b
  have hvoltage : s₄ = b.aliveSeen.aliveVoltage (b.get uClk F.CLK.PSTATE_CFG_SLEW) (b.getI uClk F.CLK.PVOLT_MV 1) := by
    simp only [s₄, clk₃, s₃, mv, hseen, hmv, hslew, emits_clk]
    rfl
  rw [← hvoltage]

end Block

/-- Settles O25. -/
theorem aliveBringsTheFirmwareUp : Obligations.AliveBringsTheFirmwareUp := by
  intro s dt flashOk hup
  have hexec := State.up.exec_next hup (exec_alive dt flashOk s) rfl
  have hcored : (s.now dt).cored = true := hup
  generalize s.now dt = b at *
  refine ⟨fun h => ?first, fun h => ?again⟩
  case first => rwa [Block.bootAlive_first hcored h] at hexec
  case again => rwa [Block.bootAlive_begun h] at hexec

end Sys2Proof.Machine

/-! # The DRAM in boot -/

namespace Sys2Proof.Machine
namespace Block

/-! ## A P-state request leaves the DRAM controller's state as it is -/

theorem rd_pauseAbandon (b : Block) {off : Nat} (ho : off < 0x200) : b.pauseAbandon.rd uDmc off = b.rd uDmc off := by
  unfold pauseAbandon
  split
  · next c _ =>
    exact (rd_congr (by rfl) ..).trans (rd_setI_ne b (regKey_off_ne uDmc (by simp only [Field.at, F.DMC.CH_STAT_STATE]; omega)) 0)
  · rfl

theorem pauseAbandon_mem (b : Block) : b.pauseAbandon.dmc.mem = b.dmc.mem := by
  unfold pauseAbandon
  split <;> rfl

theorem govSwitch_regs (b : Block) (p : Nat) : (b.govSwitch p).regs = b.regs := by
  unfold govSwitch
  split <;> rfl

theorem govSwitch_dmc (b : Block) (p : Nat) : (b.govSwitch p).dmc = b.dmc := by
  unfold govSwitch
  split <;> rfl

/-- A write to another unit is not read in the DMC. -/
theorem rd_set_dmc (b : Block) {u : UnitId} (hu : uDmc ≠ u) {f : Field} (hi : u.inst < 256 ∧ f.at 0 < 0x4000) (v : Nat) {off : Nat}
    (ho : off < 0x200) : (b.set u f v).rd uDmc off = b.rd uDmc off :=
  rd_setI_unit b hu hi.1 (by decide) hi.2 (by omega) v

theorem pstateStart_dmc (b : Block) {off : Nat} (ho : off < 0x200) :
    b.pstateStart.rd uDmc off = b.rd uDmc off ∧ b.pstateStart.dmc.mem = b.dmc.mem := by
  unfold pstateStart
  extract_lets t c clk₁ s₁ s₂
  split
  · exact ⟨rfl, rfl⟩
  have h₁ : s₁.rd uDmc off = b.rd uDmc off ∧ s₁.dmc.mem = b.dmc.mem := ⟨rd_congr rfl .., rfl⟩
  clear_value s₁
  have h₂ : s₂.rd uDmc off = b.rd uDmc off ∧ s₂.dmc.mem = b.dmc.mem := by
    simp only [s₂, rd_set_dmc _ (show uDmc ≠ uClk by decide) (show _ ∧ F.CLK.PSTATE_BUSY.at 0 < 0x4000 by decide) _ ho, set_dmc,
      rd_pauseAbandon _ ho, pauseAbandon_mem, h₁, and_self]
  clear_value s₂
  split
  · rw [rd_congr (govSwitch_regs ..), govSwitch_dmc, set_dmc, rd_set_dmc _ (by decide) (by decide) _ ho]
    exact h₂
  · rw [rd_congr (emit_regs ..), emit_dmc]
    exact h₂

theorem retarget_dmc (b : Block) {off : Nat} (ho : off < 0x200) :
    b.retarget.rd uDmc off = b.rd uDmc off ∧ b.retarget.dmc.mem = b.dmc.mem := by
  unfold retarget
  extract_lets t s₀ clk₁ s₁
  have h₁ : s₁.rd uDmc off = b.rd uDmc off ∧ s₁.dmc.mem = b.dmc.mem := by
    unfold s₁
    split
    · exact ⟨rfl, rfl⟩
    · have hset := rd_set_dmc b (u := uClk) (f := F.CLK.PSTATE_TARGET) (by decide) (by decide) t ho
      exact ⟨(rd_congr rfl ..).trans hset, rfl⟩
  obtain ⟨hrd, hmem⟩ := s₁.pstateStart_dmc ho
  exact ⟨hrd.trans h₁.1, hmem.trans h₁.2⟩

/-- A request for a P-state moves the DRAM's controller not at all, and no byte of DRAM. -/
theorem pstateReq_dmc (b : Block) (req : Nat) {off : Nat} (ho : off < 0x200) :
    (b.pstateReq req).rd uDmc off = b.rd uDmc off ∧ (b.pstateReq req).dmc.mem = b.dmc.mem := by
  obtain ⟨hrd, hmem⟩ := retarget_dmc (b.set uClk F.CLK.PSTATE_REQ_REQ req) ho
  exact ⟨hrd.trans (rd_set_dmc b (by decide) (by decide) req ho), hmem.trans (by rw [set_dmc])⟩

theorem get_bootState (b : Block) {f : Field} (hf : f.at 0 < 0x200) : b.bootState.get uDmc f = b.get uDmc f := by
  rw [get, getI, bootState, (pstateReq_dmc b _ hf).1, get, getI]

/-! ## The record of the training is written to CAL alone (R617) -/

theorem journalState_rd (b : Block) {u : UnitId} (hu : u ≠ uCal) (hi : u.inst < 256) {off : Nat} (ho : off < 0x4000) :
    b.journalState.rd u off = b.rd u off := by
  unfold journalState
  split
  · exact rd_setI_unit b hu (by decide) hi (by decide) ho 3
  · rfl

theorem rd_journalWrite {u : UnitId} (hu : u ≠ uCal) (hi : u.inst < 256) {off : Nat} (ho : off < 0x4000) (bytes : List Nat)
    (tries bad : Nat) (b : Block) : (b.journalWrite bytes bad tries).2.rd u off = b.rd u off := by
  have hset {f : Field} (hf : f.at 0 < 0x4000) (t : Block) (v : Nat) : (t.setI uCal f 0 v).rd u off = t.rd u off :=
    rd_setI_unit t hu (by decide) hi hf ho v
  induction tries generalizing bad b with
  | zero => cases bad <;> rfl
  | succ tries ih =>
    unfold journalWrite
    extract_lets a cal₁ s₁ s₂ at₁ wild s₃
    have h₂ : s₂.rd u off = b.rd u off := hset (by decide) s₁ _
    have h₃ : s₃.rd u off = b.rd u off := (hset (by decide) (s₂.took.took.flashWrite at₁ wild) _).trans h₂
    clear_value s₃ s₂
    split
    · exact hset (by decide) b 1
    · split
      · exact (journalState_rd _ hu hi ho).trans h₂
      · rw [ih, journalState_rd _ hu hi ho]
        exact (hset (by decide) s₃ 1).trans h₃

theorem rd_journalStore (b : Block) {u : UnitId} (hu : u ≠ uCal) (hi : u.inst < 256) {off : Nat} (ho : off < 0x4000)
    (proc target flags grade : Nat) (words : List Nat) (fig : Int) (bad : Nat) :
    (b.journalStore proc target flags grade words fig bad).2.rd u off = b.rd u off := by
  unfold journalStore
  extract_lets st q bytes cal₁ next₁ next cal₂
  have hnext : next.rd u off = b.rd u off := rfl
  split
  · rfl
  · split
    · split
      · exact (rd_congr rfl ..).trans hnext
      · exact rd_setI_unit b hu (by decide) hi (by decide) ho 1
    · split
      · next t ht =>
        have hw := rd_journalWrite hu hi ho bytes 2 bad next
        rw [ht] at hw
        exact hw.trans hnext
      · exact rd_journalWrite hu hi ho bytes 2 bad b

theorem rd_bootDramRecord (b : Block) {u : UnitId} (hu : u ≠ uCal) (hi : u.inst < 256) {off : Nat} (ho : off < 0x4000) :
    b.bootDramRecord.rd u off = b.rd u off := by
  unfold bootDramRecord
  extract_lets o far due
  split
  · exact rd_journalStore b hu hi ho ..
  · rfl

/-! ## The two steps -/

/-- After DRAM training the DRAM is to be wiped, or unavailable. -/
theorem trainingDone_state {b : Block} (hup : b.cored = true) (hstate : b.get uDmc F.DMC.STAT_STATE ≤ 1) (ok : Bool) :
    (b.trainingDone ok).get uDmc F.DMC.STAT_STATE = if ok then 2 else 5 := by
  have hphase : 8 ≤ b.get uSys F.SYS.BOOT_STAT_PHASE := by
    simp only [cored, Bool.and_eq_true, decide_eq_true_eq] at hup
    exact hup.2
  rw [trainingDone, if_neg (by omega)]
  cases ok with
  | true => exact get_set_same b uDmc (by decide) 2
  | false =>
    have hfail := rd_unitFail_unit ((b.set uDmc F.DMC.STAT_STATE 5).flag uDmc F.DMC.FLAGS_TRAIN_FAIL) (u := uDmc)
      (off := F.DMC.STAT_STATE.at 0) (by decide) (by decide) (by decide) (by decide) (by decide)
      (f := F.SYS.UNIT_FAIL_DMC) (by decide) 0
    simp only [Bool.false_eq_true, if_false, get, getI]
    rw [hfail, ← getI, getI_flag _ (by decide) (by decide) (by decide) (by decide) (by decide)]
    exact get_set_same b uDmc (by decide) 5

/-- After the wipe every byte of DRAM is zero. -/
theorem wipeDone_eq {b : Block} (h : b.get uDmc F.DMC.STAT_STATE = 2) : b.wipeDone.dmc.mem = [] ∧
    b.wipeDone.get uDmc F.DMC.STAT_STATE = 3 ∧ b.wipeDone.get uDmc F.DMC.WIPE_DONE = 1 := by
  rw [wipeDone, if_pos h]
  refine ⟨rfl, get_set_same _ uDmc (f := F.DMC.STAT_STATE) (by decide) 3, ?_⟩
  refine (get_set_apart _ (f := F.DMC.STAT_STATE) (by decide) 3).trans ?_
  exact get_set_same _ uDmc (f := F.DMC.WIPE_DONE) (by decide) 1

end Block

/-- Settles O26. -/
theorem dramComesUpInBoot : Obligations.DramComesUpInBoot := by
  intro s dt ok eyes hup
  have htrained := State.up.exec_next hup (exec_dramTrainingDone dt ok eyes s) rfl
  have hwiped := State.up.exec_next hup (exec_dramWipeDone dt s) rfl
  have hcored : (s.now dt).cored = true := hup
  generalize s.now dt = b at *
  refine ⟨fun hbegan hstate => ⟨_, htrained, ?trained⟩, fun hstate => ⟨_, hwiped, ?wiped⟩⟩
  case trained =>
    rw [← Block.trainingDone_state hcored hstate ok, Block.bootTraining, if_pos (by simp [hcored, hbegan, hstate])]
    dsimp only
    generalize b.trainingDone ok = t
    split
    · exact congrArg (fun v => bits v F.DMC.STAT_STATE.hi F.DMC.STAT_STATE.lo)
        ((Block.rd_bootDramRecord _ (by decide) (by decide) (by decide)).trans (Block.rd_congr rfl ..))
    · exact Block.get_bootState t (by decide)
  case wiped =>
    obtain ⟨hmem, hstate', hdone⟩ := Block.wipeDone_eq hstate
    rw [Block.bootWipe, if_pos (by simp [hcored, hstate])]
    generalize b.wipeDone = t at *
    exact ⟨(Block.get_bootState t (by decide)).trans hstate', (Block.get_bootState t (by decide)).trans hdone,
      (Block.pstateReq_dmc (off := 0) t _ (by decide)).2.trans hmem⟩

end Sys2Proof.Machine

/-! # RUNNING where nothing waits for it -/

namespace Sys2Proof.Machine
namespace Block

/-- The units whose registers say what RUNNING starts: the thermal zones, the SerDes reference, the ring. -/
def startUnits : List UnitId := [uThm, uClk, uRing]

/-- What RUNNING starts is in `t` as in `b`: channels, mailboxes, boot state, ring and the registers of `startUnits`. -/
structure SameStart (b t : Block) : Prop where
  dma : t.dma = b.dma
  mbx : t.mbx = b.mbx
  boot : t.boot = b.boot
  ring : t.ring = b.ring
  regs : ∀ u ∈ startUnits, ∀ off < 0x4000, t.rd u off = b.rd u off

theorem SameStart.refl (b : Block) : b.SameStart b := ⟨rfl, rfl, rfl, rfl, fun _ _ _ _ => rfl⟩

theorem SameStart.trans {b t x : Block} (h : b.SameStart t) (h' : t.SameStart x) : b.SameStart x :=
  ⟨h'.dma.trans h.dma, h'.mbx.trans h.mbx, h'.boot.trans h.boot, h'.ring.trans h.ring,
    fun u hu off ho => (h'.regs u hu off ho).trans (h.regs u hu off ho)⟩

theorem SameStart.foldl {α : Type} {f : Block → α → Block} (l : List α) (h : ∀ a t, SameStart t (f t a)) (b : Block) :
    b.SameStart (l.foldl f b) := by
  induction l generalizing b with
  | nil => exact .refl b
  | cons a r ih => exact (h a b).trans (ih _)

theorem SameStart.ite {c : Prop} [Decidable c] {b t x : Block} (ht : b.SameStart t) (hx : b.SameStart x) :
    b.SameStart (if c then t else x) := by
  split <;> assumption

theorem startUnits_ne {u : UnitId} (h : u ∈ startUnits) : u.inst < 256 ∧ u ≠ uSys ∧ u ≠ uHost ∧ u ≠ uErrlog ∧ u ≠ uBar2 ∧
    u ≠ uAxis 0 ∧ u ≠ uAxis 1 := by
  simp only [startUnits, List.mem_cons, List.not_mem_nil, or_false] at h
  rcases h with rfl | rfl | rfl <;> decide

theorem sameStart_unitFail (b : Block) {f : Field} (hf : f.at 0 < 0x4000) (n : Nat) : b.SameStart (b.unitFail f n) where
  dma := by
    unfold unitFail
    dsimp only
    split
    · rfl
    · split <;> simp
  mbx := unitFail_mbx ..
  boot := unitFail_boot ..
  ring := by
    unfold unitFail
    dsimp only
    split
    · rfl
    · split <;> simp
  regs u hu off ho := by
    obtain ⟨hi, hs, hh, he, -⟩ := startUnits_ne hu
    exact rd_unitFail_unit b hs hh he hi ho hf n

theorem sameStart_set (b : Block) {f : Field} (hf : f.at 0 < 0x4000) (v : Nat) : b.SameStart (b.set uSys f v) where
  dma := set_dma ..
  mbx := set_mbx ..
  boot := set_boot ..
  ring := set_ring ..
  regs u hu off ho := by
    obtain ⟨hi, hs, -⟩ := startUnits_ne hu
    exact rd_setI_unit b hs (by decide) hi hf ho v

theorem sameStart_emit (b : Block) (o : Output) : b.SameStart (b.emit o) :=
  ⟨emit_dma .., emit_mbx .., emit_boot .., emit_ring .., fun _ _ _ _ => rd_emit ..⟩

theorem sameStart_hostIrq (b : Block) {f : Field} (hf : f.at 0 < 0x4000) : b.SameStart (b.hostIrq f) where
  dma := hostIrq_dma ..
  mbx := hostIrq_mbx ..
  boot := hostIrq_boot ..
  ring := hostIrq_ring ..
  regs u hu off ho := by
    obtain ⟨hi, -, hh, -⟩ := startUnits_ne hu
    exact rd_hostIrq b hh hi ho hf

theorem sameStart_unitsMissing (b : Block) : b.SameStart b.unitsMissing := by
  have hmiss (t : Block) {f : Field} (hf : f.at 0 < 0x4000) {c : Prop} [Decidable c] (n : Nat) :
      t.SameStart (if c then t else t.unitFail f n) := .ite (.refl t) (sameStart_unitFail t hf n)
  have hmiss' (t : Block) {f : Field} (hf : f.at 0 < 0x4000) {c : Prop} [Decidable c] (n : Nat) :
      t.SameStart (if c then t.unitFail f n else t) := .ite (sameStart_unitFail t hf n) (.refl t)
  unfold unitsMissing
  extract_lets s₁ s₂ s₃ s₄
  exact ((((hmiss b (by decide) 0).trans (hmiss s₁ (by decide) 0)).trans (hmiss s₂ (by decide) 0)).trans
    (hmiss' s₃ (by decide) 0)).trans (.foldl _ (fun k t => hmiss t (by decide) k) s₄)

/-! ## Messages to the host -/

/-- `t` is `b` but for registers, pending bits, outputs, the stores that wait and the device-to-host block: what a message
to the host may change. -/
def OutboxOnly (b t : Block) : Prop := ∃ r p ou ob b₁,
  t = { b with regs := r, host := { b.host with pba := p }, out := ou, mbx := { b.mbx with outbox := ob, block1 := b₁ } }

theorem OutboxOnly.refl (b : Block) : b.OutboxOnly b := ⟨_, _, _, _, _, rfl⟩

theorem OutboxOnly.trans {b t x : Block} (h : b.OutboxOnly t) (h' : t.OutboxOnly x) : b.OutboxOnly x := by
  obtain ⟨_, _, _, _, _, rfl⟩ := h
  obtain ⟨_, _, _, _, _, rfl⟩ := h'
  exact ⟨_, _, _, _, _, rfl⟩

theorem outboxOnly_msix (b : Block) (v : Nat) : b.OutboxOnly (b.msix v) := by
  unfold msix
  dsimp only
  split
  · split <;> exact ⟨_, _, _, _, _, rfl⟩
  · exact ⟨_, _, _, _, _, rfl⟩

theorem outboxOnly_setBitI (b : Block) (u : UnitId) (f : Field) (i n : Nat) : b.OutboxOnly (b.setBitI u f i n) := by
  obtain ⟨_, hm⟩ := b.setBitI_eq u f i n
  exact ⟨_, _, _, _, _, hm⟩

/-- The first store of the outbox carried out; `none` when the outbox is empty or its place is full. -/
def pumpOne (b : Block) : Option Block :=
  match b.mbx.outbox with
  | [] => none
  | .word m w :: rest =>
    if b.f2hFull m then none
    else
      let b : Block := { b with mbx := { b.mbx with outbox := rest } }
      let b := (b.setI uBar2 F.MBXB.F2H_DATA m w).setBitI uBar2 F.MBXB.WSTAT_F2H_FULL 0 m
      some (if m = 0 then b.msix 57 else b)
  | .block ws :: rest =>
    if b.onI uBar2 F.MBXB.BLK_CTL_GO 1 then none
    else
      let b : Block := { b with mbx := { b.mbx with outbox := rest, block1 := storeWriteN (fun _ => 0) b.mbx.block1 0 ws } }
      some (((b.setI uBar2 F.MBXB.BLK_CTL_LENGTH 1 (4 * ws.length)).setI uBar2 F.MBXB.BLK_CTL_GO 1 1).msix 58)

theorem pumpOut_succ (b : Block) (n : Nat) : b.pumpOut (n + 1) = match b.pumpOne with
    | none => b
    | some t => t.pumpOut n := by
  rw [pumpOut, pumpOne]
  cases b.mbx.outbox with
  | nil => rfl
  | cons o rest =>
    cases o <;> dsimp only <;> split <;> rfl

/-- What each store carried out keeps, `pumpOut` keeps. -/
theorem pumpOut_induct {P : Block → Block → Prop} (hrefl : ∀ b, P b b) (htrans : ∀ {b t x}, P b t → P t x → P b x)
    (hone : ∀ b t, pumpOne b = some t → P b t) (n : Nat) (b : Block) : P b (b.pumpOut n) := by
  induction n generalizing b with
  | zero => exact hrefl b
  | succ n ih =>
    rw [pumpOut_succ]
    split
    · exact hrefl b
    · next t ht => exact htrans (hone b t ht) (ih t)

theorem pumpOne_outboxOnly {b t : Block} (h : b.pumpOne = some t) : b.OutboxOnly t := by
  unfold pumpOne at h
  split at h
  · cases h
  · next m w rest _ =>
    have htook : b.OutboxOnly ({ b with mbx := { b.mbx with outbox := rest } }.setI uBar2 F.MBXB.F2H_DATA m w) :=
      ⟨_, _, _, _, _, rfl⟩
    split at h
    · cases h
    · cases h
      have hword := htook.trans (outboxOnly_setBitI _ uBar2 F.MBXB.WSTAT_F2H_FULL 0 m)
      split
      · exact hword.trans (outboxOnly_msix _ 57)
      · exact hword
  · split at h
    · cases h
    · cases h
      exact OutboxOnly.trans ⟨_, _, _, _, _, rfl⟩ (outboxOnly_msix _ 58)

/-- A message to the host changes nothing but registers, the host port, outputs, the stores that wait and block 1. -/
theorem send_outboxOnly (b : Block) (typ tag : Nat) (payload : List Nat) : b.OutboxOnly (b.send typ tag payload) := by
  unfold send post
  exact OutboxOnly.trans ⟨_, _, _, _, _, rfl⟩
    (pumpOut_induct OutboxOnly.refl OutboxOnly.trans (fun _ _ => pumpOne_outboxOnly) _ _)

/-- A register that stands before those of BAR2 is none that a message writes, whatever word mailbox a store names. -/
theorem rd_pumpOne_below {b t : Block} (h : b.pumpOne = some t) {u : UnitId} {off : Nat} (hk : regKey u off < regKey uBar2 0) :
    t.rd u off = b.rd u off := by
  have hset (x : Block) (f : Field) (i v : Nat) : (x.setI uBar2 f i v).rd u off = x.rd u off :=
    rd_setI_ne x (by simp only [regKey] at hk ⊢; omega) v
  have hbit (x : Block) (f : Field) (i n : Nat) : (x.setBitI uBar2 f i n).rd u off = x.rd u off := by
    unfold setBitI
    split
    · rfl
    · exact hset ..
  unfold pumpOne at h
  split at h
  · cases h
  · split at h
    · cases h
    · cases h
      split
      · rw [rd_msix, hbit, hset]; rfl
      · rw [hbit, hset]; rfl
  · split at h
    · cases h
    · cases h
      rw [rd_msix, hset, hset]; rfl

theorem rd_send_below (b : Block) {u : UnitId} {off : Nat} (hk : regKey u off < regKey uBar2 0) (typ tag : Nat)
    (payload : List Nat) : (b.send typ tag payload).rd u off = b.rd u off := by
  unfold send post
  exact pumpOut_induct (P := fun b t => t.rd u off = b.rd u off) (fun _ => rfl) (fun h h' => h'.trans h)
    (fun _ _ h => rd_pumpOne_below h hk) _ _

/-! ## RUNNING -/

/-- Nothing waits for RUNNING: no held GO, no request, no early doorbell, no message of another device, no zone to throttle,
no SerDes reference and no ring to join. -/
structure NothingWaits (b : Block) : Prop where
  gos : ∀ n < 56, (b.chan n).heldGo = false
  word : b.mbx.wordWaiting = none
  block : b.mbx.blockWaiting = none
  bells : b.boot.earlyBells = []
  inbox : b.ring.inbox = []
  zone : b.zoneAt F.THM.HIGH_THR_THROTTLE = none
  ref : b.on uClk F.CLK.SRC_STAT_REF_OK = false
  ring : b.on uRing F.RING.CFG_EN = false

/-- It is so where the same is to be started, though stores to the host wait. -/
theorem NothingWaits.same {b t : Block} (h : b.NothingWaits) (hdma : t.dma = b.dma)
    (hword : t.mbx.wordWaiting = b.mbx.wordWaiting) (hblock : t.mbx.blockWaiting = b.mbx.blockWaiting) (hboot : t.boot = b.boot)
    (hring : t.ring = b.ring) (hregs : ∀ u ∈ startUnits, ∀ off < 0x4000, t.rd u off = b.rd u off) : t.NothingWaits := by
  have hget {u : UnitId} (hu : u ∈ startUnits) {f : Field} {i : Nat} (hf : f.at i < 0x4000) : t.getI u f i = b.getI u f i := by
    rw [getI, hregs u hu _ hf, getI]
  refine ⟨?_, hword.trans h.word, hblock.trans h.block, by rw [hboot]; exact h.bells, by rw [hring]; exact h.inbox, ?_, ?_, ?_⟩
  · simpa only [chan, hdma] using h.gos
  · have hthr : t.thr F.THM.HIGH_THR_THROTTLE = b.thr F.THM.HIGH_THR_THROTTLE :=
      congrArg (fun v => 8 * sext F.THM.HIGH_THR_THROTTLE.width v) (hget (i := 0) (by decide) (by decide))
    have hzone : ∀ z < 6, t.zoneHigh z = b.zoneHigh z := fun z hz =>
      congrArg (sext F.THM.ZONE_HIGH.width) (hget (by decide) (by simp only [Field.at, F.THM.ZONE_HIGH]; omega))
    rw [← h.zone]
    exact List.find?_congr fun z hz => by rw [hthr, hzone z (List.mem_range.1 hz)]
  · exact (congrArg (· != 0) (hget (f := F.CLK.SRC_STAT_REF_OK) (i := 0) (by decide) (by decide))).trans h.ref
  · exact (congrArg (· != 0) (hget (f := F.RING.CFG_EN) (i := 0) (by decide) (by decide))).trans h.ring

theorem NothingWaits.sameStart {b t : Block} (h : b.NothingWaits) (hs : b.SameStart t) : t.NothingWaits :=
  h.same hs.dma (by rw [hs.mbx]) (by rw [hs.mbx]) hs.boot hs.ring hs.regs

/-- A message to the host makes nothing wait. -/
theorem NothingWaits.send {b : Block} (h : b.NothingWaits) (hout : b.mbx.outbox = []) (typ tag : Nat) (payload : List Nat) :
    (b.send typ tag payload).NothingWaits := by
  have hregs : ∀ u ∈ startUnits, ∀ off < 0x4000, (b.send typ tag payload).rd u off = b.rd u off := fun u hu off ho => by
    obtain ⟨hi, -, -, -, hb, -⟩ := startUnits_ne hu
    exact rd_send b hb hi ho (by simp [hout]) typ tag payload
  obtain ⟨_, _, _, _, _, hsend⟩ := b.send_outboxOnly typ tag payload
  generalize b.send typ tag payload = t at *
  subst hsend
  exact h.same rfl rfl rfl rfl rfl hregs

theorem foldl_fixed {α β : Type} {f : β → α → β} {b : β} {l : List α} (h : ∀ a ∈ l, f b a = b) : l.foldl f b = b := by
  induction l with
  | nil => rfl
  | cons a r ih => rw [List.foldl_cons, h a List.mem_cons_self, ih fun c hc => h c (List.mem_cons_of_mem a hc)]

section
variable {b : Block} (h : b.NothingWaits)
include h

theorem NothingWaits.heldGos_eq : b.heldGos = b := by
  refine foldl_fixed fun n hn => ?_
  rw [h.gos n (List.mem_range.1 hn)]

theorem NothingWaits.takeInbox_eq : b.takeInbox = b := by
  simp [takeInbox, takeWord, takeBlock, h.word, h.block]

theorem NothingWaits.earlyBells_eq : b.earlyBells = b := by
  have hkept : { b with boot := { b.boot with earlyBells := b.boot.earlyBells } } = b := rfl
  rw [h.bells] at hkept
  rw [earlyBells, h.bells, hkept]
  rfl

theorem NothingWaits.takePeers_eq : b.takePeers = b := by
  have hkept : { b with ring := { b.ring with
    inbox := b.ring.inbox, credit := { b.ring.credit with mbxGranted := b.ring.credit.mbxGranted + 0 } } } = b := rfl
  rw [h.inbox] at hkept
  rw [takePeers, h.inbox]
  split
  · exact hkept
  · rfl

theorem NothingWaits.throttleRequest_eq : b.throttleRequest = b := by
  simp [throttleRequest, h.zone]

theorem NothingWaits.ringTryInsert_eq : b.ringTryInsert = b := by
  simp [ringTryInsert, h.ring]

theorem NothingWaits.portsEnable_eq : b.portsEnable = b :=
  foldl_fixed fun p _ => by simp [portEnable, portMayStart, h.ref]

end

/-- The axes leave OFF: the AXIS registers alone (R452). -/
theorem sameStart_axesStart (b : Block) : b.SameStart b.axesStart := by
  have hset (t : Block) {a : Nat} (ha : a = 0 ∨ a = 1) : t.SameStart (t.set (uAxis a) F.AXIS.STAT_STATE 1) := by
    refine ⟨set_dma .., set_mbx .., set_boot .., set_ring .., fun u hu off ho => ?_⟩
    obtain ⟨hi, -, -, -, -, h0, h1⟩ := startUnits_ne hu
    rcases ha with rfl | rfl
    · exact rd_setI_unit t h0 (by decide) hi (by decide) ho 1
    · exact rd_setI_unit t h1 (by decide) hi (by decide) ho 1
  simp only [axesStart, List.foldl]
  exact (SameStart.ite (hset b (.inl rfl)) (.refl b)).trans (.ite (hset _ (.inr rfl)) (.refl _))

theorem axesStart_phase (b : Block) : b.axesStart.get uSys F.SYS.BOOT_STAT_PHASE = b.get uSys F.SYS.BOOT_STAT_PHASE := by
  refine getI_foldl _ (fun a ha t => ?_) b
  split
  · exact getI_setI_unit t (fun h => UnitType.noConfusion (congrArg UnitId.ty h)) (by fin_cases ha <;> decide) (by decide)
      (by decide) (by decide) 1
  · rfl

theorem copperStart_regs (b : Block) : b.copperStart.regs = b.regs := by
  refine foldl_keeps Block.regs _ (fun p _ t => ?_) b
  split <;> rfl

theorem sameStart_copperStart (b : Block) : b.SameStart b.copperStart := by
  refine .foldl _ (fun p t => ?_) b
  split <;> exact ⟨rfl, rfl, rfl, rfl, fun _ _ _ _ => rfl⟩

theorem sameStart_tunBegins (b : Block) : b.SameStart b.tunBegins := by
  refine .foldl _ (fun k t => ?_) b
  unfold tunBegin
  dsimp only
  split <;> exact ⟨rfl, rfl, rfl, rfl, fun _ _ _ _ => rfl⟩

theorem tunBegins_regs (b : Block) : b.tunBegins.regs = b.regs := by
  refine foldl_keeps Block.regs _ (fun k _ t => ?_) b
  unfold tunBegin
  dsimp only
  split <;> rfl

/-- Where nothing waits RUNNING starts nothing after its notice but the axes, copper training and tunnel frames. -/
theorem NothingWaits.start_phase {b : Block} (h : b.NothingWaits) :
    (((((((((b.heldGos.axesStart).takeInbox).earlyBells).takePeers).thmAtRunning).copperStart).portsEnable).tunBegins).ringTryInsert).get
      uSys F.SYS.BOOT_STAT_PHASE = b.get uSys F.SYS.BOOT_STAT_PHASE := by
  have haxes : b.axesStart.NothingWaits := h.sameStart (sameStart_axesStart b)
  have hcopper := haxes.sameStart (sameStart_copperStart _)
  rw [h.heldGos_eq, haxes.takeInbox_eq, haxes.earlyBells_eq, haxes.takePeers_eq, thmAtRunning, haxes.throttleRequest_eq,
    hcopper.portsEnable_eq, (hcopper.sameStart (sameStart_tunBegins _)).ringTryInsert_eq, get_congr (tunBegins_regs _),
    get_congr (copperStart_regs _), axesStart_phase]

/-- RUNNING shows PHASE 10 to its end. -/
theorem running_phase {b : Block} (hmay : b.mayRun = true) (h : b.NothingWaits) (hout : b.mbx.outbox = []) :
    b.running.get uSys F.SYS.BOOT_STAT_PHASE = 10 := by
  unfold running
  rw [if_pos hmay]
  extract_lets s₁ s₂ s₃ s₄ s₅ s₆
  have same₁ : b.SameStart s₁ := (sameStart_unitsMissing b).trans (sameStart_set _ (by decide) 10)
  have same₂ : b.SameStart s₂ := same₁.trans (sameStart_set s₁ (by decide) _)
  have same₃ : b.SameStart s₃ := same₂.trans (.ite (.refl s₂) (sameStart_emit s₂ _))
  have same₄ : b.SameStart s₄ := same₃.trans (.foldl _ (fun k t => .ite (sameStart_emit t _) (.refl t)) s₃)
  have same₅ : b.SameStart s₅ := same₄.trans (sameStart_hostIrq s₄ (by decide))
  have hnotice : s₆.NothingWaits := (h.sameStart same₅).send (by rw [same₅.mbx]; exact hout) ..
  have phase₂ : s₂.get uSys F.SYS.BOOT_STAT_PHASE = 10 :=
    (get_set_apart s₁ (by decide) _).trans (get_set_same _ uSys (by decide) 10)
  have phase₄ : s₄.get uSys F.SYS.BOOT_STAT_PHASE = 10 := by
    refine (getI_foldl _ (fun k _ t => ?_) s₃).trans (Eq.trans ?_ phase₂)
    · split <;> rfl
    · unfold s₃
      split <;> rfl
  have phase₅ : s₅.get uSys F.SYS.BOOT_STAT_PHASE = 10 := (getI_hostIrq s₄ (by decide)).trans phase₄
  have phase₆ : s₆.get uSys F.SYS.BOOT_STAT_PHASE = 10 :=
    (getI_of_rd (rd_send s₅ (by decide) (by decide) (by decide) (by rw [same₅.mbx]; simp [hout]) ..)).trans phase₅
  exact hnotice.start_phase.trans phase₆

end Block

/-- Settles O27. -/
theorem runningIsPhaseTen : Obligations.RunningIsPhaseTen := by
  intro s dt hup hmay hgos hword hblock hout hbells hinbox hzone href hring
  have hexec := State.up.exec_next hup (exec_running dt s) rfl
  exact ⟨_, hexec, Block.running_phase hmay ⟨hgos, hword, hblock, hbells, hinbox, hzone, href, hring⟩ hout⟩

end Sys2Proof.Machine

/-! # Configuration requests, the host link, D3hot and MSI-X -/

namespace Sys2Proof.Machine

theorem nth_upd_ne {α : Type} (f : α → α) (d : α) : ∀ (l : List α) {i j : Nat}, j ≠ i → nth (upd l i f) j d = nth l j d
  | [], _, _, _ => rfl
  | _ :: _, 0, 0, h => absurd rfl h
  | _ :: _, 0, _ + 1, _ => rfl
  | _ :: _, _ + 1, 0, _ => rfl
  | _ :: r, _ + 1, _ + 1, h => nth_upd_ne f d r fun e => h (congrArg (· + 1) e)

theorem getElem?_upd {α : Type} (f : α → α) : ∀ (l : List α) (i : Nat), (upd l i f)[i]? = l[i]?.map f
  | [], _ => rfl
  | _ :: _, 0 => rfl
  | _ :: r, i + 1 => getElem?_upd f r i

namespace Block

/-! ## Messages no longer masked (R484) -/

theorem on_eq (b : Block) (u : UnitId) (f : Field) : b.on u f = (b.get u f != 0) := rfl

theorem msixSend_blocked {b : Block} (h : (b.host.functionMask || !b.host.msixEnable || b.on uHost F.HOST.LINK_D3) = true) :
    b.msixSend = b := if_pos h

/-- The message of a vector of the table. -/
def message (b : Block) (v : Nat) : Output :=
  .msix v (nth b.host.msix v ⟨0, 0, true⟩).addr (nth b.host.msix v ⟨0, 0, true⟩).data

/-- A vector of the table is not masked. -/
def unmasked (b : Block) (v : Nat) : Bool := !(nth b.host.msix v ⟨0, 0, true⟩).masked

/-- What is pending and no longer masked goes out; the rest stays pending. -/
theorem msixSend_open {b : Block} (h : (b.host.functionMask || !b.host.msixEnable || b.on uHost F.HOST.LINK_D3) = false) :
    b.msixSend = { b with host := { b.host with pba := b.host.pba.filter fun v => !b.unmasked v } }.emits
      ((b.host.pba.filter b.unmasked).map b.message) := by
  have hfold (l : List Nat) (t : Block) (ht : t.host.msix = b.host.msix) :
      l.foldl (fun (s : Block) v => s.emit (.msix v (nth s.host.msix v ⟨0, 0, true⟩).addr (nth s.host.msix v ⟨0, 0, true⟩).data)) t
        = t.emits (l.map b.message) := by
    induction l generalizing t with
    | nil => rfl
    | cons v r ih =>
      rw [List.foldl_cons, ih _ (by rw [emit_host]; exact ht), List.map_cons, emits, emits, List.foldl_cons, ht, message]
  rw [msixSend, if_neg (by simp [h])]
  exact hfold _ _ rfl

theorem msixSend_host (b : Block) : ∃ p, b.msixSend.host = { b.host with pba := p } := by
  by_cases h : (b.host.functionMask || !b.host.msixEnable || b.on uHost F.HOST.LINK_D3) = true
  · rw [msixSend_blocked h]; exact ⟨_, rfl⟩
  · rw [msixSend_open (by simpa using h), emits_host]; exact ⟨_, rfl⟩

theorem msixSend_regs (b : Block) : b.msixSend.regs = b.regs := by
  by_cases h : (b.host.functionMask || !b.host.msixEnable || b.on uHost F.HOST.LINK_D3) = true
  · rw [msixSend_blocked h]
  · rw [msixSend_open (by simpa using h), emits_regs]

/-! ## Configuration requests (R78) -/

theorem configRequest_idle {b : Block} (h : b.host.training = false) (w : Option (Bool × Bool × Nat)) :
    b.configRequest w = b := if_pos (by simp [h])

theorem configRequest_retry {b : Block} (h : b.host.training = true) (hup : b.cored = false) (w : Option (Bool × Bool × Nat)) :
    b.configRequest w = b.emit (.cfg .retry) := by
  unfold configRequest
  rw [if_neg (by simp [h]), if_pos (by simp [hup])]

theorem configRequest_read {b : Block} (h : b.host.training = true) (hup : b.cored = true) :
    b.configRequest none = b.emit (.cfg .done) := by
  unfold configRequest
  rw [if_neg (by simp [h]), if_neg (by simp [hup])]

theorem configRequest_write {b : Block} (h : b.host.training = true) (hup : b.cored = true) (en fm : Bool) (rq : Nat) :
    let t := b.configRequest (some (en, fm, rq))
    t.host.msixEnable = en ∧ t.host.functionMask = fm ∧
      t.host.maxReadReq = (if rq ∈ [128, 256, 512, 1024, 2048, 4096] then rq else b.host.maxReadReq) ∧
      t.out.head? = some (.cfg .done) := by
  dsimp only
  unfold configRequest
  rw [if_neg (by simp [h]), if_neg (by simp [hup])]
  dsimp only
  generalize hc : ({ b with host := { b.host with
    msixEnable := en, functionMask := fm
    maxReadReq := if [128, 256, 512, 1024, 2048, 4096].contains rq then rq else b.host.maxReadReq } } : Block) = c
  obtain ⟨p, hp⟩ := c.msixSend_host
  rw [emit_host, hp, emit, ← hc]
  simp only [List.contains_iff_mem, List.head?_cons, and_self]

/-! ## The link comes up (R481) -/

theorem linkShown (b : Block) {speed width : Nat} (hs : speed ≤ F.HOST.LINK_SPEED.max) (hw : width ≤ F.HOST.LINK_WIDTH.max) :
    let t := ((b.set uHost F.HOST.LINK_UP 1).set uHost F.HOST.LINK_SPEED speed).set uHost F.HOST.LINK_WIDTH width
    t.get uHost F.HOST.LINK_UP = 1 ∧ t.get uHost F.HOST.LINK_SPEED = speed ∧ t.get uHost F.HOST.LINK_WIDTH = width := by
  have hs' : speed % 2 ^ F.HOST.LINK_SPEED.width = speed := Nat.mod_eq_of_lt (by change speed ≤ 15 at hs; change speed < 16; omega)
  have hw' : width % 2 ^ F.HOST.LINK_WIDTH.width = width := Nat.mod_eq_of_lt (by change width ≤ 31 at hw; change width < 32; omega)
  refine ⟨?_, ?_, ?_⟩
  · rw [get_set_apart _ (by decide), get_set_apart _ (by decide), get_set_same _ _ (by decide)]; rfl
  · rw [get_set_apart _ (by decide), get_set_same _ _ (by decide), hs']
  · rw [get_set_same _ _ (by decide), hw']

/-- The registers of the link stand before those of BAR2 and are not those of IRQ_STAT. -/
theorem get_link_unitWorks (b : Block) {f g : Field} (hf : f.at 0 < 0x4000) (hg : g.at 0 < 0x4000)
    (ha : apart uHost F.HOST.IRQ_STAT_UNIT_FAIL 0 uHost g 0 = true) (n : Nat) :
    (b.unitWorks f n).get uHost g = b.get uHost g := by
  have hclr : (b.clrBitI uSys f 0 n).get uHost g = b.get uHost g :=
    getI_of_rd (rd_clrBitI_unit b (by decide) (by decide) (by decide) hf hg n)
  unfold unitWorks
  dsimp only
  split
  · split
    · exact (getI_hostIrq _ ha).trans hclr
    · exact hclr
  · rfl

theorem refFaultRelease_regs (b : Block) : b.refFaultRelease.regs = b.regs := by
  unfold refFaultRelease
  split
  · dsimp only
    split <;> rfl
  · rfl

/-- The host's link comes up with its speed and width. -/
theorem hostLinkUp_shown {b : Block} (hup : b.cored = true) (htrain : b.host.training = true)
    (href : b.on uClk F.CLK.SRC_STAT_REF_OK = true) (hdown : b.on uHost F.HOST.LINK_UP = false) {speed width : Nat}
    (hs : speed ≤ F.HOST.LINK_SPEED.max) (hw : width ≤ F.HOST.LINK_WIDTH.max) :
    let t := b.hostLinkUp speed width
    t.get uHost F.HOST.LINK_UP = 1 ∧ t.get uHost F.HOST.LINK_SPEED = speed ∧ t.get uHost F.HOST.LINK_WIDTH = width ∧
      t.host.resync = none := by
  dsimp only
  unfold hostLinkUp
  rw [if_pos (by simp [hup, htrain, href, hdown])]
  obtain ⟨hlup, hspeed, hwidth⟩ := linkShown b hs hw
  extract_lets s₁ s₂
  have hsame {g : Field} (hg : g.at 0 < 0x4000) (ha : apart uHost F.HOST.IRQ_STAT_UNIT_FAIL 0 uHost g 0 = true) :
      s₂.get uHost g = s₁.get uHost g :=
    (get_congr (refFaultRelease_regs _) ..).trans (get_link_unitWorks s₁ (by decide) hg ha 0)
  have hup₂ := (hsame (g := F.HOST.LINK_UP) (by decide) (by decide)).trans hlup
  have hspeed₂ := (hsame (g := F.HOST.LINK_SPEED) (by decide) (by decide)).trans hspeed
  have hwidth₂ := (hsame (g := F.HOST.LINK_WIDTH) (by decide) (by decide)).trans hwidth
  clear_value s₂
  split
  · next n hn =>
    have hpost (x : Block) (hx : x.regs = s₂.regs) (hr : x.host.resync = none) :
        (x.notice 0xF1 [n]).host.resync = none ∧ ∀ g : Field, g.at 0 < 0x4000 → (x.notice 0xF1 [n]).get uHost g = s₂.get uHost g := by
      refine ⟨?_, fun g hg => (getI_of_rd (rd_send_below x ?_ ..)).trans (get_congr hx ..)⟩
      · obtain ⟨_, _, _, _, _, hsend⟩ := x.send_outboxOnly 0xF1 0 [n]
        rw [notice, hsend]
        exact hr
      · change (0x60 * 256 + 0) * 0x4000 + g.at 0 < (0x63 * 256 + 0) * 0x4000 + 0
        omega
    obtain ⟨hnone, hget⟩ := hpost { s₂ with host := { s₂.host with resync := none } } rfl rfl
    exact ⟨(hget _ (by decide)).trans hup₂, (hget _ (by decide)).trans hspeed₂, (hget _ (by decide)).trans hwidth₂, hnone⟩
  · next hn => exact ⟨hup₂, hspeed₂, hwidth₂, hn⟩

/-! ## D3hot and D0 (R486) -/

theorem chan_setChan_same (b : Block) {n : Nat} (hn : n < b.dma.chans.length) (c : DmaChan) : (b.setChan n c).chan n = c :=
  nth_upd_same _ _ _ _ hn

theorem chan_setChan_ne (b : Block) {n m : Nat} (h : m ≠ n) (c : DmaChan) : (b.setChan n c).chan m = b.chan m :=
  nth_upd_ne _ _ _ h

/-- A STOP request asks a running channel to stop. -/
theorem dmaStop_runs {b : Block} {n : Nat} (hn : n < b.dma.chans.length) (h : b.chanState n = 1 ∨ b.chanState n = 2) :
    (b.dmaStop n).chanState n = 2 ∧ ((b.dmaStop n).chan n).stopReq = true := by
  rw [dmaStop, if_pos h]
  refine ⟨getI_setI_same _ uDma F.DMA.CH_STAT_STATE n 2 (by decide), ?_⟩
  exact congrArg DmaChan.stopReq (chan_setChan_same b hn _)

theorem dmaStop_idle {b : Block} {n : Nat} (h : ¬(b.chanState n = 1 ∨ b.chanState n = 2)) : b.dmaStop n = b := if_neg h

/-- It leaves every other channel as it was, the number of channels and the host port's registers. -/
theorem dmaStop_others (b : Block) (n : Nat) : (b.dmaStop n).dma.chans.length = b.dma.chans.length ∧
    (∀ m, m ≠ n → (b.dmaStop n).chanState m = b.chanState m ∧ (b.dmaStop n).chan m = b.chan m) ∧
    (n < 56 → (b.dmaStop n).get uHost F.HOST.LINK_D3 = b.get uHost F.HOST.LINK_D3) := by
  unfold dmaStop
  split
  · refine ⟨length_upd .., fun m hm => ⟨getI_setI_inst _ uDma hm (by decide) 2, chan_setChan_ne b hm _⟩, fun hn => ?_⟩
    exact getI_setI_unit _ (by decide) (by decide) (by decide) (by simp only [Field.at, F.DMA.CH_STAT_STATE]; omega) (by decide) 2
  · exact ⟨rfl, fun _ _ => ⟨rfl, rfl⟩, fun _ => rfl⟩

/-- Of several STOP requests each channel ends as its own leaves it. -/
theorem foldl_dmaStop (l : List Nat) (hl : l.Nodup) (h56 : ∀ n ∈ l, n < 56) (b : Block) :
    (l.foldl dmaStop b).get uHost F.HOST.LINK_D3 = b.get uHost F.HOST.LINK_D3 ∧
    ∀ m, (m ∉ l → (l.foldl dmaStop b).chanState m = b.chanState m ∧ (l.foldl dmaStop b).chan m = b.chan m) ∧
      (m ∈ l → b.dma.chans.length = 64 → (b.chanState m = 1 ∨ b.chanState m = 2) →
        (l.foldl dmaStop b).chanState m = 2 ∧ ((l.foldl dmaStop b).chan m).stopReq = true) ∧
      (¬(b.chanState m = 1 ∨ b.chanState m = 2) →
        (l.foldl dmaStop b).chanState m = b.chanState m ∧ (l.foldl dmaStop b).chan m = b.chan m) := by
  induction l generalizing b with
  | nil => simp
  | cons n r ih =>
    obtain ⟨hn, hr⟩ := List.nodup_cons.1 hl
    obtain ⟨hlen, hother, hlink⟩ := b.dmaStop_others n
    obtain ⟨hlink', hrest⟩ := ih hr (fun k hk => h56 k (List.mem_cons_of_mem n hk)) (b.dmaStop n)
    refine ⟨hlink'.trans (hlink (h56 n List.mem_cons_self)), fun m => ?_⟩
    obtain ⟨hout, hin, hidle⟩ := hrest m
    rw [List.foldl_cons]
    by_cases hm : m = n
    · subst hm
      obtain ⟨hst, hch⟩ := hout hn
      rw [hst, hch]
      refine ⟨fun h => absurd List.mem_cons_self h, fun _ h64 hrun => dmaStop_runs (h64 ▸ by have := h56 m List.mem_cons_self; omega) hrun,
        fun hrun => by rw [dmaStop_idle hrun]; exact ⟨rfl, rfl⟩⟩
    · obtain ⟨hst, hch⟩ := hother m hm
      rw [hst, hch] at hout hidle
      rw [hst, hlen] at hin
      refine ⟨fun h => hout fun h' => h (List.mem_cons_of_mem n h'), fun h => hin ((List.mem_cons.1 h).resolve_left hm), hidle⟩

/-- D3hot shows itself and stops the host channels that run. -/
theorem d3Enter_stops {b : Block} (h64 : b.dma.chans.length = 64) : b.d3Enter.on uHost F.HOST.LINK_D3 = true ∧
    (∀ n < 56, b.chanState n = 1 ∨ b.chanState n = 2 → b.d3Enter.chanState n = 2 ∧ (b.d3Enter.chan n).stopReq = true) ∧
    (∀ n < 56, ¬(b.chanState n = 1 ∨ b.chanState n = 2) → b.d3Enter.chanState n = b.chanState n ∧ b.d3Enter.chan n = b.chan n) := by
  have hset (n : Nat) (hn : n < 56) : (b.set uHost F.HOST.LINK_D3 1).chanState n = b.chanState n :=
    getI_setI_unit b (by decide) (by decide) (by decide) (by decide) (by simp only [Field.at, F.DMA.CH_STAT_STATE]; omega) 1
  have hd3 : (b.set uHost F.HOST.LINK_D3 1).get uHost F.HOST.LINK_D3 = 1 := get_set_same b uHost (by decide) 1
  have hchans : (b.set uHost F.HOST.LINK_D3 1).dma = b.dma := set_dma ..
  have hchan (n : Nat) : (b.set uHost F.HOST.LINK_D3 1).chan n = b.chan n := by rw [chan, chan, hchans]
  obtain ⟨hlink, hall⟩ := foldl_dmaStop (List.range 56) List.nodup_range (fun n => List.mem_range.1) (b.set uHost F.HOST.LINK_D3 1)
  rw [d3Enter]
  generalize b.set uHost F.HOST.LINK_D3 1 = c at *
  refine ⟨by rw [on_eq, hlink, hd3]; rfl, fun n hn hrun => ?_, fun n hn hidle => ?_⟩
  · exact (hall n).2.1 (List.mem_range.2 hn) (by rw [hchans, h64]) (by rwa [hset n hn])
  · rw [← hset n hn, ← hchan n]
    exact (hall n).2.2 (by rwa [hset n hn])

/-- A message of an open vector that is pending leaves with `msixSend`. -/
theorem mem_out_msixSend {b : Block} (h : (b.host.functionMask || !b.host.msixEnable || b.on uHost F.HOST.LINK_D3) = false)
    {v : Nat} (hv : v ∈ b.host.pba) {e : MsixEntry} (he : b.host.msix[v]? = some e) (hopen : e.masked = false) :
    .msix v e.addr e.data ∈ b.msixSend.out := by
  have hnth : nth b.host.msix v ⟨0, 0, true⟩ = e := by rw [nth, List.getD_eq_getElem?_getD, he, Option.getD_some]
  rw [msixSend_open h, emits_out, List.mem_append, List.mem_reverse]
  refine .inl (List.mem_map.2 ⟨v, List.mem_filter.2 ⟨hv, ?_⟩, ?_⟩)
  · rw [unmasked, hnth, hopen]; rfl
  · rw [message, hnth]

theorem msixSend_pba {b : Block} (h : (b.host.functionMask || !b.host.msixEnable || b.on uHost F.HOST.LINK_D3) = false) :
    b.msixSend.host = { b.host with pba := b.host.pba.filter fun v => !b.unmasked v } := by
  rw [msixSend_open h, emits_host]

theorem d0Return_sends {b : Block} (hd3 : b.on uHost F.HOST.LINK_D3 = true) (hen : b.host.msixEnable = true)
    (hfm : b.host.functionMask = false) : b.d0Return.on uHost F.HOST.LINK_D3 = false ∧
      (∀ v, v ∈ b.d0Return.host.pba ↔ v ∈ b.host.pba ∧ (nth b.host.msix v ⟨0, 0, true⟩).masked = true) ∧
      (∀ v ∈ b.host.pba, ∀ e, b.host.msix[v]? = some e → e.masked = false → .msix v e.addr e.data ∈ b.d0Return.out) := by
  have hd0 : (b.set uHost F.HOST.LINK_D3 0).get uHost F.HOST.LINK_D3 = 0 := get_set_same b uHost (by decide) 0
  have hhost : (b.set uHost F.HOST.LINK_D3 0).host = b.host := set_host ..
  rw [d0Return, if_pos hd3]
  generalize b.set uHost F.HOST.LINK_D3 0 = c at *
  have hopen : (c.host.functionMask || !c.host.msixEnable || c.on uHost F.HOST.LINK_D3) = false := by
    rw [hhost, hfm, hen, on_eq, hd0]; rfl
  refine ⟨by rw [on_eq, get_congr c.msixSend_regs, hd0]; rfl, fun v => ?_, fun v hv e he hm => ?_⟩
  · rw [msixSend_pba hopen]
    simp [List.mem_filter, unmasked, hhost]
  · rw [← hhost] at hv he
    exact mem_out_msixSend hopen hv he hm

/-- A vector unmasked sends its message, but not in D3hot (R484, R486). -/
theorem msixUnmask_sends {b : Block} (hen : b.host.msixEnable = true) (hfm : b.host.functionMask = false) {v : Nat} {e : MsixEntry}
    (he : b.host.msix[v]? = some e) : (b.msixUnmask v).host.msix[v]? = some { e with masked := false } ∧
      (b.on uHost F.HOST.LINK_D3 = false →
        v ∉ (b.msixUnmask v).host.pba ∧ (v ∈ b.host.pba → .msix v e.addr e.data ∈ (b.msixUnmask v).out)) ∧
      (b.on uHost F.HOST.LINK_D3 = true → (b.msixUnmask v).host.pba = b.host.pba ∧ (b.msixUnmask v).out = b.out) := by
  rw [msixUnmask]
  generalize hc : ({ b with host := { b.host with
    msix := upd b.host.msix v fun (e : MsixEntry) => { e with masked := false } } } : Block) = c
  have hentry : c.host.msix[v]? = some { e with masked := false } := by
    rw [← hc]
    exact (getElem?_upd ..).trans (by rw [he]; rfl)
  have hpba : c.host.pba = b.host.pba := by rw [← hc]
  have hout : c.out = b.out := by rw [← hc]
  have hblocked : (c.host.functionMask || !c.host.msixEnable || c.on uHost F.HOST.LINK_D3) = b.on uHost F.HOST.LINK_D3 := by
    have hd3 : c.on uHost F.HOST.LINK_D3 = b.on uHost F.HOST.LINK_D3 := by rw [← hc]; rfl
    have hen' : c.host.msixEnable = true := by rw [← hc]; exact hen
    have hfm' : c.host.functionMask = false := by rw [← hc]; exact hfm
    rw [hd3, hen', hfm']
    rfl
  obtain ⟨p, hp⟩ := c.msixSend_host
  refine ⟨by rw [hp]; exact hentry, fun hd0 => ⟨?_, fun hv => ?_⟩, fun hd3 => ?_⟩
  · rw [msixSend_pba (hblocked.trans hd0)]
    have hnth : nth c.host.msix v ⟨0, 0, true⟩ = { e with masked := false } := by
      rw [nth, List.getD_eq_getElem?_getD, hentry, Option.getD_some]
    simp [List.mem_filter, unmasked, hnth]
  · exact mem_out_msixSend (e := { e with masked := false }) (hblocked.trans hd0) (hpba ▸ hv) hentry rfl
  · rw [msixSend_blocked (hblocked.trans hd3)]
    exact ⟨hpba, hout⟩

end Block

/-- Settles O53. -/
theorem hostLinkAndPowerStates : Obligations.HostLinkAndPowerStates := by
  intro s dt
  dsimp only
  have hcfg (w : Option (Bool × Bool × Nat)) := State.exec_run (exec_configRequest dt w s) rfl
  refine ⟨fun w h => ?idle, fun w h hup => ?retry, fun h hup => ?read, fun en fm rq h hup => ⟨_, hcfg _, ?write⟩,
    fun speed width hup htrain href hdown hs hw => ⟨_, hup.exec_next (exec_linkUp dt speed width s) rfl, ?linkUp⟩,
    fun hup h64 => ⟨_, hup.exec_next (exec_d3hotEnter dt s) rfl, ?d3hot⟩,
    fun hup hd3 hen hfm => ⟨_, hup.exec_next (exec_d0Return dt s) rfl, ?d0⟩,
    fun v e hup hv hen hfm he => ⟨_, hup.exec_next (exec_msixUnmask dt v s) (if_pos hv), ?unmask⟩⟩
  case idle => rw [hcfg, Block.configRequest_idle h]
  case retry => rw [hcfg, Block.configRequest_retry h hup]
  case read => rw [hcfg, Block.configRequest_read h hup]
  case write => exact Block.configRequest_write h hup en fm rq
  case linkUp => exact Block.hostLinkUp_shown hup htrain href hdown hs hw
  case d3hot => exact Block.d3Enter_stops h64
  case d0 => exact Block.d0Return_sends hd3 hen hfm
  case unmask => exact Block.msixUnmask_sends hen hfm he

end Sys2Proof.Machine

/-! # Bits of a register, and the words of the mailboxes -/

namespace Sys2Proof.Machine

theorem bit_eq_testBit (v n : Nat) : bit v n = v.testBit n := by
  rw [bit, Nat.testBit_eq_decide_div_mod_eq]
  rfl

/-- A clear bit set by addition. -/
theorem bit_add_two_pow {v n : Nat} (h : bit v n = false) : bit (v + 2 ^ n) n = true := by
  simp only [bit, beq_eq_false_iff_ne, beq_iff_eq] at *
  rw [Nat.add_div_right _ (Nat.two_pow_pos n)]
  omega

theorem add_two_pow_lt {v n w : Nat} (hv : v < 2 ^ w) (hn : n < w) (h : bit v n = false) : v + 2 ^ n < 2 ^ w := by
  have hsplit : 2 ^ w = 2 ^ n * (2 * 2 ^ (w - n - 1)) := by
    rw [← pow_succ', ← pow_add]
    congr 1
    omega
  simp only [bit, beq_eq_false_iff_ne] at h
  have hq : v / 2 ^ n < 2 * 2 ^ (w - n - 1) := Nat.div_lt_of_lt_mul (hsplit ▸ hv)
  have hlt : v / 2 ^ n + 1 < 2 * 2 ^ (w - n - 1) := by omega
  rw [hsplit, mul_comm, ← Nat.div_lt_iff_lt_mul (Nat.two_pow_pos n), Nat.add_div_right _ (Nat.two_pow_pos n)]
  exact hlt

/-- A set bit cleared by subtraction; the others are as they were. -/
theorem bit_sub_two_pow {v n : Nat} (h : bit v n = true) (m : Nat) : bit (v - 2 ^ n) m = (bit v m && m != n) := by
  have hle : 2 ^ n ≤ v := Nat.ge_two_pow_of_testBit (bit_eq_testBit v n ▸ h)
  rcases Nat.lt_trichotomy m n with hm | rfl | hm
  · have hpow : 2 ^ n = 2 ^ m * (2 * 2 ^ (n - m - 1)) := by
      rw [← pow_succ', ← pow_add]
      congr 1
      omega
    have hdiv : 2 * 2 ^ (n - m - 1) ≤ v / 2 ^ m := (Nat.le_div_iff_mul_le (Nat.two_pow_pos m)).2 (by rw [mul_comm, ← hpow]; exact hle)
    have hsub : (v - 2 ^ n) / 2 ^ m = v / 2 ^ m - 2 * 2 ^ (n - m - 1) := by rw [hpow, Nat.sub_mul_div]
    have hne : (m != n) = true := by simp; omega
    rw [hne, Bool.and_true, bit, bit, hsub]
    congr 1
    omega
  · have hsub : (v - 2 ^ m) / 2 ^ m = v / 2 ^ m - 1 := by
      simpa using Nat.sub_mul_div v (2 ^ m) 1
    simp only [bit, beq_iff_eq] at h
    simp only [bit, bne_self_eq_false, Bool.and_false, beq_eq_false_iff_ne]
    rw [hsub]
    omega
  · have hrest : 2 ^ n ≤ v % 2 ^ m := Nat.ge_two_pow_of_testBit (by
      rw [Nat.testBit_mod_two_pow, ← bit_eq_testBit, h]
      simp [hm])
    have hne : (m != n) = true := by simp; omega
    have hsub : (v - 2 ^ n) / 2 ^ m = v / 2 ^ m := by
      have hv := Nat.div_add_mod v (2 ^ m)
      have hlt := Nat.mod_lt v (Nat.two_pow_pos m)
      rw [mul_comm] at hv
      refine Nat.div_eq_of_lt_le (by omega) ?_
      rw [Nat.add_mul, Nat.one_mul]
      exact Nat.lt_of_le_of_lt (Nat.sub_le ..) (by linarith)
    rw [hne, Bool.and_true, bit, bit, hsub]

namespace Block

theorem bit_setBitI (b : Block) (u : UnitId) {f : Field} (hf : f.lo ≤ f.hi ∧ f.hi < 32) (i : Nat) {n : Nat} (hn : n < f.width) :
    bit ((b.setBitI u f i n).getI u f i) n = true := by
  unfold setBitI
  split
  · assumption
  · next h =>
    have h : bit (b.getI u f i) n = false := by simpa using h
    rw [getI_setI_same b u f i _ hf, Nat.mod_eq_of_lt (add_two_pow_lt (b.getI_lt u f i) hn h)]
    exact bit_add_two_pow h

theorem bit_clrBitI (b : Block) (u : UnitId) {f : Field} (hf : f.lo ≤ f.hi ∧ f.hi < 32) (i n m : Nat) :
    bit ((b.clrBitI u f i n).getI u f i) m = (bit (b.getI u f i) m && m != n) := by
  unfold clrBitI
  split
  · next h =>
    have hlt : b.getI u f i - 2 ^ n < 2 ^ f.width := Nat.lt_of_le_of_lt (Nat.sub_le ..) (b.getI_lt u f i)
    rw [getI_setI_same b u f i _ hf, Nat.mod_eq_of_lt hlt, bit_sub_two_pow h]
  · next h =>
    by_cases hm : m = n
    · subst hm; simpa using h
    · simp [hm]

/-- Registers at different offsets of a unit. -/
theorem apart_off (u : UnitId) {f g : Field} {i j : Nat} (h : g.at j ≠ f.at i) : apart u f i u g j = true := by
  simp [apart, regKey_off_ne u h]

theorem getI_inc_apart (b : Block) {u u' : UnitId} {f g : Field} {j : Nat} (h : apart u f 0 u' g j = true) :
    (b.inc u f).getI u' g j = b.getI u' g j := getI_setI_apart b h _

/-! ## Word mailboxes (R507, R508) -/

theorem h2fFull_congr {b t : Block} (h : t.getI uBar2 F.MBXB.WSTAT_H2F_FULL 0 = b.getI uBar2 F.MBXB.WSTAT_H2F_FULL 0) (i : Nat) :
    t.h2fFull i = b.h2fFull i := congrArg (bit · i) h

/-- A word put into its mailbox. -/
def h2fPut (b : Block) (i w : Nat) : Block := (b.setI uBar2 F.MBXB.H2F_DATA i w).setBitI uBar2 F.MBXB.WSTAT_H2F_FULL 0 i

theorem h2fPut_full (b : Block) {i : Nat} (hi : i < 16) (w : Nat) : (b.h2fPut i w).h2fFull i = true :=
  bit_setBitI _ uBar2 (by decide) 0 hi

theorem word_apart_full {i : Nat} (hi : i < 16) : apart uBar2 F.MBXB.WSTAT_H2F_FULL 0 uBar2 F.MBXB.H2F_DATA i = true :=
  apart_off uBar2 (by simp only [Field.at, F.MBXB.H2F_DATA, F.MBXB.WSTAT_H2F_FULL]; omega)

theorem h2fPut_word (b : Block) {i : Nat} (hi : i < 16) (w : Nat) :
    (b.h2fPut i w).getI uBar2 F.MBXB.H2F_DATA i = w % 2 ^ 32 :=
  (getI_setBitI_apart _ (word_apart_full hi) i).trans (getI_setI_same b uBar2 _ i w (by decide))

theorem h2fPut_other (b : Block) {i j : Nat} (hij : j ≠ i) (hj : j < 16) (w : Nat) :
    (b.h2fPut i w).getI uBar2 F.MBXB.H2F_DATA j = b.getI uBar2 F.MBXB.H2F_DATA j :=
  (getI_setBitI_apart _ (word_apart_full hj) i).trans (getI_setI_inst b uBar2 hij (by decide) w)

theorem h2fPut_eq (b : Block) (i w : Nat) : ∃ r, b.h2fPut i w = { b with regs := r } :=
  ⟨_, (setBitI_eq (b.setI uBar2 F.MBXB.H2F_DATA i w) uBar2 F.MBXB.WSTAT_H2F_FULL 0 i).choose_spec⟩

theorem h2fWrite_empty {b : Block} {i : Nat} (h0 : 1 ≤ i) (hi : i < 16) (he : b.h2fFull i = false) (w : Nat) :
    b.h2fWrite i w = b.h2fPut i w := by
  rw [h2fWrite, if_neg (by omega), if_neg (by simp [he])]
  exact if_neg (by omega)

theorem h2fWrite_full {b : Block} {i : Nat} (hi : i < 16) (h : b.h2fFull i = true) (w : Nat) :
    b.h2fWrite i w = b.mbxOverrun (4 * i) w := by
  rw [h2fWrite, if_neg (by omega), if_pos h]

/-- A header waits, and is read if firmware takes it. -/
theorem h2fWrite_header {b : Block} (he : b.h2fFull 0 = false) (w : Nat) :
    b.h2fWrite 0 w = ({ b.h2fPut 0 w with mbx := { (b.h2fPut 0 w).mbx with wordWaiting := some (b.h2fPut 0 w).lt } } : Block).takeInbox := by
  rw [h2fWrite, if_neg (by omega), if_neg (by simp [he])]
  exact if_pos rfl

/-! ## A write discarded (R508, R509) -/

/-- A discarded write is counted and flagged. -/
def overrunMarked (b t : Block) : Prop := t.get uBar2 F.MBXB.CNT_OVERRUN_COUNT =
    satAdd F.MBXB.CNT_OVERRUN_COUNT.max (b.get uBar2 F.MBXB.CNT_OVERRUN_COUNT) 1 ∧ t.on uBar2 F.MBXB.MFLAGS_OVERRUN = true

/-- The flag set leaves the other fields of BAR2. -/
theorem getI_mflag_apart (b : Block) {f g : Field} {j : Nat} (h : apart uBar2 f 0 uBar2 g j = true) :
    (b.mflag f).getI uBar2 g j = b.getI uBar2 g j := by
  unfold mflag
  split
  · rfl
  · rw [getI_msix]
    exact getI_setI_apart b h 1

theorem on_mflag (b : Block) {f : Field} (hf : f.lo ≤ f.hi ∧ f.hi < 32) (hw : f.width = 1) :
    (b.mflag f).on uBar2 f = true := by
  unfold mflag
  split
  · assumption
  · have h1 : ((b.set uBar2 f 1).msix 60).getI uBar2 f 0 = 1 := by
      rw [getI_msix, set, getI_setI_same _ _ _ _ _ hf, hw]
      rfl
    rw [on, h1]
    rfl

theorem mbxOverrun_marks (b : Block) (off data : Nat) : b.overrunMarked (b.mbxOverrun off data) := by
  have hraise (t : Block) (f : Field) (hf : f.at 0 < 0x4000) : (t.raise 23).getI uBar2 f 0 = t.getI uBar2 f 0 :=
    getI_raise t (by decide) (by decide) (by decide) hf 23
  refine ⟨?_, ?_⟩
  · refine (hraise _ _ (by decide)).trans ((getI_mflag_apart _ (by decide)).trans ?_)
    exact (getI_logBy _ (by decide) (by decide) (by decide) ..).trans (getI_incI b uBar2 (by decide) 0)
  · exact (congrArg (· != 0) (hraise _ _ (by decide))).trans (on_mflag _ (by decide) rfl)

/-- What it leaves of BAR2: all but the count and the flag. -/
theorem getI_mbxOverrun (b : Block) {g : Field} {j : Nat} (hg : g.at j < 0x4000) (hc : g.at j ≠ 0x88) (hm : g.at j ≠ 0x84)
    (off data : Nat) : (b.mbxOverrun off data).getI uBar2 g j = b.getI uBar2 g j := by
  refine (getI_raise _ (by decide) (by decide) (by decide) hg 23).trans ((getI_mflag_apart _ (apart_off uBar2 hm)).trans ?_)
  exact (getI_logBy _ (by decide) (by decide) hg ..).trans (getI_inc_apart b (apart_off uBar2 hc))

/-! ## Firmware takes nothing (R79, R518) -/

theorem takeWord_busy {b : Block} (h : b.mayTake = false) : b.takeWord = b := if_neg (by simp [h])

theorem takeBlock_busy {b : Block} (h : b.mayTake = false) : b.takeBlock = b := if_neg (by simp [h])

theorem takeInbox_busy {b : Block} (h : b.mayTake = false) : b.takeInbox = b := by
  unfold takeInbox
  split
  · split
    · rw [takeWord_busy h, takeBlock_busy h]
    · rw [takeBlock_busy h, takeWord_busy h]
  · rw [takeWord_busy h, takeBlock_busy h]

/-- Whether firmware takes a request is said by the state of boot and by the requests held. -/
theorem mayTake_congr {b t : Block} (hp : t.getI uSys F.SYS.BOOT_STAT_PHASE 0 = b.getI uSys F.SYS.BOOT_STAT_PHASE 0)
    (hh : t.mbx.held = b.mbx.held) : t.mayTake = b.mayTake := by
  have hrun : t.isRunning = b.isRunning := congrArg (· == 10) hp
  rw [mayTake, mayTake, hrun, hh]

/-! ## A request taken from the word path (R507, R514, R516) -/

/-- A good request at the front is not answered as a bad message. -/
theorem answerBad_ok {b : Block} (h : ∀ x ∈ b.mbx.held.head?, x.ok = true) (n : Nat) : b.answerBad n = b := by
  cases n with
  | zero => rfl
  | succ n =>
    unfold answerBad
    split
    · next r rest hr => exact if_pos (h r (by rw [hr]; rfl))
    · rfl

/-- A good request joins those held, if the first of them is good. -/
theorem holdReq_ok {b : Block} (hhead : ∀ x ∈ b.mbx.held.head?, x.ok = true) (hdr : Nat) (fits : Bool) (ws : List Nat)
    (hok : (fits && reqOk (hdr % 256) (hdr / 65536) ws) = true) : b.holdReq hdr fits ws =
      { b.inc uMbx F.MBX.CNT_REQ_COUNT with
        mbx := { b.mbx with held := b.mbx.held ++ [⟨hdr % 256, hdr / 256 % 256, ws, true⟩] } } := by
  unfold holdReq
  dsimp only
  rw [hok, inc_mbx]
  refine answerBad_ok (fun x hx => ?_) _
  cases hheld : b.mbx.held with
  | nil =>
    rw [hheld] at hx
    obtain rfl : _ = x := by simpa using hx
    rfl
  | cons y r =>
    rw [hheld] at hx
    exact hhead x (by rw [hheld]; simpa using hx)

/-- FULL bits cleared in turn. -/
theorem h2fFull_foldl_clr (l : List Nat) (b : Block) (i : Nat) :
    (l.foldl (fun s i => s.clrBitI uBar2 F.MBXB.WSTAT_H2F_FULL 0 i) b).h2fFull i = (b.h2fFull i && decide (i ∉ l)) := by
  induction l generalizing b with
  | nil => simp
  | cons n r ih =>
    have hone : (b.clrBitI uBar2 F.MBXB.WSTAT_H2F_FULL 0 n).h2fFull i = (b.h2fFull i && i != n) :=
      bit_clrBitI b uBar2 (by decide) 0 n i
    rw [List.foldl_cons, ih, hone]
    by_cases h : i = n
    · simp [h]
    · have hne : (i != n) = true := by simpa using h
      simp [h, hne]

theorem foldl_clr_eq (l : List Nat) (b : Block) :
    ∃ r, l.foldl (fun s i => s.clrBitI uBar2 F.MBXB.WSTAT_H2F_FULL 0 i) b = { b with regs := r } := by
  induction l generalizing b with
  | nil => exact ⟨_, rfl⟩
  | cons n r ih =>
    obtain ⟨_, h₁⟩ := b.clrBitI_eq uBar2 F.MBXB.WSTAT_H2F_FULL 0 n
    obtain ⟨q, h₂⟩ := ih (b.clrBitI uBar2 F.MBXB.WSTAT_H2F_FULL 0 n)
    refine ⟨q, ?_⟩
    rw [List.foldl_cons, h₂, h₁]

/-- The words that follow the header in the mailboxes. -/
def wordsAfter (b : Block) (n : Nat) : List Nat := (List.range n).map fun i => b.getI uBar2 F.MBXB.H2F_DATA (i + 1)

/-- Firmware reads a header of `n` further words with them, and the mailboxes are empty again. -/
theorem takeWord_reads {b : Block} {hdr n : Nat} (hwait : b.mbx.wordWaiting.isSome = true) (hmay : b.mayTake = true)
    (hhead : ∀ x ∈ b.mbx.held.head?, x.ok = true) (hhdr : b.getI uBar2 F.MBXB.H2F_DATA 0 = hdr) (hlen : hdr / 65536 = 4 * n)
    (hn : n ≤ 15) (hok : reqOk (hdr % 256) (4 * n) (b.wordsAfter n) = true) :
    b.takeWord.mbx = { b.mbx with wordWaiting := none, held := b.mbx.held ++ [⟨hdr % 256, hdr / 256 % 256, b.wordsAfter n, true⟩] } ∧
      ∀ i ≤ n, b.takeWord.h2fFull i = false := by
  have hmin : Nat.min (hdr / 65536 / 4) 15 = n := by
    rw [hlen]
    change min _ _ = n
    omega
  unfold takeWord
  rw [if_pos (by simp [hwait, hmay])]
  dsimp only
  rw [hhdr, hmin]
  obtain ⟨r, hr⟩ := foldl_clr_eq (List.range (n + 1)) b
  have hclr := h2fFull_foldl_clr (List.range (n + 1)) b
  generalize (List.range (n + 1)).foldl (fun s i => s.clrBitI uBar2 F.MBXB.WSTAT_H2F_FULL 0 i) b = c at *
  have hmbx : c.mbx = b.mbx := by rw [hr]
  rw [holdReq_ok (by rw [hmbx]; exact hhead) _ _ _ (by rw [hlen]; simp only [Bool.and_eq_true, decide_eq_true_eq]; exact ⟨by omega, hok⟩)]
  refine ⟨by rw [hmbx, wordsAfter], fun i hi => ?_⟩
  have hfull : c.h2fFull i = false := by rw [hclr]; simp; omega
  rw [← hfull]
  exact h2fFull_congr (getI_inc_apart _ (by decide)) i

/-- The header stands in its mailbox and waits for firmware. -/
def headerWaits (b : Block) (w : Nat) : Block :=
  { b.h2fPut 0 w with mbx := { b.mbx with wordWaiting := some b.lt } }

theorem h2fWrite_header_eq {b : Block} (he : b.h2fFull 0 = false) (w : Nat) : b.h2fWrite 0 w = (b.headerWaits w).takeInbox := by
  rw [h2fWrite_header he]
  obtain ⟨r, hr⟩ := b.h2fPut_eq 0 w
  have hmbx : (b.h2fPut 0 w).mbx = b.mbx := by rw [hr]
  have hlt : (b.h2fPut 0 w).lt = b.lt := by rw [hr]
  rw [hmbx, hlt, headerWaits]

theorem headerWaits_mayTake (b : Block) (w : Nat) : (b.headerWaits w).mayTake = b.mayTake := by
  refine mayTake_congr ?_ rfl
  have hput : (b.h2fPut 0 w).getI uSys F.SYS.BOOT_STAT_PHASE 0 = b.getI uSys F.SYS.BOOT_STAT_PHASE 0 :=
    (getI_setBitI_apart _ (by decide) 0).trans (getI_setI_apart b (by decide) w)
  exact (getI_congr rfl ..).trans hput

/-- A header waits while firmware takes nothing. -/
theorem h2fWrite_waits {b : Block} (he : b.h2fFull 0 = false) (hmay : b.mayTake = false) (w : Nat) :
    b.h2fWrite 0 w = b.headerWaits w := by
  rw [h2fWrite_header_eq he, takeInbox_busy ((b.headerWaits_mayTake w).trans hmay)]

/-- The words after the header are as they stood. -/
theorem headerWaits_wordsAfter (b : Block) (w : Nat) {n : Nat} (hn : n ≤ 15) : (b.headerWaits w).wordsAfter n = b.wordsAfter n := by
  refine List.map_congr_left fun i hi => ?_
  have := List.mem_range.1 hi
  exact (getI_congr rfl ..).trans (h2fPut_other b (by omega) (by omega) w)

/-- A header that firmware takes joins its request to those held. -/
theorem h2fWrite_taken {b : Block} {w n : Nat} (hw : w < 2 ^ 32) (he : b.h2fFull 0 = false) (hmay : b.mayTake = true)
    (hblock : b.mbx.blockWaiting = none) (hhead : ∀ x ∈ b.mbx.held.head?, x.ok = true) (hlen : w / 65536 = 4 * n) (hn : n ≤ 15)
    (hok : reqOk (w % 256) (4 * n) (b.wordsAfter n) = true) :
    (b.h2fWrite 0 w).mbx.held = b.mbx.held ++ [⟨w % 256, w / 256 % 256, b.wordsAfter n, true⟩] ∧
      (b.h2fWrite 0 w).mbx.wordWaiting = none ∧ ∀ i ≤ n, (b.h2fWrite 0 w).h2fFull i = false := by
  have hwords := b.headerWaits_wordsAfter w hn
  have hhdr : (b.headerWaits w).getI uBar2 F.MBXB.H2F_DATA 0 = w :=
    (getI_congr rfl ..).trans ((h2fPut_word b (by decide) w).trans (Nat.mod_eq_of_lt hw))
  have htake : (b.headerWaits w).mayTake = true := (b.headerWaits_mayTake w).trans hmay
  have hmbx : (b.headerWaits w).mbx = { b.mbx with wordWaiting := some b.lt } := rfl
  rw [h2fWrite_header_eq he]
  generalize b.headerWaits w = c at *
  have hin : c.takeInbox = c.takeWord.takeBlock := by
    unfold takeInbox
    rw [hmbx, hblock]
  obtain ⟨hmbx', hfull⟩ := takeWord_reads (by rw [hmbx]; rfl) htake (by rw [hmbx]; exact hhead) hhdr hlen hn (by rwa [hwords])
  have hdone : c.takeWord.takeBlock = c.takeWord := if_neg (by rw [hmbx', hmbx]; simp [hblock])
  rw [hin, hdone, hmbx', hwords, hmbx]
  exact ⟨rfl, rfl, hfull⟩

/-! ## A read of a word mailbox (R507) -/

theorem f2hRead_empty {b : Block} {i : Nat} (hi : i < 16) (h : b.f2hFull i = false) :
    b.f2hRead i = (b.getI uBar2 F.MBXB.F2H_DATA i, b) := by
  rw [f2hRead, if_neg (by omega), if_neg (by simp [h])]

/-- A full mailbox is emptied by its read, where nothing waits to fill it again. -/
theorem f2hRead_full {b : Block} {i : Nat} (hi : i < 16) (h : b.f2hFull i = true) (hout : b.mbx.outbox = []) :
    b.f2hRead i = (b.getI uBar2 F.MBXB.F2H_DATA i, b.clrBitI uBar2 F.MBXB.WSTAT_F2H_FULL 0 i) := by
  rw [f2hRead, if_neg (by omega), if_pos h, hout]
  rfl

theorem f2hFetch_reads {b : Block} {r : BoxRead} (hd0 : b.on uHost F.HOST.LINK_D3 = false) (hwords : r.words ≤ 1) {v : Nat}
    {t : Block} (h : b.f2hRead r.box = (v, t)) : b.f2hFetch r = t.emit (.readData .host (bytesOf r.be v)) := by
  rw [f2hFetch, if_neg (by simp [hd0]; omega), h]

theorem f2hFetch_unsupported {b : Block} {r : BoxRead} (h : b.on uHost F.HOST.LINK_D3 = true ∨ 1 < r.words) :
    b.f2hFetch r = b.emit .unsupported := if_pos h

end Block
end Sys2Proof.Machine

/-! # Block buffers, doorbells, the tunnel and replies that waited -/

namespace Sys2Proof.Machine
namespace Block

/-! ## Block buffers (R509) -/

/-- Block k handed over with its LENGTH. -/
def handedOver (b : Block) (k w : Nat) : Block :=
  (b.setI uBar2 F.MBXB.BLK_CTL_LENGTH k (bits w 13 0)).setI uBar2 F.MBXB.BLK_CTL_GO k 1

theorem handedOver_go (b : Block) (k w : Nat) : (b.handedOver k w).onI uBar2 F.MBXB.BLK_CTL_GO k = true := by
  rw [onI, handedOver, getI_setI_same _ _ _ _ _ (by decide)]
  rfl

theorem handedOver_length (b : Block) (k w : Nat) : (b.handedOver k w).getI uBar2 F.MBXB.BLK_CTL_LENGTH k = bits w 13 0 := by
  rw [handedOver, getI_setI_field _ _ _ (by decide), getI_setI_same _ _ _ _ _ (by decide)]
  exact Nat.mod_eq_of_lt (bits_lt w 13 0)

theorem onI_congr {b t : Block} (h : t.regs = b.regs) (u : UnitId) (f : Field) (i : Nat) : t.onI u f i = b.onI u f i := by
  rw [onI, getI_congr h, onI]

/-- Block 0 handed over waits while firmware takes nothing. -/
theorem blockCtl_waits {b : Block} {w : Nat} (hgo : bit w 31 = true) (hfree : b.onI uBar2 F.MBXB.BLK_CTL_GO 0 = false)
    (hmay : b.mayTake = false) : (b.blockCtl 0 w).regs = (b.handedOver 0 w).regs ∧
      (b.blockCtl 0 w).mbx.blockWaiting = some b.lt := by
  have hbusy : ({ b.handedOver 0 w with mbx := { b.mbx with blockWaiting := some b.lt } } : Block).mayTake = false := by
    rw [← hmay]
    refine mayTake_congr ?_ rfl
    exact (getI_congr rfl ..).trans ((getI_setI_apart _ (by decide) 1).trans (getI_setI_apart b (by decide) _))
  have hwaits : b.blockCtl 0 w = { b.handedOver 0 w with mbx := { b.mbx with blockWaiting := some b.lt } } := by
    rw [blockCtl, if_pos (by decide), if_neg (by simp [hfree])]
    dsimp only
    rw [if_pos hgo, if_pos rfl]
    exact takeInbox_busy hbusy
  rw [hwaits]
  exact ⟨rfl, rfl⟩

/-- Block 2 handed over brings the records of the tunnel that it holds. -/
theorem blockCtl_tunnel {b : Block} {w : Nat} (hgo : bit w 31 = true) (hfree : b.onI uBar2 F.MBXB.BLK_CTL_GO 2 = false) :
    let bytes := (b.blockWords b.mbx.block2 3072 (bits w 13 0)).flatMap (le 4)
    (b.blockCtl 2 w).regs = (b.handedOver 2 w).regs ∧
      (b.blockCtl 2 w).mbx.tunTake = tunnelRecords (Config.free (b.freeCtr + 1)) (bytes.length / 16 + 1) bytes := by
  dsimp only
  rw [blockCtl, if_pos (by decide), if_neg (by simp [hfree])]
  dsimp only
  rw [if_pos hgo, if_neg (by decide)]
  exact ⟨rfl, rfl⟩

/-- A block handed over takes no other LENGTH. -/
theorem blockCtl_full {b : Block} {k w : Nat} (hk : k = 0 ∨ k = 2) (hgo : b.onI uBar2 F.MBXB.BLK_CTL_GO k = true) :
    b.blockCtl k w = b.mbxOverrun (0xA0 + 4 * k) w := by
  rw [blockCtl, if_pos hk, if_pos hgo]

/-- A block given back, where no message waits for it. -/
theorem blockRelease_eq {b : Block} {k : Nat} (hk : k = 1 ∨ k = 3) (hgo : b.onI uBar2 F.MBXB.BLK_CTL_GO k = true)
    (hout : b.mbx.outbox = []) : b.blockRelease k = b.setI uBar2 F.MBXB.BLK_CTL_GO k 0 := by
  rw [blockRelease, if_pos ⟨hk, hgo⟩]
  dsimp only
  rw [setI_mbx, hout]
  exact ite_self _

/-! ## Doorbells (R510, R512) -/

theorem doorbellRing_one (b : Block) {d : Nat} (hd : d < 32) : b.doorbellRing (2 ^ d) = b.doorbell d := by
  have hone : onesBelow 32 (2 ^ d) = [d] := by
    interval_cases d <;> rfl
  rw [doorbellRing, hone]
  rfl

/-- A doorbell without a node raises its producer. -/
theorem doorbell_plain {b : Block} {d : Nat} (hrun : b.isRunning = true) (hn : b.getI uMbx F.MBX.DB_CFG_NODE d = 0) :
    b.doorbell d = b.raise (164 + d) := by
  rw [doorbell, if_pos hrun, doorbellNode]
  dsimp only
  rw [if_pos hn]

/-- The close of a node that waits is refused. -/
def closeRefused (b : Block) (g : Nat) : Block := if b.clk.closing.contains g then b.setI uClk F.CLK.GATE_REFUSED g 1 else b

/-- A doorbell with a node first opens it. -/
theorem doorbell_node {b : Block} {d : Nat} (hrun : b.isRunning = true) (hn : b.getI uMbx F.MBX.DB_CFG_NODE d ≠ 0) :
    b.doorbell d = ((b.closeRefused (b.getI uMbx F.MBX.DB_CFG_NODE d)).openGate (b.getI uMbx F.MBX.DB_CFG_NODE d)).raise (164 + d) := by
  rw [doorbell, if_pos hrun, doorbellNode]
  dsimp only
  rw [if_neg hn, closeRefused]

theorem closeRefused_clk (b : Block) (g : Nat) : (b.closeRefused g).clk = b.clk := by
  unfold closeRefused
  split <;> rfl

/-- Before RUNNING a doorbell is kept. -/
theorem doorbell_early {b : Block} {d : Nat} (hrun : b.isRunning = false) (hd : d ∉ b.boot.earlyBells) :
    b.doorbell d = { b with boot := { b.boot with earlyBells := b.boot.earlyBells ++ [d] } } := by
  rw [doorbell, if_neg (by simp [hrun]), if_neg (by simpa using hd)]

/-- A message that cannot leave is pending. -/
theorem msix_pends_or_leaves (b : Block) (v : Nat) :
    v ∈ (b.msix v).host.pba ∨ ∃ a x, (b.msix v).out = .msix v a x :: b.out := by
  unfold msix
  dsimp only
  split
  · split
    · next h => exact .inl (List.contains_iff_mem.1 h)
    · exact .inl (by simp)
  · exact .inr ⟨_, _, rfl⟩

theorem fwDoorbell_rings {b : Block} {d : Nat} (hd : d < 32) (h : bit (b.get uBar2 F.MBXB.DB_PEND_PEND) d = false) :
    bit ((b.fwDoorbell d).get uBar2 F.MBXB.DB_PEND_PEND) d = true ∧
      (59 ∈ (b.fwDoorbell d).host.pba ∨ ∃ a x, (b.fwDoorbell d).out = .msix 59 a x :: b.out) := by
  have hout : (b.setBitI uBar2 F.MBXB.DB_PEND_PEND 0 d).out = b.out := setBitI_out ..
  have hset := bit_setBitI b uBar2 (f := F.MBXB.DB_PEND_PEND) (by decide) 0 (n := d) hd
  rw [fwDoorbell, if_neg (by simp [h]; omega)]
  generalize b.setBitI uBar2 F.MBXB.DB_PEND_PEND 0 d = c at *
  rw [← hout]
  refine ⟨?_, c.msix_pends_or_leaves 59⟩
  rw [get, getI_msix]
  exact hset

theorem fwDoorbell_once {b : Block} {d : Nat} (h : bit (b.get uBar2 F.MBXB.DB_PEND_PEND) d = true) : b.fwDoorbell d = b :=
  if_pos (.inr h)

/-! ## The tunnel's receive side (R529) -/

/-- The receive queues of a device that holds one record, of port k. -/
def oneRecord (k : Nat) (r : TunnelRec) : List (List TunnelRec) := upd (List.replicate 12 []) k fun _ => [r]

theorem nth_oneRecord {k : Nat} (hk : k < 12) (r : TunnelRec) (j : Nat) :
    nth (oneRecord k r) j [] = if j = k then [r] else [] := by
  split
  · next h =>
    subst h
    exact nth_upd_same _ _ _ _ (by simpa using hk)
  · next h =>
    rw [oneRecord, nth_upd_ne _ _ _ h, nth, List.getD_eq_getElem?_getD, List.getElem?_replicate]
    split <;> rfl

/-- The oldest record of a port's queue fits. -/
def oldestFits (b : Block) (room j : Nat) : Bool :=
  match nth b.mbx.tunRx j [] with
  | r :: _ => tunnelBytes r.frame.length ≤ room
  | [] => false

theorem nextTunnelPort_eq (b : Block) (p room : Nat) :
    b.nextTunnelPort p room = ((List.range 12).map fun i => (p + 1 + i) % 12).find? (b.oldestFits room) := rfl

theorem oldestFits_one {b : Block} {k : Nat} {r : TunnelRec} (hk : k < 12) (hrx : b.mbx.tunRx = oneRecord k r) {room : Nat}
    (hroom : tunnelBytes r.frame.length ≤ room) (j : Nat) : b.oldestFits room j = decide (j = k) := by
  rw [oldestFits, hrx, nth_oneRecord hk]
  by_cases h : j = k
  · rw [if_pos h]
    simp [h, hroom]
  · rw [if_neg h]
    simp [h]

/-- The rotation finds the one record where it fits. -/
theorem nextTunnelPort_one {b : Block} {k : Nat} {r : TunnelRec} (hk : k < 12) (hrx : b.mbx.tunRx = oneRecord k r) {room : Nat}
    (hroom : tunnelBytes r.frame.length ≤ room) (p : Nat) : b.nextTunnelPort p room = some k := by
  have hmem : k ∈ (List.range 12).map fun i => (p + 1 + i) % 12 :=
    List.mem_map.2 ⟨(k + 12 - (p + 1) % 12) % 12, List.mem_range.2 (by omega), by omega⟩
  rw [nextTunnelPort_eq, List.find?_congr fun j _ => oldestFits_one hk hrx hroom j]
  cases hfind : ((List.range 12).map fun i => (p + 1 + i) % 12).find? fun j => decide (j = k) with
  | none => simpa using (List.find?_eq_none.1 hfind) k hmem
  | some j => simpa using List.find?_some hfind

theorem length_le (n v : Nat) : (le n v).length = n := by
  induction n generalizing v with
  | zero => rfl
  | succ n ih => simp [le, ih]

theorem length_tunnelRecBytes (wild : Nat) (r : TunnelRec) : (tunnelRecBytes wild r).length = tunnelBytes r.frame.length := by
  simp only [tunnelRecBytes, List.length_append, length_le, List.length_cons, List.length_nil]
  unfold tunnelBytes
  omega

/-- The one record collected. -/
theorem tunnelCollect_one {b : Block} {k : Nat} {r : TunnelRec} (hk : k < 12) (hrx : b.mbx.tunRx = oneRecord k r)
    (hlen : r.frame.length ≤ 9212) : b.tunnelCollect [] (sumN (b.mbx.tunRx.map List.length)) =
      (tunnelRecBytes b.fresh r, ({ b with mbx := { b.mbx with tunRx := List.replicate 12 [], tunLast := k } } : Block).took) := by
  have hfuel : sumN (b.mbx.tunRx.map List.length) = 1 := by
    rw [hrx]
    interval_cases k <;> rfl
  have hempty : upd b.mbx.tunRx k (fun _ => []) = List.replicate 12 [] := by
    rw [hrx]
    interval_cases k <;> rfl
  have hnth : nth b.mbx.tunRx k [] = [r] := by rw [hrx, nth_oneRecord hk, if_pos rfl]
  have hnext := nextTunnelPort_one hk hrx (room := 4 * blockSize 3 - ([] : List Nat).length)
    (by change tunnelBytes r.frame.length ≤ 12288; rw [tunnelBytes]; omega) b.mbx.tunLast
  rw [hfuel]
  unfold tunnelCollect
  rw [hnext]
  dsimp only
  rw [hnth]
  dsimp only
  rw [hempty, List.nil_append, tunnelCollect]

/-- Block 3 is filled with the one record (R529). -/
theorem tunnelFill_one {b : Block} {k : Nat} {r : TunnelRec} (hk : k < 12) (hrx : b.mbx.tunRx = oneRecord k r)
    (hlen : r.frame.length ≤ 9212) (hfree : b.onI uBar2 F.MBXB.BLK_CTL_GO 3 = false) (hshed : b.shedB = false) :
    b.tunnelFill.mbx.tunRx = List.replicate 12 [] ∧ b.tunnelFill.mbx.tunLast = k ∧
      b.tunnelFill.onI uBar2 F.MBXB.BLK_CTL_GO 3 = true ∧
      b.tunnelFill.getI uBar2 F.MBXB.BLK_CTL_LENGTH 3 = tunnelBytes r.frame.length := by
  have hbytes := length_tunnelRecBytes b.fresh r
  have hpos : (tunnelRecBytes b.fresh r).isEmpty = false := by
    rw [List.isEmpty_eq_false_iff_exists_mem]
    exact List.exists_mem_of_length_pos (by rw [hbytes, tunnelBytes]; omega)
  unfold tunnelFill
  rw [if_neg (by simp [hfree, hshed]), tunnelCollect_one hk hrx hlen]
  dsimp only
  rw [if_neg (by simp [hpos]), hbytes]
  generalize tunnelRecBytes b.fresh r = bytes
  refine ⟨?_, ?_, ?_, ?_⟩
  · simp only [msix_mbx, setI_mbx, took_mbx]
  · simp only [msix_mbx, setI_mbx, took_mbx]
  · rw [onI, getI_msix, getI_setI_same _ _ _ _ _ (by decide)]
    rfl
  · rw [getI_msix, getI_setI_field _ _ _ (by decide), getI_setI_same _ _ _ _ _ (by decide)]
    refine Nat.mod_eq_of_lt ?_
    change tunnelBytes r.frame.length < 16384
    rw [tunnelBytes]
    omega

theorem tunnelFill_shed {b : Block} (h : b.shedB = true) : b.tunnelFill = b := if_pos (by simp [h])

/-! ## The tunnel's send side (R171, R530) -/

/-- A frame's beginning changes the camera ports alone. -/
theorem tunBegin_eq (b : Block) (k : Nat) : ∃ c, b.tunBegin k = { b with camps := c } := by
  unfold tunBegin
  dsimp only
  split <;> exact ⟨_, rfl⟩

/-- Behind the last record of block 2 its GO falls. -/
theorem tunnelTake_emptied {b : Block} (htake : b.mbx.tunTake = []) (hgo : b.onI uBar2 F.MBXB.BLK_CTL_GO 2 = true) (n : Nat) :
    b.tunnelTake (n + 1) = b.setI uBar2 F.MBXB.BLK_CTL_GO 2 0 := by
  unfold tunnelTake
  rw [htake]
  exact if_pos hgo

/-- The one record of block 2 joins its port's queue, and the block is the host's again. -/
theorem tunnelSendBlock_one {b : Block} {r : TunnelRec} (hgo : b.onI uBar2 F.MBXB.BLK_CTL_GO 2 = true)
    (htake : b.mbx.tunTake = [r]) (h12 : b.mbx.tunTx.length = 12) (hodd : r.flags % 2 = 1) (hport : r.port < 12)
    (hmin : 14 ≤ r.frame.length) (hmax : r.frame.length ≤ 9212)
    (hroom : sumN ((nth b.mbx.tunTx r.port []).map fun x => tunnelBytes x.frame.length) + tunnelBytes r.frame.length ≤ 32768) :
    b.tunnelSendBlock.mbx.tunTake = [] ∧ b.tunnelSendBlock.onI uBar2 F.MBXB.BLK_CTL_GO 2 = false ∧
      nth b.tunnelSendBlock.mbx.tunTx r.port [] = nth b.mbx.tunTx r.port [] ++ [r] := by
  rw [tunnelSendBlock, if_pos hgo, htake]
  unfold tunnelTake
  rw [htake]
  dsimp only
  rw [if_neg (by omega), if_neg (by omega), if_neg (by omega)]
  obtain ⟨c, hc⟩ := tunBegin_eq { b with mbx := { b.mbx with
    tunTake := [], tunTx := upd b.mbx.tunTx r.port fun l => l ++ [r] } } r.port
  rw [hc]
  have hon : ({ ({ b with mbx := { b.mbx with tunTake := [], tunTx := upd b.mbx.tunTx r.port fun l => l ++ [r] } } : Block) with
      camps := c } : Block).onI uBar2 F.MBXB.BLK_CTL_GO 2 = true := (onI_congr rfl ..).trans hgo
  rw [List.length_singleton, tunnelTake_emptied rfl hon 0]
  refine ⟨rfl, ?_, nth_upd_same _ _ _ _ (by omega)⟩
  rw [onI, getI_setI_same _ _ _ _ _ (by decide)]
  rfl

theorem tunnelSendBlock_idle {b : Block} (h : b.onI uBar2 F.MBXB.BLK_CTL_GO 2 = false) : b.tunnelSendBlock = b :=
  if_neg (by simp [h])

/-- Where nothing waits for the transmitter nothing goes with a flush, and none waits then. -/
theorem txFlush_none {b : Block} {k : Nat} (h : (b.camp k).txWait = []) :
    b.txFlush k = b.setCamp k { b.camp k with txWait := [] } := by
  unfold txFlush
  dsimp only
  rw [h]
  rfl

theorem camp_setCamp (b : Block) (k : Nat) (c : CampSt) : (b.setCamp k c).camp k = c ∨ (b.setCamp k c).camp k = b.camp k := by
  rcases Nat.lt_or_ge k b.camps.length with h | h
  · exact .inl (nth_upd_same _ _ _ _ h)
  · refine .inr ?_
    rw [camp, setCamp, camp, nth, nth, List.getD_eq_default _ _ (by rwa [length_upd]), List.getD_eq_default _ _ h]

/-- The frame under way leaves its port (R171). -/
theorem tunnelFrameSent_one {b : Block} {k : Nat} {r : TunnelRec} {rest : List TunnelRec} 
    (htx : b.mbx.tunTx[k]? = some (r :: rest)) (hon : (b.camp k).tunOn = true) (hwait : (b.camp k).txWait = [])
    (hgo : b.onI uBar2 F.MBXB.BLK_CTL_GO 2 = false) : (b.tunnelFrameSent k).mbx.tunTx[k]? = some rest ∧
      (b.tunnelFrameSent k).out = .frame k (r.frame ++ List.replicate (60 - r.frame.length) 0) :: b.out := by
  have hnth : nth b.mbx.tunTx k [] = r :: rest := by rw [nth, List.getD_eq_getElem?_getD, htx, Option.getD_some]
  have hupd : (upd b.mbx.tunTx k fun _ => rest)[k]? = some rest := by rw [getElem?_upd, htx]; rfl
  unfold tunnelFrameSent tunnelSend
  dsimp only
  rw [if_pos hon, hnth]
  dsimp only
  generalize hc : ((({ b with mbx := { b.mbx with tunTx := upd b.mbx.tunTx k fun _ => rest } } : Block).emit
    (.frame k (r.frame ++ List.replicate (60 - r.frame.length) 0))).setCamp k { b.camp k with tunOn := false }) = c
  have hcamp : (c.camp k).txWait = [] := by
    rw [← hc]
    rcases camp_setCamp ((({ b with mbx := { b.mbx with tunTx := upd b.mbx.tunTx k fun _ => rest } } : Block).emit
      (.frame k (r.frame ++ List.replicate (60 - r.frame.length) 0)))) k { b.camp k with tunOn := false } with h | h
    · rw [h]; exact hwait
    · rw [h]; exact hwait
  have hmbx : c.mbx.tunTx[k]? = some rest := by rw [← hc]; exact hupd
  have hout : c.out = .frame k (r.frame ++ List.replicate (60 - r.frame.length) 0) :: b.out := by rw [← hc]; rfl
  have hregs : c.regs = b.regs := by rw [← hc]; rfl
  clear hc
  rw [txFlush_none hcamp]
  have hbegin : ∃ q, (c.setCamp k { c.camp k with txWait := [] }).tunBegin k = { c with camps := q } := tunBegin_eq ..
  obtain ⟨q, hq⟩ := hbegin
  have hidle : ({ c with camps := q } : Block).onI uBar2 F.MBXB.BLK_CTL_GO 2 = false := (onI_congr hregs ..).trans hgo
  rw [hq, tunnelSendBlock_idle hidle]
  exact ⟨hmbx, hout⟩

/-! ## Replies and maps that waited (R383, R516) -/

/-- A long request that has run is answered. -/
theorem deferredReply_sends {b : Block} {typ tag : Nat} {d : Deferred} {x : Nat × Nat × List Nat}
    (hfind : b.mbx.deferred.find? (fun d => d.req.typ == typ && d.req.tag == tag && d.done.isSome) = some d)
    (hdone : d.done = some x) (hloud : d.silent = false) (hhost : d.peer = none) :
    b.deferredReply typ tag = (b.dropDeferred d).replyFull typ tag x.1 0 x.2.1 x.2.2 := by
  have hd := List.find?_some hfind
  simp only [Bool.and_eq_true, beq_iff_eq] at hd
  obtain ⟨⟨rfl, rfl⟩, -⟩ := hd
  unfold deferredReply
  rw [hfind]
  dsimp only
  rw [hdone, Option.getD_some, replyDeferred, if_neg (by simp [hloud]), hhost, answer]

/-- A map whose rows have come is ready, and its notice goes. -/
theorem mapDone_ready {b : Block} {m : MapEntry}
    (hfind : b.refs.maps.find? (fun m => m.state == 1 && m.fed == mapBytes m) = some m) :
    b.mapDone = (b.setMap m.id fun m => { m with state := 2 }).notice 0xF3 [m.id] := by
  rw [mapDone, hfind]

theorem setMap_maps (b : Block) (id : Nat) :
    (∀ x ∈ (b.setMap id fun m => { m with state := 2 }).refs.maps, x.id = id → x.state = 2) ∧
      (b.setMap id fun m => { m with state := 2 }).refs.maps.map (·.id) = b.refs.maps.map (·.id) := by
  refine ⟨fun x hx hid => ?_, ?_⟩
  · obtain ⟨m, -, rfl⟩ := List.mem_map.1 hx
    by_cases h : m.id = id
    · rw [if_pos h]
    · rw [if_neg h] at hid
      exact absurd hid h
  · simp only [setMap, List.map_map]
    refine List.map_congr_left fun m _ => ?_
    simp only [Function.comp]
    split <;> rfl

end Block

/-- A write of the host's that is not in D3hot does what it does (R486). -/
theorem State.up.exec_bar {s : State} {dt : Nat} (hup : s.up dt) (hd0 : (s.now dt).on uHost F.HOST.LINK_D3 = false) {c : Instr}
    {f : Block → Block} {t : Block} (hc : exec c s = s.live dt fun b => b.hostBar f) (hf : f (s.now dt) = t) :
    exec c s = .next ⟨s.pending, t⟩ :=
  hup.exec_next hc ((if_neg (by simp [hd0])).trans hf)

/-- In D3hot it does nothing. -/
theorem State.up.exec_bar_d3 {s : State} {dt : Nat} (hup : s.up dt) (hd3 : (s.now dt).on uHost F.HOST.LINK_D3 = true) {c : Instr}
    {f : Block → Block} (hc : exec c s = s.live dt fun b => b.hostBar f) : exec c s = .next ⟨s.pending, s.now dt⟩ :=
  hup.exec_next hc (if_pos hd3)

/-- Settles O57: each clause is the equation of its command, and what the equation leaves. -/
theorem mailboxesAndDoorbells : Obligations.MailboxesAndDoorbells := by
  intro s dt hup
  have hword (i w : Nat) := exec_h2fWrite dt i w s
  have hblock (k w : Nat) := exec_blockGo dt k w s
  dsimp only
  refine ⟨fun hd0 => ⟨fun i w h1 h16 he => ?word, fun i w h16 hfull => ?full, fun i w h0 he hmay => ?waits,
      fun w n hw he hmay hblk hhead hlen hn hok => ?taken, fun r hr hwords => ⟨fun he => ?readEmpty, fun hfull hout => ?readFull⟩,
      fun w hgo hfree => ?tunnel, fun w hgo hfree hmay => ?block, fun k w hk hgo => ?blockFull, fun k hk hgo hout => ?release,
      fun d hd hrun => ⟨fun hn => ?plain, fun hn => ?node⟩, fun d hd hrun hnew => ?early⟩,
    fun r h => hup.exec_next (exec_f2hRead dt r s) (Block.f2hFetch_unsupported h), fun hd3 k w i hi => ?d3hot,
    fun d hd => ⟨fun h => ⟨_, hup.exec_next (exec_fwDoorbell dt d s) rfl, Block.fwDoorbell_rings hd h⟩,
      fun h => hup.exec_next (exec_fwDoorbell dt d s) (Block.fwDoorbell_once h)⟩,
    fun k r hk hfree hrx hlen => ⟨fun hshed => ⟨_, hup.exec_next (exec_tunnelBlockFill dt s) rfl,
      Block.tunnelFill_one hk hrx hlen hfree hshed⟩,
      fun hshed => hup.exec_next (exec_tunnelBlockFill dt s) (Block.tunnelFill_shed hshed)⟩,
    fun r hgo htake h12 hodd hport hmin hmax hroom => ⟨_, hup.exec_next (exec_tunnelBlockSend dt s) rfl,
      Block.tunnelSendBlock_one hgo htake h12 hodd hport hmin hmax hroom⟩,
    fun k r rest hk htx hon hwait hgo => ⟨_, hup.exec_next (exec_tunnelFrameSent dt k s) (if_pos hk),
      Block.tunnelFrameSent_one htx hon hwait hgo⟩,
    fun typ tag d x hfind hdone hloud hhost => ⟨_, hup.exec_next (exec_requestDeferredReply dt typ tag s)
      (Block.deferredReply_sends hfind hdone hloud hhost), rfl, rfl⟩,
    fun m hfind => ⟨_, hup.exec_next (exec_mapLoadComplete dt s) (Block.mapDone_ready hfind), Block.setMap_maps _ m.id⟩⟩
  case word =>
    refine ⟨_, hup.exec_bar hd0 (hword i w) (Block.h2fWrite_empty h1 h16 he _), ?_, Block.h2fPut_full _ h16 _, ?_, ?_⟩
    · rw [Block.h2fPut_word _ h16, Nat.mod_mod]
    · obtain ⟨_, h⟩ := (s.now dt).h2fPut_eq i (w % 2 ^ 32)
      rw [h]
    · obtain ⟨_, h⟩ := (s.now dt).h2fPut_eq i (w % 2 ^ 32)
      rw [h]
  case full =>
    refine ⟨_, hup.exec_bar hd0 (hword i w) (Block.h2fWrite_full h16 hfull _), ?_, ?_, Block.mbxOverrun_marks _ _ _⟩
    · exact (Block.h2fFull_congr (Block.getI_mbxOverrun _ (by decide) (by decide) (by decide) _ _) i).trans hfull
    · have hoff : F.MBXB.H2F_DATA.at i < 0x40 := by simp only [Field.at, F.MBXB.H2F_DATA]; omega
      exact Block.getI_mbxOverrun _ (by omega) (by omega) (by omega) _ _
  case waits =>
    subst h0
    refine ⟨_, hup.exec_bar hd0 (hword 0 w) (Block.h2fWrite_waits he hmay _), ?_, rfl, Block.h2fPut_full _ (by decide) _⟩
    exact (Block.h2fPut_word (s.now dt) (by decide) (w % 2 ^ 32)).trans (Nat.mod_mod ..)
  case taken =>
    have hmod : w % 2 ^ 32 = w := Nat.mod_eq_of_lt hw
    exact ⟨_, hup.exec_bar hd0 (hword 0 w) (by rw [hmod]), Block.h2fWrite_taken hw he hmay hblk hhead hlen hn hok⟩
  case readEmpty =>
    exact hup.exec_next (exec_f2hRead dt r s) (Block.f2hFetch_reads hd0 hwords (Block.f2hRead_empty hr he))
  case readFull =>
    refine ⟨_, hup.exec_next (exec_f2hRead dt r s) (Block.f2hFetch_reads hd0 hwords (Block.f2hRead_full hr hfull hout)), ?_, ?_, ?_⟩
    · rw [Block.emit_out, Block.clrBitI_out]
    · refine (Block.bit_clrBitI _ uBar2 (f := F.MBXB.WSTAT_F2H_FULL) (by decide) 0 r.box r.box).trans ?_
      simp
    · rw [Block.emit_mbx, Block.clrBitI_mbx]
  case tunnel =>
    obtain ⟨hregs, htake⟩ := Block.blockCtl_tunnel hgo hfree
    exact ⟨_, hup.exec_bar hd0 (hblock 2 w) rfl, (Block.onI_congr hregs ..).trans (Block.handedOver_go _ 2 w),
      (Block.getI_congr hregs ..).trans (Block.handedOver_length _ 2 w), _, rfl, htake⟩
  case block =>
    obtain ⟨hregs, hwait⟩ := Block.blockCtl_waits hgo hfree hmay
    exact ⟨_, hup.exec_bar hd0 (hblock 0 w) rfl, (Block.onI_congr hregs ..).trans (Block.handedOver_go _ 0 w),
      (Block.getI_congr hregs ..).trans (Block.handedOver_length _ 0 w), hwait⟩
  case blockFull =>
    refine ⟨_, hup.exec_bar hd0 (hblock k w) (Block.blockCtl_full hk hgo), ?_, Block.mbxOverrun_marks _ _ _⟩
    rcases hk with rfl | rfl <;> exact Block.getI_mbxOverrun _ (by decide) (by decide) (by decide) _ _
  case release =>
    refine ⟨_, hup.exec_bar hd0 (exec_blockRelease dt k s) (Block.blockRelease_eq hk hgo hout), ?_,
      (Block.keepsRest_setI ..).2 (Block.keepsRest_refl _)⟩
    rw [Block.onI, Block.getI_setI_same _ _ _ _ _ (by decide)]
    rfl
  case plain =>
    exact hup.exec_bar hd0 (exec_doorbellRing dt _ s) ((Block.doorbellRing_one _ hd).trans (Block.doorbell_plain hrun hn))
  case node =>
    refine ⟨_, hup.exec_bar hd0 (exec_doorbellRing dt _ s) ((Block.doorbellRing_one _ hd).trans (Block.doorbell_node hrun hn)),
      Block.closeRefused_clk _ _, fun hopen => if_neg (by rw [hopen]; decide)⟩
  case early =>
    exact ⟨_, hup.exec_bar hd0 (exec_doorbellRing dt _ s) ((Block.doorbellRing_one _ hd).trans (Block.doorbell_early hrun hnew)),
      rfl, rfl⟩
  case d3hot =>
    simp only [List.mem_cons, List.not_mem_nil, or_false] at hi
    rcases hi with rfl | rfl | rfl | rfl
    · exact hup.exec_bar_d3 hd3 (hword k w)
    · exact hup.exec_bar_d3 hd3 (hblock k w)
    · exact hup.exec_bar_d3 hd3 (exec_blockRelease dt k s)
    · exact hup.exec_bar_d3 hd3 (exec_doorbellRing dt w s)

end Sys2Proof.Machine

/-! # The requests of the catalogue -/

namespace Sys2Proof.Machine
namespace Block

/-! ## A request whose LEN is right (R515-R517) -/

/-- From RUNNING a request of the right LEN is carried out, unless it is a long one while another runs. -/
theorem request_serves {b : Block} {typ : Nat} {m : Msg} (hrun : b.isRunning = true)
    (hlen : lenOk typ (4 * m.words.length) m.words = true)
    (hlong : isLong typ = false ∨ (b.serve typ m.tag).longRunning = false) (f : Block → Block) :
    b.request typ m f = f (b.serve typ m.tag) := by
  have hfree : (isLong typ && (b.serve typ m.tag).longRunning) = false := by rcases hlong with h | h <;> simp [h]
  rw [request, if_pos hrun]
  dsimp only
  rw [if_neg (by simp [hlen]), if_neg (by simp [hfree])]

/-- A reply of RESULT 0 is a message. -/
theorem reply_ok (b : Block) (typ tag detail : Nat) (extra : List Nat) :
    b.reply typ tag 0 detail extra = b.send (typ + 0x80) tag (replyWord 0 0 detail :: extra) := rfl

/-! ## Status, nonce, reset, time step (R522, R532-R534) -/

theorem getStatus_eq (b : Block) (m : Msg) : b.getStatus m = b.reply 1 m.tag 0 0
    [b.rd uSys F.SYS.BOOT_STAT_PHASE.off, b.rd uSys F.SYS.LIFECYCLE_STATE.off, b.get uSys F.SYS.IMAGE_SEQ_SEQUENCE,
      Config.firmwareVersion % 2 ^ 32, 1 + b.mbx.held.length * 256 + (if b.longRunning then 2 ^ 14 else 0),
      b.rd uSys F.SYS.UNIT_FAIL_CORE.off] := by
  have hlong : b2n b.longRunning * 2 ^ 14 = if b.longRunning then 2 ^ 14 else 0 := by cases b.longRunning <;> rfl
  rw [getStatus, hlong]

theorem getNonce_keeps (b : Block) (m : Msg) : ∃ (u : Block) (n : Nat), b.getNonce m =
      u.reply 2 m.tag 0 0 [n % 2 ^ 32, n / 2 ^ 32 % 2 ^ 32, n / 2 ^ 64 % 2 ^ 32, n / 2 ^ 96 % 2 ^ 32] ∧
    u.mbx.nonce = some n ∧ n < 2 ^ 128 ∧ u.regs = b.regs := by
  have hlt : b.fresh % 2 ^ 128 < 2 ^ 128 := Nat.mod_lt _ (by decide)
  unfold getNonce
  generalize b.fresh % 2 ^ 128 = n at *
  have hwords : (List.range 4).map (fun i => n / 2 ^ (32 * i) % 2 ^ 32) =
      [n % 2 ^ 32, n / 2 ^ 32 % 2 ^ 32, n / 2 ^ 64 % 2 ^ 32, n / 2 ^ 96 % 2 ^ 32] := by
    simp [List.range, List.range.loop]
  dsimp only
  rw [hwords]
  exact ⟨_, n, rfl, rfl, hlt, rfl⟩

theorem resetReq_due (b : Block) (m : Msg) (env : BootEnv) :
    (b.resetReq m env).boot.resetDue = some ((b.lt + 1000000) % 2 ^ 64, 1, env) ∧
      (b.resetReq m env).mbx = (b.reply 3 m.tag 0 0 []).mbx := by
  obtain ⟨_, _, _, _, _, h⟩ := b.send_outboxOnly (3 + 0x80) m.tag [replyWord 0 0 0]
  unfold resetReq
  rw [reply_ok]
  generalize b.send (3 + 0x80) m.tag [replyWord 0 0 0] = t at *
  subst h
  exact ⟨rfl, rfl⟩

/-- The STEP registers take the request's words. -/
theorem timeStepReq_steps (b : Block) (m : Msg) : ∃ u : Block, b.timeStepReq m = u.stepGo.reply 0x13 m.tag 0 0 [] ∧
    u.get uTime F.TIME.STEP_SEC_LO_SEC = m.words.getD 0 0 % 2 ^ 32 ∧
    u.get uTime F.TIME.STEP_SEC_HI_SEC = bits (m.words.getD 1 0) 15 0 ∧
    u.get uTime F.TIME.STEP_NS_NS = bits (m.words.getD 2 0) 29 0 ∧
    u.get uTime F.TIME.STEP_NS_NEG = bits (m.words.getD 2 0) 31 31 ∧ u.time = b.time := by
  refine ⟨_, rfl, ?_, ?_, ?_, ?_, ?_⟩
  · rw [get_set_apart _ (by decide), get_set_apart _ (by decide), get_set_apart _ (by decide), get_set_same _ _ (by decide)]
    rfl
  · rw [get_set_apart _ (by decide), get_set_apart _ (by decide), get_set_same _ _ (by decide)]
    exact Nat.mod_eq_of_lt (bits_lt _ 15 0)
  · rw [get_set_apart _ (by decide), get_set_same _ _ (by decide)]
    exact Nat.mod_eq_of_lt (bits_lt _ 29 0)
  · rw [get_set_same _ _ (by decide)]
    exact Nat.mod_eq_of_lt (bits_lt _ 31 31)
  · simp only [set_time]

/-! ## Staging by message (R523, R525) -/

/-- Good entries of a unit with no commit pending are staged and committed. -/
theorem stageGo_starts {b : Block} {cu : UnitId} (hty : cu.ty ≠ .device) {es : List (Nat × Nat × Nat)}
    (hes : firstBad (stageEntryOk cu) es = none) (hfree : b.relatedCommit cu = none) (typ : Nat) (m : Msg) (bnd : Boundary) :
    b.stageGo typ m none cu bnd es = ((b.await typ m none cu).stageEntries es).commitStart cu bnd m.tag := by
  unfold stageGo
  dsimp only
  rw [hes]
  dsimp only
  rw [hfree, if_neg (by simp), if_neg (by simp [hty])]

theorem await_keeps (b : Block) (typ : Nat) (m : Msg) (u : UnitId) : (b.await typ m none u).staged = b.staged ∧
    (b.await typ m none u).regs = b.regs ∧ (b.await typ m none u).out = b.out ∧
    (b.await typ m none u).mbx.deferred.length = b.mbx.deferred.length + 1 :=
  ⟨rfl, rfl, rfl, List.length_append⟩

/-- A unit of this device that exists stands in its window. -/
theorem windowLive_unit (b : Block) {i : Nat} {cu : UnitId} (hcu : unitOfIndex i = some cu) (hex : cu.exists? = true)
    (hty : cu.ty ≠ .device) : (unitOfIndex i).filter b.windowLive = some cu := by
  simp [hcu, windowLive, hty, hex]

section
variable {b : Block} {m : Msg} {cu : UnitId} (hcu : unitOfIndex (bits (m.words.getD 0 0) 9 0) = some cu)
  (hex : cu.exists? = true) (hty : cu.ty ≠ .device)
include hcu hex hty

/-- STAGE_COMMIT at a unit of this device stages and commits. -/
theorem stageCommit_commits (hcancel : bit (m.words.getD 0 0) 13 = false) (honly : bit (m.words.getD 0 0) 12 = false) :
    b.stageCommit m none =
      b.stageGo 0x10 m none cu (Boundary.ofCode (bits (m.words.getD 0 0) 11 10)) (entriesOf (m.words.drop 1)) := by
  unfold stageCommit
  dsimp only
  rw [b.windowLive_unit hcu hex hty]
  dsimp only
  rw [if_neg fun h => hty h.1]
  dsimp only
  rw [hcancel, honly, if_neg (by decide), if_neg (by decide)]

/-- With NO_COMMIT it only stages. -/
theorem stageCommit_stages (hcancel : bit (m.words.getD 0 0) 13 = false) (honly : bit (m.words.getD 0 0) 12 = true)
    (hes : firstBad (stageEntryOk cu) (entriesOf (m.words.drop 1)) = none) (hfree : b.relatedCommit cu = none) :
    b.stageCommit m none = (b.stageEntries (entriesOf (m.words.drop 1))).replyFull 0x10 m.tag 0 0 0 [0, 0, 0] := by
  unfold stageCommit
  dsimp only
  rw [b.windowLive_unit hcu hex hty]
  dsimp only
  rw [if_neg fun h => hty h.1]
  dsimp only
  rw [hcancel, honly, if_neg (by decide), if_pos rfl, hes]
  dsimp only
  rw [hfree, if_neg (by simp), answer]

/-- With CANCEL it withdraws the commit that has not entered its unit. -/
theorem stageCommit_cancels (hcancel : bit (m.words.getD 0 0) 13 = true) {c : Commit}
    (hfind : b.commits.find? (fun c => c.unit == cu && notEntered c) = some c) :
    b.stageCommit m none = ((b.commitDrop c).groupsPoll).replyFull 0x10 m.tag 0 0 0 [0, 0, 0] := by
  have hc := List.find?_some hfind
  have hany : (b.commits.any fun c => c.unit == cu && notEntered c) = true :=
    List.any_eq_true.2 ⟨c, List.mem_of_find?_eq_some hfind, hc⟩
  unfold stageCommit
  dsimp only
  rw [b.windowLive_unit hcu hex hty]
  dsimp only
  rw [if_neg fun h => hty h.1]
  dsimp only
  rw [hcancel, if_pos rfl, if_neg fun h => hty h.1, hany, if_pos rfl, commitCancel, hfind, answer]

end

/-- NO_COMMIT and CANCEL of a staging message are those of its form. -/
theorem stagingMsg_bits (m : Msg) {k : Nat} (hk : k ≤ 2)
    (hlen : lenOk 0x10 (4 * (stagingMsg m k).words.length) (stagingMsg m k).words = true) :
    bit ((stagingMsg m k).words.getD 0 0) 12 = decide (k = 1) ∧ bit ((stagingMsg m k).words.getD 0 0) 13 = decide (k = 2) := by
  obtain ⟨tag, words⟩ := m
  cases words with
  | nil =>
    change lenOk 0x10 0 [] = true at hlen
    exact absurd hlen (by decide)
  | cons w r =>
    have hw : (stagingMsg ⟨tag, w :: r⟩ k).words.getD 0 0 = w % 2 ^ 12 + k * 2 ^ 12 + w / 2 ^ 14 * 2 ^ 14 := rfl
    rw [hw]
    simp only [bit]
    interval_cases k <;> simp <;> omega

/-- EXPOSE at the outputs of this device stages their widths and starts an epoch commit. -/
theorem expose_starts {b : Block} {m : Msg} {es : List (Nat × Nat × Nat)} (hlocal : bit (m.words.getD 0 0) 16 = false)
    (hwidths : es = (onesBelow 12 (m.words.getD 0 0)).map fun k =>
      (uTrig.index + F.TRIG.EXPOSE_WIDTH_NS.at k * 1024, 2 ^ 20 - 1, bits (m.words.getD 1 0) 19 0))
    (hes : firstBad (stageEntryOk uTrig) es = none) (hfree : b.relatedCommit uTrig = none) :
    b.expose m none = ((b.await 0x12 m none uTrig).stageEntries es).commitStart uTrig .epoch m.tag := by
  rw [expose, hlocal, if_neg (by decide), ← hwidths]
  exact stageGo_starts (by decide) hes hfree 0x12 m .epoch

/-- Good entries of CONTROL are written in turn. -/
theorem control_writes {b : Block} {m : Msg} (hes : firstBad controlOk (entriesOf (m.words.drop 1)) = none) :
    b.control m = ((entriesOf (m.words.drop 1)).foldl controlEntry b).reply 0x11 m.tag 0 0 [] := by
  unfold control
  dsimp only
  rw [hes]

/-! ## Pages, references and maps (R332-R339, R382, R383) -/

/-- A page job joins the queue that has room for it. -/
theorem pageJobReq_joins {b : Block} (m : Msg) (h : b.refs.jobs.length < 64) :
    ∃ u : Block, b.pageJobReq m = u.reply 0x20 m.tag 0 (b.refs.jobs.length + 1) [] ∧
      ∃ j : PageJob, u.refs.jobs = b.refs.jobs ++ [j] ∧ j.job = m.words.getD 1 0 ∧ j.handle = m.words.getD 2 0 ∧
        j.noref = bit (m.words.getD 0 0) 16 ∧ j.held = (!bit (m.words.getD 0 0) 16 && (b.refOf (m.words.getD 2 0)).isSome) := by
  unfold pageJobReq pageJob
  rw [if_neg (by omega)]
  extract_lets noref hd map held mheld s₁ s₂ j refs₁ s₃
  have h₁ : s₁.refs.jobs = b.refs.jobs := by
    unfold s₁
    split <;> rfl
  have h₂ : s₂.refs.jobs = b.refs.jobs := by
    rw [← h₁]
    unfold s₂
    split <;> rfl
  have h₃ : s₃.refs.jobs = b.refs.jobs ++ [j] := congrArg (· ++ [j]) h₂
  refine ⟨s₃, ?_, j, h₃, rfl, rfl, rfl, rfl⟩
  rw [h₃, List.length_append]
  rfl

theorem evictPlan_fits {need free : Nat} (h : need ≤ free) (l : List RefEntry) : evictPlan need free l = some [] := by
  cases l <;> exact if_pos h

/-- A load of a new handle with a free slot, chunks enough and an entry free evicts nothing (R334, R335). -/
theorem refLoad_opens {b : Block} {d : LoadDesc} (hnew : b.refOf d.handle = none) (hslot : (b.slot d.slot).handle = none)
    (hslots : d.slot < b.refs.slots.length) (hdram : bit (b.get uSys F.SYS.UNIT_FAIL_DMC) 0 = false) (hfmt : d.fmt < 3)
    (hratio : d.ratio < 5) (hroom : chunksFor d.fmt d.ratio d.width d.lines ≤ b.freeChunks.length)
    (hdir : b.refs.dir.length < 4096) :
    ∃ u : Block, b.refLoad d = (0, [], u) ∧ (u.slot d.slot).handle = some d.handle ∧
      ∃ e : RefEntry, u.refs.dir = b.refs.dir ++ [e] ∧ e.handle = d.handle ∧ e.state = 1 ∧ e.pin = d.pin ∧
        e.chunks.length = chunksFor d.fmt d.ratio d.width d.lines := by
  unfold refLoad
  dsimp only
  rw [hnew, hslot]
  dsimp only
  rw [if_neg (by simp), if_neg (by simp [hdram]), if_neg (show ¬3 ≤ d.fmt by omega), if_neg (show ¬5 ≤ d.ratio by omega),
    if_neg (show ¬(3 ≤ d.fmt ∨ 5 ≤ d.ratio) by omega), evictPlan_fits (Nat.le_add_right_of_le hroom)]
  dsimp only
  have hfull : ((none : Option RefEntry).isNone && decide (4096 ≤ b.refs.dir.length) && ([] : List RefEntry).isEmpty) = false := by
    simp only [Option.isNone_none, List.isEmpty_nil, Bool.true_and, Bool.and_true, decide_eq_false_iff_not]
    omega
  rw [hfull, if_neg (by decide)]
  refine ⟨_, rfl, congrArg LoadSlot.handle (nth_upd_same _ _ _ _ hslots), _, rfl, rfl, rfl, rfl, ?_⟩
  exact (List.length_take ..).trans (Nat.min_eq_left hroom)

theorem refLoadReq_opens {b u : Block} {m : Msg} (h : b.refLoad (loadDesc m.words) = (0, [], u)) :
    b.refLoadReq m = u.reply 0x21 m.tag 0 0 [] := by
  rw [refLoadReq, h]
  rfl

theorem refAbortReq_ends {b : Block} {m : Msg} {e : RefEntry} (he : b.refOf (m.words.getD 0 0) = some e) (hload : e.state = 1) :
    b.refAbortReq m = (b.loadAborted (m.words.getD 0 0)).reply 0x22 m.tag 0 0 [] := by
  rw [refAbortReq, refAbort, he]
  dsimp only
  rw [if_pos hload]

section
variable {b : Block} {m : Msg} {e : RefEntry} (he : b.refOf (m.words.getD 0 0) = some e) (hload : e.state ≠ 1)
include he hload

theorem refReleaseReq_frees (huse : e.use = 0) :
    b.refReleaseReq m = (b.refFree (m.words.getD 0 0)).reply 0x23 m.tag 0 0 [] := by
  rw [refReleaseReq, refRelease, he]
  dsimp only
  rw [if_neg hload, if_pos huse]

theorem refReleaseReq_waits (huse : e.use ≠ 0) :
    b.refReleaseReq m = (b.setRef (m.words.getD 0 0) fun e => { e with state := 3 }).reply 0x23 m.tag 0 1 [] := by
  rw [refReleaseReq, refRelease, he]
  dsimp only
  rw [if_neg hload, if_neg huse]

end

/-- A map load into an empty map store that has the chunks it needs (R382, R383). -/
theorem mapLoadReq_opens {b : Block} {m : Msg} (hmaps : b.refs.maps = []) (hdram : bit (b.get uSys F.SYS.UNIT_FAIL_DMC) 0 = false)
    (hroom : bits (m.words.getD 2 0) 19 0 * ((bits (m.words.getD 1 0) 15 0 + 1) / 2) ≤
      65536 * 256 * b.get uSeg F.SEG.MAP_SIZE_CHUNKS) :
    ∃ u : Block, b.mapLoadReq m = u.reply 0x24 m.tag 0 0 [] ∧ ∃ x : MapEntry, u.refs.maps = [x] ∧
      x.id = bits (m.words.getD 0 0) 31 16 ∧ x.state = 1 ∧ x.rows = bits (m.words.getD 2 0) 19 0 ∧ x.fed = 0 := by
  have hold : ∀ id, b.mapOf id = none := fun id => by rw [mapOf, hmaps]; rfl
  have hfree : ∀ n, ((List.range n).filter fun u => !(([] : List MapEntry).flatMap (·.units)).contains u) = List.range n :=
    fun n => List.filter_eq_self.2 fun _ _ => rfl
  unfold mapLoadReq mapLoad
  dsimp only
  rw [hold, hmaps, List.filter_nil, hfree]
  rw [if_neg (by simp), if_neg]
  · rw [Option.isSome_none, if_neg (by decide), hmaps, List.nil_append]
    exact ⟨_, rfl, _, rfl, rfl, rfl, rfl, rfl⟩
  · simp only [List.length_range, List.length_nil, hdram]
    generalize bits (m.words.getD 2 0) 19 0 * ((bits (m.words.getD 1 0) 15 0 + 1) / 2) = n at *
    simp only [Bool.false_eq_true, or_false, not_or, not_and, Nat.not_lt]
    omega

theorem mapAbortReq_ends {b : Block} {m : Msg} {x : MapEntry} (hx : b.mapOf (bits (m.words.getD 0 0) 15 0) = some x)
    (hload : x.state = 1) : b.mapAbortReq m = (b.mapAborted (bits (m.words.getD 0 0) 15 0)).reply 0x25 m.tag 0 0 [] := by
  rw [mapAbortReq, mapAbort, hx]
  dsimp only
  rw [if_pos hload]

section
variable {b : Block} {m : Msg} {x : MapEntry} (hx : b.mapOf (bits (m.words.getD 0 0) 15 0) = some x) (hload : x.state ≠ 1)
include hx hload

theorem mapReleaseReq_frees (huse : x.use = 0) :
    b.mapReleaseReq m = (b.mapFree (bits (m.words.getD 0 0) 15 0)).reply 0x26 m.tag 0 0 [] := by
  rw [mapReleaseReq, mapRelease, hx]
  dsimp only
  rw [if_neg hload, if_pos huse]

theorem mapReleaseReq_waits (huse : x.use ≠ 0) :
    b.mapReleaseReq m = (b.setMap (bits (m.words.getD 0 0) 15 0) fun x => { x with state := 3 }).reply 0x26 m.tag 0 1 [] := by
  rw [mapReleaseReq, mapRelease, hx]
  dsimp only
  rw [if_neg hload, if_neg huse]

end

end Block
end Sys2Proof.Machine

/-! # The long requests: tables, readback, images, lifecycle (R528, R531, R532) -/

namespace Sys2Proof.Machine
namespace Block

/-! ## What reading memory leaves of the outputs -/

theorem sramRead_out (b : Block) (u : UnitId) (a : Nat) : (b.sramRead u a).out = b.out := by
  unfold sramRead
  split <;> simp [sramPut]

theorem sramSeen_out (b : Block) (u : UnitId) (p : Nat → Bool) : (b.sramSeen u p).out = b.out :=
  foldl_keeps out _ (fun e _ t => sramRead_out t e.1.1 e.1.2) b

theorem chanStates_out (b : Block) (v : Nat) : (b.chanStates v).out = b.out :=
  foldl_keeps out _ (fun _ _ _ => setI_out ..) b

theorem dramWake_out (b : Block) : b.dramWake.out = b.out := by
  unfold dramWake
  dsimp only
  split
  · rw [chanStates_out, set_out]
  · rfl

theorem dramUe_out (b : Block) (g : Nat) : (b.dramUe g).out = b.out := by
  simp only [dramUe, log_out, flagRaise_out, set_out, inc_out]

theorem granRead_out (b : Block) (g flips : Nat) : (b.granRead g flips).2.2.out = b.out := by
  unfold granRead
  extract_lets n wild keep
  split_ifs
  · rfl
  · rfl
  · rfl
  · exact dramUe_out (keep b n) g
  · rfl

theorem dramRead_out (b : Block) (a n : Nat) : (b.dramRead a n).2.2.out = b.out := by
  unfold dramRead
  extract_lets first last hit step
  have hstep : ∀ x g, (step x g).2.2.out = x.2.2.out := fun x g => granRead_out x.2.2 g 0
  clear_value step
  split_ifs
  · rfl
  · exact dramWake_out b
  · exact (foldl_keeps (fun x : List Nat × List Nat × Block => x.2.2.out) _ (fun g _ x => hstep x g) _).trans (dramWake_out b)

theorem decodeStep_out (e : RefEntry) (band j : Nat)
    (acc : List (List Int) × Bool × List (List (List Int) × Bool) × Block) :
    (decodeStep e band acc j).2.2.2.out = acc.2.2.2.out := by
  obtain ⟨h, sound, l, b⟩ := acc
  unfold decodeStep
  dsimp -zeta only
  extract_lets hist sound bad t
  have hbad : ∀ x, (bad x).2.2.2.out = x.out := fun x => by simp only [bad, flag_out, inc_out]
  have hread := dramRead_out t (t.slotAddr e (band * e.blocksPer + j)) (Machine.slotBytes e.fmt e.ratio)
  clear_value bad
  generalize t.dramRead (t.slotAddr e (band * e.blocksPer + j)) (Machine.slotBytes e.fmt e.ratio) = r at *
  obtain ⟨bytes, ue, x⟩ := r
  have hx : x.out = b.out := hread
  dsimp only
  split
  · rw [hbad, hx]
  split
  · rw [hbad, flag_out, inc_out, hx]
  · split <;> simp only [flag_out, inc_out, hx]

theorem decodeBand_out (b : Block) (e : RefEntry) (band : Nat) : (b.decodeBand e band).2.out = b.out :=
  foldl_keeps (fun x : List (List Int) × Bool × List (List (List Int) × Bool) × Block => x.2.2.2.out) _
    (fun j _ x => decodeStep_out e band j x) (histInit e.fmt, true, [], b)

/-! ## Transfers with host memory (R528) -/

theorem fetchFor_host {space : Nat} (h : space ≠ 1) (b : Block) (addr n : Nat) (data : List Nat) (ok : Bool) :
    b.fetchFor space addr n data ok = (ok, data.take n, b) := if_neg h

theorem storeFor_host {space : Nat} (h : space ≠ 1) (b : Block) (addr : Nat) (l : List Nat) (ok : Bool) :
    b.storeFor space addr l ok = (ok, b.emit (.hostWrite addr l)) := if_neg h

theorem moved_ok (b : Block) (typ : Nat) (m : Msg) (core : Nat) : b.moved typ m core true = b.longDone typ m core 0 0 [] := rfl

theorem anyCtx_named {q : TableReq} (hctx : q.target < 3 → q.ctx < 32) (b : Block) : b.anyCtx q = (q, b) :=
  if_neg fun h => absurd (hctx h.1) (Nat.not_lt.2 h.2)

theorem length_wordsOf (n : Nat) (l : List Nat) : (wordsOf n l).length = n := by
  induction n generalizing l with
  | zero => rfl
  | succ n ih => exact congrArg (· + 1) (ih (l.drop 4))

/-! ## Tables -/

section
variable {b : Block} {m : Msg} {q : TableReq} (hq : q = tableReq m.words) (hnamed : q.target ≤ 3)
  (hctx : q.target < 3 → q.ctx < 32) (hspace : q.space ≠ 1)
include hq hnamed hctx hspace

/-- A bank that is not locked takes the words host memory answers with. -/
theorem tableWrite_puts (hopen : b.bankLocked q = false) {data : List Nat} (hdata : data.length = 4 * q.count) :
    b.tableWrite m data true = (((List.range q.count).zip (wordsOf q.count data)).foldl
      (fun x p => x.bankPut q (q.first + p.1) p.2) b).longDone 0x30 m (if q.target = 3 then 3 else 1) 0 0 [] := by
  have hcount : data.length / 4 = q.count := by omega
  unfold tableWrite
  rw [← hq, anyCtx_named hctx]
  dsimp only
  rw [if_neg (by simp [tableNamed, hnamed]), if_neg (by simp [hopen]), fetchFor_host hspace]
  dsimp only
  rw [if_pos rfl, List.take_of_length_le hdata.le, hcount, length_wordsOf, moved_ok]

/-- The words of a bank go to host memory. -/
theorem tableRead_stores : ∃ t : Block, b.tableRead m true = t.longDone 0x31 m (if q.target = 3 then 3 else 1) 0 0 [] ∧
    t.out = .hostWrite q.addr (((List.range q.count).map fun i => b.bankGet q (q.first + i) (b.fresh % 2 ^ 32)).flatMap (le 4)) ::
      b.out := by
  unfold tableRead
  rw [← hq, anyCtx_named hctx]
  dsimp only
  rw [if_neg (by simp [tableNamed, hnamed]), storeFor_host hspace]
  refine ⟨_, moved_ok .., ?_⟩
  rw [emit_out]
  congr 1
  split
  · rfl
  · rw [sramSeen_out, took_out]

end

/-! ## Readback (R343-R345) -/

theorem length_flatMap_le (n : Nat) (l : List Nat) : (l.flatMap (le n)).length = n * l.length := by
  simp [List.length_flatMap, length_le, Nat.mul_comm]

/-- Words sent to host memory: the request is done, with one output more. -/
theorem store_done {b t : Block} {ws : List Nat} {n : Nat} (hws : ws.length = 16 * n) (ht : t.out = b.out) (addr typ : Nat)
    (m : Msg) : ∃ (u : Block) (l : List Nat), (t.storeFor 0 addr (ws.flatMap (le 4)) true).2.moved typ m 1
        (t.storeFor 0 addr (ws.flatMap (le 4)) true).1 = u.longDone typ m 1 0 0 [] ∧
      l.length = 64 * n ∧ u.out = .hostWrite addr l :: b.out := by
  rw [storeFor_host (by decide)]
  refine ⟨_, _, moved_ok .., ?_, congrArg _ ht⟩
  rw [length_flatMap_le, hws]
  omega

/-- The 16 lines of a band, 32 bits a pixel, go to host memory. -/
theorem refReadback_stores {b : Block} {m : Msg} {e : RefEntry} (he : b.refOf (m.words.getD 0 0) = some e) (hready : e.state = 2) :
    ∃ (t : Block) (l : List Nat), b.refReadback m true = t.longDone 0x32 m 1 0 0 [] ∧ l.length = 64 * e.width ∧
      t.out = .hostWrite (m.words.getD 2 0 + m.words.getD 3 0 * 2 ^ 32) l :: b.out := by
  unfold refReadback
  dsimp only
  rw [he]
  dsimp only
  rw [if_neg (by simp [hready])]
  by_cases hband : m.words.getD 1 0 < e.bandCount
  · rw [if_pos hband]
    refine store_done ((List.length_flatMap ..).trans ?_) (decodeBand_out b e _) _ 0x32 m
    simp only [List.length_map, List.length_range, List.map_const', List.sum_replicate, smul_eq_mul]
  · rw [if_neg hband]
    exact store_done (by simp) (took_out b) _ 0x32 m

/-! ## Images (R531) -/

/-- An image that passes its checks is written to the other slot. -/
theorem imageUpdate_writes {b : Block} {m : Msg} {data : List Nat} (hspace : bits (m.words.getD 0 0) 1 0 ≠ 1)
    (hdata : data.length = m.words.getD 3 0) (hgood : b.imageCheck data = 0) :
    b.imageUpdate m data true true =
      (b.slotWrite (1 - b.bootSlot) data true).longDone 0x40 m 0 0 0 [1 - b.bootSlot, leAt data 0xC 4] := by
  unfold imageUpdate
  dsimp only
  rw [fetchFor_host hspace]
  dsimp only
  rw [if_neg (by decide), List.take_of_length_le hdata.le, if_neg (by simp [hgood]), if_pos rfl]

/-! ## Lifecycle requests (R532) -/

/-- An accepted request blows its fuses and is followed by a device reset. -/
theorem lifeReq_blows {b : Block} {typ : Nat} {m : Msg} {f : Fuses}
    (hallowed : lifeAllowed typ (b.get uSys F.SYS.LIFECYCLE_STATE) = true)
    (hident : b.lifeIdent (lifeBytes m) = true)
    (hsigned : b.lifeSigned typ (b.get uSys F.SYS.LIFECYCLE_STATE) (lifeBytes m) = true)
    (hact : b.lifeAct typ (lifeBytes m) = .blow f) (env : BootEnv) :
    (b.lifeReq typ m true env).fuses = f ∧ (b.lifeReq typ m true env).mbx.nonce = none ∧
      ∃ x, x < 2 ^ 63 ∧ (b.lifeReq typ m true env).boot.resetDue = some ((b.lt + x) % 2 ^ 64, 3, env) := by
  unfold lifeReq
  extract_lets bytes st drawn box t
  rw [if_neg (by simp [st, hallowed]), if_neg (by simp [bytes, st, hident, hsigned]), hact]
  have ht : t.mbx.nonce = none ∧ t.lt = b.lt := ⟨rfl, rfl⟩
  clear_value t
  dsimp -zeta only
  rw [if_pos rfl, reply_ok]
  obtain ⟨_, _, _, _, _, h⟩ := ({ t with fuses := f } : Block).send_outboxOnly (typ + 0x80) m.tag [replyWord 0 0 0]
  rw [h]
  exact ⟨rfl, ht.1, _, Nat.mod_lt _ (by decide), by rw [← ht.2]⟩

end Block
end Sys2Proof.Machine

/-! # The catalogue, request by request -/

namespace Sys2Proof.Machine

/-- From RUNNING a request of the right LEN that is not kept out by a long one has its effect. -/
theorem State.up.exec_request {s : State} {dt : Nat} (hup : s.up dt) (hrun : (s.now dt).isRunning = true) {c : Instr} {typ : Nat}
    {m : Msg} {f : Block → Block} {t : Block} (hc : exec c s = s.live dt fun b => b.request typ m f)
    (hlen : Block.lenOk typ (4 * m.words.length) m.words = true)
    (hlong : Block.isLong typ = false ∨ ((s.now dt).serve typ m.tag).longRunning = false)
    (hf : f ((s.now dt).serve typ m.tag) = t) : exec c s = .next ⟨s.pending, t⟩ :=
  hup.exec_next hc ((Block.request_serves hrun hlen hlong f).trans hf)

/-- So has a page, reference or map request, after the first line of a page that is due. -/
theorem State.up.exec_paged {s : State} {dt : Nat} (hup : s.up dt) (hrun : (s.now dt).pageDue.isRunning = true) {c : Instr}
    {typ : Nat} {m : Msg} {f : Block → Block} {t : Block} (hc : exec c s = s.live dt fun b => b.pageDue.request typ m f)
    (hlen : Block.lenOk typ (4 * m.words.length) m.words = true) (hshort : Block.isLong typ = false)
    (hf : f ((s.now dt).pageDue.serve typ m.tag) = t) : exec c s = .next ⟨s.pending, t⟩ :=
  hup.exec_next hc ((Block.request_serves hrun hlen (.inl hshort) f).trans hf)

/-- The lifecycle requests, each with its TYPE (R532). -/
def lifecycleRequests : List (Nat × (Nat → Msg → Bool → BootEnv → Instr)) :=
  [(0x50, .secure), (0x51, .scrap), (0x52, .rma), (0x53, .keyAdd), (0x54, .keyRevoke), (0x55, .rollback), (0x56, .debugDisable)]

theorem exec_lifecycle {c : Nat × (Nat → Msg → Bool → BootEnv → Instr)} (hc : c ∈ lifecycleRequests) (dt : Nat) (m : Msg)
    (vfuse : Bool) (env : BootEnv) (s : State) : exec (c.2 dt m vfuse env) s =
      s.live dt fun (b : Block) => b.request c.1 m fun (b : Block) => b.lifeReq c.1 m vfuse env := by
  simp only [lifecycleRequests, List.mem_cons, List.not_mem_nil, or_false] at hc
  rcases hc with rfl | rfl | rfl | rfl | rfl | rfl | rfl <;> rfl

/-- A lifecycle request that is accepted blows its fuses. -/
theorem State.up.exec_life {s : State} {dt : Nat} (hup : s.up dt) (hrun : (s.now dt).isRunning = true) {c : Instr} {typ : Nat}
    {m : Msg} {env : BootEnv} {f : Fuses} (hc : exec c s = s.live dt fun b => b.request typ m fun b => b.lifeReq typ m true env)
    (hlen : Block.lenOk typ (4 * m.words.length) m.words = true) (hfree : ((s.now dt).serve typ m.tag).longRunning = false)
    (hallowed : Block.lifeAllowed typ (((s.now dt).serve typ m.tag).get uSys F.SYS.LIFECYCLE_STATE) = true)
    (hident : ((s.now dt).serve typ m.tag).lifeIdent (Block.lifeBytes m) = true)
    (hsigned : ((s.now dt).serve typ m.tag).lifeSigned typ (((s.now dt).serve typ m.tag).get uSys F.SYS.LIFECYCLE_STATE)
      (Block.lifeBytes m) = true)
    (hact : ((s.now dt).serve typ m.tag).lifeAct typ (Block.lifeBytes m) = .blow f) :
    ∃ t : Block, exec c s = .next ⟨s.pending, t⟩ ∧ t.fuses = f ∧ t.mbx.nonce = none ∧
      ∃ x, x < 2 ^ 63 ∧ t.boot.resetDue = some ((((s.now dt).serve typ m.tag).lt + x) % 2 ^ 64, 3, env) :=
  ⟨_, hup.exec_request hrun hc hlen (.inr hfree) rfl, Block.lifeReq_blows hallowed hident hsigned hact env⟩

/-- Settles O58: each clause is the equation of its request, served in the state the command meets. -/
theorem catalogueRequestsAreServed : Obligations.CatalogueRequestsAreServed := by
  intro s dt m env hup hrun r p w len
  refine ⟨?status, ?nonce, ?reset, ?stage, ?control, ?expose, ?timeStep, fun hpage =>
    ⟨?pageJob, ?refLoad, ?refAbort, ?refRelease, ?mapLoad, ?mapAbort, ?mapRelease⟩,
    ?tableWrite, ?tableRead, ?readback, ?image, ?life⟩
  case status => exact fun hlen => hup.exec_request hrun (exec_getStatus dt m s) hlen (.inl rfl) (Block.getStatus_eq _ m)
  case nonce =>
    intro hlen
    obtain ⟨u, n, heq, hkept, hlt, hregs⟩ := (r 2).getNonce_keeps m
    exact ⟨u, n, hup.exec_request hrun (exec_getNonce dt m s) hlen (.inl rfl) heq, hkept, hlt, hregs⟩
  case reset =>
    exact fun hlen => ⟨_, hup.exec_request hrun (exec_reset dt m env s) hlen (.inl rfl) rfl, (r 3).resetReq_due m env⟩
  case stage =>
    intro k cu m' x es hlen hcu hex hty
    refine ⟨?commit, ?only, ?cancel⟩
    case commit =>
      rintro rfl hes hfree
      obtain ⟨honly, hcancel⟩ := Block.stagingMsg_bits m (by decide) hlen
      exact ⟨_, hup.exec_request hrun (exec_stageCommit dt m s) hlen (.inl rfl)
        ((Block.stageCommit_commits hcu hex hty hcancel honly).trans (Block.stageGo_starts hty hes hfree ..)),
        Block.await_keeps ..⟩
    case only =>
      rintro rfl hes hfree
      obtain ⟨honly, hcancel⟩ := Block.stagingMsg_bits m (by decide) hlen
      exact hup.exec_request hrun (exec_stageOnly dt m s) hlen (.inl rfl)
        (Block.stageCommit_stages hcu hex hty hcancel honly hes hfree)
    case cancel =>
      rintro rfl c hfind
      obtain ⟨-, hcancel⟩ := Block.stagingMsg_bits m (by decide) hlen
      exact hup.exec_request hrun (exec_stageCommitCancel dt m s) hlen (.inl rfl)
        (Block.stageCommit_cancels hcu hex hty hcancel hfind)
  case control =>
    exact fun hlen hes => hup.exec_request hrun (exec_control dt m s) hlen (.inl rfl) (Block.control_writes hes)
  case expose =>
    intro es hlen hlocal hwidths hes hfree
    obtain ⟨hstaged, hregs, -, hdeferred⟩ := (r 0x12).await_keeps 0x12 m uTrig
    exact ⟨_, hup.exec_request hrun (exec_expose dt m s) hlen (.inl rfl) (Block.expose_starts hlocal hwidths hes hfree),
      hstaged, hregs, hdeferred⟩
  case timeStep =>
    intro hlen
    obtain ⟨u, heq, hu⟩ := (r 0x13).timeStepReq_steps m
    exact ⟨u, hup.exec_request hrun (exec_timeStep dt m s) hlen (.inl rfl) heq, hu⟩
  case pageJob =>
    intro hlen hroom
    obtain ⟨u, heq, hu⟩ := Block.pageJobReq_joins m hroom
    exact ⟨u, hup.exec_paged hpage (exec_pageJob dt m s) hlen rfl heq, hu⟩
  case refLoad =>
    rintro d rfl hlen hnew hslot hslots hdram hfmt hratio hroom hdir
    have hin : (loadDesc m.words).slot < (p 0x21).refs.slots.length := by
      rw [hslots]
      exact bits_lt _ 17 16
    obtain ⟨u, heq, hu⟩ := Block.refLoad_opens hnew hslot hin hdram hfmt hratio hroom hdir
    exact ⟨u, hup.exec_paged hpage (exec_refLoad dt m s) hlen rfl (Block.refLoadReq_opens heq), hu⟩
  case refAbort =>
    exact fun e hlen he hload => hup.exec_paged hpage (exec_refAbort dt m s) hlen rfl (Block.refAbortReq_ends he hload)
  case refRelease =>
    exact fun e hlen he hload =>
      ⟨fun h => hup.exec_paged hpage (exec_refRelease dt m s) hlen rfl (Block.refReleaseReq_frees he hload h),
        fun h => hup.exec_paged hpage (exec_refRelease dt m s) hlen rfl (Block.refReleaseReq_waits he hload h)⟩
  case mapLoad =>
    intro hlen hmaps hdram hroom
    obtain ⟨u, heq, hu⟩ := Block.mapLoadReq_opens hmaps hdram hroom
    exact ⟨u, hup.exec_paged hpage (exec_mapLoad dt m s) hlen rfl heq, hu⟩
  case mapAbort =>
    exact fun x hlen hx hload => hup.exec_paged hpage (exec_mapAbort dt m s) hlen rfl (Block.mapAbortReq_ends hx hload)
  case mapRelease =>
    exact fun x hlen hx hload =>
      ⟨fun h => hup.exec_paged hpage (exec_mapRelease dt m s) hlen rfl (Block.mapReleaseReq_frees hx hload h),
        fun h => hup.exec_paged hpage (exec_mapRelease dt m s) hlen rfl (Block.mapReleaseReq_waits hx hload h)⟩
  case tableWrite =>
    exact fun q data hq hlen hfree hnamed hctx hspace hopen hdata =>
      hup.exec_request hrun (exec_tableWrite dt m data true s) hlen (.inr hfree)
        (Block.tableWrite_puts hq hnamed hctx hspace hopen hdata)
  case tableRead =>
    intro q hq hlen hfree hnamed hctx hspace
    obtain ⟨t, heq, ht⟩ := Block.tableRead_stores (b := r 0x31) hq hnamed hctx hspace
    exact ⟨t, hup.exec_request hrun (exec_tableRead dt m true s) hlen (.inr hfree) heq, ht⟩
  case readback =>
    intro e hlen hfree he hready
    obtain ⟨t, l, heq, ht⟩ := Block.refReadback_stores he hready
    exact ⟨t, l, hup.exec_request hrun (exec_refReadback dt m true s) hlen (.inr hfree) heq, ht⟩
  case image =>
    exact fun data hlen hfree hspace hdata hgood =>
      hup.exec_request hrun (exec_imageUpdate dt m data true true s) hlen (.inr hfree)
        (Block.imageUpdate_writes hspace hdata hgood)
  case life =>
    intro c hc f hlen hfree hallowed hident hsigned hact
    exact hup.exec_life hrun (exec_lifecycle hc dt m true env s) hlen hfree hallowed hident hsigned hact

end Sys2Proof.Machine

/-! # Sources that fail: the clock monitor's verdicts (R97-R100) -/

namespace Sys2Proof.Machine
namespace Block

/-! ## Outputs stay shown while the host port resets -/

theorem mem_out_msix {b : Block} {o : Output} (h : o ∈ b.out) (v : Nat) : o ∈ (b.msix v).out := by
  unfold msix
  dsimp only
  split
  · split <;> exact h
  · exact List.mem_cons_of_mem _ h

theorem mem_out_hostIrq {b : Block} {o : Output} (h : o ∈ b.out) (f : Field) : o ∈ (b.hostIrq f).out := by
  unfold hostIrq
  extract_lets s
  have hs : o ∈ s.out := h
  split
  · exact hs
  · exact mem_out_msix hs 0

theorem mem_out_unitFail {b : Block} {o : Output} (h : o ∈ b.out) (f : Field) (n : Nat) : o ∈ (b.unitFail f n).out := by
  have hlog : o ∈ ((b.setBitI uSys f 0 n).log uSys 0x0040 2 (f.lo + n) 0 0).out := by simpa using h
  unfold unitFail
  dsimp only
  split
  · exact h
  · split
    · exact mem_out_hostIrq hlog _
    · exact hlog

theorem mem_out_hostLinkDown {b : Block} {o : Output} (h : o ∈ b.out) : o ∈ b.hostLinkDown.out := by
  unfold hostLinkDown
  extract_lets s
  have hs : o ∈ s.out := h
  split
  · exact mem_out_unitFail hs _ _
  · exact hs

theorem streamLeave_out (b : Block) (n : Nat) : (b.streamLeave n).out = b.out :=
  foldl_keeps out _ (fun _ _ t => by dsimp only; split <;> simp) b

theorem tagsUpdate_out (b : Block) : b.tagsUpdate.out = b.out := by
  unfold tagsUpdate
  dsimp only
  split <;> rfl

theorem chansAbort_out (b : Block) : b.chansAbort.out = b.out := by
  refine (tagsUpdate_out _).trans (foldl_keeps out _ (fun n _ t => ?_) b)
  dsimp only
  split
  · rfl
  · split <;> simp [setChan, streamLeave_out]

theorem resetAll_out (b : Block) (u : UnitId) (fs : List Field) : (b.resetAll u fs).out = b.out :=
  foldl_keeps out fs (fun f _ t => foldl_keeps out (List.range f.count) (fun _ _ _ => setI_out ..) t) b

theorem clearAll_out (b : Block) (u : UnitId) (fs : List Field) : (b.clearAll u fs).out = b.out :=
  foldl_keeps out fs (fun f _ t => foldl_keeps out (List.range f.count) (fun _ _ _ => setI_out ..) t) b

theorem semRelease_out (b : Block) (h : Nat) : (b.semRelease h).out = b.out :=
  foldl_keeps out _ (fun _ _ t => by split <;> rfl) b

theorem mbxHostReset_out (b : Block) : b.mbxHostReset.out = b.out := by
  simp [mbxHostReset, dropBells, addI, clearAll_out]

theorem evtHostReset_out (b : Block) : b.evtHostReset.out = b.out :=
  foldl_keeps out _ (fun _ _ t => by split <;> rfl) b

/-- A reset of the host port drives nothing. -/
theorem hostReset_out (b : Block) : b.hostReset.out = b.out := by
  have hend (t : Block) : t.endpointReset.out = t.out := rfl
  have herr (t : Block) : t.errlogHostReset.out = t.out := resetAll_out ..
  unfold hostReset
  dsimp only
  rw [hend, herr, evtHostReset_out, mbxHostReset_out, semRelease_out, resetAll_out, resetAll_out, chansAbort_out]

/-- The link going down by DL_Down leaves every output shown. -/
theorem mem_out_linkLost {b : Block} {o : Output} (h : o ∈ b.out) : o ∈ (b.hostPortReset 2).out := by
  rw [hostPortReset]
  split
  · exact mem_out_hostLinkDown (by rwa [hostReset_out])
  · exact h

/-! ## Verdicts -/

theorem watchFail_marks {b : Block} (harmed : b.armed = true) (hgood : b.on uClk F.CLK.SRC_STAT_WATCH_OK = true) :
    b.watchFail = ((b.set uClk F.CLK.SRC_STAT_WATCH_OK 0).set uClk F.CLK.MON_STAT_WATCH_FAIL 1).clockLog 1 :=
  if_pos (by rw [harmed, hgood]; rfl)

theorem xtalFail_marks {b : Block} (harmed : b.armed = true) (hgrace : b.graceOver = true)
    (hgood : b.on uClk F.CLK.SRC_STAT_XTAL_OK = true) :
    b.xtalFail = ((((b.set uClk F.CLK.SRC_STAT_XTAL_OK 0).set uClk F.CLK.MON_STAT_XTAL_FAIL 1).set
      uClk F.CLK.SRC_STAT_ON_ITO 1).clockLog 2).raise 0 :=
  if_pos (by rw [harmed, hgrace, hgood]; rfl)

/-- The lock of PLL_SYS (false) or PLL_DDR (true). -/
def pllLock (ddr : Bool) : Field := if ddr then F.CLK.SRC_STAT_DDR_LOCK else F.CLK.SRC_STAT_SYS_LOCK

/-- A PLL judged failed: its lock is gone, MON_STAT shows a failure, and that of PLL_DDR is remembered. -/
def pllMarked (b : Block) (ddr : Bool) : Block :=
  { b.set uClk (pllLock ddr) 0 with clk := { b.clk with ddrFailed := b.clk.ddrFailed || ddr } }.set uClk F.CLK.MON_STAT_PLL_FAIL 1

theorem pllFail_marks {b : Block} {ddr : Bool} (harmed : b.armed = true) (hwatched : b.pllWatched ddr = true) :
    b.pllFail ddr = (b.pllMarked ddr).clockLog (if ddr then 4 else 3) :=
  if_pos (by rw [harmed, hwatched]; rfl)

/-- Two registers hold what a failed PLL changes. -/
theorem pllMarked_keepsRegs (b : Block) (ddr : Bool) :
    (b.pllMarked ddr).keepsRegs b [(uClk, F.CLK.SRC_STAT_DDR_LOCK.off), (uClk, F.CLK.MON_STAT_PLL_FAIL.off)] := by
  intro u off hu ho hother
  rw [List.mem_cons, List.mem_singleton, not_or] at hother
  have hlock : regKey u off ≠ regKey uClk ((pllLock ddr).at 0) := by
    refine regKey_ne_of_place (fun h => hother.1 ?_) hu (by decide) ho (by cases ddr <;> decide)
    rw [h]
    cases ddr <;> rfl
  have hfail : regKey u off ≠ regKey uClk (F.CLK.MON_STAT_PLL_FAIL.at 0) :=
    regKey_ne_of_place hother.2 hu (by decide) ho (by decide)
  exact ((rd_setI_ne _ hfail 1).trans (rd_setI_ne b hlock 0)).symm

/-- The bit of a lock is read past the failure bit as the lock's clearing leaves it. -/
theorem get_pllMarked_srcStat (b : Block) (ddr : Bool) {f : Field} (hf : apart uClk F.CLK.MON_STAT_PLL_FAIL 0 uClk f 0 = true) :
    (b.pllMarked ddr).get uClk f = (b.set uClk (pllLock ddr) 0).get uClk f :=
  (get_set_apart _ hf 1).trans (get_congr rfl ..)

theorem pllMarked_ddrLock (b : Block) (ddr : Bool) : (b.pllMarked ddr).get uClk F.CLK.SRC_STAT_DDR_LOCK =
    if ddr then 0 else b.get uClk F.CLK.SRC_STAT_DDR_LOCK := by
  rw [get_pllMarked_srcStat b ddr (by decide)]
  cases ddr with
  | false => exact get_set_apart b (by decide) 0
  | true => exact get_set_same b uClk (by decide) 0

theorem pllMarked_sysLock (b : Block) (ddr : Bool) : (b.pllMarked ddr).get uClk F.CLK.SRC_STAT_SYS_LOCK =
    if ddr then b.get uClk F.CLK.SRC_STAT_SYS_LOCK else 0 := by
  rw [get_pllMarked_srcStat b ddr (by decide)]
  cases ddr with
  | false => exact get_set_same b uClk (by decide) 0
  | true => exact get_set_apart b (by decide) 0

theorem itoFail_holds {b : Block} (harmed : b.armed = true)
    (h : b.on uClk F.CLK.SRC_STAT_WATCH_OK = true ∨ b.on uClk F.CLK.SRC_STAT_XTAL_OK = true) :
    b.itoFail.boot.hold = .bootfail 2 := by
  rw [itoFail, if_pos ⟨harmed, by rwa [Bool.or_eq_true]⟩]
  exact holdFail_hold _ 2

theorem itoFail_unjudged {b : Block} (hwatch : b.on uClk F.CLK.SRC_STAT_WATCH_OK = false)
    (hxtal : b.on uClk F.CLK.SRC_STAT_XTAL_OK = false) : b.itoFail = b :=
  if_neg fun h => by simp [hwatch, hxtal] at h

/-- FAULTn goes low, and what follows leaves it so. -/
theorem refFail_faultn {b : Block} (harmed : b.armed = true) (hgrace : b.graceOver = true)
    (hgood : b.on uClk F.CLK.SRC_STAT_REF_OK = true) : .pin .faultn false ∈ b.refFail.out := by
  rw [refFail, if_pos ⟨harmed, hgrace, hgood⟩]
  extract_lets _ _ _ _ _ s t
  have hs : .pin .faultn false ∈ s.out := List.mem_cons_self
  refine mem_out_linkLost ?_
  unfold t
  split
  · exact mem_out_unitFail hs _ _
  · exact hs

theorem refRecovered_alone {b : Block} (harmed : b.armed = true) (hbad : b.on uClk F.CLK.SRC_STAT_REF_OK = false)
    (hcore : nth b.boot.cores 2 false = false) : b.refRecovered = (b.set uClk F.CLK.SRC_STAT_REF_OK 1).portsEnable := by
  rw [refRecovered, if_pos ⟨harmed, hbad⟩]
  simp [hcore]

end Block

/-- Settles O29: each verdict under its own condition. -/
theorem clockFailuresAreMarked : Obligations.ClockFailuresAreMarked := by
  intro s dt harmed b
  refine ⟨fun hgood => ?watch, fun hgrace hgood => ?xtal, fun ddr hwatched => ?pll, fun h => ?ito, fun hwatch hxtal => ?itoAlone,
    fun hgrace hgood => ?ref, fun hbad hcore => ?back⟩
  case watch => exact State.exec_run (exec_watchFail dt s) (Block.watchFail_marks harmed hgood)
  case xtal => exact State.exec_run (exec_xtalFail dt s) (Block.xtalFail_marks harmed hgrace hgood)
  case pll =>
    exact ⟨b.pllMarked ddr, State.exec_run (exec_pllFail dt ddr s) (Block.pllFail_marks harmed hwatched),
      b.pllMarked_keepsRegs ddr, Block.get_set_same _ uClk (by decide) 1, b.pllMarked_ddrLock ddr, b.pllMarked_sysLock ddr, rfl, rfl⟩
  case ito => exact ⟨_, State.exec_run (exec_itoFail dt s) rfl, Block.itoFail_holds harmed h⟩
  case itoAlone => exact State.exec_run (exec_itoFail dt s) (Block.itoFail_unjudged hwatch hxtal)
  case ref => exact ⟨_, State.exec_run (exec_refFail dt s) rfl, Block.refFail_faultn harmed hgrace hgood⟩
  case back => exact State.exec_run (exec_refRecovered dt s) (Block.refRecovered_alone harmed hbad hcore)

end Sys2Proof.Machine

/-! # Gate nodes: requests to close and to open (R102-R106) -/

namespace Sys2Proof.Machine
namespace Block

/-! ## Which nodes run -/

theorem nodeOpen_congr {s t : Block} {m : Nat} (h : t.getI uClk F.CLK.GATE_OPEN m = s.getI uClk F.CLK.GATE_OPEN m) :
    t.nodeOpen m = s.nodeOpen m := by rw [nodeOpen, nodeOpen, onI, onI, h]

/-- A gate register's other fields say nothing of the clock. -/
theorem nodeOpen_setI (b : Block) {f : Field} (hoff : f.off = 0x200 ∧ f.stride = 4) (hbits : f.lo ≤ f.hi ∧ f.hi < 32)
    (hf : f.hi < 1 ∨ 1 < f.lo) (g v m : Nat) : (b.setI uClk f g v).nodeOpen m = b.nodeOpen m := by
  refine nodeOpen_congr ?_
  by_cases h : m = g
  · subst h
    exact getI_setI_bits b uClk (by simp [Field.at, hoff, F.CLK.GATE_OPEN]) hbits hf v
  · exact getI_setI_inst b uClk h (by simp [hoff, F.CLK.GATE_OPEN]) v

/-- Nor do the registers of the sources. -/
theorem nodeOpen_set (b : Block) {f : Field} (hf : f.at 0 < 0x200) (v m : Nat) : (b.set uClk f v).nodeOpen m = b.nodeOpen m :=
  nodeOpen_congr (getI_setI_apart b (apart_off uClk (by simp only [Field.at, F.CLK.GATE_OPEN] at hf ⊢; omega)) v)

theorem nodeOpen_openNode (b : Block) (g m : Nat) : (b.openNode g).nodeOpen m = (m == g || b.nodeOpen m) := by
  have hopened : ((b.setI uClk F.CLK.GATE_OPEN g 1).setI uClk F.CLK.GATE_CLOSE g 0).nodeOpen m = (m == g || b.nodeOpen m) := by
    rw [nodeOpen_setI _ (by decide) (by decide) (by decide)]
    by_cases h : m = g
    · subst h
      rw [nodeOpen, onI, getI_setI_same _ _ _ _ _ (by decide), beq_self_eq_true]
      rfl
    · rw [nodeOpen_congr (getI_setI_inst b uClk h (by decide) 1), beq_false_of_ne h, Bool.false_or]
  unfold openNode
  dsimp only
  split
  · exact (nodeOpen_congr (getI_congr rfl ..)).trans ((nodeOpen_set _ (by decide) _ m).trans hopened)
  · exact hopened

theorem nodeOpen_abandonClose (b : Block) (g m : Nat) : (b.abandonClose g).nodeOpen m = b.nodeOpen m :=
  (nodeOpen_setI _ (by decide) (by decide) (by decide) g 0 m).trans (nodeOpen_congr (getI_congr rfl ..))

/-! ## A close request (R102, R103) -/

/-- A close that waits for the accesses in progress. -/
def closeWaits (b : Block) (g : Nat) : Block :=
  { b with clk := { b.clk with closing := b.clk.closing ++ [g], closingAt := bindK g b.lt b.clk.closingAt } }.setI
    uClk F.CLK.GATE_CLOSE g 1

theorem gateClose_runs {b : Block} {g : Nat} (hgate : gateable g = true) (hopen : b.nodeOpen g = true)
    (hnew : b.clk.closing.contains g = false) (busy : Bool) : b.gateClose g busy =
      if (gateChildren g).any fun c => b.nodeOpen c then (b.setI uClk F.CLK.GATE_REFUSED g 1).setI uClk F.CLK.GATE_CLOSE g 0
      else if busy then b.closeWaits g else b.shutNode g := if_neg (by rw [hgate, hopen, hnew]; decide)

theorem noChildRuns {b : Block} {g : Nat} (h : ∀ c ∈ gateChildren g, b.nodeOpen c = false) :
    ¬((gateChildren g).any fun c => b.nodeOpen c) = true := by simpa using h

/-! ## A close that waits too long (R106) -/

/-- A close given up after 1 ms, with TIMEOUT and its bit of MON_STAT. -/
def closeTimedOut (b : Block) (g : Nat) : Block :=
  ((b.abandonClose g).setI uClk F.CLK.GATE_TIMEOUT g 1).set uClk F.CLK.MON_STAT_GATE_TIMEOUT 1

theorem gateTimeout_due {b : Block} {g : Nat} (hwaits : b.clk.closing.contains g = true)
    (hlong : 1000000 ≤ b.since (lookupD g 0 b.clk.closingAt)) :
    b.gateTimeout g = (b.closeTimedOut g).log uClk 0x0021 1 g 0 0 :=
  if_pos (by rw [hwaits, Bool.true_and, decide_eq_true hlong])

theorem gate_at_lt {f : Field} (hf : f.off = 0x200 ∧ f.stride = 4) {g : Nat} (hg : g < 42) : f.at g < 0x4000 := by
  simp only [Field.at, hf]
  omega

theorem closeTimedOut_timeout (b : Block) (g : Nat) : (b.closeTimedOut g).getI uClk F.CLK.GATE_TIMEOUT g = 1 := by
  have hplace : F.CLK.GATE_TIMEOUT.at g ≠ F.CLK.MON_STAT_GATE_TIMEOUT.at 0 := by
    simp only [Field.at, F.CLK.GATE_TIMEOUT, F.CLK.MON_STAT_GATE_TIMEOUT]
    omega
  rw [closeTimedOut, set, getI_setI_apart _ (apart_off uClk hplace), getI_setI_same _ _ _ _ _ (by decide)]
  rfl

theorem closeTimedOut_nodeOpen (b : Block) (g m : Nat) : (b.closeTimedOut g).nodeOpen m = b.nodeOpen m := by
  rw [closeTimedOut, nodeOpen_set _ (by decide), nodeOpen_setI _ (by decide) (by decide) (by decide), nodeOpen_abandonClose]

/-! ## An open request (R104) -/

/-- What an open request does at a node of its path. -/
def openStep (b : Block) (n : Nat) : Block :=
  let s := if b.clk.closing.contains n then b.abandonClose n else b
  if s.nodeOpen n then s else s.openNode n

theorem openPath_eq (b : Block) (g : Nat) : b.openPath g = (gateAncestors g ++ [g]).foldl openStep b := rfl

theorem nodeOpen_openStep (b : Block) (n m : Nat) : (b.openStep n).nodeOpen m = (m == n || b.nodeOpen m) := by
  unfold openStep
  extract_lets s
  have hs (k : Nat) : s.nodeOpen k = b.nodeOpen k := by
    unfold s
    split
    · exact nodeOpen_abandonClose b n k
    · rfl
  split
  · next h =>
    by_cases hm : m = n
    · subst hm
      rw [h, beq_self_eq_true, Bool.true_or]
    · rw [hs, beq_false_of_ne hm, Bool.false_or]
  · rw [nodeOpen_openNode, hs]

/-- Every node of the path runs afterwards, and none that ran is stopped. -/
theorem nodeOpen_foldl_openStep (l : List Nat) (b : Block) {m : Nat} (h : m ∈ l ∨ b.nodeOpen m = true) :
    (l.foldl openStep b).nodeOpen m = true := by
  induction l generalizing b with
  | nil => simpa using h
  | cons n r ih =>
    refine ih _ ?_
    rw [nodeOpen_openStep]
    rcases h with h | h
    · rcases List.mem_cons.1 h with rfl | h
      · simp
      · exact .inl h
    · simp [h]

theorem openPath_opens (b : Block) {g m : Nat} (h : m = g ∨ m ∈ gateAncestors g) : (b.openPath g).nodeOpen m = true :=
  openPath_eq b g ▸ nodeOpen_foldl_openStep _ b (.inl (by rcases h with rfl | h <;> simp [*]))

theorem openGate_eq (b : Block) {g : Nat} (hg : g < 42) : b.openGate g =
    if b.nodeOpen 4 = false ∧ (b.openPath g).portsEnable.nodeOpen 4 = true then (b.openPath g).portsEnable.senseReopen
    else (b.openPath g).portsEnable := by
  rw [openGate, gateOpen, if_pos hg]
  simp

end Block

/-- Settles O30: each request under its own condition. -/
theorem gateRequestsOpenAndClose : Obligations.GateRequestsOpenAndClose := by
  intro s dt g hup hg b cut stopped
  refine ⟨fun busy hgate hopen hnew => ?close, fun hwaits => ?closed, fun hwaits hlong => ?timeout, ?opened⟩
  case close =>
    have hclose := hup.exec_next (exec_gateClose dt g busy s) (Block.gateClose_runs hgate hopen hnew busy)
    refine ⟨fun hchild => ?refused, fun hnone hbusy => ?waits, fun hnone hbusy => ?stops⟩
    case refused =>
      rw [if_pos (by simpa using hchild)] at hclose
      refine ⟨_, hclose, ?_, ?_, rfl⟩
      · rw [Block.getI_setI_field _ _ _ (by decide), Block.getI_setI_same _ _ _ _ _ (by decide)]
        rfl
      · rwa [Block.nodeOpen_setI _ (by decide) (by decide) (by decide), Block.nodeOpen_setI _ (by decide) (by decide) (by decide)]
    case waits =>
      rw [if_neg (Block.noChildRuns hnone), if_pos hbusy] at hclose
      refine ⟨_, hclose, Block.getI_setI_same _ _ _ _ _ (by decide), ?_, rfl⟩
      rwa [Block.closeWaits, Block.nodeOpen_setI _ (by decide) (by decide) (by decide),
        Block.nodeOpen_congr (Block.getI_congr rfl ..)]
    case stops =>
      rwa [if_neg (Block.noChildRuns hnone), if_neg (by simp [hbusy])] at hclose
  case closed => exact hup.exec_next (exec_gateClosed dt g s) (if_pos hwaits)
  case timeout =>
    refine ⟨_, hup.exec_next (exec_gateTimeout dt g s) (Block.gateTimeout_due hwaits hlong), ?_, ?_, ?_, ?_⟩
    · rw [Block.getI_log _ (by decide) (by decide) (Block.gate_at_lt (by decide) hg), Block.closeTimedOut_timeout]
    · rw [Block.get, Block.getI_log _ (by decide) (by decide) (by decide)]
      exact Block.get_set_same _ uClk (by decide) 1
    · rw [Block.nodeOpen_congr (Block.getI_log _ (by decide) (by decide) (Block.gate_at_lt (by decide) hg) ..),
        Block.closeTimedOut_nodeOpen]
    · rw [Block.log_clk]
      rfl
  case opened =>
    exact ⟨b.openPath g, b.openPath_opens (.inl rfl), fun a ha => b.openPath_opens (.inr ha),
      hup.exec_next (exec_gateOpen dt g s) (b.openGate_eq hg)⟩

end Sys2Proof.Machine

/-! # Tempo monitors, sensors, strips and the governor's descent (R110, R111, R125, R139, R425) -/

namespace Sys2Proof.Machine

/-- Where one step of a fold alone changes what `g` reads, the fold changes it as that step does. -/
theorem foldl_once {β γ : Type} (g : β → γ) (v : γ → γ) {f : β → Nat → β} {l : List Nat} (hl : l.Nodup)
    {j : Nat} (hj : j ∈ l) (hother : ∀ i ∈ l, i ≠ j → ∀ t, g (f t i) = g t) (hself : ∀ t, g (f t j) = v (g t)) (s : β) :
    g (l.foldl f s) = v (g s) := by
  obtain ⟨l₁, l₂, rfl⟩ := List.append_of_mem hj
  obtain ⟨hnot, -⟩ := List.nodup_cons.1 (List.nodup_middle.1 hl)
  rw [List.mem_append, not_or] at hnot
  rw [List.foldl_append, List.foldl_cons,
    foldl_keeps g l₂ (fun i hi => hother i (by simp [hi]) (ne_of_mem_of_not_mem hi hnot.2)), hself,
    foldl_keeps g l₁ (fun i hi => hother i (by simp [hi]) (ne_of_mem_of_not_mem hi hnot.1))]

namespace Block

/-! ## Monitor windows and minima (R110, R111, R125) -/

/-- What a window reads and writes of a monitor: its reading, minimum, gating and scale. -/
structure Tmon where
  tempo : Nat
  least : Nat
  gated : Bool
  scale : Nat

/-- Monitor m as the registers show it. -/
def tmonOf (b : Block) (m : Nat) : Tmon :=
  ⟨b.getI uClk F.CLK.TMON_TEMPO m, b.getI uClk F.CLK.TMON_MIN m, b.onI uClk F.CLK.TMON_GATED m,
    b.getI uCal F.CAL.TMON_SCALE_SCALE m⟩

/-- A window of `raw` handshakes ends. -/
def Tmon.window (x : Tmon) (raw : Nat) : Tmon :=
  if x.gated then x
  else { x with tempo := tmonReading raw x.scale, least := Nat.min x.least (tmonReading raw x.scale) }

theorem Tmon.window_gated {x : Tmon} (h : x.gated = true) (raw : Nat) : x.window raw = x := if_pos h

theorem Tmon.window_runs {x : Tmon} (h : x.gated = false) (raw : Nat) : x.window raw =
    { x with tempo := tmonReading raw x.scale, least := Nat.min x.least (tmonReading raw x.scale) } := if_neg (by rw [h]; decide)

/-- What the end of a window writes for one monitor. -/
def tmonStep (raw : List Nat) (b : Block) (m : Nat) : Block :=
  if b.onI uClk F.CLK.TMON_GATED m then b
  else
    let v := tmonReading (raw.getD m 0) (b.getI uCal F.CAL.TMON_SCALE_SCALE m)
    let s := b.setI uClk F.CLK.TMON_TEMPO m v
    if v < s.getI uClk F.CLK.TMON_MIN m then s.setI uClk F.CLK.TMON_MIN m v else s

theorem tmonWindow_eq (b : Block) (raw : List Nat) :
    b.tmonWindow raw = ((List.range 25).foldl (tmonStep raw) b).tempoCheck.govIdle.govWindow := rfl

theorem scale_setI (b : Block) {f : Field} (hf : f.off = 0x180 ∧ f.stride = 4) {i j : Nat} (hi : i < 25) (hj : j < 25) (v : Nat) :
    (b.setI uClk f i v).getI uCal F.CAL.TMON_SCALE_SCALE j = b.getI uCal F.CAL.TMON_SCALE_SCALE j :=
  getI_setI_unit b (by decide) (by decide) (by decide) (by simp only [Field.at, hf]; omega)
    (by simp only [Field.at, F.CAL.TMON_SCALE_SCALE]; omega) v

/-- Writing one monitor leaves the others. -/
theorem tmonOf_setI_ne (b : Block) {f : Field} (hf : f.off = 0x180 ∧ f.stride = 4) {i j : Nat} (hi : i < 25) (hj : j < 25)
    (hij : j ≠ i) (v : Nat) : (b.setI uClk f i v).tmonOf j = b.tmonOf j := by
  have hfield {g : Field} (hg : g.off = 0x180 ∧ g.stride = 4) : (b.setI uClk f i v).getI uClk g j = b.getI uClk g j :=
    getI_setI_inst b uClk hij (by simp [hf, hg]) v
  simp only [tmonOf, onI, scale_setI b hf hi hj, hfield (g := F.CLK.TMON_TEMPO) (by decide),
    hfield (g := F.CLK.TMON_MIN) (by decide), hfield (g := F.CLK.TMON_GATED) (by decide)]

theorem tmonOf_setTempo (b : Block) {m : Nat} (hm : m < 25) {v : Nat} (hv : v < 2 ^ 12) :
    (b.setI uClk F.CLK.TMON_TEMPO m v).tmonOf m = { b.tmonOf m with tempo := v } := by
  simp only [tmonOf, onI, scale_setI b (f := F.CLK.TMON_TEMPO) (by decide) hm hm]
  rw [getI_setI_same _ _ _ _ _ (by decide), getI_setI_field _ _ _ (by decide), getI_setI_field _ _ _ (by decide),
    Nat.mod_eq_of_lt (by exact hv)]

theorem tmonOf_setMin (b : Block) {m : Nat} (hm : m < 25) {v : Nat} (hv : v < 2 ^ 12) :
    (b.setI uClk F.CLK.TMON_MIN m v).tmonOf m = { b.tmonOf m with least := v } := by
  simp only [tmonOf, onI, scale_setI b (f := F.CLK.TMON_MIN) (by decide) hm hm]
  rw [getI_setI_same _ _ _ _ _ (by decide), getI_setI_field _ _ _ (by decide), getI_setI_field _ _ _ (by decide),
    Nat.mod_eq_of_lt (by exact hv)]

theorem tmonReading_lt (raw scale : Nat) : tmonReading raw scale < 2 ^ 12 :=
  Nat.lt_succ_of_le (Nat.min_le_left ..)

theorem tmonOf_tmonStep_ne (b : Block) (raw : List Nat) {i j : Nat} (hi : i < 25) (hj : j < 25) (hij : i ≠ j) :
    (b.tmonStep raw i).tmonOf j = b.tmonOf j := by
  unfold tmonStep
  dsimp only
  split
  · rfl
  · split
    · rw [tmonOf_setI_ne _ (by decide) hi hj hij.symm, tmonOf_setI_ne _ (by decide) hi hj hij.symm]
    · rw [tmonOf_setI_ne _ (by decide) hi hj hij.symm]

theorem tmonOf_tmonStep_same (b : Block) (raw : List Nat) {m : Nat} (hm : m < 25) :
    (tmonStep raw b m).tmonOf m = (b.tmonOf m).window (raw.getD m 0) := by
  unfold tmonStep
  extract_lets v s
  have hv : v < 2 ^ 12 := tmonReading_lt ..
  have hs : s.tmonOf m = { b.tmonOf m with tempo := v } := tmonOf_setTempo b hm hv
  have hleast : s.getI uClk F.CLK.TMON_MIN m = (b.tmonOf m).least := congrArg Tmon.least hs
  split
  · next hgated => exact (Tmon.window_gated hgated _).symm
  · next hgated =>
    have hwin : (b.tmonOf m).window (raw.getD m 0) = { b.tmonOf m with tempo := v, least := Nat.min (b.tmonOf m).least v } :=
      Tmon.window_runs (eq_false_of_ne_true hgated) _
    split
    · next hlow =>
      have hmin : Nat.min (b.tmonOf m).least v = v := Nat.min_eq_right (by omega)
      rw [hwin, hmin, tmonOf_setMin s hm hv, hs]
    · next hlow =>
      have hmin : Nat.min (b.tmonOf m).least v = (b.tmonOf m).least := Nat.min_eq_left (by omega)
      rw [hwin, hmin, hs]

theorem tmonOf_tmonSteps (b : Block) (raw : List Nat) {m : Nat} (hm : m < 25) :
    ((List.range 25).foldl (tmonStep raw) b).tmonOf m = (b.tmonOf m).window (raw.getD m 0) :=
  foldl_once (tmonOf · m) (·.window (raw.getD m 0)) List.nodup_range (List.mem_range.2 hm)
    (fun _ hi hne t => tmonOf_tmonStep_ne t raw (List.mem_range.1 hi) hm hne) (fun t => tmonOf_tmonStep_same t raw hm) b

theorem tmonOf_clearMin (b : Block) {m : Nat} (hm : m < 25) : b.clearMin.tmonOf m = { b.tmonOf m with least := 0xFFF } :=
  foldl_once (tmonOf · m) (fun x => { x with least := 0xFFF }) List.nodup_range (List.mem_range.2 hm)
    (fun _ hi hne t => tmonOf_setI_ne t (by decide) (List.mem_range.1 hi) hm hne.symm _)
    (fun t => tmonOf_setMin t hm (by decide)) b

/-! ## Peaks (R125, R139) -/

theorem clearSensorPeaks_sensor (b : Block) {k : Nat} (hk : k < 24) :
    (b.clearSensorPeaks.getI uThm F.THM.SENSOR_PEAK k, b.clearSensorPeaks.getI uThm F.THM.SENSOR_TEMP k) =
      (0x800, b.getI uThm F.THM.SENSOR_TEMP k) :=
  foldl_once (fun t : Block => (t.getI uThm F.THM.SENSOR_PEAK k, t.getI uThm F.THM.SENSOR_TEMP k)) (fun x => (0x800, x.2))
    List.nodup_range (List.mem_range.2 hk)
    (fun _ _ hne t => by rw [getI_setI_inst t uThm hne.symm (by decide), getI_setI_inst t uThm hne.symm (by decide)])
    (fun t => by rw [getI_setI_same _ _ _ _ _ (by decide), getI_setI_field _ _ _ (by decide)]; rfl) b

theorem stripClear_shown (b : Block) (k : Nat) : (b.stripClear k).get (uStrip k) F.STRIP.LOAD_PEAK = 0 ∧
    (b.stripClear k).get (uStrip k) F.STRIP.WAIT_MAX_NS = 0 ∧
    (b.stripClear k).get (uStrip k) F.STRIP.LOAD_LOAD = b.get (uStrip k) F.STRIP.LOAD_LOAD := by
  have hwait {f : Field} (hf : f.at 0 ≠ F.STRIP.WAIT_MAX_NS.at 0) :
      (b.stripClear k).get (uStrip k) f = (b.set (uStrip k) F.STRIP.LOAD_PEAK 0).get (uStrip k) f :=
    get_set_apart _ (apart_off _ hf) 0
  refine ⟨?_, get_set_same _ _ (by decide) 0, ?_⟩
  · rw [hwait (by decide), get_set_same _ _ (by decide)]
    rfl
  · rw [hwait (by decide)]
    exact getI_setI_field b _ 0 (by decide) 0

/-! ## Alarms leave the governor's registers (R425, R502) -/

/-- A write to a unit of higher key. -/
theorem rd_setI_above (b : Block) {u u' : UnitId} {off : Nat} (hk : regKey u' off < regKey u 0) (f : Field) (i v : Nat) :
    (b.setI u f i v).rd u' off = b.rd u' off := rd_setI_ne b (by unfold regKey at hk ⊢; omega) v

section
variable {u : UnitId} {off : Nat} (hk : regKey u off < regKey uHost 0)
include hk

theorem below_dma : regKey u off < regKey uDma 0 := hk.trans (by decide)

theorem rd_tagsUpdate_below (b : Block) : b.tagsUpdate.rd u off = b.rd u off := by
  unfold tagsUpdate
  dsimp only
  split
  · rw [set, set, rd_setI_above _ hk, rd_setI_above _ hk]
  · rw [set, rd_setI_above _ hk]

theorem rd_setCount_below (b : Block) (n v : Nat) : (b.setCount n v).rd u off = b.rd u off := by
  unfold setCount
  split <;> exact rd_setI_above b (below_dma hk) _ _ v

theorem rd_issueHost_below (n fuel : Nat) (b : Block) : (b.issueHost n fuel).rd u off = b.rd u off := by
  induction fuel generalizing b with
  | zero => rfl
  | succ fuel ih =>
    unfold issueHost
    dsimp only
    split
    · split
      · rfl
      · split
        · rfl
        · rw [ih, access, rd_tagsUpdate_below hk]
          exact rd_setCount_below hk _ _ _
    · rfl

theorem rd_streamFeed_below (i fuel : Nat) (b : Block) : (b.streamFeed i fuel).rd u off = b.rd u off := by
  induction fuel generalizing b with
  | zero => rfl
  | succ fuel ih =>
    unfold streamFeed
    dsimp only
    split
    · split
      · rfl
      · split
        · split
          · rw [ih]
            exact rd_setI_above _ hk _ _ _
          · split
            · rfl
            · rw [ih, rd_issueHost_below hk]
              rfl
        · rfl
    · rfl

theorem rd_hostIrq_below (b : Block) (f : Field) : (b.hostIrq f).rd u off = b.rd u off := by
  unfold hostIrq
  dsimp only
  split
  · exact rd_setI_above b hk f 0 1
  · rw [rd_msix]
    exact rd_setI_above b hk f 0 1

theorem rd_pushStream_below (b : Block) (i : Nat) (r : Rec) : (b.pushStream i r).rd u off = b.rd u off := by
  unfold pushStream
  dsimp only
  split
  · rw [rd_hostIrq_below hk]
    exact rd_setI_above b hk _ _ _
  · exact rd_streamFeed_below hk _ _ _

end

/-- A field of LATGOV but the count of the records shed. -/
theorem get_alarm_latgov (b : Block) {f : Field} (hf : f.at 0 < 0x4000) (hshed : f.at 0 ≠ F.LATGOV.CNT_SHED_B_COUNT.at 0)
    (code state a0 a1 : Nat) : (b.alarm code state a0 a1).get uLatgov f = b.get uLatgov f := by
  have hA (t : Block) (r : Rec) : (t.classA r).get uLatgov f = t.get uLatgov f := by
    have hne {o : Nat} (ho : o < 0x4000) : regKey uLatgov (f.at 0) ≠ regKey uTag o :=
      regKey_ne (by decide) (by decide) (by decide) hf ho
    unfold classA
    split
    · rfl
    · refine (getI_flag _ (by decide) (by decide) (by decide) hf ?_).trans (getI_inc_apart t ?_)
      · rw [apart, decide_eq_true (hne (by decide)), Bool.true_or]
      · rw [apart, decide_eq_true (hne (by decide)), Bool.true_or]
  have hB (t : Block) (r : Rec) : (t.classB 0 r).get uLatgov f = t.get uLatgov f := by
    unfold classB
    split
    · exact getI_inc_apart t (apart_off uLatgov hshed)
    · exact getI_of_rd (rd_pushStream_below (by unfold regKey; simp only [UnitType.code]; omega) t 0 r)
  exact (hB _ _).trans ((hA _ _).trans (get_congr rfl ..))

theorem alarm_gov (b : Block) (code state a0 a1 : Nat) : (b.alarm code state a0 a1).gov = b.gov := by
  have hA (t : Block) (r : Rec) : (t.classA r).gov = t.gov := by
    unfold classA
    split
    · rfl
    · rw [flag_gov, inc_gov]
  have hB (t : Block) (r : Rec) : (t.classB 0 r).gov = t.gov := (lineWay_eq_iff.1 (classB_lineWay t 0 r)).2.1
  exact (hB _ _).trans (hA _ _)

/-! ## The governor descends (R425) -/

theorem governorDescend_due {b : Block} {t : Nat} (hsince : b.gov.relaxSince = some t) (hen : b.on uLatgov F.LATGOV.CFG_EN = true)
    (hlevel : 0 < b.get uLatgov F.LATGOV.STAT_LEVEL)
    (hlong : b.get uLatgov F.LATGOV.CFG_RELAX_MS * 1000000 ≤ b.since t) : b.governorDescend = b.govDescend.feedAll := by
  rw [governorDescend, hsince]
  exact if_pos (by rw [hen, decide_eq_true hlevel, decide_eq_true hlong]; rfl)

theorem govDescend_lower (b : Block) : b.govDescend.gov.relaxSince = none ∧
    b.govDescend.get uLatgov F.LATGOV.STAT_LEVEL = b.get uLatgov F.LATGOV.STAT_LEVEL - 1 := by
  unfold govDescend
  extract_lets new s₁ gov s₂ s₃
  have hnew : new < 2 ^ 3 := (Nat.sub_le ..).trans_lt (b.getI_lt uLatgov F.LATGOV.STAT_LEVEL 0)
  have h₁ : s₁.get uLatgov F.LATGOV.STAT_LEVEL = new :=
    (get_set_same b uLatgov (by decide) new).trans (Nat.mod_eq_of_lt hnew)
  have hgov : s₃.gov.relaxSince = none := by rw [show s₃.gov = s₂.gov from alarm_gov ..]
  have hlevel : s₃.get uLatgov F.LATGOV.STAT_LEVEL = new :=
    (get_alarm_latgov s₂ (by decide) (by decide) ..).trans ((get_congr rfl ..).trans h₁)
  split
  · rw [alarm_gov, get_alarm_latgov _ (by decide) (by decide)]
    exact ⟨hgov, (get_set_apart _ (by decide) 0).trans hlevel⟩
  · exact ⟨hgov, hlevel⟩

end Block

/-- Settles O31: each monitor, sensor and strip on its own; an alarm leaves the governor's level. -/
theorem tempoIsMeasuredAndKept : Obligations.TempoIsMeasuredAndKept := by
  intro s dt hup
  refine ⟨fun raw loads => ?window, ?clear, ?sensors, fun k hk => ?strip, fun t hsince hen hlevel hlong => ?descend⟩
  case window =>
    refine ⟨_, hup.exec_next (exec_tmonWindow dt raw loads s) rfl, fun m hm => ?_⟩
    have hmon := Block.tmonOf_tmonSteps (s.now dt) raw hm
    refine ⟨fun hgated => ?_, fun hgated => ?_⟩
    · rw [Block.Tmon.window_runs hgated] at hmon
      exact ⟨congrArg Block.Tmon.tempo hmon, congrArg Block.Tmon.least hmon⟩
    · rw [Block.Tmon.window_gated hgated] at hmon
      exact ⟨congrArg Block.Tmon.tempo hmon, congrArg Block.Tmon.least hmon⟩
  case clear =>
    refine ⟨_, hup.exec_next (exec_clearMin dt s) rfl, fun m hm => ?_⟩
    have hmon := Block.tmonOf_clearMin (s.now dt) hm
    exact ⟨congrArg Block.Tmon.least hmon, congrArg Block.Tmon.tempo hmon⟩
  case sensors =>
    exact ⟨_, hup.exec_next (exec_clearPeak dt none s) rfl, fun k hk => Prod.mk.inj (Block.clearSensorPeaks_sensor _ hk)⟩
  case strip => exact ⟨_, hup.exec_next (exec_clearPeak dt (some k) s) (if_pos hk), Block.stripClear_shown _ k⟩
  case descend =>
    exact ⟨_, hup.exec_next (exec_governorDescend dt s) (Block.governorDescend_due hsince hen hlevel hlong),
      Block.govDescend_lower _⟩

end Sys2Proof.Machine

/-! # The P-state sequencer (R115-R119) -/

namespace Sys2Proof.Machine
namespace Block

/-! ## What the sequencer's parts leave of CLK -/

theorem get_clk_above (b : Block) {u : UnitId} (hu : regKey uClk 0x4000 ≤ regKey u 0) {g : Field} (hg : g.at 0 < 0x4000)
    (f : Field) (i v : Nat) : (b.setI u f i v).get uClk g = b.get uClk g :=
  getI_of_rd (rd_setI_above b (by unfold regKey at hu ⊢; omega) f i v)

theorem get_pauseAbandon (b : Block) {f : Field} (hf : f.at 0 < 0x4000) : b.pauseAbandon.get uClk f = b.get uClk f := by
  unfold pauseAbandon
  split
  · exact (get_congr rfl ..).trans (get_clk_above b (by decide) hf _ _ _)
  · rfl

theorem pauseAbandon_clk (b : Block) : b.pauseAbandon.clk = b.clk := by
  unfold pauseAbandon
  split <;> rfl

theorem govSwitch_change (b : Block) (p : Nat) : (b.govSwitch p).clk.change = b.clk.change := by
  unfold govSwitch
  split <;> rfl

theorem govSwitch_now {b : Block} (h : b.on uWeb F.WEB.STATE_TRIG_OK = false) (p : Nat) :
    b.govSwitch p = { b with clk := { b.clk with govNext := none, govCfg := p } } := if_neg (by rw [h]; decide)

theorem govSwitch_later {b : Block} (h : b.on uWeb F.WEB.STATE_TRIG_OK = true) (p : Nat) :
    b.govSwitch p = { b with clk := { b.clk with govNext := some p } } := if_pos h

theorem dramSwitch_regs (b : Block) (p : Nat) : (b.dramSwitch p).regs = b.regs := by
  unfold dramSwitch
  split <;> rfl

theorem dramSwitch_clk (b : Block) (p : Nat) : (b.dramSwitch p).clk = { b.clk with dramRate := p } := by
  unfold dramSwitch
  split
  · next h => rw [← h]
  · rfl

theorem mem_out_dramSwitch {b : Block} {o : Output} (h : o ∈ b.out) (p : Nat) : o ∈ (b.dramSwitch p).out := by
  unfold dramSwitch
  split
  · exact h
  · exact List.mem_cons_of_mem _ h

theorem mem_out_emits {b : Block} {o : Output} (os : List Output) (h : o ∈ os ∨ o ∈ b.out) : o ∈ (b.emits os).out := by
  rw [emits_out]
  simpa using h

/-- A Voltage read writes AVS_VOUT alone of CLK. -/
theorem get_voltageRead (b : Block) {f : Field} (hf : apart uClk F.CLK.AVS_VOUT_MV 0 uClk f 0 = true) :
    b.voltageRead.get uClk f = b.get uClk f :=
  get_set_apart (b.emit (.avs 0 none)) hf _

/-! ## A change starts (R115) -/

/-- What holds a change back: no firmware yet, a sequencer that stopped or is busy, a target in force or given up. -/
def pstateStays (b : Block) : Bool :=
  !b.boot.began || b.clk.stopped || b.on uClk F.CLK.PSTATE_BUSY ||
    b.get uClk F.CLK.PSTATE_TARGET == b.get uClk F.CLK.PSTATE_CURRENT || b.clk.abandoned == some (b.get uClk F.CLK.PSTATE_TARGET)

theorem pstateStart_stays {b : Block} (h : b.pstateStays = true) : b.pstateStart = b := if_pos h

/-- A change from CURRENT to TARGET begun, with BUSY. -/
def changeBegun (b : Block) : Block :=
  ({ b with clk := { b.clk with
      change := some (b.get uClk F.CLK.PSTATE_CURRENT, b.get uClk F.CLK.PSTATE_TARGET), abandoned := none, changeAt := b.lt,
      goodWins := 0 } } : Block).pauseAbandon.set uClk F.CLK.PSTATE_BUSY 1

/-- A downward change tells LATGOV first, an upward one commands the voltage. -/
theorem pstateStart_goes {b : Block} (h : b.pstateStays = false) : b.pstateStart =
    if b.get uClk F.CLK.PSTATE_CURRENT < b.get uClk F.CLK.PSTATE_TARGET then
      (b.changeBegun.set uLatgov F.LATGOV.STAT_PREDICT 1).govSwitch (b.get uClk F.CLK.PSTATE_TARGET)
    else b.changeBegun.emit (.avs 0 (some (b.changeBegun.getI uClk F.CLK.PVOLT_MV (b.get uClk F.CLK.PSTATE_TARGET)))) :=
  if_neg (ne_true_of_eq_false h)

theorem get_changeBegun (b : Block) {f : Field} (hf : f.at 0 < 0x4000) (hapart : apart uClk F.CLK.PSTATE_BUSY 0 uClk f 0 = true) :
    b.changeBegun.get uClk f = b.get uClk f :=
  (get_set_apart _ hapart 1).trans ((get_pauseAbandon _ hf).trans (get_congr rfl ..))

/-- A change that starts shows BUSY and leaves CLK's other fields. -/
theorem pstateStart_starts {b : Block} (h : b.pstateStays = false) :
    b.pstateStart.clk.change = some (b.get uClk F.CLK.PSTATE_CURRENT, b.get uClk F.CLK.PSTATE_TARGET) ∧
    b.pstateStart.get uClk F.CLK.PSTATE_BUSY = 1 ∧
    ∀ f : Field, f.at 0 < 0x4000 → apart uClk F.CLK.PSTATE_BUSY 0 uClk f 0 = true →
      b.pstateStart.get uClk f = b.get uClk f := by
  have hchange : b.changeBegun.clk.change = some (b.get uClk F.CLK.PSTATE_CURRENT, b.get uClk F.CLK.PSTATE_TARGET) := by
    rw [changeBegun, set_clk, pauseAbandon_clk]
  have hbusy : b.changeBegun.get uClk F.CLK.PSTATE_BUSY = 1 := get_set_same _ uClk (by decide) 1
  have hpredict (p : Nat) {f : Field} (hf : f.at 0 < 0x4000) :
      ((b.changeBegun.set uLatgov F.LATGOV.STAT_PREDICT 1).govSwitch p).get uClk f = b.changeBegun.get uClk f :=
    (get_congr (govSwitch_regs ..) ..).trans (get_clk_above _ (by decide) hf _ 0 1)
  rw [pstateStart_goes h]
  split
  · exact ⟨(govSwitch_change ..).trans hchange, (hpredict _ (by decide)).trans hbusy,
      fun f hf hapart => (hpredict _ hf).trans (get_changeBegun b hf hapart)⟩
  · exact ⟨hchange, hbusy, fun f hf hapart => get_changeBegun b hf hapart⟩

/-- The sequencer waits for a request: firmware has begun, nothing runs, nothing has stopped it or been given up. -/
structure PstateIdle (b : Block) : Prop where
  began : b.boot.began = true
  stopped : b.clk.stopped = false
  busy : b.on uClk F.CLK.PSTATE_BUSY = false
  abandoned : b.clk.abandoned = none
  change : b.clk.change = none

theorem PstateIdle.stays {b : Block} (h : b.PstateIdle) :
    b.pstateStays = (b.get uClk F.CLK.PSTATE_TARGET == b.get uClk F.CLK.PSTATE_CURRENT) := by
  simp [pstateStays, h.began, h.stopped, h.busy, h.abandoned]

/-- The block whose TARGET follows the request and the cap. -/
def targeted (b : Block) : Block :=
  if b.pstateWanted = b.get uClk F.CLK.PSTATE_TARGET then b
  else { b.set uClk F.CLK.PSTATE_TARGET b.pstateWanted with clk := { b.clk with abandoned := none } }

theorem retarget_eq (b : Block) : b.retarget = b.targeted.pstateStart := rfl

theorem pstateWanted_lt (b : Block) : b.pstateWanted < 2 ^ 2 :=
  Nat.max_lt.2 ⟨b.getI_lt uClk F.CLK.PSTATE_REQ_REQ 0, b.getI_lt uClk F.CLK.PSTATE_CAP 0⟩

theorem targeted_target (b : Block) : b.targeted.get uClk F.CLK.PSTATE_TARGET = b.pstateWanted := by
  unfold targeted
  split
  · next h => exact h.symm
  · exact (get_congr rfl ..).trans ((get_set_same b uClk (by decide) _).trans (Nat.mod_eq_of_lt b.pstateWanted_lt))

theorem get_targeted (b : Block) {f : Field} (hf : apart uClk F.CLK.PSTATE_TARGET 0 uClk f 0 = true) :
    b.targeted.get uClk f = b.get uClk f := by
  unfold targeted
  split
  · rfl
  · exact (get_congr rfl ..).trans (get_set_apart b hf _)

theorem PstateIdle.targeted {b : Block} (h : b.PstateIdle) : b.targeted.PstateIdle where
  began := by unfold Block.targeted; split <;> exact h.began
  stopped := by unfold Block.targeted; split <;> exact h.stopped
  busy := by rw [on_eq, get_targeted b (by decide)]; exact h.busy
  abandoned := by
    unfold Block.targeted
    split
    · exact h.abandoned
    · rfl
  change := by unfold Block.targeted; split <;> exact h.change

/-- An idle sequencer takes the slower of request and cap as its target, and starts unless that is in force. -/
theorem retarget_idle {b : Block} (h : b.PstateIdle) :
    b.retarget.get uClk F.CLK.PSTATE_REQ_REQ = b.get uClk F.CLK.PSTATE_REQ_REQ ∧
    b.retarget.get uClk F.CLK.PSTATE_TARGET = b.pstateWanted ∧
    b.retarget.get uClk F.CLK.PSTATE_CURRENT = b.get uClk F.CLK.PSTATE_CURRENT ∧
    b.retarget.get uClk F.CLK.PSTATE_BUSY = (if b.pstateWanted = b.get uClk F.CLK.PSTATE_CURRENT then 0 else 1) ∧
    b.retarget.clk.change = if b.pstateWanted = b.get uClk F.CLK.PSTATE_CURRENT then none
      else some (b.get uClk F.CLK.PSTATE_CURRENT, b.pstateWanted) := by
  have hreq := get_targeted b (f := F.CLK.PSTATE_REQ_REQ) (by decide)
  have hcur := get_targeted b (f := F.CLK.PSTATE_CURRENT) (by decide)
  have hstays := h.targeted.stays
  rw [targeted_target, hcur] at hstays
  rw [retarget_eq]
  by_cases hw : b.pstateWanted = b.get uClk F.CLK.PSTATE_CURRENT
  · rw [pstateStart_stays (by rw [hstays, hw, beq_self_eq_true]), if_pos hw, if_pos hw]
    exact ⟨hreq, b.targeted_target, hcur, by simpa [on_eq] using h.targeted.busy, h.targeted.change⟩
  · obtain ⟨hchange, hbusy, hrest⟩ := pstateStart_starts (hstays.trans (beq_false_of_ne hw))
    rw [targeted_target, hcur] at hchange
    rw [if_neg hw, if_neg hw]
    exact ⟨(hrest _ (by decide) (by decide)).trans hreq, (hrest _ (by decide) (by decide)).trans b.targeted_target,
      (hrest _ (by decide) (by decide)).trans hcur, hbusy, hchange⟩

/-- A request named with the command is written first. -/
def requested (b : Block) : Option Nat → Block
  | some p => b.set uClk F.CLK.PSTATE_REQ_REQ p
  | none => b

theorem get_requested (b : Block) (req : Option Nat) {f : Field} (hf : apart uClk F.CLK.PSTATE_REQ_REQ 0 uClk f 0 = true) :
    (b.requested req).get uClk f = b.get uClk f := by
  cases req with
  | none => rfl
  | some p => exact get_set_apart b hf p

theorem requested_req (b : Block) {req : Option Nat} (hreq : req.getD 0 < 4) :
    (b.requested req).get uClk F.CLK.PSTATE_REQ_REQ = req.getD (b.get uClk F.CLK.PSTATE_REQ_REQ) := by
  cases req with
  | none => rfl
  | some p => exact (get_set_same b uClk (by decide) p).trans (Nat.mod_eq_of_lt hreq)

theorem PstateIdle.requested {b : Block} (h : b.PstateIdle) (req : Option Nat) : (b.requested req).PstateIdle := by
  have hbusy := get_requested b req (f := F.CLK.PSTATE_BUSY) (by decide)
  cases req with
  | none => exact h
  | some p => exact ⟨h.began, h.stopped, by rw [on_eq, hbusy]; exact h.busy, h.abandoned, h.change⟩

/-! ## A change completes (R116, R117) -/

/-- The target's state is in force: its voltage commanded, read and shown, CURRENT the target. -/
def arrived (s : Block) (p mv : Nat) : Block :=
  ({ s with clk := { s.clk with change := none, vcore := mv } } : Block).voltageRead.set uClk F.CLK.PSTATE_CURRENT p

theorem get_arrived (s : Block) (p mv : Nat) {f : Field} (hv : apart uClk F.CLK.AVS_VOUT_MV 0 uClk f 0 = true)
    (hc : apart uClk F.CLK.PSTATE_CURRENT 0 uClk f 0 = true) : (s.arrived p mv).get uClk f = s.get uClk f :=
  (get_set_apart _ hc p).trans ((get_voltageRead _ hv).trans (get_congr rfl ..))

theorem arrived_current (s : Block) {p : Nat} (hp : p < 4) (mv : Nat) : (s.arrived p mv).get uClk F.CLK.PSTATE_CURRENT = p :=
  (get_set_same _ uClk (by decide) p).trans (Nat.mod_eq_of_lt hp)

theorem arrived_trigOk (s : Block) (p mv : Nat) : (s.arrived p mv).on uWeb F.WEB.STATE_TRIG_OK = s.on uWeb F.WEB.STATE_TRIG_OK := by
  rw [on_eq, on_eq]
  congr 1
  exact (get_set_apart _ (by decide) p).trans ((get_set_apart _ (by decide) _).trans (get_congr rfl ..))

theorem arrived_clk (s : Block) (p mv : Nat) : (s.arrived p mv).clk = { s.clk with change := none, vcore := mv } := rfl

theorem mem_out_arrived {s : Block} {o : Output} (h : o ∈ s.out) (p mv : Nat) : o ∈ (s.arrived p mv).out :=
  List.mem_cons_of_mem _ h

/-- A change that ends: BUSY and PREDICT clear and CLK_PSTATE is raised. -/
def changeEnded (b : Block) : Block :=
  (({ b with clk := { b.clk with finishing := false } } : Block).busyClear.set uLatgov F.LATGOV.STAT_PREDICT 0).raise 1

theorem pstateEnd_eq (b : Block) : b.pstateEnd = b.changeEnded.pstateStart.feedAll := rfl

/-- The registers of CLK when a change ends: BUSY clear, the others as before. -/
theorem get_changeEnded (b : Block) {f : Field} (hf : f.at 0 < 0x4000) : b.changeEnded.get uClk f =
    (b.set uClk F.CLK.PSTATE_BUSY 0).get uClk f :=
  (getI_raise _ (by decide) (by decide) (by decide) hf 1).trans ((get_clk_above _ (by decide) hf _ 0 0).trans (get_congr rfl ..))

theorem changeEnded_busy (b : Block) : b.changeEnded.get uClk F.CLK.PSTATE_BUSY = 0 :=
  (get_changeEnded b (by decide)).trans (get_set_same b uClk (by decide) 0)

theorem get_changeEnded_apart (b : Block) {f : Field} (hf : f.at 0 < 0x4000)
    (hapart : apart uClk F.CLK.PSTATE_BUSY 0 uClk f 0 = true) : b.changeEnded.get uClk f = b.get uClk f :=
  (get_changeEnded b hf).trans (get_set_apart b hapart 0)

theorem changeEnded_clk (b : Block) : b.changeEnded.clk = { b.clk with finishing := false } := raise_clk ..

theorem changeEnded_out (b : Block) : b.changeEnded.out = b.out := raise_out ..

/-- With the target in force no further change starts, and the streams go on. -/
theorem pstateEnd_settled {b : Block} (h : b.get uClk F.CLK.PSTATE_TARGET = b.get uClk F.CLK.PSTATE_CURRENT) :
    b.pstateEnd = b.changeEnded.feedAll := by
  have hend : b.changeEnded.get uClk F.CLK.PSTATE_TARGET = b.changeEnded.get uClk F.CLK.PSTATE_CURRENT := by
    rw [get_changeEnded_apart b (by decide) (by decide), get_changeEnded_apart b (by decide) (by decide), h]
  rw [pstateEnd_eq, pstateStart_stays (by simp [pstateStays, hend])]

theorem govIdle_none {b : Block} (h : b.clk.govNext = none) : b.govIdle = b := by
  rw [govIdle, govBoundary, h, ite_self]

theorem pstateDone_down {b : Block} {c p : Nat} (hchange : b.clk.change = some (c, p)) (hgov : b.clk.govNext = none)
    (h : c < p) : b.pstateDone = b.pstateDown p := by
  unfold pstateDone
  rw [govIdle_none hgov]
  simp [hchange, h, hgov]

theorem pstateDone_up {b : Block} {c p : Nat} (hchange : b.clk.change = some (c, p)) (hgov : b.clk.govNext = none)
    (h : p < c) (hwins : 2 ≤ b.clk.goodWins) : b.pstateDone = b.pstateUp p := by
  unfold pstateDone
  rw [govIdle_none hgov]
  simp [hchange, Nat.lt_asymm h, hwins]

/-- The block when a downward change is at its target. -/
def arrivedDown (b : Block) (p : Nat) : Block :=
  ((b.dramSwitch p).emits [.avs 0 (some (b.getI uClk F.CLK.PVOLT_MV p)), .avs 14 none]).arrived p (b.getI uClk F.CLK.PVOLT_MV p)

/-- The block when an upward change is at its target. -/
def arrivedUp (b : Block) (p : Nat) : Block :=
  ((b.emit (.avs 14 none)).dramSwitch p).arrived p (b.getI uClk F.CLK.PVOLT_MV p)

theorem arrivedDown_clk (b : Block) (p : Nat) : (b.arrivedDown p).clk =
    { b.clk with dramRate := p, change := none, vcore := b.getI uClk F.CLK.PVOLT_MV p } := by
  rw [arrivedDown, arrived_clk, emits_clk, dramSwitch_clk]

theorem arrivedUp_clk (b : Block) (p : Nat) : (b.arrivedUp p).clk =
    { b.clk with dramRate := p, change := none, vcore := b.getI uClk F.CLK.PVOLT_MV p } := by
  rw [arrivedUp, arrived_clk, dramSwitch_clk, emit_clk]

theorem get_arrivedDown (b : Block) (p : Nat) {f : Field} (hv : apart uClk F.CLK.AVS_VOUT_MV 0 uClk f 0 = true)
    (hc : apart uClk F.CLK.PSTATE_CURRENT 0 uClk f 0 = true) : (b.arrivedDown p).get uClk f = b.get uClk f :=
  (get_arrived _ p _ hv hc).trans (get_congr ((emits_regs ..).trans (dramSwitch_regs ..)) ..)

theorem get_arrivedUp (b : Block) (p : Nat) {f : Field} (hv : apart uClk F.CLK.AVS_VOUT_MV 0 uClk f 0 = true)
    (hc : apart uClk F.CLK.PSTATE_CURRENT 0 uClk f 0 = true) : (b.arrivedUp p).get uClk f = b.get uClk f :=
  (get_arrived _ p _ hv hc).trans (get_congr (dramSwitch_regs ..) ..)

theorem arrivedUp_trigOk (b : Block) (p : Nat) : (b.arrivedUp p).on uWeb F.WEB.STATE_TRIG_OK = b.on uWeb F.WEB.STATE_TRIG_OK :=
  (arrived_trigOk ..).trans (congrArg (· != 0) (get_congr (dramSwitch_regs ..) ..))

theorem arrivedDown_commands (b : Block) (p : Nat) : .avs 0 (some (b.getI uClk F.CLK.PVOLT_MV p)) ∈ (b.arrivedDown p).out :=
  mem_out_arrived (mem_out_emits _ (.inl List.mem_cons_self)) p _

theorem pstateDown_ends {b : Block} {p : Nat} (hp : p < 4) (htarget : b.get uClk F.CLK.PSTATE_TARGET = p) :
    b.pstateDown p = (b.arrivedDown p).changeEnded.feedAll :=
  pstateEnd_settled (b := b.arrivedDown p) (by
    rw [get_arrivedDown b p (by decide) (by decide), htarget, arrivedDown, arrived_current _ hp])

/-- LATGOV's configuration decides when an upward change that has arrived is over. -/
theorem pstateUp_arrives (b : Block) (p : Nat) : b.pstateUp p =
    let s := (b.arrivedUp p).govSwitch p
    if s.clk.govNext.isNone then s.pstateEnd else { s with clk := { s.clk with finishing := true } } := by
  have hmv : ((b.emit (.avs 14 none)).dramSwitch p).getI uClk F.CLK.PVOLT_MV p = b.getI uClk F.CLK.PVOLT_MV p :=
    getI_congr (dramSwitch_regs ..) ..
  rw [arrivedUp, ← hmv]
  rfl

/-- No line is in flight: the governor has the configuration at once. -/
def arrivedAtOnce (b : Block) (p : Nat) : Block :=
  { b.arrivedUp p with clk := { (b.arrivedUp p).clk with govNext := none, govCfg := p } }

/-- Lines are in flight: the change is over with the governor's next boundary. -/
def arrivedWaits (b : Block) (p : Nat) : Block :=
  { b.arrivedUp p with clk := { (b.arrivedUp p).clk with govNext := some p, finishing := true } }

theorem pstateUp_idle {b : Block} {p : Nat} (hp : p < 4) (htarget : b.get uClk F.CLK.PSTATE_TARGET = p)
    (htrig : b.on uWeb F.WEB.STATE_TRIG_OK = false) : b.pstateUp p = (b.arrivedAtOnce p).changeEnded.feedAll := by
  have hsettled : (b.arrivedAtOnce p).get uClk F.CLK.PSTATE_TARGET = (b.arrivedAtOnce p).get uClk F.CLK.PSTATE_CURRENT := by
    refine (get_arrivedUp b p (by decide) (by decide)).trans (htarget.trans ?_)
    exact (arrived_current ((b.emit (.avs 14 none)).dramSwitch p) hp _).symm
  rw [pstateUp_arrives, govSwitch_now ((arrivedUp_trigOk b p).trans htrig)]
  exact pstateEnd_settled hsettled

theorem pstateUp_flight {b : Block} {p : Nat} (htrig : b.on uWeb F.WEB.STATE_TRIG_OK = true) :
    b.pstateUp p = b.arrivedWaits p := by
  rw [pstateUp_arrives, govSwitch_later ((arrivedUp_trigOk b p).trans htrig)]
  rfl

/-! ## A change given up (R117) -/

/-- An upward change given up: the old state stays in force, VCORE at the target's set point. -/
def givenUp (b : Block) (p : Nat) : Block :=
  ({ b.emit (.avs 14 none) with clk := { b.clk with
      change := none, abandoned := some p, vcore := b.getI uClk F.CLK.PVOLT_MV p } } : Block).voltageRead.busyClear.set
    uClk F.CLK.MON_STAT_TEMPO_SHORT 1

theorem get_givenUp (b : Block) (p : Nat) {f : Field} (hv : apart uClk F.CLK.AVS_VOUT_MV 0 uClk f 0 = true)
    (hb : apart uClk F.CLK.PSTATE_BUSY 0 uClk f 0 = true) (hs : apart uClk F.CLK.MON_STAT_TEMPO_SHORT 0 uClk f 0 = true) :
    (b.givenUp p).get uClk f = b.get uClk f :=
  (get_set_apart _ hs 1).trans ((get_congr rfl ..).trans ((get_set_apart _ hb 0).trans
    ((get_voltageRead _ hv).trans (get_congr rfl ..))))

theorem givenUp_busy (b : Block) (p : Nat) : (b.givenUp p).get uClk F.CLK.PSTATE_BUSY = 0 :=
  (get_set_apart _ (by decide) 1).trans ((get_congr rfl ..).trans (get_set_same _ uClk (by decide) 0))

theorem tempoShort_gives_up {b : Block} {c p : Nat} (hchange : b.clk.change = some (c, p))
    (htarget : b.get uClk F.CLK.PSTATE_TARGET = p) (h : p < c) (hwins : b.clk.goodWins < 2)
    (hlong : b.settledAfter p + 100000 ≤ b.since b.clk.changeAt) : b.tempoShort = b.givenUp p := by
  have hstays : (b.givenUp p).pstateStays = true := by
    have habandoned : (b.givenUp p).clk.abandoned = some p := rfl
    simp [pstateStays, habandoned, get_givenUp b p (f := F.CLK.PSTATE_TARGET) (by decide) (by decide) (by decide), htarget]
  unfold tempoShort
  rw [hchange]
  dsimp only
  rw [if_neg (by omega)]
  exact pstateStart_stays hstays

/-! ## The sequencer stops (R118, R119) -/

/-- What a change has reached when the sequencer stops writes no register and loses no output. -/
structure StoppedAt (b t : Block) : Prop where
  regs : t.regs = b.regs
  finishing : t.clk.finishing = b.clk.finishing
  out : ∀ o ∈ b.out, o ∈ t.out

theorem StoppedAt.refl (b : Block) : b.StoppedAt b := ⟨rfl, rfl, fun _ h => h⟩

theorem StoppedAt.trans {b t x : Block} (h : b.StoppedAt t) (h' : t.StoppedAt x) : b.StoppedAt x :=
  ⟨h'.regs.trans h.regs, h'.finishing.trans h.finishing, fun o ho => h'.out o (h.out o ho)⟩

theorem stoppedAt_emit (b : Block) (o : Output) : b.StoppedAt (b.emit o) := ⟨rfl, rfl, fun _ h => List.mem_cons_of_mem _ h⟩

theorem stoppedAt_emits (b : Block) (os : List Output) : b.StoppedAt (b.emits os) :=
  ⟨emits_regs .., by rw [emits_clk], fun _ h => mem_out_emits os (.inr h)⟩

theorem stoppedAt_dramSwitch (b : Block) (p : Nat) : b.StoppedAt (b.dramSwitch p) :=
  ⟨dramSwitch_regs .., by rw [dramSwitch_clk], fun _ h => mem_out_dramSwitch h p⟩

theorem stoppedAt_vcore (b : Block) (mv : Nat) : b.StoppedAt { b.emit (.avs 14 none) with clk := { b.clk with vcore := mv } } :=
  ⟨rfl, rfl, fun _ h => List.mem_cons_of_mem _ h⟩

theorem stoppedAt_govIdle {b : Block} (h : b.clk.finishing = false) : b.StoppedAt b.govIdle := by
  unfold govIdle govBoundary
  split
  · exact .refl b
  · split
    · exact .refl b
    · dsimp only
      rw [if_neg (by simp [h])]
      exact ⟨rfl, rfl, fun _ h => h⟩

theorem stoppedAt_changeReached (b : Block) (step : Nat) : b.StoppedAt (b.changeReached step) := by
  unfold changeReached
  split
  · exact .refl b
  · next c t _ =>
    have hdown := b.stoppedAt_dramSwitch t
    dsimp only
    split
    · split
      · exact .refl b
      · split
        · exact hdown.trans (stoppedAt_emits ..)
        · exact (hdown.trans (stoppedAt_emit ..)).trans (stoppedAt_vcore ..)
    · split
      · exact stoppedAt_vcore ..
      · split
        · exact stoppedAt_emits ..
        · exact .refl b

/-- The sequencer stopped outside the last part of a change: nothing runs and BUSY is clear. -/
def seqStopped (b : Block) : Block :=
  { b.busyClear.set uLatgov F.LATGOV.STAT_PREDICT 0 with
    clk := { b.clk with change := none, stopped := true, govNext := none } }.set uClk F.CLK.MON_STAT_AVS_FAIL 1

theorem get_seqStopped (b : Block) {f : Field} (hf : f.at 0 < 0x4000)
    (hapart : apart uClk F.CLK.MON_STAT_AVS_FAIL 0 uClk f 0 = true) :
    b.seqStopped.get uClk f = (b.set uClk F.CLK.PSTATE_BUSY 0).get uClk f :=
  (get_set_apart _ hapart 1).trans ((get_congr rfl ..).trans ((get_clk_above _ (by decide) hf _ 0 0).trans (get_congr rfl ..)))

theorem avsFail_eq {b : Block} (h : b.clk.finishing = false) (cmd step : Nat) : ∃ x : Block, b.StoppedAt x ∧
    b.avsFail cmd step = (x.seqStopped.log uClk 0x0022 2 cmd step 0).raise 2 := by
  have hat := (stoppedAt_govIdle h).trans (stoppedAt_changeReached b.govIdle step)
  refine ⟨_, hat, ?_⟩
  unfold avsFail
  dsimp only
  rw [if_neg (ne_true_of_eq_false (hat.finishing.trans h))]
  rfl

/-- The sequencer stops with AVS_FAIL, CURRENT as it was, and nothing shown is lost. -/
theorem avsFail_stops {b : Block} (h : b.clk.finishing = false) (cmd step : Nat) :
    ((b.avsFail cmd step).clk.stopped = true ∧ (b.avsFail cmd step).clk.change = none ∧
      (b.avsFail cmd step).get uClk F.CLK.PSTATE_BUSY = 0 ∧ (b.avsFail cmd step).get uClk F.CLK.MON_STAT_AVS_FAIL = 1 ∧
      (b.avsFail cmd step).get uClk F.CLK.PSTATE_CURRENT = b.get uClk F.CLK.PSTATE_CURRENT) ∧
    ∀ o ∈ b.out, o ∈ (b.avsFail cmd step).out := by
  obtain ⟨x, hat, heq⟩ := avsFail_eq h cmd step
  have hclk : (b.avsFail cmd step).clk = { x.clk with change := none, stopped := true, govNext := none } := by
    rw [heq, raise_clk, log_clk]
    rfl
  have hget {f : Field} (hf : f.at 0 < 0x4000) : (b.avsFail cmd step).get uClk f = x.seqStopped.get uClk f := by
    rw [heq]
    exact (getI_raise _ (by decide) (by decide) (by decide) hf 2).trans (getI_log _ (by decide) (by decide) hf ..)
  have hout : (b.avsFail cmd step).out = x.out := by
    rw [heq, raise_out, log_out]
    rfl
  refine ⟨⟨by rw [hclk], by rw [hclk], ?_, ?_, ?_⟩, fun o ho => hout ▸ hat.out o ho⟩
  · exact (hget (by decide)).trans ((get_seqStopped x (by decide) (by decide)).trans (get_set_same x uClk (by decide) 0))
  · exact (hget (by decide)).trans (get_set_same _ uClk (by decide) 1)
  · exact (hget (by decide)).trans ((get_seqStopped x (by decide) (by decide)).trans
      ((get_set_apart x (by decide) 0).trans (get_congr hat.regs ..)))

theorem avsAlert_faults {b : Block} (hbegan : b.boot.began = true) {faults : Nat} (h : faults ≠ 0) :
    b.avsAlert faults = (b.emit (.avs 14 none)).avsFail 14 0 := by
  rw [avsAlert, if_pos hbegan]
  exact if_pos h

theorem avsAlert_none {b : Block} (hbegan : b.boot.began = true) : b.avsAlert 0 = b.emit (.avs 14 none) := by
  rw [avsAlert, if_pos hbegan]
  exact if_neg (not_not_intro rfl)

/-! ## The reads of every 1 ms (R119) -/

/-- Both reads sent, their answers shown. -/
def avsShown (b : Block) (mv raw : Nat) : Block :=
  ((b.emits [.avs 0 none, .avs 2 none]).set uClk F.CLK.AVS_VOUT_MV mv).set uClk F.CLK.AVS_IOUT_RAW raw

theorem avsPoll_begun {b : Block} (hbegan : b.boot.began = true) (mv raw : Nat) : b.avsPoll mv raw = b.avsShown mv raw :=
  if_pos hbegan

theorem avsShown_vout (b : Block) {mv : Nat} (hmv : mv < 2 ^ 10) (raw : Nat) :
    (b.avsShown mv raw).get uClk F.CLK.AVS_VOUT_MV = mv :=
  (get_set_apart _ (by decide) raw).trans ((get_set_same _ uClk (by decide) mv).trans (Nat.mod_eq_of_lt hmv))

theorem avsShown_iout (b : Block) (mv : Nat) {raw : Nat} (hraw : raw < 2 ^ 16) :
    (b.avsShown mv raw).get uClk F.CLK.AVS_IOUT_RAW = raw :=
  (get_set_same _ uClk (by decide) raw).trans (Nat.mod_eq_of_lt hraw)

theorem avsShown_rest (b : Block) (mv raw : Nat) : { b.avsShown mv raw with regs := b.regs, out := b.out } = b := by
  obtain ⟨o, ho⟩ := b.emits_eq [.avs 0 none, .avs 2 none]
  rw [avsShown, ho]
  rfl

end Block

/-- Settles O32: each command through the sequencer's lemma for its case. -/
theorem pstateChanges : Obligations.PstateChanges := by
  intro s dt hup hbegan b
  refine ⟨fun req hreq hstopped hbusy habandoned hchange => ?request, fun c p hc hp hchange htarget => ?change,
    fun hfinishing => ?fail, ?alert, fun mv raw hmv hraw => ?poll⟩
  case request =>
    have hidle : b.PstateIdle := ⟨hbegan, hstopped, hbusy, habandoned, hchange⟩
    have hexec : exec (.pstateTarget dt req) s = .next ⟨s.pending, (b.requested req).retarget⟩ :=
      hup.exec_next (exec_pstateTarget dt req s) (by cases req <;> rfl)
    have hcap := b.get_requested req (f := F.CLK.PSTATE_CAP) (by decide)
    have hcur := b.get_requested req (f := F.CLK.PSTATE_CURRENT) (by decide)
    have hstart := Block.retarget_idle (hidle.requested req)
    rw [Block.pstateWanted, b.requested_req hreq, hcap, hcur] at hstart
    exact ⟨_, hexec, hstart⟩
  case change =>
    intro mv
    have hdone := exec_pstateChangeDone dt s
    refine ⟨fun hgov hdown => ?down, fun hgov hupward hwins => ⟨fun htrig => ?idle, fun htrig => ?flight⟩,
      fun hupward hwins hlong => ?short⟩
    case down =>
      have heq := (Block.pstateDone_down hchange hgov hdown).trans (Block.pstateDown_ends hp htarget)
      have hcur : (b.arrivedDown p).get uClk F.CLK.PSTATE_CURRENT = p := Block.arrived_current _ hp _
      refine ⟨_, hup.exec_next hdone heq, ?_, Block.changeEnded_busy _, ?_⟩
      · rw [Block.get_changeEnded_apart _ (by decide) (by decide), hcur]
      · rw [Block.changeEnded_clk, Block.changeEnded_out, Block.arrivedDown_clk]
        exact ⟨rfl, rfl, rfl, b.arrivedDown_commands p⟩
    case idle =>
      have heq := (Block.pstateDone_up hchange hgov hupward hwins).trans (Block.pstateUp_idle hp htarget htrig)
      have hcur : (b.arrivedAtOnce p).get uClk F.CLK.PSTATE_CURRENT = p := Block.arrived_current _ hp _
      refine ⟨_, hup.exec_next hdone heq, ?_, Block.changeEnded_busy _, ?_⟩
      · rw [Block.get_changeEnded_apart _ (by decide) (by decide), hcur]
      · rw [Block.changeEnded_clk, Block.arrivedAtOnce, Block.arrivedUp_clk]
        exact ⟨rfl, rfl, rfl, rfl⟩
    case flight =>
      have heq := (Block.pstateDone_up hchange hgov hupward hwins).trans (Block.pstateUp_flight htrig)
      refine ⟨_, hup.exec_next hdone heq, Block.arrived_current _ hp _, b.get_arrivedUp p (by decide) (by decide), ?_⟩
      rw [Block.arrivedWaits, Block.arrivedUp_clk]
      exact ⟨rfl, rfl, rfl, rfl, rfl⟩
    case short =>
      have heq := Block.tempoShort_gives_up hchange htarget hupward hwins hlong
      exact ⟨_, hup.exec_next (exec_tempoShort dt s) heq, b.get_givenUp p (by decide) (by decide) (by decide), b.givenUp_busy p,
        Block.get_set_same _ uClk (by decide) 1, rfl, rfl, rfl⟩
  case fail =>
    intro stops
    refine ⟨fun cmd step => ⟨_, hup.exec_next (exec_avsFail dt cmd step s) rfl, (Block.avsFail_stops hfinishing cmd step).1⟩,
      fun faults hfaults => ?_⟩
    obtain ⟨hstops, hout⟩ := Block.avsFail_stops (b := b.emit (.avs 14 none)) hfinishing 14 0
    exact ⟨_, hup.exec_next (exec_avsAlert dt faults s) (Block.avsAlert_faults hbegan hfaults), hstops,
      hout _ List.mem_cons_self⟩
  case alert => exact hup.exec_next (exec_avsAlert dt 0 s) (Block.avsAlert_none hbegan)
  case poll =>
    exact ⟨_, hup.exec_next (exec_avsPoll dt mv raw s) (Block.avsPoll_begun hbegan mv raw), b.avsShown_vout hmv raw,
      b.avsShown_iout mv hraw, rfl, b.avsShown_rest mv raw⟩

end Sys2Proof.Machine

/-! # The latched shutdown (R137, R138) -/

namespace Sys2Proof.Machine

/-- The hold of a shutdown, with the latch that keeps it over power-on and resets (R138). -/
abbrev Block.Latched (b : Block) : Prop := b.boot.hold = .shutdown ∧ b.boot.latch = true

namespace Block

variable {b : Block}

theorem Latched.held (h : b.Latched) : b.boot.hold ≠ .none := by simp [h.1]

theorem Latched.of_boot {t : Block} (h : b.Latched) (hlatch : t.boot.latch = b.boot.latch) (hhold : t.boot.hold = b.boot.hold) :
    t.Latched := ⟨hhold.trans h.1, hlatch.trans h.2⟩

theorem Latched.powerOn (h : b.Latched) (e : BootEnv) : (b.powerOn e).Latched :=
  have ⟨hlatch, hhold⟩ := powerOn_latched h.2 e
  ⟨hhold.trans h.1, hlatch⟩

theorem Latched.supplyBack (h : b.Latched) (e : BootEnv) : (b.supplyBack e).Latched :=
  have ⟨hlatch, hhold⟩ := supplyBack_latched h.2 e
  ⟨hhold.trans h.1, hlatch⟩

theorem Latched.porFall (h : b.Latched) : b.porFall.Latched :=
  have ⟨hlatch, hhold⟩ := b.porFall_boot
  h.of_boot hlatch (hhold.trans (if_pos h.2))

theorem Latched.supplyOut (h : b.Latched) : b.supplyOut.Latched :=
  have ⟨hlatch, hhold⟩ := b.supplyOut_boot
  h.of_boot hlatch (hhold.trans (if_pos h.2))

theorem Latched.perstnRise (h : b.Latched) : b.perstnRise.Latched :=
  have ⟨hlatch, hhold⟩ := b.perstnRise_boot
  h.of_boot hlatch hhold

theorem Latched.perstnFallEarly (h : b.Latched) : b.perstnFallEarly.Latched :=
  have ⟨hlatch, hhold⟩ := b.perstnFallEarly_boot
  h.of_boot hlatch hhold

theorem Latched.configRequest (h : b.Latched) (w : Option (Bool × Bool × Nat)) : (b.configRequest w).Latched := by
  rwa [Latched, configRequest_held h.held]

theorem Latched.passed (h : b.Latched) (os : List Output) (k : Nat) (f : Block → Block) : (b.passed os k f).Latched := by
  rwa [Latched, passed_held h.held, emits_boot]

end Block

/-- A command that does not clear the latch leaves the device in the latched shutdown (R138). -/
theorem exec_keeps_latch {s t : State} (h : s.blk.Latched) {c : Instr} (hc : clearsLatch c = false)
    (ht : exec c s = .next t) : t.pending = s.pending ∧ t.blk.Latched := by
  have hnow (dt : Nat) : (s.now dt).Latched := by rwa [State.now_held h.held, Block.Latched, State.advance_boot]
  have keeps {dt : Nat} {f : Block → Block} (he : exec c s = s.run dt f) (hf : (f (s.now dt)).Latched) :
      t.pending = s.pending ∧ t.blk.Latched := by
    rw [he, State.run_eq] at ht
    cases ht
    exact ⟨rfl, hf⟩
  cases ha : actsInHold c with
  | false =>
    obtain ⟨n, hn⟩ := exec_idle_in_hold h.held ha
    rw [hn] at ht
    cases ht
    exact ⟨rfl, by rwa [Block.Latched, State.advance_boot]⟩
  | true =>
    have hboth : (actsInHold c && !clearsLatch c) = true := by rw [ha, hc]; rfl
    cases c with
    | powerOn dt env => exact keeps (exec_powerOn ..) ((hnow dt).powerOn env)
    | supplyRestored dt env => exact keeps (exec_supplyRestored ..) ((hnow dt).supplyBack env)
    | porFall dt => exact keeps (exec_porFall ..) (hnow dt).porFall
    | supplyOutOfRange dt => exact keeps (exec_supplyOutOfRange ..) (hnow dt).supplyOut
    | perstnRise dt => exact keeps (exec_perstnRise ..) (hnow dt).perstnRise
    | perstnFallBeforeRunning dt => exact keeps (exec_perstnFallBeforeRunning ..) (hnow dt).perstnFallEarly
    | configRequest dt w => exact keeps (exec_configRequest ..) ((hnow dt).configRequest w)
    | observerUpdate dt e0 e1 => exact keeps (exec_observerUpdate ..) ((hnow dt).passed _ _ _)
    | zIndex dt e => exact keeps (exec_zIndex ..) ((hnow dt).passed _ _ _)
    | quadratureEdge dt e a z => exact keeps (exec_quadratureEdge ..) ((hnow dt).passed _ _ _)
    | _ => cases hboth

/-- Settles O6: a step runs the command at the front of the queue, which is not the one that clears the latch. -/
theorem latchedShutdownStays : Obligations.LatchedShutdownStays := by
  intro s t ⟨hhold, hlatch, hpend⟩ hstep
  obtain ⟨pending, b⟩ := s
  cases pending with
  | nil =>
    cases hstep
    exact ⟨hhold, hlatch, hpend⟩
  | cons c rest =>
    obtain ⟨hc, hrest⟩ := List.forall_mem_cons.1 hpend
    obtain ⟨hqueue, hhold', hlatch'⟩ := exec_keeps_latch (s := ⟨rest, b⟩) ⟨hhold, hlatch⟩ hc hstep
    exact ⟨hhold', hlatch', by rwa [hqueue]⟩

end Sys2Proof.Machine

/-! # Thermal services (R127-R129, R133, R134) -/

namespace Sys2Proof.Machine

/-- A temperature in range reads back from its 12 bits (R139). -/
theorem sext_wrapN_temp {t : Int} (hlo : -320 ≤ t) (hhi : t ≤ 1120) : sext 12 (wrapN 12 t % 2 ^ 12) = t := by
  simp only [sext, wrapN]
  omega

/-- Where step j of a fold alone changes what `g` reads, `g` reads after the fold what step j gives from some state that it
cannot tell from the first. -/
theorem foldl_shows {β γ : Type} (g : β → γ) {f : β → Nat → β} {l : List Nat} (hl : l.Nodup) {j : Nat} (hj : j ∈ l)
    (hother : ∀ i ∈ l, i ≠ j → ∀ t, g (f t i) = g t) (s : β) : ∃ t, g t = g s ∧ g (l.foldl f s) = g (f t j) := by
  obtain ⟨l₁, l₂, rfl⟩ := List.append_of_mem hj
  obtain ⟨hnot, -⟩ := List.nodup_cons.1 (List.nodup_middle.1 hl)
  rw [List.mem_append, not_or] at hnot
  refine ⟨l₁.foldl f s, foldl_keeps g l₁ (fun i hi => hother i (by simp [hi]) (ne_of_mem_of_not_mem hi hnot.1)) s, ?_⟩
  rw [List.foldl_append, List.foldl_cons,
    foldl_keeps g l₂ (fun i hi => hother i (by simp [hi]) (ne_of_mem_of_not_mem hi hnot.2))]

namespace Block

/-! ## What a sensor's register and its calibration offset show (R128, R139, R610) -/

/-- The register of sensor k and that of its offset. -/
def sensorRegs (b : Block) (k : Nat) : Nat × Nat := (b.rd uThm (F.THM.SENSOR_TEMP.at k), b.rd uCal (F.CAL.THM_OFS_OFS.at k))

theorem sensorRegs_congr {s t : Block} (h : t.regs = s.regs) (k : Nat) : t.sensorRegs k = s.sensorRegs k :=
  Prod.ext (rd_congr h ..) (rd_congr h ..)

theorem onI_of_sensorRegs {s t : Block} {k : Nat} (h : t.sensorRegs k = s.sensorRegs k) :
    t.onI uThm F.THM.SENSOR_BROKEN k = s.onI uThm F.THM.SENSOR_BROKEN k :=
  congrArg (· != 0) (getI_of_rd (congrArg Prod.fst h))

theorem getSI_of_sensorRegs {s t : Block} {k : Nat} (h : t.sensorRegs k = s.sensorRegs k) :
    t.getSI uThm F.THM.SENSOR_TEMP k = s.getSI uThm F.THM.SENSOR_TEMP k :=
  congrArg (sext _) (getI_of_rd (congrArg Prod.fst h))

theorem ofs_of_sensorRegs {s t : Block} {k : Nat} (h : t.sensorRegs k = s.sensorRegs k) :
    t.getSI uCal F.CAL.THM_OFS_OFS k = s.getSI uCal F.CAL.THM_OFS_OFS k :=
  congrArg (sext _) (getI_of_rd (congrArg Prod.snd h))

/-- A register of THM other than sensor k's. -/
theorem sensorRegs_setI (b : Block) {f : Field} {i k : Nat} (hf : f.at i < 0x4000) (hk : k < 24)
    (h : f.at i ≠ F.THM.SENSOR_TEMP.at k) (v : Nat) : (b.setI uThm f i v).sensorRegs k = b.sensorRegs k :=
  Prod.ext (rd_setI_ne b (regKey_off_ne uThm h.symm) v) (rd_setI_unit b (by decide) (by decide) (by decide) hf
    (by simp only [Field.at, F.CAL.THM_OFS_OFS]; omega) v)

/-- A register of THM below the sensors'. -/
theorem sensorRegs_setI_low (b : Block) {f : Field} {i k : Nat} (hf : f.at i < 0x140) (hk : k < 24) (v : Nat) :
    (b.setI uThm f i v).sensorRegs k = b.sensorRegs k :=
  sensorRegs_setI b (by omega) hk (by simp only [Field.at, F.THM.SENSOR_TEMP] at hf ⊢; omega) v

/-- The register of another sensor. -/
theorem sensorRegs_setI_other (b : Block) {f : Field} (hf : f.off = 0x140 ∧ f.stride = 4) {i k : Nat} (hi : i < 24)
    (hk : k < 24) (h : i ≠ k) (v : Nat) : (b.setI uThm f i v).sensorRegs k = b.sensorRegs k :=
  sensorRegs_setI b (by simp only [Field.at, hf]; omega) hk (by simp only [Field.at, hf, F.THM.SENSOR_TEMP]; omega) v

theorem sensorRegs_setBitI_low (b : Block) {f : Field} {i k : Nat} (hf : f.at i < 0x140) (hk : k < 24) (n : Nat) :
    (b.setBitI uThm f i n).sensorRegs k = b.sensorRegs k := by
  unfold setBitI
  split
  · rfl
  · exact sensorRegs_setI_low b hf hk _

theorem sensorRegs_clrBitI_low (b : Block) {f : Field} {i k : Nat} (hf : f.at i < 0x140) (hk : k < 24) (n : Nat) :
    (b.clrBitI uThm f i n).sensorRegs k = b.sensorRegs k := by
  unfold clrBitI
  split
  · exact sensorRegs_setI_low b hf hk _
  · rfl

theorem sensorRegs_log (b : Block) {k : Nat} (hk : k < 24) (u : UnitId) (code sev a0 a1 a2 : Nat) :
    (b.log u code sev a0 a1 a2).sensorRegs k = b.sensorRegs k :=
  Prod.ext (rd_log b (by decide) (by decide) (by simp only [Field.at, F.THM.SENSOR_TEMP]; omega) ..)
    (rd_log b (by decide) (by decide) (by simp only [Field.at, F.CAL.THM_OFS_OFS]; omega) ..)

theorem calThermal_regs (b : Block) (k : Nat) (raw : Int) : (b.calThermal k raw).regs = b.regs := by
  unfold calThermal
  split
  · split <;> rfl
  · rfl

/-! ## A sensor breaks (R128) -/

/-- A sensor marked broken, with FLAGS.SENSOR and a record. -/
def sensorMarked (b : Block) (k : Nat) : Block :=
  (((b.setI uThm F.THM.SENSOR_BROKEN k 1).setBitI uThm F.THM.BROKEN_SENSOR 0 k).set uThm F.THM.FLAGS_SENSOR 1).log
    uThm 0x0030 2 k 0 0

theorem sensorRegs_sensorMarked (b : Block) {k j : Nat} (hj : j < 24) :
    (b.sensorMarked k).sensorRegs j = (b.setI uThm F.THM.SENSOR_BROKEN k 1).sensorRegs j := by
  rw [sensorMarked, sensorRegs_log _ hj, set, sensorRegs_setI_low _ (by decide) hj, sensorRegs_setBitI_low _ (by decide) hj]

/-- The streak of valid conversions starts anew. -/
def streakCleared (b : Block) (k : Nat) : Block := { b with thm := { b.thm with streak := upd b.thm.streak k fun _ => 0 } }

theorem sensorBreak_eq (b : Block) (k : Nat) : b.sensorBreak k =
    if b.onI uThm F.THM.SENSOR_BROKEN k then b.streakCleared k else (b.streakCleared k).sensorMarked k := rfl

theorem sensorBreak_other (b : Block) {k j : Nat} (hk : k < 24) (hj : j < 24) (h : k ≠ j) :
    (b.sensorBreak k).sensorRegs j = b.sensorRegs j := by
  rw [sensorBreak_eq]
  split
  · exact sensorRegs_congr rfl j
  · rw [sensorRegs_sensorMarked _ hj, sensorRegs_setI_other _ (by decide) hk hj h]
    exact sensorRegs_congr rfl j

theorem sensorBreak_breaks (b : Block) {k : Nat} (hk : k < 24) : (b.sensorBreak k).onI uThm F.THM.SENSOR_BROKEN k = true := by
  rw [sensorBreak_eq]
  split
  · next h => exact h
  · rw [onI_of_sensorRegs (sensorRegs_sensorMarked _ hk), onI, getI_setI_same _ _ _ _ _ (by decide)]
    rfl

theorem sensorBreak_boot (b : Block) (k : Nat) : (b.sensorBreak k).boot = b.boot := by
  rw [sensorBreak_eq]
  split
  · rfl
  · rw [sensorMarked, log_boot, set_boot, setBitI_boot]
    rfl

/-! ## A conversion completes (R127, R128, R610) -/

theorem sensorResult_out {b : Block} {k : Nat} {raw : Int}
    (h : raw + b.getSI uCal F.CAL.THM_OFS_OFS k < -320 ∨ 1120 < raw + b.getSI uCal F.CAL.THM_OFS_OFS k) :
    b.sensorResult k raw = b.sensorBreak k := if_pos h

/-- The time of the conversion is kept, its temperature shown, and the peak where it is a new one. -/
def sensorShown (b : Block) (k : Nat) (t : Int) : Block :=
  let s := ({ b with thm := { b.thm with lastConv := upd b.thm.lastConv k fun _ => b.lt } } : Block).putSI
    uThm F.THM.SENSOR_TEMP k t
  if s.getSI uThm F.THM.SENSOR_PEAK k < t then s.putSI uThm F.THM.SENSOR_PEAK k t else s

/-- One more valid conversion of a broken sensor; the sixteenth in a row ends the fault. -/
def sensorMends (b : Block) (k : Nat) : Block :=
  let n := nth b.thm.streak k 0 + 1
  let s := { b with thm := { b.thm with streak := upd b.thm.streak k fun _ => n } }
  if n < 16 then s else (s.setI uThm F.THM.SENSOR_BROKEN k 0).clrBitI uThm F.THM.BROKEN_SENSOR 0 k

theorem sensorResult_valid {b : Block} {k : Nat} {raw t : Int} (ht : raw + b.getSI uCal F.CAL.THM_OFS_OFS k = t)
    (hlo : -320 ≤ t) (hhi : t ≤ 1120) : b.sensorResult k raw =
      if (b.sensorShown k t).onI uThm F.THM.SENSOR_BROKEN k then (b.sensorShown k t).sensorMends k
      else (b.sensorShown k t).calThermal k raw := by
  subst ht
  exact if_neg (by omega)

theorem sensorShown_other (b : Block) {k j : Nat} (hk : k < 24) (hj : j < 24) (h : k ≠ j) (t : Int) :
    (b.sensorShown k t).sensorRegs j = b.sensorRegs j := by
  unfold sensorShown
  extract_lets _ s
  have hs : s.sensorRegs j = b.sensorRegs j :=
    (sensorRegs_setI_other _ (by decide) hk hj h _).trans (sensorRegs_congr rfl j)
  split
  · exact (sensorRegs_setI_other _ (by decide) hk hj h _).trans hs
  · exact hs

theorem sensorMends_other (b : Block) {k j : Nat} (hk : k < 24) (hj : j < 24) (h : k ≠ j) :
    (b.sensorMends k).sensorRegs j = b.sensorRegs j := by
  unfold sensorMends
  extract_lets n _ s
  have hs : s.sensorRegs j = b.sensorRegs j := sensorRegs_congr rfl j
  split
  · exact hs
  · rw [sensorRegs_clrBitI_low _ (by decide) hj, sensorRegs_setI_other _ (by decide) hk hj h, hs]

/-- A sensor's conversion leaves the others. -/
theorem sensorResult_other (b : Block) {k j : Nat} (hk : k < 24) (hj : j < 24) (h : k ≠ j) (raw : Int) :
    (b.sensorResult k raw).sensorRegs j = b.sensorRegs j := by
  by_cases hrange : raw + b.getSI uCal F.CAL.THM_OFS_OFS k < -320 ∨ 1120 < raw + b.getSI uCal F.CAL.THM_OFS_OFS k
  · rw [sensorResult_out hrange, sensorBreak_other b hk hj h]
  · rw [sensorResult_valid rfl (by omega) (by omega)]
    split
    · rw [sensorMends_other _ hk hj h, sensorShown_other b hk hj h]
    · rw [sensorRegs_congr (calThermal_regs ..), sensorShown_other b hk hj h]

theorem sensorShown_temp (b : Block) {k : Nat} {t : Int} (hlo : -320 ≤ t) (hhi : t ≤ 1120) :
    (b.sensorShown k t).getSI uThm F.THM.SENSOR_TEMP k = t := by
  unfold sensorShown
  extract_lets _ s
  have hs : s.getSI uThm F.THM.SENSOR_TEMP k = t := by
    rw [getSI, show s.getI uThm F.THM.SENSOR_TEMP k = _ from getI_setI_same _ _ _ _ _ (by decide)]
    exact sext_wrapN_temp hlo hhi
  split
  · rw [getSI, putSI, getI_setI_field _ _ _ (by decide)]
    exact hs
  · exact hs

theorem sensorShown_broken (b : Block) (k : Nat) (t : Int) :
    (b.sensorShown k t).onI uThm F.THM.SENSOR_BROKEN k = b.onI uThm F.THM.SENSOR_BROKEN k := by
  unfold sensorShown
  extract_lets _ s
  have hs : s.onI uThm F.THM.SENSOR_BROKEN k = b.onI uThm F.THM.SENSOR_BROKEN k :=
    congrArg (· != 0) ((getI_setI_field _ _ _ (by decide) _).trans (getI_congr rfl ..))
  split
  · rw [onI, putSI, getI_setI_field _ _ _ (by decide)]
    exact hs
  · exact hs

/-- A working sensor shows a result in range. -/
theorem sensorResult_temp {b : Block} {k : Nat} {raw t : Int} (ht : raw + b.getSI uCal F.CAL.THM_OFS_OFS k = t)
    (hworks : b.onI uThm F.THM.SENSOR_BROKEN k = false) (hlo : -320 ≤ t) (hhi : t ≤ 1120) :
    (b.sensorResult k raw).getSI uThm F.THM.SENSOR_TEMP k = t := by
  rw [sensorResult_valid ht hlo hhi, if_neg (by rw [sensorShown_broken, hworks]; decide),
    getSI_of_sensorRegs (sensorRegs_congr (calThermal_regs ..) k), sensorShown_temp b hlo hhi]

/-- Sensor k takes its result, where it has one. -/
def convert (results : List (Option Int)) (b : Block) (k : Nat) : Block :=
  match results.getD k none with
  | some r => b.sensorResult k r
  | none => b

theorem convert_some {results : List (Option Int)} {k : Nat} {r : Int} (h : results.getD k none = some r) (b : Block) :
    convert results b k = b.sensorResult k r := by rw [convert, h]

theorem convert_other (results : List (Option Int)) (b : Block) {k j : Nat} (hk : k < 24) (hj : j < 24) (h : k ≠ j) :
    (convert results b k).sensorRegs j = b.sensorRegs j := by
  unfold convert
  split
  · exact sensorResult_other b hk hj h _
  · rfl

/-- What a conversion shows of sensor k is what its own result shows. -/
theorem converted_shows (b : Block) {results : List (Option Int)} {k : Nat} (hk : k < 24) {r : Int}
    (hr : results.getD k none = some r) : ∃ t : Block, t.sensorRegs k = b.sensorRegs k ∧
      ((List.range 24).foldl (convert results) b).sensorRegs k = (t.sensorResult k r).sensorRegs k := by
  obtain ⟨t, ht, hfold⟩ := foldl_shows (sensorRegs · k) List.nodup_range (List.mem_range.2 hk)
    (fun i hi hne t => convert_other results t (List.mem_range.1 hi) hk hne) b
  exact ⟨t, ht, by rw [hfold, convert_some hr]⟩

theorem thmWorks_cored {b : Block} (h : b.cored = true) : b.thmWorks = true := by
  simp only [cored, thmWorks, Bool.and_eq_true, decide_eq_true_eq] at h ⊢
  exact ⟨h.1, by omega⟩

theorem thmConversion_works {b : Block} (h : b.thmWorks = true) (results : List (Option Int)) :
    b.thmConversion results = ((List.range 24).foldl (convert results) b).thmEvaluate := if_neg (by rw [h]; decide)

/-! ## No conversion in time (R128, R129) -/

theorem zoneUpdate_sensorRegs (b : Block) {z k : Nat} (hz : z < 6) (hk : k < 24) :
    (b.zoneUpdate z).sensorRegs k = b.sensorRegs k :=
  (sensorRegs_setI_low _ (by simp only [Field.at, F.THM.ZONE_LOW]; omega) hk _).trans
    (sensorRegs_setI_low _ (by simp only [Field.at, F.THM.ZONE_HIGH]; omega) hk _)

/-- Sensor k broken and its zone's temperatures taken anew. -/
def timedOut (b : Block) (k : Nat) : Block := (b.sensorBreak k).zoneUpdate (k / 4)

theorem timedOut_breaks (b : Block) {k : Nat} (hk : k < 24) : (b.timedOut k).onI uThm F.THM.SENSOR_BROKEN k = true :=
  (onI_of_sensorRegs (zoneUpdate_sensorRegs _ (by omega) hk)).trans (sensorBreak_breaks b hk)

theorem timedOut_other (b : Block) {k j : Nat} (hk : k < 24) (hj : j < 24) (h : j ≠ k) :
    (b.timedOut k).onI uThm F.THM.SENSOR_BROKEN j = b.onI uThm F.THM.SENSOR_BROKEN j :=
  onI_of_sensorRegs ((zoneUpdate_sensorRegs _ (by omega) hj).trans (sensorBreak_other b hk hj h.symm))

theorem timedOut_boot (b : Block) (k : Nat) : (b.timedOut k).boot = b.boot := sensorBreak_boot b k

theorem sensorTimeout_due {b : Block} {k : Nat} (hk : k < 24) (hworks : b.thmWorks = true)
    (hlong : 150000 ≤ b.since (nth b.thm.lastConv k 0)) : b.sensorTimeout k =
      if (b.timedOut k).zoneLost (k / 4) then (b.timedOut k).shutdown 2 (k / 4) 0 else b.timedOut k :=
  if_pos ⟨hk, hworks, hlong⟩

/-- The zone is lost when no other of its sensors works. -/
theorem timedOut_zoneLost (b : Block) {k : Nat} (hk : k < 24) : (b.timedOut k).zoneLost (k / 4) = true ↔
    ∀ i < 4, 4 * (k / 4) + i ≠ k → b.onI uThm F.THM.SENSOR_BROKEN (4 * (k / 4) + i) = true := by
  rw [zoneLost, List.all_eq_true]
  refine forall_congr' fun i => ?_
  rw [List.mem_range]
  refine forall_congr' fun hi => ?_
  by_cases h : 4 * (k / 4) + i = k
  · simp only [h, timedOut_breaks b hk, ne_eq, not_true_eq_false, false_implies]
  · rw [timedOut_other b hk (by omega) h]
    exact ⟨fun hb _ => hb, fun hb => hb h⟩

theorem shutdown_latched (b : Block) (kind zone temp : Nat) : (b.shutdown kind zone temp).Latched := ⟨rfl, rfl⟩

/-! ## The grace time ends (R133) -/

/-- The grace time over. -/
def graceDone (b : Block) : Block :=
  { b.set uThm F.THM.STATE_GRACE_DONE 1 with thm := { b.thm with graceFrom := none } }

theorem graceExpired_due {b : Block} {a : Nat} (hfrom : b.thm.graceFrom = some a) (hreq : b.on uThm F.THM.STATE_REQ = true)
    (hlong : b.get uThm F.THM.TIMING_GRACE * 100000000 ≤ b.since a) : b.graceExpired = b.graceDone.capStep := by
  rw [graceExpired, hfrom]
  exact if_pos ⟨hreq, hlong⟩

theorem capStep_none {b : Block} (h : b.zoneAt F.THM.HIGH_THR_ENFORCE = none) : b.capStep = b := by rw [capStep, h]

theorem graceDone_zoneAt (b : Block) : b.graceDone.zoneAt F.THM.HIGH_THR_ENFORCE = b.zoneAt F.THM.HIGH_THR_ENFORCE := by
  have hthr : b.graceDone.thr F.THM.HIGH_THR_ENFORCE = b.thr F.THM.HIGH_THR_ENFORCE :=
    congrArg (fun n => 8 * sext _ n) (get_set_apart b (by decide) 1)
  have hzone (z : Nat) : b.graceDone.zoneHigh z = b.zoneHigh z := by
    have hplace : F.THM.ZONE_HIGH.at z ≠ F.THM.STATE_GRACE_DONE.at 0 := by
      simp only [Field.at, F.THM.ZONE_HIGH, F.THM.STATE_GRACE_DONE]
      omega
    exact congrArg (sext _) (getI_setI_apart b (apart_off uThm hplace) 1)
  simp only [zoneAt, hthr, hzone]

/-! ## A relax step (R134) -/

/-- An alarm leaves the registers of CLK (R407). -/
theorem get_alarm_clk (b : Block) {f : Field} (hf : f.at 0 < 0x4000) (code state a0 a1 : Nat) :
    (b.alarm code state a0 a1).get uClk f = b.get uClk f := by
  have hA (t : Block) (r : Rec) : (t.classA r).get uClk f = t.get uClk f := by
    have hne : regKey uClk (f.at 0) ≠ regKey uTag (F.TAG.FLAGS_LPORT_DROP.at 0) :=
      regKey_ne (by decide) (by decide) (by decide) hf (by decide)
    unfold classA
    split
    · rfl
    · refine (getI_flag _ (by decide) (by decide) (by decide) hf ?_).trans (get_clk_above t (by decide) hf _ _ _)
      rw [apart, decide_eq_true hne, Bool.true_or]
  have hB (t : Block) (r : Rec) : (t.classB 0 r).get uClk f = t.get uClk f := by
    unfold classB
    split
    · exact get_clk_above t (by decide) hf _ _ _
    · exact getI_of_rd (rd_pushStream_below (by unfold regKey; simp only [UnitType.code]; omega) t 0 r)
  exact (hB _ _).trans ((hA _ _).trans (get_congr rfl ..))

theorem access_thm (b : Block) (n : Nat) (k : DmaKind) (space addr len : Nat) (data : List Nat) (err : Bool) :
    (b.access n k space addr len data err).thm = b.thm := by
  unfold access tagsUpdate
  dsimp only
  split <;> rfl

theorem setCount_thm (b : Block) (n v : Nat) : (b.setCount n v).thm = b.thm := by
  unfold setCount
  split <;> rfl

theorem issueHost_thm (n fuel : Nat) (b : Block) : (b.issueHost n fuel).thm = b.thm := by
  induction fuel generalizing b with
  | zero => rfl
  | succ fuel ih =>
    unfold issueHost
    dsimp only
    split
    · split
      · rfl
      · split
        · rfl
        · rw [ih, access_thm, emit_thm, setCount_thm]; rfl
    · rfl

theorem streamFeed_thm (i fuel : Nat) (b : Block) : (b.streamFeed i fuel).thm = b.thm := by
  induction fuel generalizing b with
  | zero => rfl
  | succ fuel ih =>
    unfold streamFeed
    dsimp only
    split
    · split
      · rfl
      · split
        · split
          · rw [ih, incI_thm]
          · split
            · rfl
            · rw [ih, issueHost_thm]; rfl
        · rfl
    · rfl

/-- An alarm leaves the thermal logic's own state. -/
theorem alarm_thm (b : Block) (code state a0 a1 : Nat) : (b.alarm code state a0 a1).thm = b.thm := by
  have hA (t : Block) (r : Rec) : (t.classA r).thm = t.thm := by
    unfold classA
    split
    · rfl
    · rw [flag_thm, inc_thm]
  have hB (t : Block) (r : Rec) : (t.classB 0 r).thm = t.thm := by
    unfold classB pushStream
    dsimp only
    split
    · rfl
    · split
      · rw [hostIrq_thm, incI_thm]
      · rw [streamFeed_thm]
  exact (hB _ _).trans (hA _ _)

theorem pauseAbandon_thm (b : Block) : b.pauseAbandon.thm = b.thm := by
  unfold pauseAbandon
  split <;> rfl

theorem govSwitch_thm (b : Block) (p : Nat) : (b.govSwitch p).thm = b.thm := by
  unfold govSwitch
  split <;> rfl

theorem changeBegun_thm (b : Block) : b.changeBegun.thm = b.thm := by rw [changeBegun, set_thm, pauseAbandon_thm]

theorem pstateStart_thm (b : Block) : b.pstateStart.thm = b.thm := by
  cases h : b.pstateStays with
  | true => rw [pstateStart_stays h]
  | false =>
    rw [pstateStart_goes h]
    split
    · rw [govSwitch_thm, set_thm, changeBegun_thm]
    · rw [emit_thm, changeBegun_thm]

theorem retarget_thm (b : Block) : b.retarget.thm = b.thm := by
  rw [retarget_eq, pstateStart_thm, targeted]
  split <;> rfl

/-- A new target leaves the cap. -/
theorem retarget_cap (b : Block) : b.retarget.get uClk F.CLK.PSTATE_CAP = b.get uClk F.CLK.PSTATE_CAP := by
  rw [retarget_eq]
  cases h : b.targeted.pstateStays with
  | true => rw [pstateStart_stays h, get_targeted b (by decide)]
  | false => rw [(pstateStart_starts h).2.2 _ (by decide) (by decide), get_targeted b (by decide)]

/-- CAP one state faster, and the period begun anew. -/
def relaxed (b : Block) (cap : Nat) : Block :=
  { (b.set uClk F.CLK.PSTATE_CAP cap).set uThm F.THM.FLAGS_RELAX_STEP 1 with
    thm := { b.thm with relaxFrom := some b.lt } }

theorem relaxed_cap (b : Block) {cap : Nat} (hcap : cap < 4) : (b.relaxed cap).get uClk F.CLK.PSTATE_CAP = cap :=
  (get_set_apart _ (by decide) 1).trans ((get_set_same b uClk (by decide) cap).trans (Nat.mod_eq_of_lt hcap))

theorem relaxStep_due {b : Block} {a : Nat} (hfrom : b.thm.relaxFrom = some a) (hcap : 0 < b.get uClk F.CLK.PSTATE_CAP)
    (hlong : b.get uThm F.THM.TIMING_RELAX * 1000000000 ≤ b.since a) : b.relaxStep =
      ((b.relaxed (b.get uClk F.CLK.PSTATE_CAP - 1)).alarm 3 (b.get uClk F.CLK.PSTATE_CAP - 1) 0 0).retarget := by
  rw [relaxStep, hfrom]
  exact if_pos ⟨hcap, hlong⟩

theorem relaxStep_lowers {b : Block} {a : Nat} (hfrom : b.thm.relaxFrom = some a) (hcap : 0 < b.get uClk F.CLK.PSTATE_CAP)
    (hlong : b.get uThm F.THM.TIMING_RELAX * 1000000000 ≤ b.since a) :
    b.relaxStep.get uClk F.CLK.PSTATE_CAP = b.get uClk F.CLK.PSTATE_CAP - 1 ∧ b.relaxStep.thm.relaxFrom = some b.lt := by
  have hlt : b.get uClk F.CLK.PSTATE_CAP - 1 < 4 := (Nat.sub_le ..).trans_lt (b.getI_lt uClk F.CLK.PSTATE_CAP 0)
  rw [relaxStep_due hfrom hcap hlong]
  exact ⟨by rw [retarget_cap, get_alarm_clk _ (by decide), relaxed_cap b hlt], by rw [retarget_thm, alarm_thm, relaxed]⟩

end Block

/-- Settles O33: each service under its own condition. -/
theorem thermalServices : Obligations.ThermalServices := by
  intro s dt hup b
  have hworks : b.thmWorks = true := Block.thmWorks_cored hup
  refine ⟨fun results => ?conversion, fun k hk hlong => ?timeout, fun a hfrom hreq hlong hzones => ?grace,
    fun a hfrom hcap hlong => ?relax⟩
  case conversion =>
    refine ⟨_, State.exec_run (exec_thmConversion ..) (Block.thmConversion_works hworks results), ?_⟩
    intro k hk r hr temp
    obtain ⟨t, ht, hshows⟩ := b.converted_shows hk hr
    have htemp : r + t.getSI uCal F.CAL.THM_OFS_OFS k = temp := by rw [Block.ofs_of_sensorRegs ht]
    refine ⟨fun hgood hlo hhi => ?_, fun hout => ?_⟩
    · rw [Block.getSI_of_sensorRegs hshows]
      exact Block.sensorResult_temp htemp ((Block.onI_of_sensorRegs ht).trans hgood) hlo hhi
    · rw [Block.onI_of_sensorRegs hshows, Block.sensorResult_out (htemp ▸ hout)]
      exact t.sensorBreak_breaks hk
  case timeout =>
    have hexec := State.exec_run (exec_sensorTimeout dt k s) (Block.sensorTimeout_due hk hworks hlong)
    refine ⟨fun ⟨i, hi, hne, hleft⟩ => ?left, fun hnone => ?lost⟩
    case left =>
      have hzone : ¬ (b.timedOut k).zoneLost (k / 4) = true := fun h => by
        rw [(b.timedOut_zoneLost hk).1 h i hi hne] at hleft
        cases hleft
      rw [if_neg hzone] at hexec
      exact ⟨_, hexec, b.timedOut_breaks hk, by rw [b.timedOut_boot, Block.cored_hold hup]⟩
    case lost =>
      rw [if_pos ((b.timedOut_zoneLost hk).2 hnone)] at hexec
      exact ⟨_, hexec, Block.shutdown_latched ..⟩
  case grace =>
    have hexec := hup.exec_next (exec_graceExpired dt s) (Block.graceExpired_due hfrom hreq hlong)
    rw [Block.capStep_none (b.graceDone_zoneAt.trans hzones)] at hexec
    exact ⟨_, hexec, Block.get_set_same b uThm (by decide) 1, rfl, Block.get_set_apart b (by decide) 1⟩
  case relax =>
    exact ⟨_, hup.exec_next (exec_relaxStep dt s) rfl, Block.relaxStep_lowers hfrom hcap hlong⟩

end Sys2Proof.Machine

/-! # Bring-up of the serial ports (R145-R154) -/

namespace Sys2Proof.Machine

/-- Registers at different offsets of their windows, whatever the units. -/
theorem regKey_ne_of_off {u u' : UnitId} {off off' : Nat} (ho : off < 0x4000) (ho' : off' < 0x4000) (h : off ≠ off') :
    regKey u off ≠ regKey u' off' := by
  unfold regKey
  omega

/-- One bit a lane, each at the place of its lane. -/
theorem bit_sumN_lanes {L : List Nat} (hL : L = [0] ∨ L = List.range 4) {x : Nat → Nat} (hx : ∀ l < 4, x l < 2) {l : Nat}
    (hl : l ∈ L) : bit (sumN (L.map fun l => x l * 2 ^ l) % 2 ^ 4) l = (x l == 1) := by
  have h0 := hx 0 (by omega)
  have h1 := hx 1 (by omega)
  have h2 := hx 2 (by omega)
  have h3 := hx 3 (by omega)
  refine congrArg (· == 1) ?_
  rcases hL with rfl | rfl
  · obtain rfl := List.mem_singleton.1 hl
    simp [sumN]
    omega
  · have hl4 := List.mem_range.1 hl
    interval_cases l <;> simp [sumN, List.range, List.range.loop] <;> omega

namespace Block

/-! ## Work at the lanes leaves the registers of the ports -/

/-- Every register of SERDES reads as before. -/
def keepsPorts (b t : Block) : Prop := ∀ off < 0x4000, t.rd uSerdes off = b.rd uSerdes off

theorem keepsPorts_of_regs {b t : Block} (h : t.regs = b.regs) : b.keepsPorts t := fun off _ => rd_congr h uSerdes off

theorem keepsPorts.trans {a b t : Block} (h : a.keepsPorts b) (h' : b.keepsPorts t) : a.keepsPorts t :=
  fun off ho => (h' off ho).trans (h off ho)

theorem keepsPorts.getI {b t : Block} (h : b.keepsPorts t) {f : Field} {i : Nat} (hf : f.at i < 0x4000) :
    t.getI uSerdes f i = b.getI uSerdes f i := getI_of_rd (h _ hf)

theorem keepsPorts_foldl {α : Type} {f : Block → α → Block} (l : List α) (h : ∀ a ∈ l, ∀ t : Block, t.keepsPorts (f t a))
    (b : Block) : b.keepsPorts (l.foldl f b) := fun off ho => rd_foldl l (fun a ha t => h a ha t off ho) b

theorem keepsPorts_setLane (b : Block) {i : Nat} (hi : i < 256) {f : Field} (hf : f.at 0 < 0x4000) (v : Nat) :
    b.keepsPorts (b.set (uLane i) f v) := fun _ ho =>
  rd_setI_unit b (fun h => UnitType.noConfusion (congrArg UnitId.ty h)) hi (by decide) hf ho v

theorem stat_at_lt {f : Field} (hf : f.off < 0x3000 ∧ f.stride = 4) {p : Nat} (hp : p < 16) : f.at p < 0x4000 := by
  simp only [Field.at, hf]
  omega

theorem keepsPorts.portState {b t : Block} (h : b.keepsPorts t) {p : Nat} (hp : p < 16) : t.portState p = b.portState p :=
  h.getI (stat_at_lt (by decide) hp)

/-- Two fields of the register that shows a port's bring-up (R165). -/
theorem getI_setI_stat (b : Block) {f g : Field} (hf : f.off = 0x140 ∧ f.stride = 4) (hg : g.off = 0x140 ∧ g.stride = 4)
    (hbits : f.lo ≤ f.hi ∧ f.hi < 32) (h : g.hi < f.lo ∨ f.hi < g.lo) (p v : Nat) :
    (b.setI uSerdes f p v).getI uSerdes g p = b.getI uSerdes g p :=
  getI_setI_bits b uSerdes (by simp [Field.at, hf, hg]) hbits h.symm v

section
variable {p : Nat} (hp : p < 16)
include hp

theorem keepsPorts_setLanes (b : Block) {f : Field} (hf : f.at 0 < 0x4000) (v : Nat) : b.keepsPorts (b.setLanes p f v) :=
  keepsPorts_foldl _ (fun _ hl t => t.keepsPorts_setLane (by have := portLanes_lt hl; omega) hf v) b

theorem keepsPorts_setLanesBy (b : Block) {f : Field} (hf : f.at 0 < 0x4000) (vs : List Nat) :
    b.keepsPorts (b.setLanesBy p f vs) :=
  keepsPorts_foldl _ (fun _ hl t => t.keepsPorts_setLane (by have := portLanes_lt hl; omega) hf _) b

theorem keepsPorts_setTaps (b : Block) (pre main post : Nat) : b.keepsPorts (b.setTaps p pre main post) :=
  ((b.keepsPorts_setLanes hp (by decide) pre).trans (keepsPorts_setLanes hp _ (by decide) main)).trans
    (keepsPorts_setLanes hp _ (by decide) post)

theorem keepsPorts_clause72Init (b : Block) : b.keepsPorts (b.clause72Init p) :=
  (b.keepsPorts_setTaps hp _ _ _).trans (keepsPorts_of_regs rfl)

theorem keepsPorts_ctleStart (b : Block) : b.keepsPorts (b.ctleStart p) := by
  refine keepsPorts_foldl _ (fun e _ t => ?_) b
  split
  · next h =>
    have he : e.1 / 4 = p := by simpa using And.right (Bool.and_eq_true_iff.1 h)
    exact t.keepsPorts_setLane (by omega) (by decide) _
  · exact keepsPorts_of_regs rfl

theorem keepsPorts_lanesTrained (b : Block) (eq : List (Nat × Nat × Nat × Nat)) : b.keepsPorts (b.lanesTrained p eq) := by
  unfold lanesTrained
  extract_lets s
  refine keepsPorts.trans (b := s) ?_ (s.keepsPorts_setLanesBy hp (by decide) _)
  unfold s
  split
  · exact keepsPorts_of_regs rfl
  · exact ((b.keepsPorts_setLanesBy hp (by decide) _).trans (keepsPorts_setLanesBy hp _ (by decide) _)).trans
      (keepsPorts_setLanesBy hp _ (by decide) _)

/-! ## A port passes from one state to another, neither of them UP -/

/-- What is found on a port's lanes is forgotten; what else its register shows is kept. -/
theorem getI_portClear (b : Block) {g : Field} (ho : g.off = 0x140 ∧ g.stride = 4) (hup : g.hi < 4 ∨ 7 < g.lo)
    (hfec : g.hi < 20 ∨ 20 < g.lo) : (b.portClear p).getI uSerdes g p = b.getI uSerdes g p := by
  have hg : g.at p < 0x4000 := stat_at_lt (by omega) hp
  have hlanes (t : Block) {f : Field} (hf : f.at 0 < 0x4000) : (t.setLanes p f 0).getI uSerdes g p = t.getI uSerdes g p :=
    (t.keepsPorts_setLanes hp hf 0).getI hg
  unfold portClear
  dsimp only
  rw [getI_congr (sidLanes_regs ..), hlanes _ (by decide), hlanes _ (by decide), hlanes _ (by decide),
    getI_setI_stat _ (by decide) ho (by decide) hfec, getI_setI_stat _ (by decide) ho (by decide) hup]

/-- The entry into a state changes LANES_UP and FEC_LOCK at most in the port's register. -/
theorem getI_portEnter (b : Block) (st : Nat) {g : Field} (ho : g.off = 0x140 ∧ g.stride = 4) (hup : g.hi < 4 ∨ 7 < g.lo)
    (hfec : g.hi < 20 ∨ 20 < g.lo) : (b.portEnter p st).getI uSerdes g p = b.getI uSerdes g p := by
  have hg : g.at p < 0x4000 := stat_at_lt (by omega) hp
  unfold portEnter
  extract_lets s₁ s₂ s₃
  have h₁ : s₁.getI uSerdes g p = b.getI uSerdes g p := by
    unfold s₁
    split
    · exact getI_portClear hp b ho hup hfec
    · rfl
  have h₂ : s₂.getI uSerdes g p = s₁.getI uSerdes g p := by
    unfold s₂
    split
    · exact (s₁.keepsPorts_setTaps hp _ _ _).getI hg
    · rfl
  have h₃ : s₃.getI uSerdes g p = s₂.getI uSerdes g p := by
    unfold s₃
    split
    · exact (s₂.keepsPorts_clause72Init hp).getI hg
    · rfl
  rw [← h₁, ← h₂, ← h₃]
  split
  · rw [getI_congr (sidLanes_regs ..), getI_setI_stat _ (by decide) ho (by decide) hup]
  · rfl

omit hp in
/-- No link comes up or goes down. -/
theorem portGo_quiet {b : Block} (hold : b.portState p ≠ 8) {st : Nat} (hst : st ≠ 8) :
    ∃ t : Block, t.regs = (b.setI uSerdes F.SERDES.PORT_STAT_STATE p st).regs ∧ b.portGo p st =
      if st = 0 then (t.portEnter p st).ctleArm p else if st = 1 then (t.portEnter p st).ctleStart p else t.portEnter p st := by
  unfold portGo
  rw [if_neg (by simp [hst]), if_neg (by simp [hold])]
  exact ⟨_, by dsimp only, rfl⟩

theorem getI_portGo_entered {b : Block} (hold : b.portState p ≠ 8) {st : Nat} (hst : st ≠ 8) {g : Field}
    (ho : g.off = 0x140 ∧ g.stride = 4) (hup : g.hi < 4 ∨ 7 < g.lo) (hfec : g.hi < 20 ∨ 20 < g.lo) :
    (b.portGo p st).getI uSerdes g p = (b.setI uSerdes F.SERDES.PORT_STAT_STATE p st).getI uSerdes g p := by
  obtain ⟨t, ht, hgo⟩ := portGo_quiet hold hst
  rw [hgo, ← getI_congr ht, ← getI_portEnter hp t st ho hup hfec]
  split
  · exact getI_congr (ctleArm_regs ..) ..
  · split
    · exact (keepsPorts_ctleStart hp _).getI (stat_at_lt (by omega) hp)
    · rfl

/-- The port is in the state it passes to. -/
theorem portState_portGo {b : Block} (hold : b.portState p ≠ 8) {st : Nat} (hst : st ≠ 8) (hlt : st < 16) :
    (b.portGo p st).portState p = st := by
  rw [portState, getI_portGo_entered hp hold hst (by decide) (by decide) (by decide), getI_setI_same _ _ _ _ _ (by decide)]
  exact Nat.mod_eq_of_lt hlt

/-- What a port's register shows besides the state and the lanes' indications is kept. -/
theorem getI_portGo {b : Block} (hold : b.portState p ≠ 8) {st : Nat} (hst : st ≠ 8) {g : Field}
    (ho : g.off = 0x140 ∧ g.stride = 4) (hup : 7 < g.lo) (hfec : g.hi < 20 ∨ 20 < g.lo) :
    (b.portGo p st).getI uSerdes g p = b.getI uSerdes g p := by
  rw [getI_portGo_entered hp hold hst ho (.inr hup) hfec,
    getI_setI_stat _ (by decide) ho (by decide) (.inr ((by decide : F.SERDES.PORT_STAT_STATE.hi < 7).trans hup))]

end

/-! ## What the registers of a port's lanes show -/

theorem laneOf_inst_lt {p l : Nat} (hp : p < 16) (hl : l < 4) : (laneOf p l).inst < 256 := by
  change 4 * p + l < 256
  omega

theorem laneOf_inj {p l m : Nat} (h : laneOf p l = laneOf p m) : l = m := by
  have : 4 * p + l = 4 * p + m := congrArg UnitId.inst h
  omega

theorem laneOf_ne_serdes (p l : Nat) : laneOf p l ≠ uSerdes := fun h => UnitType.noConfusion (congrArg UnitId.ty h)

theorem portLanes_eq (b : Block) (p : Nat) : b.portLanes p = [0] ∨ b.portLanes p = List.range 4 := by
  unfold portLanes
  split
  · exact .inl rfl
  · exact .inr rfl

theorem portLanes_nodup (b : Block) (p : Nat) : (b.portLanes p).Nodup := by
  rcases b.portLanes_eq p with h | h <;> rw [h] <;> decide

/-- A field of another lane of the port. -/
theorem get_set_laneOf (b : Block) {p l m : Nat} (hp : p < 16) (hl : l < 4) (hm : m < 4) (h : m ≠ l) {f g : Field}
    (hf : f.at 0 < 0x4000) (hg : g.at 0 < 0x4000) (v : Nat) :
    (b.set (laneOf p m) f v).get (laneOf p l) g = b.get (laneOf p l) g :=
  getI_setI_unit b (fun e => h (laneOf_inj e).symm) (laneOf_inst_lt hp hm) (laneOf_inst_lt hp hl) hf hg v

/-- A field at another offset, of any unit. -/
theorem get_set_off (b : Block) {u u' : UnitId} {f g : Field} (hf : f.at 0 < 0x4000) (hg : g.at 0 < 0x4000)
    (h : g.at 0 ≠ f.at 0) (v : Nat) : (b.set u f v).get u' g = b.get u' g :=
  getI_setI_reg b (regKey_ne_of_off hg hf h) v

/-- Every used lane shows what was set. -/
theorem get_setLanes (b : Block) {p : Nat} (hp : p < 16) {f : Field} (hf : f.at 0 < 0x4000) (hbits : f.lo ≤ f.hi ∧ f.hi < 32)
    (v : Nat) {l : Nat} (hl : l ∈ b.portLanes p) : (b.setLanes p f v).get (laneOf p l) f = v % 2 ^ f.width :=
  foldl_once (fun t : Block => t.get (laneOf p l) f) (fun _ => v % 2 ^ f.width) (b.portLanes_nodup p) hl
    (fun _ hm hne t => get_set_laneOf t hp (portLanes_lt hl) (portLanes_lt hm) hne hf hf v)
    (fun t => get_set_same t (laneOf p l) hbits v) b

/-- A field at another offset is not touched. -/
theorem get_setLanes_off (b : Block) {p : Nat} {u : UnitId} {f g : Field} (hf : f.at 0 < 0x4000) (hg : g.at 0 < 0x4000)
    (h : g.at 0 ≠ f.at 0) (v : Nat) : (b.setLanes p f v).get u g = b.get u g :=
  getI_foldl _ (fun _ _ t => get_set_off t hf hg h v) b

/-- The passage to CDR, TRAIN or ADAPT leaves what the lanes' receivers have shown. -/
theorem get_portGo_lane {b : Block} {p : Nat} (hp : p < 16) (hold : b.portState p ≠ 8) {st : Nat} (hst : 1 < st ∧ st < 5)
    {l : Nat} (hl : l < 4) {g : Field} (hg : g.at 0 < 0x4000) (heq : g.at 0 ≠ 0x104) :
    (b.portGo p st).get (laneOf p l) g = b.get (laneOf p l) g := by
  obtain ⟨t, ht, hgo⟩ := portGo_quiet hold (show st ≠ 8 by omega)
  have hb : t.get (laneOf p l) g = b.get (laneOf p l) g := (get_congr ht ..).trans
    (getI_setI_unit b (laneOf_ne_serdes p l) (by decide) (laneOf_inst_lt hp hl) (stat_at_lt (by decide) hp) hg st)
  have htaps (pre main post : Nat) : (t.setTaps p pre main post).get (laneOf p l) g = t.get (laneOf p l) g := by
    rw [setTaps, get_setLanes_off (f := F.LANE.EQ_POST) _ (by decide) hg heq,
      get_setLanes_off (f := F.LANE.EQ_MAIN) _ (by decide) hg heq, get_setLanes_off (f := F.LANE.EQ_PRE) _ (by decide) hg heq]
  have henter : t.portEnter p st = if st = 3 ∧ t.copperTrain p = true then t.clause72Init p else t := by
    simp [portEnter, show st ≠ 0 ∧ st ≠ 9 ∧ st ≠ 1 ∧ st ≠ 5 by omega]
  rw [hgo, if_neg (by omega), if_neg (by omega), henter, ← hb]
  split
  · exact (getI_took ..).trans (htaps ..)
  · rfl

/-! ## Steps of the bring-up -/

theorem portLate_of_none {b : Block} {p : Nat} (h : b.portTimeout p = none) : b.portLate p = false := by rw [portLate, h]

/-- SIGNAL, CHECK, UP and HOLDOFF have no timeout (R147). -/
theorem portTimeout_none {b : Block} {p st : Nat} (h : b.portState p = st) (hst : st < 2 ∨ 6 < st) :
    b.portTimeout p = none := by
  unfold portTimeout
  split
  case h_6 => rfl
  all_goals omega

theorem portStep_inTime {b : Block} {p st : Nat} (hp : p < 16) (h : b.portState p = st) (hlate : b.portLate p = false)
    (k : Block → Block) : b.portStep p st k = k b := by simp [portStep, hp, h, hlate]

theorem portStep_late {b : Block} {p st : Nat} (hp : p < 16) (h : b.portState p = st) (hlate : b.portLate p = true)
    (k : Block → Block) : b.portStep p st k = b.portGo p 9 := by simp [portStep, hp, h, hlate]

theorem portStep_untimed {b : Block} {p st : Nat} (hp : p < 16) (h : b.portState p = st) (hst : st < 2 ∨ 6 < st)
    (k : Block → Block) : b.portStep p st k = k b := portStep_inTime hp h (portLate_of_none (portTimeout_none h hst)) k

theorem bringupTimeout_due {b : Block} {p t : Nat} (hp : p < 16) (ht : b.portTimeout p = some t) (hold : t ≤ b.portAge p) :
    b.bringupTimeout p = b.portGo p 9 := by
  rw [bringupTimeout, ht]
  exact if_pos ⟨hp, hold⟩

/-! ### SIGNAL and CDR -/

theorem signalQualified_due {b : Block} {p : Nat} (hp : p < 16) (h : b.portState p = 1)
    (hlong : (if sidias p then 10000 else 100000) ≤ b.portAge p) :
    b.signalQualified p = (b.setLanes p F.LANE.STAT_SIG_DET 1).portGo p 2 :=
  (portStep_untimed hp h (by decide) _).trans (if_neg (Nat.not_lt.2 hlong))

theorem signalQualified_early {b : Block} {p : Nat} (hp : p < 16) (h : b.portState p = 1)
    (hshort : b.portAge p < if sidias p then 10000 else 100000) : b.signalQualified p = b :=
  (portStep_untimed hp h (by decide) _).trans (if_pos hshort)

/-- A port that marks its lanes and passes on shows the mark on every used lane. -/
theorem markedLanes_portGo {b : Block} {p st : Nat} (hp : p < 16) (hold : b.portState p ≠ 8) (hst : 1 < st ∧ st < 5) {f : Field}
    (hf : f.off = 0x100 ∧ f.stride = 0) (hbit : f.hi = f.lo ∧ f.hi < 32) :
    ((b.setLanes p f 1).portGo p st).portState p = st ∧
      ∀ l ∈ b.portLanes p, ((b.setLanes p f 1).portGo p st).get (laneOf p l) f = 1 := by
  have hat : f.at 0 = 0x100 := by simp [Field.at, hf]
  have hold' : (b.setLanes p f 1).portState p ≠ 8 := by
    rwa [(b.keepsPorts_setLanes hp (by omega) 1).portState hp]
  refine ⟨portState_portGo hp hold' (by omega) (by omega), fun l hl => ?_⟩
  rw [get_portGo_lane hp hold' hst (portLanes_lt hl) (by omega) (by omega), get_setLanes b hp (by omega) (by omega) 1 hl]
  simp [Field.width, hbit]

/-! ### TRAIN, ADAPT and LOCK -/

theorem trainingComplete_ready {b : Block} {p : Nat} (hp : p < 16) (h : b.portState p = 3) (hlate : b.portLate p = false)
    (hready : if sidias p then ∀ l < 4, 16 ≤ (b.sidLane p l).readyIn ∧ 16 ≤ (b.sidLane p l).readyOut else b.isRunning = true)
    (eq : List (Nat × Nat × Nat × Nat)) : b.trainingComplete p eq = (b.lanesTrained p eq).portGo p 5 := by
  refine (portStep_inTime hp h hlate _).trans (if_pos ?_)
  split at hready
  · next hs => rw [if_pos hs]; simpa using hready
  · next hs => rwa [if_neg hs]

theorem blockLock_sidias {b : Block} {p : Nat} (hp : p < 16) (h : b.portState p = 5) (hlate : b.portLate p = false)
    (hs : sidias p = true) (seen : List LaneSeen) : b.blockLock p seen =
      if (List.range 4).all fun l => (b.sidLane p l).found then
        (b.setI uSerdes F.SERDES.PORT_STAT_RX_INV p
          (sumN ((List.range 4).map fun l => b.get (laneOf p l) F.LANE.STAT_RX_INV * 2 ^ l))).portGo p 6
      else b := (portStep_inTime hp h hlate _).trans (if_pos hs)

/-- Which of an Ethernet port's lanes are inverted, as what was seen on them tells (R148). -/
def invertedLane (b : Block) (p : Nat) (seen : List LaneSeen) (l : Nat) : Nat :=
  b2n (laneInverted (b.portMode p) (seen.getD l ⟨false, []⟩))

theorem blockLock_ethernet {b : Block} {p : Nat} (hp : p < 16) (h : b.portState p = 5) (hlate : b.portLate p = false)
    (hs : sidias p = false) (seen : List LaneSeen) : b.blockLock p seen =
      ((b.setI uSerdes F.SERDES.PORT_STAT_RX_INV p
        (sumN ((b.portLanes p).map fun l => b.invertedLane p seen l * 2 ^ l))).setLanesBy p F.LANE.STAT_RX_INV
        ((b.portLanes p).map (b.invertedLane p seen))).portGo p 6 := by
  refine (portStep_inTime hp h hlate _).trans ((if_neg (by simp [hs])).trans ?_)
  dsimp only
  rw [← List.map_prod_left_eq_zip, List.map_map]
  rfl

theorem b2n_lt (x : Bool) : b2n x < 2 := by cases x <;> decide

theorem b2n_beq_one (x : Bool) : (b2n x == 1) = x := by cases x <;> rfl

/-- A port that passes to ALIGN with its lanes' polarities shows one bit a lane. -/
theorem rxInv_portGo {b t : Block} {p : Nat} (hp : p < 16) (hold : b.portState p ≠ 8) {x : Nat → Nat} (hx : ∀ l < 4, x l < 2)
    {L : List Nat} (hL : L = [0] ∨ L = List.range 4)
    (ht : (b.setI uSerdes F.SERDES.PORT_STAT_RX_INV p (sumN (L.map fun l => x l * 2 ^ l))).keepsPorts t) :
    (t.portGo p 6).portState p = 6 ∧
      ∀ l ∈ L, bit ((t.portGo p 6).getI uSerdes F.SERDES.PORT_STAT_RX_INV p) l = (x l == 1) := by
  have hold' : t.portState p ≠ 8 := by
    rw [ht.portState hp]
    exact (getI_setI_stat b (by decide) (by decide) (by decide) (by decide) ..).trans_ne hold
  refine ⟨portState_portGo hp hold' (by decide) (by decide), fun l hl => ?_⟩
  rw [getI_portGo hp hold' (by decide) (by decide) (by decide) (by decide), ht.getI (stat_at_lt (by decide) hp),
    getI_setI_same _ _ _ _ _ (by decide)]
  exact bit_sumN_lanes hL hx hl

/-! ### ALIGN -/

/-- The lanes a Sidias port's training frames named, by physical lane (R149, R152). -/
def namedLanes (b : Block) (p : Nat) : List Nat := (List.range 4).map fun l => b.get (laneOf p l) F.LANE.STAT_RX_LOGICAL

theorem alignDone_sidias {b : Block} {p : Nat} (hp : p < 16) (h : b.portState p = 6) (hlate : b.portLate p = false)
    (hs : sidias p = true) (order : List Nat) (fec : Bool) (deskew : Nat) : b.alignDone p order fec deskew =
      if (List.range 4).any fun l => (b.sidLane p l).heard != expectedPeer p then
        (b.setI uSerdes F.SERDES.PORT_STAT_MISWIRE p 1).portGo p 9
      else if fec && (b.namedLanes p).eraseDups.length == 4 && decide (deskew ≤ 45) then
        (b.alignReport p (b.namedLanes p) deskew).portGo p 7
      else b := (portStep_inTime hp h hlate _).trans (if_pos hs)

theorem alignDone_ethernet {b : Block} {p : Nat} (hp : p < 16) (h : b.portState p = 6) (hlate : b.portLate p = false)
    (hs : sidias p = false) (order : List Nat) (fec : Bool) (deskew : Nat) : b.alignDone p order fec deskew =
      if b.fecOn p && !fec then b else (b.alignReport p order deskew).portGo p 8 :=
  (portStep_inTime hp h hlate _).trans (if_neg (by simp [hs]))

theorem alignReport_portState (b : Block) {p : Nat} (hp : p < 16) (order : List Nat) (deskew : Nat) :
    (b.alignReport p order deskew).portState p = b.portState p := by
  unfold alignReport
  extract_lets _ s t
  rw [portState, getI_setI_stat _ (by decide) (by decide) (by decide) (by decide)]
  refine ((t.keepsPorts_setLanesBy hp (by decide) order).portState hp).trans ?_
  exact (getI_setI_stat s (by decide) (by decide) (by decide) (by decide) ..).trans (portState_congr rfl p)

/-- Aligned, the port shows the lock of the FEC it uses. -/
theorem alignReport_fecLock (b : Block) {p : Nat} (hp : p < 16) (order : List Nat) (deskew : Nat) :
    (b.alignReport p order deskew).getI uSerdes F.SERDES.PORT_STAT_FEC_LOCK p = b2n (b.fecOn p) := by
  unfold alignReport
  extract_lets _ s t
  have hcfg {g : Field} (hg : g.off = 0x100 ∧ g.stride = 4 ∧ g.count = 16) : t.getI uSerdes g p = b.getI uSerdes g p :=
    (getI_setI_range s uSerdes hp (hg.2.2.symm ▸ hp) (by simp [hg, F.SERDES.PORT_STAT_RX_ORDER]) _).trans (getI_congr rfl ..)
  have hfec : t.fecOn p = b.fecOn p := by
    rw [fecOn, fecOn, portMode, portMode, hcfg (by decide), hcfg (by decide)]
  rw [getI_setI_same _ _ _ _ _ (by decide), hfec]
  exact Nat.mod_eq_of_lt (b2n_lt _)

/-! ### CHECK -/

theorem laneFigures_off (b : Block) (u u' : UnitId) (h w loss : Nat) {g : Field} (hg : g.at 0 < 0x4000)
    (hoff : g.at 0 < 0x100 ∨ 0x10c < g.at 0) : (b.laneFigures u h w loss).get u' g = b.get u' g := by
  have hset (t : Block) {f : Field} (hf : 0x100 ≤ f.at 0 ∧ f.at 0 ≤ 0x10c) (v : Nat) : (t.set u f v).get u' g = t.get u' g :=
    get_set_off t (by omega) hg (by omega) v
  rw [laneFigures, hset _ (by decide), hset _ (by decide), hset _ (by decide), hset _ (by decide)]

theorem laneFigures_eye (b : Block) (u : UnitId) (h w loss : Nat) :
    (b.laneFigures u h w loss).get u F.LANE.EYE_HEIGHT = h % 2 ^ F.LANE.EYE_HEIGHT.width ∧
    (b.laneFigures u h w loss).get u F.LANE.EYE_WIDTH = w % 2 ^ F.LANE.EYE_WIDTH.width ∧
    (b.laneFigures u h w loss).get u F.LANE.LOSS_EST = Nat.min 255 loss ∧
    (b.laneFigures u h w loss).get u F.LANE.STAT_EYE_VALID = 1 := by
  have happart (t : Block) {f g : Field} (hf : f.single) (hg : g.single) (hfg : g.off ≠ f.off) (v : Nat) :
      (t.set u f v).get u g = t.get u g :=
    get_set_off t (by simp [Field.at, hf.2.1, hf.1]) (by simp [Field.at, hg.2.1, hg.1]) (by simp [Field.at, hfg, hf.1, hg.1]) v
  have hwidth (t : Block) (v : Nat) : (t.set u F.LANE.EYE_WIDTH v).get u F.LANE.EYE_HEIGHT = t.get u F.LANE.EYE_HEIGHT :=
    getI_setI_field t u 0 (by decide) v
  unfold laneFigures
  refine ⟨?_, ?_, ?_, ?_⟩
  · rw [happart _ (by decide) (by decide) (by decide), happart _ (by decide) (by decide) (by decide), hwidth,
      get_set_same _ _ (by decide)]
  · rw [happart _ (by decide) (by decide) (by decide), happart _ (by decide) (by decide) (by decide),
      get_set_same _ _ (by decide)]
  · rw [happart _ (by decide) (by decide) (by decide), get_set_same _ _ (by decide)]
    exact Nat.mod_eq_of_lt (Nat.lt_succ_of_le (Nat.min_le_left 255 loss))
  · rw [get_set_same _ _ (by decide)]
    rfl

/-- A lane shows the figures of its port's fast eye scan (R154). -/
def scanLane (p : Nat) (figs : List (Nat × Nat × Nat)) (b : Block) (l : Nat) : Block :=
  b.laneFigures (laneOf p l) (figs.getD l (0, 0, 255)).1 (figs.getD l (0, 0, 255)).2.1 (figs.getD l (0, 0, 255)).2.2

/-- Every lane of a Sidias port has been scanned. -/
def eyeScanned (b : Block) (p : Nat) (figs : List (Nat × Nat × Nat)) : Block := (List.range 4).foldl (scanLane p figs) b

/-- A lane's eye and loss are within the limits (R154). -/
abbrev figGood (b : Block) (fig : Nat × Nat × Nat) : Prop :=
  b.get uSerdes F.SERDES.LINK_CFG_SID_EYE_MIN ≤ fig.1 % 2 ^ F.LANE.EYE_HEIGHT.width ∧
    Nat.min 255 fig.2.2 ≤ b.get uSerdes F.SERDES.LINK_CFG_SID_LOSS_MAX

theorem keepsPorts_laneFigures (b : Block) {i : Nat} (hi : i < 256) (h w loss : Nat) :
    b.keepsPorts (b.laneFigures (uLane i) h w loss) :=
  (((b.keepsPorts_setLane hi (by decide) h).trans (keepsPorts_setLane _ hi (by decide) w)).trans
    (keepsPorts_setLane _ hi (by decide) _)).trans (keepsPorts_setLane _ hi (by decide) 1)

/-- The scan of a lane leaves the figures of the others. -/
theorem scanLane_other (b : Block) {p l m : Nat} (hp : p < 16) (hl : l < 4) (hm : m < 4) (hne : m ≠ l)
    (figs : List (Nat × Nat × Nat)) {g : Field} (hg : g.at 0 < 0x4000) :
    (scanLane p figs b m).get (laneOf p l) g = b.get (laneOf p l) g := by
  have hset (t : Block) {f : Field} (hf : f.at 0 < 0x4000) (v : Nat) :
      (t.set (laneOf p m) f v).get (laneOf p l) g = t.get (laneOf p l) g := get_set_laneOf t hp hl hm hne hf hg v
  rw [scanLane, laneFigures, hset _ (by decide), hset _ (by decide), hset _ (by decide), hset _ (by decide)]

theorem keepsPorts_eyeScanned (b : Block) {p : Nat} (hp : p < 16) (figs : List (Nat × Nat × Nat)) :
    b.keepsPorts (b.eyeScanned p figs) :=
  keepsPorts_foldl _ (fun _ hl t => t.keepsPorts_laneFigures (by have := List.mem_range.1 hl; omega) _ _ _) b

/-- After the scan each lane shows its own figures. -/
theorem eyeScanned_shows (b : Block) {p l : Nat} (hp : p < 16) (hl : l < 4) (figs : List (Nat × Nat × Nat)) {g : Field}
    (hg : g.at 0 < 0x4000) {v : Nat} (hself : ∀ t : Block, (scanLane p figs t l).get (laneOf p l) g = v) :
    (b.eyeScanned p figs).get (laneOf p l) g = v :=
  foldl_once (fun t : Block => t.get (laneOf p l) g) (fun _ => v) List.nodup_range (List.mem_range.2 hl)
    (fun _ hm hne t => t.scanLane_other hp hl (List.mem_range.1 hm) hne figs hg) hself b

theorem eyeScanned_eye (b : Block) {p l : Nat} (hp : p < 16) (hl : l < 4) (figs : List (Nat × Nat × Nat)) :
    (b.eyeScanned p figs).get (laneOf p l) F.LANE.EYE_HEIGHT = (figs.getD l (0, 0, 255)).1 % 2 ^ F.LANE.EYE_HEIGHT.width :=
  b.eyeScanned_shows hp hl figs (by decide) fun t => (t.laneFigures_eye ..).1

theorem eyeScanned_loss (b : Block) {p l : Nat} (hp : p < 16) (hl : l < 4) (figs : List (Nat × Nat × Nat)) :
    (b.eyeScanned p figs).get (laneOf p l) F.LANE.LOSS_EST = Nat.min 255 (figs.getD l (0, 0, 255)).2.2 :=
  b.eyeScanned_shows hp hl figs (by decide) fun t => (t.laneFigures_eye ..).2.2.1

theorem linkCheck_early {b : Block} {p : Nat} (hp : p < 16) (h : b.portState p = 7) (hearly : b.portAge p < 20000)
    (figs : List (Nat × Nat × Nat)) : b.linkCheck p figs = b := (portStep_untimed hp h (by decide) _).trans (if_pos hearly)

/-- The limits are read beside the figures just scanned. -/
theorem eyeScanned_within (b : Block) {p l : Nat} (hp : p < 16) (hl : l < 4) (figs : List (Nat × Nat × Nat)) :
    (decide ((b.eyeScanned p figs).get uSerdes F.SERDES.LINK_CFG_SID_EYE_MIN ≤
        (b.eyeScanned p figs).get (laneOf p l) F.LANE.EYE_HEIGHT) &&
      decide ((b.eyeScanned p figs).get (laneOf p l) F.LANE.LOSS_EST ≤
        (b.eyeScanned p figs).get uSerdes F.SERDES.LINK_CFG_SID_LOSS_MAX)) = true ↔ b.figGood (figs.getD l (0, 0, 255)) := by
  have hlimit {f : Field} (hf : f.at 0 < 0x4000) : (b.eyeScanned p figs).get uSerdes f = b.get uSerdes f :=
    (b.keepsPorts_eyeScanned hp figs).getI hf
  rw [Bool.and_eq_true, decide_eq_true_iff, decide_eq_true_iff, b.eyeScanned_eye hp hl, b.eyeScanned_loss hp hl,
    hlimit (by decide), hlimit (by decide)]

theorem linkCheck_due {b : Block} {p : Nat} (hp : p < 16) (h : b.portState p = 7) (hdue : 20000 ≤ b.portAge p)
    (figs : List (Nat × Nat × Nat)) : b.linkCheck p figs =
      if (List.range 4).all fun l => decide (b.figGood (figs.getD l (0, 0, 255))) then
        ((b.eyeScanned p figs).setI uSerdes F.SERDES.PORT_STAT_LOSS_HIGH p 0).portGo p 8
      else ((b.eyeScanned p figs).setI uSerdes F.SERDES.PORT_STAT_LOSS_HIGH p 1).portGo p 9 := by
  refine (portStep_untimed hp h (by decide) _).trans ((if_neg (Nat.not_lt.2 hdue)).trans (if_congr ?_ rfl rfl))
  rw [List.all_eq_true, List.all_eq_true]
  exact forall₂_congr fun l hl => (b.eyeScanned_within hp (List.mem_range.1 hl) figs).trans decide_eq_true_iff.symm

/-- A port that shows a judgement of its lanes is in the state it was in. -/
theorem portState_lossHigh (b : Block) (p v : Nat) :
    (b.setI uSerdes F.SERDES.PORT_STAT_LOSS_HIGH p v).portState p = b.portState p := by
  rw [portState, getI_setI_stat _ (by decide) (by decide) (by decide) (by decide), portState]

theorem lossHigh_shown (b : Block) (p : Nat) {v : Nat} (hv : v < 2) :
    (b.setI uSerdes F.SERDES.PORT_STAT_LOSS_HIGH p v).getI uSerdes F.SERDES.PORT_STAT_LOSS_HIGH p = v :=
  (getI_setI_same _ _ _ _ _ (by decide)).trans (Nat.mod_eq_of_lt hv)

theorem holdoffExpired_due {b : Block} {p : Nat} (hp : p < 16) (h : b.portState p = 9)
    (hdue : (if sidias p then 50000 else b.get uSerdes F.SERDES.LINK_CFG_HOLDOFF_MS * 1000000) ≤ b.portAge p) :
    b.holdoffExpired p = b.portGo p 1 := by
  unfold holdoffExpired
  extract_lets t
  rw [portStep_untimed hp h (by decide), if_pos hdue]

/-- A bring-up state that times out is none of UP and HOLDOFF (R147). -/
theorem portState_of_timeout {b : Block} {p t : Nat} (h : b.portTimeout p = some t) : b.portState p ≠ 8 := fun h8 => by
  rw [portTimeout_none h8 (by decide)] at h
  cases h

/-! ### Each event in its state -/

section
variable {b : Block} {p : Nat} (hp : p < 16)
include hp

theorem portEnable_starts (h : b.portState p = 0) (hmay : b.portMayStart p = true) : (b.portEnable p).portState p = 1 := by
  rw [portEnable, if_pos ⟨h, hmay⟩]
  exact portState_portGo hp (h.trans_ne (by decide)) (by decide) (by decide)

theorem signalQualified_passes (h : b.portState p = 1) (hlong : (if sidias p then 10000 else 100000) ≤ b.portAge p) :
    (b.signalQualified p).portState p = 2 ∧
      ∀ l ∈ b.portLanes p, (b.signalQualified p).get (laneOf p l) F.LANE.STAT_SIG_DET = 1 := by
  rw [signalQualified_due hp h hlong]
  exact markedLanes_portGo hp (h.trans_ne (by decide)) (by decide) (by decide) (by decide)

theorem cdrLocked_passes (h : b.portState p = 2) (hlate : b.portLate p = false) :
    (b.cdrLocked p).portState p = (if sidias p || b.copperTrain p then 3 else 4) ∧
      ∀ l ∈ b.portLanes p, (b.cdrLocked p).get (laneOf p l) F.LANE.STAT_CDR_LOCK = 1 := by
  rw [cdrLocked, portStep_inTime hp h hlate]
  exact markedLanes_portGo hp (h.trans_ne (by decide)) (by split <;> decide) (by decide) (by decide)

theorem trainingComplete_passes (h : b.portState p = 3) (hlate : b.portLate p = false)
    (hready : if sidias p then ∀ l < 4, 16 ≤ (b.sidLane p l).readyIn ∧ 16 ≤ (b.sidLane p l).readyOut else b.isRunning = true)
    (eq : List (Nat × Nat × Nat × Nat)) : (b.trainingComplete p eq).portState p = 5 := by
  rw [trainingComplete_ready hp h hlate hready]
  exact portState_portGo hp (((b.keepsPorts_lanesTrained hp eq).portState hp).trans_ne (h.trans_ne (by decide))) (by decide)
    (by decide)

theorem adaptConverged_passes (h : b.portState p = 4) (hlate : b.portLate p = false) (ctle : List Nat) :
    (b.adaptConverged p ctle).portState p = 5 := by
  have hkept := (b.keepsPorts_setLanesBy hp (f := F.LANE.EQ_CTLE) (by decide) ctle).portState hp
  rw [adaptConverged, portStep_inTime hp h hlate]
  exact portState_portGo hp (hkept.trans_ne (h.trans_ne (by decide))) (by decide) (by decide)

theorem blockLock_frames (h : b.portState p = 5) (hlate : b.portLate p = false) (hs : sidias p = true)
    (hfound : ∀ l < 4, (b.sidLane p l).found = true) (seen : List LaneSeen) :
    (b.blockLock p seen).portState p = 6 ∧ ∀ l < 4, bit ((b.blockLock p seen).getI uSerdes F.SERDES.PORT_STAT_RX_INV p) l =
      (b.get (laneOf p l) F.LANE.STAT_RX_INV == 1) := by
  obtain ⟨hst, hinv⟩ := rxInv_portGo hp (h.trans_ne (by decide))
    (fun l _ => b.getI_lt (laneOf p l) F.LANE.STAT_RX_INV 0) (.inr rfl) (keepsPorts_of_regs rfl)
  rw [blockLock_sidias hp h hlate hs, if_pos (by simpa using hfound)]
  exact ⟨hst, fun l hl => hinv l (List.mem_range.2 hl)⟩

theorem blockLock_noFrame (h : b.portState p = 5) (hlate : b.portLate p = false) (hs : sidias p = true)
    (hnone : ∃ l < 4, (b.sidLane p l).found = false) (seen : List LaneSeen) : b.blockLock p seen = b :=
  (blockLock_sidias hp h hlate hs seen).trans (if_neg (by simpa using hnone))

theorem blockLock_blocks (h : b.portState p = 5) (hlate : b.portLate p = false) (hs : sidias p = false) (seen : List LaneSeen) :
    (b.blockLock p seen).portState p = 6 ∧ ∀ l ∈ b.portLanes p,
      bit ((b.blockLock p seen).getI uSerdes F.SERDES.PORT_STAT_RX_INV p) l =
        laneInverted (b.portMode p) (seen.getD l ⟨false, []⟩) := by
  obtain ⟨hst, hinv⟩ := rxInv_portGo hp (h.trans_ne (by decide)) (x := b.invertedLane p seen) (fun l _ => b2n_lt _)
    (b.portLanes_eq p) (keepsPorts_setLanesBy hp _ (f := F.LANE.STAT_RX_INV) (by decide)
      ((b.portLanes p).map (b.invertedLane p seen)))
  rw [blockLock_ethernet hp h hlate hs]
  exact ⟨hst, fun l hl => (hinv l hl).trans (b2n_beq_one _)⟩

theorem alignDone_miswired (h : b.portState p = 6) (hlate : b.portLate p = false) (hs : sidias p = true)
    (hwrong : ∃ l < 4, (b.sidLane p l).heard ≠ expectedPeer p) (order : List Nat) (fec : Bool) (deskew : Nat) :
    (b.alignDone p order fec deskew).portState p = 9 ∧
      (b.alignDone p order fec deskew).getI uSerdes F.SERDES.PORT_STAT_MISWIRE p = 1 := by
  have hstate : (b.setI uSerdes F.SERDES.PORT_STAT_MISWIRE p 1).portState p ≠ 8 :=
    (getI_setI_stat b (by decide) (by decide) (by decide) (by decide) ..).trans_ne (h.trans_ne (by decide))
  rw [alignDone_sidias hp h hlate hs, if_pos (by simpa using hwrong)]
  refine ⟨portState_portGo hp hstate (by decide) (by decide), ?_⟩
  rw [getI_portGo hp hstate (by decide) (by decide) (by decide) (by decide), getI_setI_same _ _ _ _ _ (by decide)]
  rfl

/-- Rightly wired, a Sidias port passes to CHECK, or stays as it is until it is aligned. -/
theorem alignDone_wired (h : b.portState p = 6) (hlate : b.portLate p = false) (hs : sidias p = true)
    (hright : ∀ l < 4, (b.sidLane p l).heard = expectedPeer p) (order : List Nat) (fec : Bool) (deskew : Nat) :
    b.alignDone p order fec deskew = if fec = true ∧ (b.namedLanes p).eraseDups.length = 4 ∧ deskew ≤ 45 then
      (b.alignReport p (b.namedLanes p) deskew).portGo p 7 else b := by
  rw [alignDone_sidias hp h hlate hs, if_neg (by simpa using hright)]
  simp [and_assoc]

omit hp in
theorem allGood_iff (figs : List (Nat × Nat × Nat)) :
    ((List.range 4).all fun l => decide (b.figGood (figs.getD l (0, 0, 255)))) = true ↔
      ∀ l < 4, b.figGood (figs.getD l (0, 0, 255)) := by
  simp only [List.all_eq_true, List.mem_range, decide_eq_true_iff]

theorem linkCheck_passed (h : b.portState p = 7) (hdue : 20000 ≤ b.portAge p) {figs : List (Nat × Nat × Nat)}
    (hgood : ∀ l < 4, b.figGood (figs.getD l (0, 0, 255))) : ∃ t : Block, b.linkCheck p figs = t.portGo p 8 ∧
      t.portState p = 7 ∧ t.getI uSerdes F.SERDES.PORT_STAT_LOSS_HIGH p = 0 :=
  ⟨_, (linkCheck_due hp h hdue figs).trans (if_pos ((allGood_iff figs).2 hgood)),
    (portState_lossHigh ..).trans (((b.keepsPorts_eyeScanned hp figs).portState hp).trans h), lossHigh_shown _ p (by decide)⟩

theorem linkCheck_failed (h : b.portState p = 7) (hdue : 20000 ≤ b.portAge p) {figs : List (Nat × Nat × Nat)}
    (hbad : ∃ l < 4, ¬ b.figGood (figs.getD l (0, 0, 255))) : (b.linkCheck p figs).portState p = 9 ∧
      (b.linkCheck p figs).getI uSerdes F.SERDES.PORT_STAT_LOSS_HIGH p = 1 := by
  have hstate : ((b.eyeScanned p figs).setI uSerdes F.SERDES.PORT_STAT_LOSS_HIGH p 1).portState p ≠ 8 := by
    rw [portState_lossHigh, (b.keepsPorts_eyeScanned hp figs).portState hp, h]
    decide
  have hno : ¬ ∀ l < 4, b.figGood (figs.getD l (0, 0, 255)) := by simpa only [not_forall, exists_prop] using hbad
  rw [linkCheck_due hp h hdue, if_neg (mt (allGood_iff figs).1 hno)]
  exact ⟨portState_portGo hp hstate (by decide) (by decide),
    (getI_portGo hp hstate (by decide) (by decide) (by decide) (by decide)).trans (lossHigh_shown _ p (by decide))⟩

end

end Block

/-- Settles O34: each event has one lemma for its state, and all of them rest on what a passage between two states leaves of
the port's register and of its lanes'. That a late step goes to HOLDOFF is the model's choice (log entry 87). -/
theorem portStateMachine : Obligations.PortStateMachine := by
  intro s dt p hup hp b goes
  refine ⟨fun hoff hmay => ?enable, fun h => ⟨fun hlong => ?signal, fun hshort => ?signalEarly⟩,
    fun hlate => ⟨fun h => ?cdr, fun eq h hready => ?training, fun ctle h => ?adapt, fun seen h => ?lock,
      fun order fec deskew h => ?align⟩,
    fun hlate c hc => ?late, fun t ht hlong => ?timeout, fun h => ?down, fun h hlong => ?holdoff, fun figs h => ?check⟩
  case enable => exact ⟨_, hup.exec_next (exec_portEnable dt p s) (if_pos hp), Block.portEnable_starts hp hoff hmay⟩
  case signal =>
    exact ⟨_, hup.exec_next (exec_signalQualified dt p s) rfl, Block.signalQualified_passes hp h hlong⟩
  case signalEarly => exact hup.exec_next (exec_signalQualified dt p s) (Block.signalQualified_early hp h hshort)
  case cdr => exact ⟨_, hup.exec_next (exec_cdrLocked dt p s) rfl, Block.cdrLocked_passes hp h hlate⟩
  case training =>
    exact ⟨_, hup.exec_next (exec_trainingComplete dt p eq s) rfl, Block.trainingComplete_passes hp h hlate hready eq⟩
  case adapt => exact ⟨_, hup.exec_next (exec_adaptConverged dt p ctle s) rfl, Block.adaptConverged_passes hp h hlate ctle⟩
  case lock =>
    exact ⟨fun hs hfound => ⟨_, hup.exec_next (exec_blockLock dt p seen s) rfl,
        Block.blockLock_frames hp h hlate hs hfound seen⟩,
      fun hs hnone => hup.exec_next (exec_blockLock dt p seen s) (Block.blockLock_noFrame hp h hlate hs hnone seen),
      fun hs => ⟨_, hup.exec_next (exec_blockLock dt p seen s) rfl, Block.blockLock_blocks hp h hlate hs seen⟩⟩
  case align =>
    refine ⟨fun hs hwrong => ?miswired, fun hs hright => ⟨fun hgood => ?aligned, fun hbad => ?unaligned⟩,
      fun hs => ⟨fun hon hfec => ?noFec, fun hfec => ?ethernet⟩⟩
    case miswired =>
      exact ⟨_, hup.exec_next (exec_alignDone dt p order fec deskew s) rfl,
        Block.alignDone_miswired hp h hlate hs hwrong order fec deskew⟩
    case aligned =>
      exact ⟨_, hup.exec_next (exec_alignDone dt p order fec deskew s)
        ((Block.alignDone_wired hp h hlate hs hright order fec deskew).trans (if_pos hgood)),
        Block.portState_portGo hp ((b.alignReport_portState hp _ _).trans_ne (h.trans_ne (by decide))) (by decide) (by decide)⟩
    case unaligned =>
      exact hup.exec_next (exec_alignDone dt p order fec deskew s)
        ((Block.alignDone_wired hp h hlate hs hright order fec deskew).trans (if_neg hbad))
    case noFec =>
      exact hup.exec_next (exec_alignDone dt p order fec deskew s)
        ((Block.alignDone_ethernet hp h hlate hs order fec deskew).trans (if_pos (by simp [hon, hfec])))
    case ethernet =>
      have hlocked : ¬(b.fecOn p && !fec) = true := by rcases hfec with hfec | hfec <;> simp [hfec]
      exact ⟨_, hup.exec_next (exec_alignDone dt p order fec deskew s)
        ((Block.alignDone_ethernet hp h hlate hs order fec deskew).trans (if_neg hlocked)),
        (b.alignReport_portState hp order deskew).trans h, b.alignReport_fecLock hp order deskew⟩
  case late =>
    rcases hc with ⟨eq, rfl, h⟩ | ⟨ctle, rfl, h⟩ | ⟨seen, rfl, h⟩ | ⟨order, fec, deskew, rfl, h⟩ | ⟨rfl, h⟩
    · exact hup.exec_next (exec_trainingComplete dt p eq s) (Block.portStep_late hp h hlate _)
    · exact hup.exec_next (exec_adaptConverged dt p ctle s) (Block.portStep_late hp h hlate _)
    · exact hup.exec_next (exec_blockLock dt p seen s) (Block.portStep_late hp h hlate _)
    · exact hup.exec_next (exec_alignDone dt p order fec deskew s) (Block.portStep_late hp h hlate _)
    · exact hup.exec_next (exec_cdrLocked dt p s) (Block.portStep_late hp h hlate _)
  case timeout =>
    exact ⟨_, hup.exec_next (exec_bringupTimeout dt p s) (Block.bringupTimeout_due hp ht hlong),
      Block.portState_portGo hp (Block.portState_of_timeout ht) (by decide) (by decide)⟩
  case down => exact hup.exec_next (exec_linkDown dt p s) (Block.portStep_untimed hp h (by decide) _)
  case holdoff =>
    exact ⟨_, hup.exec_next (exec_holdoffExpired dt p s) (Block.holdoffExpired_due hp h hlong),
      Block.portState_portGo hp (h.trans_ne (by decide)) (by decide) (by decide)⟩
  case check =>
    intro good
    refine ⟨fun hdue hgood => ?passed, fun hdue hbad => ?failed, fun hearly => ?early⟩
    case passed =>
      obtain ⟨t, ht, hshown⟩ := Block.linkCheck_passed hp h hdue hgood
      exact ⟨t, hup.exec_next (exec_check dt p figs s) ht, hshown⟩
    case failed => exact ⟨_, hup.exec_next (exec_check dt p figs s) rfl, Block.linkCheck_failed hp h hdue hbad⟩
    case early => exact hup.exec_next (exec_check dt p figs s) (Block.linkCheck_early hp h hearly figs)

end Sys2Proof.Machine

/-! # Lane figures, training frames, the bypass and the counters (R152, R158, R161, R598) -/

namespace Sys2Proof.Machine

/-- A fold of which one step establishes what every step keeps. -/
theorem foldl_establishes {α β : Type} {P : β → Prop} {f : β → α → β} {l : List α} {a : α} (ha : a ∈ l)
    (hstep : ∀ t, P (f t a)) (hkeep : ∀ c ∈ l, ∀ t, P t → P (f t c)) (s : β) : P (l.foldl f s) := by
  obtain ⟨l₁, l₂, rfl⟩ := List.append_of_mem ha
  rw [List.foldl_append, List.foldl_cons]
  refine List.foldlRecOn l₂ f (hstep _) fun t ht c hc => hkeep c ?_ t ht
  exact List.mem_append_right l₁ (List.mem_cons_of_mem a hc)

/-! ## Bits of a word of which some are cleared -/

theorem testBit_bits (v hi lo k : Nat) : (bits v hi lo).testBit k = (decide (k < hi + 1 - lo) && v.testBit (lo + k)) := by
  rw [bits, Nat.testBit_mod_two_pow, Nat.testBit_div_two_pow, Nat.add_comm k lo]

theorem testBit_putBits_zero {v hi lo : Nat} (h : lo ≤ hi) (k : Nat) :
    (putBits v hi lo 0).testBit k = (v.testBit k && decide (k < lo ∨ hi < k)) := by
  have hlow : v % 2 ^ lo < 2 ^ (hi + 1) :=
    (Nat.mod_lt v (Nat.two_pow_pos lo)).trans_le (Nat.pow_le_pow_right (by decide) (by omega))
  rw [putBits_eq v hi lo 0 (by omega), Nat.zero_mod, Nat.zero_mul, Nat.add_zero, Nat.add_comm, Nat.mul_comm,
    Nat.testBit_two_pow_mul_add _ hlow]
  split
  · next hk =>
    have : decide (k < lo ∨ hi < k) = decide (k < lo) := by simp; omega
    rw [Nat.testBit_mod_two_pow, this, Bool.and_comm]
  · next hk =>
    rw [Nat.testBit_div_two_pow, show k - (hi + 1) + (hi + 1) = k by omega, decide_eq_true (by omega), Bool.and_true]

/-- A field that reads 0 reads 0 once any field of its word is cleared. -/
theorem bits_putBits_zero {v hi lo hi' lo' : Nat} (h : lo ≤ hi) (h0 : bits v hi' lo' = 0) :
    bits (putBits v hi lo 0) hi' lo' = 0 := by
  refine Nat.eq_of_testBit_eq fun k => ?_
  have hk : (decide (k < hi' + 1 - lo') && v.testBit (lo' + k)) = false := by rw [← testBit_bits, h0, Nat.zero_testBit]
  rw [testBit_bits, testBit_putBits_zero h, ← Bool.and_assoc, hk, Bool.false_and, Nat.zero_testBit]

namespace Block

/-! ## Counters cleared (R598) -/

/-- Clearing a field leaves every field at 0 that is 0. -/
theorem getI_setI_zero (b : Block) {u u' : UnitId} {f g : Field} {i j : Nat} (hf : f.lo ≤ f.hi ∧ f.hi < 32)
    (h0 : b.getI u' g j = 0) : (b.setI u f i 0).getI u' g j = 0 := by
  by_cases hkey : regKey u' (g.at j) = regKey u (f.at i)
  · have hrd (t : Block) : t.rd u' (g.at j) = t.rd u (f.at i) := by rw [rd, rd, hkey]
    have hlt : putBits (b.rd u (f.at i)) f.hi f.lo 0 < 2 ^ 32 := putBits_lt (by omega) hf.2 (b.rd_lt u (f.at i))
    rw [getI, hrd] at h0 ⊢
    rw [setI, rd_wr_same, Nat.mod_eq_of_lt hlt]
    exact bits_putBits_zero hf.1 h0
  · rw [getI_setI_reg b hkey, h0]

theorem getI_foldl_setI_zero (b : Block) (u : UnitId) {f : Field} (hf : f.lo ≤ f.hi ∧ f.hi < 32) {i : Nat} (hi : i < f.count) :
    ((List.range f.count).foldl (fun t j => t.setI u f j 0) b).getI u f i = 0 :=
  foldl_establishes (P := fun t : Block => t.getI u f i = 0) (List.mem_range.2 hi)
    (fun t => (getI_setI_same t u f i 0 hf).trans (Nat.zero_mod _)) (fun _ _ t h => getI_setI_zero t hf h) b

/-- Every field of a list of counters reads 0 once the list is cleared. -/
theorem getI_clearAll (b : Block) (u : UnitId) {fs : List Field} (hfs : ∀ f ∈ fs, f.lo ≤ f.hi ∧ f.hi < 32) {f : Field}
    (hf : f ∈ fs) {i : Nat} (hi : i < f.count) : (b.clearAll u fs).getI u f i = 0 :=
  foldl_establishes (P := fun t : Block => t.getI u f i = 0) hf (fun t => t.getI_foldl_setI_zero u (hfs f hf) hi)
    (fun g hg _ h => List.foldlRecOn (motive := fun t : Block => t.getI u f i = 0) _ _ h
      fun t ht _ _ => t.getI_setI_zero (hfs g hg) ht) b

/-- The counters of the table are fields of 32-bit words. -/
theorem clearCnt_fields {t : UnitType} {ctl : Field} {fs : List Field} (h : clearCnt t = some (ctl, fs)) :
    ∀ f ∈ fs, f.lo ≤ f.hi ∧ f.hi < 32 := by
  have hall : (clearCnt t).all (fun c => c.2.all fun f => decide (f.lo ≤ f.hi ∧ f.hi < 32)) = true := by cases t <;> rfl
  rw [h] at hall
  simpa using hall

theorem clearUnit_table (b : Block) {u : UnitId} {ctl : Field} {fs : List Field} (h : clearCnt u.ty = some (ctl, fs))
    (hmbx : u.ty ≠ .mbx) : b.clearUnit u = b.clearAll u fs := by
  have hfs : ((clearCnt u.ty).map (·.2) |>.getD []) = fs := by rw [h]; rfl
  unfold clearUnit
  split
  case h_4 hty => exact absurd hty hmbx
  case h_5 => rw [hfs]
  all_goals next hty => rw [hty] at h; cases h

theorem counterClear_table (b : Block) {u : UnitId} {ctl : Field} {fs : List Field} (h : clearCnt u.ty = some (ctl, fs))
    (hmbx : u.ty ≠ .mbx) (hu : u.exists? = true) : b.counterClear u = b.clearAll u fs :=
  (if_pos (by simp [hasCounters, hu, h])).trans (b.clearUnit_table h hmbx)

/-- The lanes' part of CLEAR_CNT of SERDES leaves the ports' counters, and clears every lane's. -/
theorem serdesClear_clears (b : Block) : (∀ f ∈ [F.SERDES.FEC_COR_COUNT, F.SERDES.FEC_UNC_COUNT, F.SERDES.PORT_STAT_DOWN_COUNT],
      ∀ p < 16, b.serdesClear.getI uSerdes f p = 0) ∧
    ∀ i < 61, b.serdesClear.get (uLane i) F.LANE.SYMERR_COUNT = 0 := by
  unfold serdesClear
  extract_lets c
  have hports : c.keepsPorts ((List.range 61).foldl (fun s i => s.set (uLane i) F.LANE.SYMERR_COUNT 0) c) :=
    keepsPorts_foldl _ (fun i hi t => t.keepsPorts_setLane (by have := List.mem_range.1 hi; omega) (by decide) 0) c
  refine ⟨fun f hf p hp => ?_, fun i hi => ?_⟩
  · have hplace : f.count = 16 ∧ f.off < 0x3000 ∧ f.stride = 4 := by
      revert f
      decide
    rw [hports.getI (stat_at_lt hplace.2 hp)]
    exact b.getI_clearAll uSerdes (by decide) hf (hplace.1.symm ▸ hp)
  · exact foldl_establishes (P := fun t : Block => t.get (uLane i) F.LANE.SYMERR_COUNT = 0) (List.mem_range.2 hi)
      (fun t => get_set_same t (uLane i) (by decide) 0) (fun _ _ t h => getI_setI_zero t (by decide) h) c

/-! ## Figures of a lane (R158) -/

/-- A saturating counter raised by n reads n more, up to its largest value (R598). -/
theorem get_addI (b : Block) (u : UnitId) {f : Field} (hf : f.lo ≤ f.hi ∧ f.hi < 32) (n : Nat) :
    (b.addI u f 0 n).get u f = satAdd f.max (b.get u f) n := by
  have hlt : satAdd f.max (b.get u f) n < 2 ^ f.width := by
    have := Nat.two_pow_pos f.width
    simp only [satAdd, Field.max]
    omega
  exact (getI_setI_same b u f 0 _ hf).trans (Nat.mod_eq_of_lt hlt)

theorem calLane_regs (b : Block) (p l h w loss : Nat) : (b.calLane p l h w loss).regs = b.regs := by
  unfold calLane
  split
  · split <;> rfl
  · rfl

/-- The figures of a used lane in LOCK to UP: its registers are those with the figures and the symbol errors added. -/
theorem laneEye_lane {b : Block} {p l : Nat} (hp : p < 16) (hst : 5 ≤ b.portState p ∧ b.portState p ≤ 8)
    (hl : (b.portLanes p).contains l = true) (h w loss symerr cor unc : Nat) {g : Field} (hg : g.at 0 < 0x4000) :
    (b.laneEye p l h w loss symerr cor unc).get (laneOf p l) g =
      ((b.laneFigures (laneOf p l) h w loss).addI (laneOf p l) F.LANE.SYMERR_COUNT 0 symerr).get (laneOf p l) g := by
  have hl4 : l < 4 := portLanes_lt (List.contains_iff_mem.1 hl)
  have hport (t : Block) {f : Field} (hf : f.at p < 0x4000) (n : Nat) :
      (t.addI uSerdes f p n).get (laneOf p l) g = t.get (laneOf p l) g :=
    getI_setI_unit t (laneOf_ne_serdes p l) (by decide) (laneOf_inst_lt hp hl4) hf hg _
  rw [laneEye, if_pos ⟨hp, hst.1, hst.2, hl⟩, get_congr (calLane_regs ..), hport _ (stat_at_lt (by decide) hp),
    hport _ (stat_at_lt (by decide) hp)]

theorem laneEye_shows {b : Block} {p l : Nat} (hp : p < 16) (hst : 5 ≤ b.portState p ∧ b.portState p ≤ 8)
    (hl : (b.portLanes p).contains l = true) {h w : Nat} (hh : h < 2 ^ F.LANE.EYE_HEIGHT.width)
    (hw : w < 2 ^ F.LANE.EYE_WIDTH.width) (loss symerr cor unc : Nat) :
    let t := b.laneEye p l h w loss symerr cor unc
    t.get (laneOf p l) F.LANE.EYE_HEIGHT = h ∧ t.get (laneOf p l) F.LANE.EYE_WIDTH = w ∧
      t.get (laneOf p l) F.LANE.LOSS_EST = Nat.min 255 loss ∧ t.get (laneOf p l) F.LANE.STAT_EYE_VALID = 1 ∧
      t.get (laneOf p l) F.LANE.SYMERR_COUNT =
        satAdd F.LANE.SYMERR_COUNT.max (b.get (laneOf p l) F.LANE.SYMERR_COUNT) symerr := by
  intro t
  obtain ⟨heye, hwidth, hloss, hvalid⟩ := b.laneFigures_eye (laneOf p l) h w loss
  have hfig {g : Field} (hg : g.at 0 < 0x4000) (hoff : g.at 0 ≠ 0x110) :
      t.get (laneOf p l) g = (b.laneFigures (laneOf p l) h w loss).get (laneOf p l) g :=
    (laneEye_lane hp hst hl h w loss symerr cor unc hg).trans
      (get_set_off (f := F.LANE.SYMERR_COUNT) _ (by decide) hg hoff _)
  refine ⟨?_, ?_, ?_, ?_, ?_⟩
  · rw [hfig (by decide) (by decide), heye, Nat.mod_eq_of_lt hh]
  · rw [hfig (by decide) (by decide), hwidth, Nat.mod_eq_of_lt hw]
  · rw [hfig (by decide) (by decide), hloss]
  · rw [hfig (by decide) (by decide), hvalid]
  · rw [laneEye_lane hp hst hl h w loss symerr cor unc (by decide), get_addI _ _ (by decide),
      laneFigures_off _ _ _ _ _ _ (by decide) (by decide)]

/-! ## Training frames (R152) -/

theorem tapStep_le (b : Block) (req : Nat) {max v : Nat} (hv : v ≤ max) : b.tapStep req max v ≤ max := by
  unfold tapStep
  split
  · exact hv
  · exact Nat.min_le_left ..
  · omega
  · exact Nat.lt_succ_iff.1 (Nat.mod_lt _ max.succ_pos)

/-- Lane u with its three taps, its polarity and its logical lane. -/
def laneTrained (b : Block) (u : UnitId) (pre main post inv logical : Nat) : Block :=
  ((((b.set u F.LANE.EQ_PRE pre).set u F.LANE.EQ_MAIN main).set u F.LANE.EQ_POST post).set u F.LANE.STAT_RX_INV inv).set
    u F.LANE.STAT_RX_LOGICAL logical

theorem laneTrained_shows (b : Block) (u : UnitId) {pre main post inv : Nat} (hpre : pre ≤ 15) (hmain : main ≤ 63)
    (hpost : post ≤ 31) (hinv : inv < 2) (logical : Nat) :
    let t := b.laneTrained u pre main post inv logical
    t.get u F.LANE.EQ_PRE = pre ∧ t.get u F.LANE.EQ_MAIN = main ∧ t.get u F.LANE.EQ_POST = post ∧
      t.get u F.LANE.STAT_RX_INV = inv := by
  intro t
  have htap {g : Field} (hg : g.at 0 < 0x4000) (hoff : g.at 0 ≠ 0x100) : t.get u g =
      (((b.set u F.LANE.EQ_PRE pre).set u F.LANE.EQ_MAIN main).set u F.LANE.EQ_POST post).get u g := by
    rw [show t = b.laneTrained u pre main post inv logical from rfl, laneTrained,
      get_set_off (f := F.LANE.STAT_RX_LOGICAL) _ (by decide) hg hoff, get_set_off (f := F.LANE.STAT_RX_INV) _ (by decide) hg hoff]
  have hother (x : Block) {f g : Field} (hfg : (f.off == g.off && f.stride == g.stride && decide (f.lo ≤ f.hi) &&
      decide (f.hi < 32) && (decide (f.hi < g.lo) || decide (g.hi < f.lo))) = true) (v : Nat) :
      (x.set u f v).get u g = x.get u g := getI_setI_field x u 0 hfg v
  refine ⟨?_, ?_, ?_, ?_⟩
  · rw [htap (by decide) (by decide), hother _ (by decide), hother _ (by decide), get_set_same _ _ (by decide)]
    exact Nat.mod_eq_of_lt (Nat.lt_succ_of_le hpre)
  · rw [htap (by decide) (by decide), hother _ (by decide), get_set_same _ _ (by decide)]
    exact Nat.mod_eq_of_lt (Nat.lt_succ_of_le hmain)
  · rw [htap (by decide) (by decide), get_set_same _ _ (by decide)]
    exact Nat.mod_eq_of_lt (Nat.lt_succ_of_le hpost)
  · exact (hother _ (by decide) _).trans ((get_set_same _ _ (by decide) _).trans (Nat.mod_eq_of_lt hinv))

/-- What is asked of tap n of a lane (R152): 0 PRE, 1 MAIN, 2 POST. -/
def tapAsked (fr : List Nat) (n : Nat) : Nat := bits (fr.getD 5 0) (2 * n + 1) (2 * n)

/-- A frame taken moves the lane's taps and is answered with one frame that tells their status. -/
theorem trainingTake_answers (b : Block) (p l : Nat) (inv : Bool) (fr : List Nat) :
    let u := laneOf p l
    let pre := b.tapStep (tapAsked fr 0) 15 (b.get u F.LANE.EQ_PRE)
    let main := b.tapStep (tapAsked fr 1) 63 (b.get u F.LANE.EQ_MAIN)
    let post := b.tapStep (tapAsked fr 2) 31 (b.get u F.LANE.EQ_POST)
    (b.trainingTake p l inv fr).regs = (b.laneTrained u pre main post (b2n inv) (bits (fr.getD 4 0) 1 0)).regs ∧
      ∃ req, (b.trainingTake p l inv fr).out = .training p l (sentFrame p l req (tapStat (tapAsked fr 0) 15 pre +
        4 * tapStat (tapAsked fr 1) 63 main + 16 * tapStat (tapAsked fr 2) 31 post)) :: b.out := by
  intro u pre main post
  unfold trainingTake
  dsimp only
  split
  · exact ⟨rfl, _, rfl⟩
  · exact ⟨rfl, _, rfl⟩

/-- A frame as its lane brings it: as sent, or with every byte complemented. -/
def asReceived (inv : Bool) (frame : List Nat) : List Nat := if inv then frame.map (255 - ·) else frame

/-- A training frame with its MARKER and a good CRC (R152). -/
structure GoodFrame (frame : List Nat) : Prop where
  mark : frame.take 4 = [0x7E, 0x3C, 0xA5, 0x0F]
  length : frame.length = 16
  bytes : ∀ x ∈ frame, x < 256
  crc : crc16 0xFFFF (frame.take 14) = ofLe (frame.drop 14)

/-- The MARKER tells whether a frame came complemented (R152). -/
theorem asReceived_mark {frame : List Nat} (hframe : GoodFrame frame) (inv : Bool) :
    ((asReceived inv frame).take 4 == [0x81, 0xC3, 0x5A, 0xF0]) = inv := by
  cases inv
  · rw [asReceived, if_neg (by decide), hframe.mark]
    rfl
  · rw [asReceived, if_pos rfl, ← List.map_take, hframe.mark]
    rfl

/-- Complemented again the frame is as it was sent. -/
theorem asReceived_undone {frame : List Nat} (hframe : GoodFrame frame) (inv : Bool) :
    (if inv then (asReceived inv frame).map (fun x => 255 - x % 256) else asReceived inv frame) = frame := by
  cases inv
  · rfl
  · have hback : ∀ x ∈ frame, 255 - (255 - x) % 256 = x := fun x hx => by
      have := hframe.bytes x hx
      omega
    rw [if_pos rfl, asReceived, if_pos rfl, List.map_map]
    exact (List.map_congr_left hback).trans (List.map_id' frame)

theorem trainingFrame_good {b : Block} {p l : Nat} {frame : List Nat} (hs : sidias p = true) (hl : l < 4)
    (hst : b.portState p = 3 ∨ b.portState p = 5) (hframe : GoodFrame frame) (inv : Bool) :
    b.trainingFrame p l (asReceived inv frame) = b.trainingTake p l inv frame := by
  unfold trainingFrame
  dsimp only
  rw [asReceived_mark hframe, asReceived_undone hframe, if_pos]
  simp [hs, hl, hst, hframe.mark, hframe.length, hframe.crc]

/-- A good frame: what it does to the lane, and the answer (R152). -/
theorem trainingFrame_answers {b : Block} {p l : Nat} {frame : List Nat} (hs : sidias p = true) (hl : l < 4)
    (hst : b.portState p = 3 ∨ b.portState p = 5) (hframe : GoodFrame frame) (inv : Bool) :
    let u := laneOf p l
    let pre := b.tapStep (tapAsked frame 0) 15 (b.get u F.LANE.EQ_PRE)
    let main := b.tapStep (tapAsked frame 1) 63 (b.get u F.LANE.EQ_MAIN)
    let post := b.tapStep (tapAsked frame 2) 31 (b.get u F.LANE.EQ_POST)
    let t := b.trainingFrame p l (asReceived inv frame)
    ∃ req, t.get u F.LANE.EQ_PRE = pre ∧ t.get u F.LANE.EQ_MAIN = main ∧ t.get u F.LANE.EQ_POST = post ∧
      t.get u F.LANE.STAT_RX_INV = b2n inv ∧
      t.out = .training p l (sentFrame p l req (tapStat (tapAsked frame 0) 15 pre + 4 * tapStat (tapAsked frame 1) 63 main +
        16 * tapStat (tapAsked frame 2) 31 post)) :: b.out := by
  intro u pre main post t
  have ht : t = b.trainingTake p l inv frame := trainingFrame_good hs hl hst hframe inv
  obtain ⟨hregs, req, hout⟩ := b.trainingTake_answers p l inv frame
  have hlane (g : Field) : t.get u g =
      (b.laneTrained u pre main post (b2n inv) (bits (frame.getD 4 0) 1 0)).get u g := by rw [ht, get_congr hregs]
  obtain ⟨hpre, hmain, hpost, hinv⟩ := b.laneTrained_shows u
    (b.tapStep_le (tapAsked frame 0) (Nat.lt_succ_iff.1 (b.getI_lt u F.LANE.EQ_PRE 0)))
    (b.tapStep_le (tapAsked frame 1) (Nat.lt_succ_iff.1 (b.getI_lt u F.LANE.EQ_MAIN 0)))
    (b.tapStep_le (tapAsked frame 2) (Nat.lt_succ_iff.1 (b.getI_lt u F.LANE.EQ_POST 0))) (b2n_lt inv)
    (bits (frame.getD 4 0) 1 0)
  exact ⟨req, (hlane _).trans hpre, (hlane _).trans hmain, (hlane _).trans hpost, (hlane _).trans hinv, ht ▸ hout⟩

/-! ## The bypass (R161) -/

theorem bypassOpen_iff (b : Block) (vbyp : Nat) : b.bypassOpen vbyp =
    if b.isRunning = true ∧ 2900 ≤ vbyp ∧ b.on uClk F.CLK.SRC_STAT_REF_OK = true ∧
        b.on uSerdes F.SERDES.BYPASS_STAT_OPEN = false then
      { b.set uSerdes F.SERDES.BYPASS_CTL_OPEN 1 with ser := { b.ser with opening := true } }
    else b :=
  if_congr (by simp [and_assoc]) rfl rfl

/-- The main-die path is connected, the opening over. -/
def bypassOpened (b : Block) : Block :=
  ({ b with ser := { b.ser with opening := false } } : Block).set uSerdes F.SERDES.BYPASS_STAT_OPEN 1

theorem bypassConnected_opening {b : Block} (h : b.ser.opening = true) :
    b.bypassConnected = ((b.bypassOpened.portEnable 12).portEnable 13).ringInserted := if_pos h

/-- The bypass is open or opens. -/
def bypassUsed (b : Block) : Bool := b.ser.opening || b.on uSerdes F.SERDES.BYPASS_STAT_OPEN

/-- The bypass closed, its ports not yet told. -/
def bypassShut (b : Block) (forced : Bool) : Block :=
  let s := (({ b with ser := { b.ser with opening := false } } : Block).set uSerdes F.SERDES.BYPASS_CTL_OPEN 0).set
    uSerdes F.SERDES.BYPASS_STAT_OPEN 0
  if forced && b.bypassUsed then s.set uSerdes F.SERDES.BYPASS_STAT_FORCED 1 else s

theorem bypassClose_eq (b : Block) (forced : Bool) : b.bypassClose forced =
    if b.bypassUsed then (((b.bypassShut forced).portOff 12).portOff 13).ringBypassClosed
    else ((b.bypassShut forced).portOff 12).portOff 13 := rfl

theorem bypassShut_shows (b : Block) (forced : Bool) :
    (b.bypassShut forced).get uSerdes F.SERDES.BYPASS_STAT_OPEN = 0 ∧
    (b.bypassShut forced).get uSerdes F.SERDES.BYPASS_CTL_OPEN = 0 ∧ (b.bypassShut forced).ser.opening = false ∧
    (b.bypassShut forced).get uSerdes F.SERDES.BYPASS_STAT_FORCED =
      if forced && b.bypassUsed then 1 else b.get uSerdes F.SERDES.BYPASS_STAT_FORCED := by
  unfold bypassShut
  extract_lets _ s
  have hstat : s.get uSerdes F.SERDES.BYPASS_STAT_OPEN = 0 := get_set_same _ _ (by decide) 0
  have hctl : s.get uSerdes F.SERDES.BYPASS_CTL_OPEN = 0 :=
    (get_set_apart _ (by decide) 0).trans (get_set_same _ _ (by decide) 0)
  have hforced : s.get uSerdes F.SERDES.BYPASS_STAT_FORCED = b.get uSerdes F.SERDES.BYPASS_STAT_FORCED :=
    (get_set_apart _ (by decide) 0).trans ((get_set_apart _ (by decide) 0).trans (get_congr rfl ..))
  split
  · exact ⟨(get_set_apart _ (by decide) 1).trans hstat, (get_set_apart _ (by decide) 1).trans hctl, rfl,
      get_set_same _ _ (by decide) 1⟩
  · exact ⟨hstat, hctl, rfl, hforced⟩

end Block

/-- Settles O35: each command under its own condition, by the lemma that says what its meaning leaves. It rests on choices of
the model: what a reserved request leaves is a free value (log entry 1), the two bytes of a frame's CRC are little-endian (log
entry 66), and what the device itself asks for in its frame is a free value too (log entry 87). -/
theorem lanesAndBypass : Obligations.LanesAndBypass := by
  intro s dt hup b
  refine ⟨fun p l frame inv hs hl hst hmark hlen hbytes hcrc => ?frame,
    fun p l h w loss symerr cor unc hp hlo hhi hl hh hw => ?eye, fun vbyp hon => ?opens, fun h => ?connected,
    fun forced => ?closes, ?serdes, fun u ctl fs hfs hmbx hu => ?counters⟩
  case frame =>
    intro u r pre main post
    obtain ⟨req, hshows⟩ := Block.trainingFrame_answers hs hl hst ⟨hmark, hlen, hbytes, hcrc⟩ inv
    exact ⟨_, req, hup.exec_next (exec_trainingFrame dt p l _ s) rfl, hshows⟩
  case eye =>
    exact ⟨_, hup.exec_next (exec_laneEyeUpdate dt p l h w loss symerr cor unc s) rfl,
      Block.laneEye_shows hp ⟨hlo, hhi⟩ hl hh hw loss symerr cor unc⟩
  case opens =>
    rw [exec_bypassOpen, State.liveOn_runs hup hon.2, Block.bypassOpen_iff]
  case connected =>
    exact ⟨b.bypassOpened, hup.exec_next (exec_bypassConnected dt s) (Block.bypassConnected_opening h),
      Block.get_set_same _ _ (by decide) 1, rfl⟩
  case closes =>
    exact ⟨b.bypassShut forced, hup.exec_next (exec_bypassClose dt forced s) (b.bypassClose_eq forced),
      b.bypassShut_shows forced⟩
  case serdes =>
    obtain ⟨hports, hlanes⟩ := b.serdesClear_clears
    exact ⟨b.serdesClear, hup.exec_next (exec_clearCnt dt uSerdes s) rfl,
      fun p hp => ⟨hports _ (by simp) p hp, hports _ (by simp) p hp, hports _ (by simp) p hp⟩, hlanes⟩
  case counters =>
    exact ⟨_, hup.exec_next (exec_clearCnt dt u s) (b.counterClear_table hfs hmbx hu),
      fun f hf i hi => b.getI_clearAll u (Block.clearCnt_fields hfs) hf hi⟩

end Sys2Proof.Machine

/-! # Frames on camera ports (R168-R172, R189) -/

namespace Sys2Proof.Machine
namespace Block

/-- A counter raised writes the register it lies in. -/
theorem inc_keepsRegs (b : Block) {u : UnitId} {f : Field} (hu : u.inst < 256) (hf : f.at 0 < 0x4000) :
    b.keepsRegs (b.inc u f) [(u, f.at 0)] := fun _ _ hi ho hne =>
  rd_setI_ne b (regKey_ne_of_place (fun h => hne (List.mem_singleton.2 h)) hi hu ho hf) _

/-- A frame no rule looks into: its FCS or its length is bad, or it is a pause frame (R168). -/
abbrev discards (f : List Nat) (fcsOk : Bool) : Prop :=
  fcsOk = false ∨ f.length < 60 ∨ 9212 < f.length ∨ frameNum f 12 2 = 0x8808

/-- The frame a camera port takes, rule by rule in their order (R169). -/
theorem camFrame_eq (b : Block) {k : Nat} (hk : k < 12) (f : List Nat) (fcsOk overflow : Bool) :
    b.camFrame k f fcsOk overflow =
      if discards f fcsOk then b.inc (uCamp k) F.CAMP.CNT_PKT_ERR_COUNT
      else if b.isCamPtp k f = true then b.camPtpFrame k f
      else if arpFor f (b.campIp k) = true then
        if b.isRunning = true then b.txSend k (.arp (arpReply f (b.campMac k) (b.campIp k))) else b
      else if b.isGvsp k f = true then
        if gvspFrameOk f = true then b.gvspPacket k (udpPayload f) overflow else b.gvspDrop k
      else b.tunnelRx k f := by
  rw [camFrame, if_neg (Nat.not_le.2 hk)]
  exact if_congr (by simp [or_assoc]) rfl rfl

theorem txSend_behind {b : Block} {k : Nat} (h : (b.camp k).tunOn = true) (j : TxJob) :
    b.txSend k j = b.setCamp k { b.camp k with txWait := (b.camp k).txWait ++ [j] } := if_pos h

/-- With reception off a tunnel frame is lost, which the next record's flag tells (R189, R191). -/
theorem tunnelRx_off {b : Block} {k : Nat} (h : b.on (uCamp k) F.CAMP.TUNNEL_CFG_RX_EN = false) (f : List Nat) :
    b.tunnelRx k f = { b.inc (uCamp k) F.CAMP.CNT_TUNNEL_DROP_COUNT with
      mbx := { b.mbx with tunDropped := upd b.mbx.tunDropped k fun _ => true } } := if_pos (.inl h)

/-- The record a received tunnel frame becomes (R191). -/
def tunnelRec (b : Block) (k : Nat) (f : List Nat) : TunnelRec :=
  ⟨k, if nth b.mbx.tunDropped k false then 2 else 0, b.stamp, nth b.mbx.tunSeq k 0, f⟩

/-- With reception on and room left its record joins the port's queue. -/
theorem tunnelRx_room {b : Block} {k : Nat} (hon : b.on (uCamp k) F.CAMP.TUNNEL_CFG_RX_EN = true) {f : List Nat}
    (hroom : sumN ((nth b.mbx.tunRx k []).map fun r => tunnelBytes r.frame.length) + tunnelBytes f.length ≤ 32768) :
    b.tunnelRx k f = { b with mbx := { b.mbx with
      tunRx := upd b.mbx.tunRx k fun l => l ++ [b.tunnelRec k f]
      tunSeq := upd b.mbx.tunSeq k fun n => (n + 1) % 2 ^ 32
      tunDropped := upd b.mbx.tunDropped k fun _ => false } } :=
  if_neg (not_or.2 ⟨ne_false_of_eq_true hon, Nat.not_lt.2 hroom⟩)

end Block

/-- A frame on a camera port that is UP of an operating device. -/
theorem State.up.exec_camFrame {s : State} {dt k : Nat} (hup : s.up dt) (hport : (s.now dt).portState k = 8) {f : List Nat}
    {fcsOk overflow : Bool} {t : Block} (ht : (s.now dt).camFrame k f fcsOk overflow = t) :
    exec (.camFrame dt k f fcsOk overflow) s = .next ⟨s.pending, t⟩ :=
  hup.exec_next (Machine.exec_camFrame dt k f fcsOk overflow s) ((if_pos hport).trans ht)

/-- Settles O36: of the rules in their order the first that fits takes the frame. It rests on choices of the model: frames
have the layouts of the standards the spec names (log entry 21), a tunnel record counts with its header and padding (log entry
39), and a frame other than a tunnel frame takes no time (log entry 89). -/
theorem cameraFramesAreSorted : Obligations.CameraFramesAreSorted := by
  intro s dt k f fcsOk overflow hup hk b u hport bad
  have heq := b.camFrame_eq hk f fcsOk overflow
  refine ⟨fun hbad => ?discarded, fun hgood hptp => ?ptp, fun hgood hptp => ⟨fun harp hrun => ⟨fun hoff => ?arpNow,
    fun hon => ?arpLater⟩, fun harp hgvsp => ⟨fun hform => ?gvspBad, fun hform => ?gvspGood⟩,
    fun harp hgvsp => ⟨fun hrx => ?tunnelOff, fun hrx hroom => ?tunnelOn⟩⟩⟩
  case discarded =>
    rw [if_pos hbad] at heq
    exact ⟨_, hup.exec_camFrame hport heq, rfl, b.get_addI u (by decide) 1, b.inc_keepsRegs (show k < 256 by omega) (by decide)⟩
  case ptp =>
    rw [if_neg hgood, if_pos hptp] at heq
    exact hup.exec_camFrame hport heq
  all_goals rw [if_neg hgood, if_neg (ne_true_of_eq_false hptp)] at heq
  case arpNow =>
    rw [if_pos harp, if_pos hrun, Block.txSend_idle b hoff] at heq
    exact hup.exec_camFrame hport heq
  case arpLater =>
    rw [if_pos harp, if_pos hrun, Block.txSend_behind hon] at heq
    exact hup.exec_camFrame hport heq
  all_goals rw [if_neg (ne_true_of_eq_false harp)] at heq
  case gvspBad =>
    rw [if_pos hgvsp, if_neg (ne_true_of_eq_false hform)] at heq
    exact ⟨_, hup.exec_camFrame hport heq, rfl, b.get_addI u (by decide) 1⟩
  case gvspGood =>
    rw [if_pos hgvsp, if_pos hform] at heq
    exact hup.exec_camFrame hport heq
  all_goals rw [if_neg (ne_true_of_eq_false hgvsp)] at heq
  case tunnelOff =>
    rw [Block.tunnelRx_off hrx] at heq
    exact ⟨_, hup.exec_camFrame hport heq, rfl, b.get_addI u (by decide) 1⟩
  case tunnelOn =>
    rw [Block.tunnelRx_room hrx hroom] at heq
    exact ⟨_, hup.exec_camFrame hport heq, rfl, b.tunnelRec k f, rfl, rfl⟩

end Sys2Proof.Machine

/-! # Reassembly of a camera stream (R175, R176, R181, R182, R199) -/

namespace Sys2Proof.Machine
namespace Block

theorem uCamp_ne {k : Nat} {u : UnitId} (h : u.ty ≠ .camp) : uCamp k ≠ u := fun e => h (e ▸ rfl)

/-! ## The stream's state -/

/-- A flag that raises its producer at every occurrence leaves the fields apart from it, but for those of EVT and ERRLOG. -/
theorem getI_flagRaise (b : Block) {u u' : UnitId} {f g : Field} {j : Nat} (hu : u' ≠ uEvt) (hu' : u' ≠ uErrlog)
    (hi : u'.inst < 256) (ho : g.at j < 0x4000) (ha : apart u f 0 u' g j = true) :
    (b.flagRaise u f).getI u' g j = b.getI u' g j := by
  unfold flagRaise
  split
  · exact (getI_raise _ hu hu' hi ho _).trans (getI_setI_apart b ha 1)
  · exact getI_setI_apart b ha 1

/-- A stream that goes to a state is in it. -/
theorem campState_campGo (b : Block) {k st : Nat} (hk : k < 12) (hst : st < 4) : (b.campGo k st).campState k = st := by
  unfold campGo
  split
  · assumption
  · exact (getI_flagRaise _ (uCamp_ne (by decide)) (uCamp_ne (by decide)) (show k < 256 by omega) (by decide)
      (apart_off _ (by decide))).trans ((get_set_same b _ (by decide) st).trans (Nat.mod_eq_of_lt hst))

/-- A change of the stream's state writes STAT and FLAGS. -/
theorem get_campGo (b : Block) {k : Nat} (hk : k < 12) (st : Nat) {f : Field} (ho : f.at 0 < 0x4000)
    (hstat : f.at 0 ≠ F.CAMP.STAT_STATE.at 0) (hflags : f.at 0 ≠ F.CAMP.FLAGS_STATE_CHANGE.at 0) :
    (b.campGo k st).get (uCamp k) f = b.get (uCamp k) f := by
  unfold campGo
  split
  · rfl
  · exact (getI_flagRaise _ (uCamp_ne (by decide)) (uCamp_ne (by decide)) (show k < 256 by omega) ho
      (apart_off _ hflags)).trans (get_set_apart b (apart_off _ hstat) st)

/-! ## Leaders -/

/-- The block opened is the last one shown. -/
theorem openBlock_shown (b : Block) (k id : Nat) (ld : Leader) (v : CampVals) (anchor : Nat) (bad : Bool) :
    (b.openBlock k id ld v anchor bad).get (uCamp k) F.CAMP.LAST_BLOCK_LO_ID = id % 2 ^ 32 ∧
    (b.openBlock k id ld v anchor bad).get (uCamp k) F.CAMP.LAST_BLOCK_HI_ID = id / 2 ^ 32 % 2 ^ 32 := by
  unfold openBlock
  extract_lets
  exact ⟨(get_set_apart _ (apart_off _ (by decide)) _).trans ((get_set_same _ _ (by decide) _).trans (Nat.mod_mod ..)),
    get_set_same _ _ (by decide) _⟩

/-- The leader is kept, for blocks whose own is lost, and the stream is in STREAMING (R181, R199). -/
def leaderTaken (b : Block) (k : Nat) (ld : Leader) : Block :=
  (b.setCamp k { b.camp k with leader := some ld, armedLeader := true }).campGo k 3

/-- A leader of a new block opens the block at an anchor, in the block that its other work leaves. -/
theorem gvspLeader_opens {b : Block} {k id : Nat} (hst : 2 ≤ b.campState k) (hnew : blockOld (b.camp k) id = false)
    (ts : Nat) (ld : Leader) : ∃ (t : Block) (v : CampVals) (anchor : Nat) (bad : Bool),
    b.gvspLeader k id ts ld = (t.openBlock k id ld v anchor bad).leaderTaken k ld := by
  rw [gvspLeader, if_neg (by simp [hnew, Nat.not_lt.2 hst])]
  exact ⟨_, _, _, _, rfl⟩

theorem leaderTaken_shows (b : Block) {k : Nat} (hk : k < 12) (ld : Leader) : (b.leaderTaken k ld).campState k = 3 ∧
    (b.leaderTaken k ld).get (uCamp k) F.CAMP.LAST_BLOCK_LO_ID = b.get (uCamp k) F.CAMP.LAST_BLOCK_LO_ID ∧
    (b.leaderTaken k ld).get (uCamp k) F.CAMP.LAST_BLOCK_HI_ID = b.get (uCamp k) F.CAMP.LAST_BLOCK_HI_ID :=
  ⟨campState_campGo _ hk (by decide), get_campGo _ hk 3 (by decide) (by decide) (by decide),
    get_campGo _ hk 3 (by decide) (by decide) (by decide)⟩

theorem gvspLeader_unarmed {b : Block} {k : Nat} (hst : b.campState k < 2) (id ts : Nat) (ld : Leader) :
    b.gvspLeader k id ts ld = b.gvspDrop k := by
  rw [gvspLeader, if_pos (by simp [hst])]

/-! ## Payload and trailers -/

/-- A payload packet in its turn, of the length it must have, is taken (R175). -/
theorem gvspPayload_takes {b : Block} {k pid : Nat} {data : List Nat} {c : CampBlock} (hc : (b.camp k).block = some c)
    (hopen : c.ended = false) (hst : 2 ≤ b.campState k) (harmed : (b.camp k).armedLeader = true) (hpid : c.lastPid < pid)
    (hlen : packetLength (c.lines * c.lineBytes) c.pkt pid = some data.length) :
    b.gvspPayload k c.id pid data false = b.takePayload k pid data := by
  simp [gvspPayload, hc, hopen, harmed, hpid, hlen, Nat.not_lt.2 hst]

/-- With no room in the reassembly buffer the packet is lost (R168). -/
theorem gvspPayload_full (b : Block) (k id pid : Nat) (data : List Nat) : b.gvspPayload k id pid data true = b := rfl

/-- A port whose state is replaced by one with no block open has none. -/
theorem setCamp_block_none (b : Block) (k : Nat) {c : CampSt} (hc : c.block = none) : ((b.setCamp k c).camp k).block = none := by
  rcases Nat.lt_or_ge k b.camps.length with h | h
  · rwa [camp, setCamp, nth_upd_same _ _ _ _ h]
  · rw [camp, setCamp, nth, List.getD_eq_default _ _ (by rwa [length_upd])]

theorem closeBlock_block_none (b : Block) (k : Nat) (tail : Bool) : ((b.closeBlock k tail).camp k).block = none := by
  unfold closeBlock
  split
  · assumption
  · exact setCamp_block_none _ k rfl

/-- A trailer in its turn closes the block (R176). -/
theorem gvspTrailer_closes {b : Block} {k pid : Nat} {c : CampBlock} (hc : (b.camp k).block = some c) (hopen : c.ended = false)
    (hst : 2 ≤ b.campState k) (hpid : c.lastPid < pid) (n : Nat) : b.gvspTrailer k c.id pid n =
      (b.setCamp k { b.camp k with block := some { c with lines := Nat.min c.lines n, lastPid := pid } }).closeBlock k
        (c.lastPayload == some (pid - 1)) := by
  unfold gvspTrailer
  simp only [hc]
  exact if_pos ⟨hst, trivial, hopen, hpid⟩

/-! ## Entries that close -/

/-- An emitted line counted, with what was wrong with it (R183, R188). -/
def lineCounted (b : Block) (k : Nat) (short long : Bool) (cause : Nat) : Block :=
  let b := b.inc (uCamp k) F.CAMP.CNT_LINES_COUNT
  let b := if short then b.inc (uCamp k) F.CAMP.CNT_SHORT_COUNT else b
  let b := if long then b.inc (uCamp k) F.CAMP.CNT_LONG_COUNT else b
  if cause = 0 then b else (b.inc (uCamp k) F.CAMP.CNT_LOST_COUNT).flag (uCamp k) F.CAMP.FLAGS_LOST

/-- The line of the oldest open entry leaves, and STAT.OPEN counts the others. -/
theorem emitHead_eq {b : Block} {k : Nat} {e : TrigEntry} {rest : List TrigEntry} (h : (b.camp k).entries = e :: rest)
    (short long : Bool) (cause pixfmt : Nat) (px : List RawPixel) (t0 : Nat) :
    ∃ c : CampSt, b.emitHead k short long cause pixfmt px t0 =
      ((b.setCamp k c).set (uCamp k) F.CAMP.STAT_OPEN rest.length).lineCounted k short long cause := by
  unfold emitHead
  simp only [h]
  exact ⟨_, rfl⟩

theorem get_lineCounted_open (b : Block) {k : Nat} (hk : k < 12) (short long : Bool) (cause : Nat) :
    (b.lineCounted k short long cause).get (uCamp k) F.CAMP.STAT_OPEN = b.get (uCamp k) F.CAMP.STAT_OPEN := by
  have hinc (t : Block) {f : Field} (hf : F.CAMP.STAT_OPEN.at 0 ≠ f.at 0) :
      (t.inc (uCamp k) f).get (uCamp k) F.CAMP.STAT_OPEN = t.get (uCamp k) F.CAMP.STAT_OPEN := getI_inc_apart t (apart_off _ hf)
  have hincIf (c : Bool) (t : Block) {f : Field} (hf : F.CAMP.STAT_OPEN.at 0 ≠ f.at 0) :
      (if c then t.inc (uCamp k) f else t).get (uCamp k) F.CAMP.STAT_OPEN = t.get (uCamp k) F.CAMP.STAT_OPEN := by
    split
    · exact hinc t hf
    · rfl
  unfold lineCounted
  extract_lets s₁ s₂ s₃
  have h₃ : s₃.get (uCamp k) F.CAMP.STAT_OPEN = b.get (uCamp k) F.CAMP.STAT_OPEN :=
    (hincIf long s₂ (by decide)).trans ((hincIf short s₁ (by decide)).trans (hinc b (by decide)))
  split
  · exact h₃
  · exact (getI_flag _ (uCamp_ne (by decide)) (uCamp_ne (by decide)) (show k < 256 by omega) (by decide)
      (apart_off _ (by decide))).trans ((hinc s₃ (by decide)).trans h₃)

theorem get_emitHead_open {b : Block} {k : Nat} (hk : k < 12) {e : TrigEntry} {rest : List TrigEntry}
    (h : (b.camp k).entries = e :: rest) (short long : Bool) (cause pixfmt : Nat) (px : List RawPixel) (t0 : Nat) :
    (b.emitHead k short long cause pixfmt px t0).get (uCamp k) F.CAMP.STAT_OPEN = rest.length % 2 ^ 11 := by
  obtain ⟨c, hc⟩ := emitHead_eq h short long cause pixfmt px t0
  rw [hc, get_lineCounted_open _ hk]
  exact get_set_same _ _ (by decide) _

theorem emitBlockLine_emits (b : Block) (k : Nat) (c : CampBlock) (e : TrigEntry) (i : Nat) (tail late : Bool) :
    ∃ short long cause pixfmt px t0, b.emitBlockLine k c e i tail late = b.emitHead k short long cause pixfmt px t0 :=
  ⟨_, _, _, _, _, _, rfl⟩

theorem emitFilled_emits {b : Block} {k : Nat} {e : TrigEntry} {rest : List TrigEntry} (h : (b.camp k).entries = e :: rest)
    (cause : Nat) : b.emitFilled k cause =
      b.emitHead k false false cause e.vals.pixfmt (List.replicate e.vals.width none) b.lt := by
  rw [emitFilled, h]

/-- The oldest open entry is emitted at its time-out, whatever its line has received. -/
theorem emitTimedOut_emits {b : Block} {k : Nat} {e : TrigEntry} {rest : List TrigEntry} (h : (b.camp k).entries = e :: rest) :
    ∃ short long cause pixfmt px t0, b.emitTimedOut k = b.emitHead k short long cause pixfmt px t0 := by
  unfold emitTimedOut
  simp only [h]
  split
  · split
    · exact emitBlockLine_emits ..
    · exact ⟨_, _, _, _, _, _, emitFilled_emits h 3⟩
  · exact ⟨_, _, _, _, _, _, emitFilled_emits h 3⟩

theorem entryTimeout_due {b : Block} {k : Nat} {e : TrigEntry} {rest : List TrigEntry} (h : (b.camp k).entries = e :: rest)
    (hdue : e.edge + e.vals.timeout * 1000 ≤ b.lt) : b.entryTimeout k = b.emitTimedOut k := by
  rw [entryTimeout, h]
  exact if_pos hdue

end Block

/-- Settles O37: each packet and the time-out in the state in which it is taken or dropped. -/
theorem reassemblyTakesPackets : Obligations.ReassemblyTakesPackets := by
  intro s dt k id hup hk b u
  refine ⟨fun ts ld hst hnew => ?leader, fun ts ld hst => ?unarmed, fun pid data c hc hid hopen hst harmed hpid hlen => ?payload,
    fun pid data => ?full, fun pid n c hc hid hopen hst hpid => ?trailer, fun e rest he hlen hdue => ?timeout⟩
  case leader =>
    obtain ⟨t, v, anchor, bad, ht⟩ := Block.gvspLeader_opens hst hnew ts ld
    obtain ⟨hlo, hhi⟩ := t.openBlock_shown k id ld v anchor bad
    obtain ⟨hstate, hlo', hhi'⟩ := (t.openBlock k id ld v anchor bad).leaderTaken_shows hk ld
    exact ⟨_, hup.exec_next (exec_gvspLeader dt k id ts ld s) ((if_pos hk).trans ht), hstate, hlo'.trans hlo, hhi'.trans hhi⟩
  case unarmed =>
    exact ⟨_, hup.exec_next (exec_gvspLeader dt k id ts ld s) ((if_pos hk).trans (Block.gvspLeader_unarmed hst id ts ld)),
      rfl, b.get_addI u (by decide) 1⟩
  case payload =>
    subst hid
    exact hup.exec_next (exec_gvspPayload dt k _ pid data false s)
      ((if_pos hk).trans (Block.gvspPayload_takes hc hopen hst harmed hpid hlen))
  case full => exact hup.exec_next (exec_gvspPayload dt k id pid data true s) ((if_pos hk).trans (Block.gvspPayload_full ..))
  case trailer =>
    subst hid
    exact ⟨_, hup.exec_next (exec_gvspTrailer dt k _ pid n s) ((if_pos hk).trans (Block.gvspTrailer_closes hc hopen hst hpid n)),
      Block.closeBlock_block_none ..⟩
  case timeout =>
    obtain ⟨short, long, cause, pixfmt, px, t0, ht⟩ := Block.emitTimedOut_emits he
    exact ⟨_, hup.exec_next (exec_entryTimeout dt k s) ((if_pos hk).trans ((Block.entryTimeout_due he hdue).trans ht)),
      (Block.get_emitHead_open hk he short long cause pixfmt px t0).trans (Nat.mod_eq_of_lt (by omega))⟩

end Sys2Proof.Machine

/-! # Lines triggered (R193, R194, R266, R271) -/

namespace Sys2Proof.Machine
namespace Block

/-! ## What a trigger goes by and shows -/

/-- The registers a trigger goes by and shows: WEB's, and TRIG's before the counts of cuts, without the flags. -/
def triggerReg (u : UnitId) (off : Nat) : Prop :=
  u = uWeb ∧ off < 0x4000 ∨ u = uTrig ∧ off < F.TRIG.CUT_COUNT.off ∧ off ≠ F.TRIG.FLAGS_CUT.off

/-- A write at this place leaves those registers. -/
def asideTrigger (u : UnitId) (off : Nat) : Prop := ∀ v o, triggerReg v o → regKey v o ≠ regKey u off

/-- `t` is `b` but for work beside the trigger: its registers, the decided and the triggered lines are the same, and what has
left the block stays out. -/
structure KeepsTrigger (b t : Block) : Prop where
  rd : ∀ u off, triggerReg u off → t.rd u off = b.rd u off
  decided : t.trig.decided = b.trig.decided
  lines : t.trig.lines = b.trig.lines
  out : ∀ o ∈ b.out, o ∈ t.out

theorem triggerReg_unit {u : UnitId} {off : Nat} (h : triggerReg u off) : (u = uWeb ∨ u = uTrig) ∧ off < 0x4000 := by
  rcases h with ⟨hu, ho⟩ | ⟨hu, ho, -⟩
  · exact ⟨.inl hu, ho⟩
  · exact ⟨.inr hu, ho.trans (by decide)⟩

theorem triggerReg_below {u : UnitId} {off : Nat} (h : triggerReg u off) : regKey u off < regKey uDmc 0 := by
  obtain ⟨rfl | rfl, ho⟩ := triggerReg_unit h <;> simp only [regKey, UnitType.code] <;> omega

/-- A register of another unit. -/
theorem aside_unit {u : UnitId} {off : Nat} (h : u ≠ uWeb ∧ u ≠ uTrig ∧ u.inst < 256 ∧ off < 0x4000) : asideTrigger u off := by
  intro v o hr
  obtain ⟨hw, ht, hi, ho⟩ := h
  obtain ⟨rfl | rfl, ho'⟩ := triggerReg_unit hr
  · exact regKey_ne hw.symm (by decide) hi ho' ho
  · exact regKey_ne ht.symm (by decide) hi ho' ho

theorem aside_camp {k : Nat} (hk : k < 12) {off : Nat} (ho : off < 0x4000) : asideTrigger (uCamp k) off :=
  aside_unit ⟨uCamp_ne (by decide), uCamp_ne (by decide), show k < 256 by omega, ho⟩

/-- The DRAM controller's registers and those after it, at any offset. -/
theorem aside_above {u : UnitId} (hu : regKey uDmc 0 ≤ regKey u 0) (off : Nat) : asideTrigger u off := by
  intro v o h
  have := triggerReg_below h
  simp only [regKey] at *
  omega

theorem aside_trigFlags : asideTrigger uTrig F.TRIG.FLAGS_CUT.off := by
  rintro v o (⟨rfl, ho⟩ | ⟨rfl, -, ho⟩)
  · exact regKey_ne (by decide) (by decide) (by decide) ho (by decide)
  · exact regKey_off_ne uTrig ho

theorem aside_cutCount {k : Nat} (hk : k < 12) : asideTrigger uTrig (F.TRIG.CUT_COUNT.at k) := by
  have hat : F.TRIG.CUT_COUNT.at k = F.TRIG.CUT_COUNT.off + 4 * k := rfl
  have hoff : F.TRIG.CUT_COUNT.off = 0x1C0 := rfl
  rintro v o (⟨rfl, ho⟩ | ⟨rfl, ho, -⟩)
  · exact regKey_ne (by decide) (by decide) (by decide) ho (by omega)
  · exact regKey_off_ne uTrig (by omega)

namespace KeepsTrigger

theorem refl (b : Block) : b.KeepsTrigger b := ⟨fun _ _ _ => rfl, rfl, rfl, fun _ h => h⟩

theorem trans {b t x : Block} (h : b.KeepsTrigger t) (h' : t.KeepsTrigger x) : b.KeepsTrigger x :=
  ⟨fun u off hr => (h'.rd u off hr).trans (h.rd u off hr), h'.decided.trans h.decided, h'.lines.trans h.lines,
    fun o ho => h'.out o (h.out o ho)⟩

theorem ite {c : Prop} [Decidable c] {b t x : Block} (ht : b.KeepsTrigger t) (hx : b.KeepsTrigger x) :
    b.KeepsTrigger (if c then t else x) := by
  split <;> assumption

theorem foldl {α : Type} {f : Block → α → Block} {b : Block} (l : List α)
    (h : ∀ a ∈ l, ∀ t, b.KeepsTrigger t → b.KeepsTrigger (f t a)) {s : Block} (hs : b.KeepsTrigger s) :
    b.KeepsTrigger (l.foldl f s) := by
  induction l generalizing s with
  | nil => exact hs
  | cons a r ih => exact ih (fun c hc => h c (List.mem_cons_of_mem a hc)) (h a List.mem_cons_self s hs)

/-- Nothing a trigger goes by or shows differs. -/
theorem same {b t x : Block} (h : b.KeepsTrigger t) (hr : x.regs = t.regs) (hd : x.trig.decided = t.trig.decided)
    (hl : x.trig.lines = t.trig.lines) (ho : x.out = t.out) : b.KeepsTrigger x :=
  h.trans ⟨fun u off _ => rd_congr hr u off, hd, hl, fun _ h => ho ▸ h⟩

section
variable {b t : Block} (h : b.KeepsTrigger t)
include h

theorem emit (o : Output) : b.KeepsTrigger (t.emit o) :=
  h.trans ⟨fun _ _ _ => rfl, rfl, rfl, fun _ => List.mem_cons_of_mem _⟩

theorem setI {u : UnitId} {f : Field} {i : Nat} (ha : asideTrigger u (f.at i)) (v : Nat) : b.KeepsTrigger (t.setI u f i v) :=
  h.trans ⟨fun w off hr => rd_setI_ne t (ha w off hr) v, rfl, rfl, fun _ ho => ho⟩

theorem set {u : UnitId} {f : Field} (ha : asideTrigger u (f.at 0)) (v : Nat) : b.KeepsTrigger (t.set u f v) := h.setI ha v

theorem addI {u : UnitId} {f : Field} {i : Nat} (ha : asideTrigger u (f.at i)) (n : Nat) : b.KeepsTrigger (t.addI u f i n) :=
  h.setI ha _

theorem inc {u : UnitId} {f : Field} (ha : asideTrigger u (f.at 0)) : b.KeepsTrigger (t.inc u f) := h.addI ha 1

theorem raise (p : Nat) : b.KeepsTrigger (t.raise p) := by
  refine h.trans ⟨fun u off hr => ?_, by rw [raise_trig], by rw [raise_trig], fun o ho => by rwa [raise_out]⟩
  obtain ⟨hu, ho⟩ := triggerReg_unit hr
  have hne : u ≠ uEvt ∧ u ≠ uErrlog ∧ u.inst < 256 := by rcases hu with rfl | rfl <;> decide
  exact rd_raise t hne.1 hne.2.1 hne.2.2 ho p

theorem flag {u : UnitId} {f : Field} (ha : asideTrigger u (f.at 0)) : b.KeepsTrigger (t.flag u f) := by
  unfold Block.flag
  split
  · exact h
  · split
    · exact (h.set ha 1).raise _
    · exact h.set ha 1

theorem msix (v : Nat) : b.KeepsTrigger (t.msix v) :=
  h.trans ⟨fun u off _ => rd_msix t v u off, by rw [msix_trig], by rw [msix_trig], fun _ ho => mem_out_msix ho v⟩

theorem hostIrq (f : Field) : b.KeepsTrigger (t.hostIrq f) := by
  have hset : b.KeepsTrigger (t.set uHost f 1) := h.set (aside_above (by decide) _) 1
  exact .ite hset (hset.msix 0)

/-! ## Records to the host -/

theorem tagsUpdate : b.KeepsTrigger t.tagsUpdate := by
  have huse := h.set (u := uHost) (f := F.HOST.TAGS_IN_USE) (aside_above (by decide) _) (Nat.min 16384 t.tagsHeld)
  exact .ite (huse.set (aside_above (by decide) _) _) huse

theorem setCount (n v : Nat) : b.KeepsTrigger (t.setCount n v) :=
  .ite (h.setI (aside_above (by decide) _) v) (h.setI (aside_above (by decide) _) v)

theorem access (n : Nat) (k : DmaKind) (space addr len : Nat) (data : List Nat) (err : Bool) :
    b.KeepsTrigger (t.access n k space addr len data err) := .tagsUpdate (h.same rfl rfl rfl rfl)

theorem setChan (n : Nat) (c : DmaChan) : b.KeepsTrigger (t.setChan n c) := h.same rfl rfl rfl rfl

theorem issueHost (n fuel : Nat) : b.KeepsTrigger (t.issueHost n fuel) := by
  induction fuel generalizing t with
  | zero => exact h
  | succ fuel ih =>
    unfold Block.issueHost
    dsimp only
    split
    · split
      · exact h
      · split
        · exact h
        · exact ih (.access (.emit (.setCount (h.setChan n _) n _) _) ..)
    · exact h

theorem streamFeed (i fuel : Nat) : b.KeepsTrigger (t.streamFeed i fuel) := by
  induction fuel generalizing t with
  | zero => exact h
  | succ fuel ih =>
    unfold Block.streamFeed
    extract_lets st _
    split
    · extract_lets c z drop
      split
      · exact h
      · split
        · extract_lets c'
          have hdrop : b.KeepsTrigger drop := h.same rfl rfl rfl rfl
          split
          · exact ih (hdrop.addI (aside_above (by decide) _) 1)
          · split
            · exact h.setChan _ _
            · exact ih (.issueHost (hdrop.setChan _ c') _ 2)
        · exact h
    · exact h

theorem feedAll : b.KeepsTrigger t.feedAll := .foldl _ (fun i _ _ ht => ht.streamFeed i _) h

theorem pushStream (i : Nat) (r : Rec) : b.KeepsTrigger (t.pushStream i r) := by
  unfold Block.pushStream
  extract_lets st _ s
  have hs : b.KeepsTrigger s := h.same rfl rfl rfl rfl
  exact .ite (.hostIrq (h.addI (aside_above (by decide) _) 1) _) (hs.streamFeed i _)

theorem classA (r : Rec) : b.KeepsTrigger (t.classA r) := by
  unfold Block.classA
  split
  · exact h.same rfl rfl rfl rfl
  · exact .flag (h.inc (aside_unit (by decide))) (aside_unit (by decide))

theorem classB (i : Nat) (r : Rec) : b.KeepsTrigger (t.classB i r) :=
  .ite (h.inc (aside_unit (by decide))) (h.pushStream i r)

theorem alarm (code state a0 a1 : Nat) : b.KeepsTrigger (t.alarm code state a0 a1) := by
  unfold Block.alarm
  extract_lets r _ s
  have hs : b.KeepsTrigger s := h.same rfl rfl rfl rfl
  exact (hs.classA r).classB 0 r

/-! ## The governor and the sequencer -/

theorem dramWake : b.KeepsTrigger t.dramWake := by
  unfold Block.dramWake
  extract_lets _ s
  have hs : b.KeepsTrigger s := h.same rfl rfl rfl rfl
  exact .ite (.foldl _ (fun _ _ _ ht => ht.setI (aside_above (by decide) _) 0) (hs.set (aside_above (by decide) _) 3)) hs

theorem lpUpdate : b.KeepsTrigger t.lpUpdate :=
  h.set (u := uLatgov) (f := F.LATGOV.LP_MIN_NS) (aside_unit (by decide)) _

theorem noteTrigger (n : Nat) : b.KeepsTrigger (t.noteTrigger n) := by
  unfold Block.noteTrigger
  exact .lpUpdate (h.same rfl rfl rfl rfl)

theorem govPageEnd : b.KeepsTrigger t.govPageEnd := by
  unfold Block.govPageEnd
  extract_lets s
  have hs : b.KeepsTrigger s := .ite (h.alarm ..) h
  exact hs.same rfl rfl rfl rfl

theorem pauseAbandon : b.KeepsTrigger t.pauseAbandon := by
  unfold Block.pauseAbandon
  split
  · exact (h.setI (aside_above (by decide) _) 0).same rfl rfl rfl rfl
  · exact h

theorem govSwitch (p : Nat) : b.KeepsTrigger (t.govSwitch p) := by
  unfold Block.govSwitch
  split <;> exact h.same rfl rfl rfl rfl

theorem changeBegun : b.KeepsTrigger t.changeBegun := by
  unfold Block.changeBegun
  refine .set (.pauseAbandon ?_) (aside_unit (by decide)) 1
  exact h.same rfl rfl rfl rfl

theorem pstateStart : b.KeepsTrigger t.pstateStart := by
  cases hstays : t.pstateStays with
  | true => rwa [pstateStart_stays hstays]
  | false =>
    rw [pstateStart_goes hstays]
    split
    · exact .govSwitch (.set h.changeBegun (aside_unit (by decide)) 1) _
    · exact h.changeBegun.emit _

theorem busyClear : b.KeepsTrigger t.busyClear :=
  (h.set (u := uClk) (f := F.CLK.PSTATE_BUSY) (aside_unit (by decide)) 0).same rfl rfl rfl rfl

theorem pstateEnd : b.KeepsTrigger t.pstateEnd := by
  unfold Block.pstateEnd
  extract_lets _ s
  have hs : b.KeepsTrigger s := h.same rfl rfl rfl rfl
  exact .feedAll (.pstateStart (.raise (.set hs.busyClear (aside_unit (by decide)) 0) 1))

theorem govBoundary : b.KeepsTrigger t.govBoundary := by
  unfold Block.govBoundary
  split
  · exact h
  · extract_lets _ s
    have hs : b.KeepsTrigger s := h.same rfl rfl rfl rfl
    exact .ite hs.pstateEnd hs

theorem rowStart (page row line : Nat) : b.KeepsTrigger (t.rowStart page row line) := by
  unfold Block.rowStart
  extract_lets level out r _ s
  have hs : b.KeepsTrigger s := h.same rfl rfl rfl rfl
  exact .ite (hs.inc (aside_unit (by decide))) (hs.inc (aside_unit (by decide)))

theorem rowCheck (d : Decided) : b.KeepsTrigger (t.rowCheck d) := by
  have hstart := h.govBoundary.rowStart d.page (d.pageLine / 16) d.line
  unfold Block.rowCheck
  split
  · exact .ite h hstart
  · exact hstart

/-! ## Pulses and entries -/

theorem lineCounted {k : Nat} (hk : k < 12) (short long : Bool) (cause : Nat) :
    b.KeepsTrigger (t.lineCounted k short long cause) := by
  unfold Block.lineCounted
  extract_lets s₁ s₂ s₃
  have h₁ : b.KeepsTrigger s₁ := h.inc (aside_camp hk (by decide))
  have h₂ : b.KeepsTrigger s₂ := .ite (h₁.inc (aside_camp hk (by decide))) h₁
  have h₃ : b.KeepsTrigger s₃ := .ite (h₂.inc (aside_camp hk (by decide))) h₂
  exact .ite h₃ (.flag (h₃.inc (aside_camp hk (by decide))) (aside_camp hk (by decide)))

theorem setCamp (k : Nat) (c : CampSt) : b.KeepsTrigger (t.setCamp k c) := h.same rfl rfl rfl rfl

theorem emitTimedOut {k : Nat} (hk : k < 12) (hopen : (t.camp k).entries ≠ []) : b.KeepsTrigger (t.emitTimedOut k) := by
  obtain ⟨e, rest, hcons⟩ := List.exists_cons_of_ne_nil hopen
  obtain ⟨short, long, cause, pixfmt, px, t0, ht⟩ := emitTimedOut_emits hcons
  obtain ⟨c, hc⟩ := emitHead_eq hcons short long cause pixfmt px t0
  rw [ht, hc]
  exact .lineCounted (.set (h.setCamp k c) (aside_camp hk (by decide)) _) hk ..

theorem appendEntry {k : Nat} (hk : k < 12) (line edge epoch width : Nat) (cut : Bool) :
    b.KeepsTrigger (t.appendEntry k line edge epoch width cut) := by
  unfold Block.appendEntry
  refine .ite h ?_
  extract_lets s c v es
  have hs : b.KeepsTrigger s := by
    unfold s
    split
    · next hfull =>
      refine (h.flag (aside_camp hk (by decide))).emitTimedOut hk fun hnil => ?_
      rw [camp, flag_camps, ← camp] at hnil
      rw [hnil] at hfull
      exact absurd hfull (by decide)
    · exact h
  exact .set (hs.setCamp k _) (aside_camp hk (by decide)) _

theorem cutPulse {p : Pulse} (hp : p.k < 12) (fall : Nat) : b.KeepsTrigger (t.cutPulse p fall) := by
  unfold Block.cutPulse
  extract_lets s
  have hs : b.KeepsTrigger s := h.same rfl rfl rfl rfl
  exact (hs.addI (aside_cutCount hp) 1).flag aside_trigFlags

theorem cutFor {k : Nat} (hk : k < 12) (rise : Nat) : b.KeepsTrigger (t.cutFor k rise) := by
  unfold Block.cutFor
  split
  · exact h
  · next p hpulse =>
    have hp : p.k < 12 := by
      have : p.k = k := by simpa using List.find?_some hpulse
      omega
    exact .ite h (.ite (h.cutPulse hp _) (.ite (.flag (h.cutPulse hp _) aside_trigFlags) (h.flag aside_trigFlags)))

end
end KeepsTrigger

/-! ## A line's pulses -/

/-- The rising edge of a line on an output. -/
def edgeOf (b : Block) (d : Decided) (k : Nat) : Output := .trigEdge k (b.trigLevel k true) (b.riseOf d k)

/-- After its edge an output's pulse is noted, and the entry of its line made. -/
theorem keepsTrigger_afterEdge (b : Block) (d : Decided) {k : Nat} (hk : k < 12) :
    (b.emit (b.edgeOf d k)).KeepsTrigger (b.outPulse d k) := by
  unfold outPulse
  extract_lets rise width s₁ s₂ s₃
  have h₂ : (b.emit (b.edgeOf d k)).KeepsTrigger s₂ := (KeepsTrigger.refl _).same rfl rfl rfl rfl
  have h₃ : (b.emit (b.edgeOf d k)).KeepsTrigger s₃ := h₂.appendEntry hk ..
  split
  · exact h₃.cutFor hk _
  · exact h₃

theorem keepsTrigger_outPulse (b : Block) (d : Decided) {k : Nat} (hk : k < 12) : b.KeepsTrigger (b.outPulse d k) :=
  ((KeepsTrigger.refl b).emit _).trans (b.keepsTrigger_afterEdge d hk)

/-- The settings of the outputs are the same: enabled, delay, sense. -/
def SameOutputs (b t : Block) : Prop :=
  ∀ off < F.TRIG.CUT_COUNT.off, off ≠ F.TRIG.FLAGS_CUT.off → t.rd uTrig off = b.rd uTrig off

theorem KeepsTrigger.outputs {b t : Block} (h : b.KeepsTrigger t) : b.SameOutputs t :=
  fun off ho hne => h.rd uTrig off (.inr ⟨rfl, ho, hne⟩)

theorem SameOutputs.trans {b t x : Block} (h : b.SameOutputs t) (h' : t.SameOutputs x) : b.SameOutputs x :=
  fun off ho hne => (h' off ho hne).trans (h off ho hne)

/-- A field of the outputs' first registers. -/
theorem SameOutputs.getI_out {b t : Block} (h : b.SameOutputs t) {f : Field} (hf : f.off = 0x140 ∧ f.stride = 4) {k : Nat}
    (hk : k < 12) : t.getI uTrig f k = b.getI uTrig f k := by
  refine getI_of_rd (h _ ?_ ?_) <;> simp only [Field.at, hf, F.TRIG.CUT_COUNT, F.TRIG.FLAGS_CUT] <;> omega

theorem SameOutputs.onI {b t : Block} (h : b.SameOutputs t) {k : Nat} (hk : k < 12) :
    t.onI uTrig F.TRIG.OUT_EN k = b.onI uTrig F.TRIG.OUT_EN k := by
  rw [Block.onI, h.getI_out (by decide) hk, Block.onI]

theorem SameOutputs.edgeOf {b t : Block} (h : b.SameOutputs t) (d : Decided) {k : Nat} (hk : k < 12) :
    t.edgeOf d k = b.edgeOf d k := by
  have hinvert : t.get uTrig F.TRIG.CFG_INVERT = b.get uTrig F.TRIG.CFG_INVERT := getI_of_rd (h _ (by decide) (by decide))
  rw [Block.edgeOf, Block.edgeOf, riseOf, riseOf, h.getI_out (by decide) hk, trigLevel, trigLevel, hinvert]

theorem mem_outsOn {b : Block} {k : Nat} : k ∈ b.outsOn ↔ k < 12 ∧ b.onI uTrig F.TRIG.OUT_EN k = true := by
  rw [outsOn, List.mem_filter, List.mem_range]

theorem keepsTrigger_pulses (d : Decided) (l : List Nat) (hl : ∀ a ∈ l, a < 12) (b : Block) :
    b.KeepsTrigger (l.foldl (fun s a => s.outPulse d a) b) :=
  .foldl l (fun a ha t ht => ht.trans (t.keepsTrigger_outPulse d (hl a ha))) (.refl b)

/-- Every output that pulses for a line gets the edge its settings before the first of them give. -/
theorem edge_mem_pulses (d : Decided) {k : Nat} (l : List Nat) (hl : ∀ a ∈ l, a < 12) (hk : k ∈ l) (b : Block) :
    b.edgeOf d k ∈ (l.foldl (fun s a => s.outPulse d a) b).out := by
  induction l generalizing b with
  | nil => exact absurd hk List.not_mem_nil
  | cons a r ih =>
    have hr : ∀ c ∈ r, c < 12 := fun c hc => hl c (List.mem_cons_of_mem a hc)
    have ha : a < 12 := hl a List.mem_cons_self
    rcases List.mem_cons.1 hk with rfl | hk'
    · exact (keepsTrigger_pulses d r hr _).out _ ((b.keepsTrigger_afterEdge d ha).out _ List.mem_cons_self)
    · rw [← (b.keepsTrigger_outPulse d ha).outputs.edgeOf d (hl k hk)]
      exact ih hr hk' _

/-! ## A line's trigger -/

/-- The line has left the decided ones, and WEB shows it. -/
def lineShown (b : Block) (d : Decided) : Block :=
  ({ b with trig := { b.trig with
      decided := b.trig.decided.drop 1, lines := (d :: b.trig.lines).take 2048 } } : Block).lineRegs d

/-- The governor and the page have taken the line; its pulses follow. -/
def lineReady (b : Block) (d : Decided) : Block :=
  let s := (b.lineShown d).noteTrigger d.at_
  let s := if d.first then (if s.gov.rows.isEmpty then s else s.govPageEnd).raise 9 else s
  s.rowCheck d

theorem trigLine_eq (b : Block) (d : Decided) :
    b.trigLine d = (b.lineReady d).outsOn.foldl (fun s k => s.outPulse d k) (b.lineReady d) := rfl

theorem keepsTrigger_lineReady (b : Block) (d : Decided) : (b.lineShown d).KeepsTrigger (b.lineReady d) := by
  unfold lineReady
  extract_lets s₁ s₂
  have h₁ : (b.lineShown d).KeepsTrigger s₁ := (KeepsTrigger.refl _).noteTrigger _
  have h₂ : (b.lineShown d).KeepsTrigger s₂ := .ite (.raise (.ite h₁ h₁.govPageEnd) 9) h₁
  exact h₂.rowCheck d

theorem keepsTrigger_trigLine (b : Block) (d : Decided) : (b.lineShown d).KeepsTrigger (b.trigLine d) :=
  (b.keepsTrigger_lineReady d).trans (keepsTrigger_pulses d _ (fun _ hk => (mem_outsOn.1 hk).1) _)

theorem lineShown_counters (b : Block) (d : Decided) :
    (b.lineShown d).get uWeb F.WEB.LINE_LO_VALUE = d.line % 2 ^ 32 ∧
    (b.lineShown d).get uWeb F.WEB.PAGE_VALUE = d.page % 2 ^ F.WEB.PAGE_VALUE.width ∧
    (b.lineShown d).get uWeb F.WEB.PAGE_LINE_VALUE = d.pageLine % 2 ^ F.WEB.PAGE_LINE_VALUE.width := by
  unfold lineShown lineRegs
  refine ⟨?_, ?_, get_set_same _ uWeb (by decide) _⟩
  · rw [get_set_apart _ (by decide), get_set_apart _ (by decide), get_set_apart _ (by decide), get_set_same _ _ (by decide)]
    exact Nat.mod_mod ..
  · rw [get_set_apart _ (by decide), get_set_same _ _ (by decide)]

theorem sameOutputs_lineShown (b : Block) (d : Decided) : b.SameOutputs (b.lineShown d) := by
  have hweb (t : Block) {f : Field} (hf : f.at 0 < 0x4000) (v : Nat) : t.SameOutputs (t.set uWeb f v) := fun off ho _ =>
    rd_setI_unit t (by decide) (by decide) (by decide) hf (ho.trans (by decide)) v
  exact (((hweb _ (by decide) _).trans (hweb _ (by decide) _)).trans (hweb _ (by decide) _)).trans (hweb _ (by decide) _)

/-- What WEB's counters show once a line has been triggered (R271). -/
theorem trigLine_counters (b : Block) (d : Decided) :
    (b.trigLine d).get uWeb F.WEB.LINE_LO_VALUE = d.line % 2 ^ 32 ∧
    (b.trigLine d).get uWeb F.WEB.PAGE_VALUE = d.page % 2 ^ F.WEB.PAGE_VALUE.width ∧
    (b.trigLine d).get uWeb F.WEB.PAGE_LINE_VALUE = d.pageLine % 2 ^ F.WEB.PAGE_LINE_VALUE.width := by
  have hweb {f : Field} (hf : f.at 0 < 0x4000) : (b.trigLine d).get uWeb f = (b.lineShown d).get uWeb f :=
    getI_of_rd ((b.keepsTrigger_trigLine d).rd uWeb _ (.inl ⟨rfl, hf⟩))
  rw [hweb (by decide), hweb (by decide), hweb (by decide)]
  exact b.lineShown_counters d

/-- Every enabled output gets its edge as its settings before the trigger give it (R193). -/
theorem trigLine_edges (b : Block) (d : Decided) {k : Nat} (hk : k < 12) (hon : b.onI uTrig F.TRIG.OUT_EN k = true) :
    b.edgeOf d k ∈ (b.trigLine d).out := by
  have hsame : b.SameOutputs (b.lineReady d) := (b.sameOutputs_lineShown d).trans (b.keepsTrigger_lineReady d).outputs
  rw [trigLine_eq, ← hsame.edgeOf d hk]
  exact edge_mem_pulses d _ (fun a ha => (mem_outsOn.1 ha).1) (mem_outsOn.2 ⟨hk, by rw [hsame.onI hk, hon]⟩) _

/-- Without a commit a line brings nothing into force at its trigger. -/
theorem lineTriggers_none {b : Block} (h : b.commits = []) (d : Decided) : b.lineTriggers d = b := by
  have htrig : b.commitTrigger d = b := by rw [commitTrigger, h]; rfl
  rw [lineTriggers, htrig, h]
  rfl

theorem dramWake_commits (b : Block) : b.dramWake.commits = b.commits := by
  have hchans (t : Block) (v : Nat) : (t.chanStates v).commits = t.commits := by
    rw [chanStates]
    exact foldl_keeps commits _ (fun _ _ s => setI_commits s ..) t
  unfold dramWake
  extract_lets _ s
  split
  · exact hchans _ 0
  · rfl

theorem triggerPulse_due {b : Block} {d : Decided} (h : b.dueLine = some d) :
    b.triggerPulse = ((((((b.dramWake.lineTriggers d).trigLine d).pageStart d).stitchPush d).archKeptOut d.line
      d.pageLine).pageOver).pagesSettle.commitsSettle := by
  rw [triggerPulse, h]

/-- With no commit pending the line is triggered in the block as it was, its DRAM awake. -/
theorem trigLine_noCommit {b : Block} (h : b.commits = []) (d : Decided) :
    ((b.dramWake.lineTriggers d).trigLine d).trig.decided = b.trig.decided.drop 1 ∧
    ((b.dramWake.lineTriggers d).trigLine d).trig.lines = (d :: b.trig.lines).take 2048 ∧
    ∀ k < 12, b.onI uTrig F.TRIG.OUT_EN k = true → b.edgeOf d k ∈ ((b.dramWake.lineTriggers d).trigLine d).out := by
  have hwake := (KeepsTrigger.refl b).dramWake
  have hline := b.dramWake.keepsTrigger_trigLine d
  rw [lineTriggers_none (b.dramWake_commits.trans h)]
  refine ⟨hline.decided.trans (congrArg (List.drop 1) hwake.decided),
    hline.lines.trans (congrArg (fun l => (d :: l).take 2048) hwake.lines), fun k hk hon => ?_⟩
  rw [← hwake.outputs.edgeOf d hk]
  exact trigLine_edges _ d hk (by rw [hwake.outputs.onI hk, hon])

/-! ## A pulse ends -/

theorem pulseEnd_due {b : Block} {k : Nat} {p : Pulse} (h : (b.trig.pulses.reverse.find? fun p => p.k == k && !p.done) = some p)
    (hfall : p.fall ≤ b.lt + 1) :
    b.pulseEnd k = (b.setPulse { p with done := true }).emit (.trigEdge k (b.trigLevel k false) p.fall) := by
  rw [pulseEnd, h]
  exact if_pos hfall

end Block

/-- Settles O38: what follows the line's counters in its trigger leaves them and the outputs' settings. It rests on choices of
the model: what a line brings follows its trigger, page start, stitcher, archive, page end and commits in this order (log
entries 49 and 90), and of the lines triggered the newest 2,048 are kept (log entry 74). -/
theorem triggersPulseTheOutputs : Obligations.TriggersPulseTheOutputs := by
  intro s dt hup b
  refine ⟨fun d hon hdue => ?pulse, fun k p hk hp hfall => ?pulseEnd⟩
  case pulse =>
    obtain ⟨hline, hpage, hpageLine⟩ := (b.dramWake.lineTriggers d).trigLine_counters d
    refine ⟨(b.dramWake.lineTriggers d).trigLine d, ?_, hline, hpage, hpageLine, fun hc => Block.trigLine_noCommit hc d⟩
    rw [exec_triggerPulse, State.liveOn_runs hup hon.2, Block.triggerPulse_due hdue]
  case pulseEnd =>
    exact ⟨_, hup.exec_next (exec_triggerPulseEnd dt k s) ((if_pos hk).trans (Block.pulseEnd_due hp hfall)), rfl, rfl, rfl⟩

end Sys2Proof.Machine

/-! # The time state machine (R208-R213, R229) -/

namespace Sys2Proof.Machine

/-! ## Signed fields -/

/-- n-bit two's complement is the remainder of least size by 2^n. -/
theorem sext_eq_bmod {n : Nat} (hn : 0 < n) (v : Nat) : sext n v = Int.bmod v (2 ^ n) := by
  have hp : 2 ^ n = 2 * 2 ^ (n - 1) := (mul_pow_sub_one hn.ne' 2).symm
  have hhalf : (((2 ^ n : Nat) : Int) + 1) / 2 = (2 ^ (n - 1) : Nat) := by omega
  rw [sext, Int.bmod_def, hhalf]
  norm_cast

/-- A number in the range of n-bit two's complement. -/
abbrev fitsS (n : Nat) (i : Int) : Prop := -(2 ^ (n - 1)) ≤ i ∧ i < 2 ^ (n - 1)

theorem fitsS_sext {n : Nat} (hn : 0 < n) (v : Nat) : fitsS n (sext n v) := by
  have hp : 2 ^ n = 2 * 2 ^ (n - 1) := (mul_pow_sub_one hn.ne' 2).symm
  have hlo := Int.le_bmod (x := v) (m := 2 ^ n) (by positivity)
  have hhi := Int.bmod_lt (x := v) (m := 2 ^ n) (by positivity)
  rw [← sext_eq_bmod hn] at hlo hhi
  zify at hp
  push_cast at hlo hhi
  exact ⟨by omega, by omega⟩

theorem fitsS_clampS (n : Nat) (i : Int) : fitsS n (clampS n i) := by
  have hp : (0 : Int) < 2 ^ (n - 1) := by positivity
  unfold fitsS clampS clampI
  split
  · omega
  · split
    · omega
    · omega

theorem wrapN_lt (n : Nat) (i : Int) : wrapN n i < 2 ^ n := by
  have h := Int.emod_lt_of_pos i (b := 2 ^ n) (by positivity)
  have h0 := Int.emod_nonneg i (b := 2 ^ n) (by positivity)
  rw [wrapN]
  zify
  omega

/-- A number in range reads back from its n bits. -/
theorem sext_wrapN {n : Nat} (hn : 0 < n) {i : Int} (hi : fitsS n i) : sext n (wrapN n i) = i := by
  have hp : (2 : Int) ^ n = 2 * 2 ^ (n - 1) := (mul_pow_sub_one hn.ne' 2).symm
  have hw : ((wrapN n i : Nat) : Int) = i % (2 ^ n : Nat) := by
    rw [wrapN, Int.toNat_of_nonneg (Int.emod_nonneg i (by positivity))]
    norm_cast
  rw [sext_eq_bmod hn, hw, Int.emod_bmod]
  exact Int.bmod_eq_of_le (by push_cast; omega) (by push_cast; omega)

theorem sext_mod (n v : Nat) : sext n (v % 2 ^ n) = sext n v := by
  simp only [sext, Nat.mod_mod]

namespace Block

/-- A signed field reads as the value it was set to, when that is in its range. -/
theorem getSI_putSI_same (b : Block) (u : UnitId) {f : Field} (hf : f.lo ≤ f.hi ∧ f.hi < 32) (i : Nat) {v : Int}
    (hv : fitsS f.width v) : (b.putSI u f i v).getSI u f i = v := by
  rw [getSI, putSI, getI_setI_same _ _ _ _ _ hf, sext_mod]
  exact sext_wrapN (Nat.sub_pos_of_lt (Nat.lt_succ_of_le hf.1)) hv

/-! ## Steps of the device clock -/

/-- The two words of OFFSET hold a 64-bit number (R229). -/
theorem offset_set (b : Block) {o : Nat} (ho : o < 2 ^ 64) :
    ((b.set uTime F.TIME.OFFSET_LO_VALUE (o % 2 ^ 32)).set uTime F.TIME.OFFSET_HI_VALUE (o / 2 ^ 32)).offset = sext 64 o := by
  rw [offset, get_set_apart _ (by decide), get_set_same _ _ (by decide), get_set_same _ _ (by decide)]
  exact congrArg (sext 64) (show o % 2 ^ 32 % 2 ^ 32 + o / 2 ^ 32 % 2 ^ 32 * 2 ^ 32 = o by omega)

theorem offset_set_apart (b : Block) {u : UnitId} {f : Field} (hlo : apart u f 0 uTime F.TIME.OFFSET_LO_VALUE 0 = true)
    (hhi : apart u f 0 uTime F.TIME.OFFSET_HI_VALUE 0 = true) (v : Nat) : (b.set u f v).offset = b.offset := by
  rw [offset, get_set_apart b hlo, get_set_apart b hhi, offset]

/-- The device clock stepped, before the event and the anchor that tell of it (R209, R229). -/
def stepped (b : Block) (d : Int) : Block :=
  let o := wrapN 64 (b.offset + d)
  ((b.set uTime F.TIME.OFFSET_LO_VALUE (o % 2 ^ 32)).set uTime F.TIME.OFFSET_HI_VALUE (o / 2 ^ 32)).set uTime F.TIME.FLAGS_STEP 1

theorem stepClock_eq (b : Block) (d : Int) : b.stepClock d = ((b.stepped d).raise 11).anchor true false := rfl

theorem stepped_offset (b : Block) (d : Int) : (b.stepped d).offset = sext 64 (wrapN 64 (b.offset + d)) := by
  rw [stepped, offset_set_apart _ (by decide) (by decide), offset_set _ (wrapN_lt 64 _)]

/-! ## HOLDOVER, reversion, the slew's end -/

theorem holdoverExpired_due {b : Block} (hst : b.get uTime F.TIME.STATE_STATE = 3)
    (h : (if b.on uClk F.CLK.SRC_STAT_ON_ITO then Nat.min 1 (b.get uTime F.TIME.HOLD_CFG_HOLDOVER_S)
      else b.get uTime F.TIME.HOLD_CFG_HOLDOVER_S) * 10 ^ 9 ≤ b.since b.time.holdFrom) : b.holdoverExpired = b.timeFree :=
  if_pos ⟨hst, h⟩

/-- FREE entered from a state other than LOCKED, register by register. -/
theorem timeFree_eq {b : Block} (hst : b.get uTime F.TIME.STATE_STATE ≠ 2) :
    b.timeFree = ((({ b with time := { b.time with slew := none } } : Block).set uTime F.TIME.STATE_STATE 0).set
      uTime F.TIME.STATE_SLEWING 0).set uTime F.TIME.FLAGS_FREE 1 :=
  if_neg (by simpa using hst)

/-- FREE entered from a state other than LOCKED tells so, ends a slew and keeps the rate (R208, R229). -/
theorem timeFree_enters {b : Block} (hst : b.get uTime F.TIME.STATE_STATE ≠ 2) :
    b.timeFree.get uTime F.TIME.STATE_STATE = 0 ∧ b.timeFree.get uTime F.TIME.FLAGS_FREE = 1 ∧
    b.timeFree.get uTime F.TIME.STATE_SLEWING = 0 ∧ b.timeFree.time.slew = none ∧
    b.timeFree.getI uTime F.TIME.RATE_ADJ 0 = b.getI uTime F.TIME.RATE_ADJ 0 := by
  rw [timeFree_eq hst]
  refine ⟨?state, ?flag, ?slewing, rfl, ?rate⟩
  case state => rw [get_set_apart _ (by decide), get_set_apart _ (by decide), get_set_same _ _ (by decide)]; rfl
  case flag => rw [get_set_same _ _ (by decide)]; rfl
  case slewing => rw [get_set_apart _ (by decide), get_set_same _ _ (by decide)]; rfl
  case rate =>
    exact (get_set_apart _ (by decide) _).trans ((get_set_apart _ (by decide) _).trans (get_set_apart _ (by decide) _))

theorem revertExpired_due {b : Block} {a : Nat}
    (hst : b.get uTime F.TIME.STATE_STATE = 1 ∨ b.get uTime F.TIME.STATE_STATE = 2) (hmay : b.mayLeave = true)
    (hrev : b.on uTime F.TIME.DOMAIN_CFG_REVERT = true) (hsel : b.selected ≠ b.get uTime F.TIME.DOMAIN_CFG_PRIMARY)
    (huse : b.usable (b.get uTime F.TIME.DOMAIN_CFG_PRIMARY) = true)
    (hsince : (b.tracker (b.get uTime F.TIME.DOMAIN_CFG_PRIMARY)).usableSince = some a)
    (hdue : b.get uTime F.TIME.HOLD_CFG_REVERT_S * 10 ^ 9 ≤ b.since a) :
    b.revertExpired = b.switchTo (b.get uTime F.TIME.DOMAIN_CFG_PRIMARY) := by
  refine if_pos ?_
  rw [hmay, hrev, huse, hsince]
  simpa [hst, hsel] using hdue

/-- The slew ended: the rate of the selected domain's tracker steers again (R211). -/
def slewEnded (b : Block) : Block :=
  (({ b with time := { b.time with slew := none } } : Block).set uTime F.TIME.STATE_SLEWING 0).putS uTime F.TIME.RATE_ADJ
    (b.trackRate b.selected)

theorem slewDone_due {b : Block} {a : Nat} {o : Int} (hslew : b.time.slew = some (a, o))
    (h : o.natAbs * 10 ^ 7 ≤ b.since a * b.get uTime F.TIME.SERVO_CFG_SLEW) : b.slewDone = b.slewEnded := by
  rw [slewDone, hslew]
  exact if_pos h

theorem slewEnded_slewing (b : Block) : b.slewEnded.get uTime F.TIME.STATE_SLEWING = 0 :=
  (get_set_apart _ (by decide) _).trans (get_set_same _ _ (by decide) _)

theorem slewEnded_rate (b : Block) : b.slewEnded.getSI uTime F.TIME.RATE_ADJ 0 = b.trackRate b.selected :=
  getSI_putSI_same _ _ (by decide) 0 (fitsS_sext (n := 32) (by decide) _)

/-! ## FORCE -/

theorem domainForce_stopped {b : Block} (h : b.servoRuns = false) (v : Nat) :
    b.domainForce v = b.set uTime F.TIME.DOMAIN_CTL_FORCE v := if_neg (ne_true_of_eq_false h)

/-- FORCE names domain A by 1 and domain B by 2 (R210). -/
theorem forced_set (b : Block) {v : Nat} (hv : v < 4) :
    (b.set uTime F.TIME.DOMAIN_CTL_FORCE v).forced = if v = 1 ∨ v = 2 then some (v - 1) else none := by
  rw [forced, get_set_same _ _ (by decide)]
  interval_cases v <;> rfl

/-- What follows a write of FORCE when core 2 runs, t the block with FORCE written. -/
theorem domainForce_eq {b : Block} (hrun : b.servoRuns = true) {v : Nat} (hv : v < 4) {t : Block}
    (ht : b.set uTime F.TIME.DOMAIN_CTL_FORCE v = t) :
    b.domainForce v =
      (if (v = 1 ∨ v = 2) ∧ t.selected ≠ v - 1 then
        (if t.get uTime F.TIME.STATE_STATE = 1 ∨ t.get uTime F.TIME.STATE_STATE = 2 then t.switchTo (v - 1)
          else t.selectQuiet (v - 1)) else t).timeEval := by
  have hforced := b.forced_set hv
  have hruns : (b.set uTime F.TIME.DOMAIN_CTL_FORCE v).servoRuns = true := hrun
  rw [ht] at hforced hruns
  rw [domainForce, ht, if_pos hruns, hforced]
  by_cases hnames : v = 1 ∨ v = 2
  · by_cases hsel : t.selected = v - 1
    · simp only [hnames, hsel, if_true, ne_eq, not_true_eq_false, and_false, if_false]
    · simp only [hnames, hsel, if_true, ne_eq, not_false_eq_true, and_self, if_false, apply_ite timeEval]
  · simp only [hnames, if_false, false_and]

end Block

/-- Settles O40: each command's meaning in the state it asks for is one equation, and the registers it sets are read off from
it. It rests on a choice of the model: a FORCE in FREE or HOLDOVER selects the domain without a slew (log entry 20). -/
theorem timeStateMachine : Obligations.TimeStateMachine := by
  intro s dt hup b p st
  refine ⟨fun hrun => ⟨fun hst hdue => ?holdover, fun a hst hmay hrev hsel huse hsince hdue => ?revert,
    fun a o hslew hdue => ?slewEnd, fun v hv => ?force⟩, fun hstop v => ?forceStopped, ?stepGo⟩
  case holdover =>
    refine ⟨b.timeFree, ?_, Block.timeFree_enters (by rw [show b.get uTime F.TIME.STATE_STATE = 3 from hst]; decide)⟩
    rw [exec_holdoverExpired, State.liveOn_runs hup hrun, Block.holdoverExpired_due hst hdue]
  case revert =>
    rw [exec_revertExpired, State.liveOn_runs hup hrun, Block.revertExpired_due hst hmay hrev hsel huse hsince hdue]
  case slewEnd =>
    refine ⟨b.slewEnded, ?_, b.slewEnded_slewing, rfl, b.slewEnded_rate⟩
    rw [exec_slewDone, State.liveOn_runs hup hrun, Block.slewDone_due hslew hdue]
  case force =>
    have hsel : (b.set uTime F.TIME.DOMAIN_CTL_FORCE v).selected = b.selected := Block.get_set_apart b (by decide) v
    have hst : (b.set uTime F.TIME.DOMAIN_CTL_FORCE v).get uTime F.TIME.STATE_STATE = st := Block.get_set_apart b (by decide) v
    refine ⟨b.set uTime F.TIME.DOMAIN_CTL_FORCE v, ?_, hsel, hup.exec_next (exec_domainForce dt v s) ?_⟩
    · rw [Block.get_set_same _ _ (by decide)]
      exact Nat.mod_eq_of_lt hv
    · rw [Block.domainForce_eq hrun hv rfl, hsel, hst]
  case forceStopped => exact hup.exec_next (exec_domainForce dt v s) (Block.domainForce_stopped hstop v)
  case stepGo =>
    exact ⟨b.stepped b.stagedStep, hup.exec_next (exec_stepGo dt s) (b.stepClock_eq b.stagedStep),
      b.stepped_offset b.stagedStep, Block.get_set_same _ _ (by decide) 1⟩

end Sys2Proof.Machine

/-! # PTP on the line port (R206, R207, R209, R214, R219, R222, R227) -/

namespace Sys2Proof.Machine
namespace Block

/-! ## Trackers -/

theorem tracker_setTracker (b : Block) (d : Nat) (k : Tracker) : (b.setTracker d k).tracker d = k := by
  unfold setTracker tracker
  split
  · rfl
  · rfl

/-! ## Syncs -/

/-- The tracker after a Sync of its master, the offset with ASYM_NS added (R207, R219). -/
def syncTracker (b : Block) (d seq : Nat) (iv : Int) (two : Bool) (ofs : Int) : Tracker :=
  let k := b.tracker d
  let fol := if k.due.isSome then k.followed ++ [false] else k.followed
  { k with
    lastSync := some b.lt, logSync := iv, gap := false, ingress := some (b.ingressStamp 12)
    due := if two then some seq else none
    followed := fol.drop (fol.length - 16), ofs := ofs
    steady := if k.lastSync.isSome && decide ((ofs - k.ofs).natAbs < b.lockNs) then k.steady + 1 else 0
    within := if ofs.natAbs ≤ b.lockNs then k.within + 1 else 0 }

/-- A Sync taken: the tracker, and its offset and rate shown. -/
def syncTaken (b : Block) (d seq : Nat) (iv : Int) (two : Bool) (ofs rate : Int) : Block :=
  ((b.setTracker d (b.syncTracker d seq iv two ofs)).putSI uTime F.TIME.TRACK_OFS_NS d (clampS 32 ofs)).putSI
    uTime F.TIME.TRACK_RATE_ADJ d (clampS 32 rate)

theorem syncTaken_tracker (b : Block) (d seq : Nat) (iv : Int) (two : Bool) (ofs rate : Int) :
    (b.syncTaken d seq iv two ofs rate).tracker d = b.syncTracker d seq iv two ofs :=
  tracker_setTracker b d _

theorem syncTaken_ofs (b : Block) {d : Nat} (hd : d < 2) (seq : Nat) (iv : Int) (two : Bool) (ofs rate : Int) :
    (b.syncTaken d seq iv two ofs rate).getSI uTime F.TIME.TRACK_OFS_NS d = clampS 32 ofs := by
  rw [getSI, syncTaken, putSI, getI_setI_range _ _ hd hd (by decide)]
  exact getSI_putSI_same _ _ (by decide) d (fitsS_clampS 32 ofs)

theorem syncTaken_rate (b : Block) (d seq : Nat) (iv : Int) (two : Bool) (ofs rate : Int) :
    (b.syncTaken d seq iv two ofs rate).getSI uTime F.TIME.TRACK_RATE_ADJ d = clampS 32 rate :=
  getSI_putSI_same _ _ (by decide) d (fitsS_clampS 32 rate)

/-- The block in which a Sync is judged: a Sync gap before it counts first. -/
def beforeSync (b : Block) (d : Nat) : Block := if b.syncGap d then b.announceTimeout d else b

/-- A Sync of the selected master is taken; then the servo acts and the time state is evaluated (R207-R209). -/
theorem ptpSync_master (b : Block) {c : Block} {d sender : Nat} (hc : b.beforeSync d = c) (hrun : c.servoRuns = true)
    (hm : (c.tracker d).master = some sender) (seq : Nat) (iv : Int) (two : Bool) (o : TrackerOut) {ofs : Int}
    (hofs : o.ofs + c.getS uLport F.LPORT.PTP_CFG_ASYM_NS = ofs) :
    b.ptpSync d sender seq iv two o =
      ((c.syncTaken d seq iv two ofs o.rate).servo d { o with ofs := ofs }).timeUpdate d := by
  subst hc hofs
  exact if_pos (by rw [Bool.and_eq_true]; exact ⟨hrun, beq_of_eq hm⟩)

/-! ## Follow_Ups and Delay_Resps -/

theorem ptpFollowUp_due {b : Block} {d sender seq : Nat} (hrun : b.servoRuns = true)
    (hm : (b.tracker d).master = some sender) (hdue : (b.tracker d).due = some seq) :
    b.ptpFollowUp d sender seq = (b.setTracker d { b.tracker d with
      due := none
      followed := ((b.tracker d).followed ++ [true]).drop (((b.tracker d).followed ++ [true]).length - 16) }).timeUpdate d :=
  if_pos (by simp [hrun, hm, hdue])

/-- A Delay_Resp to a Delay_Req that waits; one whose timestamp was lost does not count (R207, R222). -/
theorem ptpDelayResp_answers {b : Block} {d : Nat} {r : DelayResp} {q : Nat × Bool} (hrun : b.servoRuns = true)
    (hm : (b.tracker d).master = some r.sender) (hreq : r.requester = b.linePortId)
    (hq : ((b.tracker d).reqs.find? fun q => q.1 == r.seq) = some q) :
    b.ptpDelayResp d r =
      if q.2 then b.setTracker d { b.tracker d with reqs := (b.tracker d).reqs.erase q }
      else (b.setTracker d { b.tracker d with reqs := (b.tracker d).reqs.erase q, reqsSince := some 0 }).timeUpdate d := by
  rw [ptpDelayResp, if_pos (by simp [hrun, hm, hreq]), hq]

theorem ptpDelayResp_unasked {b : Block} {d : Nat} {r : DelayResp}
    (hq : ((b.tracker d).reqs.find? fun q => q.1 == r.seq) = none) : b.ptpDelayResp d r = b := by
  rw [ptpDelayResp, hq]
  exact ite_self b

/-! ## Announces and their timeouts -/

/-- The foreign masters with an Announce kept as its sender's one entry (R206). -/
def announced (b : Block) (d : Nat) (m : MasterInfo) : List Foreign :=
  (b.tracker d).foreign.filter (fun f => f.info.sender != m.sender) ++
    [⟨m, b.lt, ((b.tracker d).foreign.find? fun f => f.info.sender == m.sender).map (·.last)⟩]

theorem ptpAnnounce_runs {b : Block} (hrun : b.servoRuns = true) (d : Nat) (m : MasterInfo) :
    b.ptpAnnounce d m =
      ((b.setTracker d { b.tracker d with foreign := b.announced d m }).selectMaster d).timeUpdate d := if_pos hrun

theorem mem_announced (b : Block) (d : Nat) (m : MasterInfo) : ∃ f ∈ b.announced d m, f.info = m ∧ f.last = b.lt :=
  ⟨_, List.mem_append_right _ (List.mem_singleton_self _), rfl, rfl⟩

theorem announced_sender {b : Block} {d : Nat} {m : MasterInfo} {f : Foreign} (hf : f ∈ b.announced d m)
    (hs : f.info.sender = m.sender) : f.info = m := by
  rcases List.mem_append.1 hf with hold | hnew
  · have hne := (List.mem_filter.1 hold).2
    rw [hs, bne_self_eq_false] at hne
    cases hne
  · rw [List.mem_singleton.1 hnew]

/-- The tracker with a Sync gap noted (R207). -/
def gapTracker (b : Block) (d : Nat) : Tracker :=
  { b.tracker d with
    gap := (b.tracker d).gap || b.syncGap d, steady := if b.syncGap d then 0 else (b.tracker d).steady }

theorem announceTimeout_runs {b : Block} (hrun : b.servoRuns = true) (d : Nat) :
    b.announceTimeout d = ((b.setTracker d (b.gapTracker d)).selectMaster d).timeUpdate d := if_pos hrun

theorem gapTracker_late {b : Block} {d : Nat} (h : b.syncGap d = true) :
    (b.gapTracker d).gap = true ∧ (b.gapTracker d).steady = 0 := by
  simp [gapTracker, h]

/-! ## Frames -/

/-- A frame of the line port with an error: its FCS or its length is bad (R227). -/
abbrev lineError (raw : List Nat) (fcsOk : Bool) : Prop := fcsOk = false ∨ raw.length < 60 ∨ 1514 < (untag raw).length

theorem lineError_iff (raw : List Nat) (fcsOk : Bool) :
    (!fcsOk || raw.length < 60 || 1514 < (untag raw).length) = true ↔ lineError raw fcsOk := by
  simp [or_assoc]

theorem lportFrame_drops {b : Block} {raw : List Nat} {fcsOk : Bool}
    (h : lineError raw fcsOk ∨ arpFor (untag raw) b.lportIp = false ∧ b.lportPtp (untag raw) = none) (o : TrackerOut) :
    b.lportFrame raw fcsOk o = b.inc uLport F.LPORT.CNT_DROP_COUNT := by
  rw [lportFrame, if_congr (lineError_iff raw fcsOk) rfl rfl]
  by_cases hbad : lineError raw fcsOk
  · exact if_pos hbad
  · obtain ⟨harp, hptp⟩ := h.resolve_left hbad
    rw [if_neg hbad, if_neg (ne_true_of_eq_false harp), hptp]

/-- A PTP message of version 2 of one of the two domains. -/
theorem lportFrame_ptp {b : Block} {raw : List Nat} {fcsOk : Bool} {p : List Nat} {n : Nat} (hgood : ¬ lineError raw fcsOk)
    (harp : arpFor (untag raw) b.lportIp = false) (hptp : b.lportPtp (untag raw) = some p) (hver : p.getD 1 0 % 16 = 2)
    (hdom : b.domainOf (p.getD 4 256) = some n) (o : TrackerOut) :
    b.lportFrame raw fcsOk o = b.lportPtpMessage n p o := by
  rw [lportFrame, if_congr (lineError_iff raw fcsOk) rfl rfl, if_neg hgood, if_neg (ne_true_of_eq_false harp), hptp]
  exact (if_pos hver).trans (by rw [hdom])

end Block

/-- A command of core 2's firmware for domain A or B, while the core runs. -/
theorem State.upOn.exec_domain {s : State} {dt d : Nat} (hon : s.upOn dt 2) (hd : d < 2) {c : Instr} {f : Block → Block}
    {t : Block} (hc : exec c s = s.liveOn 2 dt fun b => if d < 2 then f b else b) (hf : f (s.now dt) = t) :
    exec c s = .next ⟨s.pending, t⟩ := by
  rw [hc, State.liveOn_runs hon.1 hon.2, if_pos hd, hf]

/-- Settles O39: each message's meaning is one equation that names the tracker it leaves. It rests on a choice of the model: a
Sync carries what core 2's firmware computes, and ASYM_NS is added to its offset (log entry 20). -/
theorem ptpOnTheLinePort : Obligations.PtpOnTheLinePort := by
  intro s dt d hon hd b k
  have hrun : b.servoRuns = true := hon.2
  refine ⟨?sync, fun sender seq hm hdue => ?followUp, fun r hm hreq => ⟨fun q hq => ?answered, fun hq => ?unasked⟩,
    fun info => ?announce, ?timeout, ?frame⟩
  case sync =>
    intro sender seq iv two o c ofs hruns hm
    refine ⟨c.syncTaken d seq iv two ofs o.rate, hon.exec_domain hd (exec_ptpSync dt d sender seq iv two o s)
      (b.ptpSync_master rfl hruns hm seq iv two o rfl), c.syncTaken_ofs hd seq iv two ofs o.rate,
      c.syncTaken_rate d seq iv two ofs o.rate, ?_⟩
    rw [c.syncTaken_tracker d seq iv two ofs o.rate]
    exact ⟨rfl, rfl, rfl, rfl⟩
  case followUp =>
    exact hon.exec_domain hd (exec_ptpFollowUp dt d sender seq s) (Block.ptpFollowUp_due hrun hm hdue)
  case answered =>
    exact hon.exec_domain hd (exec_ptpDelayResp dt d r s) (Block.ptpDelayResp_answers hrun hm hreq hq)
  case unasked =>
    exact hon.exec_domain hd (exec_ptpDelayResp dt d r s) (Block.ptpDelayResp_unasked hq)
  case announce =>
    refine ⟨_, hon.exec_domain hd (exec_ptpAnnounce dt d info s) (Block.ptpAnnounce_runs hrun d info), ?_⟩
    rw [Block.tracker_setTracker]
    exact ⟨b.mem_announced d info, fun f hf hs => Block.announced_sender hf hs⟩
  case timeout =>
    refine ⟨_, hon.exec_domain hd (exec_announceTimeout dt d s) (Block.announceTimeout_runs hrun d), fun hgap => ?_⟩
    rw [Block.tracker_setTracker]
    exact Block.gapTracker_late hgap
  case frame =>
    intro raw fcsOk o hport f bad
    have hexec {t : Block} (ht : b.lportFrame raw fcsOk o = t) : exec (.lportFrame dt raw fcsOk o) s = .next ⟨s.pending, t⟩ :=
      hon.1.exec_next (exec_lportFrame dt raw fcsOk o s) ((if_pos hport).trans ht)
    refine ⟨fun hdrop => ?dropped, fun p n hgood harp hptp hver hdom => ?taken⟩
    case dropped =>
      exact ⟨_, hexec (Block.lportFrame_drops hdrop o), rfl, b.inc_keepsRegs (by decide) (by decide),
        b.get_addI uLport (by decide) 1⟩
    case taken => exact hexec (Block.lportFrame_ptp hgood harp hptp hver hdom o)

end Sys2Proof.Machine

/-! # Conversions of the SENSE channels (R233, R236-R239, R241, R243) -/

namespace Sys2Proof.Machine

/-- A command on a service of a control core that runs leaves the block that its meaning leaves. -/
theorem State.upOn.exec_next {s : State} {dt k : Nat} (hon : s.upOn dt k) {c : Instr} {f : Block → Block} {t : Block}
    (hc : exec c s = s.liveOn k dt f) (hf : f (s.now dt) = t) : exec c s = .next ⟨s.pending, t⟩ := by
  rw [hc, State.liveOn_runs hon.1 hon.2, hf]

/-- A command of core 3's firmware for one of the sixteen SENSE channels. -/
theorem State.upOn.exec_channel {s : State} {dt n : Nat} (hon : s.upOn dt 3) (hn : n < 16) {c : Instr} {f : Block → Block}
    {t : Block} (hc : exec c s = s.liveOn 3 dt fun b => if n < 16 then f b else b) (hf : f (s.now dt) = t) :
    exec c s = .next ⟨s.pending, t⟩ := hon.exec_next hc ((if_pos hn).trans hf)

namespace Block

/-! ## A channel's data -/

theorem sch_setSch (b : Block) {c : Nat} (hc : c < b.sense.chans.length) (f : SenseChan → SenseChan) :
    (b.setSch c f).sch c = f (b.sch c) := nth_upd_same f _ _ _ hc

theorem sch_congr {b t : Block} (h : t.sense = b.sense) (c : Nat) : t.sch c = b.sch c := by rw [sch, h, sch]

theorem setSch_length (b : Block) (c : Nat) (f : SenseChan → SenseChan) :
    (b.setSch c f).sense.chans.length = b.sense.chans.length := length_upd f ..

/-! ## Records to the host leave SENSE -/

/-- `t` is `b` but for registers, outputs, the DMA engine and the host port. -/
def HostWork (b t : Block) : Prop := ∃ r o d h, t = { b with regs := r, out := o, dma := d, host := h }

theorem HostWork.trans {b t x : Block} (h : b.HostWork t) (h' : t.HostWork x) : b.HostWork x := by
  obtain ⟨_, _, _, _, rfl⟩ := h
  obtain ⟨_, _, _, _, rfl⟩ := h'
  exact ⟨_, _, _, _, rfl⟩

theorem HostWork.refl (b : Block) : b.HostWork b := ⟨_, _, _, _, rfl⟩

theorem hostWork_msix (b : Block) (v : Nat) : b.HostWork (b.msix v) := by
  unfold msix
  dsimp only
  split
  · split <;> exact ⟨_, _, _, _, rfl⟩
  · exact ⟨_, _, _, _, rfl⟩

theorem hostWork_hostIrq (b : Block) (f : Field) : b.HostWork (b.hostIrq f) := by
  have hset : b.HostWork (b.set uHost f 1) := ⟨_, _, _, _, rfl⟩
  unfold hostIrq
  dsimp only
  split
  · exact hset
  · exact hset.trans (hostWork_msix _ 0)

theorem hostWork_access (b : Block) (n : Nat) (k : DmaKind) (space addr len : Nat) (data : List Nat) (err : Bool) :
    b.HostWork (b.access n k space addr len data err) := by
  unfold access tagsUpdate
  dsimp only
  split <;> exact ⟨_, _, _, _, rfl⟩

theorem hostWork_issueHost (n fuel : Nat) (b : Block) : b.HostWork (b.issueHost n fuel) := by
  induction fuel generalizing b with
  | zero => exact .refl b
  | succ fuel ih =>
    unfold issueHost
    dsimp only
    split
    · split
      · exact .refl b
      · split
        · exact .refl b
        · refine .trans (.trans ?_ (hostWork_access ..)) (ih _)
          unfold setCount
          split <;> exact ⟨_, _, _, _, rfl⟩
    · exact .refl b

theorem hostWork_streamFeed (i fuel : Nat) (b : Block) : b.HostWork (b.streamFeed i fuel) := by
  induction fuel generalizing b with
  | zero => exact .refl b
  | succ fuel ih =>
    unfold streamFeed
    dsimp only
    split
    · split
      · exact .refl b
      · split
        · split
          · exact .trans ⟨_, _, _, _, rfl⟩ (ih _)
          · split
            · exact ⟨_, _, _, _, rfl⟩
            · exact .trans (.trans ⟨_, _, _, _, rfl⟩ (hostWork_issueHost _ 2 _)) (ih _)
        · exact .refl b
    · exact .refl b

theorem hostWork_classB (b : Block) (i : Nat) (r : Rec) : b.HostWork (b.classB i r) := by
  unfold classB pushStream
  dsimp only
  split
  · exact ⟨_, _, _, _, rfl⟩
  · split
    · exact .trans ⟨_, _, _, _, rfl⟩ (hostWork_hostIrq _ _)
    · exact .trans ⟨_, _, _, _, rfl⟩ (hostWork_streamFeed i _ _)

theorem classB_sense (b : Block) (i : Nat) (r : Rec) : (b.classB i r).sense = b.sense := by
  obtain ⟨_, _, _, _, h⟩ := b.hostWork_classB i r
  rw [h]

/-! ## Outputs of a converting channel (R233, R238) -/

theorem senseOutput_physical {b : Block} {c : Nat} (hc : c < 8) (hlo : 1 ≤ b.smode c) (hhi : b.smode c ≤ 4)
    (hfed : b.senseFed c = true) (mods : List Nat) :
    b.senseOutput c mods = mods.foldl (fun t w => t.senseWord c w) b :=
  (if_pos ⟨by omega, hlo, hhi, hfed⟩).trans (if_pos hc)

/-- The sources of the virtual channels are not gated. -/
theorem senseFed_virtual (b : Block) {c : Nat} (hc : 8 ≤ c) : b.senseFed c = true := by simp [senseFed, hc]

theorem senseOutput_virtual {b : Block} {c : Nat} (hc : 8 ≤ c) (hc' : c < 16) (hlo : 1 ≤ b.smode c) (hhi : b.smode c ≤ 4)
    (mods : List Nat) :
    b.senseOutput c mods = ((b.sch c).queued ++ mods.map fun _ => ((b.sch c).held, (b.sch c).heldEpoch)).foldl
      (fun t p => t.senseInput c p.1 p.2) (b.setSch c fun k => { k with queued := [] }) :=
  (if_pos ⟨hc', hlo, hhi, b.senseFed_virtual hc⟩).trans (if_neg (Nat.not_lt.2 hc))

/-! ## Single steps (R237) -/

theorem ssTrigger_begins {b : Block} {c : Nat} (hc : c < 8) (hmode : b.smode c = 5) (hfed : b.senseFed c = true)
    (hidle : (b.sch c).busy = false) : b.ssTrigger c = b.setSch c fun x => { x with busy := true, sat := false } :=
  (if_pos ⟨hc, hmode, hfed⟩).trans (if_neg (by simp [hidle]))

theorem ssTrigger_overruns {b : Block} {c : Nat} (hc : c < 8) (hmode : b.smode c = 5) (hfed : b.senseFed c = true)
    (hbusy : (b.sch c).busy = true) :
    b.ssTrigger c = (b.setI uSense F.SENSE.CH_FLAGS_SS_OVERRUN c 1).incI uSense F.SENSE.CH_SSOVR_COUNT c :=
  (if_pos ⟨hc, hmode, hfed⟩).trans (if_pos hbusy)

/-- The registers of the channels lie in SENSE's window. -/
theorem channel_at_lt {f : Field} (hf : f.stride = 0x40 ∧ f.off < 0x400) {c : Nat} (hc : c < 16) : f.at c < 0x4000 := by
  simp only [Field.at, hf]
  omega

/-- `t` shows VALID of channel c as `b`, and no conversion of it has begun or ended. -/
structure KeepsSample (c : Nat) (b t : Block) : Prop where
  valid : t.getI uSense F.SENSE.CH_VALUE_VALID c = b.getI uSense F.SENSE.CH_VALUE_VALID c
  busy : (t.sch c).busy = (b.sch c).busy

namespace KeepsSample

theorem refl (c : Nat) (b : Block) : b.KeepsSample c b := ⟨rfl, rfl⟩

section
variable {c : Nat} {b t : Block} (h : b.KeepsSample c t)
include h

theorem trans {x : Block} (h' : t.KeepsSample c x) : b.KeepsSample c x := ⟨h'.valid.trans h.valid, h'.busy.trans h.busy⟩

theorem setSch {f : SenseChan → SenseChan} (hf : ∀ k, (f k).busy = k.busy) : b.KeepsSample c (t.setSch c f) :=
  h.trans ⟨rfl, nth_upd_keeps SenseChan.busy hf ..⟩

/-- A field of another of the channel's registers. -/
theorem setI {f : Field} (hf : (f.stride == F.SENSE.CH_VALUE_VALID.stride &&
    decide (f.off % f.stride ≠ F.SENSE.CH_VALUE_VALID.off % f.stride)) = true) (v : Nat) :
    b.KeepsSample c (t.setI uSense f c v) := h.trans ⟨getI_setI_stride t uSense hf v, rfl⟩

theorem raise (hc : c < 16) (p : Nat) : b.KeepsSample c (t.raise p) :=
  h.trans ⟨getI_raise t (by decide) (by decide) (by decide) (channel_at_lt (by decide) hc) p,
    congrArg SenseChan.busy (sch_congr (raise_sense t p) c)⟩

theorem classB (hc : c < 16) (i : Nat) (r : Rec) : b.KeepsSample c (t.classB i r) := by
  have hat := channel_at_lt (f := F.SENSE.CH_VALUE_VALID) (by decide) hc
  refine h.trans ⟨?_, congrArg SenseChan.busy (sch_congr (classB_sense t i r) c)⟩
  unfold Block.classB
  split
  · exact getI_setI_unit t (by decide) (by decide) (by decide) (by decide) hat _
  · exact getI_of_rd (rd_pushStream_below (by unfold regKey; simp only [UnitType.code]; omega) t i r)

theorem senseLimits (hc : c < 16) (z : Int) : b.KeepsSample c (t.senseLimits c z) := by
  unfold Block.senseLimits
  extract_lets x hi lo s₁ s₂
  have h₁ : b.KeepsSample c s₁ := h.setSch fun _ => rfl
  have h₂ : b.KeepsSample c s₂ := by
    unfold s₂
    split
    · exact (h₁.setI (by decide) 1).raise hc _
    · exact h₁
  split
  · exact (h₂.setI (by decide) 1).raise hc _
  · exact h₂

end
end KeepsSample

theorem calSense_sense (b : Block) (c : Nat) (y : Int) : (b.calSense c y).sense = b.sense := by
  unfold calSense
  split
  · split <;> rfl
  · rfl

theorem satFlag_busy (b : Block) (c : Nat) (f : Field) (o : Bool) : ((b.satFlag c f o).sch c).busy = (b.sch c).busy := by
  unfold satFlag
  split
  · exact nth_upd_keeps SenseChan.busy (f := fun x => { x with sat := true }) (fun _ => rfl) ..
  · rfl

theorem satFlag_length (b : Block) (c : Nat) (f : Field) (o : Bool) :
    (b.satFlag c f o).sense.chans.length = b.sense.chans.length := by
  unfold satFlag
  split
  · exact setSch_length ..
  · rfl

/-- VALUE of a channel as a sample is delivered (R246). -/
def valueShown (b : Block) (c : Nat) (z : Int) (settling : Bool) : Block :=
  ((b.putSI uSense F.SENSE.CH_VALUE_Z c z).setI uSense F.SENSE.CH_VALUE_VALID c 1).setI uSense F.SENSE.CH_VALUE_SETTLING c
    (b2n settling)

theorem valueShown_valid (b : Block) (c : Nat) (z : Int) (settling : Bool) :
    (b.valueShown c z settling).getI uSense F.SENSE.CH_VALUE_VALID c = 1 :=
  (getI_setI_field _ uSense c (by decide) _).trans (getI_setI_same _ uSense _ c 1 (by decide))

/-- A sample delivered is valid, and leaves the channel busy or idle as it was. -/
theorem senseDeliver_sample (b : Block) {c : Nat} (hc : c < 16) (y : Int) (single : Bool) :
    (b.senseDeliver c y single).getI uSense F.SENSE.CH_VALUE_VALID c = 1 ∧
    ((b.senseDeliver c y single).sch c).busy = (b.sch c).busy := by
  unfold senseDeliver
  extract_lets a s₁ virt
  split
  next z o _ =>
    extract_lets s₂ x settling s₃ s₄ user div fl ep s₅ r
    have hbusy : (s₃.sch c).busy = (b.sch c).busy := by
      refine (satFlag_busy s₁ c _ o).trans (congrArg SenseChan.busy (sch_congr ?_ c))
      cases single with
      | true => rfl
      | false => exact b.calSense_sense c y
    have h₄ : s₃.KeepsSample c s₄ := by
      unfold s₄
      split
      · exact .refl c s₃
      · exact (KeepsSample.refl c s₃).senseLimits hc z
    have h₅ : s₃.KeepsSample c s₅ := h₄.setSch fun _ => rfl
    suffices h : ∀ t, s₃.KeepsSample c t →
        t.getI uSense F.SENSE.CH_VALUE_VALID c = 1 ∧ (t.sch c).busy = (b.sch c).busy by
      refine h _ ?_
      split
      · refine .classB (h₅.setSch ?_) hc 1 r
        exact fun _ => rfl
      · exact h₅
    exact fun t ht => ⟨ht.valid.trans (s₂.valueShown_valid c z settling), ht.busy.trans hbusy⟩

/-- The average of a single step is delivered, the channel idle. -/
def singleDelivered (b : Block) (c : Nat) (y : Int) : Block :=
  (b.setSch c fun x => { x with busy := false }).senseDeliver c y true

/-- The conversion has ended: SS_DONE is set and raised besides. -/
def singleEnded (b : Block) (c : Nat) (y : Int) : Block :=
  ((b.singleDelivered c y).setI uSense F.SENSE.CH_FLAGS_SS_DONE c 1).raise (104 + c)

theorem ssDone_ends {b : Block} {c : Nat} (hc : c < 8) (hbusy : (b.sch c).busy = true) (hmode : b.smode c = 5)
    (hfed : b.senseFed c = true) {mods : List Nat} (hlen : 3 + b.sget F.SENSE.CH_CFG_SS_N c ≤ mods.length) :
    ∃ (t : Block) (y : Int), b.ssDone c mods = t.singleEnded c y ∧ t.sense.chans.length = b.sense.chans.length := by
  unfold ssDone
  extract_lets n ys s₁ y s₂ s₃
  rw [if_pos ⟨hc, hbusy, hmode, hfed, hlen⟩]
  refine ⟨s₂, y, rfl, ?_⟩
  have h₁ : s₁.sense.chans.length = b.sense.chans.length := satFlag_length ..
  unfold s₂
  split <;> exact h₁

theorem singleEnded_shows {b : Block} {c : Nat} (hc : c < 16) (hlen : c < b.sense.chans.length) (y : Int) :
    (b.singleEnded c y).getI uSense F.SENSE.CH_FLAGS_SS_DONE c = 1 ∧
    (b.singleEnded c y).getI uSense F.SENSE.CH_VALUE_VALID c = 1 ∧ ((b.singleEnded c y).sch c).busy = false := by
  obtain ⟨hvalid, hbusy⟩ := (b.setSch c fun x => { x with busy := false }).senseDeliver_sample hc y true
  have hkeeps : (b.singleDelivered c y).KeepsSample c (b.singleEnded c y) :=
    ((KeepsSample.refl c _).setI (by decide) 1).raise hc _
  refine ⟨?_, hkeeps.valid.trans hvalid, hkeeps.busy.trans (hbusy.trans (congrArg SenseChan.busy (sch_setSch b hlen _)))⟩
  rw [singleEnded, getI_raise _ (by decide) (by decide) (by decide) (channel_at_lt (by decide) hc)]
  exact getI_setI_same _ uSense _ c 1 (by decide)

/-! ## Modulator overloads (R243) -/

theorem getI_clrBitI_apart (b : Block) {u u' : UnitId} {f g : Field} {i j : Nat} (h : apart u f i u' g j = true) (n : Nat) :
    (b.clrBitI u f i n).getI u' g j = b.getI u' g j := by
  unfold clrBitI
  split
  · exact getI_setI_apart b h _
  · rfl

/-- A channel's restart changes RUN and its VALID bit. -/
theorem getI_senseRestart (b : Block) {c : Nat} {g : Field} {j : Nat} (hrun : g.at j ≠ F.SENSE.STAT_RUN.at 0) :
    (b.senseRestart c).getI uSense g j = (b.setI uSense F.SENSE.CH_VALUE_VALID c 0).getI uSense g j := by
  have hapart : apart uSense F.SENSE.STAT_RUN 0 uSense g j = true := apart_off uSense hrun
  unfold senseRestart
  dsimp only
  split
  · rw [getI_clrBitI_apart _ hapart]
    rfl
  · rw [getI_setBitI_apart _ hapart]
    rfl

theorem channel_at_ne_run {f : Field} (hf : 0x200 ≤ f.off) (c : Nat) : f.at c ≠ F.SENSE.STAT_RUN.at 0 := by
  have hrun : F.SENSE.STAT_RUN.at 0 = 0x100 := rfl
  rw [hrun, Field.at]
  omega

theorem modOverload_restarts {b : Block} {c : Nat} (hc : c < 8) (hmode : b.smode c ≠ 0) (hfed : b.senseFed c = true) :
    b.modOverload c = ((b.setI uSense F.SENSE.CH_FLAGS_MOD_OVLD c 1).raise (120 + c)).senseRestart c :=
  if_pos ⟨hc, hmode, hfed⟩

theorem modOverload_shows {b : Block} {c : Nat} (hc : c < 8) (hmode : b.smode c ≠ 0) (hfed : b.senseFed c = true) :
    (b.modOverload c).getI uSense F.SENSE.CH_FLAGS_MOD_OVLD c = 1 ∧
    (b.modOverload c).getI uSense F.SENSE.CH_VALUE_VALID c = 0 := by
  rw [modOverload_restarts hc hmode hfed, getI_senseRestart _ (channel_at_ne_run (by decide) c),
    getI_senseRestart _ (channel_at_ne_run (by decide) c), getI_setI_stride _ uSense (by decide),
    getI_raise _ (by decide) (by decide) (by decide) (channel_at_lt (by decide) (by omega))]
  exact ⟨getI_setI_same b uSense _ c 1 (by decide), getI_setI_same _ uSense _ c 0 (by decide)⟩

/-! ## Values offered to a virtual channel (R238, R239) -/

theorem setI_keepsRegs (b : Block) {u : UnitId} {f : Field} {i : Nat} (hu : u.inst < 256) (hf : f.at i < 0x4000) (v : Nat) :
    b.keepsRegs (b.setI u f i v) [(u, f.at i)] := fun _ _ hi ho hne =>
  rd_setI_ne b (regKey_ne_of_place (fun h => hne (List.mem_singleton.2 h)) hi hu ho hf) v

section
variable {b : Block} {c n : Nat} {o : StatOffer} {rest : List StatOffer}

theorem virtualValue_passes (hc : 8 ≤ c) (hc' : c < 16) (hoffers : (b.sch c).offers = o :: rest)
    (hlost : (o.lost && b.onI uSense F.SENSE.CH_VIRT_SKIP_FLAGGED c) = true) :
    b.virtualValue c n = b.setSch c fun x => { x with offers := rest } := by
  unfold virtualValue
  simp only [hoffers]
  exact (if_neg (by omega)).trans (if_pos hlost)

/-- What a virtual channel holds once it has accepted an offer; the value held before waits for `n` inputs. -/
def accepted (o : StatOffer) (n lt : Nat) (x : SenseChan) : SenseChan :=
  { x with
    queued := x.queued ++ List.replicate n (x.held, x.heldEpoch)
    held := ((o.value : Int) - 32768) * 256, heldEpoch := o.epoch, lastAccept := lt, stale := false }

/-- The state once virtual channel c has accepted an offer, with those after it still to come. -/
def virtualAccepted (b : Block) (c n : Nat) (o : StatOffer) (rest : List StatOffer) : Block :=
  ((b.setSch c fun x => { x with offers := rest }).setI uSense F.SENSE.CH_FLAGS_STALE c 0).setSch c (accepted o n b.lt)

theorem virtualAccepted_sch (b : Block) {c : Nat} (hlen : c < b.sense.chans.length) (n : Nat) (o : StatOffer)
    (rest : List StatOffer) :
    (b.virtualAccepted c n o rest).sch c = accepted o n b.lt { b.sch c with offers := rest } := by
  rw [virtualAccepted, sch_setSch _ (by rwa [setI_sense, setSch_length]), sch_congr (setI_sense ..), sch_setSch b hlen]

/-- Of the registers FLAGS of the channel alone changes; STALE is cleared in it. -/
theorem virtualAccepted_regs (b : Block) {c : Nat} (hc : c < 16) (n : Nat) (o : StatOffer) (rest : List StatOffer) :
    b.keepsRegs (b.virtualAccepted c n o rest) [(uSense, F.SENSE.CH_FLAGS_STALE.at c)] ∧
    (b.virtualAccepted c n o rest).getI uSense F.SENSE.CH_FLAGS_STALE c = 0 :=
  ⟨setI_keepsRegs b (by decide) (channel_at_lt (by decide) hc) 0,
    getI_setI_same (b.setSch c fun x => { x with offers := rest }) uSense F.SENSE.CH_FLAGS_STALE c 0 (by decide)⟩

theorem virtualValue_accepts (hc : 8 ≤ c) (hc' : c < 16) (hoffers : (b.sch c).offers = o :: rest)
    (htaken : (o.lost && b.onI uSense F.SENSE.CH_VIRT_SKIP_FLAGGED c) = false) :
    b.virtualValue c n = b.virtualAccepted c n o rest := by
  unfold virtualValue
  simp only [hoffers]
  exact (if_neg (by omega)).trans (if_neg (ne_true_of_eq_false htaken))

end

theorem senseStale_late {b : Block} {c : Nat} (hc : 8 ≤ c) (hc' : c < 16) (hmode : b.smode c ≠ 0)
    (hlate : 1000000 ≤ b.since (b.sch c).lastAccept) :
    b.senseStale c = (b.setSch c fun x => { x with stale := true }).setI uSense F.SENSE.CH_FLAGS_STALE c 1 :=
  if_pos ⟨hc, hc', hmode, hlate⟩

/-! ## Bank swaps (R241) -/

/-- Channel c converts with a bank of user coefficients, and so applies a swap with an output of its own. -/
def usesBank (b : Block) (c : Nat) : Bool :=
  b.sget F.SENSE.CH_CFG_USER c == 1 && decide (1 ≤ b.smode c) && decide (b.smode c ≤ 4)

/-- The block with other data of the channels. -/
def withSense (b : Block) (x : SenseSt) : Block := { b with sense := x }

/-- Channel c goes to the other bank, and has no longer to do so. -/
def swapNoted (b : Block) (c : Nat) : Block :=
  b.withSense ⟨upd b.sense.chans c fun x => { x with bank := 1 - b.get uSense F.SENSE.BANK_STAT_ACT },
    b.sense.swapLeft.filter (· != c)⟩

/-- A channel that applies a swap while others have still to do so changes no register. -/
theorem swapApply_more {b : Block} {c : Nat} (hmore : b.sense.swapLeft.filter (· != c) ≠ []) :
    b.swapApply c = b.swapNoted c :=
  if_neg fun h => hmore (List.isEmpty_iff.1 (Bool.and_eq_true_iff.1 h).1)

/-- With the last of them the other bank is in force, and nothing more where it is the one asked for. -/
theorem swapApply_last {b : Block} {c : Nat} (hlast : b.sense.swapLeft.filter (· != c) = [])
    (hpend : b.on uSense F.SENSE.BANK_STAT_PENDING = true)
    (hsel : b.get uSense F.SENSE.BANK_CTL_SEL = 1 - b.get uSense F.SENSE.BANK_STAT_ACT) :
    b.swapApply c = ((b.swapNoted c).set uSense F.SENSE.BANK_STAT_PENDING 0).set uSense F.SENSE.BANK_STAT_ACT
      (1 - b.get uSense F.SENSE.BANK_STAT_ACT) :=
  (if_pos (Bool.and_eq_true_iff.2 ⟨List.isEmpty_iff.2 hlast, hpend⟩)).trans (if_pos hsel)

/-- Channels that apply a swap, with one left that does not, change no register. -/
theorem foldl_swapApply_more {k : Nat} (l : List Nat) (hk : k ∉ l) {b : Block} (hleft : k ∈ b.sense.swapLeft) :
    ∃ x, l.foldl swapApply b = b.withSense ⟨x, b.sense.swapLeft.filter (!l.contains ·)⟩ := by
  induction l generalizing b with
  | nil => exact ⟨b.sense.chans, by simp [withSense]⟩
  | cons c r ih =>
    rw [List.mem_cons, not_or] at hk
    have hstays : k ∈ b.sense.swapLeft.filter (· != c) := List.mem_filter.2 ⟨hleft, bne_iff_ne.2 hk.1⟩
    obtain ⟨x, hrest⟩ := ih hk.2 (b := b.swapNoted c) hstays
    have hleft' : (b.sense.swapLeft.filter (· != c)).filter (!r.contains ·) =
        b.sense.swapLeft.filter (!(c :: r).contains ·) := by
      rw [List.filter_filter]
      exact List.filter_congr fun a _ => by rw [List.contains_cons, Bool.not_or, Bool.and_comm, bne]
    refine ⟨x, ?_⟩
    rw [List.foldl_cons, swapApply_more (List.ne_nil_of_mem hstays), hrest, ← hleft']
    rfl

/-- A swap to the bank asked for is pending, and each channel has still to apply it. -/
def swapBegun (b : Block) (sel : Nat) : Block :=
  ((b.set uSense F.SENSE.BANK_CTL_SEL (sel % 2)).set uSense F.SENSE.BANK_STAT_PENDING 1).withSense
    { b.sense with swapLeft := List.range 16 }

theorem usesBank_swapBegun (b : Block) (sel : Nat) {k : Nat} (hk : k < 16) : (b.swapBegun sel).usesBank k = b.usesBank k := by
  have hkeep {f : Field} (hf : f.count = 16 ∧ 0x200 ≤ f.off) : (b.swapBegun sel).sget f k = b.sget f k := by
    have hbefore {g : Field} (hg : g.count = 1 ∧ g.stride = 0 ∧ g.off < 0x200) (t : Block) (v : Nat) :
        (t.set uSense g v).getI uSense f k = t.getI uSense f k :=
      getI_setI_range t uSense (by omega) (by omega) (by rw [hg.2.1, decide_eq_true (by omega), Bool.true_or]) v
    exact (hbefore (by decide) _ 1).trans (hbefore (by decide) b (sel % 2))
  rw [usesBank, usesBank, smode, smode, hkeep (by decide), hkeep (by decide)]

theorem swapBegun_sel (b : Block) (sel : Nat) : (b.swapBegun sel).get uSense F.SENSE.BANK_CTL_SEL = sel % 2 :=
  (get_set_apart _ (by decide) 1).trans ((get_set_same b uSense (by decide) _).trans (Nat.mod_mod ..))

theorem swapBegun_act (b : Block) (sel : Nat) :
    (b.swapBegun sel).get uSense F.SENSE.BANK_STAT_ACT = b.get uSense F.SENSE.BANK_STAT_ACT :=
  (get_set_apart _ (by decide) 1).trans (get_set_apart b (by decide) _)

theorem swapBegun_pending (b : Block) (sel : Nat) : (b.swapBegun sel).on uSense F.SENSE.BANK_STAT_PENDING = true :=
  bne_iff_ne.2 ((get_set_same _ uSense (by decide) 1).trans_ne one_ne_zero)

/-- A swap that all channels have applied: the bank asked for is in force. -/
def swapEnded (b : Block) (sel : Nat) (x : SenseSt) : Block :=
  (((b.swapBegun sel).withSense x).set uSense F.SENSE.BANK_STAT_PENDING 0).set uSense F.SENSE.BANK_STAT_ACT (sel % 2)

theorem swapEnded_shows (b : Block) (sel : Nat) (x : SenseSt) :
    (b.swapEnded sel x).get uSense F.SENSE.BANK_CTL_SEL = sel % 2 ∧
    (b.swapEnded sel x).get uSense F.SENSE.BANK_STAT_ACT = sel % 2 ∧
    (b.swapEnded sel x).get uSense F.SENSE.BANK_STAT_PENDING = 0 :=
  ⟨(get_set_apart _ (by decide) _).trans ((get_set_apart _ (by decide) _).trans (b.swapBegun_sel sel)),
    (get_set_same _ uSense (by decide) _).trans (Nat.mod_mod ..),
    (get_set_apart _ (by decide) _).trans (get_set_same _ uSense (by decide) 0)⟩

theorem foldl_swapApply_begun {b : Block} {sel : Nat} (hother : sel % 2 = 1 - b.get uSense F.SENSE.BANK_STAT_ACT) :
    ∃ x, (List.range 16).foldl swapApply (b.swapBegun sel) = b.swapEnded sel x := by
  obtain ⟨l, hmore⟩ := foldl_swapApply_more (k := 15) (List.range 15) (by simp) (b := b.swapBegun sel)
    (by simp [swapBegun, withSense])
  rw [List.range_succ (n := 15), List.foldl_append, hmore, List.foldl_cons, List.foldl_nil]
  rw [← b.swapBegun_act sel] at hother
  have hlast := swapApply_last (c := 15)
    (b := (b.swapBegun sel).withSense ⟨l, (b.swapBegun sel).sense.swapLeft.filter (!(List.range 15).contains ·)⟩) rfl
    (b.swapBegun_pending sel) ((b.swapBegun_sel sel).trans hother)
  exact ⟨_, hlast.trans (congrArg (set _ uSense F.SENSE.BANK_STAT_ACT) hother.symm)⟩

section
variable {b : Block} (hpend : b.on uSense F.SENSE.BANK_STAT_PENDING = false)
include hpend

/-- SEL written leaves BANK_STAT: no swap pending, the bank in force. -/
theorem bankStat_selWritten (v : Nat) :
    (b.set uSense F.SENSE.BANK_CTL_SEL v).get uSense F.SENSE.BANK_STAT_PENDING = 0 ∧
    (b.set uSense F.SENSE.BANK_CTL_SEL v).get uSense F.SENSE.BANK_STAT_ACT = b.get uSense F.SENSE.BANK_STAT_ACT :=
  ⟨(get_set_apart b (by decide) v).trans (bne_eq_false_iff_eq.1 hpend), get_set_apart b (by decide) v⟩

theorem bankSwap_inForce {sel : Nat} (hact : b.get uSense F.SENSE.BANK_STAT_ACT = sel % 2) :
    b.bankSwap sel = b.set uSense F.SENSE.BANK_CTL_SEL (sel % 2) :=
  if_pos (by rw [(bankStat_selWritten hpend _).2, hact, beq_self_eq_true, Bool.or_true])

/-- The channels that do not use the banks apply a swap at once. -/
theorem bankSwap_begins {sel : Nat} (hact : b.get uSense F.SENSE.BANK_STAT_ACT ≠ sel % 2) :
    b.bankSwap sel = ((List.range 16).filter fun c => !(b.swapBegun sel).usesBank c).foldl swapApply (b.swapBegun sel) := by
  obtain ⟨hp, ha⟩ := bankStat_selWritten hpend (sel % 2)
  exact if_neg (by rw [on, ← get, hp, ha]; simpa using hact)

/-- A bank asked for with no swap pending and no channel that uses the banks is in force at once. -/
theorem bankSwap_free (hfree : ∀ k < 16, b.usesBank k = false) (sel : Nat) :
    (b.bankSwap sel).get uSense F.SENSE.BANK_CTL_SEL = sel % 2 ∧
    (b.bankSwap sel).get uSense F.SENSE.BANK_STAT_ACT = sel % 2 ∧
    (b.bankSwap sel).get uSense F.SENSE.BANK_STAT_PENDING = 0 := by
  by_cases hact : b.get uSense F.SENSE.BANK_STAT_ACT = sel % 2
  · obtain ⟨hp, ha⟩ := bankStat_selWritten hpend (sel % 2)
    rw [bankSwap_inForce hpend hact]
    exact ⟨(get_set_same b uSense (by decide) _).trans (Nat.mod_mod ..), ha.trans hact, hp⟩
  · have hall : (List.range 16).filter (fun c => !(b.swapBegun sel).usesBank c) = List.range 16 :=
      List.filter_eq_self.2 fun k hk => by
        rw [b.usesBank_swapBegun _ (List.mem_range.1 hk), hfree k (List.mem_range.1 hk), Bool.not_false]
    have hbit : b.get uSense F.SENSE.BANK_STAT_ACT < 2 := b.getI_lt uSense F.SENSE.BANK_STAT_ACT 0
    obtain ⟨x, hends⟩ := foldl_swapApply_begun (b := b) (sel := sel) (by omega)
    rw [bankSwap_begins hpend hact, hall, hends]
    exact b.swapEnded_shows sel x

end

end Block

/-- Settles O42: each command's meaning in the state it asks for is one equation, and what it leaves is read off from that. It
rests on choices of the model: the services of the channels run on core 3 (log entry 24), and a swap waits only for channels in
MODE 1 to 4 with USER set (log entry 64). -/
theorem senseChannelsConvert : Obligations.SenseChannelsConvert := by
  intro s dt c hup hlen b
  have hin : c < 16 → c < b.sense.chans.length := fun h => hlen.symm ▸ h
  refine ⟨fun mods hon hlo hhi => ⟨fun hc hfed => ?physical, fun hc hc' => ?virtual⟩,
    fun hon hc hmode hfed => ⟨fun hidle => ?begins, fun hbusy => ?overruns, fun hbusy mods hbits => ?ends⟩,
    fun hon hc hmode hfed => ?overload,
    fun n o rest hon hc hc' hoffers => ⟨fun hlost => ?passed, fun htaken => ?accepted⟩,
    fun hon hc hc' hmode hlate => ?stale, fun sel hpend hfree => ?swap⟩
  case physical => exact hon.exec_next (exec_senseOutput dt c mods s) (Block.senseOutput_physical hc hlo hhi hfed mods)
  case virtual => exact hon.exec_next (exec_senseOutput dt c mods s) (Block.senseOutput_virtual hc hc' hlo hhi mods)
  case begins =>
    refine ⟨_, hon.exec_next (exec_ssGo dt c s) (Block.ssTrigger_begins hc hmode hfed hidle), ?_, rfl⟩
    rw [Block.sch_setSch b (hin (by omega))]
  case overruns =>
    refine ⟨_, hon.exec_next (exec_ssGo dt c s) (Block.ssTrigger_overruns hc hmode hfed hbusy), rfl, ?_, ?_⟩
    · exact (Block.getI_setI_stride _ uSense (by decide) _).trans (Block.getI_setI_same _ uSense _ c 1 (by decide))
    · rw [Block.getI_incI _ uSense (by decide), Block.getI_setI_stride _ uSense (by decide)]
  case ends =>
    obtain ⟨t, y, hends, hchans⟩ := Block.ssDone_ends hc hbusy hmode hfed hbits
    exact ⟨_, hon.exec_next (exec_ssDone dt c mods s) hends, Block.singleEnded_shows (by omega) (hchans ▸ hin (by omega)) y⟩
  case overload =>
    exact ⟨_, hon.exec_channel (by omega) (exec_modOverload dt c s) rfl, Block.modOverload_shows hc hmode hfed⟩
  case passed =>
    refine ⟨_, hon.exec_channel hc' (exec_virtualValue dt c n s) (Block.virtualValue_passes hc hc' hoffers hlost), rfl, ?_⟩
    rw [Block.sch_setSch b (hin hc')]
    exact ⟨rfl, rfl, rfl⟩
  case accepted =>
    refine ⟨_, hon.exec_channel hc' (exec_virtualValue dt c n s) (Block.virtualValue_accepts hc hc' hoffers htaken), ?_⟩
    obtain ⟨hregs, hstale⟩ := b.virtualAccepted_regs hc' n o rest
    rw [Block.virtualAccepted_sch b (hin hc')]
    exact ⟨rfl, hregs, hstale, rfl, rfl, rfl, rfl⟩
  case stale =>
    refine ⟨_, hon.exec_channel hc' (exec_senseStale dt c s) (Block.senseStale_late hc hc' hmode hlate),
      Block.getI_setI_same _ uSense _ c 1 (by decide), ?_⟩
    rw [Block.sch_congr (Block.setI_sense ..), Block.sch_setSch b (hin hc')]
  case swap =>
    have hfree' : ∀ k < 16, b.usesBank k = false := by
      intro k hk
      rcases hfree k hk with h | h | h <;> simp [Block.usesBank, h]
    refine ⟨_, hup.exec_next (exec_bankSwap dt sel s) rfl, ?_⟩
    have h := Block.bankSwap_free hpend hfree' (sel % 2)
    rwa [Nat.mod_mod] at h

end Sys2Proof.Machine

/-! # The position of the web (R253-R255, R260, R262, R263, R269, R270) -/

namespace Sys2Proof.Machine
namespace Block

/-! ## Commands at the encoder inputs (R270) -/

/-- What the encoder inputs show leaves in every state; core 3's part follows only while the core runs. -/
theorem passed_eq (b : Block) (os : List Output) (k : Nat) (f : Block → Block) :
    b.passed os k f = if (b.cored && nth b.boot.cores k false) = true then f (b.emits os) else b.emits os := by
  simp only [passed, cored, get, emits_boot, getI_emits]
  rfl

end Block

/-- A command at the encoder inputs while the core that serves them runs. -/
theorem State.upOn.exec_passed {s : State} {dt k : Nat} (hon : s.upOn dt k) {c : Instr} {os : List Output} {f : Block → Block}
    {t : Block} (hc : exec c s = s.run dt fun b => b.passed os k f) (hf : f ((s.now dt).emits os) = t) :
    exec c s = .next ⟨s.pending, t⟩ := by
  have hruns : ((s.now dt).cored && nth (s.now dt).boot.cores k false) = true := by rw [hon.1, hon.2, Bool.and_self]
  rw [hc, State.run, Block.passed_eq, if_pos hruns, hf]

/-- A command at the encoder inputs while the core that serves them does not run. -/
theorem State.exec_passed_stopped {s : State} {dt k : Nat} {c : Instr} {os : List Output} {f : Block → Block}
    (hoff : ((s.now dt).cored && nth (s.now dt).boot.cores k false) = false)
    (hc : exec c s = s.run dt fun b => b.passed os k f) : exec c s = .next ⟨s.pending, (s.now dt).emits os⟩ := by
  rw [hc, State.run, Block.passed_eq, if_neg (ne_true_of_eq_false hoff)]

theorem exec_zIndex_input {e : Nat} (he : e < 2) (dt : Nat) (s : State) :
    exec (.zIndex dt e) s = s.run dt fun b => b.passed [.encoderZ e] 3 fun t => t.zIndex e := by
  rw [exec_zIndex, if_pos he]

theorem exec_quadratureEdge_input {e : Nat} (he : e < 2) (dt : Nat) (a z : Bool) (s : State) :
    exec (.quadratureEdge dt e a z) s =
      s.run dt fun b => b.passed [.encoderAB e a z] 3 fun t => t.quadratureEdge e a z := by
  rw [exec_quadratureEdge, if_pos he]

namespace Block

/-- The registers of the two encoders lie in WEB's window. -/
theorem encoder_at_lt {f : Field} (hf : f.stride = 0x40 ∧ f.off < 0x400) {e : Nat} (he : e < 2) : f.at e < 0x4000 := by
  simp only [Field.at, hf]
  omega

/-! ## The observer (R255, R269) -/

/-- With the ring as source an update does no more than measure. -/
theorem observerGo_ring {b : Block} (h : 4 ≤ b.web.src) : b.observerGo = b := if_pos h

/-- A tracking observer whose source is without fault takes the measurement, offset to the estimate it goes on from. -/
theorem obsUpdate_tracks {b : Block} {z : Int} (htracks : b.obsState = 2) (hgood : b.srcFault b.web.src = false)
    (hmeas : b.srcMeas b.web.src = some z) : b.obsUpdate = b.obsTrack (z + b.web.ofs) := by
  simp [obsUpdate, hmeas, htracks, hgood]

/-! ## The end of a coast (R260) -/

/-- An alarm leaves WEB's registers. -/
theorem get_alarm_web (b : Block) {f : Field} (hf : f.at 0 < 0x4000) (code state a0 a1 : Nat) :
    (b.alarm code state a0 a1).get uWeb f = b.get uWeb f :=
  getI_of_rd (((KeepsTrigger.refl b).alarm code state a0 a1).rd uWeb _ (.inl ⟨rfl, hf⟩))

theorem obsState_faultStart (b : Block) : b.faultStart.obsState = 4 :=
  calc b.faultStart.obsState
    _ = ((b.set uWeb F.WEB.STATE_OBS 4).flag uWeb F.WEB.FLAGS_FAULT).get uWeb F.WEB.STATE_OBS :=
      get_alarm_web _ (by decide) ..
    _ = (b.set uWeb F.WEB.STATE_OBS 4).get uWeb F.WEB.STATE_OBS :=
      getI_flag _ (by decide) (by decide) (by decide) (by decide) (by decide)
    _ = 4 := get_set_same b uWeb (by decide) 4

theorem obsState_set (b : Block) {f : Field} (h : apart uWeb f 0 uWeb F.WEB.STATE_OBS 0 = true) (v : Nat) :
    (b.set uWeb f v).obsState = b.obsState := get_set_apart b h v

theorem obsState_hwmReport (b : Block) : b.hwmReport.obsState = b.obsState := by
  unfold hwmReport
  split
  · rfl
  · rw [obsState_set _ (by decide), obsState_set _ (by decide)]

/-- What the registers report leaves the observer's state. -/
theorem obsState_webReport (b : Block) : b.webReport.obsState = b.obsState := by
  unfold webReport
  extract_lets p s₁ s₂ st quiet v a s₃ creep vn s₄ s₅ w s₆
  have h₁ : s₁.obsState = b.obsState := by rw [obsState_set _ (by decide), obsState_set _ (by decide)]
  have h₂ : s₂.obsState = b.obsState := (obsState_hwmReport s₁).trans h₁
  have h₃ : s₃.obsState = b.obsState :=
    (obsState_set _ (by decide) _).trans ((obsState_set _ (by decide) _).trans h₂)
  have h₅ : s₅.obsState = b.obsState := by rw [obsState_set _ (by decide), obsState_set _ (by decide), h₃]
  exact (obsState_set s₆ (by decide) _).trans h₅

theorem coastTimeout_due {b : Block} (hcoasts : b.obsState = 3) (hlong : 50000000 ≤ b.since b.web.coastFrom) :
    b.coastTimeout.obsState = 4 := by
  rw [coastTimeout, if_pos ⟨hcoasts, hlong⟩, obsState_webReport, obsState_faultStart]

/-- The axes learn of a coast that has lasted 50 ms (R453). -/
theorem coastEnd_due {b : Block} (hcoasts : b.obsState = 3) (hlong : 50000000 ≤ b.since b.web.coastFrom) :
    b.coastEnd = b.coastTimeout.axesWebFault :=
  if_pos ⟨by rw [hcoasts]; decide, coastTimeout_due hcoasts hlong⟩

/-! ## Page starts by PAGE_SYNCn (R262, R263) -/

/-- An edge sooner than the filter, or with the ring as source, has no effect. -/
theorem pageSync_ignored {b : Block} {ago : Nat} (h : ago < b.get uWeb F.WEB.PAGE_CFG_SYNC_FILT * 100 ∨ 4 ≤ b.web.src) :
    b.pageSync ago = b := if_pos h

/-- The page start of an edge `ago` ns back, of which the observer's report `r` is kept. -/
def syncStart (b : Block) (ago : Nat) (r : WebPast) : Int :=
  r.p + r.v * ((b.since r.at_ : Int) - ago) / (10 ^ 9 : Int) + b.getS uWeb F.WEB.PAGE_OFFSET_UM * 1000 * 65536

section
variable {b : Block} {ago : Nat} (hlong : b.get uWeb F.WEB.PAGE_CFG_SYNC_FILT * 100 ≤ ago) (hown : b.web.src < 4)
  (hmode : b.web.mode1 = false)
include hlong hown hmode

/-- An edge of which no report is kept, or whose report is of IDLE or FAULT, is counted. -/
theorem pageSync_counts (hpast : ∀ r, b.webPast ago = some r → r.obs = 0 ∨ r.obs = 4) :
    b.pageSync ago = b.inc uWeb F.WEB.CNT_SYNC_IGN_COUNT := by
  rw [pageSync, if_neg (by omega), if_neg (by simp [hmode])]
  split
  · rfl
  · next r hr => exact if_pos (hpast r hr)

/-- The first page start, with room for it. -/
theorem pageSync_starts {r : WebPast} (hpast : b.webPast ago = some r) (hidle : r.obs ≠ 0) (hfault : r.obs ≠ 4)
    (hfirst : b.web.lastStart = none) (hroom : b.web.pend.length < 8) :
    b.pageSync ago = (b.startQueue (b.syncStart ago r)).set uWeb F.WEB.STATE_PEND (b.web.pend.length + 1) := by
  rw [pageSync, if_neg (by omega), if_neg (by simp [hmode])]
  simp only [hpast, hfirst]
  rw [if_neg (by simp [hidle, hfault]), if_neg Bool.false_ne_true, if_neg (by omega)]
  rfl

end

/-! ## Index and quadrature edges (R253, R254) -/

/-- A rising edge of Z latches the position and counts. -/
theorem zIndex_eq (b : Block) {e : Nat} (he : e < 2) : ∃ lo hi,
    b.zIndex e = ((b.setI uWeb F.WEB.ENC_ZPOS_LO_VALUE e lo).setI uWeb F.WEB.ENC_ZPOS_HI_VALUE e hi).setI
      uWeb F.WEB.ENC_STAT_Z_COUNT e (b.getI uWeb F.WEB.ENC_STAT_Z_COUNT e + 1) := by
  unfold zIndex
  rw [if_neg (by omega)]
  extract_lets src k dig m w t
  have hcount : t.getI uWeb F.WEB.ENC_STAT_Z_COUNT e = b.getI uWeb F.WEB.ENC_STAT_Z_COUNT e := by
    rw [getI_setI_stride _ uWeb (by decide), getI_setI_stride _ uWeb (by decide)]
  rw [hcount]
  exact ⟨_, _, rfl⟩

theorem zIndex_web (b : Block) {e : Nat} (he : e < 2) : (b.zIndex e).web = b.web := by
  obtain ⟨lo, hi, h⟩ := b.zIndex_eq he
  rw [h, setI_web, setI_web, setI_web]

theorem zIndex_out (b : Block) {e : Nat} (he : e < 2) : (b.zIndex e).out = b.out := by
  obtain ⟨lo, hi, h⟩ := b.zIndex_eq he
  rw [h, setI_out, setI_out, setI_out]

theorem zIndex_count (b : Block) {e : Nat} (he : e < 2) : (b.zIndex e).getI uWeb F.WEB.ENC_STAT_Z_COUNT e =
    (b.getI uWeb F.WEB.ENC_STAT_Z_COUNT e + 1) % 2 ^ F.WEB.ENC_STAT_Z_COUNT.width := by
  obtain ⟨lo, hi, h⟩ := b.zIndex_eq he
  rw [h, getI_setI_same _ uWeb _ e _ (by decide)]

theorem enc_setEnc (b : Block) {e : Nat} (he : e < b.web.encs.length) (f : EncSt → EncSt) :
    (b.setEnc e f).enc e = f (b.enc e) := nth_upd_same f _ _ _ he

theorem enc_congr {b t : Block} (h : t.web = b.web) (e : Nat) : t.enc e = b.enc e := by rw [enc, h, enc]

/-- The levels of A and B taken and the count moved on. -/
def levelsTaken (b : Block) (e : Nat) (a z : Bool) : Block :=
  b.setEnc e fun k => { k with a := a, b := z, count := k.count + quadStep k.a k.b a z }

theorem quadratureEdge_eq (b : Block) {e : Nat} (he : e < 2) (a z : Bool) :
    b.quadratureEdge e a z = if (a != (b.enc e).a && z != (b.enc e).b) = true then
      ((b.levelsTaken e a z).incI uWeb F.WEB.ENC_QERR_COUNT e).flag uWeb F.WEB.FLAGS_QUAD_ERR
    else b.levelsTaken e a z := if_neg (by omega)

theorem quadratureEdge_web (b : Block) {e : Nat} (he : e < 2) (a z : Bool) :
    (b.quadratureEdge e a z).web = (b.levelsTaken e a z).web := by
  rw [b.quadratureEdge_eq he]
  split
  · rw [flag_web, incI_web]
  · rfl

theorem quadratureEdge_errors (b : Block) {e : Nat} (he : e < 2) {a z : Bool} (ha : a ≠ (b.enc e).a) (hz : z ≠ (b.enc e).b) :
    (b.quadratureEdge e a z).getI uWeb F.WEB.ENC_QERR_COUNT e =
      satAdd F.WEB.ENC_QERR_COUNT.max (b.getI uWeb F.WEB.ENC_QERR_COUNT e) 1 := by
  have hplace : F.WEB.ENC_QERR_COUNT.at e ≠ F.WEB.FLAGS_QUAD_ERR.at 0 := by
    simp only [Field.at, F.WEB.ENC_QERR_COUNT, F.WEB.FLAGS_QUAD_ERR]
    omega
  rw [b.quadratureEdge_eq he, if_pos (by simp [ha, hz]), getI_flag _ (by decide) (by decide) (by decide)
    (encoder_at_lt (by decide) he) (apart_off uWeb hplace), getI_incI _ uWeb (by decide)]
  rfl

end Block

/-- Settles O43: each command's meaning in the state it asks for is one equation, and what it leaves is read off from that. It
rests on choices of the model: products rounded down and A before B counting up (log entry 10), the position's services on core
3 (log entry 24), no page start by a member's own edge while the ring is its source (log entry 44), an edge that goes by the
update at or before it (log entry 45), and a count that stays when both levels change (log entry 46). -/
theorem webPositionIsTracked : Obligations.WebPositionIsTracked := by
  intro s dt b sinCos
  refine ⟨fun hoff => ⟨fun e0 e1 => ?sinCosShown, fun e he => ?zShown, fun e he a z => ?levelsShown⟩,
    fun hon hlen => ⟨fun e0 e1 => ⟨?update, fun z htracks hgood hmeas => ?gains⟩,
      fun hcoasts hlong => ⟨?coast, ?fault⟩,
      fun ago => ⟨fun hsoon => ?ignored, fun hlong hown hmode => ⟨fun hpast => ?counted,
        fun r hpast hidle hfault hfirst hroom => ?started⟩⟩,
      fun e he => ?index, fun e a z he => ?quadrature⟩⟩
  case sinCosShown => exact State.exec_passed_stopped hoff (exec_observerUpdate dt e0 e1 s)
  case zShown => exact State.exec_passed_stopped hoff (exec_zIndex_input he dt s)
  case levelsShown => exact State.exec_passed_stopped hoff (exec_quadratureEdge_input he dt a z s)
  case update =>
    refine hon.exec_passed (exec_observerUpdate dt e0 e1 s) ?_
    split
    · next hring => exact Block.observerGo_ring hring
    · rfl
  case gains =>
    rw [Block.obsUpdate_tracks htracks hgood hmeas]
    exact ⟨rfl, rfl⟩
  case coast => exact hon.exec_next (exec_coastTimeout dt s) (Block.coastEnd_due hcoasts hlong)
  case fault => exact Block.coastTimeout_due hcoasts hlong
  case ignored => exact hon.exec_next (exec_pageSync dt ago s) (Block.pageSync_ignored hsoon)
  case counted =>
    exact ⟨_, hon.exec_next (exec_pageSync dt ago s) (Block.pageSync_counts hlong hown hmode hpast), rfl,
      b.get_addI uWeb (by decide) 1⟩
  case started =>
    have hexec := hon.exec_next (exec_pageSync dt ago s)
      (Block.pageSync_starts hlong hown hmode hpast hidle hfault hfirst hroom)
    have hfits : b.web.pend.length + 1 < 2 ^ F.WEB.STATE_PEND.width := (Nat.succ_lt_succ hroom).trans_le (by decide)
    exact ⟨_, hexec, rfl, rfl, (Block.get_set_same _ uWeb (by decide) _).trans (Nat.mod_eq_of_lt hfits)⟩
  case index =>
    exact ⟨_, hon.exec_passed (exec_zIndex_input he dt s) rfl, Block.zIndex_web _ he, Block.zIndex_out _ he,
      Block.zIndex_count _ he⟩
  case quadrature =>
    have henc := (Block.enc_congr (Block.quadratureEdge_web (b.emit (.encoderAB e a z)) he a z) e).trans
      (Block.enc_setEnc _ (hlen.symm ▸ he) _)
    refine ⟨_, hon.exec_passed (exec_quadratureEdge_input he dt a z s) rfl, ?_⟩
    refine ⟨congrArg EncSt.a henc, congrArg EncSt.b henc, congrArg EncSt.count henc, fun ha hz => ?_⟩
    exact Block.quadratureEdge_errors (b.emit (.encoderAB e a z)) he ha hz

end Sys2Proof.Machine

/-! # The reference store (R332, R336-R338, R348, R382) -/

namespace Sys2Proof.Machine
namespace Block

/-! ## What the DRAM leaves of the store -/

/-- The reference store, and the count of the bytes its ingest ports discard. -/
def storeView (b : Block) : RefsSt × Nat := (b.refs, b.get uRefs F.REFS.CNT_OVERRUN_COUNT)

theorem setI_storeView (b : Block) {u : UnitId} {f : Field} {i : Nat} (hu : u ≠ uRefs ∧ u.inst < 256) (ho : f.at i < 0x4000)
    (v : Nat) : (b.setI u f i v).storeView = b.storeView :=
  congrArg (Prod.mk b.refs) (getI_setI_unit b hu.1.symm hu.2 (by decide) ho (by decide) v)

theorem dramWake_storeView (b : Block) : b.dramWake.storeView = b.storeView := by
  have hchan : ∀ c ∈ List.range 16, ∀ t : Block, (t.setI uDmc F.DMC.CH_STAT_STATE c 0).storeView = t.storeView := by
    intro c hc t
    refine t.setI_storeView (by decide) ?_ 0
    have := List.mem_range.1 hc
    simp only [Field.at, F.DMC.CH_STAT_STATE]
    omega
  unfold dramWake
  dsimp only
  split
  · exact (foldl_keeps storeView _ hchan _).trans (setI_storeView _ (by decide) (by decide) 3)
  · rfl

theorem dramUe_storeView (b : Block) (g : Nat) : (b.dramUe g).storeView = b.storeView := by
  refine Prod.ext ?_ ?_
  · simp only [dramUe, storeView, log_refs, flagRaise_refs, set_refs, inc_refs]
  · unfold dramUe
    refine (getI_log _ (by decide) (by decide) (by decide) ..).trans ?_
    refine (getI_flagRaise _ (by decide) (by decide) (by decide) (by decide) (by decide)).trans ?_
    exact congrArg Prod.snd ((setI_storeView _ (by decide) (by decide) _).trans
      ((setI_storeView _ (by decide) (by decide) _).trans (setI_storeView b (by decide) (by decide) _)))

theorem granRead_storeView (b : Block) (g flips : Nat) : (b.granRead g flips).2.2.storeView = b.storeView := by
  unfold granRead
  extract_lets n wild keep
  split_ifs
  · rfl
  · rfl
  · exact (setI_storeView _ (by decide) (by decide) 1).trans (setI_storeView (keep b 0) (by decide) (by decide) _)
  · exact dramUe_storeView (keep b n) g
  · rfl

theorem dramRead_storeView (b : Block) (a n : Nat) : (b.dramRead a n).2.2.storeView = b.storeView := by
  unfold dramRead
  extract_lets first last hit step
  have hstep : ∀ x g, (step x g).2.2.storeView = x.2.2.storeView := fun x g => granRead_storeView x.2.2 g 0
  clear_value step
  split_ifs
  · rfl
  · exact dramWake_storeView b
  · exact (foldl_keeps (fun x : List Nat × List Nat × Block => x.2.2.storeView) _ (fun g _ x => hstep x g) _).trans
      (dramWake_storeView b)

theorem dramWrite_storeView (b : Block) (a : Nat) (l : List Nat) : (b.dramWrite a l).2.storeView = b.storeView := by
  unfold dramWrite
  extract_lets n first last hit wake _ step
  have hstep : ∀ x g, (step x g).2.storeView = x.2.storeView := by
    intro x g
    unfold step
    extract_lets t lo hi part put
    split
    · rfl
    · dsimp only
      split <;> exact granRead_storeView x.2 g 0
  clear_value step
  split_ifs
  · rfl
  · exact dramWake_storeView b
  · exact (foldl_keeps (fun x : Bool × Block => x.2.storeView) _ (fun g _ x => hstep x g) _).trans (dramWake_storeView b)

theorem mapWrite_storeView (b : Block) (units : List Nat) (n : Nat) (l : List Nat) (fuel : Nat) :
    (b.mapWrite units n l fuel).storeView = b.storeView := by
  induction fuel generalizing b n l with
  | zero => rfl
  | succ fuel ih =>
    unfold mapWrite
    split
    · rfl
    · exact (ih ..).trans (dramWrite_storeView ..)

/-! ## Ingest ports (R336, R382) -/

/-- Bytes discarded count, up to the counter's largest value, and leave the store; beyond a load they are flagged. -/
theorem overrun_spec (b : Block) (n : Nat) (beyond : Bool) :
    (b.overrun n beyond).refs = b.refs ∧
      (b.overrun n beyond).get uRefs F.REFS.CNT_OVERRUN_COUNT =
        satAdd F.REFS.CNT_OVERRUN_COUNT.max (b.get uRefs F.REFS.CNT_OVERRUN_COUNT) n ∧
      (beyond = true → 0 < n → (b.overrun n beyond).get uRefs F.REFS.FLAGS_OVERRUN = 1) := by
  have hcount := b.get_addI uRefs (f := F.REFS.CNT_OVERRUN_COUNT) (by decide) n
  unfold overrun
  split
  case isTrue hn =>
    have hlt := b.getI_lt uRefs F.REFS.CNT_OVERRUN_COUNT 0
    refine ⟨rfl, ?_, fun _ hpos => absurd hn (Nat.ne_of_gt hpos)⟩
    rw [hn, satAdd, Nat.add_zero]
    exact (Nat.min_eq_right (Nat.le_sub_one_of_lt hlt)).symm
  case isFalse =>
    cases beyond
    · exact ⟨rfl, hcount, fun h => absurd h Bool.false_ne_true⟩
    · exact ⟨flag_refs .., (getI_flag _ (by decide) (by decide) (by decide) (by decide) (by decide)).trans hcount,
        fun _ _ => on_flag _ (by decide) (by decide) (by decide) (by decide) (by decide) (by decide)⟩

theorem length_sub_length_take {α : Type} (l : List α) (room : Nat) : l.length - (l.take room).length = l.length - room := by
  rw [List.length_take]
  omega

/-- A load slot with more of its stream. -/
def slotFed (x : LoadSlot) (l : List Nat) : LoadSlot := { x with fed := x.fed + l.length, buf := x.buf ++ l }

/-- A map with `n` more bytes of its stream. -/
def mapFed (n : Nat) (m : MapEntry) : MapEntry := { m with fed := m.fed + n }

section
variable {b : Block} (l : List Nat)

theorem ingestRef_loading {i h : Nat} {e : RefEntry} (hh : (b.slot i).handle = some h) (he : b.refOf h = some e) :
    b.ingestRef i l = (b.setSlot i (slotFed (b.slot i) (l.take (e.streamBytes - (b.slot i).fed)))).overrun
      (l.length - (e.streamBytes - (b.slot i).fed)) true := by
  simp only [ingestRef, hh, he, Option.bind_some, length_sub_length_take, slotFed]

theorem ingestRef_idle {i : Nat} (hh : (b.slot i).handle = none) : b.ingestRef i l = b.overrun l.length false := by
  simp only [ingestRef, hh, Option.bind_none]

/-- The bytes the map has room for go to the DRAM, which leaves the store and the count of discarded bytes. -/
theorem ingestMap_loading {m : MapEntry} (hm : b.refs.maps.find? (fun m => m.state == 1) = some m) :
    ∃ t : Block, t.storeView = b.storeView ∧ b.ingestMap l =
      (t.setMap m.id (mapFed (l.take (mapBytes m - m.fed)).length)).overrun (l.length - (mapBytes m - m.fed)) true := by
  refine ⟨_, mapWrite_storeView b m.units m.fed (l.take (mapBytes m - m.fed))
    ((l.take (mapBytes m - m.fed)).length / 65536 + 2), ?_⟩
  simp only [ingestMap, hm, length_sub_length_take]
  rfl

theorem ingestMap_idle (hm : ∀ m ∈ b.refs.maps, m.state ≠ 1) : b.ingestMap l = b.overrun l.length false := by
  have hnone : b.refs.maps.find? (fun m => m.state == 1) = none := List.find?_eq_none.2 fun m hmem => by simpa using hm m hmem
  simp only [ingestMap, hnone]

end

theorem mem_setMap {b : Block} {m : MapEntry} (h : m ∈ b.refs.maps) (f : MapEntry → MapEntry) :
    f m ∈ (b.setMap m.id f).refs.maps := List.mem_map.2 ⟨m, h, if_pos rfl⟩

theorem ingest_ref (b : Block) {i : Nat} (hi : i < 4) (l : List Nat) : b.ingest i l = b.ingestRef i l := if_pos hi

theorem ingest_map (b : Block) (l : List Nat) : b.ingest 4 l = b.ingestMap l := rfl

/-! ## The encoder (R337, R338) -/

theorem slot_congr {b t : Block} (h : t.refs = b.refs) (i : Nat) : t.slot i = b.slot i := by rw [slot, slot, h]

theorem slot_setSlot (b : Block) {i : Nat} (hi : i < b.refs.slots.length) (x : LoadSlot) : (b.setSlot i x).slot i = x :=
  nth_upd_same _ _ _ _ hi

theorem encReady_lt {b : Block} {i : Nat} {e : RefEntry} (h : b.encReady = some (i, e)) : i < 4 := by
  obtain ⟨k, hk, hslot⟩ := List.exists_of_findSome?_eq_some h
  obtain ⟨c, -, rfl⟩ := List.mem_map.1 hk
  obtain ⟨e', -, he'⟩ := Option.bind_eq_some_iff.1 hslot
  obtain ⟨-, he'⟩ := Option.ite_none_right_eq_some.1 he'
  obtain rfl := congrArg Prod.fst (Option.some.inj he')
  exact Nat.mod_lt _ (by decide)

theorem encodeNext_idle {b : Block} (h : b.encReady = none) : b.encodeNext = b := by rw [encodeNext, h]

/-- The store once the encoder has taken a block of a format from a slot's buffer, left with a history. -/
def blockTaken (b : Block) (i fmt : Nat) (hist : List (List Int)) : RefsSt :=
  { b.refs with
    enc := some i
    slots := upd b.refs.slots i fun _ => { b.slot i with
      buf := (b.slot i).buf.drop (1024 * fmtBytes fmt), blocks := (b.slot i).blocks + 1, hist := hist } }

/-- The encoder's counters and its write to the DRAM leave the store but for the block taken. -/
theorem encodeNext_refs {b : Block} {i : Nat} {e : RefEntry} (h : b.encReady = some (i, e)) :
    ∃ hist, b.encodeNext.refs = b.blockTaken i e.fmt hist := by
  obtain ⟨t, ht⟩ : ∃ t, b.encodeNext = t := ⟨_, rfl⟩
  rw [ht]
  unfold encodeNext at ht
  split at ht
  · next hnone => exact absurd (hnone.symm.trans h) nofun
  next j e' hready =>
  obtain ⟨rfl, rfl⟩ := Prod.mk.inj (Option.some.inj (h.symm.trans hready))
  extract_lets x n s₁ _ s₂ hist at ht
  have h₁ : s₁.refs = b.refs := by
    unfold s₁
    split
    · exact inc_refs ..
    · rfl
  have h₂ : s₂.refs = { b.refs with enc := some i } := congrArg (fun r : RefsSt => { r with enc := some i }) h₁
  clear_value s₁ s₂
  split at ht
  next bytes q hist' _ =>
  extract_lets s₃ s₄ s₅ at ht
  have h₅ : s₅.refs = b.blockTaken i e.fmt hist' := by
    refine (inc_refs ..).trans ((congrArg Prod.fst (dramWrite_storeView s₃ ..)).trans ?_)
    simp only [storeView, s₃, setSlot, h₂]
    rfl
  refine ⟨hist', ?_⟩
  subst ht
  split
  · exact (incI_refs ..).trans h₅
  · exact (flag_refs ..).trans ((inc_refs ..).trans h₅)

theorem encodeNext_takes {b : Block} (hslots : b.refs.slots.length = 4) {i : Nat} {e : RefEntry} (h : b.encReady = some (i, e)) :
    b.encodeNext.refs.enc = some i ∧ (b.encodeNext.slot i).blocks = (b.slot i).blocks + 1 ∧
      (b.encodeNext.slot i).buf = (b.slot i).buf.drop (1024 * fmtBytes e.fmt) := by
  obtain ⟨hist, hrefs⟩ := encodeNext_refs h
  have hi : i < b.refs.slots.length := hslots ▸ encReady_lt h
  rw [slot, hrefs, blockTaken, nth_upd_same _ _ _ _ hi]
  exact ⟨rfl, rfl, rfl⟩

/-! ## The end of a load (R332, R338) -/

theorem handle_of_refOf {b : Block} {h : Nat} {e : RefEntry} (he : b.refOf h = some e) : e.handle = h := by
  simpa using List.find?_some he

theorem loadComplete_of_blocks {b : Block} {i h : Nat} {e : RefEntry} (hh : (b.slot i).handle = some h)
    (he : b.refOf h = some e) :
    b.loadComplete i =
      if (b.slot i).blocks = e.bandCount * e.blocksPer then
        ((b.setRef h fun e => { e with state := 2, lastUse := b.lt }).closeSlot h).notice 0xF2 [h, 0]
      else b := by
  simp only [loadComplete, hh, he, handle_of_refOf he, Option.bind_some]

/-- A changed entry is found in place of the old one. -/
theorem refOf_setRef {b : Block} {h : Nat} {e : RefEntry} (he : b.refOf h = some e) {f : RefEntry → RefEntry}
    (hf : ∀ x, (f x).handle = x.handle) : (b.setRef h f).refOf h = some (f e) := by
  have hsame : (fun x : RefEntry => (if x.handle = h then f x else x).handle == h) = fun x => x.handle == h := by
    funext x
    split
    · rw [hf]
    · rfl
  simp only [refOf, setRef, List.find?_map, Function.comp_def, hsame]
  rw [← refOf, he, Option.map_some, if_pos (handle_of_refOf he)]

/-- The slot of the closed load holds none. -/
theorem closeSlot_handle {b : Block} {i h : Nat} (hh : (b.slot i).handle = some h) : ((b.closeSlot h).slot i).handle = none := by
  have hslot : (b.closeSlot h).slot i = if (b.slot i).handle == some h then ⟨none, 0, [], 0, []⟩ else b.slot i :=
    List.getD_map (n := i) b.refs.slots (⟨none, 0, [], 0, []⟩ : LoadSlot)
      fun x : LoadSlot => if x.handle == some h then (⟨none, 0, [], 0, []⟩ : LoadSlot) else x
  rw [hslot, hh, if_pos (beq_self_eq_true _)]

/-! ## Band buffers (R348) -/

theorem decodeStep_refs (e : RefEntry) (band : Nat) (acc : List (List Int) × Bool × List (List (List Int) × Bool) × Block)
    (j : Nat) : (decodeStep e band acc j).2.2.2.refs = acc.2.2.2.refs := by
  unfold decodeStep
  split
  next h₀ sound₀ out b =>
  extract_lets h sound bad b₁
  have hbad (t : Block) : (bad t).2.2.2.refs = t.refs := (flag_refs ..).trans (inc_refs ..)
  clear_value bad
  split
  next bytes ue b₂ hread =>
  have h₂ : b₂.refs = b.refs := by
    have hview := b₁.dramRead_storeView (b₁.slotAddr e (band * e.blocksPer + j)) (Machine.slotBytes e.fmt e.ratio)
    rw [hread] at hview
    exact congrArg Prod.fst hview
  split
  · exact (hbad b₂).trans h₂
  split
  · exact (hbad _).trans ((flag_refs ..).trans ((inc_refs ..).trans h₂))
  next p flat _ =>
  dsimp only
  split
  · exact (flag_refs ..).trans ((inc_refs ..).trans h₂)
  · exact h₂

theorem decodeBand_refs (b : Block) (e : RefEntry) (band : Nat) : (b.decodeBand e band).2.refs = b.refs :=
  foldl_keeps (fun acc : List (List Int) × Bool × List (List (List Int) × Bool) × Block => acc.2.2.2.refs) _
    (fun j _ acc => decodeStep_refs e band acc j) _

/-- The block once the band buffers that are no longer needed are free. -/
def bandsFreed (b : Block) : Block := { b with refs := { b.refs with bands := b.refs.bands.filter fun q => !b.bandFree q } }

theorem bandFill_rests {b : Block} (h : 4 ≤ b.bandsFreed.refs.bands.length ∨ b.bandsFreed.bandNext = none) :
    b.bandFill = b.bandsFreed := by
  unfold bandFill
  extract_lets _ f
  split
  · rfl
  next hroom =>
  rw [show f.bandNext = none from h.resolve_left hroom]
  rfl

theorem bandFill_decodes {b : Block} (hroom : b.bandsFreed.refs.bands.length < 4) {e : RefEntry} {n : Nat} {p : Option Nat}
    (h : b.bandsFreed.bandNext = some (e, n, p)) :
    b.bandFill.refs.bands = b.bandsFreed.refs.bands ++ [⟨e.gen, p, n, (b.bandsFreed.decodeBand e n).1⟩] := by
  unfold bandFill
  extract_lets _ f
  rw [if_neg (show ¬4 ≤ f.refs.bands.length from Nat.not_le.2 hroom)]
  split
  next hnone => exact absurd (hnone.symm.trans h) nofun
  next e' n' p' hnext =>
  cases hnext.symm.trans h
  exact congrArg (fun r : RefsSt => r.bands ++ _) (decodeBand_refs f e n)

end Block

/-- Settles O47: an ingest port takes what its load has room for and passes the rest to `overrun`; the encoder's and the band
buffers' work at the DRAM leaves the store, so what they change there is what they put down. -/
theorem referencesAreLoaded : Obligations.ReferencesAreLoaded := by
  intro s dt hup hslots b count f
  have hexec {i : Nat} {l : List Nat} {t : Block} (ht : b.ingest i l = t) :
      exec (.ingestData dt i l) s = .next ⟨s.pending, t⟩ := hup.exec_next (exec_ingestData dt i l s) ht
  refine ⟨fun i l e h hi hh he => ?reference, fun l m hm => ?map, fun i l hidle => ?noLoad,
    fun hidle => hup.exec_next (exec_encodeBlock dt s) (Block.encodeNext_idle hidle),
    fun i e hready => ?encodes, fun i e h hi hh he => ?complete,
    fun hrests => hup.exec_next (exec_bandFill dt s) (Block.bandFill_rests hrests), fun e n p hroom hnext => ?fills⟩
  case reference =>
    have heq := (b.ingest_ref hi l).trans (Block.ingestRef_loading l hh he)
    obtain ⟨hrefs, hcount, hflag⟩ := Block.overrun_spec (b.setSlot i _) (l.length - (e.streamBytes - (b.slot i).fed)) true
    exact ⟨_, hexec heq, (Block.slot_congr hrefs i).trans (b.slot_setSlot (hslots ▸ hi) _), hcount,
      fun hbeyond => hflag rfl (Nat.sub_pos_of_lt hbeyond)⟩
  case map =>
    obtain ⟨t, hview, heq⟩ := Block.ingestMap_loading l hm
    obtain ⟨hrefs, hcount⟩ := Prod.mk.inj hview
    obtain ⟨hrefs', hcount', hflag⟩ := Block.overrun_spec (t.setMap m.id _) (l.length - (Block.mapBytes m - m.fed)) true
    have hmem : m ∈ t.refs.maps := hrefs ▸ List.mem_of_find?_eq_some hm
    exact ⟨_, hexec ((b.ingest_map l).trans heq), hrefs' ▸ Block.mem_setMap hmem (Block.mapFed _),
      hcount'.trans (congrArg (satAdd _ · _) hcount), fun hbeyond => hflag rfl (Nat.sub_pos_of_lt hbeyond)⟩
  case noLoad =>
    have heq : b.ingest i l = b.overrun l.length false := by
      obtain ⟨hi, hh⟩ | ⟨rfl, hm⟩ := hidle
      · exact (b.ingest_ref hi l).trans (Block.ingestRef_idle l hh)
      · exact (b.ingest_map l).trans (Block.ingestMap_idle l hm)
    obtain ⟨hrefs, hcount, -⟩ := b.overrun_spec l.length false
    exact ⟨_, hexec heq, hrefs, hcount⟩
  case encodes => exact ⟨_, hup.exec_next (exec_encodeBlock dt s) rfl, Block.encodeNext_takes hslots hready⟩
  case complete =>
    have heq := Block.loadComplete_of_blocks hh he
    refine ⟨fun hdone => ⟨_, hup.exec_next (exec_loadComplete dt i s) ((if_pos hi).trans (heq.trans (if_pos hdone))),
      Block.closeSlot_handle hh, Block.refOf_setRef he fun _ => rfl⟩, fun hleft => ?_⟩
    exact hup.exec_next (exec_loadComplete dt i s) ((if_pos hi).trans (heq.trans (if_neg hleft)))
  case fills =>
    exact ⟨_, _, hup.exec_next (exec_bandFill dt s) rfl, Block.bandFill_decodes hroom hnext, rfl, rfl, rfl⟩

end Sys2Proof.Machine

/-! # Steps and outcomes (95_what_each_step_holds.md) -/

namespace Sys2Proof.Machine

/-- Settles O1: the step takes the command at the front and leaves the rest in the queue. -/
theorem stepRunsFrontCommand : Obligations.StepRunsFrontCommand := fun _ _ _ => rfl

/-- Settles O2. It rests on a choice of the model: with an empty queue the block idles (log entry 29). -/
theorem stepIdlesOnEmptyQueue : Obligations.StepIdlesOnEmptyQueue := fun _ => rfl

/-- A command of the table acts in every state, or waits for the release of the control cores; either way it answers the next
state. -/
theorem exec_runs (c : Instr) : ∃ dt f, ∀ s : State, exec c s = s.run dt f := by
  cases hc : actsUnreleased c with
  | false =>
    obtain ⟨dt, f, hf⟩ := exec_released c hc
    exact ⟨dt, _, hf⟩
  | true =>
    cases c with
    | powerOn dt env => exact ⟨dt, _, exec_powerOn dt env⟩
    | supplyRestored dt env => exact ⟨dt, _, exec_supplyRestored dt env⟩
    | porFall dt => exact ⟨dt, _, exec_porFall dt⟩
    | supplyOutOfRange dt => exact ⟨dt, _, exec_supplyOutOfRange dt⟩
    | shutdownLatchClear dt => exact ⟨dt, _, exec_shutdownLatchClear dt⟩
    | perstnRise dt => exact ⟨dt, _, exec_perstnRise dt⟩
    | perstnFallBeforeRunning dt => exact ⟨dt, _, exec_perstnFallBeforeRunning dt⟩
    | configRequest dt w => exact ⟨dt, _, exec_configRequest dt w⟩
    | oscStableTimeout dt => exact ⟨dt, _, exec_oscStableTimeout dt⟩
    | flashTimeout dt => exact ⟨dt, _, exec_flashTimeout dt⟩
    | aliveTimeout dt => exact ⟨dt, _, exec_aliveTimeout dt⟩
    | itoFail dt => exact ⟨dt, _, exec_itoFail dt⟩
    | watchFail dt => exact ⟨dt, _, exec_watchFail dt⟩
    | xtalFail dt => exact ⟨dt, _, exec_xtalFail dt⟩
    | pllFail dt ddr => exact ⟨dt, _, exec_pllFail dt ddr⟩
    | refFail dt => exact ⟨dt, _, exec_refFail dt⟩
    | refRecovered dt => exact ⟨dt, _, exec_refRecovered dt⟩
    | thmConversion dt codes => exact ⟨dt, _, exec_thmConversion dt codes⟩
    | sensorTimeout dt k => exact ⟨dt, _, exec_sensorTimeout dt k⟩
    | observerUpdate dt e0 e1 => exact ⟨dt, _, exec_observerUpdate dt e0 e1⟩
    | zIndex dt e => exact ⟨dt, _, exec_zIndex dt e⟩
    | quadratureEdge dt e a z => exact ⟨dt, _, exec_quadratureEdge dt e a z⟩
    | _ => cases hc

/-- Settles O3. It rests on choices of the model: no command faults or is refused, whatever waits (log entry 16), and one that
names what does not exist has no effect but the time (log entry 79). -/
theorem everyCommandCompletes : Obligations.EveryCommandCompletes := by
  intro c s
  obtain ⟨dt, f, hf⟩ := exec_runs c
  exact ⟨f (s.now dt), hf s⟩

end Sys2Proof.Machine

/-! # The error log and the event fabric (R575-R593) -/

namespace Sys2Proof.Machine

/-! ## Lists -/

theorem upd_append_last {α : Type} (l : List α) (a : α) (f : α → α) : upd (l ++ [a]) l.length f = l ++ [f a] := by
  induction l with
  | nil => rfl
  | cons c r ih => exact congrArg (c :: ·) ih

/-- A map that keeps the keys changes the value found as it changes an entry of the key. -/
theorem findK_map {α : Type} {g : Nat × α → Nat × α} (hg : ∀ e, (g e).1 = e.1) (k : Nat) :
    ∀ l : List (Nat × α), findK k (l.map g) = (findK k l).map fun v => (g (k, v)).2
  | [] => rfl
  | (j, w) :: r => by
    have hw : g (j, w) = (j, (g (j, w)).2) := Prod.ext (hg _) rfl
    rw [List.map_cons, hw, findK, findK]
    split
    · next hj => rw [← hj, Option.map_some]
    · exact findK_map hg k r

theorem onesBelow_two_pow {n i : Nat} (hi : i < n) : onesBelow n (2 ^ i) = [i] := by
  have hbit : bit (2 ^ i) = fun j => j == i := funext fun j => by
    rw [bit_eq_testBit, Nat.testBit_two_pow]
    exact decide_eq_decide.2 eq_comm
  rw [onesBelow, hbit, List.filter_beq, List.count_eq_one_of_mem List.nodup_range (List.mem_range.2 hi)]
  rfl

theorem onesBelow_zero {n w : Nat} (hw : w % 2 ^ n = 0) : onesBelow n w = [] := by
  refine List.filter_eq_nil_iff.2 fun i hi => ?_
  have htest := Nat.testBit_mod_two_pow w n i
  rw [hw, Nat.zero_testBit, decide_eq_true (List.mem_range.1 hi), Bool.true_and] at htest
  rw [bit_eq_testBit, ← htest]
  exact Bool.false_ne_true

/-- Nothing, or nothing so recent. -/
theorem notWithin_of_forall {α : Type} {o : Option α} {f : α → Nat} {n : Nat} (h : ∀ x ∈ o, n ≤ f x) :
    (o.map fun x => decide (f x < n)).getD false = false := by
  cases o with
  | none => rfl
  | some x => exact decide_eq_false (Nat.not_lt.2 (h x rfl))

theorem within_of_exists {α : Type} {o : Option α} {f : α → Nat} {n : Nat} (h : ∃ x ∈ o, f x < n) :
    (o.map fun x => decide (f x < n)).getD false = true := by
  obtain ⟨x, rfl, hx⟩ := h
  exact decide_eq_true hx

namespace PerMaster

variable {α : Type} (p : PerMaster α) {m m' : Master} (v : α)

theorem get_set_same (hm : m ≠ .hw ∧ m ≠ .boot) : (p.set m v).get m = v := by
  cases m with
  | hw => exact absurd rfl hm.1
  | boot => exact absurd rfl hm.2
  | _ => rfl

theorem get_set_ne (hne : m' ≠ m) (hm : m' ≠ .hw ∧ m' ≠ .boot) : (p.set m v).get m' = p.get m' := by
  cases m' <;> simp at hm <;> cases m <;> simp at hne <;> rfl

end PerMaster

namespace Block

/-! ## Registers whose writing is all they do (R593, R618) -/

/-- A word written by a master at a register that every master writes, and that keeps nothing of it by itself, has the effect
of the register. -/
theorem writeAt_effect (b : Block) {m : Master} (hm : b.takes m) {u : UnitId} (hu : u.plain) (hown : u.ty.owner ≠ 1) {off : Nat}
    (ho : u.ty.mapped off) (hne : off ≠ 0x44) {fs : List Field} (hfs : u.ty.fieldsAt off = fs)
    (hany : ∀ f ∈ fs, anyField u.ty f = true ∧ actField u.ty f = true ∧ f.acc = .rw) (w : Nat) :
    b.writeAt m 0 u off w = writeEffect b b m 0 u off
      (fs.foldl (fun v f => putBits v f.hi f.lo (bits (w % 2 ^ 32) f.hi f.lo)) 0) := by
  obtain ⟨hhw, hboot, hd3⟩ := hm
  have hmine : b.mineAt m u off = fs := by
    rw [mineAt, hfs]
    refine List.filter_eq_self.2 fun f hf => ?_
    obtain ⟨hf, -, hacc⟩ := hany f hf
    simp [mayWrite, hf, hacc, hboot]
  have hacc (a : Access) (ha : a ≠ .rw) : (fs.any fun f => f.acc == a) = false := by
    refine List.any_eq_false.2 fun f hf => ?_
    rw [(hany f hf).2.2]
    simpa using ha.symm
  obtain ⟨f, hf⟩ := List.exists_mem_of_ne_nil _ (hfs ▸ ho.2.2.2)
  have hro : ¬ (fs.all fun f => f.acc == .ro) = true := fun h => by
    simpa [(hany f hf).2.2] using List.all_eq_true.1 h f hf
  rw [writeAt_eq b ⟨hhw, hboot⟩ hd3 hu.1 hu.2.1, busWrite_mapped b hboot hu ho, hmine, hfs, if_neg (fun h => hown h.2),
    if_neg hro, if_neg (List.ne_nil_of_mem hf), hacc _ (by decide), hacc _ (by decide), if_neg Bool.false_ne_true,
    if_neg Bool.false_ne_true, if_neg hne, regWrite]
  refine congrArg (writeEffect b · m 0 u off _) ?_
  exact foldl_fixed fun f hf => if_pos (hany f hf).2.1

theorem errlogSelect_written (b : Block) {m : Master} (hm : b.takes m) (v : Nat) :
    b.writeAt m 0 uErrlog F.ERRLOG.SEL_SEQ.off v = b.errlogSelect m (v % 2 ^ 32) := by
  rw [b.writeAt_effect hm (by decide) (by decide) (by decide) (by decide) (fs := [F.ERRLOG.SEL_SEQ]) (by decide) (by decide)]
  have hword : putBits 0 31 0 (bits (v % 2 ^ 32) 31 0) = v % 2 ^ 32 := by simp [putBits, bits]
  have heffect (w : Nat) : writeEffect b b m 0 uErrlog F.ERRLOG.SEL_SEQ.off w = b.errlogSelect m w := rfl
  exact (heffect _).trans (congrArg (b.errlogSelect m) hword)

/-! ## The error log (R589-R591) -/

theorem errlogMerges_congr {b t : Block} (hlog : t.errlog.entries = b.errlog.entries)
    (hlast : t.errlog.lastMerge = b.errlog.lastMerge) (o : ErrOcc) : t.errlogMerges o = b.errlogMerges o := by
  rw [errlogMerges, errlogMerges, hlog, hlast]

/-- The newest entry with one more occurrence merged into it. -/
def repeated (e : ErrEntry) : ErrEntry := { e with rep := Nat.min 0xFFFF (e.rep + 1) }

theorem errlogWrite_merges {b : Block} {o : ErrOcc} {waiting : List ErrOcc} {older : List ErrEntry} {e : ErrEntry}
    (hwait : b.errlog.waiting = o :: waiting) (hlog : b.errlog.entries = older ++ [e]) (hmerges : b.errlogMerges o = true) :
    b.errlogWrite = { b with errlog := { b.errlog with
      waiting := waiting, lastMerge := o.lt, entries := older ++ [repeated e] } } := by
  have hput : b.errlogPut = { b with errlog := { b.errlog with
      waiting := waiting, lastMerge := o.lt
      entries := upd b.errlog.entries (b.errlog.entries.length - 1) repeated } } := by
    unfold errlogPut
    rw [hwait]
    exact if_pos ((errlogMerges_congr rfl rfl o).trans hmerges)
  have hlast : upd b.errlog.entries (b.errlog.entries.length - 1) repeated = older ++ [repeated e] := by
    rw [hlog, List.length_append]
    exact upd_append_last ..
  have hnow : b.errlogWrite = b.errlogPut := by
    unfold errlogWrite
    rw [hwait]
    exact if_neg (by simp [hmerges])
  rw [hnow, hput, hlast]

/-- A producer inside the device leaves the error log, and every register but those of the event fabric. -/
theorem raiseFrom_inside (b : Block) {p : Nat} (hp : p < 384) (src : Nat) {u : UnitId} (hu : u ≠ uEvt) (hi : u.inst < 256)
    {off : Nat} (ho : off < 0x4000) :
    ((b.raiseFrom p src).errlog, (b.raiseFrom p src).rd u off) = (b.errlog, b.rd u off) := by
  have hcoalesce (t : Block) (c : Nat) (hc : c < 128) :
      ((t.coalesce c).errlog, (t.coalesce c).rd u off) = (t.errlog, t.rd u off) := by
    have hat : F.EVT.CH_STAT_COAL.at c < 0x4000 := by simp only [Field.at, F.EVT.CH_STAT_COAL]; omega
    refine Prod.ext (t.coalesce_errlog c) ?_
    exact (rd_setI_unit _ hu (by decide) hi (by decide) ho _).trans (rd_setI_unit _ hu (by decide) hi hat ho _)
  have harrive (t : Block) (c : Nat) (hc : c < 128) :
      ((t.arrive p src c).errlog, (t.arrive p src c).rd u off) = (t.errlog, t.rd u off) := by
    unfold arrive
    extract_lets sec ws
    split_ifs with _ hring
    · rfl
    · exact absurd (of_decide_eq_true (Bool.and_eq_true_iff.1 hring).2) (Nat.not_le.2 hp)
    · exact hcoalesce _ c hc
    · rfl
  have hroutes := b.routes_lt p
  unfold raiseFrom
  split
  · split
    · exact foldl_keeps (fun t : Block => (t.errlog, t.rd u off)) _ (fun c hc t => hcoalesce t c (hroutes c hc)) b
    · exact foldl_keeps (fun t : Block => (t.errlog, t.rd u off)) _ (fun c hc t => harrive t c (hroutes c hc)) _
  · exact foldl_keeps (fun t : Block => (t.errlog, t.rd u off)) _ (fun c hc t => harrive t c (hroutes c hc)) _

/-- The entries once one more has been written: the oldest of 1,024 gives its place (R589). -/
def entriesWith (b : Block) (e : ErrEntry) : List ErrEntry :=
  (if 1024 ≤ b.errlog.entries.length then b.errlog.entries.drop 1 else b.errlog.entries) ++ [e]

/-- An occurrence as the entry written of it under a sequence number (R590). -/
def entryOf (o : ErrOcc) (q : Nat) : ErrEntry := ⟨q, o.lt, o.unit, o.code, o.master, o.sev, 0, o.arg0, o.arg1, o.arg2⟩

theorem errlogWrite_writes {b : Block} {o : ErrOcc} {waiting : List ErrOcc} (hwait : b.errlog.waiting = o :: waiting)
    (hnew : b.errlogMerges o = false) (hpace : ∀ x ∈ b.errlog.wrote, 20 ≤ b.since x) :
    b.errlogWrite.errlog.waiting = waiting ∧
      b.errlogWrite.errlog.entries = b.entriesWith (entryOf o (b.get uErrlog F.ERRLOG.WR_SEQ_SEQ)) ∧
      b.errlogWrite.get uErrlog F.ERRLOG.WR_SEQ_SEQ = (b.get uErrlog F.ERRLOG.WR_SEQ_SEQ + 1) % 2 ^ 32 := by
  have hlate := notWithin_of_forall hpace
  have hnow : b.errlogWrite = b.errlogPut := by
    unfold errlogWrite
    rw [hwait]
    exact if_neg (by simp [hlate])
  rw [hnow]
  obtain ⟨t, ht⟩ : ∃ t, b.errlogPut = t := ⟨_, rfl⟩
  rw [ht]
  unfold errlogPut at ht
  split at ht
  · next hnone => exact absurd (hnone.symm.trans hwait) nofun
  next o' rest' hwait' =>
  obtain ⟨rfl, rfl⟩ := List.cons.inj (hwait'.symm.trans hwait)
  extract_lets _ s₀ _ q e ack full lost s₁ l _ s₂ s₃ s₄ s₅ at ht
  have hnew₀ : s₀.errlogMerges o' = false := (errlogMerges_congr (b := b) rfl rfl o').trans hnew
  rw [if_neg (by rw [hnew₀]; exact Bool.false_ne_true)] at ht
  have h₁ : s₁.errlog = s₀.errlog := by
    unfold s₁
    split
    · rfl
    · rfl
  have hl : l = b.entriesWith (entryOf o' (b.get uErrlog F.ERRLOG.WR_SEQ_SEQ)) := by
    unfold l
    rw [h₁]
    exact congrArg (· ++ [e]) (if_congr decide_eq_true_iff rfl rfl)
  have hput : s₄.errlog.waiting = rest' ∧ s₄.errlog.entries = l ∧ s₄.get uErrlog F.ERRLOG.WR_SEQ_SEQ = (q + 1) % 2 ^ 32 := by
    refine ⟨congrArg ErrlogSt.waiting h₁, rfl, ?_⟩
    refine (get_set_apart _ (by decide) _).trans ((get_set_apart _ (by decide) _).trans ?_)
    exact (get_set_same _ _ (by decide) _).trans (Nat.mod_mod ..)
  have hraise : s₅.errlog = s₄.errlog ∧ s₅.get uErrlog F.ERRLOG.WR_SEQ_SEQ = s₄.get uErrlog F.ERRLOG.WR_SEQ_SEQ := by
    have hkept := s₄.raiseFrom_inside (p := 28) (by decide) 0 (u := uErrlog) (by decide) (by decide) (off := 0x10C) (by decide)
    exact ⟨congrArg Prod.fst hkept, getI_of_rd (congrArg Prod.snd hkept)⟩
  obtain ⟨hwaits, hentries, hseq⟩ := hput
  obtain ⟨herr, hget⟩ := hraise
  have ht₅ : t.errlog = s₅.errlog ∧ t.get uErrlog F.ERRLOG.WR_SEQ_SEQ = s₅.get uErrlog F.ERRLOG.WR_SEQ_SEQ := by
    rw [← ht]
    split
    · exact ⟨msix_errlog .., getI_msix ..⟩
    · exact ⟨rfl, rfl⟩
  obtain ⟨hterr, htget⟩ := ht₅
  rw [hterr, herr, htget, hget]
  exact ⟨hwaits, hentries.trans hl, hseq⟩

/-! ## Producers and acceptance windows (R575, R578, R580) -/

section
variable {b : Block} {p : Nat} (src : Nat)

/-- The assertion of a producer is noted. -/
def assertedNow (b : Block) (p : Nat) : Block := { b with evt := { b.evt with asserted := bindK p b.lt b.evt.asserted } }

theorem raiseFrom_due (hdue : ∀ x ∈ findK p b.evt.asserted, 10 ≤ b.since x) :
    b.raiseFrom p src = (b.routes p).foldl (fun t c => t.arrive p src c) (b.assertedNow p) := by
  unfold raiseFrom
  cases hlast : findK p b.evt.asserted with
  | none => rfl
  | some x => exact if_neg (Nat.not_lt.2 (hdue x hlast))

theorem raiseFrom_early {x : Nat} (hlast : findK p b.evt.asserted = some x) (hsoon : b.since x < 10) :
    b.raiseFrom p src = (b.routes p).foldl coalesce b := by
  rw [raiseFrom, hlast]
  exact if_pos hsoon

variable {c : Nat} (hsec : b.onI uEvt F.EVT.CH_CFG_SEC c = false)
include hsec

theorem arrive_opens (hnone : b.evt.windows.any (b.windowOpen c) = false) :
    b.arrive p src c = { b with evt := { b.evt with windows := b.evt.windows ++ [(c, ⟨[(b.lt, p)]⟩)] } } := by
  simp only [arrive, hsec, hnone, Bool.false_and, Bool.false_eq_true, if_false]

/-- An arrival joins the open windows of its channel. -/
def arrivalJoined (b : Block) (p c : Nat) (e : Nat × EvtWindow) : Nat × EvtWindow :=
  if b.windowOpen c e then (c, ⟨e.2.arrivals ++ [(b.lt, p)]⟩) else e

theorem arrive_joins (hopen : b.evt.windows.any (b.windowOpen c) = true) :
    b.arrive p src c =
      ({ b with evt := { b.evt with windows := b.evt.windows.map (b.arrivalJoined p c) } } : Block).coalesce c := by
  simp only [arrive, hsec, hopen, Bool.false_and, Bool.false_eq_true, if_false, if_true]
  rfl

end

theorem arrivalJoined_key (b : Block) (p c : Nat) (e : Nat × EvtWindow) : (b.arrivalJoined p c e).1 = e.1 := by
  unfold arrivalJoined
  split
  · next h => exact (beq_iff_eq.1 (Bool.and_eq_true_iff.1 h).1).symm
  · rfl

theorem findK_arrivalJoined {b : Block} {c : Nat} {w : EvtWindow} (hw : findK c b.evt.windows = some w)
    (hopen : b.windowOpen c (c, w) = true) (p : Nat) :
    findK c (b.evt.windows.map (b.arrivalJoined p c)) = some ⟨w.arrivals ++ [(b.lt, p)]⟩ := by
  rw [findK_map (b.arrivalJoined_key p c), hw, Option.map_some, arrivalJoined, if_pos hopen]

theorem any_of_findK {α : Type} {k : Nat} {v : α} {f : Nat × α → Bool} (hf : f (k, v) = true) :
    ∀ {l : List (Nat × α)}, findK k l = some v → l.any f = true
  | (j, w) :: r, h => by
    rw [findK] at h
    rw [List.any_cons]
    split at h
    · next hj =>
      obtain rfl := Option.some.inj h
      rw [hj, hf, Bool.true_or]
    · rw [any_of_findK hf h, Bool.or_true]

theorem chStat_at_lt {c : Nat} (hc : c < 128) : F.EVT.CH_STAT_COAL.at c < 0x4000 := by
  simp only [Field.at, F.EVT.CH_STAT_COAL]
  omega

theorem coalesce_counts (b : Block) {c : Nat} :
    (b.coalesce c).on uEvt F.EVT.FLAGS_COAL = true ∧ (b.coalesce c).getI uEvt F.EVT.CH_STAT_COAL c =
      satAdd F.EVT.CH_STAT_COAL.max (b.getI uEvt F.EVT.CH_STAT_COAL c) 1 := by
  have hplace : F.EVT.CH_STAT_COAL.at c ≠ F.EVT.FLAGS_COAL.at 0 := by
    simp only [Field.at, F.EVT.CH_STAT_COAL, F.EVT.FLAGS_COAL]
    omega
  refine ⟨?_, (getI_setI_apart _ (apart_off uEvt hplace) _).trans (getI_incI b uEvt (by decide) c)⟩
  rw [on_eq, coalesce, get_set_same _ _ (by decide)]
  rfl

/-! ## Deliveries and exports (R578, R579, R584, R586) -/

/-- The block once a window of channel c has closed and its delivery is shown. -/
def deliveryShown (b : Block) (c : Nat) (w : EvtWindow) : Block :=
  (({ b with evt := { b.evt with windows := b.evt.windows.erase (c, w) } } : Block).setI uEvt F.EVT.CH_STAT_PEND c 1).setI uEvt
    F.EVT.CH_STAT_LAST_SRC c (windowSrc w)

/-- And signalled, when the channel is the host's and its interrupt is enabled (R586). -/
def deliverySignalled (b : Block) (c : Nat) (w : EvtWindow) : Block :=
  let t := b.deliveryShown c w
  if !(b.onI uEvt F.EVT.CH_STAT_PEND c) && !(t.onI uEvt F.EVT.CH_CFG_OWNER c) && t.onI uEvt F.EVT.CH_CTL_IRQ_EN c then t.msix 61
  else t

theorem eventDelivery_idle {b : Block} {c : Nat}
    (h : ∀ w, findK c b.evt.windows = some w → ∃ a ∈ w.arrivals.head?, b.since a.1 < 10) : b.eventDelivery c = b := by
  unfold eventDelivery
  split
  · rfl
  next w hw =>
  exact if_pos (within_of_exists (f := fun a : Nat × Nat => b.since a.1) (h w hw))

theorem eventDelivery_due {b : Block} {c : Nat} {w : EvtWindow} (hw : findK c b.evt.windows = some w)
    (hdue : ∀ a ∈ w.arrivals.head?, 10 ≤ b.since a.1) :
    b.eventDelivery c = ((List.range 256).filter ((b.deliverySignalled c w).taskOn c)).foldl taskDeliver
      ((b.deliverySignalled c w).exportDelivery c) := by
  have hlate : (w.arrivals.head?.map fun a => decide (b.since a.1 < 10)).getD false = false := 
    notWithin_of_forall (f := fun a : Nat × Nat => b.since a.1) hdue
  unfold eventDelivery
  rw [hw]
  exact if_neg (by rw [hlate]; exact Bool.false_ne_true)

theorem deliveryShown_spec (b : Block) {c : Nat} (w : EvtWindow) (hsrc : windowSrc w < 512) :
    (b.deliveryShown c w).getI uEvt F.EVT.CH_STAT_PEND c = 1 ∧
      (b.deliveryShown c w).getI uEvt F.EVT.CH_STAT_LAST_SRC c = windowSrc w ∧
      (b.deliveryShown c w).getI uEvt F.EVT.CH_STAT_COAL c = b.getI uEvt F.EVT.CH_STAT_COAL c :=
  ⟨(getI_setI_field _ uEvt c (by decide) _).trans (getI_setI_same _ uEvt _ _ _ (by decide)),
    (getI_setI_same _ uEvt _ _ _ (by decide)).trans (Nat.mod_eq_of_lt hsrc),
    (getI_setI_field _ uEvt c (by decide) _).trans (getI_setI_field _ uEvt c (by decide) _)⟩

theorem deliveryShown_owner (b : Block) (c : Nat) (w : EvtWindow) :
    (b.deliveryShown c w).getI uEvt F.EVT.CH_CFG_OWNER c = b.getI uEvt F.EVT.CH_CFG_OWNER c :=
  (getI_setI_stride _ uEvt (by decide) _).trans (getI_setI_stride _ uEvt (by decide) _)

theorem deliveryShown_irqEn (b : Block) {c : Nat} (hc : c < 128) (w : EvtWindow) :
    (b.deliveryShown c w).getI uEvt F.EVT.CH_CTL_IRQ_EN c = b.getI uEvt F.EVT.CH_CTL_IRQ_EN c :=
  (getI_setI_range _ uEvt hc hc (by decide) _).trans (getI_setI_range _ uEvt hc hc (by decide) _)

theorem deliverySignalled_kept (b : Block) (c : Nat) (w : EvtWindow) :
    (b.deliverySignalled c w).evt = (b.deliveryShown c w).evt ∧ (b.deliverySignalled c w).regs = (b.deliveryShown c w).regs := by
  unfold deliverySignalled
  dsimp only
  split
  · exact ⟨msix_evt .., msix_regs ..⟩
  · exact ⟨rfl, rfl⟩

theorem deliverySignalled_asked {b : Block} {c : Nat} (hc : c < 128) (w : EvtWindow)
    (hpend : b.onI uEvt F.EVT.CH_STAT_PEND c = false) (hown : b.onI uEvt F.EVT.CH_CFG_OWNER c = false)
    (hask : b.onI uEvt F.EVT.CH_CTL_IRQ_EN c = true) :
    61 ∈ (b.deliverySignalled c w).host.pba ∨ ∃ a d, (b.deliverySignalled c w).out = .msix 61 a d :: b.out := by
  have hown' : (b.deliveryShown c w).onI uEvt F.EVT.CH_CFG_OWNER c = false :=
    (congrArg (· != 0) (b.deliveryShown_owner c w)).trans hown
  have hask' : (b.deliveryShown c w).onI uEvt F.EVT.CH_CTL_IRQ_EN c = true :=
    (congrArg (· != 0) (b.deliveryShown_irqEn hc w)).trans hask
  have hsent : b.deliverySignalled c w = (b.deliveryShown c w).msix 61 := if_pos (by rw [hpend, hown', hask']; rfl)
  rw [hsent]
  exact msix_pends_or_leaves _ 61

theorem exportDrop_due {b : Block} {c : Nat} {e : EvtExport} (he : findK c b.evt.exports = some e) (hdue : 4000000 ≤ b.since e.lt) :
    b.exportDrop c = (({ b with evt := { b.evt with exports := dropK c b.evt.exports } } : Block).set uEvt
      F.EVT.FLAGS_EXPORT_DROP 1).log uEvt 0x000D 2 c 0 0 := by
  rw [exportDrop, he]
  exact if_neg (Nat.not_lt.2 hdue)

theorem exportDrop_early {b : Block} {c : Nat} {e : EvtExport} (he : findK c b.evt.exports = some e) (hsoon : b.since e.lt < 4000000) :
    b.exportDrop c = b := by
  rw [exportDrop, he]
  exact if_pos hsoon

/-! ## Software producers and GPIO balls (R575, R587) -/

theorem swRaise_one (b : Block) (base : Nat) {i : Nat} (hi : i < 16) : b.swRaise base (2 ^ i) = b.raise (base + i) := by
  rw [swRaise, onesBelow_two_pow hi]
  rfl

theorem swRaise_none (b : Block) (base : Nat) {w : Nat} (hw : w % 2 ^ 16 = 0) : b.swRaise base w = b := by
  rw [swRaise, onesBelow_zero hw]
  rfl

/-- The accepted level of a ball shown. -/
def levelShown (b : Block) (k : Nat) (high : Bool) : Block :=
  if high then b.setBitI uEvt F.EVT.GPIO_IN_LEVEL 0 k else b.clrBitI uEvt F.EVT.GPIO_IN_LEVEL 0 k

theorem levelShown_bit (b : Block) {k : Nat} (hk : k < 16) (high : Bool) :
    bit ((b.levelShown k high).get uEvt F.EVT.GPIO_IN_LEVEL) k = high := by
  cases high
  · exact (b.bit_clrBitI uEvt (by decide) 0 k k).trans (by simp)
  · exact b.bit_setBitI uEvt (by decide) 0 hk

theorem levelShown_keepsRest (b : Block) (k : Nat) (high : Bool) : b.keepsRest (b.levelShown k high) := by
  obtain ⟨r, h⟩ : ∃ r, b.levelShown k high = { b with regs := r } := by
    cases high
    · exact clrBitI_eq ..
    · exact setBitI_eq ..
  rw [h]
  rfl

/-- The fields of a ball are other registers. -/
theorem levelShown_ball (b : Block) {k : Nat} (hk : k < 16) (high : Bool) {f : Field} (hf : f.off = 0xE00 ∧ f.stride = 4) :
    (b.levelShown k high).getI uEvt f k = b.getI uEvt f k := by
  have hplace : f.at k ≠ F.EVT.GPIO_IN_LEVEL.at 0 := by
    simp only [Field.at, hf, F.EVT.GPIO_IN_LEVEL]
    omega
  cases high
  · exact getI_clrBitI_apart b (apart_off uEvt hplace) k
  · exact getI_setBitI_apart b (apart_off uEvt hplace) k

theorem gpioEdge_new {b : Block} {k : Nat} {high : Bool} (hk : k < 16) (hrun : b.isRunning = true)
    (hnew : bit (b.get uEvt F.EVT.GPIO_IN_LEVEL) k ≠ high) :
    b.gpioEdge k high =
      if b.onI uEvt F.EVT.GPIO_OUT k = false ∧
        bit (b.getI uEvt F.EVT.GPIO_EDGE k) (if (high != b.onI uEvt F.EVT.GPIO_POL k) = true then 0 else 1) = true
      then (b.levelShown k high).raise (196 + k) else b.levelShown k high := by
  have hout : (b.levelShown k high).onI uEvt F.EVT.GPIO_OUT k = b.onI uEvt F.EVT.GPIO_OUT k :=
    congrArg (· != 0) (b.levelShown_ball hk high ⟨rfl, rfl⟩)
  have hpol : (b.levelShown k high).onI uEvt F.EVT.GPIO_POL k = b.onI uEvt F.EVT.GPIO_POL k :=
    congrArg (· != 0) (b.levelShown_ball hk high ⟨rfl, rfl⟩)
  have hedge : (b.levelShown k high).getI uEvt F.EVT.GPIO_EDGE k = b.getI uEvt F.EVT.GPIO_EDGE k :=
    b.levelShown_ball hk high ⟨rfl, rfl⟩
  unfold gpioEdge
  rw [if_neg (by simp [hrun, hk, hnew])]
  change (if (!((b.levelShown k high).onI uEvt F.EVT.GPIO_OUT k) && bit ((b.levelShown k high).getI uEvt F.EVT.GPIO_EDGE k)
    (if high != (b.levelShown k high).onI uEvt F.EVT.GPIO_POL k then 0 else 1)) = true then _ else _) = _
  rw [hout, hpol, hedge]
  exact if_congr (by rw [Bool.and_eq_true, Bool.not_eq_true']) rfl rfl

theorem gpioPulseEnd_on {b : Block} {k : Nat} (h : b.evt.gpioPulse.contains k = true) :
    b.gpioPulseEnd k = ({ b with evt := { b.evt with gpioPulse := b.evt.gpioPulse.filter (· != k) } } : Block).emit
      (.pin (.gpio k) (b.gpioLevel k false)) := if_pos h

end Block

/-- Settles O56: the occurrence is like the newest entry, so that it is merged into it. -/
theorem repeatedErrorsMerge : Obligations.RepeatedErrorsMerge := by
  intro s dt hup b o waiting older e hwait hlog hunit hcode hmaster harg hnear
  have hmerges : b.errlogMerges o = true := by
    rw [Block.errlogMerges, hlog, List.getLast?_concat]
    simpa [hunit, hcode, hmaster, harg] using hnear.symm
  exact hup.exec_next (exec_errlogWrite dt s) (Block.errlogWrite_merges hwait hlog hmerges)

/-- Settles O55: each command's meaning in the state it asks for is one equation, and what it leaves is read off from that. It
rests on choices of the model: which level of a ball is its active one (log entry 22), and how long a window takes arrivals (log
entry 32). -/
theorem eventsReachTheirChannels : Obligations.EventsReachTheirChannels := by
  intro s dt hup b
  have harrival {p src : Nat} (hp : Block.producer p = true) {t : Block} (ht : b.raiseFrom p src = t) :
      exec (.eventArrival dt p src) s = .next ⟨s.pending, t⟩ :=
    hup.exec_next (exec_eventArrival dt p src s) ((if_pos hp).trans ht)
  refine ⟨fun p src c hp hc hroute hsec hdue => ⟨fun hnone => ?opens, fun w hw hopen => ?joins⟩, fun p src x hp hlast hsoon => ?counts,
    fun c hidle => ?idle, fun c w hc hw hdue hsrc => ?delivers, fun c e he => ⟨fun hdue => ?discards, fun hsoon => ?stays⟩,
    fun i hi => ⟨fun hd0 => ?host, ?firmware⟩, fun w hw => ⟨?hostNone, ?firmwareNone⟩, fun c hc => ?clears,
    fun k high hk hrun hnew => ?edge, fun k hk => ?pulse, fun m v hm => ?selects, fun o rest hwait hnew hpace => ?writes⟩
  case opens =>
    have heq := Block.raiseFrom_due src hdue
    rw [hroute] at heq
    exact ⟨_, harrival hp (heq.trans (Block.arrive_opens (b := b.assertedNow p) src hsec hnone)), rfl, Block.findK_bindK .., rfl, rfl⟩
  case joins =>
    have heq := Block.raiseFrom_due src hdue
    rw [hroute] at heq
    have hany : (b.assertedNow p).evt.windows.any ((b.assertedNow p).windowOpen c) = true := Block.any_of_findK hopen hw
    obtain ⟨hflag, hcount⟩ := Block.coalesce_counts _ (c := c)
    exact ⟨_, harrival hp (heq.trans (Block.arrive_joins (b := b.assertedNow p) src hsec hany)),
      Block.findK_arrivalJoined (b := b.assertedNow p) hw hopen p, hflag, hcount⟩
  case counts => exact harrival hp (Block.raiseFrom_early src hlast hsoon)
  case idle => exact hup.exec_next (exec_eventDelivery dt c s) (Block.eventDelivery_idle hidle)
  case delivers =>
    obtain ⟨hevt, hregs⟩ := b.deliverySignalled_kept c w
    obtain ⟨hpend, hlast, hcoal⟩ := b.deliveryShown_spec (c := c) w hsrc
    have hget (f : Field) := Block.getI_congr hregs uEvt f c
    exact ⟨_, hup.exec_next (exec_eventDelivery dt c s) (Block.eventDelivery_due hw hdue), congrArg EvtSt.windows hevt,
      (hget _).trans hpend, (hget _).trans hlast, (hget _).trans hcoal, Block.deliverySignalled_asked hc w⟩
  case discards =>
    refine ⟨_, hup.exec_next (exec_exportDrop dt c s) (Block.exportDrop_due he hdue), ?_, ?_⟩
    · rw [Block.log_evt]
      rfl
    · rw [Block.on_eq, Block.get, Block.getI_log _ (by decide) (by decide) (by decide)]
      exact bne_iff_ne.2 (by rw [← Block.get, Block.get_set_same _ _ (by decide)]; decide)
  case stays => exact hup.exec_next (exec_exportDrop dt c s) (Block.exportDrop_early he hsoon)
  case host => exact hup.exec_bar hd0 (exec_swHost dt _ s) (b.swRaise_one 212 hi)
  case firmware => exact hup.exec_next (exec_swFw dt _ s) (b.swRaise_one 228 hi)
  case hostNone =>
    cases hd3 : b.on uHost F.HOST.LINK_D3
    · exact hup.exec_bar hd3 (exec_swHost dt w s) (b.swRaise_none 212 hw)
    · exact hup.exec_bar_d3 hd3 (exec_swHost dt w s)
  case firmwareNone => exact hup.exec_next (exec_swFw dt w s) (b.swRaise_none 228 hw)
  case clears =>
    exact ⟨_, hup.exec_next (exec_clrCoal dt c s) (if_pos hc), Block.getI_setI_same _ uEvt _ _ _ (by decide),
      Block.getI_setI_field _ uEvt c (by decide) _, Block.getI_setI_field _ uEvt c (by decide) _, rfl⟩
  case edge =>
    exact ⟨_, hup.exec_next (exec_gpioEdge dt k high s) (Block.gpioEdge_new hk hrun hnew), b.levelShown_bit hk high,
      b.levelShown_keepsRest k high⟩
  case pulse =>
    refine ⟨_, hup.exec_next (exec_gpioPulseEnd dt k s) (Block.gpioPulseEnd_on hk), ?_, ?_, rfl⟩
    · simp
    · exact congrArg (fun v => Output.pin (.gpio k) v :: b.out) (Bool.false_bne _)
  case selects =>
    have hsel : m ≠ .hw ∧ m ≠ .boot := ⟨hm.1, hm.2.1⟩
    refine ⟨_, hup.exec_next (exec_errlogSelect dt m v s) (b.errlogSelect_written hm v), rfl, rfl, ?_, ?_⟩
    · exact (PerMaster.get_set_same _ _ hsel).trans (Nat.mod_mod ..)
    · exact fun m' hne hhw hboot => PerMaster.get_set_ne _ _ hne ⟨hhw, hboot⟩
  case writes =>
    obtain ⟨hwaits, hentries, hseq⟩ := Block.errlogWrite_writes hwait hnew hpace
    exact ⟨_, hup.exec_next (exec_errlogWrite dt s) rfl, hwaits, hentries, hseq⟩

end Sys2Proof.Machine

/-! # The marker axes (R436-R455) -/

namespace Sys2Proof.Machine

theorem ofLe_lt : ∀ l : List Nat, ofLe l < 256 ^ l.length
  | [] => Nat.one_pos
  | b :: r => by
    have hr := ofLe_lt r
    have hb : b % 256 < 256 := Nat.mod_lt b (by decide)
    rw [ofLe, List.length_cons, Nat.pow_succ]
    omega

theorem leAt_lt (l : List Nat) (o n : Nat) : leAt l o n < 256 ^ n :=
  (ofLe_lt _).trans_le (Nat.pow_le_pow_right (by decide) (List.length_take_le n _))

namespace Block

/-! ## An axis and its registers -/

section
variable {b : Block} {a : Nat}

theorem axis_setAxis (ha : a < b.axes.length) (f : AxisSt → AxisSt) : (b.setAxis a f).axis a = f (b.axis a) :=
  nth_upd_same f _ _ _ ha

theorem axis_congr {t : Block} (h : t.axes = b.axes) (a : Nat) : t.axis a = b.axis a := by rw [axis, axis, h]

theorem setAxis_length (b : Block) (a : Nat) (f : AxisSt → AxisSt) : (b.setAxis a f).axes.length = b.axes.length := length_upd ..

theorem axisState_setAxis (b : Block) (a : Nat) (f : AxisSt → AxisSt) : (b.setAxis a f).axisState a = b.axisState a := rfl

theorem axisState_set (b : Block) (a : Nat) {v : Nat} (hv : v < 8) : (b.set (uAxis a) F.AXIS.STAT_STATE v).axisState a = v :=
  (get_set_same b _ (by decide) v).trans (Nat.mod_eq_of_lt hv)

/-- A field of another register of the axis. -/
theorem get_set_axis (b : Block) (a : Nat) {f g : Field} (h : g.at 0 ≠ f.at 0) (v : Nat) :
    (b.set (uAxis a) f v).get (uAxis a) g = b.get (uAxis a) g := getI_setI_apart b (apart_off _ h) v

theorem uAxis_ne (a : Nat) : uAxis a ≠ uEvt ∧ uAxis a ≠ uErrlog := ⟨nofun, nofun⟩

theorem getS_putS (b : Block) (u : UnitId) {f : Field} (hf : f.lo ≤ f.hi ∧ f.hi < 32) {v : Int} (hv : fitsS f.width v) :
    (b.putS u f v).getS u f = v := getSI_putSI_same b u hf 0 hv

end

/-! ## Records of an axis (R454) -/

/-- An axis with its next record number. -/
def numbered (n : Nat) (x : AxisSt) : AxisSt := { x with recSeq := n }

/-- `t` is `b` once records of axis a have been made: its record number, its counters and flags, the host port's work. -/
structure RecordsMade (a : Nat) (b t : Block) : Prop where
  lt : t.lt = b.lt
  axes : ∃ n, t.axes = upd b.axes a (numbered n)
  stat : t.rd (uAxis a) 0x160 = b.rd (uAxis a) 0x160

theorem upd_upd {α : Type} (f g : α → α) : ∀ (l : List α) (i : Nat), upd (upd l i f) i g = upd l i (g ∘ f)
  | [], _ => rfl
  | _ :: _, 0 => rfl
  | a :: r, i + 1 => congrArg (a :: ·) (upd_upd f g r i)

theorem upd_nth {α : Type} {f : α → α} {d : α} : ∀ {l : List α} {i : Nat}, f (nth l i d) = nth l i d → upd l i f = l
  | [], _, _ => rfl
  | _ :: r, 0, h => congrArg (· :: r) h
  | a :: r, _ + 1, h => congrArg (a :: ·) (upd_nth (l := r) h)

theorem recordsMade_refl (a : Nat) (b : Block) : RecordsMade a b b where
  lt := rfl
  axes := ⟨(b.axis a).recSeq, (upd_nth (f := numbered (b.axis a).recSeq) rfl).symm⟩
  stat := rfl

theorem RecordsMade.trans {a : Nat} {b t x : Block} (h : RecordsMade a b t) (h' : RecordsMade a t x) : RecordsMade a b x where
  lt := h'.lt.trans h.lt
  axes := by
    obtain ⟨n, hn⟩ := h.axes
    obtain ⟨n', hn'⟩ := h'.axes
    exact ⟨n', by rw [hn', hn, upd_upd]; rfl⟩
  stat := h'.stat.trans h.stat

/-- A Class B record leaves the axes and their registers. -/
theorem classB_axis (b : Block) (i : Nat) (r : Rec) {a : Nat} (ha : a < 2) {off : Nat} (ho : off < 0x4000) :
    (b.classB i r).lt = b.lt ∧ (b.classB i r).axes = b.axes ∧ (b.classB i r).rd (uAxis a) off = b.rd (uAxis a) off := by
  refine ⟨?_, ?_, ?_⟩
  · obtain ⟨_, _, _, _, h⟩ := b.hostWork_classB i r
    rw [h]
  · obtain ⟨_, _, _, _, h⟩ := b.hostWork_classB i r
    rw [h]
  · unfold classB
    split
    · have hne : uAxis a ≠ uLatgov := nofun
      exact rd_setI_unit b hne (by decide) (show a < 256 by omega) (by decide) ho _
    · refine rd_pushStream_below ?_ b i r
      unfold regKey
      simp only [UnitType.code]
      omega

theorem axisRecord_made (b : Block) {a : Nat} (ha : a < 2) (r : MarkRec) : RecordsMade a b (b.axisRecord a r) := by
  have hcount (f : Field) (hf : f.at 0 ≠ 0x160) : RecordsMade a b (b.inc (uAxis a) f) :=
    ⟨rfl, (recordsMade_refl a b).axes, rd_setI_ne b (regKey_off_ne _ hf.symm) _⟩
  have hflag (t : Block) : RecordsMade a t (t.flagRaise (uAxis a) F.AXIS.FLAGS_LATE) := by
    obtain ⟨hevt, herr⟩ := uAxis_ne a
    have hstat : (t.flagRaise (uAxis a) F.AXIS.FLAGS_LATE).rd (uAxis a) 0x160 = t.rd (uAxis a) 0x160 :=
      (rd_raise _ hevt herr (show a < 256 by omega) (by decide) _).trans (rd_setI_ne t (regKey_off_ne _ (by decide)) _)
    refine ⟨?_, ?_, hstat⟩
    · simp
    · rw [flagRaise_axes]
      exact (recordsMade_refl a t).axes
  have hrest (t : Block) (n : Nat) (r : MarkRec) : RecordsMade a t ((t.setAxis a (numbered n)).classB 0 (.mark r)) := by
    obtain ⟨hlt, haxes, hrd⟩ := classB_axis (t.setAxis a (numbered n)) 0 (.mark r) ha (off := 0x160) (by decide)
    exact ⟨hlt, ⟨n, haxes⟩, hrd⟩
  unfold axisRecord
  extract_lets u s₁ n
  have h₁ : RecordsMade a b s₁ := by
    unfold s₁
    split
    · exact hcount _ (by decide)
    · exact (hcount _ (by decide)).trans (hflag _)
    · exact (hcount _ (by decide)).trans (hflag _)
    · exact hcount _ (by decide)
    · exact hcount _ (by decide)
    · exact hcount _ (by decide)
  exact h₁.trans (hrest s₁ _ _)

theorem foldl_axisRecord_made {a : Nat} (ha : a < 2) (l : List MarkRec) (b : Block) :
    RecordsMade a b (l.foldl (fun t r => t.axisRecord a r) b) := by
  induction l generalizing b with
  | nil => exact recordsMade_refl a b
  | cons r l ih => exact (b.axisRecord_made ha r).trans (ih _)

/-- An axis with no marks queued. -/
def emptied (n : Nat) (x : AxisSt) : AxisSt := { x with queue := [], recSeq := n }

/-- What cancelling every mark of an axis leaves (R453). -/
theorem axisCancel_spec (b : Block) {a : Nat} (ha : a < b.axes.length) (ha2 : a < 2) (cause : Nat) :
    (b.axisCancel a cause).lt = b.lt ∧ (∃ n, (b.axisCancel a cause).axes = upd b.axes a (emptied n)) ∧
      (b.axisCancel a cause).axisState a = b.axisState a ∧
      (b.axisCancel a cause).get (uAxis a) F.AXIS.STAT_CAUSE = b.get (uAxis a) F.AXIS.STAT_CAUSE := by
  obtain ⟨hlt, ⟨n, haxes⟩, hstat⟩ := foldl_axisRecord_made ha2 ((b.axis a).queue.map (b.markRecord a 5 cause b.stamp false))
    (b.setAxis a fun x => { x with queue := [] })
  have haxes' : _ = upd b.axes a (emptied n) := haxes.trans (upd_upd ..)
  obtain ⟨t, ht⟩ : ∃ t, ((b.axis a).queue.map (b.markRecord a 5 cause b.stamp false)).foldl (fun t r => t.axisRecord a r)
    (b.setAxis a fun x => { x with queue := [] }) = t := ⟨_, rfl⟩
  have hcancel : b.axisCancel a cause = t.axisQueueRegs a := congrArg (axisQueueRegs · a) ht
  rw [ht] at hlt haxes' hstat
  have hempty : (t.axis a).queue = [] := by
    rw [axis, haxes', nth_upd_same _ _ _ _ ha]
    rfl
  have hregs : t.axisQueueRegs a = t.set (uAxis a) F.AXIS.STAT_QUEUED 0 := by
    unfold axisQueueRegs
    rw [hempty]
    rfl
  rw [hcancel, hregs]
  exact ⟨hlt, ⟨n, haxes'⟩, (getI_setI_field t _ 0 (by decide) _).trans (getI_of_rd hstat),
    (getI_setI_field t _ 0 (by decide) _).trans (getI_of_rd hstat)⟩

/-! ## Requests to an axis (R452, R453) -/

section
variable {b : Block} {a : Nat} (ha : a < b.axes.length)
include ha

theorem axisHome_unhomed (h : b.axisState a = 1) :
    (b.axisHome a).axisState a = 2 ∧ ((b.axisHome a).axis a).homeFrom = b.lt := by
  have heq : b.axisHome a = (b.setAxis a fun x => { x with homeFrom := b.lt, good := 0 }).set (uAxis a) F.AXIS.STAT_STATE 2 := if_pos h
  rw [heq]
  exact ⟨axisState_set _ a (by decide), congrArg AxisSt.homeFrom (axis_setAxis ha _)⟩

/-- The stop of a ready axis is the newest event to replan its motion, and no mark is left in its queue. -/
theorem axisStop_ready (ha2 : a < 2) (h : b.axisState a = 3) :
    (b.axisStop a).axisState a = 4 ∧ ((b.axisStop a).axis a).queue = [] ∧
      ∃ e : AxisEvent, ((b.axisStop a).axis a).replans = (b.axis a).replans ++ [e] ∧ e.at_ = b.lt ∧ e.stop = true ∧
        e.mark = none := by
  obtain ⟨t, ht⟩ : ∃ t, (b.set (uAxis a) F.AXIS.STAT_STATE 4).axisCancel a 5 = t := ⟨_, rfl⟩
  have heq : b.axisStop a = t.replanNow a := by
    unfold axisStop
    rw [h]
    exact congrArg (replanNow · a) ht
  obtain ⟨hlt, ⟨n, haxes⟩, hstate, -⟩ := axisCancel_spec (b.set (uAxis a) F.AXIS.STAT_STATE 4) (cause := 5) ha ha2
  rw [ht] at hlt haxes hstate
  have hlen : a < t.axes.length := by rw [haxes, length_upd]; exact ha
  have hx : t.axis a = emptied n (b.axis a) := by
    rw [axis, haxes]
    exact nth_upd_same _ _ _ _ ha
  have hstop : t.axisState a = 4 := hstate.trans (axisState_set b a (by decide))
  have hreplan : ∃ e : AxisEvent, t.replanNow a = t.setAxis a (fun x => { x with replans := x.replans ++ [e] }) ∧ e.at_ = b.lt ∧
      e.stop = true ∧ e.mark = none := by
    unfold replanNow
    rw [hx]
    exact ⟨_, rfl, hlt, beq_iff_eq.2 hstop, rfl⟩
  obtain ⟨e, hset, he⟩ := hreplan
  have hy := (axis_setAxis hlen (fun x => { x with replans := x.replans ++ [e] })).trans
    (congrArg (fun x : AxisSt => { x with replans := x.replans ++ [e] }) hx)
  rw [heq, hset]
  exact ⟨hstop, congrArg AxisSt.queue hy, e, congrArg AxisSt.replans hy, he⟩

theorem axisResume_stopped (h : b.axisState a = 5) :
    (b.axisResume a).axisState a = 3 ∧ ((b.axisResume a).axis a).plan = none := by
  have heq : b.axisResume a = (b.setAxis a fun x => { x with plan := none, replans := [] }).set (uAxis a) F.AXIS.STAT_STATE 3 := if_pos h
  rw [heq]
  exact ⟨axisState_set _ a (by decide), congrArg AxisSt.plan (axis_setAxis ha _)⟩

theorem axisFault_shown (ha2 : a < 2) {cause : Nat} (hc : cause < 16) :
    (b.axisFault a cause).axisState a = 6 ∧ (b.axisFault a cause).get (uAxis a) F.AXIS.STAT_CAUSE = cause := by
  have hflag (t : Block) (f : Field) (hf : f.at 0 = 0x160) :
      ((t.log (uAxis a) 0x0052 2 a cause 0).flagRaise (uAxis a) F.AXIS.FLAGS_FAULT).get (uAxis a) f = t.get (uAxis a) f := by
    obtain ⟨hevt, herr⟩ := uAxis_ne a
    have hat : f.at 0 < 0x4000 := hf ▸ (by decide)
    have hplace : f.at 0 ≠ F.AXIS.FLAGS_FAULT.at 0 := hf ▸ (by decide)
    exact (getI_flagRaise _ hevt herr (show a < 256 by omega) hat (apart_off _ hplace)).trans
      (getI_log t herr (show a < 256 by omega) hat ..)
  obtain ⟨-, -, hstate, hcause⟩ := axisCancel_spec (((b.set (uAxis a) F.AXIS.STAT_STATE 6).set (uAxis a) F.AXIS.STAT_CAUSE cause).setAxis a
    fun x => { x with plan := none, replans := [], vel := 0, acc := 0, clamped := false, clearing := false }) (a := a)
    (by rw [setAxis_length]; exact ha) ha2 6
  refine ⟨(hflag _ _ rfl).trans (hstate.trans ?_), (hflag _ _ rfl).trans (hcause.trans ?_)⟩
  · exact (getI_setI_field _ (uAxis a) 0 (by decide) cause).trans (axisState_set b a (by decide))
  · exact (get_set_same _ (uAxis a) (by decide) cause).trans (Nat.mod_eq_of_lt hc)

/-! ## Status frames (R439, R440) -/

theorem badStatus_short (hn : (b.axis a).bad + 1 < b.get (uAxis a) F.AXIS.CFG_LINK_LOSS_N) :
    ((b.badStatus a).axis a).bad = (b.axis a).bad + 1 ∧ ((b.badStatus a).axis a).due = false ∧
      (b.badStatus a).axisState a = b.axisState a ∧ (b.badStatus a).get (uAxis a) F.AXIS.CNT_LINK_ERR_COUNT =
        satAdd F.AXIS.CNT_LINK_ERR_COUNT.max (b.get (uAxis a) F.AXIS.CNT_LINK_ERR_COUNT) 1 := by
  obtain ⟨t, ht⟩ : ∃ t, b.setAxis a (fun x => { x with due := false, bad := (b.axis a).bad + 1, good := 0 }) = t := ⟨_, rfl⟩
  have hregs : t.regs = b.regs := ht ▸ rfl
  have hget (f : Field) (hf : f.at 0 ≠ 0x198) :
      (t.inc (uAxis a) F.AXIS.CNT_LINK_ERR_COUNT).get (uAxis a) f = b.get (uAxis a) f :=
    (getI_inc_apart t (apart_off _ hf)).trans (get_congr hregs ..)
  have heq : b.badStatus a = t.inc (uAxis a) F.AXIS.CNT_LINK_ERR_COUNT := by
    unfold badStatus
    extract_lets u n s₁
    have hs₁ : s₁ = t.inc (uAxis a) F.AXIS.CNT_LINK_ERR_COUNT := congrArg (inc · (uAxis a) F.AXIS.CNT_LINK_ERR_COUNT) ht
    rw [hs₁]
    exact if_neg fun h => absurd (hget F.AXIS.CFG_LINK_LOSS_N (by decide) ▸ h.1) (Nat.not_le.2 hn)
  have hx : t.axis a = { b.axis a with due := false, bad := (b.axis a).bad + 1, good := 0 } := ht ▸ axis_setAxis ha _
  rw [heq]
  refine ⟨congrArg AxisSt.bad hx, congrArg AxisSt.due hx, hget _ (by decide), ?_⟩
  exact (get_addI t (uAxis a) (by decide) 1).trans (congrArg (satAdd _ · 1) (get_congr hregs ..))

/-- What a good status frame of an axis shows, the good ones in a row being n (R439). -/
def statusTaken (b : Block) (a : Nat) (f : List Nat) (n : Nat) : Block :=
  (((b.putS (uAxis a) F.AXIS.ACT_POS_NM (sext 32 (leAt f 4 4))).set (uAxis a) F.AXIS.DRIVE_STATUS (leAt f 3 1)).set (uAxis a)
    F.AXIS.DRIVE_CODE (leAt f 8 2)).setAxis a fun x => { x with due := false, bad := 0, good := n }

omit ha in
theorem statusTaken_regs (b : Block) (a : Nat) (f : List Nat) (n : Nat) :
    (b.statusTaken a f n).getS (uAxis a) F.AXIS.ACT_POS_NM = sext 32 (leAt f 4 4) ∧
      (b.statusTaken a f n).get (uAxis a) F.AXIS.DRIVE_STATUS = leAt f 3 1 ∧
      (b.statusTaken a f n).get (uAxis a) F.AXIS.DRIVE_CODE = leAt f 8 2 ∧ (b.statusTaken a f n).axisState a = b.axisState a := by
  refine ⟨?_, ?_, ?_, ?_⟩
  · have hpos := getS_putS b (uAxis a) (f := F.AXIS.ACT_POS_NM) (by decide) (fitsS_sext (n := 32) (by decide) (leAt f 4 4))
    refine (congrArg (sext 32) ?_).trans hpos
    exact (get_set_axis _ a (by decide) _).trans (get_set_axis _ a (by decide) _)
  · refine (getI_setI_field _ (uAxis a) 0 (by decide) _).trans ((get_set_same _ (uAxis a) (by decide) _).trans ?_)
    exact Nat.mod_eq_of_lt (leAt_lt f 3 1)
  · exact (get_set_same _ (uAxis a) (by decide) _).trans (Nat.mod_eq_of_lt (leAt_lt f 8 2))
  · exact (get_set_axis _ a (by decide) _).trans ((get_set_axis _ a (by decide) _).trans (get_set_axis b a (by decide) _))

theorem statusTaken_axis (f : List Nat) (n : Nat) :
    (b.statusTaken a f n).axis a = { b.axis a with due := false, bad := 0, good := n } :=
  axis_setAxis (b := ((b.putS (uAxis a) F.AXIS.ACT_POS_NM (sext 32 (leAt f 4 4))).set (uAxis a) F.AXIS.DRIVE_STATUS (leAt f 3 1)).set
    (uAxis a) F.AXIS.DRIVE_CODE (leAt f 8 2)) ha _

variable {f : List Nat} (hsound : bit (leAt f 3 1) 2 = false)
include hsound

omit ha in
theorem goodStatus_unhomed (h : b.axisState a = 1) : ∃ n, b.goodStatus a f = b.statusTaken a f n := by
  refine ⟨if bit (leAt f 3 1) 1 && !bit (leAt f 3 1) 2 then (b.axis a).good + 1 else 0, ?_⟩
  obtain ⟨t, ht⟩ : ∃ t, b.statusTaken a f (if bit (leAt f 3 1) 1 && !bit (leAt f 3 1) 2 then (b.axis a).good + 1 else 0) = t := ⟨_, rfl⟩
  have hstate : t.axisState a = 1 := ht ▸ (b.statusTaken_regs a f _).2.2.2.trans h
  rw [ht]
  unfold statusTaken at ht
  unfold goodStatus
  extract_lets u stat pos prev s₁ n s₂ st
  have hs₂ : s₂ = t := ht
  have hst : st = 1 := (congrArg (axisState · a) hs₂).trans hstate
  rw [if_neg (by rw [hst]; decide), if_neg (by simp [stat, hsound]), if_neg (by rw [hst]; decide),
    if_neg fun h => absurd (hst.symm.trans h.1) (by decide)]
  exact hs₂

/-- An axis at rest where its drive reports it. -/
def restsAt (pos : Int) (x : AxisSt) : AxisSt :=
  { x with plan := none, replans := [], cmd := pos, prev := pos, vel := 0, acc := 0 }

omit ha in
theorem goodStatus_homes (h : b.axisState a = 2) (hhomed : bit (leAt f 3 1) 1 = true) (hgood : 1 ≤ (b.axis a).good) :
    b.goodStatus a f = ((b.statusTaken a f ((b.axis a).good + 1)).setAxis a (restsAt (sext 32 (leAt f 4 4)))).set (uAxis a)
      F.AXIS.STAT_STATE 3 := by
  obtain ⟨t, ht⟩ : ∃ t, b.statusTaken a f ((b.axis a).good + 1) = t := ⟨_, rfl⟩
  have hstate : t.axisState a = 2 := ht ▸ (b.statusTaken_regs a f _).2.2.2.trans h
  rw [ht]
  unfold goodStatus
  extract_lets u stat pos prev s₁ n s₂ st
  have hn : n = (b.axis a).good + 1 := if_pos (by simp [stat, hhomed, hsound])
  have hs₂ : s₂ = t := by
    rw [← ht, ← hn]
    rfl
  have hst : st = 2 := (congrArg (axisState · a) hs₂).trans hstate
  rw [if_neg (by rw [hst]; decide), if_neg (by simp [stat, hsound]), if_neg (by rw [hst]; decide), if_pos ⟨hst, by omega⟩, hs₂]
  rfl

end

/-- A frame that is due, in time and good (R439, R440). -/
theorem axisStatus_good {b : Block} {a : Nat} {f : List Nat} {q : Nat} (ha2 : a < 2) (hdue : (b.axis a).due = true)
    (hlive : b.axisState a ≠ 0) (hperiod : (b.axis a).period = some q)
    (htime : b.since q ≤ 1000 * b.get (uAxis a) F.AXIS.CFG_RESP_US) (hlen : f.length = 14) (hmark : leAt f 0 1 = 0x5A)
    (haddr : leAt f 1 1 = 9 + 16 * b.get (uAxis a) F.AXIS.CFG_DRIVE_ADDR) (hcrc : leAt f 12 2 = crc16 0xFFFF (f.take 12))
    (hk : leAt f 2 1 = ((b.axis a).k + 255) % 256) : b.axisStatus a f = b.goodStatus a f := by
  unfold axisStatus
  extract_lets x u inTime ok
  have hin : inTime = true := by
    unfold inTime
    split
    · next t ht =>
      obtain rfl := Option.some.inj (ht.symm.trans hperiod)
      exact decide_eq_true htime
    · next hnone => exact absurd (hnone.symm.trans hperiod) nofun
  have hok : ok = true := by
    simp only [ok, x, u, hlen, hmark, haddr, hcrc, hk, beq_self_eq_true, Bool.and_self]
  rw [if_neg (by simp [x, hdue, hlive, ha2]), hin, hok]
  rfl

end Block
/-- A command of core 3's firmware for one of the two axes. -/
theorem State.upOn.exec_axis {s : State} {dt a : Nat} (hon : s.upOn dt 3) (ha : a < 2) {c : Instr} {f : Block → Block} {t : Block}
    (hc : exec c s = s.liveOn 3 dt fun b => if a < 2 then f b else b) (hf : f (s.now dt) = t) : exec c s = .next ⟨s.pending, t⟩ :=
  hon.exec_next hc ((if_pos ha).trans hf)

/-- Settles O50: each request, time-out and status in the state that takes it is one equation, and cancelling the queued marks
leaves the axis but for its queue. -/
theorem axesMoveThroughTheirStates : Obligations.AxesMoveThroughTheirStates := by
  intro s dt a hon ha hlen b u x
  have hin : a < b.axes.length := hlen ▸ ha
  refine ⟨fun h => ?home, fun h => ?stop, fun h => ?resume, fun h => ?clearFault, fun h hlong => ?homeTimeout,
    fun q hperiod hdue hlong hshort => ?late, fun f q hdue hperiod htime hflen _ hmark haddr hcrc hk hsound hstate => ?status⟩
  case home => exact ⟨_, hon.exec_axis ha (exec_home dt a s) rfl, Block.axisHome_unhomed hin h⟩
  case stop =>
    obtain ⟨hstate, hqueue, e, hreplans, hat, hstop, hmark⟩ := Block.axisStop_ready hin ha h
    exact ⟨_, e, hon.exec_axis ha (exec_stop dt a s) rfl, hstate, hqueue, hreplans, hat, hstop, hmark⟩
  case resume => exact ⟨_, hon.exec_axis ha (exec_resume dt a s) rfl, Block.axisResume_stopped hin h⟩
  case clearFault =>
    exact ⟨_, hon.exec_axis ha (exec_clearFault dt a s) (if_pos h), congrArg AxisSt.clearing (Block.axis_setAxis hin _), rfl⟩
  case homeTimeout => exact ⟨_, hon.exec_axis ha (exec_homeTimeout dt a s) (if_pos ⟨h, hlong⟩), Block.axisFault_shown hin ha (by decide)⟩
  case late =>
    have heq : b.axisRespTimeout a = b.badStatus a := by
      unfold Block.axisRespTimeout
      rw [show (b.axis a).period = some q from hperiod]
      exact if_pos (Bool.and_eq_true_iff.2 ⟨hdue, decide_eq_true hlong⟩)
    exact ⟨_, hon.exec_axis ha (exec_axisRespTimeout dt a s) heq, Block.badStatus_short hin hshort⟩
  case status =>
    have hlive : b.axisState a ≠ 0 := by
      rcases hstate with h | ⟨h, -, -⟩
      · exact h ▸ (by decide)
      · exact h ▸ (by decide)
    have hexec {t : Block} (ht : b.goodStatus a f = t) : exec (.axisStatus dt a f) s = .next ⟨s.pending, t⟩ :=
      hon.exec_axis ha (exec_axisStatus dt a f s)
        ((Block.axisStatus_good ha hdue hlive hperiod htime hflen hmark haddr hcrc hk).trans ht)
    rcases hstate with h | ⟨h, hhomed, hgood⟩
    · obtain ⟨n, heq⟩ := Block.goodStatus_unhomed hsound h
      obtain ⟨hpos, hstat, hcode, hkeeps⟩ := b.statusTaken_regs a f n
      have hx := Block.statusTaken_axis hin f n
      exact ⟨_, hexec heq, hpos, hstat, hcode, congrArg AxisSt.due hx, congrArg AxisSt.bad hx, fun _ => hkeeps.trans h,
        fun h2 => absurd (h.symm.trans h2) (by decide)⟩
    · obtain ⟨hpos, hstat, hcode, -⟩ := b.statusTaken_regs a f ((b.axis a).good + 1)
      have hx := (Block.axis_setAxis (b := b.statusTaken a f ((b.axis a).good + 1)) (a := a) (by
        rw [Block.statusTaken, Block.setAxis_length]; exact hin) (Block.restsAt (sext 32 (leAt f 4 4)))).trans
        (congrArg _ (Block.statusTaken_axis hin f _))
      have hget {g : Field} (hg : g.at 0 ≠ 0x160) := Block.get_set_axis ((b.statusTaken a f ((b.axis a).good + 1)).setAxis a
        (Block.restsAt (sext 32 (leAt f 4 4)))) a (f := F.AXIS.STAT_STATE) (g := g) hg 3
      exact ⟨_, hexec (Block.goodStatus_homes hsound h hhomed hgood),
        (congrArg (sext 32) (hget (g := F.AXIS.ACT_POS_NM) (by decide))).trans hpos, (hget (by decide)).trans hstat,
        (hget (by decide)).trans hcode, congrArg AxisSt.due hx, congrArg AxisSt.bad hx,
        fun h1 => absurd (h.symm.trans h1) (by decide),
        fun _ => ⟨Block.axisState_set _ a (by decide), congrArg AxisSt.cmd hx⟩⟩

end Sys2Proof.Machine

/-! # Set-point frames, tags and mark pulses of an axis (R437-R448) -/

namespace Sys2Proof.Machine
namespace Block

section
variable {b : Block} {a : Nat} (ha : a < b.axes.length)

/-! ## Set-point frames (R437, R438) -/

/-- An axis at rest once the frame of a period has carried its position, `prev` the one before. -/
def sentAt (lt : Nat) (pos prev : Int) (x : AxisSt) : AxisSt :=
  { x with k := x.k + 1, period := some lt, due := true, cmd := pos, prev := prev, vel := 0, acc := 0 }

/-- The outputs of a set-point frame of an axis at rest. -/
def frameOut (b : Block) (a cmd : Nat) (pos : Int) : List Output :=
  [.pin (.axisDe a) true, .axisFrame a (frameBytes (b.get (uAxis a) F.AXIS.CFG_DRIVE_ADDR) (b.axis a).k cmd pos 0 0 0),
    .pin (.axisDe a) false]

/-- The block once that frame has gone out. -/
def framed (b : Block) (a cmd : Nat) (pos : Int) : Block :=
  ((b.emits (b.frameOut a cmd pos)).putS (uAxis a) F.AXIS.CMD_POS_NM pos).setAxis a (sentAt b.lt pos (b.axis a).cmd)

include ha in
theorem framed_spec (cmd : Nat) (pos : Int) :
    (b.framed a cmd pos).out = .pin (.axisDe a) false ::
        .axisFrame a (frameBytes (b.get (uAxis a) F.AXIS.CFG_DRIVE_ADDR) (b.axis a).k cmd pos 0 0 0) :: .pin (.axisDe a) true ::
        b.out ∧
      ((b.framed a cmd pos).axis a).k = (b.axis a).k + 1 ∧ ((b.framed a cmd pos).axis a).period = some b.lt ∧
      ((b.framed a cmd pos).axis a).due = true ∧ ((b.framed a cmd pos).axis a).cmd = pos := by
  have haxes : (b.framed a cmd pos).axes = (b.setAxis a (sentAt b.lt pos (b.axis a).cmd)).axes := rfl
  have hx : (b.framed a cmd pos).axis a = sentAt b.lt pos (b.axis a).cmd (b.axis a) := (axis_congr haxes a).trans (axis_setAxis ha _)
  rw [hx]
  exact ⟨rfl, rfl, rfl, rfl, rfl⟩

/-- A period of an axis is due, its last status has come, and no event waits for its plan. -/
structure FrameDue (b : Block) (a : Nat) : Prop where
  core : nth b.boot.cores 3 false = true
  axis : a < 2
  came : (b.axis a).due = false
  planned : (b.axis a).replans = []
  period : ∀ q, (b.axis a).period = some q → 1000 * b.get (uAxis a) F.AXIS.CFG_PERIOD_US ≤ b.since q

/-- The position a frame carries, with the block that stands once it is known: of an axis at rest, state by state. -/
theorem servoPeriod_framed (h : b.FrameDue a) {t : Block} {cmd : Nat} {pos : Int}
    (hunhomed : b.axisState a = 1 → t = b ∧ cmd = 0 ∧ pos = b.actPos a)
    (hready : b.axisState a = 3 → cmd = 1 ∧ (∀ next period, b.frameFire a next period = (none, b)) ∧
      ∀ next, b.setPoint a next = (pos, 0, 0, t) ∧ (t.axis a).cmd = (b.axis a).cmd)
    (hstate : b.axisState a = 1 ∨ b.axisState a = 3) : b.servoPeriod a = t.framed a cmd pos := by
  obtain ⟨hcore, ha2, hcame, hplanned, hperiod⟩ := h
  unfold servoPeriod
  extract_lets u period due next s₁ ripe s₂ stopped s₃ st
  have hdue : due = true := by
    unfold due
    split
    · next q hq => exact decide_eq_true ((hperiod q hq).trans (Nat.le_succ _))
    · rfl
  have hs₁ : s₁ = b := if_neg (by rw [hcame]; exact Bool.false_ne_true)
  have hs₂ : s₂ = b := by
    unfold s₂
    rw [hs₁, hplanned]
    rfl
  have hs₃ : s₃ = b := by
    have hgoing : stopped = false := by
      unfold stopped
      rw [hs₂]
      rcases hstate with hstate | hstate <;> rw [hstate] <;> rfl
    unfold s₃
    rw [hgoing, hs₂]
    rfl
  have hst : st = b.axisState a := congrArg (axisState · a) hs₃
  clear_value s₃ st next
  subst hs₃ hst
  rcases hstate with hstate | hstate
  · obtain ⟨rfl, rfl, rfl⟩ := hunhomed hstate
    rw [if_neg (by simp [hstate, hdue, hcore, ha2]), hstate, if_neg (by decide)]
    rfl
  · obtain ⟨rfl, hfire, hpoint⟩ := hready hstate
    rw [if_neg (by simp [hstate, hdue, hcore, ha2]), hstate, hfire, if_pos rfl]
    dsimp only
    rw [(hpoint next).1, ← (hpoint next).2, if_pos (.inl rfl)]
    rfl

theorem servoPeriod_unhomed (h : b.FrameDue a) (hstate : b.axisState a = 1) : b.servoPeriod a = b.framed a 0 (b.actPos a) :=
  servoPeriod_framed h (fun _ => ⟨rfl, rfl, rfl⟩) (fun h3 => absurd (hstate.symm.trans h3) (by decide)) (.inl hstate)

/-- An axis whose set-point stands at no virtual limit. -/
def unclamped (x : AxisSt) : AxisSt := { x with clamped := false }

/-- The set-point of an axis at rest within the virtual limits is where it stands (R447). -/
theorem setPoint_rests (hplan : (b.axis a).plan = none) (hmin : b.getS (uAxis a) F.AXIS.VLIM_MIN_NM ≤ (b.axis a).cmd)
    (hmax : (b.axis a).cmd ≤ b.getS (uAxis a) F.AXIS.VLIM_MAX_NM) (at_ : Nat) :
    b.setPoint a at_ = ((b.axis a).cmd, 0, 0, b.setAxis a unclamped) := by
  unfold setPoint
  rw [hplan]
  exact (if_neg (not_lt.2 hmin)).trans (if_neg (not_lt.2 hmax))

theorem frameFire_none (hqueue : (b.axis a).queue = []) (next period : Nat) : b.frameFire a next period = (none, b) := by
  rw [frameFire, hqueue]

include ha in
theorem servoPeriod_ready (h : b.FrameDue a) (hstate : b.axisState a = 3) (hplan : (b.axis a).plan = none)
    (hqueue : (b.axis a).queue = []) (hmin : b.getS (uAxis a) F.AXIS.VLIM_MIN_NM ≤ (b.axis a).cmd)
    (hmax : (b.axis a).cmd ≤ b.getS (uAxis a) F.AXIS.VLIM_MAX_NM) :
    b.servoPeriod a = (b.setAxis a unclamped).framed a 1 (b.axis a).cmd :=
  servoPeriod_framed h (fun h1 => absurd (hstate.symm.trans h1) (by decide)) (fun _ => ⟨rfl, frameFire_none hqueue,
    fun at_ => ⟨setPoint_rests hplan hmin hmax at_, by rw [axis_setAxis ha]; rfl⟩⟩) (.inr hstate)

/-! ## Mark tags (R442-R444, R454) -/

/-- The block with a tag taken from those an axis has received. -/
def tagTaken (b : Block) (a : Nat) (rest : List TagRec) : Block := b.setAxis a fun x => { x with inbox := rest }

include ha in
theorem tagTaken_axis (rest : List TagRec) : (b.tagTaken a rest).axis a = { b.axis a with inbox := rest } := axis_setAxis ha _

/-- The axis takes marks of a tag's class. -/
def marksClass (b : Block) (a : Nat) (m : TagRec) : Bool :=
  b.on (uAxis a) F.AXIS.CFG_EN && b.on (uAxis a) F.AXIS.SEL_MARK_EN && (if m.cls < 32 then bit (b.get (uAxis a) F.AXIS.CLASS_LO_MASK) m.cls
    else bit (b.get (uAxis a) F.AXIS.CLASS_HI_MASK) (m.cls - 32))

/-- The target of a tag across the web (R443). -/
def markGoal (b : Block) (a : Nat) (m : TagRec) : Int :=
  b.getS (uAxis a) F.AXIS.XMAP_ORG_NM + divRound (((16 * m.col + m.cenCol : Nat) - (16 * b.get (uAxis a) F.AXIS.XMAP_COL0_COL : Nat)) *
    b.get (uAxis a) F.AXIS.XMAP_PITCH_PM) 16000

/-- The fire point of a tag of a page (R442). -/
def firePoint (b : Block) (a : Nat) (m : TagRec) (p : AxisPage) : Int :=
  p.start + divRound ((16 * m.pageLine + m.cenLine + 8 : Nat) * p.pitch : Nat) 16000 + 1000 * b.get (uAxis a) F.AXIS.STATION_DIST_UM

variable {m : TagRec} {rest : List TagRec} (hinbox : (b.axis a).inbox = m :: rest)

include hinbox in
theorem markTag_ignored (hoff : b.marksClass a m = false) : b.markTag a = b.tagTaken a rest := by
  unfold markTag
  rw [hinbox]
  exact if_pos (by rw [Bool.not_eq_true']; exact hoff)

/-- The target of a tag lies within the virtual limits. -/
def goalInside (b : Block) (a : Nat) (m : TagRec) : Prop :=
  b.getS (uAxis a) F.AXIS.VLIM_MIN_NM ≤ b.markGoal a m ∧ b.markGoal a m ≤ b.getS (uAxis a) F.AXIS.VLIM_MAX_NM

theorem goalInside_iff : b.goalInside a m ↔
    ¬(b.markGoal a m < b.getS (uAxis a) F.AXIS.VLIM_MIN_NM ∨ b.getS (uAxis a) F.AXIS.VLIM_MAX_NM < b.markGoal a m) := by
  rw [not_or, not_lt, not_lt, goalInside]

variable (hon : b.marksClass a m = true)
include hinbox hon

theorem markTag_outside (hout : ¬b.goalInside a m) : b.markTag a = (b.tagTaken a rest).inc (uAxis a) F.AXIS.CNT_OUTSIDE_COUNT := by
  unfold markTag
  rw [hinbox]
  refine (if_neg ?_).trans (if_pos (not_not.1 (goalInside_iff.not.1 hout)))
  rw [Bool.not_eq_true']
  exact fun h => Bool.false_ne_true (h.symm.trans hon)

/-- A record of a refused mark. -/
def refusal (b : Block) (a cause : Nat) (m : TagRec) : MarkRec :=
  ⟨3, cause, b.devAddr, a, m.seq, b.stamp, b.markGoal a m, 0, 0, 0⟩

variable (hinside : b.goalInside a m)
include ha hinside

theorem markTag_unrecorded (hpage : (b.axis a).pages.find? (fun p => p.page == m.page) = none) :
    b.markTag a = (b.tagTaken a rest).axisRecord a (b.refusal a 1 m) := by
  have hpages : ((b.tagTaken a rest).axis a).pages = (b.axis a).pages := by
    rw [tagTaken_axis ha rest]
  unfold markTag
  rw [hinbox]
  refine (if_neg ?_).trans ((if_neg (goalInside_iff.1 hinside)).trans ?_)
  · rw [Bool.not_eq_true']
    exact fun h => Bool.false_ne_true (h.symm.trans hon)
  · have hnone : ((b.tagTaken a rest).axis a).pages.find? (fun p => p.page == m.page) = none := hpages ▸ hpage
    unfold tagTaken at hnone
    dsimp only
    rw [hnone]
    rfl

/-- The mark of a fire point, a target and a tag's number, in its order of queueing. -/
def markOf (f x : Int) (seq : Nat) (y : AxisSt) : AxisMark := ⟨y.nextId, f, x, seq, false, false, none, false⟩

/-- An axis with that mark queued (R444). -/
def markQueued (f x : Int) (seq : Nat) (y : AxisSt) : AxisSt :=
  { y with queue := insertMark (markOf f x seq y) y.queue, nextId := y.nextId + 1 }

theorem markTag_queues {p : AxisPage} (hpage : (b.axis a).pages.find? (fun p => p.page == m.page) = some p)
    (hready : b.axisState a = 3) (hahead : b.web.pNow < b.firePoint a m p * 65536) (hroom : (b.axis a).queue.length < 64)
    (hfar : ∀ k ∈ (b.axis a).queue, 1000 * b.get (uAxis a) F.AXIS.MERGE_DOWN_UM < (b.firePoint a m p - k.f).natAbs ∨
      1000 * b.get (uAxis a) F.AXIS.MERGE_CROSS_UM < (b.markGoal a m - k.x).natAbs) :
    b.markTag a = ((b.tagTaken a rest).setAxis a (markQueued (b.firePoint a m p) (b.markGoal a m) m.seq)).headEvent a
      ((b.axis a).queue.head?.map AxisMark.id) := by
  have hx := tagTaken_axis ha rest
  have hsome : ((b.tagTaken a rest).axis a).pages.find? (fun p => p.page == m.page) = some p := by
    rw [hx]
    exact hpage
  have hqueue : ((b.tagTaken a rest).axis a).queue = (b.axis a).queue := by rw [hx]
  unfold markTag
  rw [hinbox]
  refine (if_neg ?_).trans ((if_neg (goalInside_iff.1 hinside)).trans ?_)
  · rw [Bool.not_eq_true']
    exact fun h => Bool.false_ne_true (h.symm.trans hon)
  unfold tagTaken at hsome hqueue
  dsimp only
  rw [hsome]
  dsimp only
  rw [hqueue]
  refine (if_neg (not_not.2 hready)).trans ((if_neg (not_le.2 hahead)).trans ((if_neg ?_).trans ((if_neg (not_le.2 hroom)).trans ?_)))
  · rw [Bool.not_eq_true, List.any_eq_false]
    intro k hk hnear
    obtain ⟨hdown, hcross⟩ := Bool.and_eq_true_iff.1 hnear
    exact (hfar k hk).elim (not_lt.2 (of_decide_eq_true hdown)) (not_lt.2 (of_decide_eq_true hcross))
  · rfl

end

/-- The registers of the queue, and a new plan for a new head, leave the marks queued and the tags received. -/
theorem headEvent_axis {b : Block} {a : Nat} (ha : a < b.axes.length) (old : Option Nat) :
    ((b.headEvent a old).axis a).queue = (b.axis a).queue ∧ ((b.headEvent a old).axis a).inbox = (b.axis a).inbox := by
  have haxes : (b.axisQueueRegs a).axes = b.axes := by
    unfold axisQueueRegs
    dsimp only
    split <;> rfl
  have hsame := axis_congr haxes a
  unfold headEvent
  dsimp only
  split
  · unfold replanNow
    rw [axis_setAxis (haxes ▸ ha), hsame]
    exact ⟨rfl, rfl⟩
  · rw [hsame]
    exact ⟨rfl, rfl⟩

theorem markTag_queued {b : Block} {a : Nat} (ha : a < b.axes.length) (rest : List TagRec) (f x : Int) (seq : Nat)
    (old : Option Nat) :
    ((((b.tagTaken a rest).setAxis a (markQueued f x seq)).headEvent a old).axis a).inbox = rest ∧
      ((((b.tagTaken a rest).setAxis a (markQueued f x seq)).headEvent a old).axis a).queue =
        insertMark (markOf f x seq (b.axis a)) (b.axis a).queue := by
  have hlen : a < (b.tagTaken a rest).axes.length := by rw [tagTaken, setAxis_length]; exact ha
  obtain ⟨hqueue, hbox⟩ := headEvent_axis (b := (b.tagTaken a rest).setAxis a (markQueued f x seq))
    (by rw [setAxis_length]; exact hlen) old
  rw [hqueue, hbox, axis_setAxis hlen, tagTaken_axis ha]
  exact ⟨rfl, rfl⟩

/-! ## Mark pulses (R448) -/

/-- An axis with a decided mark's pulse begun. -/
def pulsed (h : AxisShot) (end_ : Nat) (x : AxisSt) : AxisSt := { x with shots := x.shots.erase h, pulseEnd := some end_ }

/-- The block with that pulse begun. -/
def pulseBegun (b : Block) (a : Nat) (h : AxisShot) : Block :=
  (if (b.axis a).pulseEnd.isSome then b else b.emit (.pin (.mark a) true)).setAxis a
    (pulsed h (h.rise + 1000 * b.get (uAxis a) F.AXIS.MARK_CFG_WIDTH_US))

theorem markPulse_due {b : Block} {a : Nat} {h : AxisShot} {rest : List AxisShot} (hshots : (b.axis a).shots = h :: rest)
    (hdue : h.rise ≤ b.lt + 1) : b.markPulse a = (b.pulseBegun a h).axisRecord a h.rec_ := by
  have hfind : (b.axis a).shots.find? (fun h => decide (h.rise ≤ b.lt + 1)) = some h := by
    rw [hshots]
    exact List.find?_cons_of_pos (decide_eq_true hdue)
  unfold markPulse
  rw [hfind]
  rfl

theorem pulseBegun_spec {b : Block} {a : Nat} (ha : a < b.axes.length) {h : AxisShot} {rest : List AxisShot}
    (hshots : (b.axis a).shots = h :: rest) :
    ((b.pulseBegun a h).axis a).shots = rest ∧
      ((b.pulseBegun a h).axis a).pulseEnd = some (h.rise + 1000 * b.get (uAxis a) F.AXIS.MARK_CFG_WIDTH_US) ∧
      (b.pulseBegun a h).out = if (b.axis a).pulseEnd.isSome then b.out else .pin (.mark a) true :: b.out := by
  have hx : (b.pulseBegun a h).axis a = pulsed h (h.rise + 1000 * b.get (uAxis a) F.AXIS.MARK_CFG_WIDTH_US) (b.axis a) := by
    unfold pulseBegun
    split
    · exact axis_setAxis ha _
    · exact axis_setAxis (b := b.emit _) ha _
  rw [hx]
  refine ⟨?_, rfl, ?_⟩
  · rw [pulsed, hshots]
    exact List.erase_cons_head ..
  · exact apply_ite Block.out ..

theorem markPulseEnd_due {b : Block} {a e : Nat} (hend : (b.axis a).pulseEnd = some e) (hdue : e ≤ b.lt + 1) :
    b.markPulseEnd a = (b.setAxis a fun x => { x with pulseEnd := none }).emit (.pin (.mark a) false) := by
  rw [markPulseEnd, hend]
  exact if_pos hdue

end Block

/-- Settles O51. It rests on a choice of the model: the record of a mark goes with its pulse (log entry 59). -/
theorem marksAreTakenAndFired : Obligations.MarksAreTakenAndFired := by
  intro s dt a hon ha hlen b u x
  have hin : a < b.axes.length := hlen ▸ ha
  refine ⟨fun hcame hplanned hperiod => ?frames, fun m rest hinbox => ?tags, fun h rest hshots hdue => ?pulse, fun e hend hdue => ?pulseEnd⟩
  case frames =>
    have hdue : b.FrameDue a := ⟨hon.2, ha, hcame, hplanned, hperiod⟩
    refine ⟨fun hstate => ?_, fun hstate hplan hqueue hmin hmax => ?_⟩
    · exact ⟨_, hon.exec_axis ha (exec_servoPeriod dt a s) (Block.servoPeriod_unhomed hdue hstate), Block.framed_spec hin 0 _⟩
    · have hx : (b.setAxis a Block.unclamped).axis a = Block.unclamped (b.axis a) := Block.axis_setAxis hin _
      obtain ⟨hout, hk, hrest⟩ := Block.framed_spec (b := b.setAxis a Block.unclamped) (a := a)
        (by rw [Block.setAxis_length]; exact hin) 1 (b.axis a).cmd
      rw [hx] at hout hk
      exact ⟨_, hon.exec_axis ha (exec_servoPeriod dt a s) (Block.servoPeriod_ready hin hdue hstate hplan hqueue hmin hmax), hout, hk,
        hrest⟩
  case tags =>
    have hexec {t : Block} (ht : b.markTag a = t) : exec (.markTag dt a) s = .next ⟨s.pending, t⟩ :=
      hon.exec_axis ha (exec_markTag dt a s) ht
    have htaken := Block.tagTaken_axis hin rest
    have hbox : ((b.tagTaken a rest).axis a).inbox = rest := by rw [htaken]
    have hqueue : ((b.tagTaken a rest).axis a).queue = (b.axis a).queue := by rw [htaken]
    refine ⟨fun hoff => ?_, fun hon' hout => ?_, fun hon' hinside hpage => ?_,
      fun p hon' hinside hpage hready hahead hroom hfar => ?_⟩
    · exact ⟨_, hexec (Block.markTag_ignored hinbox hoff), hbox, rfl, hqueue, rfl⟩
    · exact ⟨_, hexec (Block.markTag_outside hinbox hon' hout), hbox, hqueue, Block.get_addI _ u (by decide) 1⟩
    · exact ⟨_, hbox, hqueue, hexec (Block.markTag_unrecorded hin hinbox hon' hinside hpage)⟩
    · obtain ⟨hbox', hqueue'⟩ := Block.markTag_queued hin rest (b.firePoint a m p) (b.markGoal a m) m.seq
        ((b.axis a).queue.head?.map AxisMark.id)
      exact ⟨_, _, hexec (Block.markTag_queues hin hinbox hon' hinside hpage hready hahead hroom hfar), hbox', hqueue', rfl, rfl, rfl⟩
  case pulse => exact ⟨_, hon.exec_axis ha (exec_markPulse dt a s) (Block.markPulse_due hshots hdue), Block.pulseBegun_spec hin hshots⟩
  case pulseEnd =>
    exact ⟨_, hon.1.exec_next (exec_markPulseEnd dt a s) ((if_pos ha).trans (Block.markPulseEnd_due hend hdue)),
      congrArg AxisSt.pulseEnd (Block.axis_setAxis hin _), rfl⟩

end Sys2Proof.Machine

/-! # The DRAM controller (R460-R474) -/

namespace Sys2Proof.Machine
namespace Block

/-! ## What service, waking and queueing leave -/

/-- The registers a read is judged and counted by: CFG, FLAGS, the counters of corrected and of uncorrectable reads. -/
def dataOffs : List Nat := [0x100, 0x194, 0x1b0, 0x1b4]

/-- Block t holds the data, the errors and the outputs of block b, and the registers a read is judged and counted by. -/
structure DataKept (b t : Block) : Prop where
  mem : t.dmc.mem = b.dmc.mem
  bad : t.dmc.bad = b.dmc.bad
  out : t.out = b.out
  rd : ∀ off ∈ dataOffs, t.rd uDmc off = b.rd uDmc off

theorem DataKept.refl (b : Block) : b.DataKept b := ⟨rfl, rfl, rfl, fun _ _ => rfl⟩

theorem DataKept.trans {b t v : Block} (h : b.DataKept t) (h' : t.DataKept v) : b.DataKept v :=
  ⟨h'.mem.trans h.mem, h'.bad.trans h.bad, h'.out.trans h.out, fun off ho => (h'.rd off ho).trans (h.rd off ho)⟩

theorem DataKept.getI {b t : Block} (h : b.DataKept t) {f : Field} (hf : f.at 0 ∈ dataOffs) : t.get uDmc f = b.get uDmc f :=
  getI_of_rd (h.rd _ hf)

theorem DataKept.badOf {b t : Block} (h : b.DataKept t) (g : Nat) : t.badOf g = b.badOf g := by
  rw [Block.badOf, h.bad, Block.badOf]

theorem DataKept.granule {b t : Block} (h : b.DataKept t) (g : Nat) : t.granule g = b.granule g := by
  rw [Block.granule, h.mem, Block.granule]

theorem dataKept_setI (b : Block) {f : Field} {i : Nat} (hf : f.at i ∉ dataOffs) (v : Nat) : b.DataKept (b.setI uDmc f i v) :=
  ⟨rfl, rfl, rfl, fun _ ho => rd_setI_ne b (regKey_off_ne uDmc fun e => hf (e ▸ ho)) v⟩

theorem dataKept_of_regs {b t : Block} (hregs : t.regs = b.regs) (hmem : t.dmc.mem = b.dmc.mem) (hbad : t.dmc.bad = b.dmc.bad)
    (hout : t.out = b.out) : b.DataKept t := ⟨hmem, hbad, hout, fun _ _ => rd_congr hregs uDmc _⟩

theorem dataKept_foldl {α : Type} {f : Block → α → Block} (h : ∀ (t : Block) (a : α), t.DataKept (f t a)) :
    ∀ (l : List α) (b : Block), b.DataKept (l.foldl f b)
  | [], b => .refl b
  | a :: l, b => (h b a).trans (dataKept_foldl h l (f b a))

theorem not_mem_dataOffs_of_lt {off : Nat} (h : 0x1b4 < off) : off ∉ dataOffs := by
  intro ho
  have : ∀ x ∈ dataOffs, x ≤ 0x1b4 := by decide
  exact absurd (this off ho) (by omega)

theorem chanState_at (c : Nat) : F.DMC.CH_STAT_STATE.at c = 0x200 + 4 * c := rfl

theorem dataKept_chanStates (b : Block) (v : Nat) : b.DataKept (b.chanStates v) :=
  dataKept_foldl (fun t c => dataKept_setI t (not_mem_dataOffs_of_lt (by rw [chanState_at]; omega)) v) (List.range 16) b

theorem dataKept_dramWake (b : Block) : b.DataKept b.dramWake := by
  unfold dramWake
  extract_lets _ s
  have hs : b.DataKept s := dataKept_of_regs rfl rfl rfl rfl
  split
  · exact (hs.trans (dataKept_setI s (f := F.DMC.STAT_STATE) (i := 0) (by decide) 3)).trans (dataKept_chanStates _ 0)
  · exact hs

theorem tagsUpdate_dmc (b : Block) : b.tagsUpdate.dmc = b.dmc := by
  unfold tagsUpdate
  dsimp only
  split <;> rfl

theorem dataKept_tagsUpdate (b : Block) : b.DataKept b.tagsUpdate where
  mem := congrArg DmcSt.mem b.tagsUpdate_dmc
  bad := congrArg DmcSt.bad b.tagsUpdate_dmc
  out := b.tagsUpdate_out
  rd off ho := by
    have hbelow : ∀ x ∈ dataOffs, regKey uDmc x < regKey uHost 0 := by decide
    exact b.rd_tagsUpdate_below (hbelow off ho)

theorem dataKept_reqQueue (b : Block) (q tier : Nat) (hint : Option Bool) (write : Bool) (g : Nat) :
    b.DataKept (b.reqQueue q tier hint write g) := by
  unfold reqQueue
  extract_lets r
  refine DataKept.trans ?_ (dataKept_tagsUpdate _)
  exact dataKept_of_regs rfl rfl rfl rfl

theorem dataKept_drainUpdate (b : Block) (c : Nat) : b.DataKept (b.drainUpdate c) := by
  unfold drainUpdate
  extract_lets n
  split_ifs
  · exact dataKept_of_regs rfl rfl rfl rfl
  · exact .refl b
  · refine DataKept.trans ?_ (dataKept_setI _ (f := F.DMC.CNT_DRAIN_COUNT) (i := 0) (by decide) _)
    exact dataKept_of_regs rfl rfl rfl rfl
  · exact .refl b

theorem dataKept_rowAccess (keep : Bool) (b : Block) (p : DramPlace) : b.DataKept (b.rowAccess keep p) :=
  dataKept_of_regs rfl rfl rfl rfl

theorem dataKept_serveReq (b : Block) (r : DramReq) : b.DataKept (b.serveReq r) := by
  unfold serveReq
  extract_lets _ s₁ s₂ ns
  have h₁ : b.DataKept s₁ := by
    refine DataKept.trans ?_ (dataKept_tagsUpdate _)
    exact dataKept_of_regs rfl rfl rfl rfl
  have h : b.DataKept s₂ := h₁.trans (dataKept_foldl (dataKept_rowAccess r.open_) _ s₁)
  clear_value s₁ s₂
  split
  · refine h.trans (dataKept_setI s₂ (not_mem_dataOffs_of_lt ?_) ns)
    simp only [Field.at, F.DMC.REQ_LAT_MAX_NS]
    omega
  · exact h

theorem dataKept_dramSlot (b : Block) (c : Nat) : b.DataKept (b.dramSlot c) := by
  unfold dramSlot
  extract_lets n _ s₁ pool
  have h : b.DataKept s₁ := by
    refine DataKept.trans ?_ (dataKept_drainUpdate _ c)
    exact dataKept_of_regs rfl rfl rfl rfl
  clear_value s₁
  split
  · next r _ => exact h.trans (dataKept_serveReq s₁ r)
  · exact h

theorem dataKept_dramSlots (c : Nat) : ∀ (n : Nat) (b : Block), b.DataKept (b.dramSlots c n)
  | 0, b => .refl b
  | n + 1, b => (dataKept_dramSlot b c).trans (dataKept_dramSlots c n (b.dramSlot c))

/-! ## A granule read (R460, R461) -/

theorem lookupD_dropK {α : Type} (k : Nat) (d : α) : ∀ l : List (Nat × α), lookupD k d (dropK k l) = d
  | [] => rfl
  | (j, v) :: l => by
    by_cases h : j = k
    · rw [dropK, List.filter_cons_of_neg (by simp [h])]
      exact lookupD_dropK k d l
    · rw [dropK, List.filter_cons_of_pos (by simp [h]), lookupD, if_neg h]
      exact lookupD_dropK k d l

/-- A granule after its errors are corrected. -/
def granCorrected (b : Block) (g : Nat) : Block :=
  ({ b with dmc := { b.dmc with bad := dropK g b.dmc.bad } } : Block).inc uDmc F.DMC.CNT_CE_COUNT |>.set uDmc F.DMC.FLAGS_CE 1

theorem granRead_sound {b : Block} {g flips : Nat} (h : b.badOf g + flips = 0) : b.granRead g flips = (b.granule g, false, b) :=
  if_pos h

theorem granRead_corrected {b : Block} {g flips : Nat} (hecc : b.on uDmc F.DMC.CFG_ECC_EN = true) (h0 : b.badOf g + flips ≠ 0)
    (h2 : b.badOf g + flips ≤ 2) : b.granRead g flips = (b.granule g, false, b.granCorrected g) :=
  (if_neg h0).trans ((if_neg (by rw [hecc]; decide)).trans (if_pos h2))

theorem granCorrected_spec (b : Block) (g : Nat) :
    (b.granCorrected g).dmc.mem = b.dmc.mem ∧ (b.granCorrected g).badOf g = 0 ∧ (b.granCorrected g).out = b.out ∧
      (b.granCorrected g).get uDmc F.DMC.FLAGS_CE = 1 ∧
      (b.granCorrected g).get uDmc F.DMC.CNT_CE_COUNT = satAdd F.DMC.CNT_CE_COUNT.max (b.get uDmc F.DMC.CNT_CE_COUNT) 1 :=
  ⟨rfl, lookupD_dropK g 0 b.dmc.bad, rfl, get_set_same _ uDmc (by decide) 1,
    (get_set_apart _ (by decide) 1).trans (get_addI _ uDmc (by decide) 1)⟩

/-- A read that finds a correctable error, or none, seen through what is kept. -/
theorem granRead_answers {b t : Block} (hk : b.DataKept t) {g flips : Nat}
    (h : b.badOf g + flips = 0 ∨ b.badOf g + flips ≤ 2 ∧ b.on uDmc F.DMC.CFG_ECC_EN = true) :
    ∃ v : Block, t.granRead g flips = (b.granule g, false, v) ∧ v.dmc.mem = b.dmc.mem ∧ v.out = b.out ∧
      (b.badOf g + flips ≠ 0 → v.badOf g = 0 ∧ v.get uDmc F.DMC.FLAGS_CE = 1 ∧
        v.get uDmc F.DMC.CNT_CE_COUNT = satAdd F.DMC.CNT_CE_COUNT.max (b.get uDmc F.DMC.CNT_CE_COUNT) 1) := by
  by_cases h0 : b.badOf g + flips = 0
  · exact ⟨t, (granRead_sound (hk.badOf g ▸ h0)).trans (by rw [hk.granule]), hk.mem, hk.out, fun hn => absurd h0 hn⟩
  · obtain ⟨h2, hecc⟩ := h.resolve_left h0
    obtain ⟨hmem, hbad, hout, hflag, hcount⟩ := t.granCorrected_spec g
    refine ⟨t.granCorrected g, ?_, hmem.trans hk.mem, hout.trans hk.out, fun _ => ⟨hbad, hflag, ?_⟩⟩
    · rw [granRead_corrected ((congrArg (· != 0) (hk.getI (by decide))).trans hecc) (hk.badOf g ▸ h0) (hk.badOf g ▸ h2), hk.granule]
    · rw [hcount, hk.getI (by decide)]

theorem get_flagRaise_same (b : Block) {u : UnitId} {f : Field} (hu : u ≠ uEvt) (hu' : u ≠ uErrlog) (hi : u.inst < 256)
    (hf : f.lo ≤ f.hi ∧ f.hi < 32) (hw : f.width = 1) (ho : f.at 0 < 0x4000) : (b.flagRaise u f).get u f = 1 := by
  have hset : (b.set u f 1).get u f = 1 := by rw [get_set_same b u hf, hw]; rfl
  unfold flagRaise
  split
  · exact (getI_raise _ hu hu' hi ho _).trans hset
  · exact hset

theorem dramUe_spec (b : Block) (g : Nat) :
    (b.dramUe g).dmc = b.dmc ∧ (b.dramUe g).get uDmc F.DMC.FLAGS_UE = 1 ∧
      (b.dramUe g).get uDmc F.DMC.CNT_UE_COUNT = satAdd F.DMC.CNT_UE_COUNT.max (b.get uDmc F.DMC.CNT_UE_COUNT) 1 := by
  refine ⟨by simp only [dramUe, log_dmc, flagRaise_dmc]; rfl, ?_, ?_⟩
  · exact (getI_log _ (by decide) (by decide) (by decide) ..).trans
      (get_flagRaise_same _ (by decide) (by decide) (by decide) (by decide) (by decide) (by decide))
  · calc (b.dramUe g).get uDmc F.DMC.CNT_UE_COUNT
        = _ := getI_log _ (by decide) (by decide) (by decide) ..
      _ = _ := getI_flagRaise _ (by decide) (by decide) (by decide) (by decide) (by decide)
      _ = _ := get_set_apart _ (by decide) _
      _ = _ := get_set_apart _ (by decide) _
      _ = satAdd F.DMC.CNT_UE_COUNT.max (b.get uDmc F.DMC.CNT_UE_COUNT) 1 := get_addI b uDmc (by decide) 1

/-- A granule left with n wrong symbols. -/
def granLeft (b : Block) (g n : Nat) : Block :=
  { b with dmc := { b.dmc with bad := if n = 0 then dropK g b.dmc.bad else bindK g n b.dmc.bad } }

/-- A read of 3 to 14 wrong symbols, seen through what is kept. -/
theorem granRead_marked {b t : Block} (hk : b.DataKept t) {g flips : Nat} (h3 : 3 ≤ b.badOf g + flips)
    (h14 : b.badOf g + flips ≤ 14) (hecc : b.on uDmc F.DMC.CFG_ECC_EN = true) :
    ∃ (l : List Nat) (v : Block), t.granRead g flips = (l, true, v) ∧ v.dmc.mem = b.dmc.mem ∧ v.get uDmc F.DMC.FLAGS_UE = 1 ∧
      v.get uDmc F.DMC.CNT_UE_COUNT = satAdd F.DMC.CNT_UE_COUNT.max (b.get uDmc F.DMC.CNT_UE_COUNT) 1 := by
  rw [← hk.badOf g] at h3 h14
  have hecc' : t.on uDmc F.DMC.CFG_ECC_EN = true := (congrArg (· != 0) (hk.getI (by decide))).trans hecc
  obtain ⟨l, hl⟩ : ∃ l, l = (List.range 64).map fun i => Config.free (t.freeCtr + 1 + i) % 256 := ⟨_, rfl⟩
  obtain ⟨hdmc, hflag, hcount⟩ := (t.granLeft g (t.badOf g + flips)).dramUe_spec g
  refine ⟨l, { (t.granLeft g (t.badOf g + flips)).dramUe g with freeCtr := t.freeCtr + 65 }, ?_, ?_, hflag, hcount.trans ?_⟩
  · subst hl
    exact (if_neg (by omega)).trans ((if_neg (by rw [hecc']; decide)).trans ((if_neg (by omega)).trans (if_pos (.inl h14))))
  · exact (congrArg DmcSt.mem hdmc).trans hk.mem
  · exact congrArg (satAdd _ · 1) (hk.getI (by decide))

end Block
end Sys2Proof.Machine

/-! # DRAM requests and housekeeping (R462-R474) -/

namespace Sys2Proof.Machine
namespace Block

/-! ## Requests (R466-R471) -/

/-- A request is accepted: the controller is up, the requester known, the address within capacity, its queue has room. -/
def DramFits (b : Block) (q addr : Nat) (write : Bool) : Prop :=
  b.dramUp = true ∧ q ≤ 9 ∧ addr < b.usableBytes ∧ b.queueRoom (addr / 64) write = true

/-- The test of a request, as the controller makes it. -/
theorem dramFits_iff (b : Block) (q addr : Nat) (write : Bool) :
    b.DramFits q addr write ↔
      ¬(!b.dramUp || !b.queueRoom (addr / 64) write || decide (9 < q) || decide (b.usableBytes ≤ addr)) = true := by
  simp only [DramFits, Bool.or_eq_true, Bool.not_eq_true', decide_eq_true_eq, not_or, not_le, not_lt, Bool.not_eq_false]
  tauto

/-- A channel that may move passes its burst slots. -/
def slotsPass (b : Block) (c slots : Nat) : Block := if b.chanHeld c then b else b.dramSlots c slots

theorem dataKept_slotsPass (b : Block) (c slots : Nat) : b.DataKept (b.slotsPass c slots) := by
  unfold slotsPass
  split
  · exact .refl b
  · exact dataKept_dramSlots c slots b

theorem dramRequest_rejected {b : Block} {q tier : Nat} {hint : Option Bool} {addr len : Nat} {data : Option (List Nat)}
    {flips slots : Nat} (h : ¬b.DramFits q addr data.isSome) : b.dramRequest q tier hint addr len data flips slots = b :=
  if_pos (not_not.1 fun hn => h ((dramFits_iff b q addr _).2 hn))

/-- What a read answers of a granule: its bytes, whether they are marked, and the block then. -/
def readAnswer (b : Block) (q tier : Nat) (hint : Option Bool) (g flips : Nat) : List Nat × Bool × Block :=
  if b.writeQueued g then (b.dramWake.granule g, false, b.dramWake)
  else (b.dramWake.reqQueue q tier hint false g).granRead g flips

theorem chanStates_dmc (b : Block) (v : Nat) : (b.chanStates v).dmc = b.dmc :=
  foldl_keeps dmc _ (fun _ _ _ => setI_dmc ..) b

theorem dramWake_writeQueued (b : Block) (g : Nat) : b.dramWake.writeQueued g = b.writeQueued g := by
  have hreqs : b.dramWake.dmc.reqs = b.dmc.reqs := by
    unfold dramWake
    dsimp only
    split
    · rw [chanStates_dmc, set_dmc]
    · rfl
  rw [writeQueued, hreqs, writeQueued]

theorem dramRequest_read {b : Block} {q tier : Nat} {hint : Option Bool} {addr len flips slots : Nat}
    (h : b.DramFits q addr false) {l : List Nat} {ue : Bool} {v : Block}
    (hv : b.readAnswer q tier hint (addr / 64) flips = (l, ue, v)) :
    b.dramRequest q tier hint addr len none flips slots =
      (v.emit (.dramData q addr ue ((l.drop (addr % 64)).take (Nat.min len (64 - addr % 64))))).slotsPass
        (b.dramPlace (addr / 64)).chan slots := by
  have hgo := (dramFits_iff b q addr false).1 h
  unfold dramRequest
  extract_lets g c len' wake queued s₁ _ _ s₂
  refine (if_neg hgo).trans ?_
  have hs₂ : s₂ = v.emit (.dramData q addr ue ((l.drop (addr % 64)).take len')) := by
    have hqueued : queued = b.writeQueued g := b.dramWake_writeQueued g
    unfold readAnswer at hv
    unfold s₂ s₁
    rw [hqueued]
    split at hv
    · next hw =>
      obtain ⟨rfl, rfl, rfl⟩ := Prod.mk.inj hv |>.imp_right Prod.mk.inj
      simp only [show b.writeQueued g = true from hw, if_true]
      rfl
    · next hw =>
      simp only [show b.writeQueued g = false from Bool.eq_false_iff.2 hw, Bool.false_eq_true, if_false, Option.isSome]
      rw [show (wake.reqQueue q tier hint false g).granRead g flips = (l, ue, v) from hv]
  rw [hs₂]
  rfl

/-- The number of wrong symbols a read meets: none in bytes still to be written. -/
def wrongSymbols (b : Block) (g flips : Nat) : Nat := if b.writeQueued g then 0 else b.badOf g + flips

theorem readAnswer_sound (b : Block) {q tier : Nat} {hint : Option Bool} {g flips : Nat}
    (h : b.wrongSymbols g flips = 0 ∨ b.wrongSymbols g flips ≤ 2 ∧ b.on uDmc F.DMC.CFG_ECC_EN = true) :
    ∃ v : Block, b.readAnswer q tier hint g flips = (b.granule g, false, v) ∧ v.dmc.mem = b.dmc.mem ∧ v.out = b.out ∧
      (b.wrongSymbols g flips ≠ 0 → v.badOf g = 0 ∧ v.get uDmc F.DMC.FLAGS_CE = 1 ∧
        v.get uDmc F.DMC.CNT_CE_COUNT = satAdd F.DMC.CNT_CE_COUNT.max (b.get uDmc F.DMC.CNT_CE_COUNT) 1) := by
  have hwake := b.dataKept_dramWake
  unfold readAnswer
  unfold wrongSymbols at h ⊢
  split
  · next hw =>
    exact ⟨b.dramWake, by rw [hwake.granule], hwake.mem, hwake.out, fun hn => absurd rfl hn⟩
  · next hw =>
    rw [if_neg hw] at h
    exact granRead_answers (hwake.trans (dataKept_reqQueue _ ..)) h

theorem readAnswer_marked (b : Block) {q tier : Nat} {hint : Option Bool} {g flips : Nat}
    (h3 : 3 ≤ b.wrongSymbols g flips) (h14 : b.wrongSymbols g flips ≤ 14) (hecc : b.on uDmc F.DMC.CFG_ECC_EN = true) :
    ∃ (l : List Nat) (v : Block), b.readAnswer q tier hint g flips = (l, true, v) ∧ v.dmc.mem = b.dmc.mem ∧
      v.get uDmc F.DMC.FLAGS_UE = 1 ∧
      v.get uDmc F.DMC.CNT_UE_COUNT = satAdd F.DMC.CNT_UE_COUNT.max (b.get uDmc F.DMC.CNT_UE_COUNT) 1 := by
  unfold readAnswer
  unfold wrongSymbols at h3 h14
  split
  · next hw =>
    rw [if_pos hw] at h3
    exact absurd h3 (by decide)
  · next hw =>
    rw [if_neg hw] at h3 h14
    exact granRead_marked (b.dataKept_dramWake.trans (dataKept_reqQueue _ ..)) h3 h14 hecc

/-- A write to sound DRAM. -/
theorem dramWrite_sound {b t : Block} (hk : b.DataKept t) (hbad : b.dmc.bad = []) (a : Nat) (l : List Nat) :
    ∃ v : Block, t.dramWrite a l = (false, v) ∧ v.dmc.mem = cellsWrite 0 b.dmc.mem a l ∧ v.out = b.out := by
  unfold dramWrite
  extract_lets n first last hit _ step
  have hhit : hit.isEmpty = true := by
    unfold hit
    rw [hk.bad, hbad]
    rfl
  clear_value step
  by_cases hn : n = 0
  · rw [if_pos hn]
    have hl : l = [] := List.length_eq_zero_iff.1 hn
    exact ⟨t, rfl, hl ▸ hk.mem, hk.out⟩
  · rw [if_neg hn, if_pos hhit]
    have hwake := hk.trans t.dataKept_dramWake
    exact ⟨_, rfl, congrArg (cellsWrite 0 · a l) hk.mem, hwake.out⟩

theorem dramRequest_write {b : Block} {q tier : Nat} {hint : Option Bool} {addr len slots : Nat} {l : List Nat}
    (h : b.DramFits q addr true) (hbad : b.dmc.bad = []) :
    (b.dramRequest q tier hint addr len (some l) 0 slots).out = .dramAck q addr false :: b.out ∧
      (b.dramRequest q tier hint addr len (some l) 0 slots).dmc.mem =
        cellsWrite 0 b.dmc.mem addr (l.take (Nat.min len (64 - addr % 64))) := by
  have hgo := (dramFits_iff b q addr true).1 h
  obtain ⟨r, hr⟩ : ∃ r, b.dramRequest q tier hint addr len (some l) 0 slots = r := ⟨_, rfl⟩
  rw [hr]
  unfold dramRequest at hr
  extract_lets g c len' wake queued s₁ _ s₂ s₃ at hr
  have hs₁ : s₁ = wake.reqQueue q tier hint true g := rfl
  have hk : b.DataKept s₂ := by
    refine ((b.dataKept_dramWake.trans (dataKept_reqQueue wake q tier hint true g))).trans ?_
    exact dataKept_of_regs rfl rfl rfl rfl
  obtain ⟨v, hv, hmem, hout⟩ := dramWrite_sound hk hbad addr (l.take len')
  replace hr := (if_neg hgo).symm.trans hr
  have hs₃ : s₃ = v.emit (.dramAck q addr false) := by
    unfold s₃
    dsimp only
    rw [hv]
  rw [hs₃] at hr
  have hpass := (v.emit (.dramAck q addr false)).dataKept_slotsPass c slots
  rw [← hr]
  exact ⟨hpass.out.trans (congrArg _ hout), hpass.mem.trans hmem⟩

theorem scrubRead_corrects {b : Block} {g n : Nat} (hup : b.dramUp = true) (hecc : b.on uDmc F.DMC.CFG_ECC_EN = true)
    (hhours : b.get uDmc F.DMC.SCRUB_HOURS ≠ 0) (hcap : 64 * g < b.usableBytes) (hroom : b.queueRoom g false = true)
    (hqueued : b.writeQueued g = false) (h1 : 1 ≤ b.badOf g + n) (h2 : b.badOf g + n ≤ 2) :
    (b.scrubRead g n).badOf g = 0 ∧ (b.scrubRead g n).dmc.mem = b.dmc.mem ∧ (b.scrubRead g n).out = b.out ∧
      (b.scrubRead g n).get uDmc F.DMC.CNT_CE_COUNT = satAdd F.DMC.CNT_CE_COUNT.max (b.get uDmc F.DMC.CNT_CE_COUNT) 1 := by
  obtain ⟨v, hv, hmem, hout, hcounts⟩ := granRead_answers
    (b.dataKept_dramWake.trans (dataKept_reqQueue b.dramWake 9 5 none false g)) (flips := n) (.inr ⟨h2, hecc⟩)
  obtain ⟨hbad, -, hcount⟩ := hcounts (by omega)
  have hscrub : b.scrubRead g n = v := by
    unfold scrubRead
    rw [if_pos (by simp [hup, hecc, hhours, hcap, hroom]), if_neg (by rw [hqueued]; decide), hv]
  rw [hscrub]
  exact ⟨hbad, hmem, hout, hcount⟩

/-! ## Urgent requests and open rows (R468, R470, R472) -/

theorem requestUrgent_marks {b : Block} {late : DramReq → Bool}
    (hlate : late = fun r => !r.urgent && b.getI uDmc F.DMC.TARGET_NS r.q != 0 &&
      decide (b.getI uDmc F.DMC.TARGET_NS r.q < b.since r.at_))
    {pre post : List DramReq} {r : DramReq} (hreqs : b.dmc.reqs = pre ++ r :: post) (hr : late r = true)
    (hpre : ∀ x ∈ pre, late x = false) :
    b.requestUrgent.regs = b.regs ∧
      b.requestUrgent.dmc.reqs = b.dmc.reqs.map fun x => if x = r then { x with urgent := true } else x := by
  have hfind : b.dmc.reqs.find? late = some r := by
    rw [hreqs, List.find?_append, List.find?_eq_none.2 fun x hx => by rw [hpre x hx]; decide, List.find?_cons_of_pos hr]
    rfl
  subst hlate
  unfold requestUrgent
  split
  · next hnone => exact absurd (hfind.symm.trans hnone) (by simp)
  · next x hsome =>
    obtain rfl : r = x := Option.some.inj (hfind.symm.trans hsome)
    exact ⟨rfl, rfl⟩

/-! ## Refresh, self-refresh, retraining (R472-R474) -/

theorem mr4Poll_codes {b : Block} {codes : List Nat} {hot : Bool} (hlen : codes.length = 16) (hcodes : ∀ v ∈ codes, v < 8)
    (hup : b.dramUp = true) :
    (hot = true → (b.mr4Poll codes hot).get uDmc F.DMC.FLAGS_HOT = 1) ∧
      ∀ c v, codes[c]? = some v → (b.mr4Poll codes hot).getI uDmc F.DMC.CH_STAT_MR4 c = v := by
  have hhot (t : Block) : (t.flagRaise uDmc F.DMC.FLAGS_HOT).get uDmc F.DMC.FLAGS_HOT = 1 :=
    get_flagRaise_same t (by decide) (by decide) (by decide) (by decide) (by decide) (by decide)
  unfold mr4Poll
  extract_lets s₁
  rw [if_pos hup]
  constructor
  · intro h
    rw [if_pos h]
    exact hhot s₁
  · intro c v hv
    have hc : c < 16 := hlen ▸ (List.getElem?_eq_some_iff.1 hv).1
    have hv8 : v < 8 := hcodes v (List.mem_of_getElem? hv)
    have hset (t : Block) : (t.setI uDmc F.DMC.CH_STAT_MR4 c v).getI uDmc F.DMC.CH_STAT_MR4 c = v :=
      (getI_setI_same t uDmc F.DMC.CH_STAT_MR4 c v (by decide)).trans (Nat.mod_eq_of_lt hv8)
    have hs₁ : s₁.getI uDmc F.DMC.CH_STAT_MR4 c = v := by
      refine foldl_establishes (P := fun t : Block => t.getI uDmc F.DMC.CH_STAT_MR4 c = v) (List.mem_range.2 hc) ?_ ?_ b
      · intro t
        rw [hv]
        exact hset t
      · intro c' _ t ht
        split
        · next w hw =>
          by_cases h : c' = c
          · subst h
            obtain rfl : v = w := Option.some.inj (hv.symm.trans hw)
            exact hset t
          · exact (getI_setI_inst t uDmc (Ne.symm h) (by decide) w).trans ht
        · exact ht
    clear_value s₁
    cases hot with
    | false => exact hs₁
    | true =>
      rw [if_pos rfl]
      refine (getI_flagRaise s₁ (by decide) (by decide) (by decide) ?_ (apart_off uDmc ?_)).trans hs₁
      · simp only [Field.at, F.DMC.CH_STAT_MR4]
        omega
      · simp only [Field.at, F.DMC.CH_STAT_MR4, F.DMC.FLAGS_HOT]
        omega

theorem getI_chanStates_same (b : Block) {c v : Nat} (hc : c < 16) (hv : v < 4) :
    (b.chanStates v).getI uDmc F.DMC.CH_STAT_STATE c = v := by
  have hset (t : Block) : (t.setI uDmc F.DMC.CH_STAT_STATE c v).getI uDmc F.DMC.CH_STAT_STATE c = v :=
    (getI_setI_same t uDmc F.DMC.CH_STAT_STATE c v (by decide)).trans (Nat.mod_eq_of_lt hv)
  refine foldl_establishes (P := fun t : Block => t.getI uDmc F.DMC.CH_STAT_STATE c = v) (List.mem_range.2 hc) hset ?_ b
  intro c' _ t ht
  by_cases h : c' = c
  · exact h ▸ hset t
  · exact (getI_setI_inst t uDmc (Ne.symm h) (by decide) v).trans ht

theorem get_chanStates (b : Block) (v : Nat) {f : Field} (hf : f.at 0 < 0x200) : (b.chanStates v).get uDmc f = b.get uDmc f :=
  getI_foldl _ (fun c _ t => getI_setI_apart t (apart_off uDmc (by rw [chanState_at]; omega)) v) b

/-- Every channel in self-refresh, with its rows closed. -/
def selfRefreshed (b : Block) : Block :=
  { (b.set uDmc F.DMC.STAT_STATE 4).chanStates 1 with
    dmc := { ((b.set uDmc F.DMC.STAT_STATE 4).chanStates 1).dmc with rows := [] } }

theorem selfRefresh_enters {b : Block} (hstate : b.get uDmc F.DMC.STAT_STATE = 3)
    (hidle : 1000 * b.get uDmc F.DMC.PWR_SR_IDLE_US ≠ 0) (hreqs : b.dmc.reqs = [])
    (htrig : ∀ x ∈ b.gov.trigTimes.head?, 1000 * b.get uDmc F.DMC.PWR_SR_IDLE_US ≤ b.since x) (hpause : b.dmc.pausing = none)
    (hlast : 1000 * b.get uDmc F.DMC.PWR_SR_IDLE_US ≤ b.since b.dmc.lastReq) :
    b.selfRefresh = b.selfRefreshed.inc uDmc F.DMC.CNT_SR_COUNT := by
  unfold selfRefresh
  extract_lets idle quiet
  have hquiet : quiet = true := by
    unfold quiet
    split
    · next a _ ha => exact decide_eq_true (htrig a (by rw [ha]; rfl))
    · rfl
  refine (if_pos ?_).trans ?_
  · simp only [hstate, hreqs, hpause, hquiet, decide_eq_true hlast, bne_iff_ne.2 hidle, List.isEmpty_nil, Option.isNone_none,
      decide_true, Bool.and_self, idle]
  · rw [selfRefreshed, chanStates_dmc]
    rfl

theorem selfRefreshed_counted (b : Block) :
    let t := b.selfRefreshed.inc uDmc F.DMC.CNT_SR_COUNT
    t.get uDmc F.DMC.STAT_STATE = 4 ∧ t.dmc.rows = [] ∧ t.dmc.mem = b.dmc.mem ∧
      t.get uDmc F.DMC.CNT_SR_COUNT = satAdd F.DMC.CNT_SR_COUNT.max (b.get uDmc F.DMC.CNT_SR_COUNT) 1 ∧
      ∀ c < 16, t.getI uDmc F.DMC.CH_STAT_STATE c = 1 := by
  obtain ⟨v, hv⟩ : ∃ v, b.set uDmc F.DMC.STAT_STATE 4 = v := ⟨_, rfl⟩
  have hstate : v.get uDmc F.DMC.STAT_STATE = 4 := hv ▸ get_set_same b uDmc (by decide) 4
  have hcount : v.get uDmc F.DMC.CNT_SR_COUNT = b.get uDmc F.DMC.CNT_SR_COUNT := hv ▸ get_set_apart b (by decide) 4
  have hregs : b.selfRefreshed.regs = (v.chanStates 1).regs := hv ▸ rfl
  have hmem : b.selfRefreshed.dmc.mem = b.dmc.mem := by
    rw [selfRefreshed, chanStates_dmc, set_dmc]
  have hrows : b.selfRefreshed.dmc.rows = [] := rfl
  generalize b.selfRefreshed = t at hregs hmem hrows ⊢
  refine ⟨?_, hrows, hmem, ?_, fun c hc => ?_⟩
  · exact (getI_inc_apart t (by decide)).trans ((get_congr hregs ..).trans ((get_chanStates v 1 (by decide)).trans hstate))
  · refine (get_addI t uDmc (by decide) 1).trans (congrArg (fun n => satAdd F.DMC.CNT_SR_COUNT.max n 1) ?_)
    exact (get_congr hregs ..).trans ((get_chanStates v 1 (by decide)).trans hcount)
  · refine (getI_inc_apart t (apart_off uDmc ?_)).trans ((getI_congr hregs ..).trans (getI_chanStates_same v hc (by decide)))
    rw [chanState_at]
    simp only [Field.at, F.DMC.CNT_SR_COUNT]
    omega

theorem retrainCheck_asks {b : Block} {drifts : List Int} {c : Nat} {d : Int} {rest : List (Nat × Int)} (hup : b.dramUp = true)
    (hwants : ((List.range 16).zip drifts).filter (fun p => decide (b.get uDmc F.DMC.RETRAIN_DRIFT_PS < p.2.natAbs)) =
      (c, d) :: rest) :
    (b.retrainCheck drifts).dmc.wants = (c, d) :: rest ∧
      (b.pauseAllowed = true → (b.retrainCheck drifts).dmc.pausing = some c ∧
        (b.retrainCheck drifts).getI uDmc F.DMC.CH_STAT_STATE c = 2) ∧
      (b.pauseAllowed = false → (b.retrainCheck drifts).dmc.pausing = b.dmc.pausing ∧ (b.retrainCheck drifts).regs = b.regs) := by
  obtain ⟨r, hr⟩ : ∃ r, b.retrainCheck drifts = r := ⟨_, rfl⟩
  rw [hr]
  unfold retrainCheck at hr
  extract_lets lim ds wants _ s₁ at hr
  have hall : s₁.pauseAllowed = b.pauseAllowed := rfl
  have hs₁ : s₁.dmc.wants = (c, d) :: rest := hwants
  rw [if_pos hup, show wants = (c, d) :: rest from hwants] at hr
  dsimp only at hr
  rw [hall] at hr
  have hregs : s₁.regs = b.regs := rfl
  have hpausing : s₁.dmc.pausing = b.dmc.pausing := rfl
  clear_value s₁
  cases hp : b.pauseAllowed with
  | true =>
    rw [hp, if_pos rfl] at hr
    subst hr
    exact ⟨hs₁, fun _ => ⟨rfl, getI_setI_same s₁ uDmc F.DMC.CH_STAT_STATE c 2 (by decide)⟩, fun h => absurd h (by decide)⟩
  | false =>
    rw [hp, if_neg Bool.false_ne_true] at hr
    subst hr
    exact ⟨hs₁, fun h => absurd h (by decide), fun _ => ⟨hpausing, hregs⟩⟩

/-- The pause of channel c at its end, not yet counted. -/
def pauseEnded (b : Block) (c : Nat) (d : Int) (eye : Bool) : Block :=
  { b.setI uDmc F.DMC.CH_STAT_STATE c 0 with dmc := { b.dmc with
    pausing := none, wants := dropK c b.dmc.wants
    trained := if eye then upd b.dmc.trained c (· + d) else b.dmc.trained } }

/-- The pause of channel c at its end, counted. -/
def retrained (b : Block) (c : Nat) (d : Int) (eye : Bool) : Block :=
  ((b.pauseEnded c d eye).inc uDmc F.DMC.CNT_RETRAIN_COUNT).incI uDmc F.DMC.CH_STAT_RETRAINS c

theorem retrainDone_ends {b : Block} {c : Nat} {d : Int} {eye : Bool} (hwants : findK c b.dmc.wants = some d)
    (hpausing : b.dmc.pausing = some c) : b.retrainDone c eye = if eye then b.retrained c d eye else
      ((b.retrained c d eye).flagRaise uDmc F.DMC.FLAGS_RETRAIN_FAIL).inc uDmc F.DMC.CNT_RETRAIN_FAIL_COUNT := by
  unfold retrainDone
  rw [hwants]
  dsimp only
  rw [if_neg (show ¬(b.dmc.pausing.isNone && b.pauseAllowed) = true by rw [hpausing]; simp), if_neg (not_not.2 hpausing)]
  rfl

theorem retrained_counts (b : Block) (c : Nat) (d : Int) (eye : Bool) :
    (b.retrained c d eye).getI uDmc F.DMC.CH_STAT_STATE c = 0 ∧
      (b.retrained c d eye).get uDmc F.DMC.CNT_RETRAIN_COUNT =
        satAdd F.DMC.CNT_RETRAIN_COUNT.max (b.get uDmc F.DMC.CNT_RETRAIN_COUNT) 1 ∧
      (b.retrained c d eye).getI uDmc F.DMC.CH_STAT_RETRAINS c =
        satAdd F.DMC.CH_STAT_RETRAINS.max (b.getI uDmc F.DMC.CH_STAT_RETRAINS c) 1 ∧
      (b.retrained c d eye).get uDmc F.DMC.CNT_RETRAIN_FAIL_COUNT = b.get uDmc F.DMC.CNT_RETRAIN_FAIL_COUNT := by
  have hcount : F.DMC.CH_STAT_STATE.at c ≠ F.DMC.CNT_RETRAIN_COUNT.at 0 := by
    rw [chanState_at]
    simp only [Field.at, F.DMC.CNT_RETRAIN_COUNT]
    omega
  have hfail : F.DMC.CH_STAT_STATE.at c ≠ F.DMC.CNT_RETRAIN_FAIL_COUNT.at 0 := by
    rw [chanState_at]
    simp only [Field.at, F.DMC.CNT_RETRAIN_FAIL_COUNT]
    omega
  obtain ⟨v, hv⟩ : ∃ v, b.setI uDmc F.DMC.CH_STAT_STATE c 0 = v := ⟨_, rfl⟩
  have hstate : v.getI uDmc F.DMC.CH_STAT_STATE c = 0 := hv ▸ getI_setI_same b uDmc F.DMC.CH_STAT_STATE c 0 (by decide)
  have hdone : v.get uDmc F.DMC.CNT_RETRAIN_COUNT = b.get uDmc F.DMC.CNT_RETRAIN_COUNT :=
    hv ▸ getI_setI_apart b (apart_off uDmc (Ne.symm hcount)) 0
  have hretrains : v.getI uDmc F.DMC.CH_STAT_RETRAINS c = b.getI uDmc F.DMC.CH_STAT_RETRAINS c :=
    hv ▸ getI_setI_field b uDmc c (by decide) 0
  have hfailed : v.get uDmc F.DMC.CNT_RETRAIN_FAIL_COUNT = b.get uDmc F.DMC.CNT_RETRAIN_FAIL_COUNT :=
    hv ▸ getI_setI_apart b (apart_off uDmc (Ne.symm hfail)) 0
  have hregs : (b.pauseEnded c d eye).regs = v.regs := hv ▸ rfl
  rw [retrained]
  generalize b.pauseEnded c d eye = t at hregs ⊢
  have hkept {f : Field} (h : f.at 0 ≠ F.DMC.CH_STAT_RETRAINS.at c) :
      ((t.inc uDmc F.DMC.CNT_RETRAIN_COUNT).incI uDmc F.DMC.CH_STAT_RETRAINS c).get uDmc f =
        (t.inc uDmc F.DMC.CNT_RETRAIN_COUNT).get uDmc f :=
    getI_setI_apart _ (apart_off uDmc h) _
  refine ⟨?_, ?_, ?_, ?_⟩
  · have hkept : (t.inc uDmc F.DMC.CNT_RETRAIN_COUNT).getI uDmc F.DMC.CH_STAT_STATE c = 0 :=
      (getI_inc_apart t (apart_off uDmc hcount)).trans ((getI_congr hregs ..).trans hstate)
    exact (getI_setI_field _ uDmc c (by decide) _).trans hkept
  · rw [hkept (Ne.symm hcount), ← hdone, ← get_congr hregs]
    exact get_addI t uDmc (by decide) 1
  · refine (getI_incI _ uDmc (by decide) c).trans (congrArg (fun n => satAdd F.DMC.CH_STAT_RETRAINS.max n 1) ?_)
    exact (getI_inc_apart t (apart_off uDmc (show F.DMC.CH_STAT_RETRAINS.at c ≠ _ from hcount))).trans
      ((getI_congr hregs ..).trans hretrains)
  · rw [hkept (Ne.symm hfail), ← hfailed, ← get_congr hregs]
    exact getI_inc_apart t (by decide)

/-- The end of a pause that found no eye. -/
theorem retrainFailed_counts (b : Block) (c : Nat) (d : Int) :
    let t := ((b.retrained c d false).flagRaise uDmc F.DMC.FLAGS_RETRAIN_FAIL).inc uDmc F.DMC.CNT_RETRAIN_FAIL_COUNT
    t.dmc.pausing = none ∧ t.dmc.trained = b.dmc.trained ∧ t.on uDmc F.DMC.FLAGS_RETRAIN_FAIL = true ∧
      t.get uDmc F.DMC.CNT_RETRAIN_COUNT = satAdd F.DMC.CNT_RETRAIN_COUNT.max (b.get uDmc F.DMC.CNT_RETRAIN_COUNT) 1 ∧
      t.get uDmc F.DMC.CNT_RETRAIN_FAIL_COUNT =
        satAdd F.DMC.CNT_RETRAIN_FAIL_COUNT.max (b.get uDmc F.DMC.CNT_RETRAIN_FAIL_COUNT) 1 := by
  obtain ⟨-, hcount, -, hfail⟩ := b.retrained_counts c d false
  have hpausing : (b.retrained c d false).dmc.pausing = none := rfl
  have htrained : (b.retrained c d false).dmc.trained = b.dmc.trained := rfl
  generalize b.retrained c d false = v at hcount hfail hpausing htrained ⊢
  have hdmc : (v.flagRaise uDmc F.DMC.FLAGS_RETRAIN_FAIL).dmc = v.dmc := flagRaise_dmc ..
  have hflag : (v.flagRaise uDmc F.DMC.FLAGS_RETRAIN_FAIL).get uDmc F.DMC.FLAGS_RETRAIN_FAIL = 1 :=
    get_flagRaise_same v (by decide) (by decide) (by decide) (by decide) (by decide) (by decide)
  have hkept {f : Field} (ho : f.at 0 < 0x4000) (ha : apart uDmc F.DMC.FLAGS_RETRAIN_FAIL 0 uDmc f 0 = true) :
      (v.flagRaise uDmc F.DMC.FLAGS_RETRAIN_FAIL).get uDmc f = v.get uDmc f :=
    getI_flagRaise v (by decide) (by decide) (by decide) ho ha
  generalize v.flagRaise uDmc F.DMC.FLAGS_RETRAIN_FAIL = t at hdmc hflag hkept ⊢
  refine ⟨(congrArg DmcSt.pausing hdmc).trans hpausing, (congrArg DmcSt.trained hdmc).trans htrained, ?_, ?_, ?_⟩
  · exact (congrArg (· != 0) ((getI_inc_apart t (by decide)).trans hflag)).trans rfl
  · exact (getI_inc_apart t (by decide)).trans ((hkept (by decide) (by decide)).trans hcount)
  · refine (get_addI t uDmc (by decide) 1).trans ?_
    rw [hkept (by decide) (by decide), hfail]

end Block

open Block

/-- Settles O52. A read and a write are followed through the block's data, its errors and its outputs, which waking, queueing
and the burst slots leave (`DataKept`). It rests on a choice of the model: a pause that finds no eye is counted among the
completed too (log entry 60). -/
theorem dramServesAndKeepsItself : Obligations.DramServesAndKeepsItself := by
  unfold Obligations.DramServesAndKeepsItself
  intro s dt hup b counted fits
  refine ⟨?read, ?write, ?rejected, ?urgent, ?idle, ?refresh, ?scrub, ?mr4, ?selfRefresh, ?retrainCheck, ?retrainDone⟩
  case read =>
    intro q tier hint addr len flips slots hfits n
    constructor
    · intro hn
      obtain ⟨v, hv, hmem, hout, hcorrected⟩ := b.readAnswer_sound (q := q) (tier := tier) (hint := hint) hn
      have hpass := (v.emit (.dramData q addr false (((b.granule (addr / 64)).drop (addr % 64)).take
        (Nat.min len (64 - addr % 64))))).dataKept_slotsPass (b.dramPlace (addr / 64)).chan slots
      refine ⟨_, hup.exec_next (exec_dramRequest ..) (dramRequest_read hfits hv), hpass.mem.trans hmem,
        hpass.out.trans (congrArg _ hout), fun h0 => ?_⟩
      obtain ⟨hbad, hflag, hcount⟩ := hcorrected h0
      exact ⟨(hpass.getI (by decide)).trans hcount, (hpass.getI (by decide)).trans hflag, (hpass.badOf _).trans hbad⟩
    · intro h3 h14 hecc
      obtain ⟨l, v, hv, hmem, hflag, hcount⟩ := b.readAnswer_marked (q := q) (tier := tier) (hint := hint) h3 h14 hecc
      have hpass := (v.emit (.dramData q addr true ((l.drop (addr % 64)).take
        (Nat.min len (64 - addr % 64))))).dataKept_slotsPass (b.dramPlace (addr / 64)).chan slots
      exact ⟨_, _, hup.exec_next (exec_dramRequest ..) (dramRequest_read hfits hv), hpass.mem.trans hmem,
        congrArg List.head? hpass.out, (hpass.getI (by decide)).trans hflag, (hpass.getI (by decide)).trans hcount⟩
  case write =>
    intro q tier hint addr len l slots hfits hbad
    exact ⟨_, hup.exec_next (exec_dramRequest ..) rfl, dramRequest_write hfits hbad⟩
  case rejected =>
    intro q tier hint addr len data flips slots hfits
    exact hup.exec_next (exec_dramRequest ..) (dramRequest_rejected hfits)
  case urgent =>
    intro late pre r post hreqs hr hpre
    exact ⟨_, hup.exec_next (exec_requestUrgent ..) rfl, requestUrgent_marks rfl hreqs hr hpre⟩
  case idle =>
    refine ⟨_, hup.exec_next (exec_pageIdleClose ..) rfl, rfl, rfl, fun r => ?_⟩
    exact List.mem_filter.trans (and_congr_right fun _ => decide_eq_true_iff)
  case refresh =>
    intro c k
    refine ⟨_, hup.exec_next (exec_refresh ..) rfl, rfl, rfl, fun r => ?_⟩
    exact List.mem_filter.trans (and_congr_right fun _ => by simp [imp_iff_not_or])
  case scrub =>
    intro g n hdram hecc hhours hcap hroom hqueued h1 h2
    exact ⟨_, hup.exec_next (exec_scrubRead ..) rfl, scrubRead_corrects hdram hecc hhours hcap hroom hqueued h1 h2⟩
  case mr4 =>
    intro codes hot hlen hcodes hdram
    exact ⟨_, hup.exec_next (exec_mr4Poll ..) rfl, mr4Poll_codes hlen hcodes hdram⟩
  case selfRefresh =>
    intro idle hstate hidle hreqs htrig hpause hlast
    exact ⟨_, hup.exec_next (exec_selfRefreshEnter ..) (selfRefresh_enters hstate hidle hreqs htrig hpause hlast),
      b.selfRefreshed_counted⟩
  case retrainCheck =>
    intro drifts c d rest hdram hwants
    exact ⟨_, hup.exec_next (exec_retrainCheck ..) rfl, retrainCheck_asks hdram hwants⟩
  case retrainDone =>
    intro c d hc htrained hwants hpausing
    constructor
    · obtain ⟨hstate, hcount, hretrains, -⟩ := b.retrained_counts c d true
      exact ⟨_, hup.exec_next (exec_retrainDone ..) (retrainDone_ends hwants hpausing), rfl, hstate,
        nth_upd_same _ 0 _ c (htrained ▸ hc), hcount, hretrains⟩
    · obtain ⟨hpaused, htrained', hflag, hcount, hfail⟩ := b.retrainFailed_counts c d
      exact ⟨_, hup.exec_next (exec_retrainDone ..) (retrainDone_ends hwants hpausing), hpaused, htrained', hflag, hcount, hfail⟩

end Sys2Proof.Machine

/-! # Which accesses the DMA engine leaves in flight (R487-R500) -/

namespace Sys2Proof.Machine
namespace Block

/-! ## What has no access in it -/

/-- What the DRAM controller's work leaves of the rest that stands beside it: the DMA engine, Tango, the ring. -/
def besideDram (b : Block) : DmaSt × TangoSt × RingSt := (b.dma, b.tango, b.ring)

theorem setI_beside (b : Block) (u : UnitId) (f : Field) (i v : Nat) : (b.setI u f i v).besideDram = b.besideDram := rfl

theorem dramWake_beside (b : Block) : b.dramWake.besideDram = b.besideDram := by
  unfold dramWake
  dsimp only
  split
  · exact (foldl_keeps besideDram _ (fun _ _ _ => setI_beside ..) _).trans (setI_beside ..)
  · rfl

theorem dramUe_beside (b : Block) (g : Nat) : (b.dramUe g).besideDram = b.besideDram := by
  simp [dramUe, besideDram]

theorem granRead_beside (b : Block) (g flips : Nat) : (b.granRead g flips).2.2.besideDram = b.besideDram := by
  unfold granRead
  extract_lets n wild keep
  split_ifs
  · rfl
  · rfl
  · rfl
  · exact dramUe_beside (keep b n) g
  · rfl

theorem dramRead_beside (b : Block) (a n : Nat) : (b.dramRead a n).2.2.besideDram = b.besideDram := by
  unfold dramRead
  extract_lets first last hit step
  have hstep : ∀ x g, (step x g).2.2.besideDram = x.2.2.besideDram := fun x g => granRead_beside x.2.2 g 0
  clear_value step
  split_ifs
  · rfl
  · exact dramWake_beside b
  · exact (foldl_keeps (fun x : List Nat × List Nat × Block => x.2.2.besideDram) _ (fun g _ x => hstep x g) _).trans
      (dramWake_beside b)

theorem dramWrite_beside (b : Block) (a : Nat) (l : List Nat) : (b.dramWrite a l).2.besideDram = b.besideDram := by
  unfold dramWrite
  extract_lets n first last hit wake _ step
  have hstep : ∀ x g, (step x g).2.besideDram = x.2.besideDram := by
    intro x g
    unfold step
    extract_lets t lo hi part put
    split
    · rfl
    · dsimp only
      split <;> exact granRead_beside x.2 g 0
  clear_value step
  split_ifs
  · rfl
  · exact dramWake_beside b
  · exact (foldl_keeps (fun x : Bool × Block => x.2.besideDram) _ (fun g _ x => hstep x g) _).trans (dramWake_beside b)

theorem dramRead_dma (b : Block) (a n : Nat) : (b.dramRead a n).2.2.dma = b.dma := congrArg Prod.fst (dramRead_beside b a n)

theorem mapWrite_dma (units : List Nat) (fuel : Nat) (b : Block) (n : Nat) (l : List Nat) :
    (b.mapWrite units n l fuel).dma = b.dma := by
  induction fuel generalizing b n l with
  | zero => rfl
  | succ fuel ih =>
    unfold mapWrite
    split
    · rfl
    · exact (ih ..).trans (congrArg Prod.fst (dramWrite_beside ..))

theorem overrun_dma (b : Block) (n : Nat) (beyond : Bool) : (b.overrun n beyond).dma = b.dma := by
  unfold overrun
  extract_lets s
  split_ifs
  · rfl
  · exact flag_dma ..
  · rfl

theorem ingest_dma (b : Block) (port : Nat) (l : List Nat) : (b.ingest port l).dma = b.dma := by
  unfold ingest
  split_ifs
  · unfold ingestRef
    extract_lets x
    split
    · exact overrun_dma ..
    · exact overrun_dma ..
  · unfold ingestMap
    split
    · exact overrun_dma ..
    · exact (overrun_dma ..).trans (mapWrite_dma ..)
  · rfl

theorem setCount_dma (b : Block) (n v : Nat) : (b.setCount n v).dma = b.dma := by
  unfold setCount
  split <;> rfl

theorem pumpLink_dma (l fuel : Nat) (b : Block) : (b.pumpLink l fuel).dma = b.dma := by
  induction fuel generalizing b with
  | zero => rfl
  | succ fuel ih =>
    unfold pumpLink
    dsimp only
    split
    · rfl
    · split
      · rfl
      · exact ih _

theorem linkSend_dma (b : Block) (l : Nat) (m : RingMsg) : (b.linkSend l m).dma = b.dma := by
  unfold linkSend linkPut
  split
  · rfl
  · split
    · exact pumpLink_dma ..
    · rfl

theorem sendService_dma (b : Block) (addr typ : Nat) (body : List Nat) : (b.sendService addr typ body).dma = b.dma := by
  unfold sendService
  split
  · rfl
  · unfold unicast
    split
    · exact linkSend_dma ..
    · rfl

theorem sendBulk_dma (b : Block) (cls addr : Nat) (body : List Nat) : (b.sendBulk cls addr body).dma = b.dma := by
  unfold sendBulk
  split <;> rfl

theorem tagsUpdate_dma (b : Block) : b.tagsUpdate.dma = b.dma := by
  unfold tagsUpdate
  dsimp only
  split <;> rfl

theorem access_flight (b : Block) (n : Nat) (k : DmaKind) (space addr len : Nat) (data : List Nat) (err : Bool) :
    (b.access n k space addr len data err).dma.flight =
      b.dma.flight ++ [⟨b.dma.nextId, n, k, space, addr, len, b.lt, data, err⟩] :=
  congrArg DmaSt.flight (tagsUpdate_dma _)

/-! ## Reads and writes -/

/-- From block b to block t either no access went out, or the last one in flight is no fetch of a descriptor. -/
def MovesData (b t : Block) : Prop :=
  t.dma.flight = b.dma.flight ∨ ∃ l a, t.dma.flight = l ++ [a] ∧ a.kind ≠ .fetch

theorem MovesData.of_dma {b t : Block} (h : t.dma.flight = b.dma.flight) : b.MovesData t := .inl h

theorem MovesData.trans {b t v : Block} (h : b.MovesData t) (h' : t.MovesData v) : b.MovesData v := by
  rcases h' with h' | h'
  · exact h.imp h'.trans fun ⟨l, a, hl, ha⟩ => ⟨l, a, h'.trans hl, ha⟩
  · exact .inr h'

theorem MovesData.foldl {α : Type} {f : Block → α → Block} (h : ∀ (t : Block) (a : α), t.MovesData (f t a)) :
    ∀ (l : List α) (b : Block), b.MovesData (l.foldl f b)
  | [], _ => .of_dma rfl
  | a :: l, b => (h b a).trans (MovesData.foldl h l (f b a))

/-- An access other than a fetch, and what leaves the accesses after it. -/
theorem movesData_access {b t v : Block} {n : Nat} {k : DmaKind} (hk : k ≠ .fetch) {space addr len : Nat} {data : List Nat}
    {err : Bool} (hv : v.dma.flight = (t.access n k space addr len data err).dma.flight) : b.MovesData v :=
  .inr ⟨_, _, hv.trans (access_flight ..), hk⟩

theorem movesData_remoteAccess (b t : Block) {n : Nat} {k : DmaKind} (hk : k ≠ .fetch) (addr len tag : Nat) (bulk : Option Nat)
    (data : List Nat) : b.MovesData (t.remoteAccess n k addr len tag bulk data) := by
  unfold remoteAccess
  extract_lets op live _ s s₂ dev
  cases bulk with
  | none => exact movesData_access hk (congrArg DmaSt.flight (sendService_dma s₂ _ _ _))
  | some c => exact movesData_access hk (congrArg DmaSt.flight (sendBulk_dma s₂ _ _ _))

theorem movesData_writeOut {b t : Block} {n : Nat} {d : DmaDesc} {addr : Nat} {l : List Nat}
    (h : b.writeOut n d addr l = some t) : b.MovesData t := by
  unfold writeOut at h
  split at h
  · obtain rfl := Option.some.inj h
    exact movesData_access (by decide) rfl
  · split at h
    · obtain rfl := Option.some.inj h
      exact movesData_access (by decide) rfl
    · obtain rfl := Option.some.inj h
      exact movesData_access (by decide) rfl
  · split at h
    · obtain ⟨tag, -, rfl⟩ := Option.map_eq_some_iff.1 h
      exact movesData_remoteAccess _ _ (by decide) ..
    · obtain rfl := Option.some.inj h
      exact movesData_access (by decide) rfl
  · obtain rfl := Option.some.inj h
    exact .of_dma (congrArg DmaSt.flight (ingest_dma ..))

theorem movesData_writeOne {b t : Block} {n : Nat} (h : b.writeOne n = some t) : b.MovesData t := by
  unfold writeOne at h
  extract_lets c at h
  split at h
  · extract_lets stop at h
    split at h
    extract_lets l at h
    split at h
    · cases h
    · obtain ⟨v, hv, rfl⟩ := Option.map_eq_some_iff.1 h
      exact (movesData_writeOut hv).trans (.of_dma ((congrArg DmaSt.flight (setCount_dma ..)).trans rfl))
  · cases h

theorem movesData_writeAll (n fuel : Nat) (b : Block) : b.MovesData (b.writeAll n fuel) := by
  induction fuel generalizing b with
  | zero => exact .of_dma rfl
  | succ fuel ih =>
    unfold writeAll
    split
    · next t ht => exact (movesData_writeOne ht).trans (ih t)
    · exact .of_dma rfl

theorem movesData_writeEach (b : Block) : b.MovesData b.writeEach := .foldl (fun t n => movesData_writeAll n _ t) _ b

theorem movesData_issueHost (n fuel : Nat) (b : Block) : b.MovesData (b.issueHost n fuel) := by
  induction fuel generalizing b with
  | zero => exact .of_dma rfl
  | succ fuel ih =>
    unfold issueHost
    extract_lets c
    split
    · split
      · exact .of_dma rfl
      · split
        · exact .of_dma rfl
        · exact (movesData_access (by decide) rfl).trans (ih _)
    · exact .of_dma rfl

theorem movesData_streamFeed (i fuel : Nat) (b : Block) : b.MovesData (b.streamFeed i fuel) := by
  induction fuel generalizing b with
  | zero => exact .of_dma rfl
  | succ fuel ih =>
    unfold streamFeed
    extract_lets st
    split
    · extract_lets c
      split
      · exact .of_dma rfl
      · split
        · extract_lets
          split_ifs
          · exact MovesData.trans (.of_dma rfl) (ih _)
          · exact .of_dma rfl
          · refine MovesData.trans ?_ (ih _)
            refine MovesData.trans ?_ (movesData_issueHost _ 2 _)
            exact .of_dma rfl
        · exact .of_dma rfl
    · exact .of_dma rfl

theorem movesData_feedAll (b : Block) : b.MovesData b.feedAll := .foldl (fun t i => movesData_streamFeed i _ t) _ b

theorem movesData_readOne {b t : Block} {n : Nat} (h : b.readOne n = some t) : b.MovesData t := by
  unfold readOne at h
  split at h
  · cases h
  · extract_lets c addr len s at h
    split at h
    · cases h
    · split at h
      · obtain rfl := Option.some.inj h
        exact movesData_access (by decide) rfl
      · split at h
        · obtain rfl := Option.some.inj h
          exact movesData_access (by decide) rfl
        · obtain rfl := Option.some.inj h
          exact movesData_access (by decide) rfl
      · split at h
        · obtain ⟨tag, -, rfl⟩ := Option.map_eq_some_iff.1 h
          exact movesData_remoteAccess _ _ (by decide) ..
        · obtain rfl := Option.some.inj h
          exact movesData_access (by decide) rfl

theorem movesData_readBlock (n limit fuel : Nat) (b : Block) : b.MovesData (b.readBlock n limit fuel).2 := by
  induction fuel generalizing b with
  | zero => exact .of_dma rfl
  | succ fuel ih =>
    unfold readBlock
    split
    · exact .of_dma rfl
    · split
      · exact .of_dma rfl
      · next t ht => exact (movesData_readOne ht).trans (ih t)

theorem movesData_readRound (l : List Nat) (more : Bool) (b : Block) : b.MovesData (l.foldl (fun (acc : Bool × Block) n =>
    let (more, s) := acc.2.readBlock n ((acc.2.chan n).requested + 2048) 512
    (acc.1 || more, s)) (more, b)).2 := by
  induction l generalizing more b with
  | nil => exact .of_dma rfl
  | cons n l ih => exact (movesData_readBlock n _ 512 b).trans (ih _ _)

theorem movesData_readTier (l : List Nat) (fuel : Nat) (b : Block) : b.MovesData (b.readTier l fuel) := by
  induction fuel generalizing b with
  | zero => exact .of_dma rfl
  | succ fuel ih =>
    have hround : b.MovesData (b.readRound l).2 := movesData_readRound l false b
    unfold readTier
    split
    · next t ht =>
      rw [ht] at hround
      exact hround.trans (ih t)
    · next t ht =>
      rw [ht] at hround
      exact hround

theorem movesData_readAll (b : Block) : b.MovesData b.readAll := .foldl (fun t _ => movesData_readTier _ 64 t) _ b

/-! ## Fetches -/

/-- The accesses in flight that are no fetches. -/
def dataFlight (b : Block) : List DmaAccess := b.dma.flight.filter fun a => a.kind != .fetch

theorem access_dataFlight (b : Block) (n space addr len : Nat) (data : List Nat) (err : Bool) :
    (b.access n .fetch space addr len data err).dataFlight = b.dataFlight := by
  rw [dataFlight, access_flight, List.filter_append, List.filter_cons_of_neg (by simp), List.filter_nil, List.append_nil]
  rfl

theorem fetchGo_dataFlight (b : Block) (n : Nat) : (b.fetchGo n).dataFlight = b.dataFlight := by
  unfold fetchGo
  extract_lets c asked
  split
  · rfl
  · split
    · split
      · exact access_dataFlight ..
      · refine (access_dataFlight ..).trans ?_
        exact congrArg (fun d : DmaSt => d.flight.filter fun a => a.kind != .fetch) (dramRead_dma b c.descAddr 32)
    · exact access_dataFlight ..

/-- An access other than a fetch that stands before a fetch issued last was in flight before the engine went on. -/
theorem mem_flight_of_dmaPump_fetched {b : Block} {l : List DmaAccess} {a f : DmaAccess}
    (h : b.dmaPump.dma.flight = l ++ [f]) (hf : f.kind = .fetch) (ha : a ∈ l) (hk : a.kind ≠ .fetch) : a ∈ b.dma.flight := by
  obtain ⟨t, ht⟩ : ∃ t, (List.range 56).foldl fetchGo b = t := ⟨_, rfl⟩
  have hfetch : t.dataFlight = b.dataFlight := ht ▸ foldl_keeps dataFlight _ (fun n _ s => fetchGo_dataFlight s n) b
  have hmove : t.MovesData b.dmaPump := by
    unfold dmaPump
    rw [ht]
    exact (((movesData_writeEach t).trans (movesData_feedAll _)).trans (movesData_writeEach _)).trans (movesData_readAll _)
  have hflight : t.dma.flight = l ++ [f] := by
    refine (hmove.resolve_right ?_).symm.trans h
    rintro ⟨l', a', hl, hkind⟩
    obtain ⟨-, rfl⟩ := List.append_singleton_inj.1 (h.symm.trans hl)
    exact hkind hf
  have hmem : a ∈ t.dataFlight := List.mem_filter.2 ⟨hflight ▸ List.mem_append_left _ ha, bne_iff_ne.2 hk⟩
  exact (List.mem_filter.1 (hfetch ▸ hmem)).1

end Block

/-! ## The descriptor that takes its own number again (R492, R500, R502) -/

/-- A device in operation whose access 5 fetches a descriptor for channel 0, and whose next access will be numbered 5 too;
channel 1 waits to fetch, a record waits in stream 0. -/
def fetchReused : State :=
  let b := ({ Block.initial with boot := { Block.initial.boot with
      hold := .none, porn := true, perstn := true, supplies := true, cores := [true, true, true, true] } } : Block).set
    uSys F.SYS.BOOT_STAT_PHASE 10
  ⟨[], { b with
    dma := { b.dma with
      chans := upd b.dma.chans 1 fun (c : DmaChan) => { c with fetching := true }
      flight := [⟨5, 0, .fetch, 0, 0, 32, 0, [], false⟩], nextId := 5 }
    host := { b.host with streams := upd b.host.streams 0 fun _ => ⟨[.alarm ⟨5, 0, 0, 0, 0, 0, 0, 0, 0⟩], none, some 0⟩ } }⟩

/-- A descriptor that moves 256 bytes of stream 0 to host memory. -/
def streamDesc : List Nat := le 4 3 ++ le 4 256 ++ le 8 0x10 ++ le 8 0 ++ le 8 0

/-- `fetchReused` meets the hypotheses of the fetch that is answered. -/
theorem fetchReused_asks : State.up fetchReused 0 ∧ (fetchReused.now 0).dma.chans.length = 64 ∧
    (fetchReused.now 0).dma.flight.find? (fun a => a.id == 5) = some ⟨5, 0, .fetch, 0, 0, 32, 0, [], false⟩ ∧
    32 ≤ streamDesc.length := by decide +kernel

/-- The answer begins the descriptor, which takes the record and writes it out as access 5 again; then channel 1 fetches. -/
theorem fetchReused_answered : ((fetchReused.now 0).dmaResponse 5 false streamDesc).dma.flight =
    [⟨5, 0, .write, 0, 0, 32, 0, [], false⟩] ++ [⟨6, 1, .fetch, 0, 0, 32, 0, [], false⟩] := by decide +kernel

/-- Refutes O54: its tenth clause asks that number `id` be free once a fetch is answered, of every state. Where the engine's
counter stands at the number of a fetch still in flight, the stream descriptor the answer brings writes its first record out
under that very number, before any other channel's fetch. The clause lacks the invariant that the accesses in flight bear
numbers below the counter. -/
theorem not_dmaChannelsRunTheirChains : ¬ Obligations.DmaChannelsRunTheirChains := by
  unfold Obligations.DmaChannelsRunTheirChains
  intro h
  obtain ⟨hup, hlen, hfind, hdata⟩ := fetchReused_asks
  obtain ⟨-, -, hresponse, -⟩ := h fetchReused 0 0 hup hlen (by decide)
  obtain ⟨-, -, hfetch⟩ := hresponse 5 streamDesc _ hfind rfl rfl
  obtain ⟨t, ht, hanswered, -⟩ := hfetch rfl hdata
  have hlast := fetchReused_answered
  generalize hr : (fetchReused.now 0).dmaResponse 5 false streamDesc = r at hlast
  obtain rfl : t.dmaPump = r := (State.mk.inj (Host.Outcome.next.inj (ht.symm.trans (hup.exec_next (exec_dmaResponse ..) hr)))).2
  have hmem := Block.mem_flight_of_dmaPump_fetched hlast rfl (List.mem_singleton_self _) (by decide)
  exact hanswered (List.mem_map.2 ⟨_, hmem, rfl⟩)

end Sys2Proof.Machine

/-! # A store to a mailbox that does not exist (R508, R514, R602) -/

namespace Sys2Proof.Machine
namespace Block

/-- A word mailbox beyond those of the mask is never FULL. -/
theorem f2hFull_of_ge (b : Block) {m : Nat} (hm : 16 ≤ m) : b.f2hFull m = false := by
  have hlt : b.get uBar2 F.MBXB.WSTAT_F2H_FULL < 2 ^ m :=
    (b.getI_lt uBar2 F.MBXB.WSTAT_F2H_FULL 0).trans_le (Nat.pow_le_pow_right (by decide) hm)
  rw [f2hFull, bit, Nat.div_eq_of_lt hlt]
  rfl

/-- The stores of a message name the word mailboxes there are. -/
theorem lt_of_mem_messageStores {typ tag : Nat} {payload : List Nat} {m w : Nat}
    (h : OutStore.word m w ∈ messageStores typ tag payload) : m < 16 := by
  unfold messageStores at h
  extract_lets hdr at h
  split at h
  · next hp =>
    rcases List.mem_append.1 h with h | h
    · obtain ⟨i, hi, hs⟩ := List.mem_map.1 h
      have := List.mem_range.1 hi
      injection hs
      omega
    · have := List.mem_singleton.1 h
      injection this
      omega
  · exact absurd (List.mem_singleton.1 h) (by simp)

/-- A word that waits in the outbox for such a mailbox is stored where that mailbox would lie; the stores of the message
after it go elsewhere. -/
theorem rd_send_stray {b : Block} {m w : Nat} (hout : b.mbx.outbox = [.word m w]) (hm : 16 ≤ m) {u : UnitId} {off : Nat}
    (hu : u ≠ uBar2) (hi : u.inst < 256) (ho : off < 0x4000) (hkey : regKey u off = regKey uBar2 (F.MBXB.F2H_DATA.at m))
    (typ tag : Nat) (payload : List Nat) : (b.send typ tag payload).rd u off % 2 ^ 32 = w % 2 ^ 32 := by
  have hm0 : m ≠ 0 := by omega
  obtain ⟨t, ht⟩ : ∃ t : Block, t = { b with mbx := { b.mbx with outbox := messageStores typ tag payload } } := ⟨_, rfl⟩
  have hsend : b.send typ tag payload =
      ((t.setI uBar2 F.MBXB.F2H_DATA m w).setBitI uBar2 F.MBXB.WSTAT_F2H_FULL 0 m).pumpOut
        ([OutStore.word m w] ++ messageStores typ tag payload).length := by
    unfold send post
    extract_lets _ s
    have hs : s.mbx.outbox = .word m w :: messageStores typ tag payload := by
      change b.mbx.outbox ++ _ = _
      rw [hout]
      rfl
    have hfree : ¬s.f2hFull m = true := by rw [s.f2hFull_of_ge hm]; decide
    rw [pumpOut, hs]
    dsimp only
    rw [if_neg hfree, if_neg hm0, ht]
    rfl
  rw [hsend, rd_pumpOut _ _ hu hi ho, rd_setBitI_unit _ hu (by decide) hi (by decide) ho]
  · have hsame := getI_setI_same t uBar2 F.MBXB.F2H_DATA m w (by decide)
    rw [getI, rd, ← hkey, ← rd] at hsame
    simpa [bits, F.MBXB.F2H_DATA, Field.width] using hsame
  · intro m' w' h
    rw [setBitI_mbx, setI_mbx, ht] at h
    exact lt_of_mem_messageStores h

end Block

/-! ## An ending procedure behind it -/

/-- DRAM training, run for its maximum time. -/
def strayRun : CalRun := ⟨2, 0, false, false, [], 1, 0, false, [], none, 0, [], [], []⟩

/-- The reply the procedure owes. -/
def strayReply : Deferred := ⟨⟨0x33, 1, [], true⟩, none, 0, false, none, none, none⟩

/-- The word mailbox whose data register would lie where `CAL.LAST` does. -/
def strayMailbox : Nat := 0x1000035

/-- A device in operation whose calibration has had its time and whose outbox holds a word for that mailbox. -/
def strayOutbox : State :=
  let b := ({ Block.initial with boot := { Block.initial.boot with
      hold := .none, porn := true, perstn := true, supplies := true, cores := [true, true, true, true] } } : Block).set
    uSys F.SYS.BOOT_STAT_PHASE 10
  ⟨[], { b with
    lt := 1000000, cal := { b.cal with run := some strayRun }
    mbx := { b.mbx with outbox := [.word strayMailbox 0], deferred := [strayReply] } }⟩

theorem strayOutbox_asks : State.up strayOutbox 0 ∧ (strayOutbox.now 0).cal.run = some strayRun ∧
    (strayOutbox.now 0).calLimit strayRun ≤ (strayOutbox.now 0).since strayRun.at_ ∧
    (strayOutbox.now 0).mbx.outbox = [.word strayMailbox 0] ∧ (strayOutbox.now 0).mbx.deferred = [strayReply] := by
  decide +kernel

namespace Block

theorem replyDeferred_sends (b : Block) (result second detail : Nat) (extra : List Nat) :
    ∃ (t : Block) (typ tag : Nat) (payload : List Nat),
      b.replyDeferred strayReply result second detail extra = t.send typ tag payload ∧ t.mbx.outbox = b.mbx.outbox := by
  by_cases h : result = 0
  · exact ⟨b.dropDeferred strayReply, 0xB3, 1, replyWord result second detail :: extra,
      congrArg (Block.send · _ _ _) (if_pos h), rfl⟩
  · exact ⟨(b.dropDeferred strayReply).inc uMbx F.MBX.CNT_NOT_OK_COUNT, 0xB3, 1, replyWord result second detail :: extra,
      congrArg (Block.send · _ _ _) (if_neg h), rfl⟩

/-- The end of a procedure that keeps no record and whose reply waits is a message to the host. -/
theorem calEnd_sends {b : Block} (hdeferred : b.mbx.deferred = [strayReply]) (result detail grade : Nat) (applied : Bool)
    (words : List Nat) (fig : Int) (bad : Nat) :
    ∃ (t : Block) (typ tag : Nat) (payload : List Nat),
      b.calEnd strayRun result detail grade applied words fig bad = t.send typ tag payload ∧ t.mbx.outbox = b.mbx.outbox := by
  unfold calEnd
  extract_lets _ s₁ s₂
  have hs₂ : s₂.findDeferred 0x33 strayRun.tag = some strayReply := by
    rw [findDeferred, show s₂.mbx.deferred = [strayReply] from hdeferred]
    rfl
  dsimp only [strayRun, Bool.false_eq_true, if_false]
  exact hs₂ ▸ replyDeferred_sends s₂ ..

/-- A procedure that has had its time sends its reply. -/
theorem calTimeout_sends {b : Block} (hrun : b.cal.run = some strayRun) (hlimit : b.calLimit strayRun ≤ b.since strayRun.at_)
    (hdeferred : b.mbx.deferred = [strayReply]) (bad : Nat) :
    ∃ (t : Block) (typ tag : Nat) (payload : List Nat),
      b.calTimeout bad = t.send typ tag payload ∧ t.mbx.outbox = b.mbx.outbox := by
  unfold calTimeout
  rw [hrun]
  dsimp only
  rw [if_neg (not_lt.2 hlimit)]
  unfold calFailed
  exact calEnd_sends (b := b.took.calSpoil strayRun) hdeferred 10 _ 0 false _ 0 bad

end Block

/-- Refutes O59: the fifth to ninth clauses ask that `CAL.LAST` show the procedure that ended, of every state. Its reply goes
out behind the words that wait in the outbox, and a word for a mailbox that does not exist is stored where no mailbox lies:
here over `CAL.LAST`. The clauses lack the invariant that the outbox names the sixteen word mailboxes. -/
theorem not_calibrationRunsAndRecords : ¬ Obligations.CalibrationRunsAndRecords := by
  unfold Obligations.CalibrationRunsAndRecords
  intro h
  obtain ⟨hup, hrun, hlimit, hout, hdeferred⟩ := strayOutbox_asks
  obtain ⟨-, -, -, -, htimeout, -⟩ := h strayOutbox 0 hup
  obtain ⟨t, ht, -, -, hresult, -⟩ := (htimeout strayRun 0 hrun).1 hlimit
  generalize hb : (strayOutbox.now 0).calTimeout 0 = r
  obtain rfl : t = r := (State.mk.inj (Host.Outcome.next.inj (ht.symm.trans (hup.exec_next (exec_calTimeout ..) hb)))).2
  obtain ⟨v, typ, tag, payload, hsend, hkept⟩ := Block.calTimeout_sends hrun hlimit hdeferred 0
  have hzero : t.rd uCal (F.CAL.LAST_RESULT.at 0) % 2 ^ 32 = 0 := by
    rw [← hb, hsend]
    exact Block.rd_send_stray (hkept.trans hout) (by decide) (by decide) (by decide) (by decide) (by decide) typ tag payload
  rw [Nat.mod_eq_of_lt (Block.rd_lt ..)] at hzero
  rw [Block.get, Block.getI, hzero] at hresult
  exact absurd hresult (by decide)

end Sys2Proof.Machine

/-! # Lines through the look-ahead store and SEG (R359-R390) -/

namespace Sys2Proof.Machine
namespace Block

/-! ## What leaves Tango and SEG as they were -/

/-- Tango and SEG. -/
def tail (b : Block) : TangoSt × SegSt := (b.tango, b.seg)

theorem tango_of_tail {b t : Block} (h : t.tail = b.tail) : t.tango = b.tango := congrArg Prod.fst h

theorem seg_of_tail {b t : Block} (h : t.tail = b.tail) : t.seg = b.seg := congrArg Prod.snd h

theorem tail_of_hostWork {b t : Block} (h : b.HostWork t) : t.tail = b.tail := by
  obtain ⟨_, _, _, _, rfl⟩ := h
  rfl

theorem flag_tail (b : Block) (u : UnitId) (f : Field) : (b.flag u f).tail = b.tail := by simp [tail]

theorem flagRaise_tail (b : Block) (u : UnitId) (f : Field) : (b.flagRaise u f).tail = b.tail := by simp [tail]

theorem setBitI_tail (b : Block) (u : UnitId) (f : Field) (i n : Nat) : (b.setBitI u f i n).tail = b.tail := by simp [tail]

theorem msix_tail (b : Block) (v : Nat) : (b.msix v).tail = b.tail := by simp [tail]

theorem classB_tail (b : Block) (i : Nat) (r : Rec) : (b.classB i r).tail = b.tail := tail_of_hostWork (hostWork_classB b i r)

theorem pushStream_tail (b : Block) (i : Nat) (r : Rec) : (b.pushStream i r).tail = b.tail := by
  unfold pushStream
  extract_lets st _ s
  split
  · exact (tail_of_hostWork (hostWork_hostIrq (b.incI uHost F.HOST.STR_DROP_COUNT i) _)).trans rfl
  · exact (tail_of_hostWork (hostWork_streamFeed i (st.recs.length + 1) s)).trans rfl

theorem pumpOne_tail {b t : Block} (h : b.pumpOne = some t) : t.tail = b.tail := by
  unfold pumpOne at h
  split at h
  · cases h
  · split at h
    · cases h
    · obtain rfl := Option.some.inj h
      split
      · exact (msix_tail ..).trans (setBitI_tail ..)
      · exact setBitI_tail ..
  · split at h
    · cases h
    · obtain rfl := Option.some.inj h
      exact msix_tail ..

theorem send_tail (b : Block) (typ tag : Nat) (payload : List Nat) : (b.send typ tag payload).tail = b.tail :=
  pumpOut_induct (P := fun b t => t.tail = b.tail) (fun _ => rfl) (fun h h' => h'.trans h) (fun _ _ => pumpOne_tail) _ _

theorem replyDeferred_tail (b : Block) (d : Deferred) (result second detail : Nat) (extra : List Nat) :
    (b.replyDeferred d result second detail extra).tail = b.tail := by
  unfold replyDeferred answer
  extract_lets s
  split
  · rfl
  · split
    · unfold replyFull
      extract_lets s'
      refine (send_tail ..).trans ?_
      unfold s'
      split <;> rfl
    · rfl

theorem commitReach_tail (b : Block) (c : Commit) (u : UnitId) : (b.commitReach c u).tail = b.tail := by
  obtain ⟨past, hreach⟩ := b.commitReach_eq c u
  have hset : (b.unitReached c u past).tail = b.tail := by
    obtain ⟨r, hr⟩ := b.applyStaged_eq u
    rw [unitReached, hr]
    rfl
  rw [hreach]
  split
  · refine Eq.trans ?_ hset
    exact foldl_keeps tail _ (fun d _ t => replyDeferred_tail ..) _
  · exact hset

theorem noteIn_tail (b : Block) (u : UnitId) (line : Nat) : (b.noteIn u line).tail = b.tail := by
  unfold noteIn
  extract_lets newer
  split <;> rfl

theorem lineInto_tail (b : Block) (u : UnitId) (line : Nat) : (b.lineInto u line).tail = b.tail :=
  (noteIn_tail ..).trans (foldl_keeps tail _ (fun c _ t => by
    split
    · exact t.commitReach_tail c u
    · rfl) b)

theorem wrAll_tail (b : Block) (u : UnitId) (l : List (Nat × Nat)) (v : Nat × Nat → Nat) :
    (l.foldl (fun t w => t.wr u w.1 (v w)) b).tail = b.tail :=
  foldl_keeps tail (f := fun t w => t.wr u w.1 (v w)) l (fun _ _ _ => rfl) b

theorem valsAt_tail (b : Block) (u : UnitId) (line : Nat) : (b.valsAt u line).tail = b.tail := by
  unfold valsAt
  split
  · obtain ⟨r, hr⟩ := b.applyStaged_eq u
    rw [hr]
    rfl
  · exact foldl_keeps tail _ (fun p _ t => wrAll_tail t u p.words Prod.snd) b

/-- Work on a line comes, for Tango and SEG, to what it comes to with the values in force for the line. -/
theorem atLine_tail (b : Block) (u : UnitId) (line : Nat) (f : Block → Block) :
    ∃ v : Block, v.tail = b.tail ∧ (b.atLine u line f).tail = (f v).tail := by
  unfold atLine
  split
  · exact ⟨b, rfl, rfl⟩
  · exact ⟨b.valsAt u line, valsAt_tail .., wrAll_tail _ u _ fun w => b.rd u w.1⟩

/-- No line has left Tango for the archive. -/
theorem tangoOuts_none {b t : Block} (h : t.tango.outq = b.tango.outq) : b.tangoOuts t = t := by
  rw [tangoOuts, h, List.drop_length]
  rfl

/-! ## The store takes a line, or holds it (R359) -/

theorem get_flag_same (b : Block) {u : UnitId} {f : Field} (hu : u ≠ uEvt) (hu' : u ≠ uErrlog) (hi : u.inst < 256)
    (hf : f.lo ≤ f.hi ∧ f.hi < 32) (hw : f.width = 1) (ho : f.at 0 < 0x4000) : (b.flag u f).get u f = 1 :=
  on_flag b hu hu' hi hf hw ho

theorem lookaheadEnter_full {b : Block} {w : WebLine} {rest : List WebLine} (hout : b.stitch.outq = w :: rest)
    (hfull : 40 ≤ b.heldLines) : b.lookaheadEnter = b.flag uTango F.TANGO.FLAGS_STORE_FULL := by
  rw [lookaheadEnter, hout]
  exact if_pos hfull

/-- The block once the stitch's next line has reached Tango, before the store takes it. -/
def lineFetched (b : Block) (w : WebLine) (rest : List WebLine) : Block :=
  ({ b with stitch := { b.stitch with outq := rest } } : Block).lineInto uTango w.line

theorem lineFetched_spec (b : Block) (w : WebLine) (rest : List WebLine) :
    (b.lineFetched w rest).stitch.outq = rest ∧ (b.lineFetched w rest).tango = b.tango :=
  ⟨congrArg StitchSt.outq (lineInto_stitch ..), tango_of_tail (lineInto_tail ..)⟩

theorem lookaheadEnter_room {b : Block} {w : WebLine} {rest : List WebLine} (hout : b.stitch.outq = w :: rest)
    (hroom : b.heldLines < 40) : b.lookaheadEnter = (tangoCommitted b (b.lineFetched w rest)).storeLine w := by
  rw [lookaheadEnter, hout]
  exact if_neg (not_le.2 hroom)

/-! ## The last row flushed (R359) -/

/-- A row closed by a flush, when it is the one named. -/
def rowFlushed (r x : TangoRow) : TangoRow :=
  if x.page = r.page ∧ x.row = r.row then { x with closed := true, flushed := true } else x

/-- Page registration that tells of a flush. -/
def pageFlushed (g : TangoPage) : TangoPage := { g with flushed := true }

/-- The block with its last row flushed. -/
def lastFlushed (b : Block) (r : TangoRow) : Block :=
  (((({ b with tango := { b.tango with open_ := false, rows := b.tango.rows.map (rowFlushed r) } } : Block).setPage r.page
    pageFlushed).inc uTango F.TANGO.CNT_FLUSH_COUNT).flag uTango F.TANGO.FLAGS_FLUSH)

theorem tangoFlush_early {b : Block} (hsooner : b.since b.tango.entered < 1000 * b.get uTango F.TANGO.TIMING_FLUSH_US) :
    b.tangoFlush = b := by
  refine if_neg fun h => ?_
  obtain ⟨-, h⟩ := Bool.and_eq_true_iff.1 h
  exact absurd (of_decide_eq_true h) (not_le.2 hsooner)

theorem tangoFlush_closes {b : Block} {r : TangoRow} (hopen : b.tango.open_ = true)
    (hdue : 1000 * b.get uTango F.TANGO.TIMING_FLUSH_US ≤ b.since b.tango.entered) (hlast : b.tango.rows.getLast? = some r)
    (hclosed : r.closed = false) : b.tangoFlush = (b.lastFlushed r).pagesSettle := by
  unfold tangoFlush
  refine (if_pos (Bool.and_eq_true_iff.2 ⟨hopen, decide_eq_true hdue⟩)).trans (congrArg pagesSettle ?_)
  dsimp only
  rw [hlast]
  exact if_neg (by rw [hclosed]; decide)

theorem lastFlushed_spec (b : Block) (r : TangoRow) :
    (b.lastFlushed r).tango.open_ = false ∧ (b.lastFlushed r).get uTango F.TANGO.FLAGS_FLUSH = 1 ∧
      (b.lastFlushed r).get uTango F.TANGO.CNT_FLUSH_COUNT =
        satAdd F.TANGO.CNT_FLUSH_COUNT.max (b.get uTango F.TANGO.CNT_FLUSH_COUNT) 1 ∧
      ∀ x ∈ (b.lastFlushed r).tango.rows, x.page = r.page → x.row = r.row → x.closed = true ∧ x.flushed = true := by
  have htango : (b.lastFlushed r).tango.open_ = false ∧ (b.lastFlushed r).tango.rows = b.tango.rows.map (rowFlushed r) := by
    rw [lastFlushed, flag_tango]
    exact ⟨rfl, rfl⟩
  refine ⟨htango.1, get_flag_same _ (by decide) (by decide) (by decide) (by decide) (by decide) (by decide), ?_, ?_⟩
  · refine (getI_flag _ (by decide) (by decide) (by decide) (by decide) (by decide)).trans ?_
    exact get_addI _ uTango (by decide) 1
  · intro x hx hpage hrow
    rw [htango.2] at hx
    obtain ⟨y, -, rfl⟩ := List.mem_map.1 hx
    unfold rowFlushed at hpage hrow ⊢
    split
    · exact ⟨rfl, rfl⟩
    · next hne =>
      rw [if_neg hne] at hpage hrow
      exact absurd ⟨hpage, hrow⟩ hne

/-! ## A row estimated (R378) -/

/-- A row with its estimate, when it is the one named. -/
def rowWith (r : TangoRow) (e : Int × List TangoNode) (x : TangoRow) : TangoRow :=
  if x.page = r.page ∧ x.row = r.row then { x with est := some e } else x

theorem noteLate_tango (b : Block) (page band : Nat) : (b.noteLate page band).tango = b.tango := by
  unfold noteLate
  split
  · rfl
  · exact flag_tango ..

theorem estimateRow_rows (r : TangoRow) (b : Block) : ∃ e, (estimateRow r b).tango.rows = b.tango.rows.map (rowWith r e) := by
  unfold estimateRow
  extract_lets owned n base pad _ s res nodes dys next losses late _ s₁ s₂ s₃ s₄
  refine ⟨(base, nodes), ?_⟩
  have h₁ : s₁.tango.rows = b.tango.rows.map (rowWith r (base, nodes)) := rfl
  have h₃ : s₃.tango = s₂.tango := foldl_keeps tango _ (fun _ _ _ => flagRaise_tango ..) _
  have h₄ : s₄.tango = s₃.tango := set_tango ..
  rw [foldl_keeps tango _ (fun _ _ _ => noteLate_tango ..), h₄, h₃]
  exact h₁

/-- What work on a line leaves of Tango whatever the values in force, it leaves. -/
theorem atLine_leaves {γ : Type} (g : TangoSt → γ) {b : Block} {u : UnitId} {line : Nat} {f : Block → Block}
    (hf : ∀ t : Block, g (f t).tango = g t.tango) : g (b.atLine u line f).tango = g b.tango := by
  obtain ⟨v, hv, hline⟩ := atLine_tail b u line f
  rw [tango_of_tail hline, hf, tango_of_tail hv]

theorem pageTail_rows (b : Block) (p : Nat) : (b.pageTail p).tango.rows = b.tango.rows := by
  unfold pageTail
  split
  · rfl
  · next g _ =>
    extract_lets open_
    split
    · rfl
    · refine atLine_leaves TangoSt.rows fun t => ?_
      extract_lets known sEnd t₁ t₂ tol
      have h₁ : t₁.tango = t.tango := by
        unfold t₁
        split <;> rfl
      have h₂ : t₂.tango.rows = t.tango.rows := (show t₂.tango.rows = t₁.tango.rows from rfl).trans (congrArg TangoSt.rows h₁)
      clear_value t₂
      split
      · exact h₂
      · extract_lets tail t₃ t₄
        have h₄ : t₄.tango.rows = t.tango.rows := h₂
        clear_value t₄
        split_ifs
        · rw [flagRaise_tango]
          exact h₄
        · rw [flagRaise_tango]
          exact h₄
        · exact h₄

theorem rowEstimated_open {b : Block} {r : TangoRow} (hnext : b.tango.rows.find? (fun r => r.est.isNone) = some r)
    (hopen : r.closed = false) : b.rowEstimated = b := by
  rw [rowEstimated, hnext]
  exact if_neg (by rw [hopen]; decide)

theorem rowEstimated_closed {b : Block} {r : TangoRow} (hnext : b.tango.rows.find? (fun r => r.est.isNone) = some r)
    (hclosed : r.closed = true) : ∃ e, b.rowEstimated.tango.rows = b.tango.rows.map (rowWith r e) := by
  obtain ⟨v, hv, hline⟩ := atLine_tail b uTango r.first (estimateRow r)
  obtain ⟨e, he⟩ := estimateRow_rows r v
  refine ⟨e, ?_⟩
  rw [rowEstimated, hnext]
  dsimp only
  rw [if_pos hclosed, pageTail_rows, tango_of_tail hline, he, tango_of_tail hv]

theorem est_of_mem_rowWith {l : List TangoRow} {r x : TangoRow} {e : Int × List TangoNode} (hx : x ∈ l.map (rowWith r e))
    (hpage : x.page = r.page) (hrow : x.row = r.row) : x.est.isSome = true := by
  obtain ⟨y, -, rfl⟩ := List.mem_map.1 hx
  unfold rowWith at hpage hrow ⊢
  split
  · rfl
  · next hne =>
    rw [if_neg hne] at hpage hrow
    exact absurd ⟨hpage, hrow⟩ hne

/-! ## A line leaves the store (R360) -/

theorem rowLeft_outq (r : TangoRow) (base : Int) (nodes : List TangoNode) (absent : Bool) (b : Block) :
    (rowLeft r base nodes absent b).tango.outq = b.tango.outq := by
  unfold rowLeft
  extract_lets nm nf n s₁ s₂ _ s₃ div q e _ s₄
  split
  · exact (congrArg TangoSt.outq (tango_of_tail (classB_tail s₄ 1 _))).trans rfl
  · rfl

theorem warpOut_outq (r : TangoRow) (rest : List TangoRow) (base : Int) (nodes : List TangoNode) (w : WebLine) (b : Block) :
    ∃ l : TangoLine, (warpOut r rest base nodes w b).tango.outq = b.tango.outq ++ [l] ∧ l.w = w := by
  unfold warpOut
  extract_lets prev
  split
  next refs nodes' late _ =>
  extract_lets s₁ l r' empty _ s₂
  have h₁ : s₁.tango = b.tango := foldl_keeps tango _ (fun _ _ _ => noteLate_tango ..) b
  have h₂ : s₂.tango.outq = b.tango.outq ++ [l] := congrArg (fun t : TangoSt => t.outq ++ [l]) h₁
  clear_value s₂
  refine ⟨l, ?_, rfl⟩
  split
  · exact (rowLeft_outq ..).trans h₂
  · exact h₂

theorem pageFinish_outq (b : Block) (p : Nat) : (b.pageFinish p).tango.outq = b.tango.outq := by
  unfold pageFinish
  split
  · rfl
  · next g _ =>
    split
    · rfl
    · extract_lets _ s
      have hs : s.tango.outq = b.tango.outq := rfl
      clear_value s
      refine (atLine_leaves TangoSt.outq fun t => ?_).trans hs
      split
      · extract_lets bind ref job q _ t'
        exact (congrArg TangoSt.outq (tango_of_tail (pushStream_tail t' 0 _))).trans rfl
      · rfl

theorem tangoLineOut_outq {b : Block} {r : TangoRow} {rest : List TangoRow} {w : WebLine} {ws : List WebLine}
    (hrows : b.tango.rows = r :: rest) (hleave : rowMayLeave r rest = true) (hlines : r.lines ++ r.late = w :: ws) :
    ∃ l : TangoLine, b.tangoLineOut.tango.outq = b.tango.outq ++ [l] ∧ l.w = w := by
  obtain ⟨⟨base, nodes⟩, hest⟩ := Option.isSome_iff_exists.1 (Bool.and_eq_true_iff.1 hleave).1
  obtain ⟨v, hv, hline⟩ := atLine_tail b uTango w.line (warpOut r rest base nodes w)
  obtain ⟨l, hl, hw⟩ := warpOut_outq r rest base nodes w v
  refine ⟨l, ?_, hw⟩
  unfold tangoLineOut
  rw [hrows]
  dsimp only
  rw [hest, hleave, hlines]
  dsimp only
  refine (pageFinish_outq ..).trans ?_
  rw [tango_of_tail hline, hl, tango_of_tail hv]

end Block
end Sys2Proof.Machine

/-! # Lines through SEG (R384-R402) -/

namespace Sys2Proof.Machine
namespace Block

/-- Tango, and of SEG its history and the line it stands at. -/
def segPlace (b : Block) : TangoSt × List SegHist × Option (Nat × Nat × Nat × Nat × Nat) := (b.tango, b.seg.hist, b.seg.last)

theorem segPlace_of_tail {b t : Block} (h : t.tail = b.tail) : t.segPlace = b.segPlace := by
  rw [segPlace, tango_of_tail h, seg_of_tail h, segPlace]

theorem winDrop_segPlace (b : Block) (w : Option Nat) : (b.winDrop w).segPlace = b.segPlace := by
  unfold winDrop
  split <;> rfl

/-- The counters of a component that closes. -/
theorem compClose_segPlace (b : Block) (c : Comp) (fl line stamp page pageLine t0 : Nat) :
    (b.compClose c fl line stamp page pageLine t0).segPlace = b.segPlace := by
  unfold compClose
  extract_lets s₁ s₂ s₃ s₄ s₅
  have h₂ : s₂.segPlace = b.segPlace := by
    unfold s₂
    split <;> rfl
  have h₃ : s₃.segPlace = b.segPlace := by
    rw [← h₂]
    unfold s₃
    split <;> rfl
  have h₄ : s₄.segPlace = b.segPlace := by
    rw [← h₃]
    unfold s₄
    split
    · exact segPlace_of_tail (flag_tail ..)
    · rfl
  have h₅ : s₅.segPlace = b.segPlace := by
    rw [← h₄]
    unfold s₅
    split <;> rfl
  clear_value s₅
  split
  · exact (winDrop_segPlace ..).trans h₅
  · exact h₅

theorem closeAll_segPlace (b : Block) (l : List (Comp × Nat)) (w : WebLine) : (b.closeAll l w).segPlace = b.segPlace :=
  foldl_keeps segPlace _ (fun _ _ _ => compClose_segPlace ..) b

theorem snipSend_segPlace (b : Block) : b.snipSend.segPlace = b.segPlace := by
  unfold snipSend
  extract_lets ready _ s
  exact (foldl_keeps segPlace _ (fun _ _ t => segPlace_of_tail (classB_tail ..)) s).trans rfl

theorem mapRead_tango (units : List Nat) (fuel : Nat) (b : Block) (n len : Nat) :
    (b.mapRead units n len fuel).2.tango = b.tango := by
  induction fuel generalizing b n len with
  | zero => rfl
  | succ fuel ih =>
    unfold mapRead
    split
    · rfl
    · exact (ih ..).trans (congrArg (·.2.1) (dramRead_beside ..))

theorem segPage_tango (b : Block) (page : Nat) : (b.segPage page).tango = b.tango := by
  unfold segPage
  extract_lets s₁ want p s₂ sub
  have h₁ : s₁.tango = b.tango := by
    unfold s₁
    split
    · unfold subMeasure
      split
      split <;> rfl
    · rfl
  have h₂ : s₂.tango = b.tango := by
    rw [← h₁]
    unfold s₂
    split <;> rfl
  exact h₂

theorem segZones_tango (b : Block) (page row : Nat) : (b.segZones page row).tango = b.tango := by
  unfold segZones
  split
  · rfl
  · split
    · split
      · exact mapRead_tango ..
      · rfl
    · rfl

theorem winOpen_tango (b : Block) (col0 owned : Nat) (w : WebLine) : (b.winOpen col0 owned w).2.tango = b.tango := by
  unfold winOpen
  split
  · exact flag_tango ..
  · rfl

theorem labelRun_tango (w : WebLine) (px : List SegPx) (prevFill : List Bool) (groups : List (Nat × Nat)) (a : Label)
    (run : Nat × Nat) : (labelRun w px prevFill groups a run).s.tango = a.s.tango := by
  unfold labelRun
  extract_lets near touch cont fillAt fills addAll cols
  clear_value touch
  cases touch with
  | nil =>
    dsimp only
    split
    · exact winOpen_tango ..
    · split <;> exact winOpen_tango ..
  | cons t0 rest =>
    dsimp only
    exact foldl_keeps tango _ (fun c _ t => congrArg Prod.fst (winDrop_segPlace t c.window)) a.s

theorem labelRuns_tango (w : WebLine) (px : List SegPx) (prevFill : List Bool) (groups : List (Nat × Nat))
    (runs : List (Nat × Nat)) (a : Label) : (runs.foldl (labelRun w px prevFill groups) a).s.tango = a.s.tango :=
  foldl_keeps (fun a : Label => a.s.tango) runs (fun run _ t => labelRun_tango w px prevFill groups t run) a

theorem segWork_place (l : TangoLine) (b : Block) : ∃ (h : SegHist) (old : List SegHist),
    h.line = l.w.line ∧
      (segWork l b).segPlace = (b.tango, h :: old, some (l.w.page, l.w.pageLine, l.w.line, l.w.stamp, l.w.t0)) := by
  unfold segWork
  extract_lets w old samePage joined en s₁₂ _ s₁₁ _ s₁₀ _ s₉ s₈ s₇ px s₆ fills prevFill touched cands a next limit isSplit split
    gone stay _ _ s₅ s₄ _ s₃ s₂ _ s₁ _ s₀
  refine ⟨⟨w.line, w.page, w.pageLine, px⟩, s₄.seg.hist.take 2, rfl, ?_⟩
  have h₁₁ : s₁₁.tango = b.tango := by
    have h : s₁₂.tango = b.tango := by
      unfold s₁₂
      split
      · rfl
      · exact congrArg Prod.fst (closeAll_segPlace ..)
    rw [← h]
    unfold s₁₁
    split <;> rfl
  have h₉ : s₉.tango = b.tango := by
    have h : s₁₀.tango = s₁₁.tango := by
      unfold s₁₀
      split <;> rfl
    rw [← h₁₁, ← h]
    unfold s₉
    split <;> rfl
  have h₈ : s₈.tango = b.tango := by
    rw [← h₉]
    unfold s₈
    split
    · rfl
    · exact segPage_tango ..
  have h₆ : s₆.tango = b.tango := (show s₆.tango = s₇.tango from rfl).trans ((segZones_tango ..).trans h₈)
  have ha : a.s.tango = b.tango := (labelRuns_tango ..).trans h₆
  have h₃ : s₃.segPlace = (b.tango, ⟨w.line, w.page, w.pageLine, px⟩ :: s₄.seg.hist.take 2,
      some (w.page, w.pageLine, w.line, w.stamp, w.t0)) :=
    congrArg (·, (⟨w.line, w.page, w.pageLine, px⟩ : SegHist) :: s₄.seg.hist.take 2,
      some (w.page, w.pageLine, w.line, w.stamp, w.t0)) ha
  clear_value s₃
  have h₂ : s₂.segPlace = s₃.segPlace := closeAll_segPlace ..
  clear_value s₂ old
  have h₁ : s₁.segPlace = s₂.segPlace := by
    unfold s₁
    split
    · split <;> rfl
    · rfl
  have h₀ : s₀.segPlace = s₁.segPlace := by
    unfold s₀
    split <;> rfl
  calc s₀.snipSend.segStat.segPlace
      = s₀.snipSend.segPlace := rfl
    _ = s₀.segPlace := snipSend_segPlace s₀
    _ = s₃.segPlace := h₀.trans (h₁.trans h₂)
    _ = _ := h₃

theorem segLine_place {b : Block} {l : TangoLine} {rest : List TangoLine} (hout : b.tango.outq = l :: rest) :
    b.segLine.tango.outq = rest ∧ (∃ h, b.segLine.seg.hist.head? = some h ∧ h.line = l.w.line) ∧
      b.segLine.seg.last = some (l.w.page, l.w.pageLine, l.w.line, l.w.stamp, l.w.t0) := by
  rw [segLine, hout]
  dsimp only
  generalize hf : ({ b with tango := { b.tango with outq := rest } } : Block).lineInto uSeg l.w.line = f
  have hrest : f.tango.outq = rest := congrArg TangoSt.outq (hf ▸ tango_of_tail (lineInto_tail ..))
  obtain ⟨v, hv, hline⟩ := atLine_tail f uSeg l.w.line (segWork l)
  obtain ⟨h, old, hl, hplace⟩ := segWork_place l v
  have hall := (segPlace_of_tail ((lineInto_tail _ uTag l.w.line).trans hline)).trans hplace
  obtain ⟨htango, hseg⟩ := Prod.mk.inj hall
  obtain ⟨hhist, hlast⟩ := Prod.mk.inj hseg
  exact ⟨(congrArg TangoSt.outq (htango.trans (tango_of_tail hv))).trans hrest, ⟨h, congrArg List.head? hhist, hl⟩, hlast⟩

/-! ## No line for FLUSH_US (R390) -/

/-- Every open component of SEG closed, cut off at the line SEG stands at. -/
def compsCut (b : Block) (q : Nat × Nat × Nat × Nat × Nat) : Block :=
  match q with
  | (p, y, n, st, t0) =>
    (handOrder (b.seg.comps.map fun c => (c, 2 ^ 9))).foldl (fun s c => s.compClose c.1 c.2 n st p y t0) b

/-- The block with no component open any more. -/
def segClosed (b : Block) (q : Nat × Nat × Nat × Nat × Nat) : Block :=
  { b.compsCut q with seg := { (b.compsCut q).seg with comps := [] } }

theorem segFlush_due {b : Block} {q : Nat × Nat × Nat × Nat × Nat} (hlast : b.seg.last = some q) (hcomps : b.seg.comps ≠ [])
    (hdue : 1000 * b.get uTango F.TANGO.TIMING_FLUSH_US ≤ b.since b.seg.entered) : b.segFlush = (b.segClosed q).segStat := by
  unfold segFlush
  rw [hlast]
  refine if_pos (Bool.and_eq_true_iff.2 ⟨?_, decide_eq_true hdue⟩)
  rw [List.isEmpty_eq_false_iff.2 hcomps]
  rfl

theorem segFlush_early {b : Block} (hsooner : b.since b.seg.entered < 1000 * b.get uTango F.TANGO.TIMING_FLUSH_US) :
    b.segFlush = b := by
  unfold segFlush
  split
  · refine if_neg fun h => ?_
    obtain ⟨-, h⟩ := Bool.and_eq_true_iff.1 h
    exact absurd (of_decide_eq_true h) (not_le.2 hsooner)
  · rfl

theorem segStat_open {b : Block} (hcomps : b.seg.comps = []) : b.segStat.get uSeg F.SEG.STAT_OPEN = 0 := by
  unfold segStat
  refine (getI_setI_field _ uSeg 0 (by decide) _).trans ?_
  rw [hcomps]
  exact get_set_same _ uSeg (by decide) 0

end Block

open Block

/-- Settles O48. When a line meets new values unit by unit (log entry 90) and what Tango does in its corners (log entries 55 and
91) are choices of the model. -/
theorem linesGoThroughTango : Obligations.LinesGoThroughTango := by
  intro s dt hup b flush
  refine ⟨fun w rest h1 hout => ⟨fun hfull => ?_, fun hroom => ?_⟩,
    fun h1 hopen => ⟨fun hsooner => ?_, fun hdue r hr hclosed => ?_⟩,
    fun r h1 hnext => ⟨fun hopen => ?_, fun hclosed => ?_⟩, fun r rest w ws h1 hrows hleave hlines => ?_, fun l rest hout => ?_,
    fun q hlast hcomps => ⟨fun hdue => ?_, fun hsooner => ?_⟩⟩
  · refine ⟨b.lookaheadEnter, h1.exec_next (exec_lookaheadEnter ..) ?_, ?_⟩ <;> rw [lookaheadEnter_full hout hfull]
    · exact congrArg commitsSettle (tangoOuts_none (congrArg TangoSt.outq (flag_tango ..)))
    · exact ⟨get_flag_same b (by decide) (by decide) (by decide) (by decide) (by decide) (by decide), flag_stitch ..,
        flag_tango ..⟩
  · obtain ⟨hrest, htango⟩ := lineFetched_spec b w rest
    exact ⟨b.lineFetched w rest, hrest, htango, h1.exec_next (exec_lookaheadEnter ..)
      (congrArg (fun t => (b.tangoOuts t).commitsSettle) (lookaheadEnter_room hout hroom))⟩
  · refine h1.exec_next (exec_tangoFlush ..) (congrArg latResolve ?_)
    rw [tangoFlush_early hsooner]
    exact tangoOuts_none rfl
  · exact ⟨b.lastFlushed r, h1.exec_next (exec_tangoFlush ..)
      (congrArg (fun t => (b.tangoOuts t).latResolve) (tangoFlush_closes hopen hdue hr hclosed)), lastFlushed_spec b r⟩
  · refine h1.exec_next (exec_rowEstimated ..) ?_
    rw [rowEstimated_open hnext hopen]
    exact tangoOuts_none rfl
  · obtain ⟨e, he⟩ := rowEstimated_closed hnext hclosed
    exact ⟨b.rowEstimated, h1.exec_next (exec_rowEstimated ..) rfl, fun x hx => est_of_mem_rowWith (he ▸ hx)⟩
  · exact ⟨b.tangoLineOut, h1.exec_next (exec_tangoLineOut ..) rfl, tangoLineOut_outq hrows hleave hlines⟩
  · exact ⟨b.segLine, hup.exec_next (exec_segLine ..) rfl, segLine_place hout⟩
  · refine ⟨b.segFlush, hup.exec_next (exec_segFlush ..) rfl, ?_⟩
    rw [segFlush_due hlast hcomps hdue]
    exact ⟨rfl, segStat_open rfl⟩
  · exact hup.exec_next (exec_segFlush ..) (congrArg latResolve (segFlush_early hsooner))

end Sys2Proof.Machine

/-! # What goes out on a Sidias link, and flits that come in (R541-R549) -/

namespace Sys2Proof.Machine
namespace Block

/-! ## A link and its ring -/

theorem link_setLink {b : Block} {l : Nat} (hl : l < b.ring.links.length) (f : RingLink → RingLink) :
    (b.setLink l f).link l = f (b.link l) :=
  nth_upd_same f _ _ _ hl

theorem link_congr {b t : Block} (h : t.ring = b.ring) (l : Nat) : t.link l = b.link l := by rw [link, link, h]

theorem linkUp_congr {b t : Block} (h : t.regs = b.regs) (l : Nat) : t.linkUp l = b.linkUp l := by
  rw [linkUp, linkUp, getI_congr h]

theorem links_setLink (b : Block) (l : Nat) (f : RingLink → RingLink) :
    (b.setLink l f).ring.links.length = b.ring.links.length := length_upd ..

/-- What a change of a link leaves of it, it leaves of every link. -/
theorem leaves_setLink {γ : Type} (g : RingLink → γ) (b : Block) (l : Nat) {f : RingLink → RingLink} (hf : ∀ k, g (f k) = g k)
    (j : Nat) : g ((b.setLink l f).link j) = g (b.link j) := by
  by_cases hj : j = l
  · subst hj
    exact nth_upd_keeps g hf _ _ _
  · exact congrArg g (nth_upd_ne f _ _ hj)

/-! ## Messages go out on links -/

/-- `t` is `b` once messages have gone out on links: queues, what waits at the uplink, what left at the balls. -/
structure Sends (b t : Block) : Prop where
  rest : ∃ links uplq out, t = { b with ring := { b.ring with links := links, uplq := uplq }, out := out }
  length : t.ring.links.length = b.ring.links.length
  time : ∀ j, (t.link j).time = (b.link j).time

theorem Sends.refl (b : Block) : b.Sends b := ⟨⟨_, _, _, rfl⟩, rfl, fun _ => rfl⟩

theorem Sends.trans {a b c : Block} (h : a.Sends b) (h' : b.Sends c) : a.Sends c := by
  obtain ⟨⟨_, _, _, hb⟩, hlen, htime⟩ := h
  obtain ⟨⟨_, _, _, hc⟩, hlen', htime'⟩ := h'
  exact ⟨⟨_, _, _, by rw [hc, hb]⟩, hlen'.trans hlen, fun j => (htime' j).trans (htime j)⟩

theorem Sends.regs {b t : Block} (h : b.Sends t) : t.regs = b.regs := by
  obtain ⟨_, _, _, rfl⟩ := h.rest
  rfl

/-- What no link, queue or ball tells. -/
theorem Sends.ring {γ : Type} {b t : Block} (h : b.Sends t) (g : RingSt → γ)
    (hg : ∀ r links uplq, g { r with links := links, uplq := uplq } = g r) : g t.ring = g b.ring := by
  obtain ⟨_, _, _, rfl⟩ := h.rest
  exact hg ..

theorem Sends.setLink (b : Block) (l : Nat) {f : RingLink → RingLink} (hf : ∀ k, (f k).time = k.time) : b.Sends (b.setLink l f) :=
  ⟨⟨_, _, _, rfl⟩, links_setLink .., leaves_setLink RingLink.time b l hf⟩

theorem sends_emit (b : Block) (o : Output) : b.Sends (b.emit o) := ⟨⟨_, _, _, rfl⟩, rfl, fun _ => rfl⟩

/-- A link whose NAK has gone out. -/
def nakSent (k : RingLink) : RingLink := { k with nak := false }

theorem sends_flitOut (b : Block) (l : Nat) (f : Flit) : b.Sends (b.flitOut l f) :=
  (sends_emit b _).trans (Sends.setLink _ l (f := nakSent) fun _ => rfl)

theorem sends_pumpLink (l fuel : Nat) (b : Block) : b.Sends (b.pumpLink l fuel) := by
  induction fuel generalizing b with
  | zero => exact .refl b
  | succ fuel ih =>
    unfold pumpLink
    extract_lets k
    split
    · exact .refl b
    · split
      · exact .refl b
      · refine Sends.trans (Sends.trans ?_ (sends_flitOut _ l _)) (ih _)
        exact Sends.setLink b l fun _ => rfl

theorem sends_linkPut (b : Block) (l : Nat) (m : RingMsg) : b.Sends (b.linkPut l m) := by
  unfold linkPut
  split
  · refine Sends.trans ?_ (sends_pumpLink ..)
    exact Sends.setLink b l fun _ => rfl
  · exact .refl b

theorem sends_linkSend (b : Block) (l : Nat) (m : RingMsg) : b.Sends (b.linkSend l m) := by
  unfold linkSend
  split
  · exact ⟨⟨_, _, _, rfl⟩, rfl, fun _ => rfl⟩
  · exact sends_linkPut ..

theorem pumpLink_uplq (l fuel : Nat) (b : Block) : (b.pumpLink l fuel).ring.uplq = b.ring.uplq := by
  induction fuel generalizing b with
  | zero => rfl
  | succ fuel ih =>
    unfold pumpLink
    extract_lets k
    split
    · rfl
    · split
      · rfl
      · exact ih _

theorem linkPut_uplq (b : Block) (l : Nat) (m : RingMsg) : (b.linkPut l m).ring.uplq = b.ring.uplq := by
  unfold linkPut
  split
  · exact pumpLink_uplq ..
  · rfl

/-! ## Flits (R541-R543) -/

/-- The block with the figures of a flit received on link l counted. -/
def flitCounted (b : Block) (l : Nat) (raw : List Nat) : Block :=
  (List.range 4).foldl (fun s j =>
      s.addI (laneOf (12 + l) j) F.LANE.SYMERR_COUNT 0 ((flitCheck raw).lanes.getD (s.get (laneOf (12 + l) j) F.LANE.STAT_RX_LOGICAL) 0))
    ((b.addI uSerdes F.SERDES.FEC_COR_COUNT (12 + l) (flitCheck raw).symbols).addI uSerdes F.SERDES.FEC_UNC_COUNT (12 + l)
      (flitCheck raw).uncorrectable)

theorem flitCounted_ring (b : Block) (l : Nat) (raw : List Nat) : (b.flitCounted l raw).ring = b.ring := by
  unfold flitCounted
  rw [foldl_keeps Block.ring _ (fun _ _ _ => addI_ring ..), addI_ring, addI_ring]

theorem flitCounted_out (b : Block) (l : Nat) (raw : List Nat) : (b.flitCounted l raw).out = b.out := by
  unfold flitCounted
  rw [foldl_keeps Block.out _ (fun _ _ _ => addI_out ..), addI_out, addI_out]

theorem linkUp_addI_lane (b : Block) {l j : Nat} (hl : l < 3) (hj : j < 4) (n : Nat) :
    (b.addI (laneOf (12 + l) j) F.LANE.SYMERR_COUNT 0 n).linkUp l = b.linkUp l := by
  have hlane : (laneOf (12 + l) j).inst < 256 := by
    show 4 * (12 + l) + j < 256
    omega
  have hport : F.SERDES.PORT_STAT_STATE.at (12 + l) < 0x4000 := by
    show 0x140 + 0x4 * (12 + l) < 0x4000
    omega
  have hne : uSerdes ≠ laneOf (12 + l) j := fun h => UnitType.noConfusion (congrArg UnitId.ty h)
  exact congrArg (· == 8) (getI_of_rd (rd_setI_unit b hne hlane (by decide) (by decide) hport _))

theorem linkUp_addI_port (b : Block) (l : Nat) {f : Field} (hf : F.SERDES.PORT_STAT_STATE.at (12 + l) ≠ f.at (12 + l)) (n : Nat) :
    (b.addI uSerdes f (12 + l) n).linkUp l = b.linkUp l :=
  congrArg (· == 8) (getI_setI_apart b (apart_off _ hf) _)

theorem flitCounted_linkUp (b : Block) {l : Nat} (hl : l < 3) (raw : List Nat) : (b.flitCounted l raw).linkUp l = b.linkUp l := by
  have hcor : F.SERDES.PORT_STAT_STATE.at (12 + l) ≠ F.SERDES.FEC_COR_COUNT.at (12 + l) := by
    show 0x140 + 0x4 * (12 + l) ≠ 0x180 + 0x4 * (12 + l)
    omega
  have hunc : F.SERDES.PORT_STAT_STATE.at (12 + l) ≠ F.SERDES.FEC_UNC_COUNT.at (12 + l) := by
    show 0x140 + 0x4 * (12 + l) ≠ 0x1c0 + 0x4 * (12 + l)
    omega
  unfold flitCounted
  rw [foldl_keeps (fun t : Block => t.linkUp l) _ (fun j hj t => linkUp_addI_lane t hl (List.mem_range.1 hj) _),
    linkUp_addI_port _ l hunc, linkUp_addI_port _ l hcor]

/-- A link whose last flit could not be corrected. -/
def nakDue (k : RingLink) : RingLink := { k with nak := true }

theorem flitReceive_uncorrectable {b : Block} {l : Nat} {raw : List Nat} (hl : l < 3) (hup : b.linkUp l = true)
    (hbad : (flitCheck raw).data = none) : b.flitReceive l raw = ((b.flitCounted l raw).setLink l nakDue).idleOut l := by
  unfold flitReceive
  rw [if_neg (not_or.2 ⟨not_le.2 hl, by rw [hup]; decide⟩)]
  extract_lets c s₁ s₂
  rw [show c.data = none from hbad]
  rfl

theorem flitReceive_data {b : Block} {l : Nat} {raw d : List Nat} (hl : l < 3) (hup : b.linkUp l = true)
    (hgood : (flitCheck raw).data = some d) (hack : bit (leAt d 2 2) 12 = false) :
    b.flitReceive l raw =
      if ((b.flitCounted l raw).ackIn l (leAt d 2 2 % 4096)).linkUp l then
        ((b.flitCounted l raw).ackIn l (leAt d 2 2 % 4096)).flitData l d
      else (b.flitCounted l raw).ackIn l (leAt d 2 2 % 4096) := by
  unfold flitReceive
  rw [if_neg (not_or.2 ⟨not_le.2 hl, by rw [hup]; decide⟩)]
  extract_lets c s₁ s₂
  rw [show c.data = some d from hgood]
  dsimp only
  rw [hack]
  rfl

theorem ackIn_none {b : Block} {l ack : Nat} (hempty : (b.link l).replay = []) : b.ackIn l ack = b := by
  unfold ackIn
  extract_lets k
  rw [show k.replay = [] from hempty]
  rfl

/-- A link with the flits before an acknowledged one and itself freed. -/
def freed (i lt : Nat) (k : RingLink) : RingLink := { k with replay := k.replay.drop (i + 1), progress := lt }

theorem pumpLink_idle {b : Block} {l : Nat} (hidle : (b.link l).queue = []) (fuel : Nat) : b.pumpLink l fuel = b := by
  cases fuel with
  | zero => rfl
  | succ fuel =>
    unfold pumpLink
    extract_lets k
    split
    · rfl
    · rw [show k.queue = [] from hidle]
      rfl

theorem ackIn_some {b : Block} {l ack i : Nat} (hl : l < b.ring.links.length)
    (hfound : (b.link l).replay.findIdx? (fun f => f.seq == ack) = some i) (hidle : (b.link l).queue = []) :
    b.ackIn l ack = b.setLink l (freed i b.lt) := by
  unfold ackIn
  extract_lets k
  rw [show k.replay.findIdx? (fun f => f.seq == ack) = some i from hfound]
  exact pumpLink_idle ((congrArg RingLink.queue (link_setLink hl _)).trans hidle) _

theorem flitData_other {b : Block} {l : Nat} {d : List Nat} (hseq : leAt d 0 2 % 4096 ≠ ((b.link l).rxSeq + 1) % 4096) :
    b.flitData l d = b :=
  if_pos (.inr hseq)

/-- A link with a data part taken in its turn, and the parts of messages then not whole. -/
def partTaken (q : Nat) (parts : List (Nat × Nat × List Nat)) (k : RingLink) : RingLink := { k with rxSeq := q, parts := parts }

theorem flitData_part {b : Block} {l : Nat} {d : List Nat} (hcls : leAt d 4 1 % 8 ≠ 0)
    (hseq : leAt d 0 2 % 4096 = ((b.link l).rxSeq + 1) % 4096) (hpart : bit (leAt d 4 1) 4 = false) :
    ∃ parts, b.flitData l d = (b.setLink l (partTaken (leAt d 0 2 % 4096) parts)).idleOut l := by
  unfold flitData
  extract_lets seq c cls dest pay k so whole rest s
  rw [if_neg (not_or.2 ⟨hcls, not_not.2 hseq⟩), if_neg (by rw [show bit c 4 = false from hpart]; decide)]
  exact ⟨_, rfl⟩

theorem flitData_whole {b : Block} {l : Nat} {d : List Nat} (hcls : leAt d 4 1 % 8 ≠ 0)
    (hseq : leAt d 0 2 % 4096 = ((b.link l).rxSeq + 1) % 4096) (hlast : bit (leAt d 4 1) 4 = true)
    (hfirst : bit (leAt d 4 1) 3 = true) :
    ∃ parts, b.flitData l d = ((b.setLink l (partTaken (leAt d 0 2 % 4096) parts)).idleOut l).messageIn l
      (messageOf (leAt d 4 1 % 8) (leAt d 6 2) ((d.drop 8).take (Nat.min 244 (leAt d 5 1)))) := by
  unfold flitData
  extract_lets seq c cls dest pay k so whole rest s
  rw [if_neg (not_or.2 ⟨hcls, not_not.2 hseq⟩), if_pos hlast]
  have hwhole : whole = pay := if_pos hfirst
  rw [hwhole]
  exact ⟨_, rfl⟩

/-- What an idle flit tells. -/
theorem idleOut_spec {b : Block} {l : Nat} (hl : l < b.ring.links.length) (f : RingLink → RingLink) :
    (((b.setLink l f).idleOut l).link l).rxSeq = (f (b.link l)).rxSeq ∧
      ((b.setLink l f).idleOut l).out =
        .flit l (f (b.link l)).rxSeq (f (b.link l)).nak 0 0 false false 0 [] :: b.out := by
  have hlink := link_setLink hl f
  refine ⟨?_, ?_⟩
  · exact (leaves_setLink RingLink.rxSeq _ l (f := nakSent) (fun _ => rfl) l).trans (congrArg RingLink.rxSeq hlink)
  · show Output.flit l ((b.setLink l f).link l).rxSeq ((b.setLink l f).link l).nak 0 0 false false 0 [] :: b.out = _
    rw [hlink]

section
variable {b : Block} {l : Nat} {raw d : List Nat} (hl : l < 3) (hlinks : l < b.ring.links.length) (hup : b.linkUp l = true)
include hl hlinks hup

/-- A flit that cannot be corrected is answered with NAK (R542). -/
theorem flitReceive_nak (hbad : (flitCheck raw).data = none) :
    ((b.flitReceive l raw).link l).rxSeq = (b.link l).rxSeq ∧
      (b.flitReceive l raw).out = .flit l (b.link l).rxSeq true 0 0 false false 0 [] :: b.out := by
  have hc := flitCounted_ring b l raw
  obtain ⟨hseq, hout⟩ := idleOut_spec (hc.symm ▸ hlinks) (b := b.flitCounted l raw) nakDue
  rw [flitReceive_uncorrectable hl hup hbad, hseq, hout, link_congr hc, flitCounted_out]
  exact ⟨rfl, rfl⟩

section
variable (hgood : (flitCheck raw).data = some d) (hack : bit (leAt d 2 2) 12 = false)
include hgood hack

omit hlinks in
theorem flitReceive_turn (hempty : (b.link l).replay = []) : b.flitReceive l raw = (b.flitCounted l raw).flitData l d := by
  have hc := link_congr (flitCounted_ring b l raw) l
  rw [flitReceive_data hl hup hgood hack, ackIn_none (hc.symm ▸ hempty), flitCounted_linkUp b hl, hup]
  rfl

/-- A flit in its turn is acknowledged with its own number (R542). -/
theorem flitReceive_part (hempty : (b.link l).replay = []) (hcls : leAt d 4 1 % 8 ≠ 0)
    (hseq : leAt d 0 2 % 4096 = ((b.link l).rxSeq + 1) % 4096) (hpart : bit (leAt d 4 1) 4 = false) :
    ((b.flitReceive l raw).link l).rxSeq = leAt d 0 2 % 4096 ∧
      (b.flitReceive l raw).out = .flit l (leAt d 0 2 % 4096) (b.link l).nak 0 0 false false 0 [] :: b.out := by
  have hc := flitCounted_ring b l raw
  obtain ⟨parts, hdata⟩ := flitData_part (b := b.flitCounted l raw) hcls (by rw [link_congr hc]; exact hseq) hpart
  obtain ⟨hrx, hout⟩ := idleOut_spec (hc.symm ▸ hlinks) (b := b.flitCounted l raw) (partTaken (leAt d 0 2 % 4096) parts)
  rw [flitReceive_turn hl hup hgood hack hempty, hdata, hrx, hout, link_congr hc, flitCounted_out]
  exact ⟨rfl, rfl⟩

/-- The message of a flit in its turn that is whole is taken (R546). -/
theorem flitReceive_whole (hempty : (b.link l).replay = []) (hcls : leAt d 4 1 % 8 ≠ 0)
    (hseq : leAt d 0 2 % 4096 = ((b.link l).rxSeq + 1) % 4096) (hlast : bit (leAt d 4 1) 4 = true)
    (hfirst : bit (leAt d 4 1) 3 = true) :
    ∃ t : Block, b.flitReceive l raw =
        t.messageIn l (messageOf (leAt d 4 1 % 8) (leAt d 6 2) ((d.drop 8).take (Nat.min 244 (leAt d 5 1)))) ∧
      (t.link l).rxSeq = leAt d 0 2 % 4096 ∧
      t.out = .flit l (leAt d 0 2 % 4096) (b.link l).nak 0 0 false false 0 [] :: b.out := by
  have hc := flitCounted_ring b l raw
  obtain ⟨parts, hdata⟩ := flitData_whole (b := b.flitCounted l raw) hcls (by rw [link_congr hc]; exact hseq) hlast hfirst
  obtain ⟨hrx, hout⟩ := idleOut_spec (hc.symm ▸ hlinks) (b := b.flitCounted l raw) (partTaken (leAt d 0 2 % 4096) parts)
  rw [link_congr hc, flitCounted_out] at hout
  exact ⟨_, (flitReceive_turn hl hup hgood hack hempty).trans hdata, hrx, hout⟩

/-- An ACK frees the replay buffer (R542). -/
theorem flitReceive_ack {i : Nat} (hfound : (b.link l).replay.findIdx? (fun f => f.seq == leAt d 2 2 % 4096) = some i)
    (hidle : (b.link l).queue = []) (hseq : leAt d 0 2 % 4096 ≠ ((b.link l).rxSeq + 1) % 4096) :
    ((b.flitReceive l raw).link l).replay = (b.link l).replay.drop (i + 1) ∧
      ((b.flitReceive l raw).link l).rxSeq = (b.link l).rxSeq ∧ (b.flitReceive l raw).out = b.out := by
  have hring := flitCounted_ring b l raw
  have hout := flitCounted_out b l raw
  have hup' := (flitCounted_linkUp b hl raw).trans hup
  rw [flitReceive_data hl hup hgood hack]
  generalize b.flitCounted l raw = c at hring hout hup' ⊢
  have hlink : c.link l = b.link l := link_congr hring l
  have hlen : l < c.ring.links.length := hring.symm ▸ hlinks
  have hfreed := link_setLink hlen (freed i c.lt)
  have hstays : (c.setLink l (freed i c.lt)).linkUp l = true := hup'
  rw [ackIn_some hlen (hlink.symm ▸ hfound) (hlink.symm ▸ hidle), if_pos hstays, flitData_other (by rw [hfreed, hlink]; exact hseq),
    hfreed, hlink]
  exact ⟨rfl, rfl, hout⟩

end
end

end Block
end Sys2Proof.Machine

/-! # What the messages of the ring do at a member (R546-R572) -/

namespace Sys2Proof.Machine
namespace Block

/-! ## Messages taken here (R546, R562) -/

theorem messageIn_taken {b : Block} {l : Nat} {m : RingMsg} (htakes : b.linkTakes l m.typ = true)
    (hclass : (ringClass m.typ).isNone = false) (hpass : b.passage l m = ⟨true, [], false⟩) : b.messageIn l m = b.deliver l m := by
  unfold messageIn
  rw [htakes, hclass, hpass]
  rfl

theorem linkTakes_used {b : Block} {l : Nat} (hl : l < 3) (hup : b.linkUp l = true) (hused : (b.link l).used = true) (typ : Nat) :
    b.linkTakes l typ = true := by
  rw [linkTakes, hup, hused, decide_eq_true hl, Bool.or_true]
  rfl

/-- A denied or unidentified link takes IDENT (R552). -/
theorem linkTakes_ident {b : Block} {l : Nat} (hl : l < 3) (hup : b.linkUp l = true) : b.linkTakes l 0x08 = true := by
  rw [linkTakes, hup, decide_eq_true hl]
  rfl

/-- A message that goes from device to device. -/
theorem typedIn_link {b : Block} {l typ : Nat} (htakes : b.linkTakes l typ = true) (htyp : [1, 2, 3, 4, 7, 8].contains typ = true)
    (hclass : (ringClass typ).isNone = false) (src dest : Nat) (body : List Nat) :
    b.typedIn l typ src dest body = b.deliver l ⟨(ringClass typ).getD 0, dest, typ, src % 0x4000, body⟩ :=
  messageIn_taken htakes hclass (if_pos htyp)

/-- A message to this device. -/
theorem typedIn_here {b : Block} {l typ dest : Nat} (htakes : b.linkTakes l typ = true)
    (hclass : (ringClass typ).isNone = false) (hdest : dest = b.devAddr) (hlt : b.devAddr < 0x4000) (src : Nat) (body : List Nat) :
    b.typedIn l typ src dest body = b.deliver l ⟨(ringClass typ).getD 0, dest, typ, src % 0x4000, body⟩ := by
  refine messageIn_taken htakes hclass ?_
  subst hdest
  unfold passage
  dsimp only
  rw [Nat.div_eq_of_lt hlt, if_pos (Nat.mod_eq_of_lt hlt)]
  split_ifs <;> rfl

/-! ## Reel (R547-R549) -/

/-- The lap of Reel this device starts next and the one it saw last. -/
def laps (b : Block) : Nat × Option Nat := (b.ring.lap, b.ring.lapSeen)

theorem sendOn_laps (b : Block) (m : RingMsg) : (b.sendOn m).laps = b.laps := by
  unfold sendOn
  split
  · next l _ => exact (sends_linkSend b l m).ring (fun r => (r.lap, r.lapSeen)) fun _ _ _ => rfl
  · rfl

theorem freeSpace_laps (b : Block) (m : RingMsg) : (b.freeSpace m).laps = b.laps := by
  unfold freeSpace
  extract_lets up c n
  split <;> rfl

theorem goOut_laps (b : Block) (go : List RingMsg) : (b.goOut go).laps = b.laps :=
  foldl_keeps laps _ (fun m _ t => (sendOn_laps (t.freeSpace m) m).trans (freeSpace_laps t m)) b

theorem reelTake_laps (b : Block) (i : Nat) (e : Nat × Nat × Nat) : (b.reelTake i e).2.laps = b.laps := by
  unfold reelTake
  split
  next left go stay _ =>
  exact (goOut_laps _ go).trans rfl

/-- What one destination's entry does to the entries and the block, the member's own left alone. -/
def reelEach (p : Nat) (acc : List (Nat × Nat × Nat) × Block) (i : Nat) : List (Nat × Nat × Nat) × Block :=
  if i = p then acc
  else (upd acc.1 i fun _ => (acc.2.reelTake i (acc.1.getD i (0, 0, 0))).1, (acc.2.reelTake i (acc.1.getD i (0, 0, 0))).2)

theorem reelEach_laps (p i : Nat) (acc : List (Nat × Nat × Nat) × Block) : (reelEach p acc i).2.laps = acc.2.laps := by
  unfold reelEach
  split
  · rfl
  · exact reelTake_laps ..

theorem reelEach_length (p i : Nat) (acc : List (Nat × Nat × Nat) × Block) : (reelEach p acc i).1.length = acc.1.length := by
  unfold reelEach
  split
  · rfl
  · exact length_upd ..

/-- Entries and block once every destination's entry has been taken from. -/
def reelTaken (b : Block) (es : List (Nat × Nat × Nat)) : List (Nat × Nat × Nat) × Block :=
  (List.range es.length).foldl (reelEach b.ringPos) (es, b)

theorem reelAct_eq (b : Block) (es : List (Nat × Nat × Nat)) :
    b.reelAct es = (upd (b.reelTaken es).1 b.ringPos fun e => (e.1 + (b.reelTaken es).2.ring.credit.freedB,
        e.2.1 + (b.reelTaken es).2.ring.credit.freedC, Nat.min 8 (e.2.2 + (b.reelTaken es).2.ring.credit.mbxGranted)),
      { (b.reelTaken es).2 with ring := { (b.reelTaken es).2.ring with
        credit := { (b.reelTaken es).2.ring.credit with freedB := 0, freedC := 0, mbxGranted := 0 } } }) := rfl

/-- A member acts on the REEL message: entries, laps, what it had freed. -/
theorem reelAct_spec (b : Block) (es : List (Nat × Nat × Nat)) :
    (b.reelAct es).1.length = es.length ∧ (b.reelAct es).2.laps = b.laps ∧ (b.reelAct es).2.ring.credit.freedB = 0 ∧
      (b.reelAct es).2.ring.credit.freedC = 0 := by
  rw [reelAct_eq]
  refine ⟨(length_upd ..).trans ?_, ?_, rfl, rfl⟩
  · exact foldl_keeps (fun acc : List (Nat × Nat × Nat) × Block => acc.1.length) _ (fun i _ acc => reelEach_length _ i acc) (es, b)
  · exact foldl_keeps (fun acc : List (Nat × Nat × Nat) × Block => acc.2.laps) _ (fun i _ acc => reelEach_laps _ i acc) (es, b)

/-- The merging device as it starts a lap. -/
def lapBegun (b : Block) : Block :=
  { b with ring := { b.ring with
    lap := (b.ring.lap + 1) % 0x10000, reelOut := decide (1 < pop32 b.ringLive), reelDue := false, lapSeen := some b.ring.lap } }

/-- The merging device with a lap's entries, once it has acted on them. -/
def lapActed (b : Block) : Block :=
  { (b.lapBegun.reelAct b.ring.reel).2 with ring := { (b.lapBegun.reelAct b.ring.reel).2.ring with
    reel := (b.lapBegun.reelAct b.ring.reel).1 } }

theorem reelStart_home {b : Block} (hrun : b.ringState = 3) (hmerge : b.isMerge1 = true) (hhome : b.ring.reelOut = false) :
    b.reelStart = b.lapActed.reelOn false b.ring.lap (b.lapBegun.reelAct b.ring.reel).1 := by
  unfold reelStart
  rw [if_pos (Bool.and_eq_true_iff.2 ⟨decide_eq_true hrun, hmerge⟩), if_neg (by rw [hhome]; decide)]
  rfl

theorem lapActed_spec (b : Block) : b.lapActed.ring.lap = (b.ring.lap + 1) % 0x10000 ∧
    b.lapActed.ring.reel = (b.lapBegun.reelAct b.ring.reel).1 ∧ b.lapActed.ring.lapSeen = some b.ring.lap := by
  obtain ⟨-, hlaps, -, -⟩ := reelAct_spec b.lapBegun b.ring.reel
  exact ⟨congrArg Prod.fst hlaps, rfl, congrArg Prod.snd hlaps⟩

/-- The merging device notes that a lap is due. -/
def lapDue (b : Block) : Block := { b with ring := { b.ring with reelDue := true } }

theorem reelStart_out {b : Block} (hrun : b.ringState = 3) (hmerge : b.isMerge1 = true) (hout : b.ring.reelOut = true) :
    b.reelStart = b.lapDue := by
  unfold reelStart
  rw [if_pos (Bool.and_eq_true_iff.2 ⟨decide_eq_true hrun, hmerge⟩)]
  exact if_pos hout

section
variable {b : Block} {l : Nat} {m : RingMsg} (hrun : b.ringState = 3) (hl : l ≠ 2)
  (hepoch : leAt m.body 2 2 = b.get uRing F.RING.ENUM_EPOCH)
include hrun hl hepoch

theorem reelIn_seen (hmerge : b.isMerge1 = false) (hseen : b.ring.lapSeen = some (leAt m.body 0 2)) :
    b.reelIn l m = b.reelOn (l == 1) (leAt m.body 0 2) (reelEntries m.body b.ringSize) := by
  unfold reelIn
  rw [if_neg (by rw [hrun, hepoch]; tauto), hmerge]
  exact if_pos hseen

/-- The member has seen a lap. -/
def lapMet (b : Block) (lap : Nat) : Block := { b with ring := { b.ring with lapSeen := some lap } }

theorem reelIn_new (hmerge : b.isMerge1 = false) (hseen : b.ring.lapSeen ≠ some (leAt m.body 0 2)) :
    b.reelIn l m = ((b.lapMet (leAt m.body 0 2)).reelAct (reelEntries m.body b.ringSize)).2.reelOn (l == 1) (leAt m.body 0 2)
      ((b.lapMet (leAt m.body 0 2)).reelAct (reelEntries m.body b.ringSize)).1 := by
  unfold reelIn
  rw [if_neg (by rw [hrun, hepoch]; tauto), hmerge]
  exact if_neg hseen

/-- A lap has come home. -/
def lapHome (b : Block) (es : List (Nat × Nat × Nat)) : Block := { b with ring := { b.ring with reel := es, reelOut := false } }

theorem reelIn_home (hmerge : b.isMerge1 = true) (hwest : l = 0) (hdue : b.ring.reelDue = false) :
    b.reelIn l m = b.lapHome (reelEntries m.body b.ringSize) := by
  unfold reelIn
  rw [if_neg (by rw [hrun, hepoch]; tauto), hmerge, hwest]
  exact if_neg (ne_true_of_eq_false hdue)

end

theorem length_reelEntries (b : List Nat) (n : Nat) : (reelEntries b n).length = n :=
  (List.length_map ..).trans List.length_range

/-! ## The credits of the uplink (R549) -/

/-- The gateway's block, what it freed for the far side told. -/
def uplTold (b : Block) : Block := { b with ring := { b.ring with credit := { b.ring.credit with uplB := 0, uplC := 0 } } }

theorem uplCreditSend_used {b : Block} (hused : b.usedLink 2 = true) :
    ∃ t : Block, b.Sends t ∧ b.uplCreditSend = t.uplTold :=
  ⟨_, sends_linkSend b 2 _, if_pos hused⟩

/-- The gateway's block with new credits of the far side, nothing waiting for them. -/
def uplHeld (b : Block) (body : List Nat) : Block :=
  { b with ring := { b.ring with waiting := [], credit := { b.ring.credit with
    heldB := bindK 32 (lookupD 32 0 b.ring.credit.heldB + leAt body 0 2) b.ring.credit.heldB
    heldC := bindK 32 (lookupD 32 0 b.ring.credit.heldC + leAt body 2 2) b.ring.credit.heldC } } }

theorem uplCreditIn_idle {b : Block} (hidle : b.ring.waiting = []) (body : List Nat) :
    b.uplCreditIn body = (b.uplHeld body).uplRelease (leAt body 4 1) := by
  have hspend (x y z : Nat) : b.spend b.ringPos x y z = ((x, y, z), [], []) := by
    unfold spend
    rw [hidle]
    rfl
  unfold uplCreditIn
  extract_lets c
  rw [hspend]
  rfl

theorem sends_foldl {α : Type} {f : Block → α → Block} (hf : ∀ (t : Block) a, t.Sends (f t a)) (l : List α) (b : Block) :
    b.Sends (l.foldl f b) := by
  induction l generalizing b with
  | nil => exact .refl b
  | cons a l ih => exact (hf b a).trans (ih _)

/-- The block with what has a slot no longer waiting at the uplink. -/
def uplServed (b : Block) (slots : Nat) : Block := { b with ring := { b.ring with uplq := b.ring.uplq.drop slots } }

theorem sends_uplServed (b : Block) (slots : Nat) : b.Sends (b.uplServed slots) := ⟨⟨_, _, _, rfl⟩, rfl, fun _ => rfl⟩

theorem uplRelease_spec (b : Block) (slots : Nat) :
    b.Sends (b.uplRelease slots) ∧ (b.uplRelease slots).ring.uplq = b.ring.uplq.drop slots :=
  ⟨(sends_uplServed b slots).trans (sends_foldl (fun t m => sends_linkPut t 2 m) _ _),
    foldl_keeps (fun t : Block => t.ring.uplq) _ (fun m _ t => linkPut_uplq t 2 m) (b.uplServed slots)⟩

theorem lookupD_bindK {α : Type} (k : Nat) (v d : α) : ∀ l : List (Nat × α), lookupD k d (bindK k v l) = v
  | [] => if_pos rfl
  | (j, w) :: r => by
    rw [bindK]
    split
    · exact if_pos rfl
    · next h => rw [lookupD, if_neg h, lookupD_bindK k v d r]

end Block
end Sys2Proof.Machine

/-! # Identification, enumeration, time, position and groups of the ring (R543-R572) -/

namespace Sys2Proof.Machine
namespace Block

theorem on_set_b2n (b : Block) (u : UnitId) {f : Field} (hf : f.lo ≤ f.hi ∧ f.hi < 32) (hw : f.width = 1) (v : Bool) :
    (b.set u f (b2n v)).on u f = v := by
  rw [on_eq, get_set_same b u hf, hw]
  cases v <;> rfl

theorem on_of_get {b : Block} {u : UnitId} {f : Field} (h : b.get u f = 1) : b.on u f = true := by
  rw [on_eq, h]
  rfl

/-! ## A link fails (R543) -/

/-- A link's failure counted and shown. -/
def failCounted (b : Block) : Block := (b.inc uRing F.RING.CNT_LINK_FAIL_COUNT).flag uRing F.RING.FLAGS_LINK_FAIL

theorem linkFail_failing {b : Block} {l : Nat} (hl : l < 3) (hup : b.linkUp l = true) (hfail : b.linkFailing l = true) :
    b.linkFail l = b.failCounted.portGo (12 + l) 9 :=
  if_pos ⟨hl, hup, hfail⟩

theorem failCounted_spec (b : Block) : b.failCounted.on uRing F.RING.FLAGS_LINK_FAIL = true ∧
    b.failCounted.get uRing F.RING.CNT_LINK_FAIL_COUNT =
      satAdd F.RING.CNT_LINK_FAIL_COUNT.max (b.get uRing F.RING.CNT_LINK_FAIL_COUNT) 1 :=
  ⟨on_of_get (on_flag _ (by decide) (by decide) (by decide) (by decide) (by decide) (by decide)),
    (getI_flag _ (by decide) (by decide) (by decide) (by decide) (by decide)).trans (get_addI b uRing (by decide) 1)⟩

/-! ## Identification (R552, R553, R572) -/

/-- What an IDENT tells. -/
def identOf (b : List Nat) : Ident :=
  ⟨leAt b 0 8, leAt b 8 1 % 4, leAt b 9 1, leAt b 10 1, leAt b 11 1, leAt b 12 1, leAt b 13 1,
    leAt b 14 1, leAt b 15 1, leAt b 16 2, leAt b 18 1, leAt b 19 1⟩

/-- A link identified, its use settled. -/
def identified (i : Ident) (used : Bool) (k : RingLink) : RingLink := { k with ident := some i, denied := !used, used := used }

theorem identIn_uplink (b : Block) (body : List Nat) :
    b.identIn 2 body = (b.setLink 2 (identified (identOf body) (b.uplinkOk (identOf body)))).set uRing F.RING.LINKS_UPL_USED
      (b2n (b.uplinkOk (identOf body))) := rfl

theorem identCheck_ring (b : Block) (l : Nat) (i : Ident) : (b.identCheck l i).2.ring = b.ring := by
  unfold identCheck
  extract_lets same n dark s
  split_ifs
  · exact flag_ring ..
  · exact flag_ring ..
  · rfl

/-- The neighbour's address shown. -/
def neighShown (b : Block) (l : Nat) (i : Ident) : Block :=
  if l = 0 then (b.set uRing F.RING.NEIGH_WEST (i.pos3 * 1024 + i.pos2 * 32 + i.pos)).set uRing F.RING.NEIGH_W_VALID 1
  else (b.set uRing F.RING.NEIGH_EAST (i.pos3 * 1024 + i.pos2 * 32 + i.pos)).set uRing F.RING.NEIGH_E_VALID 1

theorem neighShown_ring (b : Block) (l : Nat) (i : Ident) : (b.neighShown l i).ring = b.ring := by
  unfold neighShown
  split <;> rfl

/-- The field that shows whether a link of the ring is used. -/
def usedField (l : Nat) : Field := if l = 0 then F.RING.LINKS_WEST_USED else F.RING.LINKS_EAST_USED

theorem usedField_bits (l : Nat) : ((usedField l).lo ≤ (usedField l).hi ∧ (usedField l).hi < 32) ∧ (usedField l).width = 1 := by
  unfold usedField
  split <;> decide

theorem identIn_again {b : Block} {l : Nat} {body : List Nat} (hl : l ≠ 2) (hident : (b.link l).ident.isSome = true) :
    ∃ (t : Block) (used : Bool), t.ring = b.ring ∧
      b.identIn l body = (t.setLink l (identified (identOf body) used)).set uRing (usedField l) (b2n used) := by
  refine ⟨((b.neighShown l (identOf body)).identCheck l (identOf body)).2,
    !((b.neighShown l (identOf body)).identCheck l (identOf body)).1, (identCheck_ring ..).trans (neighShown_ring ..), ?_⟩
  unfold identIn
  extract_lets i first
  rw [if_neg hl]
  have hfirst : first = false := by
    show (b.link l).ident.isNone = false
    rw [Option.isNone_eq_false_iff]
    exact hident
  rw [hfirst]
  unfold identified
  rw [Bool.not_not]
  rfl

/-- A link whose IDENT has gone out. -/
def identSent (lt : Nat) (k : RingLink) : RingLink := { k with identAt := lt }

theorem identResend_due {b : Block} {l : Nat} (hl : l < 3) (hup : b.linkUp l = true) (hnone : (b.link l).ident = none)
    (hdue : 100000 ≤ b.since (b.link l).identAt) : ∃ t : Block, b.Sends t ∧ b.identResend l = t.setLink l (identSent b.lt) := by
  refine ⟨_, sends_linkSend b l ⟨1, b.devAddr, 8, b.devAddr, b.identBody l⟩, if_pos ⟨hl, hup, .inl ?_, hdue⟩⟩
  show (b.link l).ident.isNone = true
  rw [hnone]
  rfl

/-! ## Enumeration (R550-R559) -/

theorem linkUp_set_ring (b : Block) (f : Field) (v l : Nat) (hl : l < 3) (hf : f.at 0 < 0x4000) :
    (b.set uRing f v).linkUp l = b.linkUp l := by
  refine congrArg (· == 8) (getI_of_rd (rd_setI_unit b (by decide) (by decide) (by decide) hf ?_ v))
  show 0x140 + 0x4 * (12 + l) < 0x4000
  omega

theorem enumIn_passes {b : Block} {l : Nat} {m : RingMsg} (hl : l < 2) (hrun : b.ringState = 3)
    (hlevel : bits (leAt m.body 4 1) 3 2 = 1) (hother : leAt m.body 2 2 % 0x4000 ≠ b.devAddr) (htyp : m.typ = 2) :
    ∃ (t : Block) (k : Nat) (m' : RingMsg), b.enumIn l m = t.linkSend k m' ∧ t.ringState = 2 ∧ t.ring.sent = true ∧ m'.typ = 2 ∧
      k = if b.usedLink (1 - l) = true then 1 - l else l := by
  have hback : (if l = 0 then 1 else 0) = 1 - l := by
    split <;> omega
  unfold enumIn
  extract_lets epoch ini fl es newer _ s₁ _ seen s₂ _ s₄ back es' k
  rw [if_neg (not_not.2 hlevel), if_neg hother]
  have h₄ : s₄ = { s₂ with ring := { s₂.ring with sent := true, seen := seen } } := if_pos hrun
  have hstate : s₄.ringState = 2 := by
    rw [h₄]
    exact get_set_same s₁ uRing (by decide) 2
  have hk : k = 1 - l := hback
  have hused : s₄.usedLink (1 - l) = b.usedLink (1 - l) := by
    rw [h₄]
    exact congrArg (· && (b.link (1 - l)).used) (linkUp_set_ring s₁ _ 2 _ (by omega) (by decide))
  have hsent : s₄.ring.sent = true := by
    rw [h₄]
  rw [if_neg (not_not.2 hstate), hk, hused]
  split
  · exact ⟨_, _, _, rfl, hstate, hsent, htyp, rfl⟩
  · exact ⟨_, _, _, rfl, hstate, hsent, htyp, rfl⟩

theorem enumSend_sent (b : Block) : b.enumSend.ring.sent = true ∧ b.enumSend.ring.epochSeen = (b.ring.epochSeen + 1) % 0x10000 := by
  unfold enumSend
  extract_lets epoch own half _ s
  have hhalf (t : Block) (l : Nat) (w : Bool) :
      ((half t l w).ring.sent, (half t l w).ring.epochSeen) = (t.ring.sent, t.ring.epochSeen) := by
    unfold half
    split
    · exact (sends_linkSend ..).ring (fun r => (r.sent, r.epochSeen)) fun _ _ _ => rfl
    · rfl
  have hall := (hhalf (half s 1 false) 0 true).trans (hhalf s 1 false)
  exact ⟨congrArg Prod.fst hall, congrArg Prod.snd hall⟩

theorem enumCutoff_due {b : Block} {x : Nat} (hhold : b.ring.holdFrom = some x) (henum : b.ringState = 2)
    (hsent : b.ring.sent = false) (hins : b.ring.inserting = false) (hdue : 1200000 ≤ b.since x) :
    b.enumCutoff = b.enumSend.enumFinish := by
  unfold enumCutoff
  rw [hhold]
  dsimp only
  rw [henum, hsent, hins, decide_eq_false (not_lt.2 hdue)]
  rfl

theorem resultIn_newer {b : Block} {l : Nat} {m : RingMsg} (hrun : b.ringState = 3) (hlevel : (resultOf m.body).level = 1)
    (hlive : bit (resultOf m.body).live b.ringPos = true)
    (hnewer : resultNewer (resultOf m.body) (b.ringResult 1) = true) (hother : m.src ≠ b.devAddr) :
    ∃ t : Block, b.Sends t ∧ b.resultIn l m = t.adopt (resultOf m.body) := by
  unfold resultIn
  extract_lets r _ k s
  have hs : b.Sends s := by
    unfold s
    split
    · exact sends_linkSend ..
    · exact .refl b
  refine ⟨s, hs, (if_neg (not_not.2 hlevel)).trans (if_pos ?_)⟩
  rw [hrun, show bit r.live b.ringPos = true from hlive, show resultNewer r (b.ringResult 1) = true from hnewer,
    bne_iff_ne.2 hother]
  rfl

/-- No retry is due any more. -/
def retryOver (b : Block) : Block := { b with ring := { b.ring with retryFrom := none } }

theorem insertRetry_due {b : Block} {x : Nat} (hretry : b.ring.retryFrom = some x)
    (hdue : b.get uRing F.RING.TIMING_RETRY_S * 1000000000 ≤ b.since x) : b.insertRetry = b.retryOver.ringTryInsert := by
  unfold insertRetry
  rw [hretry]
  exact if_pos hdue

/-! ## Time (R569) -/

/-- A link with a TIME exchange begun. -/
def exchanging (q t1 : Nat) (k : RingLink) : RingLink := { k with time := { k.time with seq := q, t1 := t1, t4 := 0 } }

theorem timeExchange_used {b : Block} {l : Nat} (hl : l < 3) (hused : b.usedLink l = true) :
    (b.setLink l (exchanging (((b.link l).time.seq + 1) % 256) b.txStamp16)).Sends (b.timeExchange l) := by
  unfold timeExchange
  rw [if_pos ⟨hl, hused⟩]
  exact (sends_linkSend _ l _).trans (sends_linkSend _ l _)

/-- A link with the instant of the first answer of its TIME exchange. -/
def answeredAt (t4 : Nat) (k : RingLink) : RingLink := { k with time := { k.time with t4 := t4 } }

theorem answeredAt_t4 (t4 : Nat) (k : RingLink) : (answeredAt t4 k).time.t4 = t4 := rfl

theorem timeIn_request {b : Block} {l : Nat} {body : List Nat} (hkind : leAt body 0 1 = 0) :
    b.timeIn l body = (b.timeSend l (timeBody 2 (leAt body 1 1) 0 0)).timeSend l
      (timeBody 3 (leAt body 1 1) (b.rxStamp16 % 2 ^ 80) b.txStamp16) := by
  unfold timeIn
  rw [hkind]
  rfl

theorem timeIn_answer {b : Block} {l : Nat} {body : List Nat} (hkind : leAt body 0 1 = 2)
    (hseq : leAt body 1 1 = (b.link l).time.seq) : b.timeIn l body = b.setLink l (answeredAt (b.rxStamp16 % 2 ^ 80)) := by
  unfold timeIn
  rw [hkind]
  exact if_pos hseq

/-! ## Beacons and accesses of other devices (R564, R571, R572) -/

theorem beaconSend_merging {b : Block} (hvalid : b.on uRing F.RING.MERGE_1_VALID = true) (hmerge : b.systemMerge = b.devAddr) :
    b.beaconSend = b.broadcast b.topScope 6
      (le 4 (b.get uTag F.TAG.SEQ_VALUE) ++ le 2 (b.get uRing F.RING.ENUM_EPOCH) ++ [0, 0]) :=
  if_pos (Bool.and_eq_true_iff.2 ⟨hvalid, beq_iff_eq.2 hmerge⟩)

theorem beaconIn_newer {b : Block} {body : List Nat}
    (hnewer : (leAt body 0 4 + 2 ^ 32 - b.get uRing F.RING.SEQ_SEEN_SEQ) % 2 ^ 32 < 2 ^ 31) :
    b.beaconIn body = b.set uRing F.RING.SEQ_SEEN_SEQ (leAt body 0 4) := if_pos hnewer

/-- The inter-device inbox with a message more. -/
def peerHeld (b : Block) (p : PeerMsg) : Block := { b with ring := { b.ring with inbox := b.ring.inbox ++ [p] } }

/-- A message of another device's firmware. -/
def peerOf (src : Nat) (body : List Nat) : PeerMsg :=
  ⟨src, leAt body 0 2, leAt body 4 4, (List.range ((body.length - 8) / 4)).map fun i => leAt body (8 + 4 * i) 4⟩

theorem mailboxIn_room {b : Block} (hroom : b.ring.inbox.length < 8) (src : Nat) (body : List Nat) :
    b.mailboxIn src body = (b.peerHeld (peerOf src body)).takePeers := if_pos hroom

theorem sysReq_read {b : Block} {body : List Nat} (hread : bit (leAt body 1 1) 0 = false) (src : Nat) :
    b.sysReq src body = (b.busRead .other src (leAt body 4 8 % 2 ^ 24)).2.sendService src 0x23
      ([leAt body 0 1, b2n (b.shutAt (leAt body 4 8 % 2 ^ 24)), 0, 0] ++
        le 4 (b.busRead .other src (leAt body 4 8 % 2 ^ 24)).1) :=
  if_neg (ne_true_of_eq_false hread)

theorem sysReq_write {b : Block} {body : List Nat} (hwrite : bit (leAt body 1 1) 0 = true) (src : Nat) :
    b.sysReq src body = (b.busWrite .other src (leAt body 4 8 % 2 ^ 24) (leAt body 12 4)).sendService src 0x23
      ([leAt body 0 1, if b.writeRefused .other (leAt body 4 8 % 2 ^ 24) then 2 else 0, 0, 0] ++ le 4 0) :=
  if_pos hwrite

theorem remoteAnswer_found {b : Block} {bulk : Bool} {tag : Nat} {r : RemoteAcc}
    (hfound : b.ring.remote.find? (fun r => r.tag == tag && r.bulk == bulk && b.outstanding r.access) = some r) (status : Nat)
    (data : List Nat) : b.remoteAnswer bulk tag status data = b.dmaFinish r.access (status != 0) data := by
  unfold remoteAnswer
  rw [hfound]

theorem bulkRead_length (src : Nat) : ∀ (n addr : Nat) (b : Block), (b.bulkRead src addr n).1.length = 4 * n
  | 0, _, _ => rfl
  | n + 1, addr, b => by
    have hrest := bulkRead_length src n (addr + 4) (b.busRead .other src addr).2
    show (le 4 (b.busRead .other src addr).1 ++ ((b.busRead .other src addr).2.bulkRead src (addr + 4) n).1).length = _
    rw [List.length_append, hrest, length_le]
    omega

section
variable {b : Block} {l : Nat} {m : RingMsg}

/-- A BULK message of Class B or C. -/
def bulkMsg (c : Bool) (src dest : Nat) (body : List Nat) : RingMsg :=
  ⟨if c then 6 else 5, dest, if c then 0x31 else 0x30, src % 0x4000, body⟩

theorem bulkIn_read (hop : leAt m.body 1 1 = 0) : ∃ (t : Block) (d : List Nat) (bad : Bool),
    b.bulkIn l m = t.sendBulk m.cls m.src (bulkBody (leAt m.body 0 1) 2 (b2n bad) d.length (leAt m.body 8 8 % 2 ^ 38) d) ∧
      d.length = 4 * Nat.min (leAt m.body 4 4 / 4) 4090 := by
  unfold bulkIn
  extract_lets body tag n addr here s
  rw [show leAt body 1 1 = 0 from hop]
  exact ⟨_, _, _, rfl, bulkRead_length ..⟩

theorem bulkIn_write (hop : leAt m.body 1 1 = 1) : ∃ (t : Block) (bad : Bool),
    b.bulkIn l m = t.sendBulk m.cls m.src (bulkBody (leAt m.body 0 1) 3 (if bad then 2 else 0) (4 * (leAt m.body 4 4 / 4))
      (leAt m.body 8 8 % 2 ^ 38) []) := by
  unfold bulkIn
  extract_lets body tag n addr here s
  rw [show leAt body 1 1 = 1 from hop]
  exact ⟨_, _, rfl⟩

theorem bulkIn_answer (hop : leAt m.body 1 1 = 2) : b.bulkIn l m =
    (b.bulkFreed l m.cls (units m)).remoteAnswer true (leAt m.body 0 1) (leAt m.body 2 1) (m.body.drop 16) := by
  unfold bulkIn
  extract_lets body tag n addr here s
  rw [show leAt body 1 1 = 2 from hop]
  rfl

end

theorem deliver_beacon {b t : Block} {m : RingMsg} (h : m.typ = 0x06) (ht : b.beaconIn m.body = t) (l : Nat) :
    b.deliver l m = t := by
  unfold deliver
  rw [ht, h]
  rfl

/-! ## Groups (R47, R570) -/

/-- The groups of a ring with another one. -/
def groupHeld (b : Block) (g : RingGroup) : Block := { b with ring := { b.ring with groups := b.ring.groups ++ [g] } }

/-- The group a COMMIT_GROUP message brings to a window. -/
def groupOf (k src : Nat) (b : List Nat) : RingGroup :=
  ⟨k, Boundary.ofCode (leAt b 2 1), leAt b 3 1, leAt b 4 4,
    entriesOf ((List.range (3 * leAt b 8 2)).map fun i => leAt b (12 + 4 * i) 4), src, false, false, false, false⟩

section
variable {b : Block} {k : Nat} {body : List Nat} (hk : k = leAt body 0 2 % 1024 - 0x3FC) (hlo : 1 ≤ k) (hhi : k ≤ 3)
include hk hlo hhi

theorem groupIn_joins (hset : bit (leAt body 10 1) 0 = false)
    (hopen : (b.ring.groups.all fun g => g.window != k || !(g.applied || g.dropped)) = true) (src : Nat) :
    b.groupIn src body = (b.groupHeld (groupOf k src body)).groupTry (groupOf k src body) := by
  have hover : (b.ring.groups.filter fun g => g.window == k && (g.applied || g.dropped)) = [] := by
    refine List.filter_eq_nil_iff.2 fun g hg h => ?_
    obtain ⟨hw, hend⟩ := Bool.and_eq_true_iff.1 h
    have hg := List.all_eq_true.1 hopen g hg
    rw [hend, bne, hw] at hg
    exact absurd hg (by decide)
  have hsuper : b.groupSuperseded k (leAt body 3 1) src = b := by
    rw [groupSuperseded, hover]
    rfl
  unfold groupIn
  rw [← hk]
  extract_lets _ tag page answer _ es g s
  rw [if_neg (by omega), if_neg (ne_true_of_eq_false hset)]
  show (s.groupHeld g).groupTry g = _
  rw [show s = b from hsuper]
  rfl

theorem groupIn_unknown {src : Nat} (hset : bit (leAt body 10 1) 0 = true)
    (hnone : (b.ring.groups.find? fun g => g.window == k && g.tag == leAt body 3 1 && g.src == src) = none) :
    b.groupIn src body = b.sendService src 0x25 ([leAt body 3 1, 4, 0, 0] ++ le 4 (leAt body 4 4)) := by
  unfold groupIn
  rw [← hk]
  extract_lets _ tag page answer _ es g s
  rw [if_neg (by omega), if_pos hset, show b.ring.groups.find? (fun g => g.window == k && g.tag == tag && g.src == src) = none from
    hnone]

end

theorem deliver_group {m : RingMsg} (h : m.typ = 0x24) (b : Block) (l : Nat) : b.deliver l m = b.groupIn m.src m.body := by
  rw [deliver, h]
  rfl

/-- A group applied by one device more. -/
def appliedBy (src : Nat) (g : RingOwn) : RingOwn := { g with applied := g.applied ++ [src], kept := g.kept || g.cancelling }

theorem appliedIn_known {b : Block} {src : Nat} {body : List Nat} {g : RingOwn} (hset : bit (leAt body 1 1) 1 = false)
    (hfound : b.ring.own.find? (fun g => g.tag == leAt body 0 1 && !(g.applied.contains src) &&
      (g.window != 1 || g.members.contains src)) = some g) :
    ∃ t : Block, b.appliedIn src body = t.groupSettle g.window ∧
      ∃ x ∈ t.ring.own, x.window = g.window ∧ x.applied = g.applied ++ [src] := by
  unfold appliedIn
  extract_lets tag fl
  rw [show b.ring.own.find? (fun g => g.tag == tag && !(g.applied.contains src) && (g.window != 1 || g.members.contains src)) =
    some g from hfound]
  dsimp only
  rw [show bit fl 1 = false from hset]
  refine ⟨_, rfl, appliedBy src g, ?_, rfl, rfl⟩
  have hmem : g ∈ (if bit fl 0 then b.set (uWindow g.window) F.COMMON.COMMIT_STAT_SKEW 1 else b).ring.own := by
    split <;> exact List.mem_of_find?_eq_some hfound
  refine List.mem_map.2 ⟨g, hmem, ?_⟩
  exact if_pos (beq_self_eq_true _)

end Block
end Sys2Proof.Machine

/-! # POSITION messages (R269, R567, R568) -/

namespace Sys2Proof.Machine

/-- A field of a slice of a message. -/
theorem leAt_slice (b : List Nat) {n m o k : Nat} (h : o + k ≤ m) : leAt ((b.drop n).take m) o k = leAt b (n + o) k := by
  unfold leAt
  rw [List.drop_take, List.take_take, List.drop_drop, Nat.min_eq_left (by omega)]

namespace Block

/-- The member's block as a POSITION message reaches it. -/
def posNoted (b : Block) (body : List Nat) : Block :=
  { b.set uRing F.RING.STAT_POS_OK 1 with
    ring := { b.ring with posAt := some b.lt }
    web := { b.web with
      pNow := sext 64 (leAt body 8 8) * 65536, vNow := sext 32 (leAt body 0x10 4) * 65536000
      acc := sext 32 (leAt body 0x14 4) * 65536000000, updatedAt := b.lt } }

/-- The position and speed received, shown. -/
def posShown (b : Block) (body : List Nat) : Block :=
  (((b.set uWeb F.WEB.POS_LO_VALUE (leAt body 8 4)).set uWeb F.WEB.POS_HI_VALUE (leAt body 12 4)).set
    uWeb F.WEB.SPEED_UM_S (leAt body 0x10 4)).set uWeb F.WEB.ACCEL_MM_S2 (leAt body 0x14 4)

/-- The observer's state received, shown. -/
def stateShown (b : Block) (st : Nat) : Block :=
  (((b.set uWeb F.WEB.STATE_OBS (bits st 2 0)).set uWeb F.WEB.STATE_DIR (bits st 4 3)).set
    uWeb F.WEB.STATE_TRIG_OK (bits st 5 5)).set uWeb F.WEB.STATE_POS_SUSPECT (bits st 6 6)

/-- The member's block with what a POSITION message reports. -/
def posReported (b : Block) (body : List Nat) : Block :=
  (((b.posNoted body).posShown body).stateShown (leAt body 0x18 1)).hwmUpdate.hwmReport

/-- The decisions of a POSITION message. -/
def posDecisions (b : Block) (body : List Nat) : List Decided :=
  (List.range (Nat.min 2 (leAt body 0x19 1))).map fun i => b.posDecision ((body.drop (28 + 40 * i)).take 40)

theorem positionIn_good {b : Block} {src : Nat} {body : List Nat} (hsrc : 4 ≤ b.web.src)
    (hvalid : b.on uRing F.RING.POSSRC_VALID = true) (hfrom : src = b.get uRing F.RING.POSSRC_ADDR)
    (hstate : bits (leAt body 0x18 1) 2 0 ≠ 4) :
    b.positionIn src body = ((((b.posReported body).posDecisions body).foldl posDecide (b.posReported body)).cutsSince
      (b.posReported body).trig.decided.length).marksDecide := by
  have hin : ¬(b.web.src < 4 ∨ b.on uRing F.RING.POSSRC_VALID = false ∨ src ≠ b.get uRing F.RING.POSSRC_ADDR) := by
    rw [hvalid]
    exact not_or.2 ⟨not_lt.2 hsrc, not_or.2 ⟨nofun, not_not.2 hfrom⟩⟩
  unfold positionIn
  rw [if_neg hin]
  extract_lets st was _ _ _ s₁ s₂ s₃ s₄ s₅ s₆ s₇ old ds
  have h₇ : s₇ = s₆ := if_neg fun h => hstate h.2
  show ((List.foldl posDecide s₇ (s₇.posDecisions body)).cutsSince s₇.trig.decided.length).marksDecide = _
  rw [h₇]
  rfl

theorem hwmUpdate_rest (b : Block) : b.hwmUpdate.regs = b.regs ∧ b.hwmUpdate.ring = b.ring ∧ b.hwmUpdate.trig = b.trig := by
  unfold hwmUpdate
  extract_lets st
  split <;> exact ⟨rfl, rfl, rfl⟩

/-- What the registers of the high-water mark leave. -/
theorem hwmReport_rest (b : Block) : b.hwmReport.ring = b.ring ∧ b.hwmReport.trig = b.trig ∧
    b.hwmReport.get uRing F.RING.STAT_POS_OK = b.get uRing F.RING.STAT_POS_OK ∧
    b.hwmReport.get uWeb F.WEB.POS_LO_VALUE = b.get uWeb F.WEB.POS_LO_VALUE := by
  unfold hwmReport
  split
  · exact ⟨rfl, rfl, rfl, rfl⟩
  · exact ⟨rfl, rfl, (get_set_apart _ (by decide) _).trans (get_set_apart _ (by decide) _),
      (get_set_apart _ (by decide) _).trans (get_set_apart _ (by decide) _)⟩

theorem posShown_rest (b : Block) (body : List Nat) : (b.posShown body).ring = b.ring ∧ (b.posShown body).trig = b.trig ∧
    (b.posShown body).get uRing F.RING.STAT_POS_OK = b.get uRing F.RING.STAT_POS_OK ∧
    (b.posShown body).get uWeb F.WEB.POS_LO_VALUE = leAt body 8 4 % 2 ^ 32 := by
  refine ⟨rfl, rfl, ?_, ?_⟩ <;> unfold posShown
  · iterate 4 rw [get_set_apart _ (by decide)]
  · iterate 3 rw [get_set_apart _ (by decide)]
    exact get_set_same b uWeb (by decide) _

theorem stateShown_rest (b : Block) (st : Nat) : (b.stateShown st).ring = b.ring ∧ (b.stateShown st).trig = b.trig ∧
    (b.stateShown st).get uRing F.RING.STAT_POS_OK = b.get uRing F.RING.STAT_POS_OK ∧
    (b.stateShown st).get uWeb F.WEB.POS_LO_VALUE = b.get uWeb F.WEB.POS_LO_VALUE := by
  refine ⟨rfl, rfl, ?_, ?_⟩ <;> unfold stateShown
  · iterate 4 rw [get_set_apart _ (by decide)]
  · iterate 4 rw [get_set_apart _ (by decide)]

theorem posReported_spec (b : Block) (body : List Nat) :
    (b.posReported body).ring.posAt = some b.lt ∧ (b.posReported body).on uRing F.RING.STAT_POS_OK = true ∧
      (b.posReported body).get uWeb F.WEB.POS_LO_VALUE = leAt body 8 4 % 2 ^ 32 ∧ (b.posReported body).trig = b.trig := by
  have hnoted : (b.posNoted body).get uRing F.RING.STAT_POS_OK = 1 := get_set_same b uRing (by decide) 1
  have hring : (b.posNoted body).ring.posAt = some b.lt := rfl
  have htrig : (b.posNoted body).trig = b.trig := rfl
  unfold posReported
  generalize b.posNoted body = t at hnoted hring htrig ⊢
  obtain ⟨hring₁, htrig₁, hok₁, hpos₁⟩ := posShown_rest t body
  generalize t.posShown body = t₁ at hring₁ htrig₁ hok₁ hpos₁ ⊢
  obtain ⟨hring₂, htrig₂, hok₂, hpos₂⟩ := stateShown_rest t₁ (leAt body 0x18 1)
  generalize t₁.stateShown (leAt body 0x18 1) = t₂ at hring₂ htrig₂ hok₂ hpos₂ ⊢
  obtain ⟨hregs, hring₃, htrig₃⟩ := hwmUpdate_rest t₂
  obtain ⟨hring₄, htrig₄, hok₄, hpos₄⟩ := hwmReport_rest t₂.hwmUpdate
  refine ⟨?_, on_of_get ?_, ?_, ?_⟩
  · rw [hring₄, hring₃, hring₂, hring₁, hring]
  · rw [hok₄, get_congr hregs, hok₂, hok₁, hnoted]
  · rw [hpos₄, get_congr hregs, hpos₂, hpos₁]
  · rw [htrig₄, htrig₃, htrig₂, htrig₁, htrig]

/-- A line decided that is not the first of its page. -/
theorem posDecide_later {b : Block} {d : Decided} (hlater : d.first = false) :
    (b.posDecide d).ring = b.ring ∧ (b.posDecide d).trig.decided = b.trig.decided ++ [d] ∧
      (b.posDecide d).web.line = (d.line + 1) % 2 ^ 48 := by
  unfold posDecide
  extract_lets late s₁ old s₂ s₃
  have h₁ : s₁.ring = b.ring ∧ s₁.trig = b.trig := by
    unfold s₁
    split
    · exact ⟨flag_ring .., flag_trig ..⟩
    · exact ⟨rfl, rfl⟩
  have h₂ : s₂ = s₁ := if_neg (ne_true_of_eq_false hlater)
  rw [if_neg (ne_true_of_eq_false hlater)]
  refine ⟨?_, ?_, rfl⟩
  · show s₂.ring = _
    rw [h₂, h₁.1]
  · show s₂.trig.decided ++ [d] = _
    rw [h₂, h₁.2]

/-- Nothing received counts any more. -/
def posDropped (b : Block) : Block := { b with ring := { b.ring with posAt := none }, trig := { b.trig with decided := [] } }

/-- No POSITION message has come, and the member's registers and firmware are told. -/
def posLost (b : Block) : Block :=
  (((b.posDropped.set uRing F.RING.STAT_POS_OK 0).set uWeb F.WEB.STATE_OBS 4).set uWeb F.WEB.STATE_TRIG_OK 0).flagRaise uRing
    F.RING.FLAGS_POS_LOST

theorem positionTimeout_due {b : Block} {x : Nat} (hpos : b.ring.posAt = some x) (hsrc : 4 ≤ b.web.src)
    (hdue : 20000 ≤ b.since x) : b.positionTimeout = b.posLost.axesWebFault := by
  unfold positionTimeout
  rw [hpos]
  exact if_neg (not_or.2 ⟨not_lt.2 hsrc, not_lt.2 hdue⟩)

theorem posLost_spec (b : Block) : b.posLost.ring.posAt = none ∧ b.posLost.trig.decided = [] ∧
    b.posLost.on uRing F.RING.STAT_POS_OK = false ∧ b.posLost.on uRing F.RING.FLAGS_POS_LOST = true := by
  have hok : b.posLost.get uRing F.RING.STAT_POS_OK = 0 := by
    refine (getI_flagRaise _ (by decide) (by decide) (by decide) (by decide) (by decide)).trans ?_
    refine (get_set_apart _ (by decide) _).trans ((get_set_apart _ (by decide) _).trans ?_)
    exact get_set_same _ uRing (by decide) 0
  refine ⟨congrArg RingSt.posAt (flagRaise_ring ..), congrArg TrigSt.decided (flagRaise_trig ..), ?_,
    on_of_get (get_flagRaise_same _ (by decide) (by decide) (by decide) (by decide) (by decide) (by decide))⟩
  rw [on_eq, hok]
  rfl

end Block
end Sys2Proof.Machine

/-! # The ring's links and messages (R542-R572) -/

namespace Sys2Proof.Machine
open Block

/-- Settles O60. The first SEQ of a link, credits and equal routes (log entry 7), how a ring-level commit travels (log entry 33)
and what becomes of the decisions of POSITION messages (log entry 71) are choices of the model. -/
theorem ringLinksAndMessages : Obligations.RingLinksAndMessages := by
  intro s dt l src dest body h2 hlen hl b taken here from_ addr lap
  have hup := h2.1
  have hin : l < b.ring.links.length := lt_of_lt_of_eq hl hlen.symm
  have htakes (h : taken) (typ : Nat) : b.linkTakes l typ = true := linkTakes_used hl h.1 h.2 typ
  have htold (h : taken) {typ : Nat} (htyp : [1, 2, 3, 4, 7, 8].contains typ = true) (hclass : (ringClass typ).isNone = false) :=
    typedIn_link (htakes h typ) htyp hclass src dest body
  have hhere (h : taken) (h' : here) {typ : Nat} (hclass : (ringClass typ).isNone = false) :=
    typedIn_here (htakes h typ) hclass h'.1 h'.2 src body
  refine ⟨?flitBad, ?flit, ?linkFail, ?reelStart, ?reel, ?uplSend, ?uplCredit, ?ident, ?enum, ?cutoff, ?result, ?retry, ?exchange,
    ?time, ?position, ?posTimeout, ?beaconSend, ?beacon, ?mailbox, ?access, ?answer, ?bulk, ?group, ?applied, ?event⟩
  case flitBad =>
    intro raw hu hbad
    exact ⟨_, hup.exec_next (exec_flitReceive ..) rfl, flitReceive_nak hl hin hu hbad⟩
  case flit =>
    intro raw d q hu hgood hack hcls hq
    subst hq
    refine ⟨fun hempty hseq => ⟨fun hpart => ?_, fun hlast hfirst => ?_⟩, fun i hfound hidle hseq => ?_⟩
    · exact ⟨_, hup.exec_next (exec_flitReceive ..) rfl, flitReceive_part hl hin hu hgood hack hempty hcls hseq hpart⟩
    · obtain ⟨t, ht, hrx, hout⟩ := flitReceive_whole hl hin hu hgood hack hempty hcls hseq hlast hfirst
      exact ⟨t, hup.exec_next (exec_flitReceive ..) ht, hrx, hout⟩
    · exact ⟨_, hup.exec_next (exec_flitReceive ..) rfl, flitReceive_ack hl hin hu hgood hack hfound hidle hseq⟩
  case linkFail =>
    intro hu hfail
    exact ⟨_, hup.exec_next (exec_linkFail ..) (linkFail_failing hl hu hfail), failCounted_spec b⟩
  case reelStart =>
    intro hrun hmerge
    refine ⟨fun hhome => ?_, fun hout => ?_⟩
    · exact ⟨_, _, h2.exec_next (exec_reelStart ..) (reelStart_home hrun hmerge hhome), lapActed_spec b⟩
    · exact ⟨_, h2.exec_next (exec_reelStart ..) (reelStart_out hrun hmerge hout), rfl, rfl, rfl, rfl⟩
  case reel =>
    intro h hrun hne hepoch
    have hexec {t : Block} (ht : b.reelIn l ⟨1, dest, 0x01, src % 0x4000, body⟩ = t) :
        exec (.reel dt l src dest body) s = .next ⟨s.pending, t⟩ :=
      hup.exec_next (exec_reel ..) ((htold h (by decide) (by decide)).trans ht)
    refine ⟨fun hmerge hseen => ?_, fun hmerge hseen => ?_, fun hmerge hwest hdue => ?_⟩
    · exact hexec (reelIn_seen hrun hne hepoch hmerge hseen)
    · obtain ⟨hes, hlaps, hfreedB, hfreedC⟩ := reelAct_spec (b.lapMet lap) (reelEntries body b.ringSize)
      exact ⟨_, _, hexec (reelIn_new hrun hne hepoch hmerge hseen), congrArg Prod.snd hlaps,
        hes.trans (length_reelEntries ..), hfreedB, hfreedC⟩
    · exact ⟨_, hexec (reelIn_home hrun hne hepoch hmerge hwest hdue), rfl, rfl, rfl, rfl⟩
  case uplSend =>
    intro hused
    obtain ⟨t, hsends, ht⟩ := uplCreditSend_used hused
    exact ⟨_, h2.exec_next (exec_uplCredit ..) ht, rfl, rfl, hsends.regs⟩
  case uplCredit =>
    intro hused hidle
    obtain ⟨hu, hlink⟩ := Bool.and_eq_true_iff.1 hused
    obtain ⟨hsends, huplq⟩ := uplRelease_spec (b.uplHeld body) (leAt body 4 1)
    have hcredit := hsends.ring RingSt.credit fun _ _ _ => rfl
    refine ⟨_, h2.exec_next (exec_uplCredit ..) ((typedIn_link (linkTakes_used (by decide) hu hlink _) (by decide) (by decide) _ _
      body).trans (uplCreditIn_idle hidle body)), ?_, ?_, huplq, hsends.regs⟩
    · rw [hcredit]
      exact lookupD_bindK ..
    · rw [hcredit]
      exact lookupD_bindK ..
  case ident =>
    intro hu
    have hexec {t : Block} (ht : b.identIn l body = t) : exec (.ident dt l src dest body) s = .next ⟨s.pending, t⟩ :=
      hup.exec_next (exec_ident ..) ((typedIn_link (linkTakes_ident hl hu) (by decide) (by decide) ..).trans ht)
    refine ⟨fun hupl => ?_, fun hne hident => ?_, fun hnone hdue => ?_⟩
    · subst hupl
      have hlink := link_setLink hin (identified (identOf body) (b.uplinkOk (identOf body)))
      refine ⟨_, hexec (identIn_uplink b body), ?_, (on_set_b2n _ _ (by decide) (by decide) _).trans ?_, ?_⟩
      · exact congrArg (fun k : RingLink => k.ident.map fun i => (i.deviceId, i.pos)) hlink
      · exact (congrArg RingLink.used hlink).symm
      · exact (congrArg RingLink.denied hlink).trans (congrArg (! ·) (congrArg RingLink.used hlink).symm)
    · obtain ⟨t, used, hring, ht⟩ := identIn_again (body := body) hne hident
      have hlink := link_setLink (b := t) (hring ▸ hin) (identified (identOf body) used)
      refine ⟨_, hexec ht, ?_, (on_set_b2n _ _ ?_ ?_ _).trans ?_, ?_⟩
      · exact congrArg (fun k : RingLink => k.ident.map fun i => (i.deviceId, i.pos)) hlink
      · exact (usedField_bits l).1
      · exact (usedField_bits l).2
      · exact (congrArg RingLink.used hlink).symm
      · exact (congrArg RingLink.denied hlink).trans (congrArg (! ·) (congrArg RingLink.used hlink).symm)
    · obtain ⟨t, hsends, ht⟩ := identResend_due hl hu hnone hdue
      have hlink := link_setLink (b := t) (hsends.length.symm ▸ hin) (identSent b.lt)
      exact ⟨_, h2.exec_next (exec_identResend ..) ht, congrArg RingLink.identAt hlink, hsends.regs⟩
  case enum =>
    intro h hrun hne hlevel hother
    obtain ⟨t, k, m, ht, hspec⟩ := enumIn_passes (b := b) (l := l) (m := ⟨1, dest, 0x02, src % 0x4000, body⟩) (by omega) hrun hlevel
      hother rfl
    exact ⟨t, k, m, hup.exec_next (exec_enum ..) ((htold h (by decide) (by decide)).trans ht), hspec⟩
  case cutoff =>
    intro x hhold henum hsent hins hdue
    exact ⟨_, h2.exec_next (exec_enumCutoff ..) (enumCutoff_due hhold henum hsent hins hdue), enumSend_sent b⟩
  case result =>
    intro h hrun hlevel hlive hnewer hother
    obtain ⟨t, hsends, ht⟩ := resultIn_newer (b := b) (l := l) (m := ⟨1, dest, 0x03, src % 0x4000, body⟩) hrun hlevel hlive hnewer
      hother
    exact ⟨t, hup.exec_next (exec_result ..) ((htold h (by decide) (by decide)).trans ht), hsends.regs⟩
  case retry =>
    intro x hretry hdue
    exact ⟨_, h2.exec_next (exec_insertRetry ..) (insertRetry_due hretry hdue), rfl, rfl⟩
  case exchange =>
    intro hused
    have hsends := timeExchange_used hl hused
    have hlink := link_setLink hin (exchanging (((b.link l).time.seq + 1) % 256) b.txStamp16)
    have htime := (hsends.time l).trans (congrArg RingLink.time hlink)
    exact ⟨_, h2.exec_next (exec_ringTimeExchange ..) rfl, congrArg LinkTime.seq htime, congrArg LinkTime.t1 htime, hsends.regs⟩
  case time =>
    intro h
    have hexec {t : Block} (ht : b.timeIn l body = t) : exec (.ringTime dt l src dest body) s = .next ⟨s.pending, t⟩ :=
      hup.exec_next (exec_ringTime ..) ((htold h (by decide) (by decide)).trans ht)
    refine ⟨fun hkind => hexec (timeIn_request hkind), fun hkind hseq => ?_⟩
    have hlink := link_setLink hin (answeredAt (b.rxStamp16 % 2 ^ 80))
    exact ⟨_, hexec (timeIn_answer hkind hseq), (congrArg (fun k : RingLink => k.time.t4) hlink).trans (answeredAt_t4 ..), rfl, rfl⟩
  case position =>
    intro h h' hsrc hvalid hfrom hstate
    obtain ⟨hposAt, hok, hpos, htrig⟩ := posReported_spec b body
    have hexec {t : Block} (ht : ((b.posReported body).posDecisions body).foldl posDecide (b.posReported body) = t) :
        exec (.position dt l src dest body) s = .next ⟨s.pending, (t.cutsSince b.trig.decided.length).marksDecide⟩ := by
      refine hup.exec_next (exec_position ..) ((hhere h h' (by decide)).trans ?_)
      refine (positionIn_good hsrc hvalid hfrom hstate).trans ?_
      rw [ht, htrig]
    refine ⟨fun hnone => ?_, fun hone hlater => ?_⟩
    · refine ⟨b.posReported body, hexec ?_, hposAt, hok, hpos, congrArg TrigSt.decided htrig⟩
      rw [posDecisions, hnone]
      rfl
    · have hfirst : ((b.posReported body).posDecision ((body.drop 28).take 40)).first = false :=
        (congrArg (bit · 0) (leAt_slice body (by decide))).trans hlater
      obtain ⟨-, hdecided, hline⟩ := posDecide_later (b := b.posReported body) hfirst
      rw [htrig] at hdecided
      refine ⟨_, _, hexec ?_, hdecided, leAt_slice body (by decide), leAt_slice body (by decide), hfirst, hline⟩
      rw [posDecisions, hone]
      rfl
  case posTimeout =>
    intro x hpos hsrc hdue
    exact ⟨_, hup.exec_next (exec_positionTimeout ..) (positionTimeout_due hpos hsrc hdue), posLost_spec b⟩
  case beaconSend =>
    intro hvalid hmerge
    exact h2.exec_next (exec_seqBeaconSend ..) (beaconSend_merging hvalid hmerge)
  case beacon =>
    intro h h' hnewer
    exact ⟨_, hup.exec_next (exec_seqBeacon ..) ((hhere h h' (by decide)).trans (deliver_beacon rfl (beaconIn_newer hnewer) l)),
      get_set_same b uRing (by decide) _, keepsRest_refl b⟩
  case mailbox =>
    intro h h' hroom
    exact ⟨_, peerOf from_ body, hup.exec_next (exec_ringMailbox ..) ((hhere h h' (by decide)).trans (mailboxIn_room hroom ..)),
      rfl, rfl, rfl⟩
  case access =>
    intro h h'
    exact ⟨fun hread => hup.exec_next (exec_sysaccReq ..) ((hhere h h' (by decide)).trans (sysReq_read hread _)),
      fun hwrite => hup.exec_next (exec_sysaccReq ..) ((hhere h h' (by decide)).trans (sysReq_write hwrite _))⟩
  case answer =>
    intro r h h' hfound
    exact hup.exec_next (exec_sysaccRsp ..) ((hhere h h' (by decide)).trans (remoteAnswer_found hfound ..))
  case bulk =>
    intro c a h h' ha
    subst ha
    have hexec {t : Block} (ht : b.bulkIn l (bulkMsg c src dest body) = t) :
        exec (.bulk dt l c src dest body) s = .next ⟨s.pending, t⟩ := by
      refine hup.exec_next (exec_bulk ..) (Eq.trans ?_ ht)
      cases c <;> exact hhere h h' (by decide)
    refine ⟨fun hop => ?_, fun hop => ?_, fun hop => ?_⟩
    · obtain ⟨t, d, bad, ht, hd⟩ := bulkIn_read (b := b) (l := l) (m := bulkMsg c src dest body) hop
      exact ⟨t, d, bad, hexec ht, hd⟩
    · obtain ⟨t, bad, ht⟩ := bulkIn_write (b := b) (l := l) (m := bulkMsg c src dest body) hop
      exact ⟨t, bad, hexec ht⟩
    · exact ⟨_, hexec (bulkIn_answer hop), rfl, rfl, rfl⟩
  case group =>
    intro k h h' hk hlo hhi
    have hexec {t : Block} (ht : b.groupIn from_ body = t) : exec (.commitGroup dt l src dest body) s = .next ⟨s.pending, t⟩ :=
      hup.exec_next (exec_commitGroup ..) ((hhere h h' (by decide)).trans ((deliver_group rfl ..).trans ht))
    refine ⟨fun hset hopen => ?_, fun hset hnone => hexec (groupIn_unknown hk hlo hhi hset hnone)⟩
    exact ⟨_, groupOf k from_ body, hexec (groupIn_joins hk hlo hhi hset hopen _), rfl, rfl, rfl, rfl, rfl, rfl⟩
  case applied =>
    intro g h h' hset hfound
    obtain ⟨t, ht, hx⟩ := appliedIn_known hset hfound
    exact ⟨t, hup.exec_next (exec_commitApplied ..) ((hhere h h' (by decide)).trans ht), hx⟩
  case event =>
    intro h h'
    exact hup.exec_next (exec_ringEvent ..) (hhere h h' (by decide))

end Sys2Proof.Machine
